-- ==== Sys2Proof/Word.lean ====
section
/-!
DEFINITION. The word types of the model (spec/00_scope.md R9: bytes, little-endian; a line is 64 bytes, a page 4 KiB).
-/
namespace Sys2Proof

/-- One byte. -/
abbrev Byte := BitVec 8

/-- A 64-bit register or memory word. -/
abbrev Word := BitVec 64

/-- The 512 data bits of a 64-byte line; byte i is bits [8i + 7:8i] (R9). -/
abbrev LineData := BitVec 512

/-- One bit per byte of a line: the bytes a write covers. -/
abbrev ByteMask := BitVec 64

/-- A finite map keyed by numbers: a list of pairs with rising keys (Machine/Maps.lean keeps the form). -/
abbrev AMap (α : Type) := List (Nat × α)

end Sys2Proof
end

