-- ==== Sys2Proof/Syntax.lean ====
section
/-!
DEFINITION. The commands of the ZK-1664: one constructor per row of spec/opcode_table.json, by family in the table's order, with
the operands that the row's rule names. A row that stands for a happening outside the device (a timer that runs out, a
read that returns, a pin that moves) carries what the environment shows the device there.
-/
namespace Sys2Proof

/-- The header of a CXL.mem request: link (R76 numbering), LD-ID, tag, destination PBR ID (R51), and whether the MAC of its IDE epoch
comes with it and holds (R53, R54). -/
structure MemHdr where
  link : Nat
  ld   : Nat
  tag  : Nat
  dpid : BitVec 12 := 0
  mac  : Bool := true
  deriving DecidableEq, Repr

/-- What a link brings with its training: the preset that the partner asks for on lanes (R36), the PBR ID that the fabric manager
has assigned (R51), the BI-ID that the upstream component has assigned (R44), and whether the partner takes L0p (R73) and ASPM L1
(R74). An ID that is none stays as it is. -/
structure LinkUp where
  presets : List (Nat × Nat) := []
  pbr     : Option (BitVec 12) := none
  biId    : Option Nat := none
  l0p     : Bool := true
  aspm    : Bool := true
  deriving DecidableEq, Repr

/-- The raw fields of a Pelmic instruction word but for its opcode (R304). Register fields keep their reserved bits. -/
structure PWord where
  imm   : BitVec 64 := 0
  mod   : BitVec 4 := 0
  dwin  : BitVec 6 := 0
  swin  : BitVec 6 := 0
  rc    : BitVec 8 := 0
  rb    : BitVec 8 := 0
  ra    : BitVec 8 := 0
  resv  : BitVec 4 := 0
  cls   : BitVec 4 := 0
  phase : Bool := false
  chain : Bool := false
  sig   : Bool := false
  fence : Bool := false
  fmt   : BitVec 4 := 0
  deriving DecidableEq, Repr

/-- The fields of an HDM decoder that a commit fixes (R40, R41). -/
structure DecoderCfg where
  base   : Nat
  size   : Nat
  ways   : Nat := 1
  gran   : Nat := 256
  skip   : Nat := 0
  typeDB : Bool := false
  lock   : Bool := false
  deriving DecidableEq, Repr

/-- What one read of a DRAM line shows beside the errors stored in it (R469): nothing more, one symbol in error, or no
reading that fits. -/
inductive ReadObs where
  | clean
  | symbol (dev : Nat)
  | uncorrectable
  deriving DecidableEq, Repr

/-- The first read of a line, the one re-read (R479), and the read-back after the poison codeword was written (R480). -/
structure LineObs where
  first    : ReadObs := .clean
  second   : ReadObs := .clean
  readBack : ReadObs := .clean
  deriving DecidableEq, Repr

/-- What a decompress unit shows for one sub-block and for its one re-read (R209): good, or malformed, mismatching or
uncorrectable; and what the read of the gallery's header shows (R210). -/
structure SubObs where
  firstOk  : Bool := true
  secondOk : Bool := true
  header   : LineObs := {}
  deriving DecidableEq, Repr

/-- What a hardware unit shows while it runs an instruction (R288): no fault, a fault cured by the retry, or a lasting
fault of the unit with that ID. -/
inductive HwObs where
  | ok
  | retryOk (unit : Nat)
  | lasting (unit : Nat)
  deriving DecidableEq, Repr

/-- A DIMM as its SPD shows it (R115, R116, R128). -/
structure Dimm where
  width    : Nat := 4
  checkDev : Nat := 2
  density  : Nat := 16
  pkgRanks : Nat := 1
  stack    : Nat := 1
  mrdimm   : Bool := false
  speed    : Nat := 8800
  trfc     : Nat := 160
  part     : Nat := 0
  maker    : BitVec 16 := 0
  serial   : BitVec 32 := 0
  deriving DecidableEq, Repr

/-- What training of one channel found (R140 to R145): the DIMM of each slot and the logical ranks that failed twice. -/
structure TrainReport where
  slot0    : Option Dimm := none
  slot1    : Option Dimm := none
  badRanks : List Nat := []
  deriving DecidableEq, Repr

/-- Who accesses a register of the device block: a logical device of a link (ld 16 is the FM-owned one), or the
management path or firmware (R606, R617). dpid is the destination PBR ID of the access (R51). -/
structure RegView where
  link : Nat := 0
  ld   : Nat := 0
  mgmt : Bool := false
  dpid : BitVec 12 := 0
  deriving DecidableEq, Repr

/-- The flags, address and data of a line message on an Evoil link (R426). -/
structure LineMsg where
  poison  : Bool := false
  zero    : Bool := false
  resent  : Bool := false
  rebuild : Bool := false
  tag     : Nat := 0
  grotto  : Nat := 0
  line    : Nat := 0
  seq     : BitVec 32 := 0
  data    : LineData := 0
  /-- The key that the data is sealed under on the link (R427); its tweak is that of the line. -/
  key     : BitVec 512 := 0
  deriving DecidableEq, Repr

/-- The messages of an Evoil link (R426, R442). The hello gives the far end's slot count, member code, pool ID, rope
partner, rope epoch and guest session. Guest data is the origin's ciphertext (R427), held with the key and tweak it is
sealed under. -/
inductive EvMsg where
  | mirrorLine (m : LineMsg)
  | mapChange (action count grotto page : Nat) (seq : BitVec 32)
  | placement (seq : BitVec 32)
  | ropeRead (whole : Bool) (tag grotto line : Nat)
  | ropeData (m : LineMsg)
  | guestRequest (tag : Nat)
  | guestGrant (refused : Bool) (tag : Nat) (handle : BitVec 33)
  | guestRelease (handle : BitVec 33)
  | guestWrite (poison zero : Bool) (tag : Nat) (handle : BitVec 33) (line : Nat) (data : LineData) (key : BitVec 512) (tweak : Nat)
  | guestRead (tag : Nat) (handle : BitVec 33) (line : Nat)
  | guestData (poison zero : Bool) (tag : Nat) (data : LineData) (key : BitVec 512) (tweak : Nat)
  | guestPlaced (tag : Nat)
  | hello (slots : Nat) (member : BitVec 16) (pool : Option (BitVec 12)) (ropePool : Option (BitVec 12)) (epoch session : BitVec 32)
  | ropeControl (action grotto committed elastic : Nat) (check0 check1 : BitVec 14)
  | handleList (last : Bool) (handles : List (BitVec 33))
  | reserved (kind : Nat)
  deriving DecidableEq, Repr

/-- A flit as it arrives (R424): whether its CRC holds, its header, whether its reserved bits are zero, its messages. -/
structure Flit where
  crcOk   : Bool := true
  kind    : Nat := 0
  nak     : Bool := false
  ack     : BitVec 12 := 0
  seq     : BitVec 12 := 0
  credit  : BitVec 12 := 0
  resvOk  : Bool := true
  msgs    : List EvMsg := []
  deriving DecidableEq, Repr

/-- A PLL (R551, R480): the core reference's own, a channel's, or a host port's. -/
inductive Pll where
  | core
  | channel (n : Nat)
  | flit (port : Nat)
  | evoil (port : Nat)
  deriving DecidableEq, Repr

/-- A bank of one subchannel of one rank (R539). -/
structure Bank where
  channel : Nat
  sub     : Nat
  rank    : Nat
  bg      : Nat
  bank    : Nat
  deriving DecidableEq, Repr

/-- The commands. DRAM_LINE_RETURN may name the bank queues whose next command met the DRAM timing limits when the read was picked (R123);
FIRMWARE_RELEASE the DIMMs that firmware finds by their SPD, channel by channel (R118, R144). Logical device 16 of a link is its FM-owned one. Queue n is numbered n for 1 to 8,191; queue 0 of port
Hp is numbered 8,192 + p. -/
inductive Instr where
  -- host CXL.mem and snoop responses
  | rds (h : MemHdr) (hpa : BitVec 64)
  | rde (h : MemHdr) (hpa : BitVec 64)
  | rdi (h : MemHdr) (hpa : BitVec 64)
  | wb (h : MemHdr) (hpa : BitVec 64) (data : LineData) (poison leaveS : Bool)
  | memclnevct (h : MemHdr) (hpa : BitVec 64)
  | wrnc (h : MemHdr) (hpa : BitVec 64) (mask : ByteMask) (data : LineData) (poison : Bool)
  | biconflict (h : MemHdr) (hpa : BitVec 64)
  | birspi (link ld tag : Nat) (dpid : BitVec 12 := 0)
  | birsps (link ld tag : Nat) (dpid : BitVec 12 := 0)
  | birspe (link ld tag : Nat) (dpid : BitVec 12 := 0)
  | snoopTimeout (link tag : Nat)
  | fenceSweepComplete (grotto src : Nat)
  -- host ports
  | perstNAssert (port : Nat) (halfB : Bool)
  | perstCleanupDone (link : Nat)
  | perstNRelease (port : Nat) (halfB : Bool)
  | hostLinkUp (link : Nat) (cxl : Bool) (rate width : Nat) (opts : LinkUp := {})
  | ideIntegrityFailure (link stream : Nat)
  | pmeTurnOff (link : Nat) (dpid : BitVec 12 := 0)
  | decoderCommit (link ld n : Nat) (cfg : DecoderCfg) (dpid : BitVec 12 := 0)
  | decoderUncommit (link ld n : Nat) (dpid : BitVec 12 := 0)
  | vectorUnmask (link ld k : Nat) (dpid : BitVec 12 := 0)
  -- mailbox
  | identify (link ld : Nat) (dpid : BitVec 12 := 0)
  | backgroundOperationStatus (link ld : Nat) (dpid : BitVec 12 := 0)
  | getEventRecords (link ld log : Nat) (dpid : BitVec 12 := 0)
  | clearEventRecords (link ld log count : Nat) (dpid : BitVec 12 := 0)
  | getEventInterruptPolicy (link ld : Nat) (dpid : BitVec 12 := 0)
  | setEventInterruptPolicy (link ld : Nat) (policy : BitVec 5) (dpid : BitVec 12 := 0)
  | identifyMemoryDevice (link ld : Nat) (dpid : BitVec 12 := 0)
  | getPoisonList (link ld dpa len : Nat) (dpid : BitVec 12 := 0)
  | injectPoison (link ld dpa : Nat) (dpid : BitVec 12 := 0)
  | clearPoison (link ld dpa : Nat) (data : LineData) (dpid : BitVec 12 := 0)
  | getScanMediaCapabilities (link ld dpa len : Nat) (dpid : BitVec 12 := 0)
  | scanMedia (link ld dpa len : Nat) (dpid : BitVec 12 := 0)
  | getScanMediaResults (link ld : Nat) (dpid : BitVec 12 := 0)
  | sanitize (link ld : Nat) (dpid : BitVec 12 := 0)
  | secureErase (link ld : Nat) (dpid : BitVec 12 := 0)
  | getDynamicCapacityConfiguration (link ld : Nat) (dpid : BitVec 12 := 0)
  | getDynamicCapacityExtentList (link ld first count : Nat) (dpid : BitVec 12 := 0)
  | addDynamicCapacityResponse (link ld : Nat) (extents : List (Nat × Nat)) (dpid : BitVec 12 := 0)
  | releaseDynamicCapacity (link ld dpa len : Nat) (dpid : BitVec 12 := 0)
  | unsupportedMailboxCommand (link ld : Nat) (opcode : BitVec 16) (dpid : BitVec 12 := 0)
  | mailboxResult (link ld : Nat)
  -- FM API
  | getLdInfo (link : Nat)
  | getLdAllocations (link : Nat)
  | setLdAllocations (link : Nat)
  | setLdOptions (link ld vectorBase vectorCount : Nat) (injectPoison : Bool)
  | setPoolId (id : BitVec 12) (ackUs creditUs : Nat)
  | submitInstructions (q : Nat) (words : List (BitVec 128)) (tail : BitVec 32)
  | getQueueStatus (q : Nat)
  | getCompletionRecords (q : Nat) (first : BitVec 32) (count : Nat)
  | setQueueRun (q : Nat) (run : Bool)
  | transferFirmware (offset : Nat) (bytes : List Byte)
  | activateFirmware (mode : Nat)
  | provisionFmRoot (hash : BitVec 256)
  | readDeviceRegister (off : Nat)
  | writeDeviceRegister (off : Nat) (value : Word)
  -- SPDM and IDE keys; channel 0 is I3C, channel 1 + L the DOE mailboxes of link L
  | getVersion (ch : Nat)
  | getCapabilities (ch : Nat)
  | negotiateAlgorithms (ch : Nat) (ok : Bool)
  | getDigests (ch : Nat)
  | getCertificate (ch slot offset len : Nat)
  | challenge (ch slot : Nat)
  | getMeasurements (ch index : Nat) (signed : Bool)
  | keyExchange (ch slot : Nat)
  | finish (ch sess : Nat) (rootHash : Option (BitVec 256))
  | heartbeat (ch sess : Nat)
  | keyUpdate (ch sess : Nat)
  | endSession (ch sess : Nat)
  | setWrappingKey (ch sess slot : Nat) (erase : Bool) (key : BitVec 256)
  | keyProg (ch sess link stream : Nat) (tx : Bool) (set : Nat) (key : BitVec 256)
  | kSetGo (ch sess link stream : Nat) (tx : Bool) (set : Nat) (skid : Bool := false)
  | kSetStop (ch sess link stream : Nat)
  -- registers
  | dbTailWrite (link ld off : Nat) (value : Word) (dpid : BitVec 12 := 0)
  | qRunSet (link ld off : Nat) (dpid : BitVec 12 := 0)
  | qRunClear (link ld off : Nat) (dpid : BitVec 12 := 0)
  | crConsumedWrite (link ld off : Nat) (value : Word) (dpid : BitVec 12 := 0)
  | faultConsumedWrite (v : RegView) (off : Nat) (value : Word)
  | faultStatusRead (v : RegView) (wide : Bool)
  | chFaultRead (v : RegView) (n : Nat) (wide : Bool)
  | evFaultRead (v : RegView) (n : Nat) (wide : Bool)
  | classStatusRead (v : RegView) (wide : Bool)
  | pwrRetainRead (v : RegView) (wide : Bool)
  | cntWrapRead (v : RegView) (j : Nat) (wide : Bool)
  | devTagWrite (v : RegView) (off : Nat) (value : Word)
  | cntClearAll (v : RegView)
  | cntClearRange (v : RegView) (first last : Nat)
  | cntChain (v : RegView) (first last : Nat)
  | cntUnchain (v : RegView) (first last : Nat)
  | cntSetMode (v : RegView) (saturating : Bool)
  | cntSetBandwidthWindow (v : RegView) (us : Nat)
  | cntSurvey (v : RegView)
  | registerWrite (v : RegView) (bar off size : Nat) (value : LineData)
  -- Pelmic instructions
  | nop (q : Nat) (w : PWord)
  | halt (q : Nat) (w : PWord)
  | fence (q : Nat) (w : PWord)
  | signal (q : Nat) (w : PWord)
  | branch (q : Nat) (w : PWord)
  | loop (q : Nat) (w : PWord)
  | wait (q : Nat) (w : PWord)
  | timer (q : Nat) (w : PWord)
  | seti (q : Nat) (w : PWord)
  | alu (q : Nat) (w : PWord)
  | load (q : Nat) (w : PWord)
  | store (q : Nat) (w : PWord)
  | copy (q : Nat) (w : PWord)
  | fill (q : Nat) (w : PWord)
  | zero (q : Nat) (w : PWord)
  | prefetch (q : Nat) (w : PWord)
  | migrate (q : Nat) (w : PWord)
  | spill (q : Nat) (w : PWord)
  | compress (q : Nat) (w : PWord)
  | decompress (q : Nat) (w : PWord)
  | check (q : Nat) (w : PWord)
  | hash (q : Nat) (w : PWord)
  | byteswap (q : Nat) (w : PWord)
  | scan (q : Nat) (w : PWord)
  | gather (q : Nat) (w : PWord)
  | scatter (q : Nat) (w : PWord)
  | probe (q : Nat) (w : PWord)
  | reduce (q : Nat) (w : PWord)
  | add (q : Nat) (w : PWord)
  | cas (q : Nat) (w : PWord)
  | swap (q : Nat) (w : PWord)
  | smin (q : Nat) (w : PWord)
  | umin (q : Nat) (w : PWord)
  | smax (q : Nat) (w : PWord)
  | umax (q : Nat) (w : PWord)
  | grottoWrite (q : Nat) (w : PWord)
  | grottoRead (q : Nat) (w : PWord)
  | grottoAttach (q : Nat) (w : PWord)
  | grottoDetach (q : Nat) (w : PWord)
  | grottoReturnToService (q : Nat) (w : PWord)
  | grottoOfferExtent (q : Nat) (w : PWord)
  | grottoDelete (q : Nat) (w : PWord)
  | queueWrite (q : Nat) (w : PWord)
  | queueDelete (q : Nat) (w : PWord)
  | queueRead (q : Nat) (w : PWord)
  | windowWrite (q : Nat) (w : PWord)
  | windowInvalidate (q : Nat) (w : PWord)
  | windowRead (q : Nat) (w : PWord)
  | keyloadLoad (q : Nat) (w : PWord)
  | keyloadErase (q : Nat) (w : PWord)
  | setclassWrite (q : Nat) (w : PWord)
  | setclassScrubReserve (q : Nat) (w : PWord)
  | setclassRead (q : Nat) (w : PWord)
  | ropeForm (q : Nat) (w : PWord)
  | ropeRemove (q : Nat) (w : PWord)
  | ropePermitSpill (q : Nat) (w : PWord)
  | ropeWithdrawSpill (q : Nat) (w : PWord)
  | ropeStartRebuild (q : Nat) (w : PWord)
  | policyDescriptor (q : Nat) (w : PWord)
  | policyGrottoEntry (q : Nat) (w : PWord)
  | policyLoadProgram (q : Nat) (w : PWord)
  | policySetLimits (q : Nat) (w : PWord)
  | policyReadLimits (q : Nat) (w : PWord)
  | powerDeepPermission (q : Nat) (w : PWord)
  | powerEnterDeep (q : Nat) (w : PWord)
  | powerCap (q : Nat) (w : PWord)
  | powerForwardBias (q : Nat) (w : PWord)
  | injectFlipMask (q : Nat) (w : PWord)
  | injectInvertedCheckBits (q : Nat) (w : PWord)
  | injectDisarm (q : Nat) (w : PWord)
  | survey (q : Nat) (w : PWord)
  | spare (q : Nat) (w : PWord)
  | record (q : Nat) (w : PWord)
  | illegalInstruction (q : Nat) (word : BitVec 128)
  -- queue events
  | contextBind (q : Nat)
  | contextYield (q : Nat)
  | tornReread (q : Nat)
  | instructionComplete (q : Nat) (pos : BitVec 32) (hw : HwObs)
  | progressRecordCommit (q : Nat)
  | timeLimit (q : Nat) (pos : BitVec 32)
  | waitTimeout (q : Nat) (pos : BitVec 32)
  | waitReread (q : Nat) (pos : BitVec 32)
  | waitDeadline (q : Nat) (pos : BitVec 32)
  | runPlacement (port : Nat)
  | firmwareSubmission (port : Nat) (words : List (BitVec 128))
  -- pages
  | mapFillReturn (lineIdx : Nat) (obs : LineObs)
  | dramLineReturn (channel frame line : Nat) (obs : LineObs) (ready : Option (List Nat) := none)
  | subBlockDecompressed (grotto page sub : Nat) (obs : SubObs)
  | softRepairComplete (channel : Nat) (effective : Bool)
  | promotionCommit (grotto page : Nat) (obs : List SubObs := [])
  | mapUpdateRecordCommit (grotto page : Nat) (obs : List SubObs := [])
  | recompressionWritesDone (grotto page : Nat)
  | frameWaitLimit (index : Nat)
  | zeroerFrameDone (channel frame : Nat)
  | extentOfferLapse (grotto dpa : Nat)
  -- channels
  | refreshDue (channel rank : Nat) (busy : Bool)
  | refreshFloorTrip (channel rank : Nat)
  | selfRefreshEntry (channel : Nat)
  | scrubOwedExit (channel : Nat)
  | recalibration (channel rank : Nat) (driftOk : Bool)
  | rankRetrainComplete (channel rank : Nat) (ok : Bool)
  | temperatureRead (channel : Nat) (celsius : Int) (fastRefresh : Bool)
  | caParityError (channel slot : Nat) (second : Bool)
  | trainingComplete (channel : Nat) (r : TrainReport)
  | crawlPassStart (channel : Nat)
  | crawlLine (channel frame line : Nat) (obs : LineObs)
  -- Flowstone
  | sweepLineVisit (lineIdx : Nat)
  | moveCopyDone (mover : Nat) (obs : List SubObs := []) (lines : List (Nat × LineObs) := [])
  | moveCommit (mover : Nat)
  | moveHoldDeadline (mover : Nat)
  -- classes and counters
  | classWindowEnd (backlogged late : BitVec 16) (many : List Nat := [])
  -- Evoil
  | flit (port : Nat) (f : Flit) (raw : List Byte := [])
  | nakIntervalExpiry (port : Nat)
  | ackTimeout (port : Nat)
  | retrainComplete (port : Nat)
  | retrainTimeout (port : Nat)
  | controlInterval (port : Nat)
  | creditTimeout (port : Nat)
  | liveness (port : Nat)
  | electricalIdleTimeout (port : Nat)
  | linkUpAttempt (port : Nat)
  | evoilLinkUp (port : Nat) (x4 : Bool)
  | hello (port : Nat)
  | mirrorLine (port : Nat)
  | mirrorMapChange (port : Nat)
  | placementReport (port : Nat)
  | ropeRead (port : Nat)
  | ropeReadData (port : Nat)
  | ropeControl (port : Nat)
  | guestRequest (port : Nat)
  | guestGrant (port : Nat)
  | guestRelease (port : Nat)
  | guestLineWrite (port : Nat)
  | guestLineRead (port : Nat)
  | guestLineData (port : Nat)
  | guestPlaced (port : Nat)
  | handleList (port : Nat)
  -- power, resets and boot
  | dieToDieCrcFailure (east second : Bool)
  | pllLossOfLock (pll : Pll) (second : Bool)
  | holdExit (lampTemp : Int) (refclk : Nat := 0)
  | bootComplete (failedCanaries : List Bank) (fixed : List (Bank × Nat) := [])
  | bootFromOff (refclk : Nat)
  | dimmPowerGoodDrop (channel slot : Nat)
  | lampDimmWatch (channel slot : Nat) (celsius : Int)
  | deepExitComplete (failedCanaries : List Bank) (fixed : List (Bank × Nat) := [])
  | lampAlarm (index : Nat)
  | powerEstimate (watts : Nat)
  | junctionSensorRead (celsius : Int)
  -- trust
  | cairnRecordWrite (type inst : Nat) (payload : List Byte) (readBackOk : Bool)
  | tapInstruction (code : Nat) (drivesOutputs : Bool)
  | hostLinkDown (link : Nat)
  -- happenings without operands, of every family
  | epochBoundary
  | pressureRunRepeat
  | budgetWindow
  | classPeriodEnd
  | bandwidthWindowEnd
  | surveyComplete
  | resetNAssert
  | holdReqNAssert
  | pwrWarnNAssert
  | thermalTrip
  | holdSequenceComplete
  | holdBackstop
  | mainRailLoss
  | reconciliationComplete
  | vddLampLoss
  | sramEnRaise
  | coreEnRaise
  | dozeEntry
  | wakeNAssert
  | deepEntry
  | deepEntryComplete
  | watchdogExpiry
  | watchdogRestart
  | cairnBlockErase
  | svnRaise
  | vddLampPowerOn
  | firmwareRelease (spd : List (Nat × Option Dimm × Option Dimm) := []) (lost : List Nat := [])
  | trstNRelease
  deriving DecidableEq, Repr

end Sys2Proof
end

