-- ==== Sys2Proof/Decode.lean ====
section
/-!
DEFINITION. The commands that words spell. Every row of spec/opcode_table.json has no bits, so no word spells a command
there. A Pelmic instruction is laid out in the 16 bytes of a ring slot by R304: encodePelmic lays it out, pelmicOf reads it.
-/
namespace Sys2Proof

/-- The command that a word of nbits spells by the table's bits: the table gives none. -/
def decodeTableWord (_nbits _w : Nat) : Option Instr := none

/-- The 128-bit word of an opcode and its fields, imm uppermost (R304). -/
def encodePelmic (op : BitVec 8) (w : PWord) : BitVec 128 :=
  w.imm ++ w.mod ++ w.dwin ++ w.swin ++ w.rc ++ w.rb ++ w.ra ++ w.resv ++ w.cls ++ BitVec.ofBool w.phase ++
    BitVec.ofBool w.chain ++ BitVec.ofBool w.sig ++ BitVec.ofBool w.fence ++ w.fmt ++ op

/-- The fields of a word (R304). -/
def fieldsOf (x : BitVec 128) : PWord := {
  imm := x.extractLsb' 64 64, mod := x.extractLsb' 60 4, dwin := x.extractLsb' 54 6, swin := x.extractLsb' 48 6,
  rc := x.extractLsb' 40 8, rb := x.extractLsb' 32 8, ra := x.extractLsb' 24 8, resv := x.extractLsb' 20 4,
  cls := x.extractLsb' 16 4, phase := x.getLsbD 15, chain := x.getLsbD 14, sig := x.getLsbD 13, fence := x.getLsbD 12,
  fmt := x.extractLsb' 8 4 }

/-- The opcode of a word (R304). -/
def opOf (x : BitVec 128) : BitVec 8 := x.extractLsb' 0 8

/-- The GROTTO action of a mod (R348). -/
def grottoRow (q : Nat) (x : BitVec 128) (w : PWord) : Instr :=
  match w.mod.toNat with
  | 0 => .grottoWrite q w
  | 1 => .grottoRead q w
  | 2 => .grottoAttach q w
  | 3 => .grottoDetach q w
  | 4 => .grottoReturnToService q w
  | 5 => .grottoOfferExtent q w
  | 6 => .grottoDelete q w
  | _ => .illegalInstruction q x

/-- One of a few actions by mod; a mod beyond them is illegal (R643). -/
def rowOf (q : Nat) (x : BitVec 128) (w : PWord) (rows : List (Nat → PWord → Instr)) : Instr :=
  match rows[w.mod.toNat]? with
  | some f => f q w
  | none => .illegalInstruction q x

/-- The instruction that a word holds, by the opcode map (R314) and the mods of format M (R643). -/
def pelmicOf (q : Nat) (x : BitVec 128) : Instr :=
  let w := fieldsOf x
  match (opOf x).toNat with
  | 0x00 => .nop q w
  | 0x01 => .halt q w
  | 0x02 => .fence q w
  | 0x03 => .signal q w
  | 0x04 => .branch q w
  | 0x05 => .loop q w
  | 0x06 => .wait q w
  | 0x07 => .timer q w
  | 0x08 => .seti q w
  | 0x09 => .alu q w
  | 0x0A => .load q w
  | 0x0B => .store q w
  | 0x20 => .copy q w
  | 0x21 => .fill q w
  | 0x22 => .zero q w
  | 0x23 => .prefetch q w
  | 0x24 => .migrate q w
  | 0x25 => .spill q w
  | 0x40 => .compress q w
  | 0x41 => .decompress q w
  | 0x42 => .check q w
  | 0x43 => .hash q w
  | 0x44 => .byteswap q w
  | 0x60 => .scan q w
  | 0x61 => .gather q w
  | 0x62 => .scatter q w
  | 0x63 => .probe q w
  | 0x64 => .reduce q w
  | 0x80 => .add q w
  | 0x81 => .cas q w
  | 0x82 => .swap q w
  | 0x83 => .smin q w
  | 0x84 => .umin q w
  | 0x85 => .smax q w
  | 0x86 => .umax q w
  | 0xC0 => grottoRow q x w
  | 0xC1 => rowOf q x w [.queueWrite, .queueDelete, .queueRead]
  | 0xC2 => rowOf q x w [.windowWrite, .windowInvalidate, .windowRead]
  | 0xC3 => rowOf q x w [.keyloadLoad, .keyloadErase]
  | 0xC4 => rowOf q x w [.setclassWrite, .setclassScrubReserve, .setclassRead]
  | 0xC5 => rowOf q x w [.ropeForm, .ropeRemove, .ropePermitSpill, .ropeWithdrawSpill, .ropeStartRebuild]
  | 0xC6 => rowOf q x w [.policyDescriptor, .policyGrottoEntry, .policyLoadProgram, .policySetLimits, .policyReadLimits]
  | 0xC7 => rowOf q x w [.powerDeepPermission, .powerEnterDeep, .powerCap, .powerForwardBias]
  | 0xC8 => rowOf q x w [.injectFlipMask, .injectInvertedCheckBits, .injectDisarm]
  | 0xC9 => rowOf q x w [.survey, .survey]
  | 0xCA => rowOf q x w [.spare]
  | 0xCB => .record q w
  | _ => .illegalInstruction q x

/-- The opcode, and for format M the mod, of a Pelmic command; a RECORD and a SURVEY keep their own mod. -/
def pelmicKey : Instr → Option (Nat × Nat × Option Nat × PWord)
  | .nop q w => some (q, 0x00, none, w)
  | .halt q w => some (q, 0x01, none, w)
  | .fence q w => some (q, 0x02, none, w)
  | .signal q w => some (q, 0x03, none, w)
  | .branch q w => some (q, 0x04, none, w)
  | .loop q w => some (q, 0x05, none, w)
  | .wait q w => some (q, 0x06, none, w)
  | .timer q w => some (q, 0x07, none, w)
  | .seti q w => some (q, 0x08, none, w)
  | .alu q w => some (q, 0x09, none, w)
  | .load q w => some (q, 0x0A, none, w)
  | .store q w => some (q, 0x0B, none, w)
  | .copy q w => some (q, 0x20, none, w)
  | .fill q w => some (q, 0x21, none, w)
  | .zero q w => some (q, 0x22, none, w)
  | .prefetch q w => some (q, 0x23, none, w)
  | .migrate q w => some (q, 0x24, none, w)
  | .spill q w => some (q, 0x25, none, w)
  | .compress q w => some (q, 0x40, none, w)
  | .decompress q w => some (q, 0x41, none, w)
  | .check q w => some (q, 0x42, none, w)
  | .hash q w => some (q, 0x43, none, w)
  | .byteswap q w => some (q, 0x44, none, w)
  | .scan q w => some (q, 0x60, none, w)
  | .gather q w => some (q, 0x61, none, w)
  | .scatter q w => some (q, 0x62, none, w)
  | .probe q w => some (q, 0x63, none, w)
  | .reduce q w => some (q, 0x64, none, w)
  | .add q w => some (q, 0x80, none, w)
  | .cas q w => some (q, 0x81, none, w)
  | .swap q w => some (q, 0x82, none, w)
  | .smin q w => some (q, 0x83, none, w)
  | .umin q w => some (q, 0x84, none, w)
  | .smax q w => some (q, 0x85, none, w)
  | .umax q w => some (q, 0x86, none, w)
  | .grottoWrite q w => some (q, 0xC0, some 0, w)
  | .grottoRead q w => some (q, 0xC0, some 1, w)
  | .grottoAttach q w => some (q, 0xC0, some 2, w)
  | .grottoDetach q w => some (q, 0xC0, some 3, w)
  | .grottoReturnToService q w => some (q, 0xC0, some 4, w)
  | .grottoOfferExtent q w => some (q, 0xC0, some 5, w)
  | .grottoDelete q w => some (q, 0xC0, some 6, w)
  | .queueWrite q w => some (q, 0xC1, some 0, w)
  | .queueDelete q w => some (q, 0xC1, some 1, w)
  | .queueRead q w => some (q, 0xC1, some 2, w)
  | .windowWrite q w => some (q, 0xC2, some 0, w)
  | .windowInvalidate q w => some (q, 0xC2, some 1, w)
  | .windowRead q w => some (q, 0xC2, some 2, w)
  | .keyloadLoad q w => some (q, 0xC3, some 0, w)
  | .keyloadErase q w => some (q, 0xC3, some 1, w)
  | .setclassWrite q w => some (q, 0xC4, some 0, w)
  | .setclassScrubReserve q w => some (q, 0xC4, some 1, w)
  | .setclassRead q w => some (q, 0xC4, some 2, w)
  | .ropeForm q w => some (q, 0xC5, some 0, w)
  | .ropeRemove q w => some (q, 0xC5, some 1, w)
  | .ropePermitSpill q w => some (q, 0xC5, some 2, w)
  | .ropeWithdrawSpill q w => some (q, 0xC5, some 3, w)
  | .ropeStartRebuild q w => some (q, 0xC5, some 4, w)
  | .policyDescriptor q w => some (q, 0xC6, some 0, w)
  | .policyGrottoEntry q w => some (q, 0xC6, some 1, w)
  | .policyLoadProgram q w => some (q, 0xC6, some 2, w)
  | .policySetLimits q w => some (q, 0xC6, some 3, w)
  | .policyReadLimits q w => some (q, 0xC6, some 4, w)
  | .powerDeepPermission q w => some (q, 0xC7, some 0, w)
  | .powerEnterDeep q w => some (q, 0xC7, some 1, w)
  | .powerCap q w => some (q, 0xC7, some 2, w)
  | .powerForwardBias q w => some (q, 0xC7, some 3, w)
  | .injectFlipMask q w => some (q, 0xC8, some 0, w)
  | .injectInvertedCheckBits q w => some (q, 0xC8, some 1, w)
  | .injectDisarm q w => some (q, 0xC8, some 2, w)
  | .survey q w => some (q, 0xC9, none, w)
  | .spare q w => some (q, 0xCA, some 0, w)
  | .record q w => some (q, 0xCB, none, w)
  | _ => none

/-- Whether the fields of a Pelmic command belong to its row: the mod of its action, and 0 or 1 for SURVEY. -/
def pelmicFits (i : Instr) : Bool :=
  match pelmicKey i with
  | some (_, op, some m, w) => w.mod.toNat == m && op != 0
  | some (_, 0xC9, none, w) => decide (w.mod.toNat ≤ 1)
  | some _ => true
  | none => false

/-- The word of a Pelmic command; none for another command. -/
def pelmicWord (i : Instr) : Option (BitVec 128) :=
  match pelmicKey i with
  | some (_, op, _, w) => some (encodePelmic (BitVec.ofNat 8 op) w)
  | none => none

end Sys2Proof
end

