-- ==== Sys2Proof/Config.lean ====
section
/-!
DEFINITION. The values that the spec leaves open. Each is an opaque constant: nothing can be proved of its value.
-/
namespace Sys2Proof.Config

/-- The k-th free choice the machine draws (log 3). -/
opaque free : Nat → Nat

/-- The data field of a message that carries a poisoned line whose bytes no rule gives, by the k-th such message. -/
opaque freeLine : Nat → LineData

/-- What a line with errors in three or more symbols reads as, by the k-th such read (R467 makes no promise). -/
opaque threeSymbols : Nat → Option LineData

/-- The eight check bits of a 64-bit word of the SEC-DED code (R158 does not give its matrix). -/
opaque secDed : BitVec 64 → BitVec 8

/-- The hash of three bytes that the match search of the family's compressor uses (R221, R222: not published). -/
opaque lzHash : List Byte → Nat

/-- The tokens, with their run and match bytes, that the family's compressor writes for the literals and the matches (length and
offset) that its search found: which kinds, and where literal runs end (R222: not published). -/
opaque nativeTokens : List (Byte ⊕ (Nat × Nat)) → List Byte

/-- The DEFLATE stream and the Zstandard frame that the family's compressor makes of what its search found: block boundaries, block
types and code tables (R222: not published). -/
opaque deflate : List (Byte ⊕ (Nat × Nat)) → List Byte
opaque zstdFrame : List (Byte ⊕ (Nat × Nat)) → List Byte

/-- What a stream job of format 1 to 4 makes of its input (R225; those standards are outside the spec): from format, level,
resume state, input and the bytes of output space left, the input consumed, the output, and the bytes of the save area. -/
opaque streamEncode : Nat → Nat → List Byte → List Byte → Nat → Nat × List Byte × List Byte

/-- The same for decompression, from format, resume state, dictionary, input and space: input consumed, output, outcome
(0 done, 1 output full, 2 input short, 3 format error, 4 check mismatch), stored and computed check values, save area. -/
opaque streamDecode : Nat → List Byte → List Byte → List Byte → Nat → Nat × List Byte × Nat × Nat × Nat × List Byte

/-- The check value over bytes that a restarted native job has not seen (R232). -/
opaque resumedCheck : List Byte → Nat

/-- The sign and fraction of the NaN that an addition of two values yields (R384 gives no bits). -/
opaque nanFraction : Word → Word → Nat

/-- The pattern that a training leaves in a line of the training frames (R141 gives none), by training and line. -/
opaque trainPattern : Nat → Nat → LineData

/-- The payload of a channel's training record and of a repair map (R143, R150 give no layout), by the k-th such record written. -/
opaque channelRecord : Nat → List Byte
opaque repairRecord : Nat → List Byte

/-- Random bits drawn by the generator of R581, by draw number. -/
opaque drbg : Nat → BitVec 512

/-- The SHA-256 of the built-in policy program, whose text is not given (R579). -/
opaque builtinDigest : BitVec 256

/-- The digests of R579 whose input bytes no rule lays out: 0 the ROM, 1 the fuse fields, 2 slot, svn, fw_version and root,
3 the records of types 1, 6 and 7; by the values that go in. -/
opaque digest : Nat → List Nat → BitVec 256

/-- The bytes of the flash as they left manufacture: slot and offset in it (R562 gives the layout, not the images). -/
opaque flashByte : Nat → Nat → Byte

/-- The identity certificate and its chain to the manufacturing root, as the manufacturing region holds them (R589 does not lay them out),
by the identity public key that the certificate carries. -/
opaque identityChain : List Byte → List Byte

/-- The bytes that an SPDM answer signs (R595 leaves the transcript to the standard), by the leaf that signs them. -/
opaque transcript : Nat → List Byte

/-- The code that the adaptive supply asks of a rail's regulator (R629, R630 give no rule): rail and tick of Lamp time. -/
opaque vidAsked : Nat → Nat → Nat

/-- The check bits C(d) of the DRAM code, a function internal to the device (R467). -/
opaque checkBits : LineData → BitVec 128

/-- The soft repairs that the payload of a repair-map record names (R569 gives no layout), each a device of a bank group (R150). -/
opaque repairMap : List Byte → List Nat

end Sys2Proof.Config
end

