-- ==== Sys2Proof/Machine/State.lean ====
section
/-!
DEFINITION. The state of the ZK-1664 as plain data. Each piece names the rule of spec/ that gives it. State.reset is the
first entry to BOOT from OFF (R12). Frame numbers are channel × 2^28 + index (R85), line keys grotto × 2^39 + line, page
keys grotto × 2^33 + page, DRAM line keys frame × 64 + line.
-/
namespace Sys2Proof.Machine

/-- How a run could stop: no command does. -/
inductive Fault where
  /-- Raised by no command: every command of this block answers a next state. Safe. -/
  | unreachable
  deriving DecidableEq, Repr

/-- How a command could be refused. -/
inductive Refusal where
  /-- Raised by the arm of a command that has no meaning yet. Safe. -/
  | notModelled (mnemonic : String)
  deriving DecidableEq, Repr

/-- Device modes (R523). -/
inductive Mode where
  | off | boot | run | doze | deep | hold
  deriving DecidableEq, Repr

/-! ## Messages the device sends (log 2) -/

/-- Back-invalidate kinds (R162). -/
inductive SnpKind where
  | cur | data | inv
  deriving DecidableEq, Repr

/-- How a mailbox or FM API command completes. -/
inductive CmdCode where
  | success | background | unsupported | invalidInput | internalError | busy | invalidExtentList | physicalAddress | injectLimit
  | payloadLength
  deriving DecidableEq, Repr

/-- What a message that leaves the device says. -/
inductive Msg where
  /-- CXL.mem data response: data and poison bit; metaE: granted exclusive (R162). -/
  | memData (h : MemHdr) (data : LineData) (poison : Bool) (metaE : Bool)
  /-- CXL.mem completion of a write. -/
  | memCmp (h : MemHdr)
  /-- Back-invalidate snoop with the BI-ID of the link, its BI tag and HPA (R44). -/
  | snoop (link ld : Nat) (kind : SnpKind) (biId tag : Nat) (hpa : Nat)
  /-- BIConflictAck (R46). -/
  | conflictAck (h : MemHdr) (hpa : BitVec 64)
  /-- CXL.io memory write of the device's own (R292). -/
  | hostWrite (link ld : Nat) (addr : Nat) (bytes : List Byte)
  /-- MSI-X message on a link vector (R57). -/
  | msix (link vector : Nat)
  /-- Register read data (R606). -/
  | regData (v : RegView) (value : Word)
  /-- A poisoned completion of a register read (R472). -/
  | regPoison (v : RegView)
  /-- Mailbox result (R62): code and payload fields. -/
  | mbox (link ld : Nat) (code : CmdCode) (payload : List Nat)
  /-- FM API answer (R267). -/
  | fm (code : CmdCode) (payload : List Nat)
  /-- SPDM or IDE_KM answer on a channel (R595): its fields, and the certificate bytes, digest or signature that it carries (R589). -/
  | spdm (ch : Nat) (ok : Bool) (payload : List Nat) (bytes : List Byte := [])
  /-- A flit on an Evoil port (R424): kind, seq, ack, credit, nak, messages. -/
  | flit (port kind seq ack credit : Nat) (nak : Bool) (msgs : List EvMsg)
  /-- PME_TO_Ack (R75). -/
  | pmeToAck (link : Nat)
  /-- An answer of firmware to TAP or flash work (R564). -/
  | flash (ok : Bool) (type inst : Nat)
  deriving DecidableEq, Repr

/-- The link through which a message leaves, where it is one. -/
def Msg.link? : Msg → Option Nat
  | .memData h .. | .memCmp h | .conflictAck h _ => some h.link
  | .snoop l .. | .hostWrite l .. | .msix l _ | .mbox l .. | .pmeToAck l => some l
  | .regData v _ | .regPoison v => if v.mgmt then none else some v.link
  | .fm .. | .spdm .. | .flit .. | .flash .. => none

/-- A message that leaves the device, with the PBR ID of its link as source, where the link has one (R51). -/
structure Out where
  msg    : Msg
  source : Option (BitVec 12) := none
  deriving DecidableEq, Repr

/-! ## Requests -/

/-- Who sent a request, and so who is answered. -/
inductive Who where
  | host (h : MemHdr)
  | engine (q : Nat) (pos : BitVec 32)
  | rope (port : Nat) (seq : BitVec 32)
  | ropeRead (port tag : Nat)
  | mbox (link ld : Nat)
  | quiet
  deriving DecidableEq, Repr

/-- What a request asks of its line (R162). -/
inductive Op where
  | readS
  | readE
  | readI
  /-- WrNC or EWr; the mask gives the bytes. -/
  | write (mask : ByteMask) (data : LineData) (poison : Bool)
  /-- A dirty line on its way to its page (R190, R220). -/
  | victim (data : LineData) (poison : Bool)
  /-- A host's writeback and its clean-eviction notice. -/
  | wb (data : LineData) (poison leaveS : Bool)
  | clean
  /-- An internal read that skips the directory (R175). -/
  | readStale
  /-- An atomic takes its line (R171, R172). -/
  | atomic
  /-- A map change that returns so many pages to unbacked, from the page of the line on (R100, R447). -/
  | unback (n : Nat)
  /-- A message of an instruction to a neighbour or the partner. -/
  | again
  deriving DecidableEq, Repr

/-- A request for one line, with its source number (R159) and class label (R497). -/
structure Req where
  who  : Who
  src  : Nat
  g    : Nat
  line : Nat
  op   : Op
  cls  : Nat := 0
  deriving DecidableEq, Repr

/-! ## DRAM lines (13) -/

/-- A line of DRAM: which codeword it is, what it was sealed under, its content, and the devices in error (R466, R469). -/
inductive Codeword where
  | data | zero | poison
  deriving DecidableEq, Repr

structure DLine where
  kind  : Codeword := .zero
  key   : BitVec 512 := 0
  tweak : Nat := 0
  data  : LineData := 0
  errs  : List Nat := []
  deriving DecidableEq, Repr

/-! ## Home slices (05) -/

/-- A near-cache line (R191). badWords: words with an uncorrectable error; fixWords: with a correctable one. -/
structure NcLine where
  data     : LineData
  dirty    : Bool := false
  poison   : Bool := false
  cls      : Nat := 0
  badWords : BitVec 8 := 0
  fixWords : BitVec 8 := 0
  deriving DecidableEq, Repr

/-- Directory states (R158); I is absence (R160). -/
inductive DirState where
  | S | E | B | D
  deriving DecidableEq, Repr

/-- A tracker (R164): the state before the round, what answers left, the request that caused it, those parked. -/
structure Tracker where
  priorE   : Bool := false
  prior    : List Nat := []
  priorBc  : Bool := false
  leftS    : List Nat := []
  leftE    : Option Nat := none
  cause    : Option Req := none
  evict    : Bool := false
  parked   : List Req := []
  owner    : Nat := 0
  deriving DecidableEq, Repr

/-- A directory entry (R158): sharers are source numbers (R159), at most four; E has one. -/
structure DirEntry where
  st      : DirState
  sharers : List Nat := []
  bcast   : Bool := false
  track   : Tracker := {}
  errBits : Nat := 0
  deriving DecidableEq, Repr

/-- A back-invalidate (R45, R642): tag none while it waits for the link's limit. -/
structure Snoop where
  link   : Nat
  ld     : Nat
  tag    : Option Nat
  g      : Nat
  line   : Nat
  kind   : SnpKind
  resent : Bool := false
  deriving DecidableEq, Repr

/-- The way of an entry in its set, and whether it has been used since the marks of the set were last cleared (R93, R176, R190;
DESIGN CHOICE, log 97). -/
structure Age where
  way  : Nat := 0
  used : Bool := false
  deriving DecidableEq, Repr

/-- The home slices together: near cache, directory, snoops, and what waits ahead of the arbiters. -/
structure Slices where
  nc       : AMap NcLine := []
  dir      : AMap DirEntry := []
  /-- Ways and ages of the two arrays' entries, by line key. -/
  ncAge    : AMap Age := []
  dirAge   : AMap Age := []
  /-- Keys of dirty near-cache lines in the order in which they became dirty, and directory sets, slice × 16,384 + set, by their last
  allocation (R532). -/
  dirtied  : List Nat := []
  setAge   : List Nat := []
  snoops   : List Snoop := []
  slotWait : List Req := []
  /-- Lines whose lock an atomic of an HDM-H grotto holds (R172), with the queue and position. -/
  locks    : List (Nat × Nat × BitVec 32) := []
  sweeps   : List (Nat × Nat) := []
  /-- Requests to take up again within the same command: 0 new, 1 resumed, 2 granted, 3 held
  since its grant. Empty between commands. -/
  resume   : List (Nat × Req) := []
  /-- A directory image saved with an unknown entry (R188). -/
  unknown  : Bool := false
  /-- The directory image in the reserved region (R192, R194): its lines of eight entries in slice, set and way order, sealed under key
  ID 0, and the occupied sets, slice × 16,384 + set (R528). -/
  image    : AMap DLine := []
  occupied : List Nat := []
  /-- The directory is in its image alone, the array being off (R528, R532). -/
  saved    : Bool := false
  deriving DecidableEq, Repr

/-! ## Page map and pages (03, 06, 07) -/

/-- A map-cache block: the heat bytes of its eight entries not yet written back (R93, R95). -/
structure MapBlock where
  grotto : Nat
  heats  : List (BitVec 8)
  deriving DecidableEq, Repr

/-- An outstanding map fill and the requests that joined it (R94). -/
structure Fill where
  lineIdx : Nat
  waiting : List Req
  deriving DecidableEq, Repr

/-- A sub-block descriptor of a gallery header, field by field (R198): mode 0 compressed, 1 zero. -/
structure SubDesc where
  mode      : Nat := 1
  count     : Nat := 0
  length    : Nat := 0
  chained   : Bool := false
  reserved  : Nat := 0
  sumpFirst : Nat := 0
  first     : Nat := 0
  deriving DecidableEq, Repr

/-- A gallery header, field by field (R198). A gallery itself stands in DRAM: the header in its slot, the streams in their sectors. -/
structure Header where
  poison  : BitVec 64 := 0
  magic   : Nat := 0xC7
  version : Nat := 1
  gen     : BitVec 8
  level   : Nat
  primary : Nat
  sump    : Nat := 0
  page    : Nat
  descs   : List SubDesc
  deriving DecidableEq, Repr

/-- A heap frame (R196): owner, sectors in data use, header slots used by sector. -/
structure HeapFrame where
  grotto : Nat
  data   : BitVec 8 := 0
  heads  : AMap (BitVec 8) := []
  deriving DecidableEq, Repr

/-- A promotion in progress (R212) with the requests that wait with it (R213), in arbiter order. -/
structure Promo where
  g     : Nat
  page  : Nat
  frame : Nat
  src   : Nat
  held  : List Req
  deriving DecidableEq, Repr

/-- An in-place recompression (R214): what its map-update record holds (the new header, the new stream, its sump sectors), the
sub-block's lines as merged, the sump sectors of the stream it replaces, the merged writes, and later requests. -/
structure Recomp where
  g         : Nat
  page      : Nat
  loc       : Nat
  sub       : Nat
  committed : Bool := false
  header    : Header
  stream    : List Byte
  sumps     : List Nat := []
  lines     : List LineData
  old       : List Nat := []
  merged    : List Req
  later     : List Req := []
  deriving DecidableEq, Repr

/-- Kinds of move (table of moves, 07). -/
inductive MoveKind where
  | promote | demote | rewrite | relocate | spill
  deriving DecidableEq, Repr

/-- Where a move takes the page. -/
inductive Dst where
  | frame (f : Nat)
  | gallery (ch : Nat) (sectors : List Nat) (head : Nat)
  | guest (port : Nat) (handle : Option (BitVec 33))
  deriving DecidableEq, Repr

/-- A move in flight, one per mover (R250): who issued it, phase 2 to 4, dirty mask and copy rounds (R251), held requests. -/
structure Move where
  mover  : Nat
  issuer : Option (Nat × BitVec 32)
  kind   : MoveKind
  g      : Nat
  page   : Nat
  dst    : Dst
  phase  : Nat := 2
  dirty  : BitVec 64 := 0
  rounds : Nat := 0
  held   : List Req := []
  /-- The gallery that the copy made: its header and the streams of its sub-blocks. -/
  image  : Option (Header × List (List Byte)) := none
  acks   : Nat := 0
  /-- A run of the built-in policy program issued it (R243). -/
  policy : Bool := false
  deriving DecidableEq, Repr

/-- Why a planned move stands: the built-in policy program issued it, Flowstone demotes on its own while writes wait for frames (R243),
or compaction (R248). -/
inductive PlanWhy where
  | policy | pressure | compaction
  deriving DecidableEq, Repr

/-- A move that no instruction issued and that waits for a mover: forced, or the built-in policy's (R248, R417). -/
structure Plan where
  kind : MoveKind
  g    : Nat
  page : Nat
  gen  : BitVec 8
  chan : Option Nat := none
  port : Nat := 0
  forced : Bool := false
  why : PlanWhy := .policy
  deriving DecidableEq, Repr

/-- A read outstanding at a channel (R469): its place in the order of arrival, how many row hits have passed it (R124), and, once a younger
write has been accepted for its line, the line as the read is to see it (R125). -/
structure DRead where
  frame  : Nat
  line   : Nat
  req    : Req
  seq    : Nat := 0
  passed : Nat := 0
  seen   : Option DLine := none
  deriving DecidableEq, Repr

/-- A write that a channel has accepted and not yet issued (R126). The line's content is in Mem.dram from its acceptance on. -/
structure DWrite where
  frame  : Nat
  line   : Nat
  cls    : Nat
  seq    : Nat
  passed : Nat := 0
  deriving DecidableEq, Repr

/-- A read of a warm line waiting for its sub-block (R207). -/
structure SRead where
  g    : Nat
  page : Nat
  sub  : Nat
  req  : Req
  deriving DecidableEq, Repr

/-- A request waiting for a neighbour (R261) or the rope partner (R457). -/
structure FarReq where
  port : Nat
  tag  : Nat
  /-- true: the answer is a placement; false: it is data. -/
  place : Bool := false
  rope : Bool := false
  page : Option (Nat × Nat) := none
  req  : Req
  deriving DecidableEq, Repr

/-- The page map, its cache, and everything pages are made of. -/
structure Pages where
  /-- Page-map entries (R83, R85), by index in the page-map area; an absent one is unbacked. In DRAM eight of them form a reserved-region
  line under key ID 0 (R84). -/
  area     : AMap Word := []
  cache    : AMap MapBlock := []
  /-- Ways and ages of the map-cache blocks, by page-map line (R93). -/
  mapAge   : AMap Age := []
  fills    : List Fill := []
  mapWait  : List Req := []
  heaps    : AMap HeapFrame := []
  sump     : List Nat := []
  promos   : List Promo := []
  recomps  : List Recomp := []
  moves    : List Move := []
  plans    : List Plan := []
  dreads   : List DRead := []
  dwrites  : List DWrite := []
  /-- Arrival number of the next request of a channel. -/
  dseq     : Nat := 0
  sreads   : List SRead := []
  fars     : List FarReq := []
  /-- Lines delivered to instructions and mailbox programs that have not used them yet, by reader and line: data, poison. -/
  farBuf   : AMap (LineData × Bool) := []
  frameWait : List Req := []
  creditWait : List Req := []
  slicePtr : Nat := 0
  /-- Frames whose page moved on and that reads still use (R250). -/
  dying    : List Nat := []
  /-- Writes of mirrored grottos that wait for a placement report: port, sequence, request (R450). -/
  mirrorWait : List (Nat × BitVec 32 × Req) := []
  deriving DecidableEq, Repr

/-- The frame pools of a channel (R97): indexes zeroed, and pending as half-open intervals. -/
structure Pool where
  zeroed  : List Nat := []
  pending : List (Nat × Nat) := []
  deriving DecidableEq, Repr

/-- DRAM content and frame accounting (03). -/
structure Mem where
  dram     : AMap DLine := []
  /-- Reserved-region lines that programs reach, by their number, sealed under key ID 0 (R84); an absent line is zero (log 7). -/
  resv     : AMap DLine := []
  pools    : AMap Pool := []
  retired  : List Nat := []
  lost     : Nat := 0
  /-- Frames that no committed entry names and that reconciliation has not reached (R90). -/
  unrecon  : List Nat := []
  ceiling  : Nat := 0
  phys     : Nat := 0
  /-- The populated channels over which the reserved region was spread when memory was laid out (R82). -/
  resvChans : List Nat := []
  guests   : AMap Nat := []
  /-- The reconciliation sweep of a fast boot is under way (R90). -/
  recon    : Bool := false
  deriving DecidableEq, Repr

/-! ## Grottos (03) -/

/-- An attachment (R38, R39, R182). -/
structure Attach where
  link   : Nat
  ld     : Nat
  base   : Nat
  fenced : Bool := false
  deriving DecidableEq, Repr

/-- A grotto record (R76) with its attachments, extents (R48, in 256 MiB blocks of the grotto) and policy entry (R245). -/
structure Grotto where
  state     : Nat := 0
  db        : Bool := false
  mirror    : Bool := false
  cls       : Nat := 0
  keyId     : Nat := 0
  ownerLink : Nat := 0
  ownerLd   : Nat := 0
  chanMask  : BitVec 16 := 0
  committed : Nat := 0
  coverage  : Nat := 100
  elasticMax : Nat := 0
  mapBase   : Nat := 0
  elasticKeyId : Nat := 0
  held      : Nat := 0
  heldCh    : AMap Nat := []
  allocPtr  : Nat := 0
  attaches  : List Attach := []
  offered   : List (Nat × Nat) := []
  accepted  : List (Nat × Nat) := []
  releaseAsked : List (Nat × Nat) := []
  discarded : Bool := false
  level     : Nat := 3
  spillMode : Nat := 1
  coldMark  : Nat := 4
  farMark   : Nat := 0
  hotMark   : Nat := 32
  /-- A mirror copy (R447): its reserve is counted at 100 % coverage. -/
  copy      : Bool := false
  deriving DecidableEq, Repr

/-! ## DRAM channels (04) -/

/-- A soft repair under way (R149). -/
structure Repair where
  frame : Nat
  line  : Nat
  dev   : Nat
  deriving DecidableEq, Repr

/-- A channel: the registers of R154 and the bookkeeping of 04. -/
structure Chan where
  state   : Nat := 0
  sub     : Nat := 0
  slot0   : Option Dimm := none
  slot1   : Option Dimm := none
  in0     : Bool := false
  in1     : Bool := false
  ranks   : Nat := 0
  ranksOut : List Nat := []
  speed   : Nat := 0
  trfc    : Nat := 0
  interval : Nat := 1950
  hot     : Bool := false
  hotNext : Option Bool := none
  cool    : Nat := 0
  over95  : Bool := false
  owed    : AMap Nat := []
  fault   : BitVec 8 := 0
  scrub   : Nat := 1
  frames  : Nat := 0
  retrain : List (Nat × Nat) := []
  repair  : Option Repair := none
  /-- Repairs decided while one is under way (R149: one repair buffer). -/
  repairNext : List Repair := []
  /-- The scheduler: open row of each bank (subchannel × 512 + bank queue), the rotating pointer over the bank queues, whether writes are
  being drained, and the queues in in-order mode with the arrival number of the matching read (R123 to R126). -/
  rows    : AMap Nat := []
  ptr     : Nat := 0
  drain   : Bool := false
  inOrder : AMap Nat := []
  /-- The last training that wrote its patterns into the training frames (R141), by number of draw. -/
  patterns : Option Nat := none
  usedRepair : List Nat := []
  softRun : Nat := 0
  softBoot : Nat := 0
  hardMade : Nat := 0
  hardUsed : List Nat := []
  owedWork : Bool := false
  crawling : Bool := false
  crawlDone : Nat := 0
  crawlStart : Option Nat := none
  recordOk : Bool := false
  /-- The SPD identities that the Cairn record holds (R143, R144). -/
  spd     : Option Dimm × Option Dimm := (none, none)
  lostBanks : List Bank := []
  /-- Lines of lost banks that a write reached ahead of the sweep, at most 4,096 (R542), and those that the sweep has done. -/
  cleanLines : List Nat := []
  swept   : List Nat := []
  canaries : Option Nat := none
  /-- A crawl pass starts at the next RUN (R540). -/
  crawlDue : Bool := false
  temp : Int := 0
  /-- Full training has dealt with the channel in this BOOT (R140). -/
  checked : Bool := false
  deriving DecidableEq, Repr

/-! ## Faults (13) -/

/-- A fault record (R488). -/
structure FaultRec where
  fine  : Nat
  lamp  : Nat
  code  : Nat
  cls   : Nat
  att   : Nat
  akind : Nat
  grotto : Option Nat
  seq   : Nat
  unit  : Nat
  addr  : Nat
  detail : Nat
  deriving DecidableEq, Repr

/-- A test feature armed on a unit (R356): word, flip mask with check mask, or none for inverted check bits. -/
structure Armed where
  unit : Nat
  word : Nat
  flip : Option (Word × Word)
  deriving DecidableEq, Repr

/-- The fault block (R492) and what lies behind it. -/
structure Faults where
  status  : BitVec 8 := 0
  hist    : List FaultRec := []
  total   : BitVec 32 := 0
  consumed : BitVec 32 := 0
  overwritten : Nat := 0
  dropped : Nat := 0
  lastTick : Nat := 0
  fine    : Nat := 0
  armed   : List Armed := []
  /-- Registers that a flip mask left in error: offset in the device block and bits in error (R472). -/
  arrays  : List (Nat × Nat) := []
  fenced  : List Nat := []
  /-- Number of the first record that the fault log of the Cairn store does not have (R490). -/
  spilled : BitVec 32 := 0
  deriving DecidableEq, Repr

/-! ## Counters and classes (14) -/

/-- The counter block (R510, R522). -/
structure Counters where
  cnt    : AMap Nat := []
  hold   : AMap Nat := []
  wrap   : List Nat := []
  chain  : List Nat := []
  sat    : Bool := false
  window : Nat := 1000
  nextWindow : Nat := 1000
  seq    : BitVec 32 := 0
  time   : Nat := 0
  /-- Device time of the broadcast under way (R520). -/
  surveyAt : Nat := 0
  pendingSurvey : Bool := false
  merged : Bool := false
  bwSeq  : BitVec 32 := 0
  bw     : AMap (Nat × Nat) := []
  /-- Values at the start of the window: data counters of links, line counts of channels, flit counts of ports. -/
  base   : AMap Nat := []
  evOut  : AMap Nat := []
  evIn   : AMap Nat := []
  chRead : AMap Nat := []
  chWrite : AMap Nat := []
  deriving DecidableEq, Repr

/-- A bandwidth class (R499) with its accounting (R500 to R509). -/
structure QClass where
  guar   : Nat := 0
  prio   : Nat := 1
  target : Nat := 0
  thresh : Nat := 1023
  limit  : Nat := 1000000
  notify : Bool := false
  nLd    : Nat := 0
  nLink  : Nat := 0
  vector : Nat := 0
  eff    : Nat := 0
  /-- Effective guarantee that the budget of the window under way was taken from (R505). -/
  cur    : Nat := 0
  charged : Nat := 0
  missedN : Nat := 0
  missed : Bool := false
  atRisk : Bool := false
  deriving DecidableEq, Repr

structure Qos where
  classes : AMap QClass := []
  windows : Nat := 0
  /-- Deliverable bandwidth published (R21), 0.25 GB/s units. -/
  bw      : Nat := 0
  /-- Scrub reserve used in the window by channel, bytes (R501). -/
  scrubUsed : AMap Nat := []
  deriving DecidableEq, Repr

/-! ## Host links and logical devices (02) -/

/-- An IDE stream direction (R598): two key sets, the one in use, insecure mark. -/
structure IdeDir where
  set0 : Option (BitVec 256) := none
  set1 : Option (BitVec 256) := none
  inUse : Option Nat := none
  deriving DecidableEq, Repr

structure IdeStream where
  rx : IdeDir := {}
  tx : IdeDir := {}
  insecure : Bool := false
  deriving DecidableEq, Repr

/-- A host link (R32 to R35, R44, R51). -/
structure Link where
  up      : Bool := false
  cxl     : Bool := false
  rate    : Nat := 0
  width   : Nat := 0
  narrow  : Bool := false
  biOn    : Bool := false
  biId    : Nat := 0
  pbr     : Option (BitVec 12) := none
  perst   : Bool := false
  cleanup : Bool := false
  /-- Lines that the cleanup under way has poisoned (R69). -/
  poisoned : Nat := 0
  /-- PME_TO_Ack has been sent: the link waits for PERST_N (R75). -/
  pme     : Bool := false
  /-- Transmitter presets in force by lane (R36); one that is not listed is at preset 0. -/
  presets : AMap Nat := []
  /-- The partner takes L0p (R73), and both have enabled ASPM L1 (R74); the link is in L1. -/
  l0p     : Bool := true
  aspm    : Bool := true
  inL1    : Bool := false
  cacheIde : IdeStream := {}
  ioIde   : IdeStream := {}
  macError : Bool := false
  /-- The CXL.cachemem stream is in skid mode, not containment (R53, R54), and the messages whose MAC is still to come. -/
  skid    : Bool := false
  epoch   : List Instr := []
  deriving DecidableEq, Repr

/-- A host port: split in force and as recorded in the Cairn store (R32). -/
structure Port where
  split    : Bool := false
  recorded : Bool := false
  deriving DecidableEq, Repr

/-- An HDM decoder (R40, R41, R610). -/
structure Decoder where
  base  : Word := 0
  size  : Word := 0
  ways  : Nat := 1
  gran  : Nat := 256
  skip  : Nat := 0
  typeDB : Bool := false
  locked : Bool := false
  lockOnCommit : Bool := false
  committed : Bool := false
  error : Bool := false
  position : Option Nat := none
  deriving DecidableEq, Repr

/-- Record types of the event logs (R65). -/
inductive LogKind where
  | generalMedia | dramEvent | memoryModule | addCapacity | releaseCapacity | capacityReleased
  deriving DecidableEq, Repr

/-- A record of an event log (R65): the fault record or happening, its type, and for a memory error its transaction type, 0 where it is not
known, and its DPA where that is known. An extent has its start as DPA, its length, its tag and its sequence (R47). -/
structure LogRec where
  kind  : LogKind
  fault : FaultRec
  trans : Nat := 0
  dpa   : Option Nat := none
  len   : Nat := 0
  tag   : Nat := 0
  seq   : Nat := 0
  deriving DecidableEq, Repr

/-- A CXL event log (R66). -/
structure EvLog where
  recs  : List LogRec := []
  overflow : Nat := 0
  first : Nat := 0
  last  : Nat := 0
  deriving DecidableEq, Repr

/-- A run of poisoned lines in a poison list (R477): first DPA line, lines, source 1 External 2 Internal 3 Injected. -/
structure PoisonRec where
  dpaLine : Nat
  count   : Nat
  source  : Nat
  deriving DecidableEq, Repr

/-- A logical device (R38 to R66). -/
structure Ld where
  decoders : AMap Decoder := []
  vecBase  : Option Nat := none
  vecCount : Nat := 128
  injectOk : Bool := false
  msixOn   : Bool := false
  unmasked : List Nat := []
  pendVec  : List Nat := []
  table    : AMap (Word × Word) := []
  logs     : AMap EvLog := []
  policy   : BitVec 5 := 0
  /-- The command whose result is ready, with its code and payload (R26, R62). -/
  mbox     : Option (Instr × CmdCode × List Nat) := none
  /-- The command that holds the mailbox and waits; whether its first phase is done. -/
  mboxWait : Option (Instr × Bool) := none
  /-- The background command that runs, frames that it waits for, its retire pointer and how much it does in all (R65; lines or frames),
  and the last one that ended: opcode and code (R62, R65). -/
  background : Option Instr := none
  bgFrames : Option (List Nat) := none
  bgAt     : Nat := 0
  bgAll    : Nat := 0
  bgDone   : Option (Nat × CmdCode) := none
  /-- Poisoned lines that the last media scan found: DPA and length in bytes. -/
  scan     : List (Nat × Nat) := []
  poison   : List PoisonRec := []
  poisonOver : Bool := false
  poisonTime : Nat := 0
  deriving DecidableEq, Repr

/-! ## Queues (08) -/

/-- A queue record (R268). -/
structure QRec where
  crHost  : Bool := false
  grotto  : Nat := 0
  cls     : Nat := 0
  ringOrder : Nat := 6
  crOrder : Nat := 0
  vector  : Nat := 0
  ringBase : Nat := 0
  crBase  : Nat := 0
  classMask : BitVec 16 := 0
  deriving DecidableEq, Repr

/-- A window descriptor (R277). -/
structure Window where
  grotto : Nat := 0
  kind   : Nat := 0
  read   : Bool := false
  write  : Bool := false
  atomic : Bool := false
  base   : Nat := 0
  length : Nat := 0
  deriving DecidableEq, Repr

/-- What an instruction leaves (R291): status, the result words that its rule names, register writes with poison marks. -/
structure Result where
  status : Nat := 0
  r0     : Option Word := none
  r1     : Option Word := none
  r2     : Option Word := none
  regs   : List (Nat × Word × Bool) := []
  /-- What its unit's counters add when it completes (R510): amounts by counter of a unit, or the home slice of an atomic. -/
  work   : List Nat := []
  deriving DecidableEq, Repr

/-- Where an issued instruction stands: its effect waits, is applied, has completed, or its record is on its way. -/
inductive IState where
  | waiting | applied | completed | recorded
  deriving DecidableEq, Repr

/-- What an instruction that waits keeps of its decode: the windows as they were (R277), and the bytes of its third operand (R306). -/
structure Decoded where
  windows : AMap Window
  third   : List (Byte × Bool) := []
  /-- The checks of decode steps 4 to 8 have passed. -/
  passed  : Bool := true
  deriving DecidableEq, Repr

/-- An issued instruction that has not retired (R282). -/
structure Issued where
  pos    : BitVec 32
  word   : PWord
  opcode : Nat
  iter   : Nat := 0
  state  : IState := .applied
  res    : Result := {}
  journ  : Bool := false
  /-- Lamp tick of its issue, from which its class time limit runs (R286, R527). -/
  since  : Nat := 0
  decoded : Option Decoded := none
  deriving DecidableEq, Repr

/-- A completion record that is not yet written (R290, R293). -/
structure RecPend where
  count  : BitVec 32
  pos    : BitVec 32
  status : Nat
  opcode : Nat
  r0     : Word
  r1     : Word
  r2     : Word
  irq    : Bool
  deriving DecidableEq, Repr

/-- A journal entry (R299), uncommitted ones being absent. -/
structure JEntry where
  pos    : BitVec 32
  iter   : Nat
  rec?   : Option RecPend
  regs   : List (Nat × Word × Bool)
  irq    : Bool
  /-- The record was written at its count (R301). -/
  sent   : Bool := false
  deriving DecidableEq, Repr

/-- One copy of a progress record (R297); the loop is start, distance and iteration. -/
structure Progress where
  seq     : BitVec 32 := 0
  retire  : BitVec 32 := 0
  tail    : BitVec 32 := 0
  written : BitVec 32 := 0
  consumed : BitVec 32 := 0
  loop    : Option (BitVec 32 × Nat) := none
  iter    : Nat := 0
  state   : Nat := 0
  regs    : AMap Word := []
  marks   : BitVec 32 := 0
  committed : Bool := false
  deriving DecidableEq, Repr

/-- Who placed a run in a queue 0 (R266). -/
inductive Writer where
  | dispatcher (link ld : Nat)
  | flowstone
  | firmware
  deriving DecidableEq, Repr

/-- A run: its writer, words, and once placed its first position. -/
structure Run where
  writer : Writer
  words  : List (BitVec 128)
  start  : BitVec 32 := 0
  deriving DecidableEq, Repr

/-- A queue (R268, R272, R283, R297). -/
structure Queue where
  recd    : QRec := {}
  tail    : BitVec 32 := 0
  head    : BitVec 32 := 0
  retired : BitVec 32 := 0
  commit  : BitVec 32 := 0
  consumed : BitVec 32 := 0
  written : BitVec 32 := 0
  state   : Nat := 1
  stopStatus : Nat := 0
  stopPos : BitVec 32 := 0
  run     : Bool := true
  crFull  : Bool := false
  tornWait : Bool := false
  torn    : Nat := 0
  regs    : AMap Word := []
  marks   : BitVec 32 := 0
  loop    : Option (BitVec 32 × Nat) := none
  iter    : Nat := 0
  issued  : List Issued := []
  recs    : List RecPend := []
  progA   : Progress := {}
  progB   : Progress := {}
  dirty   : Bool := false
  journal : AMap JEntry := []
  ctx     : Option Nat := none
  windows : AMap Window := []
  stopping : Option (Nat × BitVec 32) := none
  /-- Tail at the port reset: what was accepted before it still runs (R70). -/
  resetTail : BitVec 32 := 0
  deriving DecidableEq, Repr

/-- All queues, the contexts (R289) and the runs of queue 0. -/
structure Queues where
  qs      : AMap Queue := []
  ctxPtr  : Nat := 0
  /-- Instructions that hold a unit (R224, R360): kind of unit, queue, position; and the rotating pointers of the three arbiters. -/
  units   : List (Nat × Nat × BitVec 32) := []
  cuPtr   : Nat := 0
  duPtr   : Nat := 0
  suPtr   : Nat := 0
  /-- Queue 0 of each port: rotating pointer, runs waiting, runs placed (R266). -/
  q0Ptr   : AMap Nat := []
  q0Wait  : AMap (List Run) := []
  q0Runs  : AMap (List Run) := []
  /-- Completion rings in the reserved region: records by queue × 256 + slot (R267). -/
  fmRecs  : AMap (BitVec 256) := []
  deriving DecidableEq, Repr

/-! ## Flowstone (07) -/

structure Flow where
  epochMs  : Nat := 1000
  shift    : Nat := 1
  readW    : Nat := 1
  writeW   : Nat := 2
  cls      : Nat := 0
  sweepBud : Nat := 32
  migBud   : Nat := 64
  spillBud : Nat := 32
  quota0   : Nat := 0
  quota1   : Nat := 0
  epoch    : BitVec 32 := 0
  roundK   : Nat := 1
  sweepPos : Nat := 0
  promote  : List (BitVec 64) := []
  demote   : List (BitVec 64) := []
  spill    : List (BitVec 64) := []
  dropP    : Nat := 0
  dropD    : Nat := 0
  dropS    : Nat := 0
  histo    : AMap Nat := []
  /-- The closed lists and summary that a policy run reads (R241, R245). -/
  closedP  : List (BitVec 64) := []
  closedD  : List (BitVec 64) := []
  closedS  : List (BitVec 64) := []
  summary  : List Nat := []
  program  : List (BitVec 128) := []
  builtin  : Bool := true
  progFault : Bool := false
  running  : Bool := false
  pressureAt : Option Nat := none
  reason   : Nat := 0
  /-- Policy entries as last written, by grotto, records or not (R245). -/
  entries  : AMap Word := []
  /-- MR4, which hardware extends (R579). -/
  measure  : BitVec 256 := 0
  /-- Epochs since the round began (R240). -/
  roundAge : Nat := 0
  /-- Bytes spent in the 1 µs window by the sweep, the movers and the spill traffic of each port (R249). -/
  sweepUsed : Nat := 0
  migUsed  : Nat := 0
  spillUsed0 : Nat := 0
  spillUsed1 : Nat := 0
  -- device limits of POLICY mod 3 (R354)
  biTimeout : Nat := 10
  frameLimit : Nat := 40
  watermark : Nat := 4
  idleTime : Nat := 100
  /-- The device asks for capacity until S exceeds the watermark by 1 % of P (R106). -/
  asking   : Bool := false
  deriving DecidableEq, Repr

/-! ## Evoil (12) -/

/-- An Evoil port (R422 to R442, R463). -/
structure EvPort where
  state   : Nat := 0
  narrow  : Bool := false
  nextSeq : BitVec 12 := 0
  expect  : BitVec 12 := 0
  unacked : BitVec 12 := 0
  freed   : BitVec 12 := 0
  limit   : BitVec 12 := 0
  /-- Echo buffer: messages of each flit from U on, with its failure count (R435). -/
  echo    : List (List EvMsg × Nat) := []
  txq     : List EvMsg := []
  /-- Flits accepted whose messages are not yet handled. -/
  rxq     : List (List EvMsg) := []
  nakSent : Bool := false
  retrains : Nat := 0
  /-- The flit that must be acknowledged for the retrain to succeed (R440). -/
  retrainCause : Option (BitVec 12) := none
  /-- Mirror messages received, in order, and whether each is placed (R451). -/
  placing : List (BitVec 32 × Bool) := []
  /-- Mirror messages not yet placed of each flit whose messages are handled, and of the flit at hand (R436). -/
  held    : List (List (BitVec 32)) := []
  cur     : List (BitVec 32) := []
  /-- Handles of the handle list under way (R263). -/
  handles : List (BitVec 33) := []
  helloSent : Bool := false
  helloGot : Bool := false
  peerMember : BitVec 16 := 0
  peerPool : Option (BitVec 12) := none
  peerRope : Option (BitVec 12) := none
  peerEpoch : BitVec 32 := 0
  peerSession : BitVec 32 := 0
  fault   : BitVec 8 := 0
  spillOk : Bool := false
  spillPool : BitVec 12 := 0
  session : BitVec 32 := 0
  nextTag : Nat := 0
  deriving DecidableEq, Repr

/-- A page being rebuilt from the partner (R457), with the requests that wait for it. -/
structure Rebuilt where
  g     : Nat
  page  : Nat
  port  : Nat
  frame : Option Nat := none
  got   : BitVec 64 := 0
  /-- Whether its rope read has been sent: at most 32 a port at a time (R457). -/
  sent    : Bool := true
  /-- Only a sub-block of its gallery is unreadable (R209): the rest stays if the partner is lost. -/
  partly  : Bool := false
  waiting : List Req := []
  deriving DecidableEq, Repr

/-- The rope (R445 to R460). State as EV_ROPE gives it: 0 none, 1 synced, 2 rebuilding, 3 alone (R463). -/
structure Rope where
  state   : Nat := 0
  port    : Nat := 0
  both    : Bool := false
  partner : BitVec 12 := 0
  epoch   : BitVec 32 := 0
  /-- Primaries paired, and mirror copies held here with the epoch at which each was complete. -/
  paired  : List Nat := []
  copies  : AMap (BitVec 32) := []
  next    : BitVec 32 := 0
  /-- Mirror messages sent and not reported placed, in sequence order (R452, R453): port, sequence, message. -/
  unplaced : List (Nat × BitVec 32 × EvMsg) := []
  /-- Receiver: highest sequence placed from each port (R453). -/
  rx0     : Option (BitVec 32) := none
  rx1     : Option (BitVec 32) := none
  /-- Divergence map (R456): marked 2 MiB regions of device offset, and its epoch. -/
  marks   : List Nat := []
  markEpoch : BitVec 32 := 0
  /-- The rope was synced when it last broke (R458). -/
  wasSynced : Bool := false
  /-- Primaries whose copies were complete when it broke (R458). -/
  broke   : List Nat := []
  /-- Rebuilds of grottos under way: grotto and last sequence sent (R460). -/
  rebuilds : List (Nat × BitVec 32) := []
  /-- Grottos and pages whose lines a rebuild has yet to send (R450, R459). -/
  todo    : List (Nat × Nat) := []
  /-- The port that carries the whole rope since the other one went down (R453), until a rebuild ends (R460). -/
  carrier : Option Nat := none
  pages   : List Rebuilt := []
  /-- Formation under way (R446): answers still awaited, the issuing queue and position. -/
  forming : Option (Nat × Nat × BitVec 32) := none
  /-- Grottos paired in the formation at hand (R446). -/
  mask    : BitVec 64 := 0
  deriving DecidableEq, Repr

structure Evoil where
  p0      : EvPort := {}
  p1      : EvPort := {}
  pool    : Option (BitVec 12) := none
  ackUs   : Nat := 4
  creditUs : Nat := 200
  rope    : Rope := {}
  deriving DecidableEq, Repr

/-! ## Power, Lamp domain and pins (15, 18) -/

/-- A comparator of the Lamp domain (R550). -/
structure LampAlarm where
  armed : Bool := false
  tick  : Nat := 0
  deriving DecidableEq, Repr

structure Power where
  mode     : Mode := .boot
  ticks    : Nat := 0
  lampOn   : Bool := true
  crystal  : Bool := true
  sramEn   : Bool := true
  coreEn   : Bool := true
  trstHigh : Bool := false
  rails    : Bool := true
  resetLow : Bool := false
  retention : Bool := false
  incomplete : Bool := false
  lastTrig : Nat := 7
  bootKind : Nat := 0
  /-- The HOLD sequence: 0 not running, 1 cut drawn and sequence running, 2 complete. -/
  holdSeq  : Nat := 0
  lockout  : Bool := false
  /-- HOLD was entered from BOOT, so the retention flag stays as it is (R535). -/
  fromBoot : Bool := false
  runTick  : Nat := 0
  latch    : Option (Nat × Nat) := none
  wakeSrc  : Nat := 0
  wakeReplayed : Bool := false
  wakeDetail : Nat := 0
  wakeTick : Nat := 0
  /-- Banks that became lost at the last exit from self-refresh (R559). -/
  lostWake : Nat := 0
  retPg    : Bool := false
  retTemp  : Bool := false
  retCanary : Bool := false
  retHold  : Bool := false
  junction : Nat := 0
  lampTemp : Nat := 0
  deepOk   : Bool := false
  fwdOk    : Bool := false
  fwdOn    : Bool := false
  throttle : Nat := 0
  cap      : Nat := 300
  /-- Issue withheld for the junction, in eighths, and forward bias withheld until 100 °C (R544, R546). -/
  hotLimit : Nat := 0
  biasHot  : Bool := false
  estimate : Nat := 0
  alarms   : AMap LampAlarm := []
  entries  : Nat := 0
  /-- 0 none, 1 the DEEP entry is under way, 2 its exit. -/
  entering : Nat := 0
  deepIssuer : Option (Nat × BitVec 32) := none
  refclk   : Nat := 0
  /-- No FATAL fault has been raised in this BOOT (R480). -/
  bootOk  : Bool := true
  pgDropped : List (Nat × Nat) := []
  /-- FATAL records waiting to be copied to the event logs after the fast boot (R65). -/
  fatalRecs : List FaultRec := []
  /-- TAP instruction in force (R639): BYPASS is 255. -/
  tap      : Nat := 255
  tapDrives : Bool := false
  deriving DecidableEq, Repr

/-! ## Boot, trust and keys (16) -/

/-- A Cairn record (R563, R564); one whose read-back differed was never committed. -/
structure CairnRec where
  type : Nat
  inst : Nat
  seq  : Nat
  data : List Byte
  committed : Bool := true
  /-- The repairs that a repair map written by the device names (R150). -/
  soft : Option (List Nat) := none
  /-- Both of its reads failed since the last BOOT or reset of the firmware cores: it is treated as absent (R568). -/
  hidden : Bool := false
  deriving DecidableEq, Repr

/-- An SPDM session (R595). -/
structure Spdm where
  chan : Nat
  id   : Nat
  /-- FINISH has completed its set-up. -/
  up   : Bool := false
  /-- Mutually authenticated by the fabric manager's chain (R586). -/
  auth : Bool := false
  deriving DecidableEq, Repr

structure Trust where
  rootRevoke : BitVec 2 := 0
  svn      : Nat := 0
  leafMark : Nat := 0
  fmRoot   : Option (BitVec 256) := none
  cairn    : List CairnRec := []
  cairnSeq : Nat := 0
  erased   : Nat := 0
  /-- The store index of the Lamp domain (R569): type, instance, and flash address of the valid record. -/
  index    : List (Nat × Nat × Nat) := []
  slotA    : AMap Byte := []
  slotB    : AMap Byte := []
  /-- The slot has been erased since manufacture: bytes not listed read 0xFF (R577). -/
  wipedA   : Bool := false
  wipedB   : Bool := false
  mr       : AMap (BitVec 256) := []
  running  : Nat := 0
  trial    : Bool := false
  recovery : Bool := false
  root     : Nat := 0
  svnRun   : Nat := 0
  fwVersion : Nat := 0
  /-- Lamp tick of the last restart of the watchdog, or of the firmware (R557). -/
  wdAt     : Nat := 0
  /-- No slot verified: firmware stays stopped until the next BOOT (R573). -/
  noImage  : Bool := false
  /-- The ROM has extended MR0 and MR3 in this BOOT (R579). -/
  measured : Bool := false
  leaf     : Nat := 0
  leafEnd  : Nat := 0
  /-- One behind the highest leaf that has signed: no reader sees it (the model's own). -/
  leafTop  : Nat := 0
  exhausted : Bool := false
  wrap     : AMap (BitVec 256) := []
  sessions : List Spdm := []
  negotiated : AMap Nat := []
  /-- Commands that wait for firmware (R31). -/
  waiting  : List Instr := []
  draws    : Nat := 0
  deriving DecidableEq, Repr

/-! ## The device -/

/-- Constants of one implementation (log 4): never written. -/
structure Plat where
  powerCeiling : Nat := 300
  member   : Nat := 0x1664
  stepping : Nat := 1
  rootHash0 : BitVec 256 := 0
  rootHash1 : BitVec 256 := 0
  /-- The fused identity seed, which the signing engine alone reads (R589). -/
  identitySeed : BitVec 256 := 0
  /-- The fused VID windows of VDD_CORE and VDD_SRAM (R560, R630): lowest and highest code. -/
  vidCore  : Nat × Nat := (20, 70)
  vidSram  : Nat × Nat := (0, 255)
  /-- Lines of the reserved region: staging of queue n at n × 1024, rings of queue 0 and 1 to 15 after them. -/
  stagingBase : Nat := 0
  ringBase : Nat := 0x100000
  flowBase : Nat := 0x200000
  /-- Progress records and journals by place in the rotation over queue numbers, and the completion rings of queue 0 and 1 to 15. -/
  progBase : Nat := 0x300000
  journalBase : Nat := 0x400000
  recBase : Nat := 0x500000
  /-- Blobs of wrapped keys, two lines each (R583). -/
  blobBase : Nat := 0x600000
  deriving DecidableEq, Repr

/-- Everything but the command queue and the trust block. -/
structure Dev where
  plat    : Plat := {}
  power   : Power := {}
  faults  : Faults := {}
  cnt     : Counters := {}
  qos     : Qos := {}
  ports   : AMap Port := []
  links   : AMap Link := []
  lds     : AMap Ld := []
  grottos : AMap Grotto := []
  pages   : Pages := {}
  mem     : Mem := {}
  slices  : Slices := {}
  chans   : AMap Chan := []
  flow    : Flow := {}
  queues  : Queues := {}
  ev      : Evoil := {}
  keys    : AMap (BitVec 512) := []
  key0    : BitVec 512 := 0
  holdKey : BitVec 256 := 0
  /-- Entry numbers of the blobs in the reserved region, in their order there (R583): a key ID, or 4,096 plus a wrapping-key slot. -/
  wrapped : List Nat := []
  devTag  : Word := 0
  tagDone : Bool := false
  /-- Whether the firmware cores run (R557): the data path does not read it. -/
  fwUp    : Bool := false
  /-- FAULT_CAUSE firmware: the cores have stopped, or have not started where they should (R492, R557, R573). -/
  fwDown  : Bool := false
  /-- Cairn records that firmware owes, by type and place (R31): repair maps and channel records. -/
  due     : List (Nat × Nat) := []
  /-- What links brought while DEEP was being left, served once back in RUN (R74). -/
  late    : List Instr := []
  /-- CXL.mem requests that their senders hold for want of a credit slot, in the order they are to be sent (R27). -/
  unsent  : List Instr := []
  regPtr  : Nat := 0
  freeCtr : Nat := 0
  out     : List Out := []
  deriving DecidableEq, Repr

/-- The whole machine: the queue of waiting commands, the device, and its trust block (fuses, flash, sessions). -/
structure State where
  pending : List Instr := []
  dev     : Dev := {}
  trust   : Trust := {}
  deriving DecidableEq, Repr

/-- The device at its first entry to BOOT from OFF (R12), with the two keys drawn there (R582). -/
def State.reset : State := {
  dev := { key0 := Config.drbg 0, holdKey := (Config.drbg 1).setWidth 256 }, trust := { draws := 2 } }

end Sys2Proof.Machine
end

