-- ==== Sys2Proof/Machine/Maps.lean ====
section
/-!
DEFINITION. Finite maps with rising keys, half-open intervals, bytes of words and lines.
-/
namespace Sys2Proof.Machine

variable {α : Type}

/-- The value at a key. -/
def mget : AMap α → Nat → Option α
  | [], _ => none
  | (k, v) :: t, n => if n = k then some v else mget t n

/-- Put a value at a key, keeping the keys in rising order. -/
def mset : AMap α → Nat → α → AMap α
  | [], n, a => [(n, a)]
  | (k, v) :: t, n, a =>
    if n < k then (n, a) :: (k, v) :: t else if n = k then (n, a) :: t else (k, v) :: mset t n a

/-- Remove a key. -/
def merase : AMap α → Nat → AMap α
  | [], _ => []
  | (k, v) :: t, n => if n = k then t else (k, v) :: merase t n

def mgetD (m : AMap α) (n : Nat) (d : α) : α := (mget m n).getD d

/-- Change the value at a key, starting from a default. -/
def mmod (m : AMap α) (n : Nat) (d : α) (f : α → α) : AMap α := mset m n (f (mgetD m n d))

/-- Put a value, or remove the key where the value is what an absent key reads as. -/
def mput [DecidableEq α] (m : AMap α) (d : α) (n : Nat) (a : α) : AMap α :=
  if a = d then merase m n else mset m n a

/-- Keep the entries whose key satisfies a test. -/
def mkeep (m : AMap α) (p : Nat → Bool) : AMap α := m.filter fun e => p e.1

/-- Every key from a bound on, strictly rising. -/
def risingFrom : Nat → AMap α → Bool
  | _, [] => true
  | n, (k, _) :: t => decide (n ≤ k) && risingFrom (k + 1) t

/-- The canonical form: keys strictly rising and no entry equal to the default. -/
def canonical [DecidableEq α] (d : α) (m : AMap α) : Bool :=
  risingFrom 0 m && m.all fun e => decide (e.2 ≠ d)

/-- Number of indexes in a list of half-open intervals. -/
def ivCount : List (Nat × Nat) → Nat
  | [] => 0
  | (a, b) :: t => (b - a) + ivCount t

/-- Whether an index lies in the intervals. -/
def ivMem (n : Nat) : List (Nat × Nat) → Bool
  | [] => false
  | (a, b) :: t => decide (a ≤ n ∧ n < b) || ivMem n t

/-- Take an index out of the intervals. -/
def ivErase (n : Nat) : List (Nat × Nat) → List (Nat × Nat)
  | [] => []
  | (a, b) :: t =>
    if a ≤ n ∧ n < b then
      (if a < n then [(a, n)] else []) ++ (if n + 1 < b then [(n + 1, b)] else []) ++ t
    else (a, b) :: ivErase n t

/-- Put an index into the intervals, in order. -/
def ivInsert (n : Nat) : List (Nat × Nat) → List (Nat × Nat)
  | [] => [(n, n + 1)]
  | (a, b) :: t =>
    if n + 1 < a then (n, n + 1) :: (a, b) :: t
    else if n + 1 = a then (n, b) :: t
    else if n < b then (a, b) :: t
    else if n = b then (match t with
      | (c, e) :: t' => if c = n + 1 then (a, e) :: t' else (a, n + 1) :: t
      | [] => [(a, n + 1)])
    else (a, b) :: ivInsert n t

/-- The k-th index of the intervals. -/
def ivNth (k : Nat) : List (Nat × Nat) → Option Nat
  | [] => none
  | (a, b) :: t => if k < b - a then some (a + k) else ivNth (k - (b - a)) t

/-! ### Bits and bytes (R9: little-endian) -/

/-- Bits [hi:lo] of a number. -/
def bitsOf (n hi lo : Nat) : Nat := (n >>> lo) % 2 ^ (hi + 1 - lo)

/-- Byte i of a line. -/
def lineByte (l : LineData) (i : Nat) : Byte := (l >>> (8 * i)).setWidth 8

/-- The mask of bits that a byte mask covers, by bytes. -/
def spreadMask (m : ByteMask) : LineData :=
  (List.range 64).foldl (fun acc i => if m.getLsbD i then acc ||| (0xFF#512 <<< (8 * i)) else acc) 0

/-- Merge the masked bytes of new data into a line. -/
def mergeLine (old new : LineData) (m : ByteMask) : LineData :=
  let s := spreadMask m
  (old &&& ~~~s) ||| (new &&& s)

/-- A mask covering n bytes from byte i. -/
def maskRange (i n : Nat) : ByteMask := BitVec.ofNat 64 (((2 ^ n - 1) <<< i) % 2 ^ 64)

def fullMask : ByteMask := BitVec.allOnes 64

/-- A number from little-endian bytes. -/
def natOfBytes : List Byte → Nat
  | [] => 0
  | b :: t => b.toNat + 256 * natOfBytes t

/-- The n little-endian bytes of a number. -/
def bytesOfNat : Nat → Nat → List Byte
  | 0, _ => []
  | n + 1, v => BitVec.ofNat 8 v :: bytesOfNat n (v / 256)

def lineBytes (l : LineData) : List Byte := bytesOfNat 64 l.toNat
def lineOfBytes (b : List Byte) : LineData := BitVec.ofNat 512 (natOfBytes b)

/-- Number of set bits. -/
def popCount (n : Nat) : Nat → Nat
  | 0 => 0
  | w + 1 => (if n.testBit w then 1 else 0) + popCount n w

/-- Modular distance of 32-bit positions (R271). -/
def posDist (a b : BitVec 32) : Nat := (a - b).toNat

/-- Replace the element at a place of a list. -/
def listSet (l : List α) (i : Nat) (a : α) : List α := l.set i a

/-- A flag at bit n. -/
def flag (b : Bool) (n : Nat) : Nat := if b then 2 ^ n else 0

/-- ⌈a / b⌉. -/
def ceilDiv (a b : Nat) : Nat := (a + b - 1) / b

end Sys2Proof.Machine
end

