-- ==== Sys2Proof/Machine/Arith.lean ====
section
/-!
DEFINITION. What the engines and units compute: ALU and atomic operations (R323, R343), check values (R234), SHA-256 (R339),
the native stream format (R203 to R206), element order and binary64 sums (R367, R384).
-/
namespace Sys2Proof.Machine

/-! ### ALU and atomics -/

/-- ALU operations by mod (R323); the second operand is rc + imm. -/
def aluOp (op : Nat) (a b : Word) : Word :=
  match op with
  | 0 => a + b
  | 1 => a - b
  | 2 => a &&& b
  | 3 => a ||| b
  | 4 => a ^^^ b
  | 5 => a <<< (b.toNat % 64)
  | 6 => a >>> (b.toNat % 64)
  | 7 => a.sshiftRight (b.toNat % 64)
  | 8 => a * b
  | 9 => if a.ult b then a else b
  | _ => if a.ult b then b else a

/-- New value of an atomic by opcode (R343): V, B, and A for CAS. -/
def atomicOp {n : Nat} (op : Nat) (v b a : BitVec n) : BitVec n :=
  match op with
  | 0x80 => v + b
  | 0x81 => if v = a then b else v
  | 0x82 => b
  | 0x83 => if v.slt b then v else b
  | 0x84 => if v.ult b then v else b
  | 0x85 => if v.slt b then b else v
  | _ => if v.ult b then b else v

/-! ### Check values (R233, R234) -/

structure CheckDesc where
  poly   : Nat
  init   : Nat
  width  : Nat
  refin  : Bool
  refout : Bool
  invert : Bool
  big    : Bool
  deriving DecidableEq, Repr

/-- One step of the register with the bit fed in. -/
def crcBit (k : CheckDesc) (reg : Nat) (bit : Bool) : Nat :=
  let top := reg.testBit (k.width - 1)
  let r := reg * 2 % 2 ^ k.width
  if top != bit then r ^^^ (k.poly % 2 ^ k.width) else r

def crcByte (k : CheckDesc) (reg : Nat) (b : Byte) : Nat :=
  (List.range 8).foldl (fun r i => crcBit k r (b.getLsbD (if k.refin then i else 7 - i))) reg

/-- Reverse the low w bits. -/
def reverseBits (w n : Nat) : Nat := ((List.range w).map fun i => if n.testBit i then 2 ^ (w - 1 - i) else 0).sum

/-- The check value of a payload. -/
def checkValue (k : CheckDesc) (bs : List Byte) : Nat :=
  let r := bs.foldl (crcByte k) (k.init % 2 ^ k.width)
  let r1 := if k.refout then reverseBits k.width r else r
  if k.invert then r1 ^^^ (2 ^ k.width - 1) else r1

/-- CRC-32C with an initial value (R236, R379). -/
def crc32cDesc (init : Nat) : CheckDesc :=
  { poly := 0x1EDC6F41, init := init, width := 32, refin := true, refout := true, invert := true, big := false }
def crc32c (bs : List Byte) : Nat := checkValue (crc32cDesc 0xFFFFFFFF) bs

/-! ### SHA-256 (R339) -/

abbrev W32 := BitVec 32

/-- The additive constants of FIPS 180-4, eight words of 32 bits to a row, the first the most significant. -/
def shaRows : List Nat :=
  [0x428a2f9871374491b5c0fbcfe9b5dba53956c25b59f111f1923f82a4ab1c5ed5,
   0xd807aa9812835b01243185be550c7dc372be5d7480deb1fe9bdc06a7c19bf174,
   0xe49b69c1efbe47860fc19dc6240ca1cc2de92c6f4a7484aa5cb0a9dc76f988da,
   0x983e5152a831c66db00327c8bf597fc7c6e00bf3d5a7914706ca635114292967,
   0x27b70a852e1b21384d2c6dfc53380d13650a7354766a0abb81c2c92e92722c85,
   0xa2bfe8a1a81a664bc24b8b70c76c51a3d192e819d6990624f40e3585106aa070,
   0x19a4c1161e376c082748774c34b0bcb5391c0cb34ed8aa4a5b9cca4f682e6ff3,
   0x748f82ee78a5636f84c878148cc7020890befffaa4506cebbef9a3f7c67178f2]

/-- Word t of a row of eight. -/
def rowWord (row t : Nat) : W32 := BitVec.ofNat 32 (row >>> (32 * (7 - t % 8)))

/-- The constant of round t. -/
def shaK (t : Nat) : W32 := rowWord ((shaRows[t / 8]?).getD 0) t

/-- The standard initial value. -/
def shaInit : List W32 := (List.range 8).map (rowWord 0x6a09e667bb67ae853c6ef372a54ff53a510e527f9b05688c1f83d9ab5be0cd19)

def rotr (x : W32) (n : Nat) : W32 := x.rotateRight n

/-- Extend the message schedule by n words. -/
def shaExtend : Nat → List W32 → List W32
  | 0, w => w
  | n + 1, w =>
    let back (i : Nat) : W32 := (w[w.length - i]?).getD 0
    let small (x : W32) (i j k : Nat) : W32 := rotr x i ^^^ rotr x j ^^^ (x >>> k)
    shaExtend n (w ++ [back 16 + back 7 + small (back 15) 7 18 3 + small (back 2) 17 19 10])

/-- Three rotations of a word, added modulo 2. -/
def bitTurns (x : W32) (i j k : Nat) : W32 := rotr x i ^^^ rotr x j ^^^ rotr x k

/-- One round over the eight working words: all move down by one place, and two of them take the sums. -/
def shaRound (st : List W32) (kw : W32) : List W32 :=
  let v (i : Nat) : W32 := (st[i]?).getD 0
  let choose := (v 6) ^^^ (v 4 &&& (v 5 ^^^ v 6))
  let major := (v 0 &&& v 1) ||| (v 2 &&& (v 0 ||| v 1))
  let t := v 7 + kw + choose + bitTurns (v 4) 6 11 25
  (t + major + bitTurns (v 0) 2 13 22) :: (st.take 3 ++ (v 3 + t) :: (st.drop 4).take 3)

/-- A big-endian word of four bytes. -/
def be32 (bs : List Byte) : W32 := BitVec.ofNat 32 (natOfBytes (bs.take 4).reverse)

/-- Hash one block of 64 bytes into a state. -/
def shaBlock (st : List W32) (b : List Byte) : List W32 :=
  let w := shaExtend 48 ((List.range 16).map fun i => be32 (b.drop (4 * i)))
  let r := (List.range 64).foldl (fun s i => shaRound s (shaK i + (w[i]?).getD 0)) st
  (st.zip r).map fun e => e.1 + e.2

/-- Hash n whole blocks. -/
def shaBlocks : Nat → List W32 → List Byte → List W32
  | 0, st, _ => st
  | n + 1, st, bs => shaBlocks n (shaBlock st (bs.take 64)) (bs.drop 64)

/-- The final padding of a message of total bytes, whose last bytes are given. -/
def shaPad (tail : List Byte) (total : Nat) : List Byte :=
  let z := (64 - (tail.length + 9) % 64) % 64
  tail ++ [0x80#8] ++ List.replicate z 0#8 ++ (bytesOfNat 8 (total * 8)).reverse

def shaBytes (st : List W32) : List Byte := st.flatMap fun x => (bytesOfNat 4 x.toNat).reverse
def shaState (bs : List Byte) : List W32 := (List.range 8).map fun i => be32 (bs.drop (4 * i))

/-- SHA-256 of bytes (R339). -/
def sha256 (bs : List Byte) : List Byte :=
  let n := bs.length / 64 * 64
  let tail := shaPad (bs.drop n) bs.length
  shaBytes (shaBlocks (tail.length / 64) (shaBlocks (n / 64) shaInit (bs.take n)) tail)

/-! ### Native streams (R203 to R206) -/

/-- Copy a match of n bytes at an offset, byte by byte, onto what has been produced, last byte first (R204). -/
def matchCopy : Nat → Nat → List Byte → List Byte
  | 0, _, out => out
  | n + 1, off, out => matchCopy n off (out.getD (off - 1) 0 :: out)

/-- How a block stream decodes: output, bytes read, and its stored check value where that does not match; or it is malformed,
or the input ends first (R204, R226, R230). -/
inductive Block where
  | ok (out : List Byte) (used : Nat) (stored : Option Nat)
  | bad
  | short
  deriving DecidableEq, Repr

/-- Decode one block stream (R203, R204); cap bounds the output, of which the last byte stands first here. -/
def blockTokens (cap : Nat) : Nat → List Byte → List Byte → Option Nat → Nat → Block
  | 0, _, _, _, _ => .bad
  | _, [], _, _, _ => .short
  | n + 1, t :: rest, out, last, used =>
    let k := t.toNat / 64
    let v := t.toNat % 64
    let go (len off : Nat) (skip : Nat) : Block :=
      if out.length < off ∨ cap < out.length + len then .bad
      else blockTokens cap n (rest.drop skip) (matchCopy len off out) (some off) (used + 1 + skip)
    if k = 0 then
      (if cap < out.length + v + 1 then .bad
       else if rest.length < v + 1 then .short
       else blockTokens cap n (rest.drop (v + 1)) ((rest.take (v + 1)).reverse ++ out) last (used + v + 2))
    else if k = 1 then
      match rest with
      | b :: _ => go (v / 8 + 3) (v % 8 * 256 + b.toNat + 1) 1
      | [] => .short
    else if k = 2 then
      (if rest.length < 2 then .short
       else let w := natOfBytes (rest.take 2); go (v + 64 * (w / 1024) + 11) (w % 1024 + 1) 2)
    else if v = 0 then
      (if rest.length < 4 then .short
       else
        let w := natOfBytes (rest.take 4)
        let bs := out.reverse
        .ok bs (used + 5) (if w = crc32c bs then none else some w))
    else
      match last with
      | some off => go (v + 2) off 0
      | none => .bad

/-- Decode a block stream at the start of some bytes. -/
def decodeBlock (cap : Nat) (bs : List Byte) : Block := blockTokens cap (bs.length + 1) bs [] none 0

/-- Literal runs of at most 64 bytes, and the end token (R205). -/
def literalRuns : Nat → List Byte → List Byte
  | 0, _ => []
  | _, [] => []
  | n + 1, bs => BitVec.ofNat 8 ((bs.take 64).length - 1) :: bs.take 64 ++ literalRuns n (bs.drop 64)
def literalBlock (bs : List Byte) : List Byte := literalRuns (bs.length + 1) bs ++ [0xC0#8] ++ bytesOfNat 4 (crc32c bs)

/-- What the match search finds: literals, and matches by length and offset. -/
abbrev Piece := Byte ⊕ (Nat × Nat)

/-- The longest match at position p among so many earlier positions whose first three bytes hash alike, newest first; of two that are
equally long the one with the smaller offset (R221). Bounds are those of the format. -/
def lzBest (examined maxLen maxOff : Nat) (bs : List Byte) (p : Nat) : Option (Nat × Nat) :=
  let here := bs.drop p
  if here.length < 3 then none
  else
    let hash (q : Nat) : Nat := Config.lzHash ((bs.drop q).take 3)
    let len (q : Nat) : Nat := min maxLen ((here.zip (bs.drop q)).takeWhile fun e => e.1 == e.2).length
    ((((List.range p).reverse.filter fun q => decide (p - q ≤ maxOff) && hash q == hash p).take examined).foldl
      (fun (b : Option (Nat × Nat)) q => if max 2 ((b.map (·.1)).getD 0) < len q then some (len q, p - q) else b) none)

/-- The search over some bytes from position p on: positions examined double with each level, and levels 6 to 9 defer a match by one
byte where the next position has a longer one (R221). -/
def lzFrom (level maxLen maxOff : Nat) (bs : List Byte) : Nat → Nat → List Piece
  | 0, _ => []
  | n + 1, p =>
    match bs[p]? with
    | none => []
    | some b =>
      let best (p : Nat) : Option (Nat × Nat) := lzBest (2 ^ (level - 1)) maxLen maxOff bs p
      match best p with
      | none => .inl b :: lzFrom level maxLen maxOff bs n (p + 1)
      | some (l, o) =>
        if 6 ≤ level ∧ (best (p + 1)).any (fun e => decide (l < e.1)) then .inl b :: lzFrom level maxLen maxOff bs n (p + 1)
        else .inr (l, o) :: lzFrom level maxLen maxOff bs n (p + l)

def lzParse (level maxLen maxOff : Nat) (bs : List Byte) : List Piece := lzFrom level maxLen maxOff bs (bs.length + 1) 0

/-- The literals and matches that tokens stand for; none where they are not whole tokens (R203). -/
def tokenPieces : Nat → Option Nat → List Byte → Option (List Piece)
  | 0, _, _ => none
  | _, _, [] => some []
  | n + 1, last, t :: rest =>
    let k := t.toNat / 64
    let v := t.toNat % 64
    if k = 0 then
      if rest.length < v + 1 then none
      else (tokenPieces n last (rest.drop (v + 1))).map ((rest.take (v + 1)).map .inl ++ ·)
    else
      let m : Option (Nat × Nat × Nat) := match k with
        | 1 => (rest[0]?).map fun b => (v / 8 + 3, v % 8 * 256 + b.toNat + 1, 1)
        | 2 => if rest.length < 2 then none else let w := natOfBytes (rest.take 2); some (v + 64 * (w / 1024) + 11, w % 1024 + 1, 2)
        | _ => if v = 0 then none else last.map fun o => (v + 2, o, 0)
      match m with
      | none => none
      | some (len, off, skip) => (tokenPieces n (some off) (rest.drop skip)).map (.inr (len, off) :: ·)

/-- One token for each match, by its length, and for each run of at most 64 literals: a rendering that every search result has. -/
def plainTokens : Nat → List Piece → List Byte
  | 0, _ => []
  | _, [] => []
  | n + 1, .inr (l, o) :: ps =>
    (if l ≤ 10 then [BitVec.ofNat 8 (64 + (l - 3) * 8 + (o - 1) / 256), BitVec.ofNat 8 (o - 1)]
     else BitVec.ofNat 8 (128 + (l - 11) % 64) :: bytesOfNat 2 ((l - 11) / 64 * 1024 + (o - 1))) ++ plainTokens n ps
  | n + 1, ps =>
    let run := (ps.takeWhile Sum.isLeft).take 64
    BitVec.ofNat 8 (run.length - 1) :: run.filterMap Sum.getLeft? ++ plainTokens n (ps.drop run.length)

/-- The block stream of the family's compressor (R205, R221, R222): what its search finds, in tokens of its own choice where those
stand for it, and literals alone where that is no longer. That the tokens decode to the input is tested again, so that every stream
is plainly one of this input. -/
def encodeBlock (level : Nat) (bs : List Byte) : List Byte :=
  let ps := lzParse level 4106 1024 bs
  let own := Config.nativeTokens ps
  let tokens := if tokenPieces (own.length + 1) none own = some ps then own else plainTokens (ps.length + 1) ps
  let c := tokens ++ [0xC0#8] ++ bytesOfNat 4 (crc32c bs)
  if c.length < (literalBlock bs).length ∧ decodeBlock 1024 c = .ok bs c.length none then c else literalBlock bs

def nativeMagic : List Byte := [0x5A#8, 0x4B#8, 0x4E#8, 0x01#8]

/-! ### Elements (R367) -/

/-- Fraction and exponent widths of a floating-point width in bytes. -/
def floatShape : Nat → Nat × Nat
  | 2 => (10, 5)
  | 4 => (23, 8)
  | _ => (52, 11)

def floatNan (width x : Nat) : Bool :=
  let (f, e) := floatShape width
  x / 2 ^ f % 2 ^ e == 2 ^ e - 1 && x % 2 ^ f != 0

/-- Order of an element as an integer: none for a NaN; −0 lies just below +0. -/
def elemKey (type width : Nat) (x : Nat) : Option Int :=
  let top := 8 * width - 1
  match type with
  | 0 => some x
  | 1 => some (if x.testBit top then (x : Int) - 2 ^ (8 * width) else x)
  | 2 => if floatNan width x then none else some (if x.testBit top then -1 - ((x % 2 ^ top : Nat) : Int) else x)
  | _ => some (natOfBytes (bytesOfNat width x).reverse)

def elemZero (type width x : Nat) : Bool := type == 2 && x % 2 ^ (8 * width - 1) == 0

/-- The six comparisons (R367, R368). -/
def elemCmp (type width op x y : Nat) : Bool :=
  match elemKey type width x, elemKey type width y with
  | some a, some b =>
    let same := a == b || (elemZero type width x && elemZero type width y)
    match op with
    | 0 => same
    | 1 => !same
    | 2 => decide (a < b)
    | 3 => decide (a ≤ b)
    | 4 => decide (b < a)
    | _ => decide (b ≤ a)
  | _, _ => op == 1

/-! ### binary64 (R383, R384) -/

/-- A finite value in units of 2^-1074. -/
def f64Units (x : Nat) : Int :=
  let e := x / 2 ^ 52 % 2048
  let f := x % 2 ^ 52
  let m : Nat := if e = 0 then f else (2 ^ 52 + f) * 2 ^ (e - 1)
  if x.testBit 63 then -(m : Int) else m

/-- The binary64 nearest to n × 2^-1074, ties to even, without its sign. -/
def f64Round (n : Nat) : Nat :=
  if n < 2 ^ 53 then
    (if n < 2 ^ 52 then n else 2 ^ 52 + n % 2 ^ 52)
  else
    let s := Nat.log2 n - 52
    let q := n / 2 ^ s
    let r := n % 2 ^ s
    let up := decide (2 ^ s < 2 * r) || (decide (2 ^ s = 2 * r) && q % 2 == 1)
    let q1 := if up then q + 1 else q
    let (q2, s2) := if q1 = 2 ^ 53 then (2 ^ 52, s + 1) else (q1, s)
    if 2046 ≤ s2 then 0x7FF * 2 ^ 52 else (s2 + 1) * 2 ^ 52 + q2 % 2 ^ 52

def f64Inf (x : Nat) : Bool := x % 2 ^ 63 == 0x7FF * 2 ^ 52
def f64Nan (x : Nat) : Bool := floatNan 8 x

/-- The NaN that an operation on two values gives: its sign and fraction are not stated (log 18). -/
def someNan (x y : Nat) : Nat :=
  let n := Config.nanFraction (BitVec.ofNat 64 x) (BitVec.ofNat 64 y)
  (if n % 2 = 1 then 2 ^ 63 else 0) + 0x7FF * 2 ^ 52 + 1 + n / 2 % (2 ^ 52 - 1)

/-- Sum of two binary64 values, rounded to nearest, ties to even. -/
def f64Add (x y : Nat) : Nat :=
  if f64Nan x || f64Nan y then someNan x y
  else if f64Inf x then (if f64Inf y && x != y then someNan x y else x)
  else if f64Inf y then y
  else
    let s := f64Units x + f64Units y
    if s = 0 then (if x.testBit 63 && y.testBit 63 then 2 ^ 63 else 0)
    else f64Round s.natAbs + if s < 0 then 2 ^ 63 else 0

/-- A value of 2, 4 or 8 bytes widened to binary64; NaNs keep being NaNs. -/
def f64Widen (width x : Nat) : Nat :=
  let (f, e) := floatShape width
  let sign := if x.testBit (8 * width - 1) then 2 ^ 63 else 0
  let ex := x / 2 ^ f % 2 ^ e
  let fr := x % 2 ^ f
  let bias := 2 ^ (e - 1) - 1
  if width = 8 then x
  else if ex = 2 ^ e - 1 then sign + 0x7FF * 2 ^ 52 + fr * 2 ^ (52 - f)
  else
    let units : Nat := if ex = 0 then fr * 2 ^ (1075 - bias - f) else (2 ^ f + fr) * 2 ^ (ex + 1074 - bias - f)
    sign + f64Round units

end Sys2Proof.Machine
end

