-- ==== Sys2Proof/Machine/Aes.lean ====
section
/-!
DEFINITION. AES-256 (FIPS 197), the XTS mode of line encryption (R111, R112), the key wrap of RFC 3394 (R587) and the key check (R446);
the algorithms are those of the standards that the rules name (PRESUMED, log 9).
-/
namespace Sys2Proof.Machine

/-- A table of 256 bytes, 32 to a number, the first one least significant. -/
def byteTable (t : List Nat) (x : Nat) : Nat := (t.getD (x / 32) 0 >>> (8 * (x % 32))) % 256

def aesSbox : List Nat :=
  [0xC072A49CAFA2D4ADF04759FA7DC982CA76ABD7FE2B670130C56F6BF27B777C63,
   0x75B227EBE28012079A059618C323C7041531D871F1E5A534CCF73F362693FDB7,
   0xCF584C4A39BECB6A5BB1FC20ED00D153842FE329B3D63B52A05A6E1B1A2C8309,
   0xD2F3FF1021DAB6BCF5389D928F40A351A89F3C507F02F94585334D43FBAAEFD0,
   0xDB0B5EDE14B8EE4688902A22DC4F816073195D643D7EA7C41744975FEC130CCD,
   0x08AE7A65EAF4566CA94ED58D6D37C8E779E4959162ACD3C25C2406490A3A32E0,
   0x9E1DC186B95735610EF6034866B53E708A8BBD4B1F74DDE8C6B4A61C2E2578BA,
   0x16BB54B00F2D99416842E6BF0D89A18CDF2855CEE9871E9B948ED9691198F8E1]

def aesInverse : List Nat :=
  [0xCBE9DEC444438E3487FF2F9B8239E37CFBD7F3819EA340BF38A53630D56A0952,
   0x25D18B6D49A25B76B224D92866A12E084EC3FA420B954CEE3D23C2A632947B54,
   0x849D8DA75746155EDAB9EDFD5048706C92B6655DCC5CA4D41698688664F6F872,
   0x6B8A130103BDAFC1020F3FCA8F1E2CD00645B3B80558E4F70AD3BC8C00ABD890,
   0x6EDF751CE837F9E28535ADE72274AC9673E6B4F0CECFF297EADC674F4111913A,
   0xF45ACD78FEC0DB9A2079D2C64B3E56FC1BBE18AA0E62B76F89C5291D711AF147,
   0xEF9CC9939F7AE52D0D4AB519A97F51605FEC8027591012B131C7078833A8DD1F,
   0x7D0C2155631469E126D677BA7E042B17619953833CBBEBC8B0F52AAE4D3BE0A0]

def aesSub (x : Nat) : Nat := byteTable aesSbox x
def aesUnsub (x : Nat) : Nat := byteTable aesInverse x

/-- Multiplication by x, and by a small polynomial, in the field of 256 elements. -/
def aesTwice (a : Nat) : Nat := if a < 128 then 2 * a else (2 * a) ^^^ 0x11B

def aesMul : Nat → Nat → Nat → Nat
  | 0, _, _ => 0
  | n + 1, k, a => (if k % 2 = 1 then a else 0) ^^^ aesMul n (k / 2) (aesTwice a)

def xorList (a b : List Nat) : List Nat := (a.zip b).map fun e => e.1 ^^^ e.2

/-- The 60 words of the key schedule, from the eight of the key. -/
def aesExpand : Nat → Nat → List (List Nat) → List (List Nat)
  | 0, _, w => w
  | n + 1, rcon, w =>
    let last := w.getD (w.length - 1) []
    let t := if w.length % 8 = 0 then
        xorList ((last.drop 1 ++ last.take 1).map aesSub) [rcon, 0, 0, 0]
      else if w.length % 8 = 4 then last.map aesSub else last
    aesExpand n (if w.length % 8 = 0 then aesTwice rcon else rcon) (w ++ [xorList (w.getD (w.length - 8) []) t])

def aesWords : Nat → List Nat → List (List Nat)
  | 0, _ => []
  | n + 1, bs => bs.take 4 :: aesWords n (bs.drop 4)

/-- The fifteen round keys of a 32-byte key. -/
def aesKeys (key : List Nat) : List (List Nat) :=
  let w := aesExpand 52 1 (aesWords 8 key)
  (List.range 15).map fun r => ((w.drop (4 * r)).take 4).flatten

/-- Row r of a state in column order moves by r columns. -/
def aesShift (s : List Nat) (back : Bool) : List Nat :=
  (List.range 16).map fun i =>
    let r := i % 4
    let c := i / 4
    s.getD (4 * ((if back then c + 4 - r else c + r) % 4) + r) 0

def aesMixColumn (m c : List Nat) : List Nat :=
  (List.range 4).map fun r => (List.range 4).foldl (fun x k => x ^^^ aesMul 4 (m.getD ((k + 4 - r) % 4) 0) (c.getD k 0)) 0

def aesMix (m s : List Nat) : List Nat := (aesWords 4 s).flatMap (aesMixColumn m)

def aesRound (last : Bool) (s k : List Nat) : List Nat :=
  let t := aesShift (s.map aesSub) false
  xorList (if last then t else aesMix [2, 3, 1, 1] t) k

def aesUnround (last : Bool) (s k : List Nat) : List Nat :=
  let t := xorList s k
  (aesShift (if last then t else aesMix [14, 11, 13, 9] t) true).map aesUnsub

/-- One block under a key schedule. -/
def aesEncrypt (ks : List (List Nat)) (block : List Nat) : List Nat :=
  let s := (List.range 13).foldl (fun s r => aesRound false s (ks.getD (r + 1) [])) (xorList block (ks.getD 0 []))
  aesRound true s (ks.getD 14 [])

def aesDecrypt (ks : List (List Nat)) (block : List Nat) : List Nat :=
  let s := (List.range 13).foldl (fun s r => aesUnround false s (ks.getD (13 - r) [])) (aesUnround true block (ks.getD 14 []))
  xorList s (ks.getD 0 [])

/-- The n bytes of a number, least significant first, and back. -/
def natBytes (n v : Nat) : List Nat := (List.range n).map fun i => v >>> (8 * i) % 256

def bytesNat : List Nat → Nat
  | [] => 0
  | b :: t => b + 256 * bytesNat t

/-! ### XTS -/

/-- The next tweak of a data unit: multiplication by x in the field of 2^128 elements. -/
def xtsNext (t : Nat) : Nat := if t < 2 ^ 127 then 2 * t else (2 * t - 2 ^ 128) ^^^ 0x87

def xtsBlocks (f : List Nat → List Nat) : Nat → Nat → Nat → Nat
  | 0, _, _ => 0
  | n + 1, t, v => (bytesNat (f (natBytes 16 (v % 2 ^ 128 ^^^ t))) ^^^ t) + 2 ^ 128 * xtsBlocks f n (xtsNext t) (v / 2 ^ 128)

/-- The tweak of block n of a data unit. -/
def xtsAt : Nat → Nat → Nat
  | 0, t => t
  | n + 1, t => xtsAt n (xtsNext t)

/-- A 64-byte line under a key pair: data key in bytes 0 to 31, tweak key in bytes 32 to 63 (R587). Bits from 128 on of the tweak say
which line of its data unit it is: a gallery sector is one data unit of eight lines (R112). -/
def xtsLine (decrypt : Bool) (key : BitVec 512) (tweak : Nat) (v : LineData) : LineData :=
  let kd := aesKeys (natBytes 32 key.toNat)
  let kt := aesKeys (natBytes 32 (key.toNat / 2 ^ 256))
  let t := xtsAt (4 * (tweak / 2 ^ 128)) (bytesNat (aesEncrypt kt (natBytes 16 (tweak % 2 ^ 128))))
  BitVec.ofNat 512 (xtsBlocks (if decrypt then aesDecrypt kd else aesEncrypt kd) 4 t v.toNat)

/-- What a line sealed under one pair of key and tweak reads as under another. -/
def reopened (data : LineData) (key : BitVec 512) (tweak : Nat) (key' : BitVec 512) (tweak' : Nat) : LineData :=
  xtsLine true key' tweak' (xtsLine false key tweak data)

/-! ### Key wrap and key check -/

/-- One step of the unwrapping of n eight-byte blocks: t counts down from 6 n. -/
def unwrapSteps (ks : List (List Nat)) (n : Nat) : Nat → List Nat → List (List Nat) → List Nat × List (List Nat)
  | 0, a, r => (a, r)
  | t + 1, a, r =>
    let i := t % n
    let b := aesDecrypt ks (xorList a (natBytes 8 (t + 1)).reverse ++ r.getD i [])
    unwrapSteps ks n t (b.take 8) (r.set i (b.drop 8))

/-- RFC 3394 wrap of 64 bytes under a wrapping key (R583): the 72-byte blob. -/
def wrapBlob (kek : BitVec 256) (key : BitVec 512) : List Byte :=
  let ks := aesKeys (natBytes 32 kek.toNat)
  let bs := natBytes 64 key.toNat
  let (a, r) := (List.range 48).foldl (fun (x : List Nat × List (List Nat)) t =>
    let i := t % 8
    let b := aesEncrypt ks (x.1 ++ x.2.getD i [])
    (xorList (b.take 8) (natBytes 8 (t + 1)).reverse, x.2.set i (b.drop 8)))
    (List.replicate 8 0xA6, (List.range 8).map fun i => (bs.drop (8 * i)).take 8)
  (a ++ r.flatten).map (BitVec.ofNat 8)

/-- RFC 3394 unwrap of a 72-byte blob under a wrapping key: the 64 bytes, or none when the integrity check fails (R351, R587). -/
def unwrapBlob (kek : BitVec 256) (blob : List Byte) : Option (BitVec 512) :=
  let bs := blob.map (·.toNat)
  let rs := (List.range 8).map fun i => (bs.drop (8 * i + 8)).take 8
  let (a, r) := unwrapSteps (aesKeys (natBytes 32 kek.toNat)) 8 48 (bs.take 8) rs
  if bs.length = 72 ∧ a = List.replicate 8 0xA6 then some (BitVec.ofNat 512 (bytesNat r.flatten)) else none

/-- Low 14 bits of the key check: bytes 0 to 7 of the encryption of 16 zero bytes under the data key (R446). -/
def keyCheckOf (key : BitVec 512) : BitVec 14 :=
  BitVec.ofNat 14 (bytesNat (aesEncrypt (aesKeys (natBytes 32 key.toNat)) (List.replicate 16 0)))

end Sys2Proof.Machine
end

