-- ==== Sys2Proof/Machine/Ops.lean ====
section
/-!
DEFINITION. Operations that every family shares: free choices, device time, counters, fault records with their copies in the
event logs, interrupts, links and logical devices, poison lists, and the HOLD cut.
-/
namespace Sys2Proof.Machine

/-! ### Changing one part of the device -/

def Dev.onPower (d : Dev) (f : Power → Power) : Dev := { d with power := f d.power }
def Dev.onFaults (d : Dev) (f : Faults → Faults) : Dev := { d with faults := f d.faults }
def Dev.onCnt (d : Dev) (f : Counters → Counters) : Dev := { d with cnt := f d.cnt }
def Dev.onQos (d : Dev) (f : Qos → Qos) : Dev := { d with qos := f d.qos }
def Dev.onPages (d : Dev) (f : Pages → Pages) : Dev := { d with pages := f d.pages }
def Dev.onMem (d : Dev) (f : Mem → Mem) : Dev := { d with mem := f d.mem }
def Dev.onSlices (d : Dev) (f : Slices → Slices) : Dev := { d with slices := f d.slices }
def Dev.onFlow (d : Dev) (f : Flow → Flow) : Dev := { d with flow := f d.flow }
def Dev.onQueues (d : Dev) (f : Queues → Queues) : Dev := { d with queues := f d.queues }
def Dev.onEv (d : Dev) (f : Evoil → Evoil) : Dev := { d with ev := f d.ev }
def Dev.onRope (d : Dev) (f : Rope → Rope) : Dev := d.onEv fun e => { e with rope := f e.rope }

/-- Take a request up again within this command: mode 0 new, 1 resumed, 2 granted. -/
def Dev.again (d : Dev) (mode : Nat) (r : Req) : Dev :=
  { d with slices := { d.slices with resume := d.slices.resume ++ [(mode, r)] } }
def Dev.againAll (d : Dev) (mode : Nat) (rs : List Req) : Dev := rs.foldl (fun d r => d.again mode r) d

/-! ### Free choices and time -/

/-- A choice among n things that the spec leaves open, 0 where there is no choice (log 3). -/
def Dev.choose (d : Dev) (n : Nat) : Nat × Dev :=
  if n ≤ 1 then (0, d) else (Config.free d.freeCtr % n, { d with freeCtr := d.freeCtr + 1 })

/-- A free word. -/
def Dev.freeWord (d : Dev) : Word × Dev :=
  (BitVec.ofNat 64 (Config.free d.freeCtr), { d with freeCtr := d.freeCtr + 1 })

/-- LAMPCLK ticks since BOOT from OFF, 48 bits (R547). -/
def Dev.lamp (d : Dev) : Nat := d.power.ticks % 2 ^ 48

/-- Device time in nanoseconds (R313, R549): a tick is 10^9 / 32,768 ns. -/
def Dev.timeNs (d : Dev) : Nat := d.power.ticks * 1000000000 / 32768

/-- Milliseconds of the Lamp time base. -/
def Dev.timeMs (d : Dev) : Nat := d.power.ticks * 1000 / 32768

/-- What a meaning answers. -/
abbrev Answer := Host.Outcome State Fault Refusal

/-- A meaning that changes the device only. -/
def State.onDev (s : State) (f : Dev → Dev) : Answer := .next { s with dev := f s.dev }

/-- The PBR ID that a message carries as source: that of its link (R51). -/
def Dev.sourceOf (d : Dev) (m : Msg) : Option (BitVec 12) := m.link?.bind fun l => (mgetD d.links l {}).pbr

/-- Send a message. -/
def Dev.emit (d : Dev) (m : Msg) : Dev := { d with out := d.out ++ [{ msg := m, source := d.sourceOf m }] }

/-! ### Counters (R510 to R512) -/

def cntTop : Nat := 2 ^ 48

/-- Add to one counter without looking at chains; the Bool says that it wrapped (R511, R512). -/
def Counters.add (c : Counters) (n k : Nat) : Counters × Bool :=
  let v := mgetD c.cnt n 0 + k
  if v < cntTop then ({ c with cnt := mput c.cnt 0 n v }, false)
  else if c.sat then ({ c with cnt := mput c.cnt 0 n (cntTop - 1), wrap := c.wrap.filter (· != n) ++ [n] }, false)
  else ({ c with cnt := mput c.cnt 0 n (v % cntTop) }, true)

def Counters.setWrap (c : Counters) (n : Nat) : Counters := { c with wrap := c.wrap.filter (· != n) ++ [n] }

/-- Whether counter n's pair is chained and chaining is in force (R511, R512). -/
def Counters.chained (c : Counters) (n : Nat) : Bool := !c.sat && c.chain.contains (n / 2)

/-- Count k events of counter n (R511): a chained pair's lower counter carries, its upper one counts only carries. -/
def Counters.count (c : Counters) (n k : Nat) : Counters :=
  if c.chained n then
    if n % 2 = 1 then c
    else
      let (c1, w) := c.add n k
      if w then (let (c2, w2) := c1.add (n + 1) 1; if w2 then c2.setWrap (n + 1) else c2) else c1
  else
    let (c1, w) := c.add n k
    if w then c1.setWrap n else c1

/-- Whether events count: not from the cut of a HOLD until RUN (R516). -/
def Power.counts (p : Power) : Bool :=
  match p.mode with
  | .off | .hold => false
  | .boot => p.bootKind == 0 || p.bootKind == 3
  | _ => true

def Dev.bump (d : Dev) (n : Nat) (k : Nat := 1) : Dev := { d with cnt := if d.power.counts then d.cnt.count n k else d.cnt }

/-! ### Links and logical devices -/

/-- The port of a link: links 0 to 3 are ports unsplit or their A halves, 4 to 7 the B halves (R76). -/
def portOf (l : Nat) : Nat := l % 4

def Dev.port (d : Dev) (p : Nat) : Port := mgetD d.ports p {}
def Dev.split (d : Dev) (p : Nat) : Bool := (d.port p).split

/-- Links that exist (R32). -/
def Dev.linkExists (d : Dev) (l : Nat) : Bool := decide (l < 4) || (decide (l < 8) && d.split (portOf l))

def Dev.link (d : Dev) (l : Nat) : Link := mgetD d.links l {}
def Dev.setLink (d : Dev) (l : Nat) (k : Link) : Dev := { d with links := mput d.links {} l k }

/-- Logical devices of a link: 16, or 8 in a split port (R43). -/
def Dev.ldCount (d : Dev) (l : Nat) : Nat := if d.split (portOf l) then 8 else 16

/-- Whether a link has a logical device, the FM-owned one included (R43). -/
def Dev.ldExists (d : Dev) (l ld : Nat) : Bool := d.linkExists l && (decide (ld < d.ldCount l) || ld == 16)

/-- MSI-X vectors of a link (R57). -/
def Dev.vectors (d : Dev) (l : Nat) : Nat := if d.split (portOf l) then 1024 else 2048

def ldKey (l ld : Nat) : Nat := l * 17 + ld
def Dev.ld (d : Dev) (l ld : Nat) : Ld := mgetD d.lds (ldKey l ld) {}
def Dev.setLd (d : Dev) (l ld : Nat) (x : Ld) : Dev := { d with lds := mput d.lds {} (ldKey l ld) x }

/-- Every logical device of every port. -/
def Dev.allLds (d : Dev) : List (Nat × Nat) :=
  (List.range 8).flatMap fun l =>
    if d.linkExists l then (List.range (d.ldCount l)).map (fun ld => (l, ld)) ++ [(l, 16)] else []

/-- First vector of a logical device: its setting, or 128 × its number (R57, R58). R57 gives no range to the FM-owned one, number 16: the
model gives it 128 vectors from 2048 on, beyond those of the numbered ones (DESIGN CHOICE, log 86). -/
def Ld.base (x : Ld) (ld : Nat) : Nat := x.vecBase.getD (128 * ld)

/-- Source number of a logical device (R159). -/
def srcOf (l ld : Nat) : Nat := l * 16 + ld

/-! ### Interrupts (R57 to R60) -/

/-- Interrupt on vector index k of a logical device: a message, or its pending bit where the vector is masked (R60). -/
def Dev.interrupt (d : Dev) (l ld k : Nat) : Dev :=
  let x := d.ld l ld
  if x.msixOn && x.unmasked.contains k then
    (d.emit (.msix l (x.base ld + k))).bump (128 + 16 * l + 8)
  else d.setLd l ld { x with pendVec := x.pendVec.filter (· != k) ++ [k] }

/-! ### Grottos -/

def Dev.grotto? (d : Dev) (g : Nat) : Option Grotto := mget d.grottos g
def Dev.grotto (d : Dev) (g : Nat) : Grotto := mgetD d.grottos g {}
def Dev.setGrotto (d : Dev) (g : Nat) (x : Grotto) : Dev := { d with grottos := mset d.grottos g x }
def Dev.modGrotto (d : Dev) (g : Nat) (f : Grotto → Grotto) : Dev :=
  match d.grotto? g with
  | some x => d.setGrotto g (f x)
  | none => d

/-- Pages in a 256 MiB unit, and lines in one. -/
def unitPages : Nat := 65536
def unitLines : Nat := unitPages * 64
def unitBytes : Nat := unitPages * 4096

/-- Key of a grotto line, of a grotto page, and of a page's line. -/
def lineKey (g line : Nat) : Nat := g * 2 ^ 39 + line
def keyGrotto (k : Nat) : Nat := k / 2 ^ 39
def keyLine (k : Nat) : Nat := k % 2 ^ 39
def pageKey (g page : Nat) : Nat := g * 2 ^ 33 + page

/-- Device offset of a grotto line in the pool-global numbering (R444). -/
def Dev.devOffset (d : Dev) (g line : Nat) : Nat := (d.grotto g).mapBase * 4096 + line * 64

/-! ### Fault records (R485 to R494) -/

/-- A happening before it is numbered. -/
structure Hap where
  code   : Nat
  cls    : Nat
  unit   : Nat
  att    : Nat := 0
  akind  : Nat := 0
  addr   : Nat := 0
  grotto : Option Nat := none
  detail : Nat := 0
  deriving DecidableEq, Repr

/-- The event log of a class (R65): Informational 0, Warning 1, Failure 2, Fatal 3. -/
def logOfClass : Nat → Option Nat
  | 1 => some 0
  | 2 => some 1
  | 3 => some 2
  | 4 => some 3
  | _ => none

/-- Add a record to a log of a logical device; a log that becomes non-empty signals vector 0 if the policy enables it (R66). -/
def Dev.logAdd (d : Dev) (l ld log : Nat) (r : LogRec) : Dev :=
  let x := d.ld l ld
  let g := mgetD x.logs log {}
  if g.recs.length ≥ 64 then
    let t := d.timeNs
    let g1 : EvLog := { g with overflow := g.overflow + 1, first := if g.overflow = 0 then t else g.first, last := t }
    d.setLd l ld { x with logs := mset x.logs log g1 }
  else
    let d1 := d.setLd l ld { x with logs := mset x.logs log { g with recs := g.recs ++ [r] } }
    if g.recs.isEmpty && x.policy.getLsbD log then d1.interrupt l ld 0 else d1

/-- The logical devices whose logs take a record (R65): those attached to its grotto, or all. -/
def Dev.logTargets (d : Dev) (g : Option Nat) : List (Nat × Nat) :=
  match g with
  | some n => (d.grotto n).attaches.map fun a => (a.link, a.ld)
  | none => d.allLds

/-- The DPA at a logical device of what a record names by its device offset (R444, R39). -/
def Dev.dpaOf (d : Dev) (l ld : Nat) (r : FaultRec) : Option Nat :=
  if r.akind = 1 then r.grotto.bind fun g =>
    let x := d.grotto g
    (x.attaches.find? fun a => a.link == l && a.ld == ld).map fun a => a.base + (r.addr - x.mapBase * 4096)
  else none

/-- The type of record that the event log of a class takes (R65): a memory error is a DRAM event where the fault's code is one of the channels',
else General Media; what names no DPA of the logical device in the Failure log is a Memory Module event. -/
def logKind (r : FaultRec) (dpa : Option Nat) : LogKind :=
  match r.cls with
  | 1 => if r.code / 0x1000 = 1 then .dramEvent else .generalMedia
  | 3 => if dpa.isSome then .generalMedia else .memoryModule
  | _ => .memoryModule

/-- Copy a fault record to the event logs (R65). No field of a fault record tells the transaction, so that its type stays unknown. -/
def Dev.logCopy (d : Dev) (r : FaultRec) : Dev :=
  match logOfClass r.cls with
  | some log => (d.logTargets r.grotto).foldl (fun d t =>
      let dpa := d.dpaOf t.1 t.2 r
      d.logAdd t.1 t.2 log { kind := logKind r dpa, fault := r, dpa := if logKind r dpa = .memoryModule then none else dpa }) d
  | none => d

/-- Records not yet consumed (R489). -/
def Faults.unconsumed (f : Faults) : Nat := (f.total - f.consumed).toNat

/-- The status bit of a class (R492). -/
def statusBit (cls : Nat) : BitVec 8 := 1#8 <<< (3 + cls)

/-- Number a record with its tick and fine count (R418, R488). -/
def Dev.number (d : Dev) (h : Hap) : FaultRec × Dev :=
  let t := d.lamp
  let fine := if d.faults.lastTick = t ∧ d.faults.total ≠ 0 then d.faults.fine + 1 else 0
  ({ fine := fine, lamp := t, code := h.code, cls := h.cls, att := h.att, akind := h.akind, grotto := h.grotto,
     seq := d.faults.total.toNat % 65536, unit := h.unit, addr := h.addr, detail := h.detail },
   { d with faults := { d.faults with lastTick := t, fine := fine } })

/-- Enter a record into the history queue under R489 and R490. -/
def Dev.enter (d : Dev) (r : FaultRec) (always : Bool) : Dev :=
  let f := d.faults
  if always || decide (f.unconsumed < 24) then
    let f1 : Faults := { f with
      hist := (f.hist ++ [r]).drop (f.hist.length + 1 - 32), total := f.total + 1 }
    if f.unconsumed ≥ 32 then
      ({ d with faults := { f1 with
          overwritten := min (f.overwritten + 1) (2 ^ 32 - 1), status := f1.status ||| 0x04#8 } }).bump 6
    else { d with faults := f1 }
  else
    ({ d with faults := { f with
        dropped := min (f.dropped + 1) (2 ^ 32 - 1), status := f.status ||| 0x02#8 } }).bump 5

/-- The end of DOZE (R73, R134): links go back to full width and ranks leave power-down. -/
def Dev.endDoze (d : Dev) : Dev :=
  let d1 := d.links.foldl (fun (d : Dev) e => if e.2.narrow then (d.setLink e.1 { e.2 with narrow := false }).bump (128 + 16 * e.1 + 9) else d) d
  { d1 with chans := d1.chans.map fun e => (e.1, if e.2.sub = 1 then { e.2 with sub := 0 } else e.2) }

/-- Forward bias, as the mode, the junction and the estimate allow it (R544). -/
def Power.bias (p : Power) : Power :=
  let hot := if 105 + 64 ≤ p.junction then true else if p.junction ≤ 100 + 64 then false else p.biasHot
  { p with biasHot := hot, fwdOn := p.fwdOk && p.mode == .run && !hot && decide (p.estimate < p.cap) }

/-- A wake event (R536 to R538): it ends DOZE at once, is latched while DEEP is being entered, and starts the exit of DEEP. -/
def Dev.wake (d : Dev) (src detail : Nat) : Dev :=
  let p := d.power
  if p.entering = 1 then
    { d with power := { p with latch := match p.latch with
        | some x => some x
        | none => some (src, detail) } }
  else
    let q : Power := { p with wakeSrc := src, wakeReplayed := false, wakeDetail := detail, wakeTick := d.lamp }
    match p.mode with
    | .doze => { d.endDoze with power := ({ q with mode := .run } : Power).bias }
    | .deep => if p.entering = 0 then { d with power := { q with entering := 2 } } else d
    | _ => d

/-- Whether requests must wait for the end of DEEP (R528, R530). -/
def Dev.asleep (d : Dev) : Bool := d.power.entering != 0 || d.power.mode == .deep

/-- RUN or DOZE with no DEEP entry under way: the data path works. -/
def Dev.awake (d : Dev) : Bool := (d.power.mode == .run || d.power.mode == .doze) && d.power.entering == 0

/-- Engines, units and movers may issue: the limits of R545 and R546 leave some of it. -/
def Dev.mayWork (d : Dev) : Bool := decide (max d.power.throttle d.power.hotLimit < 8)

/-- BOOT, RUN, DOZE or DEEP: the core has power and is not held in reset. -/
def Dev.live (d : Dev) : Bool := d.power.mode != .off && d.power.mode != .hold

/-- Raise a fault or record an EVENT (R485 to R490): count it, set its status bit, enter it in the history queue, and copy
it to the event logs (R65). A FATAL record is copied after the fast boot. -/
def Dev.raise (d : Dev) (h : Hap) : Dev :=
  let (r, d1) := d.number h
  let d2 := (d1.bump h.cls)
  let d3 := { d2 with faults := { d2.faults with status := d2.faults.status ||| statusBit h.cls } }
  let d4 := d3.enter r (decide (2 ≤ h.cls) || h.code == 2)
  let d4 := if 2 ≤ h.cls then d4.wake 7 h.cls else d4
  if h.cls = 4 then { d4 with power := { d4.power with fatalRecs := d4.power.fatalRecs ++ [r] } }
  else d4.logCopy r

/-- An EVENT of code 0x0001 (R487). -/
def Dev.event (d : Dev) (unit : Nat) (akind : Nat := 0) (addr : Nat := 0) (detail : Nat := 0)
    (g : Option Nat := none) : Dev :=
  d.raise { code := 1, cls := 0, unit := unit, akind := akind, addr := addr, grotto := g, detail := detail }

/-- Units of R486. -/
def unitLink (l : Nat) : Nat := 0x10 + l
def unitEv (p : Nat) : Nat := 0x20 + p
def unitChan (c : Nat) : Nat := 0x100 + c
def unitNc (s : Nat) : Nat := 0x200 + s
def unitDir (s : Nat) : Nat := 0x210 + s
def unitEngine (x : Nat) : Nat := 0x300 + x
def unitMover (m : Nat) : Nat := 0x360 + m
def unitMap : Nat := 0x380
def unitGrottoTable : Nat := 0x381
def unitKeyTable : Nat := 0x382
def unitQueue : Nat := 0x383
def unitRegs : Nat := 0x385

/-! ### Home slices: which one (R19) -/

/-- Home slice of a grotto line: the exclusive or of four nibbles of its offset and the low bits of the grotto. -/
def homeSlice (g line : Nat) : Nat :=
  bitsOf line 3 0 ^^^ bitsOf line 7 4 ^^^ bitsOf line 11 8 ^^^ bitsOf line 15 12 ^^^ bitsOf g 3 0

/-- Near-cache set and directory set of a line (R156). -/
def ncSet (line : Nat) : Nat := bitsOf line 15 4
def dirSet (line : Nat) : Nat := bitsOf line 17 4

/-! ### Poison lists (R477) -/

/-- Take a line out of a list (R476); a run that splits in a full list loses its upper part to the overflow flag. -/
def Ld.poisonDel (x : Ld) (line now : Nat) : Ld :=
  let rs := x.poison.flatMap fun r =>
    if r.dpaLine ≤ line ∧ line < r.dpaLine + r.count then
      (if r.dpaLine < line then [⟨r.dpaLine, line - r.dpaLine, r.source⟩] else []) ++
      (if line + 1 < r.dpaLine + r.count then [⟨line + 1, r.dpaLine + r.count - (line + 1), r.source⟩] else [])
    else [r]
  if rs.length ≤ 256 then { x with poison := rs }
  else { x with poison := rs.take 256, poisonOver := true, poisonTime := if x.poisonOver then x.poisonTime else now }

/-- Add a line to a logical device's list: with the records of the same source that it is adjacent to, it makes one. -/
def Ld.poisonAdd (x : Ld) (line source now : Nat) : Ld :=
  if x.poison.any fun r => r.source == source && decide (r.dpaLine ≤ line ∧ line < r.dpaLine + r.count) then x
  else
    let y := x.poisonDel line now
    let low := y.poison.find? fun r => r.source == source && r.dpaLine + r.count == line
    let high := y.poison.find? fun r => r.source == source && r.dpaLine == line + 1
    let rest := y.poison.filter fun r => some r != low && some r != high
    let r : PoisonRec := {
      dpaLine := (low.map (·.dpaLine)).getD line, source := source,
      count := (low.map (·.count)).getD 0 + 1 + (high.map (·.count)).getD 0 }
    if rest.length < 256 then { y with poison := rest ++ [r] }
    else { y with poisonOver := true, poisonTime := if y.poisonOver then y.poisonTime else now }

/-- The attachments through which a line of a grotto is seen: the owner all of it, the others committed capacity (R39). -/
def Grotto.seenBy (x : Grotto) (line : Nat) : List Attach :=
  x.attaches.filter fun a => (a.link == x.ownerLink && a.ld == x.ownerLd) || decide (line < x.committed * unitLines)

def Dev.poisonList (d : Dev) (g line source : Nat) : Dev :=
  ((d.grotto g).seenBy line).foldl
    (fun d a => d.setLd a.link a.ld ((d.ld a.link a.ld).poisonAdd (a.base / 64 + line) source d.timeNs)) d

def Dev.poisonUnlist (d : Dev) (g line : Nat) : Dev :=
  ((d.grotto g).seenBy line).foldl
    (fun d a => d.setLd a.link a.ld ((d.ld a.link a.ld).poisonDel (a.base / 64 + line) d.timeNs)) d

/-- A line of a grotto was poisoned: CONTAINED record with its device offset, and the poison list. -/
def Dev.contain (d : Dev) (code unit att g line source : Nat) (detail : Nat := 0) : Dev :=
  (d.raise { code := code, cls := 3, unit := unit, att := att, akind := 1, addr := d.devOffset g line, grotto := some g,
             detail := detail }).poisonList g line source

/-! ### Channels -/

def Dev.chan (d : Dev) (c : Nat) : Chan := mgetD d.chans c {}
def Dev.setChan (d : Dev) (c : Nat) (x : Chan) : Dev := { d with chans := mput d.chans {} c x }

/-- Channel and index of a frame number (R85). -/
def frameChan (f : Nat) : Nat := f / 2 ^ 28
def frameIdx (f : Nat) : Nat := f % 2 ^ 28
def mkFrame (c i : Nat) : Nat := c * 2 ^ 28 + i

/-- Frames of the reserved region on each channel (R82): the page-map area and 1 GiB over the channels populated at BOOT. -/
def Dev.resvFrames (d : Dev) : Nat :=
  let n := d.mem.resvChans.length
  if n = 0 then 0 else ceilDiv (d.mem.ceiling * unitPages * 8 / 4096 + 262144) n

/-! ### DRAM coordinates (R120, R121) -/

structure Coord where
  sub  : Nat
  rank : Nat
  bg   : Nat
  bank : Nat
  row  : Nat
  col  : Nat
  deriving DecidableEq, Repr

/-- log2 of a power of two up to 16. -/
def log2c : Nat → Nat
  | 16 => 4
  | 8 => 3
  | 4 => 2
  | 2 => 1
  | _ => 0

/-- Coordinates of line n of frame index i in a channel of so many logical ranks. -/
def coordOf (ranks i n : Nat) : Coord :=
  let l := 32 * i + n / 2
  let r := log2c ranks
  let row := l >>> (12 + r)
  { sub := n % 2
    rank := (l >>> 12) % 2 ^ r
    bg := (bitsOf l 5 5 * 4 + bitsOf l 1 0) ^^^ bitsOf row 2 0
    bank := bitsOf l 11 10 ^^^ bitsOf row 4 3
    row := row
    col := (bitsOf l 9 6 * 8 + bitsOf l 4 2) * 16 }

/-- The detail word of codes 0x1001 to 0x1006 (R488). -/
def dramDetail (ch : Nat) (c : Coord) (devs : Nat) : Nat :=
  ch <<< 60 ||| c.sub <<< 59 ||| c.rank <<< 55 ||| c.bg <<< 52 ||| c.bank <<< 50 ||| c.row <<< 32 ||| c.col <<< 21 ||| devs

/-! ### Instructions whose effect stands (R285, R290, R299) -/

def Op.isWrite : Op → Bool
  | .write .. | .victim .. | .wb .. => true
  | _ => false

def isFault (status : Nat) : Bool := decide (0x200 ≤ status ∧ status < 0x300)

def Issued.done (i : Issued) : Bool := i.state == .completed || i.state == .recorded

/-- A completion record is written (R290). -/
def Issued.records (i : Issued) : Bool := i.word.sig || i.opcode == 0x03 || isFault i.res.status

/-- An interrupt follows the record (R319). -/
def Issued.interrupts (i : Issued) : Bool := (i.opcode == 0x03 && i.word.mod.getLsbD 0) || isFault i.res.status

def Req.isBy (r : Req) (who : Who) : Bool := r.who == who && r.op.isWrite

/-- Whether some request that the device has accepted and not finished satisfies a test. -/
def Dev.anyReq (d : Dev) (hit : Req → Bool) : Bool :=
  let p := d.pages
  p.fills.any (fun x => x.waiting.any hit) || p.mapWait.any hit || p.frameWait.any hit || p.creditWait.any hit ||
    p.promos.any (fun x => x.held.any hit) || p.recomps.any (fun x => (!x.committed && x.merged.any hit) || x.later.any hit) ||
    p.moves.any (fun x => x.held.any hit) || p.fars.any (fun x => hit x.req) || p.mirrorWait.any (fun x => hit x.2.2) ||
    d.slices.slotWait.any hit || d.slices.resume.any (fun x => hit x.2) ||
    d.slices.dir.any (fun e => (e.2.track.cause.any hit) || e.2.track.parked.any hit) ||
    d.ev.rope.pages.any (fun x => x.waiting.any hit)

/-- Whether a request came from a link. -/
def Req.fromLink (r : Req) (l : Nat) : Bool :=
  match r.who with
  | .host h => h.link == l
  | _ => false

/-- Requests that the device has accepted and not finished, where each is. -/
def Dev.requests (d : Dev) : List Req :=
  let p := d.pages
  p.fills.flatMap (·.waiting) ++ p.mapWait ++ p.frameWait ++ p.creditWait ++ p.dreads.map (·.req) ++ p.sreads.map (·.req) ++
    p.fars.map (·.req) ++ p.mirrorWait.map (·.2.2) ++ p.promos.flatMap (·.held) ++ p.moves.flatMap (·.held) ++
    p.recomps.flatMap (fun x => (if x.committed then [] else x.merged) ++ x.later) ++ d.slices.slotWait ++
    d.slices.dir.flatMap (fun e => e.2.track.cause.toList ++ e.2.track.parked) ++ d.ev.rope.pages.flatMap (·.waiting)

/-- The rows that are CXL.mem requests: header, HPA, and operation, none for BIConflict. -/
def memReqOf : Instr → Option (MemHdr × BitVec 64 × Option Op)
  | .rds h a => some (h, a, some .readS)
  | .rde h a => some (h, a, some .readE)
  | .rdi h a => some (h, a, some .readI)
  | .wb h a data poison leaveS => some (h, a, some (.wb data poison leaveS))
  | .memclnevct h a => some (h, a, some .clean)
  | .wrnc h a mask data poison => some (h, a, some (.write mask data poison))
  | .biconflict h a => some (h, a, none)
  | _ => none

/-- Whether a message takes a CXL.mem credit slot: a request, not BIConflict. -/
def takesSlot (c : Instr) : Bool := (memReqOf c).any fun x => x.2.2.isSome

/-- The logical device whose mailbox a command is written to, and the PBR ID it names. -/
def mailTo : Instr → Option (Nat × Nat × BitVec 12)
  | .identify l x p | .backgroundOperationStatus l x p | .getEventRecords l x _ p | .clearEventRecords l x _ _ p |
    .getEventInterruptPolicy l x p | .setEventInterruptPolicy l x _ p | .identifyMemoryDevice l x p | .getPoisonList l x _ _ p |
    .injectPoison l x _ p | .clearPoison l x _ _ p | .getScanMediaCapabilities l x _ _ p | .scanMedia l x _ _ p |
    .getScanMediaResults l x p | .sanitize l x p | .secureErase l x p | .getDynamicCapacityConfiguration l x p |
    .getDynamicCapacityExtentList l x _ _ p | .addDynamicCapacityResponse l x _ p | .releaseDynamicCapacity l x _ _ p |
    .unsupportedMailboxCommand l x _ p => some (l, x, p)
  | _ => none

/-- The link of a command that its port has taken and that is not served yet. -/
def cmdLink : Instr → Option Nat
  | .rds h _ | .rde h _ | .rdi h _ | .wb h .. | .memclnevct h _ | .wrnc h .. | .biconflict h _ => some h.link
  | .pmeTurnOff l _ | .decoderCommit l .. | .decoderUncommit l .. | .vectorUnmask l .. => some l
  | .dbTailWrite l .. | .qRunSet l .. | .qRunClear l .. | .crConsumedWrite l .. => some l
  | .registerWrite v .. | .faultConsumedWrite v .. | .faultStatusRead v _ | .chFaultRead v .. | .evFaultRead v .. | .classStatusRead v _ |
    .pwrRetainRead v _ | .cntWrapRead v .. | .devTagWrite v .. | .cntClearAll v | .cntClearRange v .. | .cntChain v .. | .cntUnchain v .. |
    .cntSetMode v _ | .cntSetBandwidthWindow v _ | .cntSurvey v => if v.mgmt then none else some v.link
  | c => (mailTo c).map (·.1)

/-- CXL.mem credit slots that requests of a link hold (R27, R28): each from its arrival until its answer. A request for a remote page
keeps its slot, and takes none of another port. -/
def Dev.slotsUsed (d : Dev) (l : Nat) : Nat :=
  (d.requests.filter (·.fromLink l)).length + ((d.link l).epoch.filter takesSlot).length +
    (d.late.filter fun c => takesSlot c && cmdLink c == some l).length

/-- No credit slot is free for a request of a link: its sender holds it (R27). -/
def Dev.noSlot (d : Dev) (l : Nat) : Bool :=
  decide ((if d.split (portOf l) then 1024 else 2048) ≤ d.slotsUsed l) || decide (8192 ≤ ((List.range 8).map d.slotsUsed).sum)

/-- Whether writes of an agent have not taken effect yet. -/
def Dev.outstanding (d : Dev) (who : Who) : Bool := d.anyReq fun r => r.isBy who

/-- Whether a waiting instruction waits for something that tells it itself: a move, a rope, DEEP. -/
def Dev.toldLater (d : Dev) (q : Nat) (pos : BitVec 32) : Bool :=
  d.pages.moves.any (fun m => m.issuer == some (q, pos)) || d.ev.rope.forming.any (fun f => f.2 == (q, pos)) ||
    d.power.deepIssuer == some (q, pos)

/-- A word that its rule names, or a free one. -/
def Dev.orFree (d : Dev) : Option Word → Word × Dev
  | some y => (y, d)
  | none => d.freeWord

/-- The result words of an instruction whose record is to be written (R291): those that no rule names are free (log 81). -/
def Dev.named (d : Dev) (i : Issued) : Issued × Dev :=
  if i.records then
    let (a, d0) := d.orFree i.res.r0
    let (b, d1) := d0.orFree i.res.r1
    let (c, d2) := d1.orFree i.res.r2
    ({ i with res := { i.res with r0 := some a, r1 := some b, r2 := some c } }, d2)
  else (i, d)

/-- The same for all that a queue has issued. -/
def Dev.nameIssued (d : Dev) (q : Nat) (x : Queue) : Dev :=
  let (is, e) := x.issued.foldl (fun (acc : List Issued × Dev) i => let (j, h) := acc.2.named i; (acc.1 ++ [j], h)) ([], d)
  e.onQueues fun k => { k with qs := mset k.qs q { x with issued := is } }

/-- The journal entry of an instruction (R299): its result registers, and its record if it writes one. -/
def Queue.entryOf (x : Queue) (i : Issued) : JEntry := {
  pos := i.pos, iter := i.iter, regs := i.res.regs, irq := i.interrupts,
  rec? := if i.records then some {
      count := x.written, pos := i.pos, status := i.res.status, opcode := i.opcode, r0 := i.res.r0.getD 0, r1 := i.res.r1.getD 0, r2 := i.res.r2.getD 0,
      irq := i.interrupts }
    else none }

/-- At the cut, a journaled instruction whose effect is applied commits its entry (R193, R300): it does not run again. -/
def Dev.cutJournals (d : Dev) : Dev :=
  let e := d.onPages fun p => { p with mirrorWait := [] }
  let d0 := d.queues.qs.foldl (fun (h : Dev) n => if n.2.issued.isEmpty then h else h.nameIssued n.1 n.2) d
  d0.onQueues fun k => { k with qs := k.qs.map fun n =>
    (n.1, n.2.issued.foldl (fun (x : Queue) i =>
      if i.state = .applied ∧ i.journ ∧ !isFault i.res.status ∧ !e.outstanding (.engine n.1 i.pos) ∧ !d.toldLater n.1 i.pos then
        { x with journal := mset x.journal (i.pos.toNat % 64) (x.entryOf i) }
      else x) n.2) }

/-- Order of the writers of queue 0 (R266). -/
def Writer.turn : Writer → Nat
  | .dispatcher .. => 0
  | .flowstone => 1
  | .firmware => 2

/-- Put a run among those waiting for queue 0 of a port (R266). -/
def Dev.queueRun (d : Dev) (port : Nat) (r : Run) : Dev :=
  { d with queues := { d.queues with q0Wait := mmod d.queues.q0Wait port [] (· ++ [r]) } }

/-! ### The HOLD cut (R405) -/

/-- A directory entry at the cut: B goes back to what stood before its round (R193). -/
def DirEntry.atCut (e : DirEntry) : DirEntry :=
  match e.st with
  | .B => { e with st := if e.track.priorE then .E else .S, sharers := e.track.prior, bcast := e.track.priorBc, track := {} }
  | _ => e

/-- At the cut, a mailbox command whose writes are still on their way runs again after the fast boot (R65). -/
def Dev.cutMailboxes (d : Dev) : Dev :=
  let e := d.onPages fun p => { p with mirrorWait := [] }
  { d with lds := d.lds.map fun k => (k.1, match k.2.mbox with
      | some (c, _, _) => if e.outstanding (.mbox (k.1 / 17) (k.1 % 17)) then { k.2 with mbox := none, mboxWait := some (c, true) } else k.2
      | none => k.2) }

/-- A link at the cut (R72, R56): receivers present no termination and transmitters are idle, so the link is down; its IDE keys are lost;
its configuration, PBR ID, BI enable and BI-ID stay. -/
def Link.atHold (k : Link) : Link := { k with
  up := false, cxl := false, rate := 0, width := 0, narrow := false, inL1 := false, pme := false, macError := false,
  cacheIde := {}, ioIde := {}, epoch := [] }

/-- Draw the cut, the HOLD counted and recorded: what is parked, held or waits for a frame is discarded, uncommitted recompressions too; atomics leave D with
their journal entries; test features disarm (R356); the ports stop, the mode becomes HOLD and the sequencer runs. trig is 0 RESET_N, 1 HOLD_REQ_N,
2 PWR_WARN_N, 3 thermal trip, 4 FATAL. -/
def Dev.holdCut (d : Dev) (trig : Nat) : Dev :=
  if d.power.mode == .hold || d.power.mode == .off then d
  else
    let d0 := ((d.bump 8).raise { code := 2, cls := 0, unit := 0, detail := trig }).cutJournals.cutMailboxes
    let p := d0.pages
    let pg : Pages := { p with
      fills := [], mapWait := [], dreads := [], sreads := [], fars := [], frameWait := [], creditWait := [],
      promos := p.promos.map (fun x => { x with held := [] }),
      recomps := (p.recomps.filter (·.committed)).map (fun x => { x with later := [] }),
      moves := p.moves.map (fun x => { x with held := [] }),
      plans := [], mirrorWait := [], farBuf := [] }
    let sl : Slices := { d0.slices with
      slotWait := [], snoops := [], locks := [],
      dir := ((d0.slices.dir.filter fun e => e.2.st != .D).map fun e => (e.1, e.2.atCut)).filter fun e => e.2.bcast || !e.2.sharers.isEmpty }
    let d1 : Dev := { d0 with
      power := { d0.power with
        mode := .hold, holdSeq := 1, lastTrig := trig, fromBoot := d.power.mode == .boot, entering := 0, latch := none, deepIssuer := none },
      pages := pg, slices := sl, faults := { d0.faults with armed := [], arrays := [] },
      links := d0.links.map (fun e => (e.1, e.2.atHold)), late := [], unsent := [] }
    d1

/-- The FATAL lockout (R534): a FATAL fault within 60 s of the RUN entry that followed a FATAL HOLD. -/
def Dev.lockCheck (d : Dev) : Dev :=
  let p := d.power
  if p.lastTrig = 4 ∧ d.lamp ≤ p.runTick + 60 * 32768 ∧ p.mode ≠ .boot then d.onPower fun p => { p with lockout := true } else d

/-- A FATAL fault: HOLD; in BOOT the device stays there (R480). -/
def Dev.fatal (d : Dev) (h : Hap) : Dev :=
  let d1 := d.raise { h with cls := 4 }
  if d1.power.mode == .boot then d1.onPower fun p => { p with bootOk := false } else d1.lockCheck.holdCut 4

/-! ### Causes and the ALARM pin (R492, R493) -/

/-- Q_g, the reserve of a grotto (capacity accounting). -/
def Grotto.accPages (x : Grotto) : Nat := (x.accepted.map (·.2)).sum * unitPages
def Grotto.reserve (x : Grotto) : Nat :=
  if x.state = 0 then 0 else x.committed * unitPages + ceilDiv (x.accPages * (if x.copy then 100 else x.coverage)) 100

/-- U_g. -/
def Grotto.used (x : Grotto) : Nat := if x.state = 0 then 0 else x.held

/-- P: frames available for data. -/
def Dev.dataFrames (d : Dev) : Nat :=
  d.mem.phys - d.resvFrames * (d.chans.filter fun e => e.2.state == 3).length - d.mem.retired.length - d.mem.lost

/-- Guest quota of a port in frames (R244), a reserve of Σ Q (R259). -/
def Dev.quota (d : Dev) (port : Nat) : Nat := (if port = 0 then d.flow.quota0 else d.flow.quota1) * unitPages
def Dev.guestsOf (d : Dev) (port : Nat) : Nat := (d.mem.guests.filter fun e => e.2 == port).length

/-- Σ Q_g with the guest quotas (R103, R259). -/
def Dev.sumReserve (d : Dev) : Nat := (d.grottos.map fun e => e.2.reserve).sum + d.quota 0 + d.quota 1

def Dev.anyFenced (d : Dev) : Bool := d.grottos.any fun e => e.2.state == 2 || e.2.attaches.any (·.fenced)

/-- Whether an Evoil port matters: a rope or spill permission on it. -/
def Dev.evUsed (d : Dev) (p : Nat) : Bool :=
  (if p = 0 then d.ev.p0.spillOk else d.ev.p1.spillOk) ||
    (d.ev.rope.state != 0 && (d.ev.rope.port == p || d.ev.rope.both))

def EvPort.bad (x : EvPort) (used : Bool) : Bool := (x.state == 0 && used) || (x.state != 0 && x.narrow)

/-- FAULT_CAUSE (R492). -/
def Dev.faultCause (d : Dev) : BitVec 9 :=
  let chan := d.chans.any fun e =>
    e.2.state == 1 || e.2.state == 4 || !e.2.ranksOut.isEmpty || (e.2.fault &&& 0x30#8) != 0
  let link := (List.range 8).any fun l =>
    let k := d.link l
    k.up && (!k.cxl || decide (k.width < (if d.split (portOf l) then 8 else 16)) || decide (k.rate < 128000))
  let b (x : Bool) (i : Nat) : BitVec 9 := if x then 1#9 <<< i else 0
  b chan 0 ||| b (decide (d.sumReserve > d.dataFrames)) 1 ||| b link 2 |||
    b (d.ev.p0.bad (d.evUsed 0) || d.ev.p1.bad (d.evUsed 1)) 3 |||
    b (d.ev.rope.state == 2 || d.ev.rope.state == 3) 4 ||| b (!d.faults.fenced.isEmpty) 5 |||
    b (d.chans.any fun e => e.2.over95) 6 ||| b d.fwDown 7 ||| b d.anyFenced 8

/-- Whether ALARM is released (high): R493. -/
def Dev.alarm (d : Dev) : Bool :=
  d.power.resetLow || d.power.mode == .off || d.power.mode == .hold || (d.faults.status &&& 0xE0#8) != 0

/-! ### Passing time -/

/-- Trackers in use in a home slice (R164). -/
def Dev.trackersUsed (d : Dev) (sl : Nat) : Nat :=
  (d.slices.dir.filter fun e => (e.2.st == .B || e.2.st == .D) && homeSlice (keyGrotto e.1) (keyLine e.1) == sl).length

/-- The counts of time (R155, R464, R510): channels in self-refresh, Evoil ports with a flit that waits and no credit, engines whose 32
contexts are all bound, links with a request that waits for a credit slot, in microseconds; and home slices whose 1,024 trackers are all in
use, in cycles of CORECLK at 2.0 GHz (15). -/
def Dev.tickCounts (d : Dev) (us : Nat) : Dev :=
  let d1 := d.chans.foldl (fun (h : Dev) e => if e.2.sub = 2 ∨ e.2.sub = 3 then h.bump (256 + 16 * e.1 + 8) us else h) d
  let d2 := [(0, d.ev.p0), (1, d.ev.p1)].foldl (fun (h : Dev) e =>
    if e.2.state = 2 ∧ e.2.txq ≠ [] ∧ 512 ≤ (e.2.nextSeq - e.2.limit).toNat then h.bump (512 + 16 * e.1 + 14) us else h) d1
  let d3 := (List.range 16).foldl (fun (h : Dev) x =>
    if (d.queues.qs.filter fun e => e.2.ctx.any fun c => c / 32 == x).length = 32 then h.bump (832 + 16 * x + 7) us else h) d2
  let d4 := (List.range 8).foldl (fun (h : Dev) l =>
    if d.unsent.any fun c => cmdLink c == some l then h.bump (128 + 16 * l + 10) us else h) d3
  (List.range 16).foldl (fun (h : Dev) s => if 1024 ≤ d.trackersUsed s then h.bump (576 + 16 * s + 11) (2000 * us) else h) d4

/-- One tick of LAMPCLK (R547): the counts of microseconds (R510) grow with it. -/
def Dev.tick (d : Dev) : Dev :=
  if d.power.lampOn && d.power.crystal then
    let t := d.power.ticks
    let us := (t + 1) * 1000000 / 32768 - t * 1000000 / 32768
    let d1 : Dev := { d with power := { d.power with ticks := t + 1 } }
    match d.power.mode with
    | .doze => (d1.tickCounts us).bump 11 us
    | .deep => (d1.tickCounts us).bump 12 us
    | .run | .boot => d1.tickCounts us
    | _ => d1
  else d

end Sys2Proof.Machine
end

