-- ==== Sys2Proof/Machine/Memory.lean ====
section
/-!
DEFINITION. Page-map entries and the map cache, frame pools and accounting, keys and tweaks, and DRAM lines with their
codes, injected errors, retries and repairs.
-/
namespace Sys2Proof.Machine

/-! ### Injected errors (R472, R495, R496) -/

/-- The feature armed on a unit. -/
def Dev.armedOn (d : Dev) (u : Nat) : Option Armed := d.faults.armed.find? fun a => a.unit == u
def Dev.disarm (d : Dev) (u : Nat) : Dev :=
  { d with faults := { d.faults with armed := d.faults.armed.filter fun a => a.unit != u } }

/-- Take a flip mask armed on a unit at a write: EVENT 0x0F01 (R495). -/
def Dev.takeFlip (d : Dev) (u akind addr : Nat) : Option (Nat × Word × Word) × Dev :=
  match d.armedOn u with
  | some { word := w, flip := some (m, c), .. } =>
    (some (w, m, c), (d.disarm u).raise { code := 0x0F01, cls := 0, unit := u, akind := akind, addr := addr })
  | _ => (none, d)

/-- Take inverted check bits armed on a unit at a read: EVENT 0x0F02 (R496). -/
def Dev.takeInvert (d : Dev) (u akind addr : Nat) : Bool × Dev :=
  match d.armedOn u with
  | some { flip := none, .. } => (true, (d.disarm u).raise { code := 0x0F02, cls := 0, unit := u, akind := akind, addr := addr })
  | _ => (false, d)

/-- Bits that a flip mask puts in error in a word-coded array (R495). -/
def flipBits (m c : Word) : Nat := popCount m.toNat 64 + popCount (c.toNat % 256) 8

/-- A write to a word-coded array: the bits that an armed flip mask puts in error. -/
def Dev.arrayWrite (d : Dev) (u : Nat) : Nat × Dev :=
  match d.takeFlip u 0 0 with
  | (some (_, m, c), d1) => (flipBits m c, d1)
  | (none, d1) => (0, d1)

/-- Inverted check bits at a read of an array other than DRAM and the near cache: the retry is clean (R472, R496). -/
def Dev.arrayRead (d : Dev) (u code : Nat) : Dev :=
  match d.takeInvert u 0 0 with
  | (true, d1) => d1.raise { code := code, cls := 1, unit := u, att := 2 }
  | (false, d1) => d1

/-- A lasting error of an array (R472). -/
def Dev.arrayFault (d : Dev) (u : Nat) (g : Option Nat) : Dev :=
  d.raise { code := 0x4003, cls := 3, unit := u, att := 2, grotto := g }

/-- A write of the map cache: an entry in error is dropped and read again, or its word fixed (R472). -/
def Dev.mapArray (d : Dev) : Dev :=
  match d.arrayWrite unitMap with
  | (0, d1) => d1
  | (_, d1) => d1.raise { code := 0x2001, cls := 1, unit := unitMap, att := 2 }

/-! ### Page-map entries (R83, R85) -/

def peCommit (w : Word) : Bool := w.getLsbD 63
def peState (w : Word) : Nat := bitsOf w.toNat 62 60
def peHeat (w : Word) : BitVec 8 := BitVec.ofNat 8 (bitsOf w.toNat 59 52)
def peGen (w : Word) : BitVec 8 := BitVec.ofNat 8 (bitsOf w.toNat 51 44)
def peSrc (w : Word) : Nat := bitsOf w.toNat 43 42
def peLoc (w : Word) : Nat := bitsOf w.toNat 37 0

def mkEntry (commit : Bool) (state : Nat) (heat gen : BitVec 8) (src loc : Nat) : Word :=
  BitVec.ofNat 64 ((if commit then 2 ^ 63 else 0) + (state % 8) * 2 ^ 60 + heat.toNat * 2 ^ 52 + gen.toNat * 2 ^ 44 +
    (src % 4) * 2 ^ 42 + loc % 2 ^ 38)

/-- An entry that no write has reached: unbacked, generation 0, committed (log 11). -/
def freshEntry : Word := mkEntry true 0 0 0 0 0

/-- R91: a reserved state or source encoding, or a nonzero reserved field. -/
def peCorrupt (w : Word) : Bool :=
  let s := peState w
  let l := peLoc w
  decide (s = 6 ∨ s = 7) || (if s = 5 then peSrc w == 0 else peSrc w != 0) || bitsOf w.toNat 41 38 != 0 ||
    (match s with
     | 0 => l != 0
     | 1 => decide (2 ^ 32 ≤ l)
     | 3 => decide (2 ^ 34 ≤ l)
     | 4 => decide (2 ^ 33 ≤ l) || (decide (l < 2 ^ 32) && l != 0)
     | _ => false)

/-- State of a page for its readers: the source state while it moves (table of page states). -/
def peView (w : Word) : Nat := if peState w = 5 then peSrc w else peState w

def Dev.mapIdx (d : Dev) (g page : Nat) : Nat := (d.grotto g).mapBase + page
def Dev.entry (d : Dev) (g page : Nat) : Word := mgetD d.pages.area (d.mapIdx g page) freshEntry

/-- The grotto whose map run holds an entry index. -/
def Dev.grottoAt (d : Dev) (idx : Nat) : Option Nat :=
  (d.grottos.find? fun e => decide (e.2.mapBase ≤ idx ∧ idx < e.2.mapBase + (e.2.committed + e.2.elasticMax) * unitPages)).map (·.1)

/-! ### Ways and ages of the arrays (R93, R176, R190)

Pseudo-LRU is one mark for each way: an entry that is used is marked, and where that would leave all 16 ways of a set marked, the other
marks are cleared. Ways with the same mark are equally old (DESIGN CHOICE, log 97). -/

/-- An entry of a set is used; one that is new takes the lowest free way. set: the keys of the entries in its set. -/
def useWay (a : AMap Age) (set : List Nat) (k : Nat) : AMap Age :=
  let mates := set.filter (· != k)
  let ages := mates.map fun m => mgetD a m {}
  let way := match mget a k with
    | some x => x.way
    | none => ((List.range 16).find? fun w => !(ages.any fun x => x.way == w)).getD 0
  let a1 := if ages.length = 15 ∧ ages.all (·.used) then
      mates.foldl (fun a m => mset a m { mgetD a m {} with used := false }) a
    else a
  mset a1 k { way := way, used := true }

/-- The oldest of some entries of a set; among equals that of the lowest way. -/
def oldestWay (a : AMap Age) (ks : List Nat) : Option Nat :=
  let rank (k : Nat) : Nat := let x := mgetD a k {}; (if x.used then 16 else 0) + x.way
  ks.foldl (fun (b : Option Nat) k => match b with
    | none => some k
    | some m => if rank k < rank m then some k else some m) none

/-- Map-cache set of a page-map line (R93). -/
def mapSet (lineIdx g : Nat) : Nat := (lineIdx ^^^ (97 * g)) % 512

def Dev.mapLine (d : Dev) (g page : Nat) : Nat := d.mapIdx g page / 8
def Dev.mapHit (d : Dev) (g page : Nat) : Bool := (mget d.pages.cache (d.mapLine g page)).isSome

/-- The heat of a page: in its map-cache block, or in its entry (R95). -/
def Dev.heat (d : Dev) (g page : Nat) : BitVec 8 :=
  match mget d.pages.cache (d.mapLine g page) with
  | some b => (b.heats[d.mapIdx g page % 8]?).getD 0
  | none => peHeat (d.entry g page)

/-- Write an entry through to DRAM (R95), with the heat the page has. -/
def Dev.setEntry (d : Dev) (g page : Nat) (w : Word) : Dev :=
  let h := d.heat g page
  let w1 := mkEntry (peCommit w) (peState w) h (peGen w) (peSrc w) (peLoc w)
  { d with pages := { d.pages with area := mput d.pages.area freshEntry (d.mapIdx g page) w1 } }

/-- R87: the entry of an unbacked page that takes its first frame, written once with commit 1. -/
def Dev.firstEntry (d : Dev) (g page loc : Nat) : Dev :=
  d.setEntry g page (mkEntry true 1 0 (peGen (d.entry g page) + 1) 0 loc)

/-- The second write of a change (R88, R89): commit becomes 1. -/
def Dev.commitEntry (d : Dev) (g page : Nat) : Dev :=
  let w := d.entry g page
  d.setEntry g page (mkEntry true (peState w) 0 (peGen w) (peSrc w) (peLoc w))

/-- R88: change an entry to a state and location with the next generation: written with commit 0, then committed. Both writes fall in one
command, so that no HOLD is seen between them (log 94). -/
def Dev.turn (d : Dev) (g page state src loc : Nat) : Dev :=
  (d.setEntry g page (mkEntry false state 0 (peGen (d.entry g page) + 1) src loc)).commitEntry g page

/-- Whether a map-cache block may not be chosen as a victim (R93). -/
def Dev.pinned (d : Dev) (lineIdx : Nat) : Bool :=
  ((List.range 8).any fun i => peState (mgetD d.pages.area (lineIdx * 8 + i) freshEntry) == 5) ||
    d.pages.frameWait.any fun r => d.mapLine r.g (r.line / 64) == lineIdx

/-- Write a block's heats back to its entries (R95). -/
def Dev.heatBack (d : Dev) (lineIdx : Nat) (b : MapBlock) : Dev :=
  let area := (List.range 8).foldl (fun a i =>
    let w := mgetD a (lineIdx * 8 + i) freshEntry
    mput a freshEntry (lineIdx * 8 + i)
      (mkEntry (peCommit w) (peState w) ((b.heats[i]?).getD 0) (peGen w) (peSrc w) (peLoc w))) d.pages.area
  { d with pages := { d.pages with area := area } }

/-- Blocks of the set of a page-map line. -/
def Dev.mapWays (d : Dev) (lineIdx g : Nat) : AMap MapBlock :=
  d.pages.cache.filter fun e => mapSet e.1 e.2.grotto == mapSet lineIdx g

/-- A block of the map cache is used (R93). -/
def Dev.mapUse (d : Dev) (lineIdx g : Nat) : Dev :=
  { d with pages := { d.pages with mapAge := useWay d.pages.mapAge ((d.mapWays lineIdx g).map (·.1)) lineIdx } }

/-- Whether a page-map line is in the cache, or could take a way of its set now (R93). -/
def Dev.mapRoom (d : Dev) (lineIdx g : Nat) : Bool :=
  let here := d.mapWays lineIdx g
  (mget d.pages.cache lineIdx).isSome || decide (here.length < 16) || here.any fun e => !d.pinned e.1

/-- Put a page-map line into the cache: a free way, or the oldest block that may be chosen; none where every way is pinned. -/
def Dev.mapInsert (d : Dev) (lineIdx g : Nat) : Option Dev :=
  if (mget d.pages.cache lineIdx).isSome then some (d.mapUse lineIdx g)
  else
    let here := d.mapWays lineIdx g
    let heats := (List.range 8).map fun i => peHeat (mgetD d.pages.area (lineIdx * 8 + i) freshEntry)
    let put (d : Dev) : Dev :=
      ({ d with pages := { d.pages with cache := mset d.pages.cache lineIdx { grotto := g, heats := heats } } } : Dev).mapUse lineIdx g
    let d := d.mapArray
    if here.length < 16 then some (put d)
    else
      match oldestWay d.pages.mapAge ((here.filter fun e => !d.pinned e.1).map (·.1)) with
      | some k =>
        let d2 := match mget d.pages.cache k with
          | some b => d.heatBack k b
          | none => d
        some (put { d2 with pages := { d2.pages with cache := merase d2.pages.cache k, mapAge := merase d2.pages.mapAge k } })
      | none => none

/-- Raise the heat of a page in its block, if it is present (R237, R238). -/
def Dev.addHeat (d : Dev) (g page w : Nat) : Dev :=
  let l := d.mapLine g page
  match mget d.pages.cache l with
  | some b =>
    let i := d.mapIdx g page % 8
    let h := min 255 ((b.heats[i]?).getD 0).toNat + w
    let b1 : MapBlock := { b with heats := b.heats.set i (BitVec.ofNat 8 (min 255 h)) }
    { d with pages := { d.pages with cache := mset d.pages.cache l b1 } }
  | none => d.bump (576 + 16 * homeSlice g (page * 64) + 10)

/-! ### Channels: counters, waking, class accounting (R133, R155, R501, R502) -/

/-- Counter k of a channel (R155). -/
def chCnt (c k : Nat) : Nat := 256 + 16 * c + k

/-- The label of traffic that draws on the scrub reserve (R497): the crawl, the zeroer, reconciliation. -/
def scrubCls : Nat := 16

/-- A request takes its channel out of idle self-refresh (R133); crawl and zeroer work does not (R132). -/
def Dev.rouse (d : Dev) (c cls : Nat) : Dev :=
  if (d.chan c).sub = 2 ∧ cls ≠ scrubCls then d.setChan c { d.chan c with sub := if d.power.mode = .doze then 1 else 0 } else d

/-- Charge n bytes of channel c to a class (R501); scrub traffic is charged to class 0 once the reserve is used up. -/
def Dev.charge (d : Dev) (c cls n : Nat) : Dev :=
  let put (d : Dev) (k : Nat) : Dev :=
    ({ d with qos := { d.qos with classes := mmod d.qos.classes k {} (fun x => { x with charged := x.charged + n }) } }).bump
      (64 + 4 * k) n
  if cls = scrubCls then
    let used := mgetD d.qos.scrubUsed c 0
    if used + n ≤ (d.chan c).scrub * 250 then { d with qos := { d.qos with scrubUsed := mset d.qos.scrubUsed c (used + n) } }
    else put d 0
  else put d cls

/-- Firmware owes a Cairn record of a type and place (R31, R147, R150). -/
def Dev.owes (d : Dev) (type inst : Nat) : Dev := if d.due.contains (type, inst) then d else { d with due := d.due ++ [(type, inst)] }

/-- Effective priority of a class (R502); the crawl and the zeroer are of class 0 (R497). -/
def Dev.effPrio (d : Dev) (cls : Nat) : Nat :=
  let x := mgetD d.qos.classes (cls % 16) {}
  if x.charged < 250 * x.cur then x.prio else 0

/-! ### Frames (R96 to R105) -/

/-- Logical rank of a frame index. -/
def rankOf (ranks i : Nat) : Nat := (i / 128) % (2 ^ log2c ranks)

/-- Whether the channel and the rank of a frame are in service. -/
def Dev.rankUp (d : Dev) (f : Nat) : Bool :=
  let c := d.chan (frameChan f)
  c.state == 3 && !c.ranksOut.contains (rankOf c.ranks (frameIdx f))

/-- Logical ranks of a DIMM (R116). -/
def dimmRanks (x : Dimm) : Nat := x.pkgRanks * x.stack

/-- Logical rank of a channel that a SPARE names (R358): by slot, and by rank within the DIMM. -/
def spareRank (x : Chan) (w : PWord) : Nat :=
  bitsOf w.imm.toNat 8 6 + (if w.imm.getLsbD 4 then ((x.slot0.map dimmRanks).getD 0) else 0)

/-- Whether a SPARE that waits is to repair a rank (R152, R248, R332; log 82). -/
def Dev.sparing (d : Dev) (c r : Nat) : Bool :=
  d.queues.qs.any fun e => e.2.issued.any fun i =>
    i.opcode == 0xCA && i.state == .waiting && bitsOf i.word.imm.toNat 3 0 == c && spareRank (d.chan c) i.word == r

/-- Whether a frame may back a page: it is in service, not retired (R150) and not in a rank that a SPARE is to repair (R332). -/
def Dev.frameOk (d : Dev) (f : Nat) : Bool :=
  d.rankUp f && !d.mem.retired.contains f && !d.sparing (frameChan f) (rankOf (d.chan (frameChan f)).ranks (frameIdx f))

def Dev.pool (d : Dev) (c : Nat) : Pool := mgetD d.mem.pools c {}
def Dev.setPool (d : Dev) (c : Nat) (p : Pool) : Dev :=
  { d with mem := { d.mem with pools := mset d.mem.pools c p } }

/-- Indexes below n that lie in rank r of so many ranks. -/
def rankBelow (ranks r n : Nat) : Nat :=
  let per := 128 * ranks
  n / per * 128 + min 128 (n % per - 128 * r)

/-- Pending frames of a channel in ranks that are in service. -/
def Chan.pendingCount (x : Chan) (p : Pool) : Nat :=
  ivCount p.pending - (x.ranksOut.map fun r =>
    (p.pending.map fun e => rankBelow (max 1 x.ranks) r e.2 - rankBelow (max 1 x.ranks) r e.1).sum).sum

/-- F of one channel, and of the device. -/
def Dev.freeOn (d : Dev) (c : Nat) : Nat :=
  let x := d.chan c
  if x.state = 3 then ((d.pool c).zeroed.filter fun i => d.frameOk (mkFrame c i)).length + x.pendingCount (d.pool c) else 0
def Dev.freeAll (d : Dev) : Nat := ((List.range 16).map d.freeOn).sum

/-- W: frames owed to grottos below their reserve, and guest frames below their quota (R259). -/
def Dev.owed (d : Dev) : Nat :=
  (d.grottos.map fun e => e.2.reserve - e.2.used).sum + (d.quota 0 - d.guestsOf 0) + (d.quota 1 - d.guestsOf 1)

/-- S as an integer. -/
def Dev.surplus (d : Dev) : Int := (d.freeAll : Int) - d.owed

def maskList (m : BitVec 16) : List Nat := (List.range 16).filter fun c => m.getLsbD c

/-- A grotto is confined when a channel in service lies outside its mask. -/
def Dev.confined (d : Dev) (x : Grotto) : Bool :=
  (List.range 16).any fun c => (d.chan c).state == 3 && !x.chanMask.getLsbD c

def Grotto.chanReserve (x : Grotto) (c : Nat) : Nat :=
  if x.chanMask.getLsbD c then ceilDiv x.reserve (max 1 (maskList x.chanMask).length) else 0

def Dev.owedOn (d : Dev) (c : Nat) : Nat :=
  (d.grottos.map fun e => e.2.chanReserve c - mgetD e.2.heldCh c 0).sum

/-- Whether a channel meets the reserve rule for a frame of grotto x (R104, R105). -/
def Dev.chanMay (d : Dev) (x : Grotto) (c : Nat) : Bool :=
  if d.grottos.any fun e => e.2.state != 0 && d.confined e.2 then
    if x.used < x.reserve then decide (mgetD x.heldCh c 0 < x.chanReserve c)
    else decide (d.owedOn c < d.freeOn c)
  else true

/-- Whether grotto g may take a frame at once (R104). -/
def Dev.mayTake (d : Dev) (x : Grotto) : Bool :=
  (decide (x.used < x.reserve) || decide (d.surplus ≥ 1)) && decide (0 < d.freeAll)

/-- Channels of a mask in rotation from a pointer. -/
def rotation (ptr : Nat) : List Nat := (List.range 16).map fun i => (ptr + i) % 16

/-- Forget the content of a frame: every line the zero mark. -/
def Dev.zeroFrame (d : Dev) (f : Nat) : Dev :=
  { d with mem := { d.mem with dram := mkeep d.mem.dram (fun k => k / 64 != f) } }

/-- A usable pending index of a channel: the k-th, moving on by whole ranks past those out of service. -/
def Dev.pendingPick (d : Dev) (c : Nat) : Nat → Nat → Option Nat
  | 0, _ => none
  | n + 1, k =>
    match ivNth (k % max 1 (ivCount (d.pool c).pending)) (d.pool c).pending with
    | some i => if d.frameOk (mkFrame c i) then some i else d.pendingPick c n (k + 128)
    | none => none

/-- Take a zeroed frame on a channel, zeroing a pending one first where none is zeroed (R98): the request that needs it wakes the channel
(R133; DEDUCED, log 99). -/
def Dev.takeOn (d : Dev) (c : Nat) : Option (Nat × Dev) :=
  let z := (d.pool c).zeroed.filter fun i => d.frameOk (mkFrame c i)
  if z.isEmpty then
    let (k, d1) := d.choose (ivCount (d.pool c).pending)
    match d.pendingPick c 17 k with
    | some i =>
      let d2 := ((d1.rouse c 0).setPool c { d.pool c with pending := ivErase i (d.pool c).pending }).zeroFrame (mkFrame c i)
      some (mkFrame c i, ((d2.bump 1339).bump (chCnt c 15) 64).charge c scrubCls 4096)
    | none => none
  else
    let (k, d1) := d.choose z.length
    match z[k]? with
    | some i => some (mkFrame c i, d1.setPool c { d.pool c with zeroed := (d.pool c).zeroed.filter (· != i) })
    | none => none

/-- The channel that an allocation of grotto x takes among those allowed: first in rotation with a zeroed frame, else first
with a pending one (R98, R102, R105). -/
def Dev.pickChan (d : Dev) (x : Grotto) (ok : Nat → Bool) : Option Nat :=
  let cs := (rotation x.allocPtr).filter fun c => x.chanMask.getLsbD c && ok c && (d.chan c).state == 3 && d.chanMay x c
  match cs.find? fun c => (d.pool c).zeroed.any fun i => d.frameOk (mkFrame c i) with
  | some c => some c
  | none => cs.find? fun c => decide (0 < d.freeOn c)

/-- Change what a grotto holds on a channel. -/
def Dev.hold (d : Dev) (g c : Nat) (n : Int) : Dev :=
  d.modGrotto g fun x => { x with
    held := ((x.held : Int) + n).toNat, heldCh := mput x.heldCh 0 c (((mgetD x.heldCh c 0 : Nat) : Int) + n).toNat }

/-- Take a frame for grotto g (R102, R104): the frame and the device, or none where it must wait. -/
def Dev.takeFrame (d : Dev) (g : Nat) (ok : Nat → Bool := fun _ => true) : Option (Nat × Dev) :=
  let x := d.grotto g
  if d.mayTake x then
    match d.pickChan x ok with
    | some c =>
      match d.takeOn c with
      | some (f, d1) => some (f, (d1.hold g c 1).modGrotto g fun x => { x with allocPtr := (c + 1) % 16 })
      | none => none
    | none => none
  else none

/-- Send a frame to the pending pool, or keep it aside while reads still use it (R250). -/
def Dev.freeFrame (d : Dev) (f : Nat) : Dev :=
  if d.pages.dreads.any fun r => r.frame == f then
    { d with pages := { d.pages with dying := d.pages.dying ++ [f] } }
  else if d.rankUp f && !d.mem.retired.contains f then
    let p := d.pool (frameChan f)
    d.setPool (frameChan f) { p with pending := ivInsert (frameIdx f) p.pending }
  else d

/-- Free the frames that no read uses any longer. -/
def Dev.reap (d : Dev) : Dev :=
  let (keep, go) := d.pages.dying.partition fun f => d.pages.dreads.any fun r => r.frame == f
  go.foldl Dev.freeFrame { d with pages := { d.pages with dying := keep } }

/-! ### Keys and tweaks (R111, R112) -/

/-- Key ID of a page (R111). -/
def Grotto.keyOf (x : Grotto) (page : Nat) : Nat :=
  if page < x.committed * unitPages ∨ x.elasticKeyId = 0 then x.keyId else x.elasticKeyId

def Dev.pageKey? (d : Dev) (g page : Nat) : Option (BitVec 512) := mget d.keys ((d.grotto g).keyOf page)

/-- XTS tweak: grotto, page, index, kind. -/
def tweakOf (g page index kind : Nat) : Nat := g <<< 43 ||| page <<< 10 ||| index <<< 2 ||| kind
def lineTweak (g page n : Nat) : Nat := tweakOf g page n 0

/-- The tweak of a reserved-region line that programs reach (R84, R112): these lines lie behind the page-map area, which has at most
2^30 lines (R82). The line of page-map entries 8n to 8n + 7 has index n (log 92). -/
def resvTweak (n : Nat) : Nat := tweakOf 0 (2 ^ 30 + n) 0 3
def mapTweak (n : Nat) : Nat := tweakOf 0 n 0 3

/-- The data of a stored line under a key and tweak. -/
def DLine.open (x : DLine) (key : BitVec 512) (tweak : Nat) : LineData :=
  match x.kind with
  | .zero => 0
  | _ => if x.key = key ∧ x.tweak = tweak then x.data else reopened x.data x.key x.tweak key tweak

/-- Read and write a reserved-region line under key ID 0 (R84). -/
def Dev.resvGet (d : Dev) (n : Nat) : LineData := (mgetD d.mem.resv n {}).open d.key0 (resvTweak n)
def Dev.resvPut (d : Dev) (n : Nat) (x : LineData) : Dev :=
  d.onMem fun m => { m with resv := mput m.resv {} n { kind := .data, key := d.key0, tweak := resvTweak n, data := x } }

/-- The page-map line of entries 8n to 8n + 7 as it stands in DRAM (R83, R84). -/
def Dev.mapStored (d : Dev) (n : Nat) : DLine :=
  { kind := .data, key := d.key0, tweak := mapTweak n,
    data := BitVec.ofNat 512 (((List.range 8).map fun i => (mgetD d.pages.area (8 * n + i) freshEntry).toNat * 2 ^ (64 * i)).sum) }

end Sys2Proof.Machine
end

