-- ==== Sys2Proof/Machine/Dram.lean ====
section
/-!
DEFINITION. DRAM: what each line holds, the bank queues of a channel and its scheduler (04), codes, injection and retries (13).
-/
namespace Sys2Proof.Machine

/-! ### DRAM lines -/

def dramKey (f n : Nat) : Nat := f * 64 + n

/-- The masks that reserve codewords (R468). -/
def zeroMark : BitVec 128 := 0xC3C3C3C3C3C3C3C33C3C3C3C3C3C3C3C
def poisonMark : BitVec 128 := 0x5AA55AA55AA55AA5A55AA55AA55AA55A

/-- The codeword that stands in DRAM for a line, its symbols in error apart (R466 to R469): data bits and check bits. The zero mark is data 0;
a poisoned codeword holds its bytes as ciphertext, and the one whose bytes are not known holds data 0 (R114). -/
def DLine.codeword (x : DLine) : LineData × BitVec 128 :=
  let sealed : LineData := xtsLine false x.key x.tweak x.data
  match x.kind with
  | .zero => (0, zeroMark)
  | .data => (sealed, Config.checkBits sealed)
  | .poison =>
    let y : LineData := if x.key = 0 ∧ x.data = 0 then 0 else sealed
    (y, Config.checkBits y ^^^ poisonMark)

/-- The symbol of a device (R466): bits 4k to 4k + 3 of it are beat k of its four DQ. -/
def symbolOf (w : LineData × BitVec 128) (dev : Nat) : Word :=
  if dev < 8 then (w.1 >>> (64 * dev)).setWidth 64 else (w.2 >>> (64 * (dev - 8))).setWidth 64

/-- DRAM and the reserved region are in canonical form: addresses strictly rising, no entry equal to what an unlisted one reads. -/
def Mem.wf (m : Mem) : Bool := canonical {} m.dram && canonical {} m.resv

/-- Whether a frame is a training frame whose patterns stand in it (R141): for each bank of each rank one frame at the end of the channel's
reserved frames (DESIGN CHOICE which, log 99). -/
def Dev.trainFrame (d : Dev) (f : Nat) : Bool :=
  let x := d.chan (frameChan f)
  let i := frameIdx f
  let per := 128 * max 1 x.ranks
  x.patterns.isSome && decide (i < d.resvFrames) && i / per == d.resvFrames / per - 1 && decide (i % 32 < 8)

/-- A line of DRAM. One that nothing has written reads the zero mark, but in the training frames the pattern of the last training. -/
def Dev.dline (d : Dev) (f n : Nat) : DLine :=
  match mget d.mem.dram (dramKey f n) with
  | some x => x
  | none => if d.trainFrame f then
      { kind := .data, data := Config.trainPattern ((d.chan (frameChan f)).patterns.getD 0) (dramKey f n) }
    else {}

/-- The symbols a flip mask puts in error (R495): data device w, and check device 8 or 9. -/
def flipSymbols (w : Nat) (m c : Word) : List Nat :=
  (if m ≠ 0 then [w] else []) ++ (if c ≠ 0 then [8 + w % 2] else [])

/-! ### Lost banks (R541, R542) -/

def Dev.coord (d : Dev) (f n : Nat) : Coord := coordOf (d.chan (frameChan f)).ranks (frameIdx f) n

/-- Whether a line lies in a lost bank and neither the sweep nor a write has reached it (R541, R542). -/
def Dev.inLostBank (d : Dev) (f n : Nat) : Bool :=
  let c := d.chan (frameChan f)
  if c.lostBanks.isEmpty then false
  else
    let k := d.coord f n
    c.lostBanks.any (fun b => b.sub == k.sub && b.rank == k.rank && b.bg == k.bg && b.bank == k.bank) &&
      !c.cleanLines.contains (dramKey f n) && !c.swept.contains (dramKey f n)

/-- A write reaches a line ahead of the sweep of its lost bank (R542): the sweep skips it. -/
def Dev.noteWritten (d : Dev) (f n : Nat) : Dev :=
  if d.inLostBank f n then
    let c := d.chan (frameChan f)
    d.setChan (frameChan f) { c with cleanLines := c.cleanLines ++ [dramKey f n] }
  else d

/-- Whether a write to a line waits for the sweep of its lost bank, the list of lines handled being full (R542). -/
def Dev.lostFull (d : Dev) (f n : Nat) : Bool :=
  d.inLostBank f n && decide (4096 ≤ (d.chan (frameChan f)).cleanLines.length)

/-! ### The bank queues (R123 to R126, R147, R149) -/

/-- Number of the bank queue of a line (R123), and of its bank: a queue serves the bank of either subchannel (DEDUCED, log 79). -/
def Coord.queue (k : Coord) : Nat := k.rank * 32 + k.bg * 4 + k.bank
def Coord.cell (k : Coord) : Nat := k.sub * 512 + k.queue

/-- A request in a channel as its scheduler sees it. -/
structure ChanReq where
  seq    : Nat
  line   : Nat
  write  : Bool
  passed : Nat
  cls    : Nat
  at_    : Coord
  deriving DecidableEq, Repr

/-- The requests that a channel holds: up to 256 reads and 128 writes; what lies behind them waits at its home slice (R27). -/
def Dev.chanReads (d : Dev) (c : Nat) : List ChanReq :=
  ((d.pages.dreads.filter fun x => frameChan x.frame == c).take 256).map fun x =>
    { seq := x.seq, line := dramKey x.frame x.line, write := false, passed := x.passed, cls := x.req.cls, at_ := d.coord x.frame x.line }
def Dev.chanWrites (d : Dev) (c : Nat) : List ChanReq :=
  ((d.pages.dwrites.filter fun x => frameChan x.frame == c).take 128).map fun x =>
    { seq := x.seq, line := dramKey x.frame x.line, write := true, passed := x.passed, cls := x.cls, at_ := d.coord x.frame x.line }

/-- Whether a rank has a queued request (R129). -/
def Dev.rankBusy (d : Dev) (c rank : Nat) : Bool :=
  d.pages.dreads.any (fun x => frameChan x.frame == c && (d.coord x.frame x.line).rank == rank) ||
    d.pages.dwrites.any fun x => frameChan x.frame == c && (d.coord x.frame x.line).rank == rank

/-- Whether the requests to a bank wait: its rank is being retrained (R147), or a row of its bank queue repaired (R149). -/
def Dev.bankWaits (d : Dev) (c : Nat) (k : Coord) : Bool :=
  let x := d.chan c
  x.retrain.any (fun e => e.1 == k.rank) || match x.repair with
    | some r => (d.coord r.frame r.line).queue == k.queue
    | none => false

def Dev.lineWaits (d : Dev) (f n : Nat) : Bool :=
  let x := d.chan (frameChan f)
  if x.retrain.isEmpty && x.repair.isNone then false else d.bankWaits (frameChan f) (d.coord f n)

/-- Whether some line of a frame waits. -/
def Dev.frameWaits (d : Dev) (f : Nat) : Bool :=
  let x := d.chan (frameChan f)
  if x.retrain.isEmpty && x.repair.isNone then false else (List.range 64).any fun n => d.lineWaits f n

/-- Whether a line's row is open in its bank. -/
def Chan.hits (x : Chan) (k : Coord) : Bool := mget x.rows k.cell == some k.row

/-- An access to a line: a row hit, or its row is activated and stays open (R124, R155). -/
def Dev.openRow (d : Dev) (c : Nat) (k : Coord) : Dev :=
  let x := d.chan c
  if x.hits k then d.bump (chCnt c 4) else (d.setChan c { x with rows := mset x.rows k.cell k.row }).bump (chCnt c 3)

/-- The open rows of a rank close, as its refresh requires. -/
def Chan.closeRank (x : Chan) (rank : Nat) : Chan := { x with rows := mkeep x.rows fun k => k % 512 / 32 != rank }

/-- Issue the refreshes that a rank is owed (R129). -/
def Dev.issueOwed (d : Dev) (c rank : Nat) : Dev :=
  let x := d.chan c
  let n := mgetD x.owed rank 0
  if n = 0 then d else (d.setChan c { x.closeRank rank with owed := mput x.owed 0 rank 0 }).bump (chCnt c 5) n

/-- Whether a rank has a repair under way, so that its refreshes are owed (R149). -/
def Dev.rankMends (d : Dev) (c rank : Nat) : Bool := (d.chan c).repair.any fun r => (d.coord r.frame r.line).rank == rank

/-- A rank whose queues are empty receives its owed refreshes at once (R129). -/
def Dev.catchUp (d : Dev) : Dev :=
  d.chans.foldl (fun (d : Dev) e =>
    if e.2.owed.isEmpty || e.2.state != 3 || e.2.sub == 3 then d
    else (e.2.owed.map (·.1)).foldl (fun (d : Dev) r => if d.rankBusy e.1 r || d.rankMends e.1 r then d else d.issueOwed e.1 r) d) d

/-! ### The page-map area in the channels (R82, R83) -/

/-- Where a page-map line lies (DESIGN CHOICE, log 99): behind the sump, frame after frame over the populated channels in turn. -/
def Dev.mapHome (d : Dev) (lineIdx : Nat) : Option (Nat × Nat) :=
  let n := d.mem.resvChans.length
  if n = 0 then none
  else some (mkFrame (d.mem.resvChans.getD (lineIdx / 64 % n) 0) (ceilDiv 131072 n + lineIdx / 64 / n), lineIdx % 64)

/-- The page-map line that lies in a line of the reserved region. -/
def Dev.mapLineAt (d : Dev) (f n : Nat) : Option Nat :=
  let m := d.mem.resvChans.length
  let lo := ceilDiv 131072 m
  match (List.range m).find? fun k => d.mem.resvChans.getD k 16 == frameChan f with
  | some k =>
    let l := ((frameIdx f - lo) * m + k) * 64 + n
    if lo ≤ frameIdx f ∧ l < d.mem.ceiling * 8192 then some l else none
  | none => none

/-- Whether a page-map line is behind a retrain or a repair; whether it lies in a rank out of service or a lost bank (R541). -/
def Dev.mapWaits (d : Dev) (lineIdx : Nat) : Bool := (d.mapHome lineIdx).any fun e => d.lineWaits e.1 e.2
def Dev.mapDead (d : Dev) (lineIdx : Nat) : Bool := (d.mapHome lineIdx).any fun e => !d.rankUp e.1 || d.inLostBank e.1 e.2

def oldest (rs : List ChanReq) : Option ChanReq :=
  rs.foldl (fun (b : Option ChanReq) r => match b with
    | none => some r
    | some m => if r.seq < m.seq then some r else some m) none

/-- The next request of a bank queue: in in-order mode the oldest (R125); else, of the reads or in a drain of the writes (R126), one that
row hits have passed 16 times, the oldest that hits its open row, or the oldest (R124). A write does not pass an older read of its line; in a
drain reads of a bank without such a write go on. -/
def Dev.nextIn (d : Dev) (c : Nat) (rs : List ChanReq) (q : Nat) : Option ChanReq :=
  let x := d.chan c
  let mine := rs.filter fun r => r.at_.queue == q && !d.bankWaits c r.at_
  if (mget x.inOrder q).isSome then oldest mine
  else
    let writes := mine.filter fun r => r.write && !(mine.any fun y => !y.write && y.line == r.line && decide (y.seq < r.seq))
    let pool := if x.drain && !writes.isEmpty then writes else mine.filter fun r => !r.write
    match oldest (pool.filter fun r => decide (16 ≤ r.passed)) with
    | some r => some r
    | none => match oldest (pool.filter fun r => x.hits r.at_) with
      | some r => some r
      | none => oldest pool

/-- The pick among the next requests of the bank queues that meet the DRAM timing limits (R123): the highest effective priority, and
among equals the first queue at or after the rotating pointer. -/
def Dev.pick (d : Dev) (c : Nat) (ready : Nat → Bool) (want : ChanReq → Bool) : Option ChanReq :=
  let rs := d.chanReads c ++ d.chanWrites c
  let x := d.chan c
  let n := 32 * max 1 x.ranks
  let next := (((rs.map fun r => r.at_.queue).eraseDups.filter ready).filterMap fun q => d.nextIn c rs q).filter want
  let top := (next.map fun r => d.effPrio r.cls).foldl max 0
  (next.filter fun r => d.effPrio r.cls == top).foldl (fun (b : Option ChanReq) r => match b with
    | none => some r
    | some m => if (r.at_.queue + n - x.ptr) % n < (m.at_.queue + n - x.ptr) % n then some r else some m) none

/-- A request is picked: the requests of its kind and queue that it passes as a row hit are counted, and the pointer moves on (R123, R124). -/
def Dev.picked (d : Dev) (c : Nat) (r : ChanReq) : Dev :=
  let x := d.chan c
  let n := 32 * max 1 x.ranks
  let passes (f l seq : Nat) : Bool :=
    let k := d.coord f l
    x.hits r.at_ && frameChan f == c && k.queue == r.at_.queue && decide (seq < r.seq) && !x.hits k
  let d1 := d.setChan c { x with ptr := (r.at_.queue + 1) % n }
  if r.write then d1.onPages fun p => { p with
    dwrites := (p.dwrites.filter fun y => y.seq != r.seq).map fun y => if passes y.frame y.line y.seq then { y with passed := y.passed + 1 } else y }
  else d1.onPages fun p => { p with
    dreads := p.dreads.map fun y => if passes y.frame y.line y.seq then { y with passed := y.passed + 1 } else y }

/-- Queues leave in-order mode once the writes older than the matching read have issued (R125), and a drain starts or ends (R126). -/
def Dev.drainState (d : Dev) (c : Nat) : Dev :=
  let x := d.chan c
  let ws := d.chanWrites c
  let noRead := !(d.pages.dreads.any fun y => frameChan y.frame == c)
  let kept := x.inOrder.filter fun e => ws.any fun w => w.at_.queue == e.1 && decide (w.seq < e.2)
  if x.drain then
    d.setChan c { x with inOrder := kept, drain := !(ws.isEmpty || (!noRead && decide (ws.length ≤ 32))) }
  else if 96 ≤ ws.length ∨ (noRead = true ∧ ws.isEmpty = false) then
    (d.setChan c { x with inOrder := kept, drain := true }).bump (chCnt c 14)
  else d.setChan c { x with inOrder := kept }

/-- Issue the writes that the scheduler lets go now: those of a drain, and those at the head of a queue in in-order mode (log 79). -/
def Dev.issueWrites (d : Dev) (c : Nat) : Nat → Dev
  | 0 => d
  | n + 1 =>
    let d1 := d.drainState c
    match d1.pick c (fun _ => true) (·.write) with
    | some r => ((d1.picked c r).openRow c r.at_).issueWrites c n
    | none => d1

/-- A channel accepts a read (R125): a queue that holds an older write to its row enters in-order mode. -/
def Dev.queueRead (d : Dev) (f n : Nat) (r : Req) : Dev :=
  let c := frameChan f
  let d := d.rouse c r.cls
  let k := d.coord f n
  let x := d.chan c
  let s := d.pages.dseq
  let d1 := d.onPages fun p => { p with dreads := p.dreads ++ [{ frame := f, line := n, req := r, seq := s }], dseq := s + 1 }
  if (d.chanWrites c).any fun w => w.at_.cell == k.cell && w.at_.row == k.row then
    let d2 := d1.setChan c { x with inOrder := mset x.inOrder k.queue s }
    if (mget x.inOrder k.queue).isSome then d2 else d2.bump (chCnt c 9)
  else d1

/-- A channel accepts a write: older reads of the line keep what they are to see. It issues at once where nothing else is queued. -/
def Dev.queueWrite (d : Dev) (f n cls : Nat) : Dev :=
  let c := frameChan f
  if !(d.pages.dreads.any fun x => frameChan x.frame == c) && !(d.pages.dwrites.any fun x => frameChan x.frame == c) && !d.lineWaits f n then
    (d.openRow c (d.coord f n)).bump (chCnt c 14)
  else
    let old := d.dline f n
    (d.onPages fun p => { p with
      dwrites := p.dwrites ++ [{ frame := f, line := n, cls := cls, seq := p.dseq }], dseq := p.dseq + 1,
      dreads := p.dreads.map fun x => if x.frame = f ∧ x.line = n ∧ x.seen.isNone then { x with seen := some old } else x }).issueWrites c 512

/-- The writes that every channel may issue by now. -/
def Dev.issueAll (d : Dev) : Dev :=
  if d.pages.dwrites.isEmpty then d
  else ((d.pages.dwrites.map fun x => frameChan x.frame).eraseDups).foldl (fun (d : Dev) c => d.issueWrites c 512) d

/-- The data of a queued read comes: the scheduler has picked it, from the bank queues that met the timing limits, or where they are not named
as the next of its own queue (log 79); none where it could not. One in frames that left service is answered at once (R153). -/
def Dev.readLeaves (d : Dev) (x : DRead) (ready : Option (List Nat)) : Option Dev :=
  let c := frameChan x.frame
  let q := (d.coord x.frame x.line).queue
  let won := match ready with
    | none => d.nextIn c (d.chanReads c ++ d.chanWrites c) q
    | some qs => d.pick c (fun k => qs.contains k) fun _ => true
  let gone (d : Dev) : Dev := d.onPages fun p => { p with dreads := p.dreads.erase x }
  if d.rankUp x.frame then (won.filter fun r => r.seq == x.seq && !r.write).map fun r => gone (d.picked c r) else some (gone d)

/-! ### Writing -/

/-- Write a line to DRAM as a fresh codeword. -/
def Dev.dramWrite (d : Dev) (f n : Nat) (x : DLine) (cls : Nat) : Dev :=
  let c := frameChan f
  let (fl, d1) := ((d.rouse c cls).queueWrite f n cls).takeFlip (unitChan c) 3 f
  let errs := match fl with
    | some (w, m, k) => flipSymbols w m k
    | none => []
  let d2 : Dev := { d1 with mem := { d1.mem with dram := mput d1.mem.dram {} (dramKey f n) { x with errs := errs } } }
  let d3 := d2.noteWritten f n
  (({ d3 with cnt := { d3.cnt with chWrite := mmod d3.cnt.chWrite c 0 (· + 1) } }).bump (chCnt c 1)).charge c cls 64

/-! ### Reading (R467 to R469, R479, R480) -/

/-- How one read of a line comes out (R467, R469). -/
inductive Reading where
  | good
  | fixed (dev : Nat)
  | bad
  | wild
  deriving DecidableEq, Repr

/-- The reading of a line with symbols in error, joined with what the read itself shows. -/
def judge (errs : List Nat) : ReadObs → Reading
  | .uncorrectable => .bad
  | .clean => match errs with
    | [] => .good
    | [x] => .fixed x
    | [_, _] => .bad
    | _ => .wild
  | .symbol s => match errs.filter (· != s) with
    | [] => .fixed s
    | [_] => .bad
    | _ => .wild

/-- Resource of soft repair of a device: subchannel, rank, bank group, device (R150). -/
def repairKey (c : Coord) (dev : Nat) : Nat := ((c.sub * 16 + c.rank) * 8 + c.bg) * 10 + dev

/-- Retire a frame: the repair is exhausted or ineffective (R150); its page is moved off by a forced move (R248). -/
def Dev.retireFrame (d : Dev) (f n : Nat) (owner : Option (Nat × Nat)) : Dev :=
  let c := frameChan f
  let k := d.chan c
  let d1 := (d.setChan c { k with fault := k.fault ||| 0x04#8 }).raise
    { code := 0x1005, cls := 2, unit := unitChan c, akind := 3, addr := f, detail := dramDetail c (d.coord f n) 0 }
  match owner with
  | some (g, page) =>
    { d1 with
      mem := { d1.mem with retired := d1.mem.retired.filter (· != f) ++ [f] },
      pages := { d1.pages with plans := d1.pages.plans ++
        [{ kind := .relocate, g := g, page := page, gen := peGen (d1.entry g page), forced := true }] } }
  | none => { d1 with mem := { d1.mem with retired := d1.mem.retired.filter (· != f) ++ [f] } }

/-- Start a soft repair of the row of a line in a device, once one under way has ended, or retire the frame where no resource remains
(R149, R150). -/
def Dev.startRepair (d : Dev) (f n dev : Nat) (owner : Option (Nat × Nat)) : Dev :=
  let c := frameChan f
  let k := d.chan c
  let key := repairKey (d.coord f n) dev
  if k.usedRepair.contains key then d.retireFrame f n owner
  else if k.repair.isSome then
    d.setChan c { k with repairNext := k.repairNext ++ [⟨f, n, dev⟩], usedRepair := k.usedRepair ++ [key] }
  else d.setChan c { k with repair := some ⟨f, n, dev⟩, sub := 4, usedRepair := k.usedRepair ++ [key] }

def DLine.poisoned : DLine := { kind := .poison }

/-- A channel reads a line: it wakes, opens the row, counts and charges (R133, R155, R501). -/
def Dev.countRead (d : Dev) (f n cls : Nat) : Dev :=
  let c := frameChan f
  ((((d.rouse c cls).openRow c (d.coord f n)).onCnt fun k => { k with chRead := mmod k.chRead c 0 (· + 1) }).bump (chCnt c 0)).charge c cls 64

/-- The channel of a page-map line wakes for its fill; the fill reads the line (R133, R501). -/
def Dev.rouseMap (d : Dev) (lineIdx cls : Nat) : Dev :=
  match d.mapHome lineIdx with
  | some e => d.rouse (frameChan e.1) cls
  | none => d
def Dev.countMap (d : Dev) (lineIdx cls : Nat) : Dev :=
  match d.mapHome lineIdx with
  | some e => d.countRead e.1 e.2 cls
  | none => d

/-- Read a line of DRAM with its retries (R479, R480): the line as it stands afterwards. owner names the grotto line it
holds, for the record and the poison list. -/
def Dev.dramRead (d : Dev) (f n : Nat) (o : LineObs) (owner : Option (Nat × Nat)) (cls : Nat) : DLine × Dev :=
  let c := frameChan f
  if !d.rankUp f || d.inLostBank f n then (.poisoned, d)
  else
    let x := d.dline f n
    let d0 := d.countRead f n cls
    let (inv, d1) := d0.takeInvert (unitChan c) 3 f
    let page := owner.map fun e => (e.1, e.2 / 64)
    let rec1 (code dev : Nat) : Hap :=
      { code := code, cls := 1, unit := unitChan c, att := 2, akind := 3, addr := f, grotto := owner.map (·.1),
        detail := dramDetail c (d.coord f n) dev }
    let clean : DLine := { x with errs := [] }
    let store (d : Dev) (y : DLine) : Dev :=
      { d with mem := { d.mem with dram := mput d.mem.dram {} (dramKey f n) y } }
    let lasting (d : Dev) : DLine × Dev :=
      let d2 := store (d.bump (chCnt c 11)) .poisoned
      let d3 := match owner with
        | some (g, line) => d2.contain 0x1003 (unitChan c) 2 g line (if x.errs.isEmpty then 2 else 3) (dramDetail c (d.coord f n) 0)
        | none => d2.raise { rec1 0x1003 0 with cls := 3 }
      let d4 := match o.readBack with
        | .clean => d3
        | .symbol dev => d3.startRepair f n dev page
        | .uncorrectable => d3.retireFrame f n page
      (.poisoned, d4)
    match (if inv then .bad else judge x.errs o.first) with
    | .good => (x, d1)
    | .fixed dev =>
      let d2 := store (d1.bump (chCnt c 10)) clean
      match judge [] o.second with
      | .fixed dev2 => (clean, d2.startRepair f n dev2 page)
      | .good => (clean, d2.raise (rec1 0x1001 (2 ^ dev)))
      | _ => lasting d2
    | .bad =>
      match judge x.errs o.second with
      | .good => (x, d1.raise (rec1 0x1002 0))
      | .fixed dev => (clean, (store d1 clean).raise (rec1 0x1002 (2 ^ dev)))
      | _ => lasting d1
    | .wild =>
      match Config.threeSymbols d1.freeCtr with
      | some y => ({ x with data := y, errs := [] }, { d1 with freeCtr := d1.freeCtr + 1 })
      | none => lasting { d1 with freeCtr := d1.freeCtr + 1 }

/-- Read a line as a queued read is to see it (R125): where a younger write has been accepted, the line as it was. -/
def Dev.readSeen (d : Dev) (f n : Nat) (seen : Option DLine) (o : LineObs) (owner : Option (Nat × Nat)) (cls : Nat) : DLine × Dev :=
  match seen with
  | none => d.dramRead f n o owner cls
  | some y =>
    let k := dramKey f n
    let (z, d1) := (d.onMem fun m => { m with dram := mput m.dram {} k y }).dramRead f n o owner cls
    (z, d1.onMem fun m => { m with dram := match mget d.mem.dram k with
      | some v => mset m.dram k v
      | none => merase m.dram k })

end Sys2Proof.Machine
end

