-- ==== Sys2Proof/Machine/EvLink.lean ====
section
/-!
DEFINITION. The sending side of an Evoil port (R424 to R438), and mirror writes as they leave (R449, R450).
-/
namespace Sys2Proof.Machine

def Dev.evPort (d : Dev) (p : Nat) : EvPort := if p = 0 then d.ev.p0 else d.ev.p1
def Dev.setEv (d : Dev) (p : Nat) (x : EvPort) : Dev :=
  if p = 0 then { d with ev := { d.ev with p0 := x } } else { d with ev := { d.ev with p1 := x } }

/-- Slots a message takes (R426). -/
def msgSlots : EvMsg → Nat
  | .mirrorLine _ | .ropeData _ | .guestWrite .. | .guestData .. => 5
  | .handleList _ hs => 1 + ceilDiv hs.length 2
  | _ => 1

/-- Place of a message in the fixed order of R416: mirror writes, rebuild, spill and fetch, management. -/
def msgRank : EvMsg → Nat
  | .hello .. => 0
  | .placement _ => 1
  | .mirrorLine m => if m.rebuild then 3 else 2
  | .mapChange .. => 2
  | .ropeRead .. | .ropeData _ => 3
  | .guestRequest _ | .guestGrant .. | .guestRelease _ | .guestWrite .. | .guestRead .. | .guestData .. | .guestPlaced _ => 4
  | _ => 5

/-- Queue a message behind those of its kind and of kinds that go before it. -/
def queueMsg : List EvMsg → EvMsg → List EvMsg
  | [], m => [m]
  | x :: t, m => if msgRank m < msgRank x then m :: x :: t else x :: queueMsg t m

/-- The messages that fit into one flit. -/
def fillFlit : Nat → List EvMsg → List EvMsg × List EvMsg
  | _, [] => ([], [])
  | n, m :: t =>
    if msgSlots m ≤ n then (let (a, b) := fillFlit (n - msgSlots m) t; (m :: a, b)) else ([], m :: t)

/-- E − 1, the ack of every flit (R431). -/
def EvPort.ack (x : EvPort) : Nat := (x.expect - 1).toNat

def evCnt (p k : Nat) : Nat := 512 + 16 * p + k

def Dev.evCountOut (d : Dev) (p : Nat) : Dev :=
  { d with cnt := { d.cnt with evOut := mmod d.cnt.evOut p 0 (· + 1) } }

/-- Send a control flit (R424, R431). -/
def Dev.evControl (d : Dev) (p : Nat) : Dev :=
  let x := d.evPort p
  ((d.emit (.flit p 0 0 x.ack x.freed.toNat false [])).bump (evCnt p 15)).evCountOut p

/-- Send a NAK naming E (R432). -/
def Dev.evNak (d : Dev) (p : Nat) : Dev :=
  let x := d.evPort p
  ((((d.setEv p { x with nakSent := true }).emit (.flit p 0 0 x.expect.toNat x.freed.toNat true [])).bump
    (evCnt p 4)).bump (evCnt p 15)).evCountOut p

/-- Whether a new payload flit may go: the port is active, the hello is in, the echo buffer and the credit allow it. -/
def EvPort.maySend (x : EvPort) : Bool :=
  x.state == 2 && !x.txq.isEmpty && decide (x.echo.length < 1024) && decide ((x.nextSeq - x.limit).toNat < 512) &&
    (x.helloGot || (match x.txq with
      | .hello .. :: _ => true
      | _ => false))

/-- Bytes of the spill budget that a message spends (R244, R249): a line that is spilled or written through, or fetched. -/
def spillBytes : EvMsg → Nat
  | .guestWrite .. | .guestRead .. => 64
  | _ => 0

/-- The spill and fetch bytes that a port may still move in the window of 1 µs (R249). -/
def Dev.spillLeft (d : Dev) (p : Nat) : Nat :=
  min (d.flow.spillBud * 250) 32000 - (if p = 0 then d.flow.spillUsed0 else d.flow.spillUsed1)

def Dev.spillSpend (d : Dev) (p n : Nat) : Dev :=
  d.onFlow fun f => if p = 0 then { f with spillUsed0 := f.spillUsed0 + n } else { f with spillUsed1 := f.spillUsed1 + n }

/-- The messages that may go, and the spill and fetch traffic that waits for the next window (R249), in its order (R416). -/
def spillSplit (left : Nat) : List EvMsg → List EvMsg × List EvMsg
  | [] => ([], [])
  | m :: t =>
    if spillBytes m ≤ left then (let (a, b) := spillSplit (left - spillBytes m) t; (m :: a, b))
    else (t.filter fun k => msgRank k != 4, m :: t.filter fun k => msgRank k == 4)

/-- Whether a port has a payload flit that may go now. -/
def Dev.evReady (d : Dev) (p : Nat) : Bool :=
  let x := d.evPort p
  ({ x with txq := (spillSplit (d.spillLeft p) x.txq).1 } : EvPort).maySend

/-- Send what waits, flit by flit (R428, R437). -/
def Dev.evPump (d : Dev) (p : Nat) : Nat → Dev
  | 0 => d
  | n + 1 =>
    let x := d.evPort p
    let (go, wait) := spillSplit (d.spillLeft p) x.txq
    if ({ x with txq := go } : EvPort).maySend then
      let (ms, rest) := fillFlit 15 (match go, x.helloGot with
        | m :: _, false => [m]
        | q, _ => q)
      let left := if x.helloGot then rest else go.drop 1
      let y : EvPort := { x with txq := wait.foldl queueMsg left, echo := x.echo ++ [(ms, 0)], nextSeq := x.nextSeq + 1 }
      let d1 := (d.setEv p y).spillSpend p (ms.foldl (fun k m => k + spillBytes m) 0)
      (((d1.emit (.flit p 1 x.nextSeq.toNat x.ack x.freed.toNat false ms)).bump (evCnt p 0)).evCountOut p).evPump p n
    else d

/-- Send a message on a port that is active or retraining; on another port nothing is sent (R441). -/
def Dev.evSend (d : Dev) (p : Nat) (m : EvMsg) : Dev :=
  let x := d.evPort p
  if x.state = 2 ∨ x.state = 3 then
    let d1 := match m with
      | .mirrorLine l => if l.rebuild then (d.bump (evCnt p 12)).bump (evCnt p 8) else d.bump (evCnt p 8)
      | .mapChange .. => d.bump (evCnt p 8)
      | .guestWrite .. => d.bump (evCnt p 10)
      | .ropeRead .. | .guestRead .. => d.bump (evCnt p 11)
      | _ => d
    (d1.setEv p { x with txq := queueMsg x.txq m }).evPump p 1
  else d

/-- A fresh tag of a port. -/
def Dev.evTag (d : Dev) (p : Nat) : Nat × Dev :=
  let x := d.evPort p
  (x.nextTag, d.setEv p { x with nextTag := (x.nextTag + 1) % 65536 })

/-! ### Mirror writes -/

/-- Whether writes of a grotto are mirrored now (R449, R455). -/
def Dev.roped (d : Dev) (g : Nat) : Bool :=
  (d.grotto g).mirror && (d.ev.rope.state == 1 || d.ev.rope.state == 2) && d.ev.rope.paired.contains g

/-- Whether the partner can supply pages of a grotto (R402, R457): its rope is synced. -/
def Dev.covered (d : Dev) (g : Nat) : Bool := d.roped g && d.ev.rope.state == 1

/-- Whether a port of the rope is up: it leads to the partner (R445). -/
def Dev.ropeUp (d : Dev) (p : Nat) : Bool :=
  let r := d.ev.rope
  let x := d.evPort p
  r.state != 0 && (r.port == p || r.both) && (x.state == 2 || x.state == 3) && x.helloGot && x.peerPool == some r.partner

/-- The port of a line's messages (R452, R453, R459): by home slice; one that carries the rope alone since the other went down, though that
one is back; or the lowest port up during a rebuild. -/
def Dev.ropePort (d : Dev) (g line : Nat) : Nat :=
  let r := d.ev.rope
  if r.both && r.state == 1 && r.carrier.isNone && d.ropeUp 0 && d.ropeUp 1 then (if homeSlice g line < 8 then 0 else 1)
  else if r.state == 1 && r.carrier.any d.ropeUp then r.carrier.getD 0
  else if d.ropeUp 0 then 0 else if d.ropeUp 1 then 1 else d.ev.rope.port

/-- Region of the divergence map that a line lies in (R456). -/
def Dev.region (d : Dev) (g line : Nat) : Nat := d.devOffset g line / 2097152

def Dev.mark (d : Dev) (g line : Nat) : Dev :=
  let r := d.ev.rope
  let k := d.region g line
  { d with ev := { d.ev with rope := { r with marks := r.marks.filter (· != k) ++ [k] } } }

/-- Mark the regions of n pages from a page on. -/
def Dev.markPages (d : Dev) (g page n : Nat) : Dev :=
  if n = 0 then d
  else
    let r := d.ev.rope
    let lo := d.region g (page * 64)
    let ks := (List.range (d.region g ((page + n - 1) * 64) + 1 - lo)).map (lo + ·)
    { d with ev := { d.ev with rope := { r with marks := r.marks.filter (fun k => !ks.contains k) ++ ks } } }

/-- Give a mirror message the next sequence and send it: the port and sequence (R450). -/
def Dev.mirrorSend (d : Dev) (g line : Nat) (m : BitVec 32 → EvMsg) : Nat × BitVec 32 × Dev :=
  let p := d.ropePort g line
  let r := d.ev.rope
  let s := r.next
  let d1 : Dev := { d with ev := { d.ev with rope := { r with next := s + 1, unplaced := r.unplaced ++ [(p, s, m s)] } } }
  (p, s, d1.evSend p (m s))

/-- Mirror the image of a line after a write (R450): none where the grotto has no partner, whose region is marked if the
grotto is mirrored (R455). -/
def Dev.mirrorLine (d : Dev) (g line : Nat) (data : LineData) (poison : Bool) (rebuild : Bool := false) :
    Option (Nat × BitVec 32) × Dev :=
  if d.roped g then
    let (p, s, d1) := d.mirrorSend g line fun s => .mirrorLine
      { poison := poison, rebuild := rebuild, grotto := g, line := line, seq := s, data := if poison then 0 else data,
        key := if poison then 0 else (d.pageKey? g (line / 64)).getD 0 }
    (some (p, s), d1)
  else if (d.grotto g).mirror then (none, d.mark g line)
  else (none, d)

/-- Mirror a map change of n pages from a page on (R449), at most 65,536 pages a message (R426): actions 0 unback, 1 erase
keys, 2 take an extent, 3 release. Where the grotto has no partner, the regions are marked as those of a write are (R455). -/
def Dev.mirrorMap (d : Dev) (g action page n : Nat) : List (Nat × BitVec 32) × Dev :=
  if d.roped g then
    (List.range (ceilDiv n 65536)).foldl (fun (acc : List (Nat × BitVec 32) × Dev) i =>
      let lo := page + 65536 * i
      let (p, s, d1) := acc.2.mirrorSend g (lo * 64) fun s => .mapChange action (min 65536 (n - 65536 * i)) g lo s
      (acc.1 ++ [(p, s)], d1)) ([], d)
  else if (d.grotto g).mirror ∧ action ≠ 2 then
    ([], if action = 1 then d.markPages g 0 (((d.grotto g).committed + (d.grotto g).elasticMax) * unitPages) else d.markPages g page n)
  else ([], d)

end Sys2Proof.Machine
end

