-- ==== Sys2Proof/Machine/FlowOps.lean ====
section
/-!
DEFINITION. Flowstone's runs in queue 0 of H0 (R241 to R243), the capacity watermark (R106), and the frame-wait list.
-/
namespace Sys2Proof.Machine

/-- Page states of a grotto's entries: count of hot and of warm pages. -/
def Dev.pagesIn (d : Dev) (g : Nat) (st : Nat) : Nat :=
  let x := d.grotto g
  let n := (x.committed + x.elasticMax) * unitPages
  (d.pages.area.filter fun e => decide (x.mapBase ≤ e.1 ∧ e.1 < x.mapBase + n) && peView e.2 == st).length

/-- The epoch summary (R245): number, reason, list lengths, dropped counts, F, W, S, P, then U, Q, hot, warm by grotto, and
the heat histogram. -/
def Dev.summaryOf (d : Dev) (reason : Nat) : List Nat :=
  let f := d.flow
  [f.epoch.toNat, reason, f.promote.length, f.demote.length, f.spill.length, f.dropP, f.dropD, f.dropS,
   d.freeAll, d.owed, (d.surplus).toNat, d.dataFrames] ++
  (List.range 64).flatMap (fun g =>
    match d.grotto? g with
    | some x => [x.used, x.reserve, d.pagesIn g 1, d.pagesIn g 2]
    | none => [0, 0, 0, 0]) ++
  (List.range 2048).map fun k => mgetD f.histo k 0

def candGrotto (c : BitVec 64) : Nat := bitsOf c.toNat 63 58
def candPage (c : BitVec 64) : Nat := bitsOf c.toNat 57 25
def candHeat (c : BitVec 64) : Nat := bitsOf c.toNat 24 17
def candGen (c : BitVec 64) : BitVec 8 := BitVec.ofNat 8 (bitsOf c.toNat 7 0)

/-- Insert by heat, equal heat in list order; hot first or cold first. -/
def insertHeat (hotFirst : Bool) (c : BitVec 64) : List (BitVec 64) → List (BitVec 64)
  | [] => [c]
  | x :: t =>
    if (if hotFirst then candHeat c > candHeat x else candHeat c < candHeat x) then c :: x :: t
    else x :: insertHeat hotFirst c t
def byHeat (hotFirst : Bool) (l : List (BitVec 64)) : List (BitVec 64) :=
  l.foldl (fun acc c => insertHeat hotFirst c acc) []

/-- S above the low watermark of R106 (in 0.5 % of P). -/
def Dev.aboveMark (d : Dev) : Bool :=
  decide ((d.surplus) * 200 > (d.flow.watermark : Int) * d.dataFrames)

/-- Whether a page of a grotto may be promoted (R243, R247): the grotto is below its reserve, or S above the low watermark. -/
def Dev.mayPromote (d : Dev) (g : Nat) : Bool := decide ((d.grotto g).used < (d.grotto g).reserve) || d.aboveMark

/-- The moves that the migration budget of an epoch pays for, each a page read and written (R243). -/
def Dev.runBudget (d : Dev) : Nat := d.flow.migBud * 250000 * d.flow.epochMs / 8192

/-- Whether spilling a grotto's page over a port is permitted (R258, R333). -/
def Dev.maySpill (d : Dev) (g port : Nat) : Bool :=
  let x := d.grotto g
  let p := d.evPort port
  let roped := d.ev.rope.state != 0 && (d.ev.rope.port == port || d.ev.rope.both)
  p.state == 2 && (p.spillOk || roped) && !(x.mirror && roped) && !x.copy &&
    (x.spillMode == 2 || (x.spillMode == 1 && x.mirror))

/-- The moves that the built-in policy program asks for (R243), as far as its run budget goes. Spills go over E0 where that may be (log 50). Whether a page may be promoted is looked at when
its turn comes. -/
def Dev.builtinPlans (d : Dev) (reason : Nat) : List Plan :=
  let f := d.flow
  let mk (k : MoveKind) (c : BitVec 64) (port : Nat := 0) : Plan :=
    { kind := k, g := candGrotto c, page := candPage c, gen := candGen c, port := port }
  let low := !d.aboveMark
  ((byHeat true f.closedP).map (mk .promote) ++ (byHeat false f.closedD).map (mk .demote) ++
    (if reason = 1 ∨ low then (byHeat false f.closedS).map fun c => mk .spill c (if d.maySpill (candGrotto c) 0 then 0 else 1) else [])).take d.runBudget

/-- Write a list of 64-bit words into the reserved region from a line on. -/
def Dev.resvWords (d : Dev) (lineNo : Nat) : Nat → List Nat → Dev
  | 0, _ => d
  | _, [] => d
  | n + 1, ws =>
    let x : LineData := BitVec.ofNat 512 (natOfBytes ((ws.take 8).flatMap fun w => bytesOfNat 8 w))
    (d.resvPut lineNo x).resvWords (lineNo + 1) n (ws.drop 8)

/-- Queue 0 of a port is numbered 8,192 + port here; queues 1 to 15 are the fabric manager's (R264). -/
def isQ0 (q : Nat) : Bool := decide (8192 ≤ q ∧ q < 8196)
def isFm (q : Nat) : Bool := decide (1 ≤ q ∧ q ≤ 15)
def privQ (q : Nat) : Bool := isQ0 q || isFm q

/-- A privileged queue as it stands at BOOT (R266, R346): rings of 4,096, completion rings of 256, handle 0 of queues 1 to 15
over the queue's staging area. -/
def Dev.privDefault (d : Dev) (q : Nat) : Queue := {
  recd := { ringOrder := 6, crOrder := 2 },
  windows := if isFm q then
      [(0, { kind := 2, read := true, write := true, base := (d.plat.stagingBase + q * 1024) * 64, length := 65536 })]
    else [] }

/-- The summary as 64-bit words of its layout (R245). -/
def packSummary (s : List Nat) : List Nat :=
  let e (i : Nat) : Nat := (s[i]?).getD 0
  [e 0 + e 1 * 2 ^ 32, e 2 + e 3 * 2 ^ 32, e 4 + e 5 * 2 ^ 32, e 6 + e 7 * 2 ^ 32] ++ (s.drop 8).take 260 ++
    (List.range 256).map fun i => natOfBytes (((s.drop (268 + 8 * i)).take 8).map (BitVec.ofNat 8))

/-- The windows of queue 0 of H0 over the summary and the lists (log 16): handles 1 to 4. -/
def Dev.exposeLists (d : Dev) : Dev :=
  let f := d.flow
  let b := d.plat.flowBase
  let ls : List (List Nat) := [packSummary f.summary, f.closedP.map (·.toNat), f.closedD.map (·.toNat), f.closedS.map (·.toNat)]
  let d1 := (List.range 4).foldl (fun (d : Dev) i => d.resvWords (b + 1024 * i) 1024 ((ls[i]?).getD [])) d
  d1.onQueues fun q => { q with qs := mmod q.qs 8192 (d.privDefault 8192) fun x => { x with
    windows := (List.range 4).foldl (fun w i =>
      mset w (i + 1) { kind := 2, read := true, base := (b + 1024 * i) * 64, length := 65536 }) x.windows } }

/-- Close the lists and write the summary (R241, R242). A pressure run leaves the epoch's lists as they stand. -/
def Dev.closeLists (d : Dev) (reason : Nat) : Dev :=
  let s := d.summaryOf reason
  let f := d.flow
  let d1 : Dev := { d with flow := { f with summary := s, reason := reason, closedP := f.promote, closedD := f.demote, closedS := f.spill } }
  d1.exposeLists

/-- Place one run of the policy program (R241): a loaded program goes to queue 0 of H0; the built-in one plans its moves. -/
def Dev.policyRun (d : Dev) (reason : Nat) : Dev :=
  if d.flow.builtin then
    { d with pages := { d.pages with plans := d.pages.plans ++ d.builtinPlans reason } }
  else
    { (d.queueRun 0 { writer := .flowstone, words := d.flow.program }) with
      flow := { d.flow with running := true } }

/-- Self-demotion (R243), where no program is loaded or the loaded one has faulted: the demotion list, coldest first, but for pages that it
takes already. Whether the grotto is above its reserve is looked at when the page's turn comes. -/
def Dev.selfDemote (d : Dev) : Dev :=
  if !(d.flow.builtin || d.flow.progFault) then d
  else
    let cs := (byHeat false d.flow.closedD).filter fun c =>
      !(d.pages.plans.any fun p => p.why == .pressure && p.g == candGrotto c && p.page == candPage c)
    let ps : List Plan := cs.map fun c => { kind := .demote, g := candGrotto c, page := candPage c, gen := candGen c, why := .pressure }
    { d with pages := { d.pages with plans := d.pages.plans ++ ps } }

/-- A pressure run, and self-demotion beside it (R243). -/
def Dev.pressureRun (d : Dev) : Dev :=
  let d0 : Dev := { d with flow := { d.flow with pressureAt := some d.timeMs } }
  (((d0.closeLists 1).policyRun 1).bump 1306).selfDemote

/-- Enter an extent happening in the owner's Dynamic Capacity log (R47): the extent starts in the owner's DPA space; its tag and the
shared-extent sequence are zero. -/
def Dev.dcLog (d : Dev) (g : Nat) (kind : LogKind) (ext : Nat × Nat) : Dev :=
  let x := d.grotto g
  let base := ((x.attaches.find? fun a => a.link == x.ownerLink && a.ld == x.ownerLd).map (·.base)).getD 0
  let r : FaultRec := {
    fine := 0, lamp := d.lamp, code := 0, cls := 0, att := 0, akind := 1, grotto := some g, seq := 0,
    unit := unitLink x.ownerLink, addr := d.devOffset g (ext.1 * unitLines), detail := 0 }
  d.logAdd x.ownerLink x.ownerLd 4 { kind := kind, fault := r, dpa := some (base + ext.1 * unitBytes), len := ext.2 * unitBytes }

/-- The grotto that is asked first for capacity (R106): of those above their reserve with an accepted extent not yet asked for, the one with
the largest U − Q, the first of the table where several have it (DESIGN CHOICE, log 96). -/
def Dev.askFirst (d : Dev) : Option (Nat × Grotto) :=
  let cands := d.grottos.filter fun e => decide (e.2.used > e.2.reserve) && (e.2.accepted.any fun x => !e.2.releaseAsked.contains x)
  cands.foldl (fun (b : Option (Nat × Grotto)) e => match b with
    | none => some e
    | some x => if e.2.used - e.2.reserve > x.2.used - x.2.reserve then some e else b) none

/-- A Release Capacity event for the newest accepted extent of that grotto. -/
def Dev.askOne (d : Dev) : Dev :=
  match d.askFirst with
  | none => d
  | some (g, x) =>
    match (x.accepted.filter fun y => !x.releaseAsked.contains y).getLast? with
    | some ext => ((d.setGrotto g { x with releaseAsked := x.releaseAsked ++ [ext] }).dcLog g .releaseCapacity ext).bump 16
    | none => d

/-- Release Capacity events (R106): they begin when S falls below the watermark and end when S exceeds it by 1 % of P; meanwhile each
command that ends asks for one more extent, of the first grotto in table order where several have the same largest U_g - Q_g (DESIGN
CHOICE, log 96). -/
def Dev.askRelease (d : Dev) : Dev :=
  let low := decide (d.surplus * 200 < (d.flow.watermark : Int) * d.dataFrames)
  let high := decide (d.surplus * 200 > ((d.flow.watermark : Int) + 2) * d.dataFrames)
  if low || (d.flow.asking && !high) then (if d.flow.asking then d else d.onFlow fun f => { f with asking := true }).askOne
  else if d.flow.asking then
    { d.onFlow (fun f => { f with asking := false }) with grottos := d.grottos.map fun e => (e.1, { e.2 with releaseAsked := [] }) }
  else d

/-- Put a write into the frame-wait list, or leave it in its credit slot where the list is full (R107, R108). The list
becoming non-empty places a pressure run, unless one began in this millisecond (R243, R249). -/
def Dev.waitFrame (d : Dev) (r : Req) : Dev :=
  let p := d.pages
  if p.frameWait.length < 1024 then
    let d1 := ({ d with pages := { p with frameWait := p.frameWait ++ [r] } }).bump (1344 + 3 * r.g + 2)
    if p.frameWait.isEmpty ∧ d.flow.pressureAt ≠ some d.timeMs then d1.pressureRun else d1
  else { d with pages := { p with creditWait := p.creditWait ++ [r] } }

end Sys2Proof.Machine
end

