-- ==== Sys2Proof/Machine/Gallery.lean ====
section
/-!
DEFINITION. Galleries as they stand in DRAM (R195 to R204): the header in its slot, the streams of the sub-blocks in primary and sump
sectors, how they are encrypted, read and written.
-/
namespace Sys2Proof.Machine

/-! ### The header (R198, R200) -/

/-- The 96 bits of a sub-block descriptor, and back (R198). -/
def SubDesc.num (s : SubDesc) : Nat :=
  s.mode % 4 * 2 ^ 94 + s.count % 4 * 2 ^ 92 + s.length % 2 ^ 11 * 2 ^ 81 + (if s.chained then 2 ^ 80 else 0) + s.reserved % 2 ^ 10 * 2 ^ 70 +
    s.sumpFirst % 2 ^ 35 * 2 ^ 35 + s.first % 2 ^ 35

def subDescOf (v : Nat) : SubDesc := {
  mode := bitsOf v 95 94, count := bitsOf v 93 92, length := bitsOf v 91 81, chained := v.testBit 80, reserved := bitsOf v 79 70,
  sumpFirst := bitsOf v 69 35, first := bitsOf v 34 0 }

/-- The info word of a header, bytes 8 to 15 (R198). -/
def Header.info (h : Header) : Nat :=
  h.magic % 256 * 2 ^ 56 + h.version % 16 * 2 ^ 52 + h.gen.toNat * 2 ^ 44 + h.level % 16 * 2 ^ 40 + h.primary % 8 * 2 ^ 37 +
    h.sump % 16 * 2 ^ 33 + h.page % 2 ^ 33

/-- The 64 bytes of a header, and back (R198). -/
def Header.data (h : Header) : LineData :=
  BitVec.ofNat 512 (h.poison.toNat + h.info * 2 ^ 64 +
    ((List.range 4).map fun k => (h.descs.getD k {}).num * 2 ^ (128 + 96 * k)).sum)

def headerOf (x : LineData) : Header :=
  let v := x.toNat
  let i := bitsOf v 127 64
  { poison := BitVec.ofNat 64 v, magic := bitsOf i 63 56, version := bitsOf i 55 52, gen := BitVec.ofNat 8 (bitsOf i 51 44),
    level := bitsOf i 43 40, primary := bitsOf i 39 37, sump := bitsOf i 36 33, page := bitsOf i 32 0,
    descs := (List.range 4).map fun k => subDescOf (bitsOf v (223 + 96 * k) (128 + 96 * k)) }

/-- Whether a descriptor is one that R200 calls corrupt. -/
def SubDesc.corrupt (s : SubDesc) : Bool :=
  s.reserved != 0 || decide (1 < s.mode) ||
    (if s.mode = 1 then s.count != 0 || s.length != 0 || s.chained || s.sumpFirst != 0 || s.first != 0
     else s.count == 0 || s.length == 0 || s.first == 0 || (!s.chained && decide (s.count * 512 < s.length))) ||
    (!s.chained && s.sumpFirst != 0)

/-- Whether a header is corrupt for a page and the generation expected of it (R200). -/
def Header.corrupt (h : Header) (page : Nat) (gen : BitVec 8) : Bool :=
  h.magic != 0xC7 || h.version != 1 || h.page != page || h.gen != gen || h.primary != (h.descs.map (·.count)).sum ||
    h.descs.any SubDesc.corrupt

/-- Sub-block k of a header. -/
def Header.desc (h : Header) (k : Nat) : SubDesc := h.descs.getD k {}

/-- Whether a sub-block is in zero mode (R197). -/
def SubDesc.zero (s : SubDesc) : Bool := s.mode == 1

/-- The sub-blocks that are not in zero mode. -/
def Header.packed (h : Header) : List Nat := (List.range 4).filter fun k => !(h.desc k).zero

/-- The generation that a page's gallery header must hold (R200). -/
def headerGen (w : Word) : BitVec 8 := if peState w = 5 then peGen w - 1 else peGen w

/-! ### Where things lie (R85, R196, R199) -/

/-- Frame, line of it, sector and slot of a header's location, which is its physical address over 64. -/
def locFrame (loc : Nat) : Nat := loc / 64
def locLine (loc : Nat) : Nat := loc % 64
def locSector (loc : Nat) : Nat := loc / 8 % 8
def locSlot (loc : Nat) : Nat := loc % 8

/-- Line i of a sector: its frame, and its line there. -/
def sectorLine (s i : Nat) : Nat × Nat := (s / 8, s % 8 * 8 + i)
def sectorLines (s : Nat) : List (Nat × Nat) := (List.range 8).map (sectorLine s)

/-- The primary sectors of a sub-block (R199). -/
def SubDesc.sectors (s : SubDesc) : List Nat := (List.range s.count).map (s.first + ·)
def Header.primaries (h : Header) : List Nat := h.descs.flatMap SubDesc.sectors

/-- Tweaks (R112, R201): the header's, and that of line i of the sector at a chain position of sub-block k. -/
def headerTweak (g page : Nat) : Nat := tweakOf g page 0 2
def sectorTweak (g page k pos i : Nat) : Nat := tweakOf g page (k * 64 + pos) 1 + i * 2 ^ 128

/-! ### Reading what is stored -/

/-- A line as one read can deliver it: none where its rank is out, its bank lost, the line poisoned or not correctable (R469, R541). -/
def Dev.peek (d : Dev) (f n : Nat) : Option DLine :=
  let x := d.dline f n
  if d.rankUp f && !d.inLostBank f n && x.kind != .poison && decide (x.errs.length ≤ 1) then some x else none

/-- The header of a page that a location holds, unless it cannot be read or is corrupt for that generation (R200, R210). -/
def Dev.headerAt (d : Dev) (g page loc : Nat) (gen : BitVec 8) : Option Header := do
  let key ← d.pageKey? g page
  let x ← d.peek (locFrame loc) (locLine loc)
  let h := headerOf (x.open key (headerTweak g page))
  if h.corrupt page gen then none else some h

/-- The gallery header of a warm page, or of one that moves from warm: none where it is unreadable or corrupt. -/
def Dev.galleryOf (d : Dev) (g page : Nat) : Option Header :=
  let w := d.entry g page
  d.headerAt g page (peLoc w) (headerGen w)

/-- The header of a page that a location holds, whatever its generation. -/
def Dev.headerHere (d : Dev) (g page loc : Nat) : Option Header := do
  let key ← d.pageKey? g page
  let x ← d.peek (locFrame loc) (locLine loc)
  let h := headerOf (x.open key (headerTweak g page))
  if h.corrupt page h.gen then none else some h

/-- The bytes of a sector at a chain position of a sub-block (R201). -/
def Dev.sectorBytes (d : Dev) (g page k pos s : Nat) : Option (List Byte) := do
  let key ← d.pageKey? g page
  let ls ← (List.range 8).mapM fun i => do
    let x ← d.peek (sectorLine s i).1 (sectorLine s i).2
    pure (lineBytes (x.open key (sectorTweak g page k pos i)))
  pure ls.flatten

/-- A sump chain from a sector on (R202): its sectors and the stream bytes in them; the flag says whether every link could be read
and is well formed. -/
def Dev.sumpChain (d : Dev) (g page k : Nat) : Nat → Nat → Nat → List Nat × List Byte × Bool
  | 0, _, _ => ([], [], false)
  | n + 1, pos, s =>
    match d.sectorBytes g page k pos s with
    | none => ([s], [], false)
    | some bs =>
      let v := natOfBytes (bs.drop 504)
      let used := bitsOf v 43 35
      let more := v.testBit 63
      let next := bitsOf v 34 0
      if used = 0 ∨ 504 < used ∨ bitsOf v 62 44 ≠ 0 ∨ (more = false ∧ next ≠ 0) then ([s], [], false)
      else if more then
        let (ss, rest, ok) := d.sumpChain g page k n (pos + 1) next
        (s :: ss, bs.take used ++ rest, ok)
      else ([s], bs.take used, true)

/-- The sump chain of a sub-block: chain positions go up to 15 (R201). -/
def Dev.sumpOf (d : Dev) (g page : Nat) (h : Header) (k : Nat) : List Nat × List Byte × Bool :=
  let s := h.desc k
  if s.chained then d.sumpChain g page k (16 - s.count) s.count s.sumpFirst else ([], [], true)

/-- The sectors that a gallery's sub-blocks use, as far as its chains can be read: primary, and sump. -/
def Dev.subSectors (d : Dev) (g page : Nat) (h : Header) (k : Nat) : List Nat := (h.desc k).sectors ++ (d.sumpOf g page h k).1
def Dev.sumpsOf (d : Dev) (g page : Nat) (h : Header) : List Nat := (List.range 4).flatMap fun k => (d.sumpOf g page h k).1

/-- The stream of a sub-block that is not in zero mode (R199): its length in bytes over primary and sump sectors. -/
def Dev.subStream (d : Dev) (g page : Nat) (h : Header) (k : Nat) : Option (List Byte) := do
  let s := h.desc k
  let ps ← (List.range s.count).mapM fun i => d.sectorBytes g page k i (s.first + i)
  let own := ps.flatten.take s.length
  let (_, rest, ok) := d.sumpOf g page h k
  if ok ∧ (own ++ rest).length = s.length then some (own ++ rest) else none

/-- Cut bytes into lines. -/
def linesOf (n : Nat) (bs : List Byte) : List LineData := (List.range n).map fun i => lineOfBytes ((bs.drop (64 * i)).take 64)

/-- The 16 lines of a sub-block (R195, R204, R207): none where a sector cannot be read, the stream is malformed, its check value does
not match, or it does not end where its length says. -/
def Dev.subData (d : Dev) (g page : Nat) (h : Header) (k : Nat) : Option (List LineData) :=
  if (h.desc k).zero then some (List.replicate 16 0)
  else
    match d.subStream g page h k with
    | none => none
    | some bs =>
      match decodeBlock 1024 bs with
      | .ok out used none => if out.length = 1024 ∧ used = bs.length then some (linesOf 16 out) else none
      | _ => none

/-- Line n of a gallery whose sub-blocks have been read: data and poison (R207). -/
def Header.line (h : Header) (subs : List (Option (List LineData))) (n : Nat) : LineData × Bool :=
  if h.poison.getLsbD n then (0, true)
  else match subs.getD (n / 16) none with
    | some ls => (ls.getD (n % 16) 0, false)
    | none => (0, true)

/-! ### One access to a line of a gallery (R209, R479) -/

/-- Read a line of a header or a sector once: whether it could be read. A symbol in error is corrected in place (R480); inverted check
bits make this read fail (R496). -/
def Dev.touch (d : Dev) (cls : Nat) (g : Nat) (e : Nat × Nat) : Bool × Dev :=
  let c := frameChan e.1
  if !d.rankUp e.1 || d.inLostBank e.1 e.2 then (false, d)
  else
    let x := d.dline e.1 e.2
    let d0 := d.countRead e.1 e.2 cls
    let (inv, d1) := d0.takeInvert (unitChan c) 3 e.1
    match judge x.errs .clean with
    | .good => (x.kind != .poison && !inv, d1)
    | .fixed dev =>
      let d2 := (d1.onMem fun m => { m with dram := mput m.dram {} (dramKey e.1 e.2) { x with errs := [] } }).bump (chCnt c 10)
      (x.kind != .poison && !inv, d2.raise {
        code := 0x1001, cls := 1, unit := unitChan c, att := 2, akind := 3, addr := e.1, grotto := some g,
        detail := dramDetail c (d2.coord e.1 e.2) (2 ^ dev) })
    | _ => (false, d1)

/-- Read some lines once: whether all could be read. -/
def Dev.touchAll (d : Dev) (cls g : Nat) (es : List (Nat × Nat)) : Bool × Dev :=
  es.foldl (fun (acc : Bool × Dev) e => let (ok, d) := acc.2.touch cls g e; (acc.1 && ok, d)) (true, d)

/-- Read the header of a warm page with its one re-read (R210): none where it stays unreadable, or is corrupt. -/
def Dev.headerRead (d : Dev) (g page cls : Nat) (o : LineObs) : Option Header × Dev :=
  let loc := peLoc (d.entry g page)
  let at_ : Nat × Nat := (locFrame loc, locLine loc)
  let seen (x : ReadObs) : Bool := match judge [] x with
    | .good | .fixed _ => true
    | _ => false
  let (ok, d1) := d.touch cls g at_
  if ok && seen o.first then (d1.galleryOf g page, d1)
  else
    let (ok2, d2) := d1.touch cls g at_
    if ok2 && seen o.second then
      (d2.galleryOf g page, d2.raise {
        code := 0x1002, cls := 1, unit := unitChan (frameChan (locFrame loc)), att := 2, akind := 3, addr := locFrame loc, grotto := some g,
        detail := dramDetail (frameChan (locFrame loc)) (d2.coord at_.1 at_.2) 0 })
    else (none, d2)

/-! ### Writing (R199, R202) -/

/-- Write a sector of 512 bytes at a chain position of a sub-block. -/
def Dev.putSector (d : Dev) (g page k pos s : Nat) (bs : List Byte) (cls : Nat) : Dev :=
  (List.range 8).foldl (fun (d : Dev) i =>
    d.dramWrite (sectorLine s i).1 (sectorLine s i).2 {
      kind := .data, key := (d.pageKey? g page).getD 0, tweak := sectorTweak g page k pos i,
      data := lineOfBytes ((bs.drop (64 * i)).take 64) } cls) d

/-- The bytes of a sump sector: up to 504 of the stream, and its link word. -/
def sumpBytes (bs : List Byte) (next : Option Nat) : List Byte :=
  (bs ++ List.replicate 504 0#8).take 504 ++
    bytesOfNat 8 ((if next.isSome then 2 ^ 63 else 0) + min 504 bs.length * 2 ^ 35 + next.getD 0 % 2 ^ 35)

/-- Write the rest of a stream into its sump sectors. -/
def Dev.laySump (d : Dev) (g page k : Nat) (cls : Nat) : Nat → List Nat → List Byte → Dev
  | _, [], _ => d
  | pos, s :: t, bs => (d.putSector g page k pos s (sumpBytes (bs.take 504) t.head?) cls).laySump g page k cls (pos + 1) t (bs.drop 504)

/-- Write a sub-block's stream: sump sectors first, then the primary ones, filled in order and padded with zeros (R199, R214). -/
def Dev.layStream (d : Dev) (g page k : Nat) (s : SubDesc) (sumps : List Nat) (bs : List Byte) (cls : Nat) : Dev :=
  let d1 := d.laySump g page k cls s.count sumps (bs.drop (512 * s.count))
  (List.range s.count).foldl (fun (d : Dev) i =>
    d.putSector g page k i (s.first + i) ((((bs.drop (512 * i)).take 512) ++ List.replicate 512 0#8).take 512) cls) d1

/-- Write the header of a page into its slot. -/
def Dev.layHeader (d : Dev) (g page loc : Nat) (h : Header) (cls : Nat) : Dev :=
  d.dramWrite (locFrame loc) (locLine loc) {
    kind := .data, key := (d.pageKey? g page).getD 0, tweak := headerTweak g page, data := h.data } cls

/-- Sump sectors that a stream of so many bytes needs beyond its primary sectors (R215). -/
def sumpNeed (count len : Nat) : Nat := if len ≤ count * 512 then 0 else ceilDiv (len - count * 512) 504

/-! ### Making sub-blocks (R195, R197) -/

/-- The bytes of lines as they enter a sub-block: a poisoned one counts as zeros (R219). -/
def packBytes (ls : List (LineData × Bool)) : List Byte := ls.flatMap fun e => lineBytes (if e.2 then 0 else e.1)

/-- One sub-block at a level: its descriptor, its sectors not yet placed, and its stream. -/
def packSub (level : Nat) (ls : List (LineData × Bool)) : SubDesc × List Byte :=
  let bs := packBytes ls
  if bs.all (· == 0) then ({}, [])
  else
    let s := encodeBlock level bs
    ({ mode := 0, length := s.length, count := if s.length ≤ 512 then 1 else if s.length ≤ 1024 then 2 else 3 }, s)

/-! ### The warm pages -/

/-- The pages whose entries name a gallery: grotto, page and header location. -/
def Dev.warmPages (d : Dev) : List (Nat × Nat × Nat) :=
  d.pages.area.filterMap fun e =>
    if peView e.2 = 2 then (d.grottoAt e.1).map fun g => (g, e.1 - (d.grotto g).mapBase, peLoc e.2) else none

/-- The lines that a gallery lies in: its header's, and those of the sectors that can be told. -/
def Dev.galleryFrames (d : Dev) (g page loc : Nat) : List Nat :=
  locFrame loc :: match d.galleryOf g page with
    | some h => (h.primaries ++ d.sumpsOf g page h).map (· / 8)
    | none => []

/-- Whether what backs a page lies in part behind a retrain or a repair, so that its reads wait (R147, R149). -/
def Dev.pageWaits (d : Dev) (g page : Nat) : Bool :=
  if d.chans.all fun e => e.2.retrain.isEmpty && e.2.repair.isNone then false
  else
    let w := d.entry g page
    match peView w with
    | 1 => d.frameWaits (peLoc w)
    | 2 => (d.galleryFrames g page (peLoc w)).any d.frameWaits
    | _ => false

/-- What a line of a heap frame or a sump sector is to a gallery: none its header, or some sub-block. -/
def Dev.galleryLine (d : Dev) (f n : Nat) : Option (Nat × Nat × Option Nat) :=
  d.warmPages.findSome? fun (g, page, loc) =>
    if locFrame loc = f ∧ locLine loc = n then some (g, page, none)
    else match d.galleryOf g page with
      | some h => ((List.range 4).find? fun k => (d.subSectors g page h k).contains (f * 8 + n / 8)).map fun k => (g, page, some k)
      | none => none

end Sys2Proof.Machine
end

