-- ==== Sys2Proof/Machine/Lines.lean ====
section
/-!
DEFINITION. Lines at the home slice: near cache, galleries, how a line of each page state is read and written, promotion and
in-place recompression, and how requests are answered (03, 05, 06, 07, 13).
-/
namespace Sys2Proof.Machine

def pageOf (line : Nat) : Nat := line / 64
def lineIn (line : Nat) : Nat := line % 64

/-! ### Answers -/

/-- Whether a link still takes responses (R68). -/
def Dev.linkLive (d : Dev) (l : Nat) : Bool := (d.link l).up && !(d.link l).perst && d.power.mode != .hold

/-- A number for each reader that lines are kept for: a queue and position, or a mailbox. -/
def Who.reader : Who → Nat
  | .engine q pos => q * 2 ^ 32 + pos.toNat
  | .mbox l ld => (16384 + l * 17 + ld) * 2 ^ 32
  | _ => 2 ^ 50

/-- Key of a line that is kept for a reader. -/
def keptKey (who : Who) (g line : Nat) : Nat := who.reader * 2 ^ 46 + lineKey g line

/-- Keep a line for a reader until it looks again. -/
def Dev.keep (d : Dev) (who : Who) (g line : Nat) (data : LineData) (poison : Bool) : Dev :=
  { d with pages := { d.pages with farBuf := mset d.pages.farBuf (keptKey who g line) (data, poison) } }

/-- The line that is kept for a reader. -/
def Dev.kept? (d : Dev) (who : Who) (g line : Nat) : Option (LineData × Bool) := mget d.pages.farBuf (keptKey who g line)

/-- A reader has used what was kept for it. -/
def Dev.forget (d : Dev) (who : Who) : Dev :=
  { d with pages := { d.pages with farBuf := mkeep d.pages.farBuf fun k => k / 2 ^ 46 != who.reader } }

/-- Answer a read of a host or a partner; what an engine or a mailbox program waits for is kept for it until it looks again. -/
def Dev.answerRead (d : Dev) (r : Req) (data : LineData) (poison : Bool) : Dev :=
  match r.who with
  | .host h =>
    if d.linkLive h.link then
      ((((d.emit (.memData h data poison (r.op == .readE))).bump (128 + 16 * h.link)).bump (128 + 16 * h.link + 3) 64).bump
        (64 + 4 * r.cls + 1)).bump (1344 + 3 * r.g) 64
    else d
  | .ropeRead p tag => d.evSend p (.ropeData {
      poison := poison, zero := data == 0 && !poison, tag := tag, grotto := r.g, line := r.line, data := if poison then 0 else data,
      key := if poison then 0 else (d.pageKey? r.g (pageOf r.line)).getD 0 })
  | .engine _ _ | .mbox _ _ => d.keep r.who r.g r.line data poison
  | _ => d

/-- Receive slots that are free again once their mirror messages are placed (R436). -/
def EvPort.release (x : EvPort) (s : BitVec 32) : EvPort :=
  let held := x.held.map fun l => l.filter (· != s)
  { x with
    cur := x.cur.filter (· != s), held := held.filter fun l => !l.isEmpty,
    freed := x.freed + BitVec.ofNat 12 (held.filter (·.isEmpty)).length }

/-- A mirror message is placed (R451): placement is reported cumulatively, up to the first message not yet placed. -/
def Dev.ropePlaced (d : Dev) (p : Nat) (s : BitVec 32) : Dev :=
  let x := d.evPort p
  let all := x.placing.map fun e => if e.1 = s then (s, true) else e
  let done := all.takeWhile (·.2)
  let d1 := (d.setEv p { x.release s with placing := all.dropWhile (·.2) }).bump (evCnt p 9)
  match done.getLast? with
  | some (t, _) => (d1.onRope fun r => if p = 0 then { r with rx0 := some t } else { r with rx1 := some t }).evSend p (.placement t)
  | none => d1

/-- Complete a write whose conditions of R24 hold. -/
def Dev.answerWrite (d : Dev) (r : Req) : Dev :=
  match r.who with
  | .host h =>
    if d.linkLive h.link then
      (((d.emit (.memCmp h)).bump (128 + 16 * h.link + 1)).bump (64 + 4 * r.cls + 1)).bump (1344 + 3 * r.g + 1) 64
    else d
  | .rope p s => d.ropePlaced p s
  | _ => d

/-- Complete a write, or let it wait for the partner's placement report (R24, R452). -/
def Dev.finish (d : Dev) (r : Req) (m : Option (Nat × BitVec 32)) : Dev :=
  match m with
  | some (p, s) => { d with pages := { d.pages with mirrorWait := d.pages.mirrorWait ++ [(p, s, r)] } }
  | none => d.answerWrite r

/-- Data bytes of a poisoned line, which no rule gives: free (log 3). -/
def Dev.freeLine (d : Dev) : LineData × Dev :=
  (Config.freeLine d.freeCtr, { d with freeCtr := d.freeCtr + 1 })

/-- The error source of poison that a write brings (R477): External from a host, Injected from the mailbox, else Internal. -/
def poisonSource (r : Req) : Nat := if r.src < 128 then 1 else if r.src = 163 then 3 else 2

/-! ### Near cache (R186 to R191) -/

/-- Near-cache lines of a line's set (R156). -/
def Dev.ncWays (d : Dev) (g line : Nat) : AMap NcLine :=
  d.slices.nc.filter fun e =>
    homeSlice (keyGrotto e.1) (keyLine e.1) == homeSlice g line && ncSet (keyLine e.1) == ncSet line

/-- A near-cache line is used (R190). -/
def Dev.ncUse (d : Dev) (g line : Nat) : Dev :=
  { d with slices := { d.slices with ncAge := useWay d.slices.ncAge ((d.ncWays g line).map (·.1)) (lineKey g line) } }

def Dev.ncGet (d : Dev) (g line : Nat) : Option NcLine := mget d.slices.nc (lineKey g line)

/-- Store a near-cache line; one that becomes dirty is the youngest of the dirty ones (R532). -/
def Dev.ncPut (d : Dev) (g line : Nat) (x : NcLine) : Dev :=
  let k := lineKey g line
  (d.onSlices fun s => { s with
    nc := mset s.nc k x,
    dirtied := if !x.dirty then s.dirtied.filter (· != k) else if s.dirtied.contains k then s.dirtied else s.dirtied ++ [k] }).ncUse g line

def Dev.ncDrop (d : Dev) (g line : Nat) : Dev :=
  let k := lineKey g line
  d.onSlices fun s => { s with nc := merase s.nc k, ncAge := merase s.ncAge k, dirtied := s.dirtied.filter (· != k) }

/-- Keep the near-cache lines whose key satisfies a test. -/
def Dev.ncFilter (d : Dev) (p : Nat → Bool) : Dev :=
  d.onSlices fun s => { s with nc := mkeep s.nc p, ncAge := mkeep s.ncAge p, dirtied := s.dirtied.filter p }

/-- Drop every near-cache line of a page (R100). -/
def Dev.ncDropPage (d : Dev) (g page : Nat) : Dev := d.ncFilter fun k => !(keyGrotto k == g && pageOf (keyLine k) == page)

/-- Whether a line is in D or locked by an atomic (R172, R173). -/
def Dev.locked (d : Dev) (g line : Nat) : Bool :=
  (match mget d.slices.dir (lineKey g line) with
   | some e => e.st == .D
   | none => false) || d.slices.locks.any fun l => l.1 == lineKey g line

/-- Apply a flip mask armed on the near cache of the slice to a line being stored (R495). -/
def Dev.ncFlip (d : Dev) (g line : Nat) (x : NcLine) : NcLine × Dev :=
  match d.takeFlip (unitNc (homeSlice g line)) 1 (d.devOffset g line) with
  | (some (w, m, c), d1) =>
    let n := popCount m.toNat 64 + popCount (c.toNat % 256) 8
    let bit : BitVec 8 := 1#8 <<< w
    (if n = 0 then x else if n = 1 then { x with fixWords := x.fixWords ||| bit } else { x with badWords := x.badWords ||| bit }, d1)
  | (none, d1) => (x, d1)

def Dev.fixed2001 (d : Dev) (g line att : Nat) : Dev :=
  d.raise { code := 0x2001, cls := 1, unit := unitNc (homeSlice g line), att := att, akind := 1, addr := d.devOffset g line,
            grotto := some g }

/-- Look a line up for a reader: corrected words are rewritten (R186); an uncorrectable word drops a clean line and poisons a
dirty one (R187). -/
def Dev.ncLook (d : Dev) (g line : Nat) : Option NcLine × Dev :=
  match d.ncGet g line with
  | none => (none, d)
  | some x =>
    let (inv, d1) := d.takeInvert (unitNc (homeSlice g line)) 1 (d.devOffset g line)
    let d2 := if inv then d1.fixed2001 g line 2 else d1
    if x.badWords ≠ 0 then
      if x.dirty then
        let y : NcLine := { x with poison := true, badWords := 0, fixWords := 0 }
        (some y, (d2.ncPut g line y).contain 0x2002 (unitNc (homeSlice g line)) 2 g line 3)
      else (none, (d2.ncDrop g line).fixed2001 g line 2)
    else if x.fixWords ≠ 0 then
      let y : NcLine := { x with fixWords := 0 }
      (some y, (d2.ncPut g line y).fixed2001 g line 1)
    else (some x, d2.ncUse g line)

/-! ### Galleries (06) -/

/-- Location of the entry of a page that becomes lost: the frame that held the page (R85). -/
def lostLoc (w : Word) : Nat :=
  match peView w with
  | 1 => 2 ^ 32 + peLoc w
  | 2 => 2 ^ 32 + locFrame (peLoc w)
  | _ => 0

/-- Give back sectors of a heap frame; one left with no used sector goes to the pending pool (R196, R212). -/
def Dev.heapCheck (d : Dev) (f : Nat) : Dev :=
  match mget d.pages.heaps f with
  | some h =>
    if h.data = 0 ∧ h.heads.all (fun e => e.2 == 0) then
      (({ d with pages := { d.pages with heaps := merase d.pages.heaps f } }).hold h.grotto (frameChan f) (-1)).freeFrame f
    else d
  | none => d

def Dev.modHeap (d : Dev) (f : Nat) (k : HeapFrame → HeapFrame) : Dev :=
  match mget d.pages.heaps f with
  | some h => { d with pages := { d.pages with heaps := mset d.pages.heaps f (k h) } }
  | none => d

def Dev.freeSectors (d : Dev) (ss : List Nat) : Dev :=
  ss.foldl (fun d s => (d.modHeap (s / 8) fun h => { h with data := h.data &&& ~~~(1#8 <<< (s % 8)) }).heapCheck (s / 8)) d

def Dev.freeHead (d : Dev) (loc : Nat) : Dev :=
  (d.modHeap (locFrame loc) fun h => { h with
    heads := mput h.heads 0 (locSector loc) (mgetD h.heads (locSector loc) 0 &&& ~~~(1#8 <<< locSlot loc)) }).heapCheck (locFrame loc)

/-- Free a gallery: its header slot, primary and sump sectors, as far as its header can be read; reconciliation finds the rest (R90). -/
def Dev.freeGallery (d : Dev) (g page loc : Nat) : Dev :=
  match d.headerHere g page loc with
  | some h =>
    let gone := d.sumpsOf g page h
    let d1 : Dev := { d with pages := { d.pages with sump := d.pages.sump.filter fun s => !gone.contains s } }
    (d1.freeSectors h.primaries).freeHead loc
  | none => d.freeHead loc

/-- A warm page loses its data (R91, R210): entry lost, with the frame that held its header; its header slot is free. -/
def Dev.pageLost (d : Dev) (g page : Nat) : Dev :=
  let w := d.entry g page
  let d1 := if peView w = 2 then d.freeHead (peLoc w) else d
  d1.turn g page 4 0 (lostLoc w)
/-- CONTAINED fault with grotto and page. -/
def Dev.containPage (d : Dev) (code unit g page att : Nat) : Dev :=
  d.raise { code := code, cls := 3, unit := unit, att := att, akind := 1, addr := d.devOffset g (page * 64), grotto := some g }

/-- Begin the rebuild of a page from the partner (R457), with a request that waits for it and takes it to the head of the queue: at
most 32 at a time on a port. -/
def Dev.rebuildPage (d : Dev) (g page : Nat) (r : Option Req) (partly : Bool := false) : Dev :=
  let rp := d.ev.rope
  let isIt (x : Rebuilt) : Bool := x.g == g && x.page == page
  let put (x : Rebuilt) (rest : List Rebuilt) : List Rebuilt := if r.isSome then x :: rest else rest ++ [x]
  match rp.pages.find? isIt with
  | some x =>
    let y : Rebuilt := { x with waiting := x.waiting ++ r.toList, partly := x.partly && (partly || r.isSome) }
    d.onRope fun rp => { rp with pages := put y (rp.pages.filter fun z => !isIt z) }
  | none =>
    let p := d.ropePort g (page * 64)
    let now := decide ((rp.pages.filter fun x => x.port == p && x.sent).length < 32)
    let d1 := d.onRope fun rp => { rp with
      pages := put { g := g, page := page, port := p, sent := now, partly := partly, waiting := r.toList } rp.pages }
    if now then let (tag, d2) := d1.evTag p; d2.evSend p (.ropeRead true tag g (page * 64)) else d1

/-- Send the next whole-page rope read of a port. -/
def Dev.nextRebuild (d : Dev) (p : Nat) : Dev :=
  match d.ev.rope.pages.find? fun x => x.port == p && !x.sent with
  | none => d
  | some x =>
    let d1 := d.onRope fun r => { r with pages := r.pages.map fun y => if y.g = x.g ∧ y.page = x.page then { y with sent := true } else y }
    let (tag, d2) := d1.evTag p
    d2.evSend p (.ropeRead true tag x.g (x.page * 64))

/-- Ask for pages that wait for their rebuild, as far as the limit of a port and the frames allow (R457). -/
def Dev.resumeRebuilds (d : Dev) : Dev :=
  if d.ev.rope.pages.isEmpty then d
  else (List.range 64).foldl (fun d i =>
    let p := i % 2
    match d.ev.rope.pages.find? fun x => x.port == p && !x.sent with
    | some x =>
      if decide ((d.ev.rope.pages.filter fun y => y.port == p && y.sent).length < 32) && (x.frame.isSome || d.mayTake (d.grotto x.g)) then
        d.nextRebuild p
      else d
    | none => d) d

/-- R210: a header that is unknown loses the page, or has it rebuilt. -/
def Dev.headerBad (d : Dev) (g page : Nat) : Dev :=
  if d.covered g then d.rebuildPage g page none
  else (d.pageLost g page).containPage 0x3003 (unitChan (frameChan (locFrame (peLoc (d.entry g page))))) g page 2

/-- R209: a sub-block that fails twice: its lines are poisoned and listed, or the page is rebuilt. -/
def Dev.subBad (d : Dev) (g page k cls : Nat) : Dev :=
  if d.covered g then d.rebuildPage g page none true
  else
    let loc := peLoc (d.entry g page)
    match d.galleryOf g page with
    | some h =>
      let d1 := d.layHeader g page loc { h with poison := h.poison ||| (0xFFFF#64 <<< (16 * k)) } cls
      let d2 := (List.range 16).foldl (fun d i => d.poisonList g (page * 64 + 16 * k + i) 2) d1
      d2.containPage 0x3002 (unitChan (frameChan (locFrame loc))) g page 2
    | none => d

/-- Whether every line of a sub-block is poisoned in the header, so that no read of it reads its sectors (R207). -/
def Header.dead (h : Header) (k : Nat) : Bool := h.poison.toNat / 2 ^ (16 * k) % 65536 == 65535

/-- Whether a sub-block of a gallery cannot be read as it stands. -/
def Dev.subLost (d : Dev) (g page : Nat) (h : Header) (k : Nat) : Bool := !h.dead k && (d.subData g page h k).isNone

/-- Whether a page of a roped grotto must be rebuilt, a sub-block of its gallery being unreadable (R209). -/
def Dev.mustRebuild (d : Dev) (g page : Nat) : Bool :=
  match d.galleryOf g page with
  | some h => d.covered g && (List.range 4).any (d.subLost g page h)
  | none => false

/-- Sub-blocks decompressed or compressed by some unit (R510). -/
def Dev.decompressions (d : Dev) (n : Nat) : Dev :=
  if n = 0 then d else let (u, d1) := d.choose 16; d1.bump (1152 + 4 * u) n
def Dev.compressions (d : Dev) (n : Nat) : Dev :=
  if n = 0 then d else let (u, d1) := d.choose 8; d1.bump (1088 + 8 * u + 3) n

/-- Read a sub-block with its one re-read (R207, R209): its lines, or none where it failed twice. -/
def Dev.subRead (d : Dev) (g page k cls : Nat) (h : Header) (o : SubObs) : Option (List LineData) × Dev :=
  if (h.desc k).zero ∨ h.dead k then (some (List.replicate 16 0), d)
  else
    let es := (d.subSectors g page h k).flatMap sectorLines
    let data := d.subData g page h k
    let (ok, d1) := (d.decompressions 1).touchAll cls g es
    if ok && o.firstOk && data.isSome then (data, d1)
    else
      let (ok2, d2) := d1.touchAll cls g es
      if ok2 && o.secondOk && data.isSome then
        (data, d2.raise {
          code := 0x3001, cls := 1, unit := unitChan (frameChan (locFrame (peLoc (d.entry g page)))), att := 2, akind := 1,
          addr := d2.devOffset g (page * 64 + 16 * k), grotto := some g })
      else (none, d2.subBad g page k cls)

/-- What a gallery reads as: its header, with the poison that the reads added, and its sub-blocks. -/
structure Contents where
  header : Header
  subs   : List (Option (List LineData))
  deriving DecidableEq, Repr

def Contents.line (x : Contents) (n : Nat) : LineData × Bool := x.header.line x.subs n

/-- Whether a line lies in a sub-block in zero mode and is not poisoned. -/
def Contents.zeroLine (x : Contents) (n : Nat) : Bool := (x.header.desc (n / 16)).zero && !x.header.poison.getLsbD n

/-- Read a whole gallery (R212): none where its header is unknown (R210). -/
def Dev.readGallery (d : Dev) (g page cls : Nat) (obs : List SubObs) : Option Contents × Dev :=
  match d.headerRead g page cls (obs.getD 0 {}).header with
  | (none, d1) => (none, d1)
  | (some h, d1) =>
    let (subs, d2) := (List.range 4).foldl (fun (acc : List (Option (List LineData)) × Dev) k =>
      let (x, d) := acc.2.subRead g page k cls h (obs.getD k {})
      (acc.1 ++ [x], d)) ([], d1)
    (some ⟨(d2.galleryOf g page).getD h, subs⟩, d2)

/-! ### Reading a line at once -/

/-- What a page gives for one of its lines. -/
inductive Got where
  | data (x : LineData) (poison : Bool)
  | sub
  | far (port : Nat) (handle : BitVec 33)
  | partner
  deriving DecidableEq, Repr

/-- Whether a page waits for its rebuild (R457). -/
def Dev.rebuilding (d : Dev) (g page : Nat) : Bool := d.ev.rope.pages.any fun x => x.g == g && x.page == page

/-- Deliver a stored line: its data and poison; a poisoned reading gives no byte of it (R469). -/
def Dev.deliver (d : Dev) (g page n : Nat) (x : DLine) : LineData × Bool × Dev :=
  match x.kind with
  | .zero => (0, false, d)
  | .poison => let (y, d1) := d.freeLine; (y, true, d1)
  | .data => match d.pageKey? g page with
    | some k => (x.open k (lineTweak g page n), false, d)
    | none => let (y, d1) := d.freeLine; (y, true, d1)

/-- EVENT of an access to a grotto whose key entry is empty (R81, R641). -/
def Dev.noKey (d : Dev) (g line : Nat) (write : Bool) : Dev :=
  d.event unitKeyTable 1 (d.devOffset g line) ((d.grotto g).keyOf (pageOf line) + if write then 4096 else 0) (some g)

/-- R81 for a backed page: whether its key entry is loaded. -/
def Dev.keyed (d : Dev) (g line : Nat) : Bool := (d.pageKey? g (pageOf line)).isSome

/-- Read a line that the near cache does not hold, from wherever its page-map entry points; a line of a warm page that needs its
sub-block is not read here. -/
def Dev.pageRead (d : Dev) (g line cls : Nat) (o : LineObs := {}) : Got × Dev :=
  let page := pageOf line
  let w := d.entry g page
  if d.rebuilding g page && d.covered g then (.partner, d)
  else if peView w = 0 then (.data 0 false, if d.keyed g line then d else d.noKey g line false)
  else if !d.keyed g line then let (y, d1) := (d.noKey g line false).freeLine; (.data y true, d1)
  else
    match peView w with
    | 1 =>
      let (x, d1) := d.dramRead (peLoc w) (lineIn line) o (some (g, line)) cls
      let (y, p, d2) := d1.deliver g page (lineIn line) x
      (.data y p, d2)
    | 2 =>
      match d.headerRead g page cls {} with
      | (some h, d1) =>
        if h.poison.getLsbD (lineIn line) then let (y, d2) := d1.freeLine; (.data y true, d2)
        else if (h.desc (lineIn line / 16)).zero then (.data 0 false, d1)
        else (.sub, d1)
      | (none, d1) =>
        let d2 := d1.headerBad g page
        if d2.covered g then (.partner, d2) else let (y, d3) := d2.freeLine; (.data y true, d3)
    | 3 => (.far (if bitsOf (peLoc w) 33 33 = 0 then 0 else 1) (BitVec.ofNat 33 (peLoc w)), d)
    | _ => let (y, d1) := d.freeLine; (.data y true, d1)

/-! ### Writing DRAM lines of a hot page -/

def Dev.seal (d : Dev) (g page n : Nat) (data : LineData) (poison : Bool) : DLine :=
  { kind := if poison then .poison else .data, key := (d.pageKey? g page).getD 0, tweak := lineTweak g page n, data := data }

/-- Store a whole line of a hot page in its frame. -/
def Dev.hotStore (d : Dev) (g line f : Nat) (data : LineData) (poison : Bool) (cls : Nat) : Dev :=
  d.dramWrite f (lineIn line) (d.seal g (pageOf line) (lineIn line) data poison) cls

/-- Read-modify-write in the channel (R127, R478): the line after it and its poison. -/
def Dev.hotMerge (d : Dev) (g line f : Nat) (m : ByteMask) (data : LineData) (poison : Bool) (cls : Nat) :
    LineData × Bool × Dev :=
  let page := pageOf line
  let (x, d1) := (d.bump (chCnt (frameChan f) 2)).dramRead f (lineIn line) {} (some (g, line)) cls
  let old := match x.kind with
    | .zero => 0
    | _ => if x.key = 0 ∧ x.data = 0 then 0 else x.open ((d.pageKey? g page).getD 0) (lineTweak g page (lineIn line))
  let new := mergeLine old data m
  let p := poison || x.kind == .poison
  (new, p, d1.hotStore g line f new p cls)

/-! ### Moves that a write meets (R251 to R253) -/

def Dev.moveOf (d : Dev) (g page : Nat) : Option Move := d.pages.moves.find? fun m => m.g == g && m.page == page
def Dev.setMove (d : Dev) (m : Move) : Dev :=
  { d with pages := { d.pages with moves := d.pages.moves.map fun x => if x.mover = m.mover then m else x } }
def Dev.dropMove (d : Dev) (m : Move) : Dev :=
  { d with pages := { d.pages with moves := d.pages.moves.filter fun x => x.mover != m.mover } }

/-- Free what a move had taken for its destination. -/
def Dev.freeDst (d : Dev) (m : Move) : Dev :=
  match m.dst with
  | .frame f => (d.hold m.g (frameChan f) (-1)).freeFrame f
  | .gallery _ ss h => (d.freeSectors ss).freeHead h
  | .guest p (some h) => d.evSend p (.guestRelease h)
  | .guest _ none => d

/-- The instruction that waits for a move gets its status and the entry as committed (R332, R253). -/
def Dev.moveResult (d : Dev) (m : Move) (status : Nat) : Dev :=
  match m.issuer with
  | some (q, pos) =>
    match mget d.queues.qs q with
    | some x =>
      let is := x.issued.map fun i => if i.pos = pos then
        { i with state := .applied, res := { i.res with status := status, r0 := d.entry m.g m.page } } else i
      { d with queues := { d.queues with qs := mset d.queues.qs q { x with issued := is } } }
    | none => d
  | none => d

/-- Put the entry of a page that moves back to its source at the next generation, a warm source's header first (R89, R253). -/
def Dev.toSource (d : Dev) (g page : Nat) : Dev :=
  let w := d.entry g page
  let d1 := match if peSrc w = 2 then d.headerAt g page (peLoc w) (peGen w - 1) else none with
    | some h => d.layHeader g page (peLoc w) { h with gen := peGen w + 1 } d.flow.cls
    | none => d
  d1.turn g page (peSrc w) 0 (peLoc w)

/-- Put a move's page back to its source and free the destination (R253). -/
def Dev.revert (d : Dev) (m : Move) : Dev := ((d.toSource m.g m.page).freeDst m).dropMove m

/-- Abandon a move (R253). The held requests are left for the caller. -/
def Dev.abandon (d : Dev) (m : Move) : Dev := ((d.revert m).moveResult m 0x0107).bump 1312

/-! ### Sump, promotion, recompression (R202, R211 to R218) -/

/-- Sump sectors of a channel (R202): 1,048,576 over the populated channels. -/
def Dev.sumpSize (d : Dev) : Nat :=
  if d.mem.resvChans.isEmpty then 0 else 1048576 / d.mem.resvChans.length

/-- The first unused sump sector of a channel in a rank in service, from an index on; the sump takes the first of the channel's reserved
frames (log 99). -/
def sumpFirst (used : List Nat) (up : Nat → Bool) (base : Nat) : Nat → Nat → Option Nat
  | 0, _ => none
  | n + 1, i => if used.contains (base + i) || !up ((base + i) / 8) then sumpFirst used up base n (i + 1) else some (base + i)

/-- Take n more sump sectors on a channel for a page of grotto g: none where its mask does not have the channel (R102). -/
def Dev.takeSump (d : Dev) (g c : Nat) : Nat → Option (List Nat × Dev)
  | 0 => some ([], d)
  | n + 1 =>
    let mine := d.pages.sump.filter fun s => frameChan (s / 8) == c
    if mine.length < d.sumpSize ∧ (d.grotto g).chanMask.getLsbD c = true then
      match sumpFirst mine d.rankUp (8 * mkFrame c 0) (mine.length + 16384) 0 with
      | some s =>
        let d1 : Dev := { d with pages := { d.pages with sump := d.pages.sump ++ [s] } }
        match d1.takeSump g c n with
        | some (ss, d2) => some (s :: ss, d2)
        | none => none
      | none => none
    else none

/-- Make a stream's sump sectors so many (R215): more are taken on the channel, and of those that are too many the ones that the
stream in place does not use are free at once. -/
def Dev.fitSump (d : Dev) (g c : Nat) (have_ old : List Nat) (need : Nat) : Option (List Nat × Dev) :=
  if have_.length ≤ need then (d.takeSump g c (need - have_.length)).map fun x => (have_ ++ x.1, x.2)
  else
    let gone := (have_.drop need).filter fun s => !old.contains s
    some (have_.take need, { d with pages := { d.pages with sump := d.pages.sump.filter fun s => !gone.contains s } })

/-- The effect of a write or victim on a line that a gallery holds: data and poison afterwards (R219). -/
def opOnLine (old : LineData) (oldP : Bool) : Op → LineData × Bool
  | .write m data p => (mergeLine (if oldP then 0 else old) data m, p || (oldP && m != fullMask))
  | .victim data p => (data, p)
  | _ => (old, oldP)

/-- The new lines of a sub-block and the header's poison bits when a write or victim goes into it (R214, R219). -/
def mergeSub (h : Header) (ls : List LineData) (n : Nat) (op : Op) : List LineData × BitVec 64 :=
  let (new, p) := opOnLine (ls.getD (n % 16) 0) (h.poison.getLsbD n) op
  let bit : BitVec 64 := 1#64 <<< n
  (ls.set (n % 16) new, if p then h.poison ||| bit else h.poison &&& ~~~bit)

/-- A header with a new stream for sub-block k (R215): the primary sectors stay, and so does the level, which is that of the last
whole writing (R198, log 93). -/
def Header.restream (h : Header) (k : Nat) (poison : BitVec 64) (len : Nat) (before sumps : List Nat) : Header := { h with
  poison := poison, sump := h.sump - before.length + sumps.length,
  descs := h.descs.set k { h.desc k with length := len, chained := !sumps.isEmpty, sumpFirst := (sumps.head?).getD 0 } }

/-- Compress what a recompression holds after one more write, at level 1 (R214, R223), with its sump sectors: none where the sump
cannot supply the growth. A result of zeros alone stays a stream (R215, log 93). -/
def Dev.recompress (d : Dev) (rc : Recomp) (ls : List LineData) (poison : BitVec 64) : Option (Recomp × Dev) :=
  let stream := encodeBlock 1 (ls.flatMap lineBytes)
  let need := sumpNeed (rc.header.desc rc.sub).count stream.length
  (d.fitSump rc.g (frameChan (locFrame rc.loc)) rc.sumps rc.old need).map fun x =>
    ({ rc with
       header := rc.header.restream rc.sub poison stream.length rc.sumps x.1, stream := stream, sumps := x.1, lines := ls }, x.2.compressions 1)

/-- Start an in-place recompression for a request (R214), or none where the sub-block has no primary sector, the sump cannot
supply the growth, or no record slot is free. Of a sub-block that cannot be read, zeros stand for the lines (R209, R219).
One that comes out as zeros keeps its mode and sectors (R215 leaves the count alone), and the header its level (R198): DESIGN CHOICE,
log 93. -/
def Dev.startRecomp (d : Dev) (r : Req) : Option Dev :=
  let page := pageOf r.line
  let k := lineIn r.line / 16
  let loc := peLoc (d.entry r.g page)
  match d.galleryOf r.g page with
  | none => none
  | some h0 =>
    if (h0.desc k).zero ∨ 1024 ≤ d.pages.recomps.length then none
    else
      let old := (d.sumpOf r.g page h0 k).1
      let (data, d1) := d.subRead r.g page k r.cls h0 {}
      let h := (d1.galleryOf r.g page).getD h0
      let (ls, poison) := mergeSub h (data.getD (List.replicate 16 0)) (lineIn r.line) r.op
      let rc : Recomp := {
        g := r.g, page := page, loc := loc, sub := k, header := h, stream := [], sumps := old, lines := [], old := old, merged := [r] }
      (d1.recompress rc ls poison).map fun x => x.2.onPages fun p => { p with recomps := p.recomps ++ [x.1] }

/-- Merge a write into a recompression of its sub-block that is not yet committed (R216). -/
def Dev.mergeRecomp (d : Dev) (rc : Recomp) (r : Req) : Option Dev :=
  let (ls, poison) := mergeSub rc.header rc.lines (lineIn r.line) r.op
  (d.recompress { rc with merged := rc.merged ++ [r] } ls poison).map fun x => x.2.onPages fun p => { p with
    recomps := p.recomps.map fun y => if y.g = rc.g ∧ y.page = rc.page then x.1 else y }

def Dev.recompOf (d : Dev) (g page : Nat) : Option Recomp := d.pages.recomps.find? fun x => x.g == g && x.page == page

/-- Drop the recompression of a page: sump sectors taken for it alone are free, and the requests that it has not completed are taken
up again. -/
def Dev.dropRecomp (d : Dev) (g page mode : Nat) : Dev :=
  match d.recompOf g page with
  | none => d
  | some rc =>
    let d1 := d.onPages fun q => { q with
      recomps := q.recomps.filter fun x => !(x.g == g && x.page == page),
      sump := q.sump.filter fun s => rc.old.contains s || !rc.sumps.contains s }
    d1.againAll mode (if rc.committed then rc.later else rc.merged ++ rc.later)

def Dev.promoOf (d : Dev) (g page : Nat) : Option Promo := d.pages.promos.find? fun x => x.g == g && x.page == page

def Dev.holdPromo (d : Dev) (p : Promo) (r : Req) : Dev :=
  { d with pages := { d.pages with promos := d.pages.promos.map fun x =>
      if x.g = p.g ∧ x.page = p.page then { x with held := x.held ++ [r] } else x } }
def Dev.laterRecomp (d : Dev) (p : Recomp) (r : Req) : Dev :=
  { d with pages := { d.pages with recomps := d.pages.recomps.map fun x =>
      if x.g = p.g ∧ x.page = p.page then { x with later := x.later ++ [r] } else x } }

/-- Update a near-cache copy of a warm or remote line, which stays clean (R211, R220, R261). -/
def Dev.ncRefresh (d : Dev) (g line : Nat) (data : LineData) (poison : Bool) : Dev :=
  match d.ncGet g line with
  | some x => d.ncPut g line { x with data := data, poison := poison, dirty := false, badWords := 0, fixWords := 0 }
  | none => d

/-- A write to a warm page (R211 to R218). -/
def Dev.warmWrite (d : Dev) (r : Req) : Dev :=
  let page := pageOf r.line
  match d.promoOf r.g page with
  | some p => d.holdPromo p r
  | none =>
    match d.recompOf r.g page with
    | some rc =>
      if rc.sub = lineIn r.line / 16 ∧ rc.committed = false ∧ rc.later.isEmpty then
        match d.mergeRecomp rc r with
        | some d1 => d1
        | none => d.laterRecomp rc r
      else d.laterRecomp rc r
    | none =>
      if d.mustRebuild r.g page then d.rebuildPage r.g page (some r) true
      else match d.takeFrame r.g with
      | some (f, d1) =>
        let w := d1.entry r.g page
        let d2 := d1.turn r.g page 5 2 (peLoc w)
        { d2 with pages := { d2.pages with
          promos := d2.pages.promos ++ [{ g := r.g, page := page, frame := f, src := peLoc w, held := [r] }] } }
      | none =>
        match d.startRecomp r with
        | some d1 => d1
        | none => d.waitFrame r

/-! ### Remote pages (R261) -/

/-- Send a whole line to the neighbour; the request completes once it is placed. -/
def Dev.farWrite (d : Dev) (r : Req) (port : Nat) (handle : BitVec 33) (data : LineData) (poison : Bool) : Dev :=
  let (tag, d1) := d.evTag port
  let page := pageOf r.line
  let d2 : Dev := { d1 with pages := { d1.pages with
    fars := d1.pages.fars ++ [{ port := port, tag := tag, place := true, req := r }] } }
  (d2.ncRefresh r.g r.line data poison).evSend port
    (.guestWrite poison false tag handle (lineIn r.line) data ((d.pageKey? r.g page).getD 0) (lineTweak r.g page (lineIn r.line)))

/-- Ask the neighbour for a line on behalf of a request. -/
def Dev.farRead (d : Dev) (r : Req) (port : Nat) (handle : BitVec 33) : Dev :=
  let (tag, d1) := d.evTag port
  let d2 : Dev := { d1 with pages := { d1.pages with fars := d1.pages.fars ++ [{ port := port, tag := tag, req := r }] } }
  d2.evSend port (.guestRead tag handle (lineIn r.line))

/-- Ask the partner for one line of a page that waits for its rebuild (R457). -/
def Dev.partnerRead (d : Dev) (r : Req) : Dev :=
  let p := d.ropePort r.g r.line
  let (tag, d1) := d.evTag p
  let d2 : Dev := { d1 with pages := { d1.pages with
    fars := d1.pages.fars ++ [{ port := p, tag := tag, rope := true, req := r }] } }
  d2.evSend p (.ropeRead false tag r.g r.line)

/-! ### Installing lines, and writing back victims (R190) -/

def remotePort (w : Word) : Nat := bitsOf (peLoc w) 33 33
def remoteHandle (w : Word) : BitVec 33 := BitVec.ofNat 33 (peLoc w)

/-- A lost page takes a zeroed frame whose other lines become the poison codeword (R86). -/
def Dev.revive (d : Dev) (g page keepLine : Nat) (full : Bool) (cls : Nat) : Option Dev :=
  match d.takeFrame g with
  | some (f, d1) =>
    let d2 := (List.range 64).foldl (fun d n =>
      if full && n == keepLine then d else d.dramWrite f n .poisoned cls) d1
    some (d2.turn g page 1 0 f)
  | none => none

/-- Write a dirty victim to wherever its page's entry points (R190). -/
def Dev.victimWrite (d : Dev) (g line : Nat) (data : LineData) (poison : Bool) (cls : Nat) : Dev :=
  let page := pageOf line
  let w := d.entry g page
  let r : Req := { who := .quiet, src := 160, g := g, line := line, op := .victim data poison, cls := cls }
  let d := d.bump (576 + 16 * homeSlice g line + 3)
  match peView w with
  | 1 => d.hotStore g line (peLoc w) data poison cls
  | 2 => match d.moveOf g page with
    | some m => d.setMove { m with held := m.held ++ [r] }
    | none => d.warmWrite r
  | 3 => match d.moveOf g page with
    | some m => d.setMove { m with held := m.held ++ [r] }
    | none => d.farWrite r (remotePort w) (remoteHandle w) data poison
  | 4 =>
    if d.covered g then d.rebuildPage g page (some r)
    else match d.revive g page (lineIn line) true cls with
      | some d1 => d1.hotStore g line (peLoc (d1.entry g page)) data poison cls
      | none => d.waitFrame r
  | _ => d

/-- Whether the DRAM line of a hot page takes no write until the sweep of its lost bank ends (R542). -/
def Dev.sweepHolds (d : Dev) (g line : Nat) : Bool :=
  let w := d.entry g (pageOf line)
  peView w == 1 && d.lostFull (peLoc w) (lineIn line)

/-- A line leaves the near cache (R190): a clean one is dropped, a dirty one is read, with its words' errors (R186, R187), and written out. -/
def Dev.ncEvict (d : Dev) (g line : Nat) : Dev :=
  match d.ncGet g line with
  | none => d
  | some x =>
    if x.dirty then
      let (y, d1) := d.ncLook g line
      let z := y.getD x
      (d1.ncDrop g line).victimWrite g line z.data z.poison z.cls
    else d.ncDrop g line

/-! ### The hold load (R532) -/

/-- Occupied directory sets (R528). -/
def Dev.occupiedSets (d : Dev) : List Nat :=
  (d.slices.dir.map fun e => homeSlice (keyGrotto e.1) (keyLine e.1) * 16384 + dirSet (keyLine e.1)).eraseDups

/-- H: the bytes that a HOLD would have to save; a dirty line of a lost page counts for its frame. -/
def Dev.holdLoad (d : Dev) : Nat :=
  (d.slices.nc.map fun e =>
    if !e.2.dirty then 0 else if peView (d.entry (keyGrotto e.1) (pageOf (keyLine e.1))) = 4 then 4096 else 64).sum +
  128 * d.occupiedSets.length + 512 * (d.queues.qs.filter (·.2.dirty)).length

/-- Whether H and some bytes more are beyond 290 µs at the deliverable bandwidth. -/
def Dev.overHold (d : Dev) (more : Nat) : Bool := decide (290 * (250 * d.qos.bw) < d.holdLoad + more)

/-- Write a dirty line back, which stays as a clean one. -/
def Dev.writeBack (d : Dev) (g line : Nat) (x : NcLine) : Dev :=
  let (y, d1) := d.ncLook g line
  let z := y.getD x
  (d1.ncPut g line { z with dirty := false }).victimWrite g line z.data z.poison z.cls

/-- The home slices write the oldest dirty lines back until H is within its limit; one that an atomic holds or that a sweep shuts out stays. -/
def Dev.relieve (d : Dev) : Nat → Dev
  | 0 => d
  | n + 1 =>
    if !d.overHold 0 then d
    else match d.slices.dirtied.findSome? fun k =>
        let g := keyGrotto k
        let l := keyLine k
        if d.locked g l || d.sweepHolds g l then none else (d.ncGet g l).bind fun x => if x.dirty then some (g, l, x) else none with
      | some (g, l, x) => (d.writeBack g l x).relieve n
      | none => d

/-- Make room for a line in its set: some where a way is free or a victim was chosen (R190). -/
def Dev.ncRoom (d : Dev) (g line : Nat) : Option Dev :=
  let ways := d.ncWays g line
  if ways.length < 16 then some d
  else
    let can := ways.filter fun e => !d.locked (keyGrotto e.1) (keyLine e.1) &&
      !(e.2.dirty && d.sweepHolds (keyGrotto e.1) (keyLine e.1))
    (oldestWay d.slices.ncAge (can.map (·.1))).map fun k => d.ncEvict (keyGrotto k) (keyLine k)

/-- Put a line into the near cache if its set has room: some device, or none where no way may be chosen. -/
def Dev.ncInstall (d : Dev) (g line : Nat) (x : NcLine) : Option Dev :=
  if (d.ncGet g line).isSome then let (y, d1) := d.ncFlip g line x; some (d1.ncPut g line y)
  else match d.ncRoom g line with
    | some d1 => let (y, d2) := d1.ncFlip g line x; some (d2.ncPut g line y)
    | none => none

/-- Allocate a clean line for a reader, where its set has room (R189). -/
def Dev.ncAlloc (d : Dev) (g line : Nat) (data : LineData) (poison : Bool) (cls : Nat) : Dev :=
  if (d.ncGet g line).isSome then d
  else (d.ncInstall g line { data := data, poison := poison, cls := cls }).getD d

/-- Offer the other lines of a verified sub-block to ways that are invalid (R208); none stands for a sub-block in zero mode. -/
def Dev.offerSub (d : Dev) (g page k line cls : Nat) (x : Contents) : Dev :=
  (List.range 16).foldl (fun d i =>
    let l := page * 64 + 16 * k + i
    if l ≠ line ∧ (d.ncGet g l).isNone ∧ (d.ncWays g l).length < 16 then
      let (y, p) := x.line (16 * k + i)
      d.ncPut g l { data := y, poison := p, cls := cls }
    else d) d

/-- The same for a sub-block in zero mode. -/
def Dev.offerZeros (d : Dev) (g page k line cls : Nat) : Dev :=
  match d.galleryOf g page with
  | some h => d.offerSub g page k line cls ⟨h, List.replicate 4 (some (List.replicate 16 0))⟩
  | none => d

/-- Whether a read allocates its line in the near cache (R189): a host's does, and an engine's of a single word or line. -/
def Req.allocates (r : Req) : Bool :=
  match r.who with
  | .host _ => true
  | .engine _ _ | .mbox _ _ => r.op == .readS
  | _ => false

/-- Deliver a good line of a gallery to a reader: where it allocates, the line enters the near cache and the others of its sub-block are
offered (R189, R208). -/
def Dev.giveLine (d : Dev) (r : Req) (x : Contents) (data : LineData) : Dev :=
  (if r.allocates then
      (d.ncAlloc r.g r.line data false r.cls).offerSub r.g (pageOf r.line) (lineIn r.line / 16) r.line r.cls x
    else d).answerRead r data false

/-- Answer a read with poison, whose bytes are free. -/
def Dev.answerPoison (d : Dev) (r : Req) : Dev := let (y, d1) := d.freeLine; d1.answerRead r y true

/-- What a full-line write to a page that keeps no dirty line leaves in the near cache: the line, clean (R189, R220, R261); any other write
only updates a copy that is there. -/
def Dev.ncKeep (d : Dev) (r : Req) (full : Bool) (data : LineData) (poison : Bool) : Dev :=
  if full then (d.ncInstall r.g r.line { data := data, poison := poison, cls := r.cls }).getD d else d.ncRefresh r.g r.line data poison

/-! ### Applying a write at its grant -/

/-- A near-cache line that a partial write may merge into, after the rules for uncorrectable words (R478): the line, or none
where it is fetched from the channel. -/
def Dev.ncForWrite (d : Dev) (g line : Nat) (m : ByteMask) : Option NcLine × Dev :=
  match d.ncGet g line with
  | none => (none, d)
  | some x =>
    if x.badWords = 0 then
      (if x.fixWords = 0 then (some x, d) else (some { x with fixWords := 0 }, d.fixed2001 g line 1))
    else if !x.dirty then (none, (d.ncDrop g line).fixed2001 g line 2)
    else
      let covered := (List.range 8).all fun w => !x.badWords.getLsbD w || (m &&& maskRange (8 * w) 8) == maskRange (8 * w) 8
      if covered then (some { x with badWords := 0 }, d)
      else
        let zeroed := (List.range 8).foldl (fun (l : LineData) w =>
          if x.badWords.getLsbD w then mergeLine l 0 (maskRange (8 * w) 8) else l) x.data
        (some { x with data := zeroed, badWords := 0, poison := true }, d.contain 0x2002 (unitNc (homeSlice g line)) 2 g line 3)

/-- Poison-list bookkeeping of a write (R476, R477). -/
def Dev.notePoison (d : Dev) (r : Req) (full poison : Bool) : Dev :=
  if poison then d.poisonList r.g r.line (poisonSource r)
  else if full then d.poisonUnlist r.g r.line else d

/-- Whether a write is of a REDUCE, whose records are updated in the near cache (R387). -/
def Dev.accumulates (d : Dev) (r : Req) : Bool :=
  match r.who with
  | .engine q pos => (mget d.queues.qs q).any fun x => x.issued.any fun i => i.pos == pos && i.opcode == 0x64
  | _ => false

/-- A write to a hot page (or a hot source in its copy phase): absorbed by the near cache, or merged in the channel; the rope
receiver writes through and leaves a near-cache copy clean (R189, R451). Answers the line afterwards. -/
def Dev.absorb (d : Dev) (r : Req) (f : Nat) (m : ByteMask) (data : LineData) (poison : Bool) : LineData × Bool × Dev :=
  let full := m == fullMask
  let through := match r.who with
    | .rope _ _ => true
    | _ => false
  if full then
    if through then (data, poison, (d.ncKeep r true data poison).hotStore r.g r.line f data poison r.cls)
    else match d.ncInstall r.g r.line { data := data, dirty := true, poison := poison, cls := r.cls } with
      | some d1 => (data, poison, d1)
      | none => (data, poison, d.hotStore r.g r.line f data poison r.cls)
  else
    match d.ncForWrite r.g r.line m with
    | (some x, d1) =>
      let y : NcLine := { x with data := mergeLine x.data data m, dirty := true, poison := x.poison || poison, cls := r.cls }
      let (z, d2) := d1.ncFlip r.g r.line y
      if through then (y.data, y.poison, (d2.ncPut r.g r.line { z with dirty := false }).hotStore r.g r.line f y.data y.poison r.cls)
      else (y.data, y.poison, d2.ncPut r.g r.line z)
    | (none, d1) =>
      let (y, p, d2) := d1.hotMerge r.g r.line f m data poison r.cls
      (y, p, if d.accumulates r then d2.ncAlloc r.g r.line y p r.cls else d2)

/-- Complete a write that the near cache or the channel holds: poison list, mirror image, completion. -/
def Dev.settle (d : Dev) (r : Req) (full : Bool) (wp : Bool) (data : LineData) (p : Bool) : Dev :=
  let d1 := d.notePoison r full wp
  match r.who with
  | .rope _ _ => d1.finish r none
  | _ => let (ms, d2) := d1.mirrorLine r.g r.line data p; d2.finish r ms

/-- Apply a write to a hot page. -/
def Dev.hotWrite (d : Dev) (r : Req) (f : Nat) (m : ByteMask) (data : LineData) (poison : Bool) : Dev :=
  let (x, p, d1) := d.absorb r f m data poison
  d1.settle r (m == fullMask) poison x p

/-- Apply a write to an unbacked or lost page, which takes a frame first (R86, R87). -/
def Dev.freshWrite (d : Dev) (r : Req) (m : ByteMask) (data : LineData) (poison : Bool) : Dev :=
  let page := pageOf r.line
  if peView (d.entry r.g page) = 4 then
    if d.covered r.g then d.rebuildPage r.g page (some r)
    else match d.revive r.g page (lineIn r.line) (m == fullMask) r.cls with
      | some d1 => d1.hotWrite r (peLoc (d1.entry r.g page)) m data poison
      | none => d.waitFrame r
  else
    match d.takeFrame r.g with
    | some (f, d1) => (d1.firstEntry r.g page f).hotWrite r f m data poison
    | none => d.waitFrame r

/-- Whether a request raises the heat of its page (R237): hosts, engines and mailbox programs do. -/
def Req.heats (r : Req) : Bool := decide (r.src < 144 ∨ r.src = 163)

/-- A request passes its arbiter: it is counted, and raises the heat of its page (R237). -/
def Dev.granted (d : Dev) (r : Req) : Dev :=
  let d1 := d.bump (576 + 16 * homeSlice r.g r.line)
  let isRead := r.op == .readS || r.op == .readE || r.op == .readI
  let isWrite := match r.op with
    | .write .. => true
    | _ => false
  if r.heats && (isRead || isWrite) then d1.addHeat r.g (pageOf r.line) (if isRead then d.flow.readW else d.flow.writeW) else d1

/-- Apply a granted write by the state of its page (R22, R24, R211, R251 to R253, R261). -/
def Dev.applyWrite (d : Dev) (r : Req) (m : ByteMask) (data : LineData) (poison : Bool) : Dev :=
  let page := pageOf r.line
  let w := d.entry r.g page
  if d.rebuilding r.g page && d.covered r.g then d.rebuildPage r.g page (some r)
  else
    match peState w with
    | 1 => d.hotWrite r (peLoc w) m data poison
    | 2 => d.warmWrite r
    | 3 =>
      if m = fullMask then (d.farWrite r (remotePort w) (remoteHandle w) data poison).ncKeep r true data poison
      else match d.ncGet r.g r.line with
        | some x => d.farWrite r (remotePort w) (remoteHandle w) (mergeLine x.data data m) (x.poison || poison)
        | none => d.farRead r (remotePort w) (remoteHandle w)
    | 5 =>
      match d.moveOf r.g page with
      | some mv =>
        if peSrc w = 1 ∧ mv.phase = 2 then
          (d.setMove { mv with dirty := mv.dirty ||| (1#64 <<< lineIn r.line) }).hotWrite r (peLoc w) m data poison
        else
          match mv.kind with
          | .promote | .relocate => d.setMove { mv with held := mv.held ++ [r] }
          | _ =>
            let d1 := (d.abandon mv).againAll 3 mv.held
            let w1 := d1.entry r.g page
            if peState w1 = 1 then d1.hotWrite r (peLoc w1) m data poison else d1.warmWrite r
      | none =>
        match d.promoOf r.g page with
        | some p => d.holdPromo p r
        | none => d
    | _ => d.freshWrite r m data poison

/-! ### Serving a read at its grant -/

/-- Whether a list of held requests holds a write to a line. -/
def covers (rs : List Req) (line : Nat) : Bool := rs.any fun x => x.line == line && x.op.isWrite

/-- A read of a warm page: a poisoned line and one of a sub-block in zero mode are answered from the header; any other waits for its
sub-block (R207). -/
def Dev.warmRead (d : Dev) (r : Req) : Dev :=
  let page := pageOf r.line
  let n := lineIn r.line
  let wait (d : Dev) : Dev := (d.rouse (frameChan (locFrame (peLoc (d.entry r.g page)))) r.cls).onPages fun p => { p with
    sreads := p.sreads ++ [⟨r.g, page, n / 16, r⟩] }
  let unknown (d : Dev) : Dev :=
    let d1 := d.headerBad r.g page
    if d1.covered r.g then d1.partnerRead r else d1.answerPoison r
  match d.galleryOf r.g page with
  | some h =>
    if h.poison.getLsbD n || (h.desc (n / 16)).zero then
      match d.headerRead r.g page r.cls {} with
      | (some h, d1) =>
        if h.poison.getLsbD n then d1.answerPoison r
        else d1.giveLine r ⟨h, List.replicate 4 (some (List.replicate 16 0))⟩ 0
      | (none, d1) => unknown d1
    else wait d
  | none => unknown d

/-- Serve a read that waits for no write: from the near cache, or from wherever its page's entry points. -/
def Dev.readHere (d : Dev) (r : Req) : Dev :=
  let page := pageOf r.line
  let w := d.entry r.g page
  let (hit, d) := d.ncLook r.g r.line
  match hit with
  | some x => (d.bump (576 + 16 * homeSlice r.g r.line + 1)).answerRead r x.data x.poison
  | none =>
    let d := d.bump (576 + 16 * homeSlice r.g r.line + 2)
    if d.rebuilding r.g page && d.covered r.g then d.partnerRead r
    else if peView w = 0 then (if d.keyed r.g r.line then d else d.noKey r.g r.line false).answerRead r 0 false
    else if !d.keyed r.g r.line then (d.noKey r.g r.line false).answerPoison r
    else match peView w with
      | 1 =>
        if d.inLostBank (peLoc w) (lineIn r.line) then d.answerPoison r
        else d.queueRead (peLoc w) (lineIn r.line) r
      | 2 => d.warmRead r
      | 3 => d.farRead r (remotePort w) (remoteHandle w)
      | _ => d.answerPoison r

/-- Serve a granted read (R22, R207, R213, R214, R252, R261): behind a write that its line waits for, in a move or a promotion, and behind
any recompression of its page; else at once, or when DRAM, a sub-block or a neighbour answers. -/
def Dev.serveRead (d : Dev) (r : Req) : Dev :=
  let page := pageOf r.line
  match d.moveOf r.g page, d.promoOf r.g page, d.recompOf r.g page with
  | some m, _, _ => if covers m.held r.line then d.setMove { m with held := m.held ++ [r] } else d.readHere r
  | none, some p, _ => if covers p.held r.line then d.holdPromo p r else d.readHere r
  | none, none, some rc => d.laterRecomp rc r
  | none, none, none => d.readHere r

end Sys2Proof.Machine
end

