-- ==== Sys2Proof/Machine/Directory.lean ====
section
/-!
DEFINITION. The coherence directory (05): which hosts hold a line, snoop rounds, parked requests, fencing; and the path of a
request through map cache, directory and page (R20, R22, R162 to R185).
-/
namespace Sys2Proof.Machine

def Dev.dirGet (d : Dev) (g line : Nat) : Option DirEntry := mget d.slices.dir (lineKey g line)

/-- Directory entries of a line's set (R156). -/
def Dev.dirWays (d : Dev) (g line : Nat) : AMap DirEntry :=
  d.slices.dir.filter fun e =>
    homeSlice (keyGrotto e.1) (keyLine e.1) == homeSlice g line && dirSet (keyLine e.1) == dirSet line

/-- A directory entry is used (R176). -/
def Dev.dirUse (d : Dev) (g line : Nat) : Dev :=
  { d with slices := { d.slices with dirAge := useWay d.slices.dirAge ((d.dirWays g line).map (·.1)) (lineKey g line) } }

/-- Write a directory entry, with the bits that a flip mask armed on its slice puts in error (R495). -/
def Dev.dirPut (d : Dev) (g line : Nat) (e : DirEntry) : Dev :=
  let (n, d1) := d.arrayWrite (unitDir (homeSlice g line))
  ({ d1 with slices := { d1.slices with dir := mset d1.slices.dir (lineKey g line) { e with errBits := n } } } : Dev).dirUse g line
def Dev.dirDrop (d : Dev) (g line : Nat) : Dev :=
  { d with slices := { d.slices with dir := merase d.slices.dir (lineKey g line), dirAge := merase d.slices.dirAge (lineKey g line) } }
def Dev.slotHold (d : Dev) (r : Req) : Dev :=
  { d with slices := { d.slices with slotWait := d.slices.slotWait ++ [r] } }

/-- Requests that waited for a tracker, a way or a lock begin again, in order (R164). -/
def Dev.retrySlots (d : Dev) : Dev :=
  let rs := d.slices.slotWait
  ({ d with slices := { d.slices with slotWait := [] } }).againAll 1 rs

/-! ### Attachments and addresses -/

def Dev.attach? (d : Dev) (g link ld : Nat) : Option Attach :=
  (d.grotto g).attaches.find? fun a => a.link == link && a.ld == ld

/-- Sources of the live attachments of a grotto (R161). -/
def Dev.liveSources (d : Dev) (g : Nat) : List Nat :=
  ((d.grotto g).attaches.filter fun a => (d.link a.link).biOn && !a.fenced).map fun a => srcOf a.link a.ld

/-- DPA start of decoder n: skips and sizes of those before it, and its own skip (R40). -/
def Ld.dpaStart (x : Ld) (n : Nat) : Nat :=
  ((List.range n).map fun m =>
    let k := mgetD x.decoders m {}
    if k.committed then k.skip + k.size.toNat / max 1 k.ways else 0).sum + (mgetD x.decoders n {}).skip

/-- HPA of a line through the committed HDM-DB decoder of a logical device that covers it and has latched a position (R44). -/
def Dev.hpaOf (d : Dev) (link ld g line : Nat) : Option Nat :=
  match d.attach? g link ld with
  | none => none
  | some a =>
    let x := d.ld link ld
    let dpa := a.base + line * 64
    (List.range 4).findSome? fun n =>
      let k := mgetD x.decoders n {}
      let start := x.dpaStart n
      let ways := max 1 k.ways
      if k.committed ∧ k.typeDB ∧ start ≤ dpa ∧ dpa < start + k.size.toNat / ways then
        match k.position with
        | some pos =>
          let off := dpa - start
          some (k.base.toNat + (off / k.gran * ways + pos) * k.gran + off % k.gran)
        | none => none
      else none

/-! ### Snoops (R44, R45, R166, R642) -/

/-- Whether a source still awaits data for a line (R166). -/
def Dev.awaits (d : Dev) (src g line : Nat) : Bool :=
  let p := d.pages
  let hit (r : Req) : Bool := r.src == src && r.g == g && r.line == line && !r.op.isWrite
  p.dreads.any (fun x => hit x.req) || p.sreads.any (fun x => hit x.req) || p.fars.any (fun x => hit x.req) ||
    p.promos.any (fun x => x.held.any hit) || p.moves.any (fun x => x.held.any hit) ||
    p.recomps.any (fun x => x.later.any hit) || d.ev.rope.pages.any (fun x => x.waiting.any hit)

def Dev.snoopLimit (d : Dev) (l : Nat) : Nat := if d.split (portOf l) then 512 else 1024

/-- The HPA at which a logical device is snooped for a line (R44): none where its link has BI disabled, and none where no decoder of it covers
the line with a latched position. -/
def Dev.snoopHpa (d : Dev) (link ld g line : Nat) : Option Nat := if (d.link link).biOn then d.hpaOf link ld g line else none

/-- Send a snoop that waits, if the link has a tag to give and the host has its data (R45, R166, R642). -/
def Dev.trySnoop (d : Dev) (s : Snoop) : Snoop × Dev :=
  let used := d.slices.snoops.filterMap fun x => if x.link = s.link then x.tag else none
  let lim := d.snoopLimit s.link
  match d.snoopHpa s.link s.ld s.g s.line with
  | none => (s, d)
  | some hpa =>
    if s.tag.isSome ∨ lim ≤ used.length ∨ d.awaits (srcOf s.link s.ld) s.g s.line then (s, d)
    else
      let free := (List.range lim).filter fun t => !used.contains t
      let (i, d1) := d.choose free.length
      let t := (free[i]?).getD 0
      ({ s with tag := some t }, (d1.emit (.snoop s.link s.ld s.kind (d1.link s.link).biId t hpa)).bump (128 + 16 * s.link + 4))

/-- Poison a line, as the device does for data that is gone with its host (R69, R183): a poisoned full-line write. -/
def Dev.poisonWhole (d : Dev) (g line : Nat) : Dev :=
  d.again 2 { who := .quiet, src := 160, g := g, line := line, op := .write fullMask 0 true }

/-- Whether a source has a fenced attachment to a grotto. -/
def Dev.fencedSrc (d : Dev) (g src : Nat) : Bool :=
  (d.grotto g).attaches.any fun a => srcOf a.link a.ld == src && a.fenced

/-! ### Rounds -/

/-- The agent that a D entry names as its owner (R159): an engine's context, or 0x400 plus the source number. -/
def Dev.agentOf (d : Dev) (r : Req) : Nat :=
  match r.who with
  | .engine q _ => ((mget d.queues.qs q).bind (·.ctx)).getD (0x400 + r.src)
  | _ => 0x400 + r.src

/-- Whether a request is an internal agent's (R159). -/
def Req.internal (r : Req) : Bool := decide (128 ≤ r.src)

/-- The end of a round: what answers left becomes the state, the way is freed after an eviction, and the cause and the parked
requests are taken up in order (R163, R168, R177). After an atomic's round the line goes to D, and what is parked stays so (R171). -/
def Dev.endRound (d : Dev) (g line : Nat) (e : DirEntry) : Dev :=
  let t := e.track
  let d1 := if t.evict then d.dirDrop g line
    else match t.leftE with
      | some o => d.dirPut g line { st := .E, sharers := [o] }
      | none => if t.leftS.isEmpty then d.dirDrop g line else d.dirPut g line { st := .S, sharers := t.leftS }
  let d2 := match t.cause with
    | some c =>
      if t.evict then d1.again 1 c
      else
        let d1 := match c.op with
          | .readS =>
            if c.internal then d1
            else match d1.dirGet g line with
              | some x => d1.dirPut g line { x with sharers := x.sharers.filter (· != c.src) ++ [c.src] }
              | none => d1.dirPut g line { st := .S, sharers := [c.src] }
          | .readE => d1.dirPut g line { st := .E, sharers := [c.src] }
          | .atomic => d1.dirPut g line { st := .D, track := { owner := d1.agentOf c, parked := t.parked } }
          | _ => d1
        d1.again 2 c
    | none => d1
  let held := !t.evict && t.cause.any fun c => c.op == .atomic
  (if held then d2 else d2.againAll 1 t.parked).retrySlots

/-- End the round if nothing of it is outstanding. -/
def Dev.checkRound (d : Dev) (g line : Nat) : Dev :=
  match d.dirGet g line with
  | some e =>
    if e.st = .B ∧ !(d.slices.snoops.any fun s => s.g == g && s.line == line) then d.endRound g line e else d
  | none => d

/-- Resolve a source's part of a line's round as BIRspI, poisoning the line if it held it in E (R183). -/
def Dev.resolveSilent (d : Dev) (g line src : Nat) : Dev :=
  let d1 : Dev := { d with slices := { d.slices with snoops := d.slices.snoops.filter fun s =>
    !(s.g == g && s.line == line && srcOf s.link s.ld == src) } }
  let d2 := match d1.dirGet g line with
    | some e => if e.st = DirState.B ∧ e.track.priorE ∧ e.track.prior.contains src then d1.poisonWhole g line else d1
    | none => d1
  d2.checkRound g line

/-- Send every waiting snoop that may go. One that has no way to its host counts as answered BIRspI (R44), and one to a fenced attachment is
resolved as the sweep would (R184). -/
def Dev.pumpSnoops (d : Dev) : Dev :=
  let mute := d.slices.snoops.filter fun s => s.tag.isNone && (d.snoopHpa s.link s.ld s.g s.line).isNone
  let fenced := d.slices.snoops.filter fun s => s.tag.isNone && d.fencedSrc s.g (srcOf s.link s.ld)
  let d0 := if mute.isEmpty then d
    else mute.foldl (fun d s => d.checkRound s.g s.line) (d.onSlices fun k => { k with snoops := k.snoops.filter fun s => !mute.contains s })
  let d1 := fenced.foldl (fun d s => d.resolveSilent s.g s.line (srcOf s.link s.ld)) d0
  d1.slices.snoops.foldl (fun d s =>
    if s.tag.isSome then d
    else
      let (s1, d1) := d.trySnoop s
      { d1 with slices := { d1.slices with snoops := d1.slices.snoops.map fun x =>
          if x.link = s.link ∧ x.ld = s.ld ∧ x.g = s.g ∧ x.line = s.line then s1 else x } }) d1

/-- Start a round of snoops to some holders (R162). A holder without a decoder over the line, or with none latched, counts as
having answered BIRspI (R44); a fenced one is resolved at once (R184). -/
def Dev.startRound (d : Dev) (g line : Nat) (e : DirEntry) (targets : List Nat) (kind : SnpKind) (cause : Option Req)
    (evict : Bool) (keep : List Nat) : Dev :=
  let t : Tracker := { priorE := e.st == .E, prior := e.sharers, priorBc := e.bcast, leftS := keep, cause := cause, evict := evict }
  let real := targets.filter fun s => !d.fencedSrc g s && (d.snoopHpa (s / 16) (s % 16) g line).isSome
  let lostE := e.st == .E && targets.any fun s => d.fencedSrc g s
  let d0 := (d.bump (576 + 16 * homeSlice g line + 6)).dirPut g line { e with st := .B, track := t }
  let d1 := if lostE then d0.poisonWhole g line else d0
  let ss : List Snoop := real.map fun s => { link := s / 16, ld := s % 16, tag := none, g := g, line := line, kind := kind }
  let d2 : Dev := { d1 with slices := { d1.slices with snoops := d1.slices.snoops ++ ss } }
  d2.pumpSnoops.checkRound g line

/-- Park a request in the tracker of its line (R163). -/
def Dev.park (d : Dev) (g line : Nat) (e : DirEntry) (r : Req) : Dev :=
  (d.bump (576 + 16 * homeSlice g line + 7)).dirPut g line { e with track := { e.track with parked := e.track.parked ++ [r] } }

/-- Replacement class of an entry (R176): fewest pointers first, then broadcast, then E. -/
def DirEntry.rank (e : DirEntry) : Nat :=
  match e.st with
  | .S => if e.bcast then 5 else e.sharers.length
  | .E => 6
  | _ => 7

/-- Sharers of an entry, all live attachments under broadcast (R161). -/
def Dev.sharersOf (d : Dev) (g : Nat) (e : DirEntry) : List Nat := if e.bcast then d.liveSources g else e.sharers

/-- Read the entry of a line: one bit in error is fixed (R186); more lose the entry, which is FATAL, and the image is saved as
unknown (R188). False where the entry is lost. -/
def Dev.dirRead (d : Dev) (g line : Nat) : Bool × Dev :=
  let u := unitDir (homeSlice g line)
  let d0 := d.arrayRead u 0x2001
  match d0.dirGet g line with
  | some e =>
    if e.errBits = 0 then (true, d0)
    else if e.errBits = 1 then
      (true, (d0.onSlices fun s => { s with dir := mset s.dir (lineKey g line) { e with errBits := 0 } }).raise {
        code := 0x2001, cls := 1, unit := u, att := 1, akind := 1, addr := d0.devOffset g line, grotto := some g })
    else
      (false, (d0.onSlices fun s => { s with unknown := true }).fatal {
        code := 0x2003, cls := 4, unit := u, att := 2, akind := 1, addr := d0.devOffset g line, grotto := some g })
  | none => (true, d0)

/-- Whether every tracker of a line's slice is in use (R164). -/
def Dev.trackersFull (d : Dev) (g line : Nat) : Bool := decide (1024 ≤ d.trackersUsed (homeSlice g line))

/-- A directory set takes an entry: it is the last one allocated (R532). -/
def Dev.setUsed (d : Dev) (g line : Nat) : Dev :=
  let k := homeSlice g line * 16384 + dirSet line
  d.onSlices fun s => { s with setAge := s.setAge.filter (· != k) ++ [k] }

/-- Evict the entries of the occupied set that was least recently allocated (R532, R177), as far as trackers are free. -/
def Dev.emptySet (d : Dev) : Dev :=
  let occ := d.occupiedSets
  match (d.slices.setAge.filter occ.contains ++ occ).head? with
  | none => d
  | some k =>
    (d.slices.dir.filter fun e => homeSlice (keyGrotto e.1) (keyLine e.1) * 16384 + dirSet (keyLine e.1) == k).foldl (fun d e =>
      let g := keyGrotto e.1
      let l := keyLine e.1
      match d.dirRead g l with
      | (false, d1) => d1
      | (true, d1) => match d1.dirGet g l with
        | some v =>
          if v.st == .B || v.st == .D || d1.trackersFull g l then d1
          else (d1.bump (576 + 16 * homeSlice g l + 5)).startRound g l v (d1.sharersOf g v) .inv none true []
        | none => d1) d

/-- Give a request an entry for its line: a free way, or after the eviction of the oldest entry of the lowest class, which is read with its
errors (R176, R177, R186, R188). True when granted. -/
def Dev.dirAlloc (d : Dev) (r : Req) (e : DirEntry) : Bool × Dev :=
  let ways := d.dirWays r.g r.line
  if ways.length < 16 then
    if e.st == .D && d.trackersFull r.g r.line then (false, d.slotHold r)
    else if ways.isEmpty && d.overHold 128 && !(d.slices.nc.any (·.2.dirty)) then
      let d1 := d.emptySet
      (false, if d1.occupiedSets.length < d.occupiedSets.length then d1.again 1 r else d1.slotHold r)
    else (true, ((d.bump (576 + 16 * homeSlice r.g r.line + 4)).dirPut r.g r.line e).setUsed r.g r.line)
  else
    let best := (ways.map fun x => x.2.rank).foldl min 7
    if best = 7 ∨ d.trackersFull r.g r.line = true then (false, d.slotHold r)
    else
      match oldestWay d.slices.dirAge ((ways.filter fun x => x.2.rank == best).map (·.1)) with
      | none => (false, d.slotHold r)
      | some k =>
        let g := keyGrotto k
        let l := keyLine k
        match d.dirRead g l with
        | (false, d1) => (false, d1)
        | (true, d1) => match d1.dirGet g l with
          | some v => (false, (d1.bump (576 + 16 * homeSlice r.g r.line + 5)).startRound g l v (d1.sharersOf g v) .inv (some r) true [])
          | none => (false, d1.slotHold r)

/-- Start a round for a request, or let it wait for a tracker (R164). -/
def Dev.roundFor (d : Dev) (r : Req) (e : DirEntry) (targets : List Nat) (kind : SnpKind) (keep : List Nat) : Bool × Dev :=
  if d.trackersFull r.g r.line then (false, d.slotHold r)
  else (false, d.startRound r.g r.line e targets kind (some r) false keep)

/-- The transition of R162 for a request on its line: true when it is granted now, false when it waits. -/
def Dev.dirStep (d : Dev) (r : Req) : Bool × Dev :=
  let g := r.g
  let l := r.line
  match d.dirGet g l with
  | none =>
    match r.op with
    | .readS => if r.internal then (true, d) else d.dirAlloc r { st := .S, sharers := [r.src] }
    | .readE => d.dirAlloc r { st := .E, sharers := [r.src] }
    | .atomic => d.dirAlloc r { st := .D, track := { owner := d.agentOf r } }
    | _ => (true, d)
  | some e =>
    match e.st with
    | .S =>
      let sh := d.sharersOf g e
      let others := sh.filter (· != r.src)
      match r.op with
      | .readS =>
        if r.internal || e.bcast || e.sharers.contains r.src then (true, d)
        else if e.sharers.length < 4 then (true, d.dirPut g l { e with sharers := e.sharers ++ [r.src] })
        else (true, d.dirPut g l { e with bcast := true })
      | .readE =>
        if others.isEmpty then (true, d.dirPut g l { st := .E, sharers := [r.src] })
        else d.roundFor r e others .inv []
      | .write .. =>
        if others.isEmpty then (true, d.dirDrop g l) else d.roundFor r e others .inv []
      | .atomic => d.roundFor r e sh .inv []
      | _ => (true, d)
    | .E =>
      let o := (e.sharers[0]?).getD 0
      if o = r.src then
        match r.op with
        | .write .. => (true, d.dirDrop g l)
        | _ => (true, d)
      else
        match r.op with
        | .readS => d.roundFor r e [o] .data []
        | .readE => d.roundFor r e [o] .inv []
        | .readI => d.roundFor r e [o] (if r.internal then .data else .cur) []
        | .write .. | .atomic => d.roundFor r e [o] .inv []
        | _ => (true, d)
    | .B => if r.op == .readStale then (true, d) else (false, d.park g l e r)
    | .D => (false, d.park g l e r)

/-! ### Map fills (R89, R91, R93, R94) -/

/-- A page becomes lost with its entry, or with its page-map line (R85, R91): it holds no frame any more, and the frame that it held belongs to
no grotto until reconciliation returns it (R90). -/
def Dev.entryLost (d : Dev) (g page : Nat) : Dev :=
  let w := d.entry g page
  let d1 := if peView w = 1 then (d.hold g (frameChan (peLoc w)) (-1)).onMem fun m => { m with unrecon := m.unrecon ++ [peLoc w] } else d
  d1.turn g page 4 0 0

/-- What becomes of an entry that is read: commit 0 is finished (R89); a corrupt entry loses its page (R91). -/
def Dev.readEntry (d : Dev) (g page : Nat) : Dev :=
  let w := d.entry g page
  if peCorrupt w then (d.entryLost g page).containPage 0x3004 unitMap g page 1
  else if !peCommit w then
    d.commitEntry g page
  else d

/-- The eight pages of a page-map line. -/
def Dev.linePages (d : Dev) (lineIdx : Nat) : List (Nat × Nat) :=
  match d.grottoAt (lineIdx * 8) with
  | some g => (List.range 8).map fun i => (g, lineIdx * 8 + i - (d.grotto g).mapBase)
  | none => []

/-- Bring a page's map line into the cache without waiting. -/
def Dev.fillNow (d : Dev) (g page : Nat) : Dev :=
  if d.mapHit g page then (d.bump 13).mapUse (d.mapLine g page) g
  else
    let d1 := (d.bump 14).readEntry g page
    (d1.mapInsert (d1.mapLine g page) g).getD d1

/-- Whether a request whose page-map line is not in the cache may go on: it joins a fill, or a fill may start for it (R93, R94). -/
def Dev.mayFill (d : Dev) (r : Req) : Bool :=
  let l := d.mapLine r.g (pageOf r.line)
  (d.pages.fills.any fun f => f.lineIdx == l) || (decide (d.pages.fills.length < 512) && d.mapRoom l r.g)

/-- Start a fill for a request or join one; at 512 fills, or with no way to fill, it waits (R93, R94, R27). -/
def Dev.startFill (d : Dev) (r : Req) : Dev :=
  let l := d.mapLine r.g (pageOf r.line)
  if !d.mayFill r then d.onPages fun p => { p with mapWait := p.mapWait ++ [r] }
  else ((d.bump 14).rouseMap l r.cls).onPages fun p => { p with
    fills := if p.fills.any fun f => f.lineIdx == l then
        p.fills.map fun f => if f.lineIdx = l then { f with waiting := f.waiting ++ [r] } else f
      else p.fills ++ [⟨l, [r]⟩] }

/-! ### Unbacking pages (R100) -/

/-- Directory lines of a page that any host still holds. -/
def Dev.heldLines (d : Dev) (g page : Nat) : List Nat :=
  (d.slices.dir.filter fun e => keyGrotto e.1 == g && pageOf (keyLine e.1) == page).map fun e => keyLine e.1

/-- Start invalidating every host copy of a page's lines; true when none is left. -/
def Dev.invalidatePage (d : Dev) (g page : Nat) : Bool × Dev :=
  let d1 := (d.heldLines g page).foldl (fun d line =>
    match d.dirGet g line with
    | some e =>
      if (e.st == .B || e.st == .D) || d.trackersFull g line then d
      else match d.dirRead g line with
        | (true, d1) => d1.startRound g line e (d1.sharersOf g e) .inv none false []
        | (false, d1) => d1
    | none => d) d
  ((d1.heldLines g page).isEmpty, d1)

/-- Release what backs a page, by its entry. -/
def Dev.releaseBacking (d : Dev) (g page : Nat) : Dev :=
  let w := d.entry g page
  match peView w with
  | 1 => (d.hold g (frameChan (peLoc w)) (-1)).freeFrame (peLoc w)
  | 2 => d.freeGallery g page (peLoc w)
  | 3 => d.evSend (remotePort w) (.guestRelease (remoteHandle w))
  | _ => d

/-- The lines of a page leave every poison list (R476). -/
def Dev.unlistPage (d : Dev) (g page : Nat) : Dev :=
  (List.range 64).foldl (fun d i => d.poisonUnlist g (page * 64 + i)) d

/-- End the rebuild of a page without its effect; the requests that wait for it are taken up again. -/
def Dev.dropRebuild (d : Dev) (g page : Nat) : Dev :=
  match d.ev.rope.pages.find? fun x => x.g == g && x.page == page with
  | none => d
  | some x =>
    let d1 := d.onRope fun r => { r with pages := r.pages.filter fun y => !(y.g == g && y.page == page) }
    let d2 := match x.frame with
      | some f => (d1.hold g (frameChan f) (-1)).freeFrame f
      | none => d1
    (d2.againAll 1 x.waiting).nextRebuild x.port

/-- Put a page that moves back to its source, and end its recompression and rebuild; what waits is taken up again. -/
def Dev.settlePage (d : Dev) (g page : Nat) : Dev :=
  let d0 := match d.moveOf g page with
    | some m => (d.abandon m).againAll 1 m.held
    | none => d
  (d0.dropRecomp g page 1).dropRebuild g page

/-- Return a page to unbacked (R100): near-cache lines dropped, entry changed, backing freed, poison gone (R476). A page that
moves is put back to its source first. -/
def Dev.unback (d : Dev) (g page : Nat) : Dev :=
  let d0 := d.settlePage g page
  if peState (d0.entry g page) = 0 then d0
  else
    let d1 := (d0.ncDropPage g page).releaseBacking g page
    let d2 := d1.turn g page 0 0 0
    let d3 := d2.onPages fun q => { q with promos := q.promos.filter fun x => !(x.g == g && x.page == page) }
    (d0.pages.promos.filter fun x => x.g == g && x.page == page).foldl (fun d x =>
      ((d.hold g (frameChan x.frame) (-1)).freeFrame x.frame).againAll 1 x.held) (d3.unlistPage g page)

/-- Backed pages of a grotto in a range. -/
def Dev.backedPages (d : Dev) (g lo n : Nat) : List Nat :=
  let b := (d.grotto g).mapBase
  (d.pages.area.filter fun e => decide (b + lo ≤ e.1 ∧ e.1 < b + lo + n) && peState e.2 != 0).map fun e => e.1 - b

/-- Unback pages of a grotto, invalidating host copies first where it is HDM-DB: true when done, false while a round runs. -/
def Dev.unbackRange (d : Dev) (g lo n : Nat) : Bool × Dev :=
  let ps := d.backedPages g lo n
  if (d.grotto g).db then
    let (ok, d1) := ps.foldl (fun (acc : Bool × Dev) p => let (b, d) := acc.2.invalidatePage g p; (acc.1 && b, d)) (true, d)
    if ok then (true, ps.foldl (fun d p => d.unback g p) d1) else (false, d1)
  else (true, ps.foldl (fun d p => d.unback g p) d)

/-! ### The entry's word and the image (R158, R159, R192, R194) -/

def DirState.code : DirState → Nat
  | .S => 1
  | .E => 2
  | .B => 3
  | .D => 4

/-- The 64 data bits of a line's entry (R158). -/
def DirEntry.word (e : DirEntry) (g line : Nat) : BitVec 64 :=
  let head := e.st.code * 2 ^ 61 + g % 64 * 2 ^ 55 + line / 2 ^ 18 % 2 ^ 21 * 2 ^ 34
  let ps := e.sharers.take 4
  let at_ (k : Nat) : Nat := ps.getD k 0 % 128 * 2 ^ (7 * k)
  BitVec.ofNat 64 (head + match e.st with
    | .D => e.track.owner % 2 ^ 11 * 2 ^ 18
    | _ => (if e.bcast then 2 ^ 33 else 0) + (2 ^ ps.length - 1) * 2 ^ 29 + at_ 0 + at_ 1 + at_ 2 + at_ 3)

/-- The entry as its array holds it: check bits and data (R158). -/
def DirEntry.stored (e : DirEntry) (g line : Nat) : BitVec 72 := Config.secDed (e.word g line) ++ e.word g line

/-- The word of an entry that is saved as unknown: a reserved state code (R188; DESIGN CHOICE, log 98). -/
def unknownWord (g line : Nat) : BitVec 64 := BitVec.ofNat 64 (7 * 2 ^ 61 + g % 64 * 2 ^ 55 + line / 2 ^ 18 % 2 ^ 21 * 2 ^ 34)

/-- The line of an entry in a set of a slice, by the grotto and the high part of its tag (R156). -/
def lineOfTag (g tagHi slice set : Nat) : Nat :=
  let o := tagHi * 2 ^ 14 + set
  o * 16 + (slice ^^^ o % 16 ^^^ o / 16 % 16 ^^^ o / 256 % 16 ^^^ g % 16)

/-- An entry as its word gives it back: S or E. -/
def entryOfWord (w : BitVec 64) : DirEntry :=
  let n := w.toNat
  let ps := (List.range 4).filterMap fun k => if w.getLsbD (29 + k) then some (n / 2 ^ (7 * k) % 128) else none
  { st := if bitsOf n 63 61 = 2 then .E else .S, sharers := ps, bcast := w.getLsbD 33 }

/-- The set of an entry in the image: slice × 16,384 + set. -/
def imageSet (key : Nat) : Nat := homeSlice (keyGrotto key) (keyLine key) * 16384 + dirSet (keyLine key)

/-- The tweak of a line of the image. The image lies behind the lines that programs reach (log 92). -/
def imageTweak (n : Nat) : Nat := resvTweak (2 ^ 29 + n)

/-- The word of a way of a set, all zero where it holds no entry. -/
def Dev.imageWord (d : Dev) (set way : Nat) : BitVec 64 :=
  match d.slices.dir.find? fun e => imageSet e.1 == set && (mgetD d.slices.dirAge e.1 {}).way == way with
  | some (k, e) => if 2 ≤ e.errBits then unknownWord (keyGrotto k) (keyLine k) else e.word (keyGrotto k) (keyLine k)
  | none => 0

/-- Save every set that holds an entry, in its place in the image, with the bitmap of those sets (R192, R194, R528); the array goes off. -/
def Dev.saveDir (d : Dev) : Dev :=
  if d.slices.saved then d
  else
    let sets := (d.slices.dir.map fun e => imageSet e.1).eraseDups
    let line (n : Nat) : DLine := {
      kind := .data, key := d.key0, tweak := imageTweak n,
      data := BitVec.ofNat 512 (((List.range 8).map fun i => (d.imageWord (n / 2) (n % 2 * 8 + i)).toNat * 2 ^ (64 * i)).sum) }
    d.onSlices fun s => { s with
      dir := [], dirAge := [], saved := true, occupied := sets,
      image := (sets.flatMap fun x => [2 * x, 2 * x + 1]).foldl (fun m n => mset m n (line n)) s.image }

/-- The words of an occupied set, in way order. -/
def Dev.imageWords (d : Dev) (set : Nat) : List (BitVec 64) :=
  [2 * set, 2 * set + 1].flatMap fun n =>
    let x := (mgetD d.slices.image n {}).open d.key0 (imageTweak n)
    (List.range 8).map fun i => BitVec.ofNat 64 (x.toNat / 2 ^ (64 * i))

/-- Restore the occupied sets; every other set is in I (R530). An entry saved as unknown is dropped and noted (R188). -/
def Dev.restoreDir (d : Dev) : Dev :=
  if !d.slices.saved then d
  else
    let put (set : Nat) (d : Dev) (e : BitVec 64 × Nat) : Dev :=
      let st := bitsOf e.1.toNat 63 61
      let g := bitsOf e.1.toNat 60 55
      let key := lineKey g (lineOfTag g (bitsOf e.1.toNat 54 34) (set / 16384) (set % 16384))
      if st = 0 then d
      else if 3 ≤ st then d.onSlices fun s => { s with unknown := true }
      else d.onSlices fun s => { s with dir := mset s.dir key (entryOfWord e.1), dirAge := mset s.dirAge key { way := e.2 } }
    (d.slices.occupied.foldl (fun d set => ((d.imageWords set).zip (List.range 16)).foldl (put set) d)
      (d.onSlices fun s => { s with saved := false }))

/-! ### The path of a request -/

/-- A line leaves D, or its lock ends, and what waited for it goes on (R172, R300). -/
def Dev.releaseLine (d : Dev) (g line : Nat) : Dev :=
  let d1 := match d.dirGet g line with
    | some e => if e.st = DirState.D then (d.dirDrop g line).againAll 1 e.track.parked else d
    | none => d
  d1.retrySlots

/-- Whether an instruction is still issued and not done. -/
def Dev.stillRuns (d : Dev) (q : Nat) (pos : BitVec 32) : Bool :=
  (mget d.queues.qs q).any fun x => x.issued.any fun i => i.pos == pos && !i.done && !isFault i.res.status

/-- An atomic has its line (R171, R172), unless its instruction has ended meanwhile. -/
def Dev.claim (d : Dev) (r : Req) : Dev :=
  match r.who with
  | .engine q pos =>
    if d.stillRuns q pos then d.onSlices fun s => { s with locks := s.locks ++ [(lineKey r.g r.line, q, pos)] }
    else d.releaseLine r.g r.line
  | _ => d.releaseLine r.g r.line

/-- Carry out a request that has passed its line's arbiter. -/
def Dev.grant (d : Dev) (r : Req) : Dev :=
  match r.op with
  | .readS | .readE | .readI | .readStale => d.serveRead r
  | .write m x p => d.applyWrite r m x p
  | .victim x p => d.victimWrite r.g r.line x p r.cls
  | .atomic => d.claim r
  | _ => d

/-- Whether a source has an outstanding snoop of a line. -/
def Dev.snooped (d : Dev) (src g line : Nat) : Bool :=
  d.slices.snoops.any fun s => srcOf s.link s.ld == src && s.g == g && s.line == line

/-- A host's holding ends while its line is in B (R180): a writeback may leave it a shared copy. -/
def DirEntry.released (e : DirEntry) (src : Nat) (leaveS : Bool) : DirEntry :=
  let t := e.track
  if t.prior.contains src then
    { e with track := { t with priorE := false, prior := if leaveS then t.prior else t.prior.filter (· != src) } }
  else e

/-- A host's writeback (R162, R168, R169, R180): applied at once when it comes from the recorded E holder or from a host
whose snoop is outstanding; otherwise it is a write like WrNC. -/
def Dev.serveWb (d : Dev) (mode : Nat) (r : Req) (data : LineData) (poison leaveS : Bool) : Dev :=
  let w : Req := { r with op := .write fullMask data poison }
  let now (d : Dev) : Dev := (d.bump (576 + 16 * homeSlice r.g r.line + 9)).again 2 w
  match d.dirGet r.g r.line with
  | some e =>
    if e.st = .B ∧ d.snooped r.src r.g r.line then now (d.dirPut r.g r.line (e.released r.src leaveS))
    else if e.st = .E ∧ e.sharers = [r.src] then
      now (if leaveS then d.dirPut r.g r.line { st := .S, sharers := [r.src] } else d.dirDrop r.g r.line)
    else if e.st = .B ∨ e.st = .D then d.park r.g r.line e r
    else d.again mode w
  | none => d.again mode w

/-- A clean-eviction notice (R162, R180) with its completion (log 13). -/
def Dev.serveClean (d : Dev) (r : Req) : Dev :=
  let done (d : Dev) : Dev := match r.who with
    | .host h => if d.linkLive h.link then d.emit (.memCmp h) else d
    | _ => d
  match d.dirGet r.g r.line with
  | some e =>
    match e.st with
    | .E => done (if e.sharers = [r.src] then d.dirDrop r.g r.line else d)
    | .S =>
      if e.bcast then done d
      else
        let sh := e.sharers.filter (· != r.src)
        done (if sh.isEmpty then d.dirDrop r.g r.line else d.dirPut r.g r.line { e with sharers := sh })
    | .B =>
      if d.snooped r.src r.g r.line then done (d.dirPut r.g r.line (e.released r.src false))
      else if e.track.prior.contains r.src then done d
      else d.park r.g r.line e r
    | .D => d.park r.g r.line e r
  | none => done d

/-- Whether a write that would go to its DRAM line, not into the near cache, waits for the sweep of a lost bank (R542). -/
def Dev.heldBySweep (d : Dev) (r : Req) : Bool :=
  let direct := match r.who, r.op with
    | .rope _ _, _ => true
    | _, .write m _ _ => (d.ncGet r.g r.line).isNone && (m != fullMask || decide (16 ≤ (d.ncWays r.g r.line).length))
    | _, _ => false
  r.op.isWrite && direct && d.sweepHolds r.g r.line

/-- What a line still records of fenced attachments is resolved as the sweep would (R184): pointers are dropped, and a line held in E is
poisoned. -/
def Dev.dropFenced (d : Dev) (g line : Nat) : Dev :=
  match d.dirGet g line with
  | none => d
  | some e =>
    let sh := e.sharers.filter fun s => !d.fencedSrc g s
    if sh.length = e.sharers.length then d
    else match e.st with
      | .E => (d.dirDrop g line).poisonWhole g line
      | .S => if e.bcast then d else if sh.isEmpty then d.dirDrop g line else d.dirPut g line { e with sharers := sh }
      | _ => d

/-- Read a line's entry where its grotto has a directory (R157): false where the entry is lost. -/
def Dev.dirKnown (d : Dev) (g line : Nat) : Bool × Dev := if (d.grotto g).db then d.dirRead g line else (true, d)

/-- A request reaches its line's arbiter: its entry is read, what fenced attachments held is resolved first, and it is granted or parked. -/
def Dev.arbitrate (d : Dev) (r : Req) : Dev :=
  if !(d.grotto r.g).db then (d.granted r).grant r
  else match d.dirRead r.g r.line with
    | (false, d1) => d1
    | (true, d1) =>
      let d2 := d1.dropFenced r.g r.line
      if d1.slices.resume.length < d2.slices.resume.length then d2.again 1 r
      else match d2.dirStep r with
        | (true, d3) => (d3.granted r).grant r
        | (false, d3) => d3

/-- Whether a write must wait for a frame (R104, R211, R218): its page has none, none may be taken, and the sub-block of a warm page cannot be
compressed again in place. -/
def Dev.starved (d : Dev) (r : Req) : Bool :=
  let page := pageOf r.line
  r.op.isWrite && !(d.rebuilding r.g page && d.covered r.g) && (d.takeFrame r.g).isNone &&
    match peState (d.entry r.g page) with
    | 0 => true
    | 4 => !d.covered r.g
    | 2 => (d.promoOf r.g page).isNone && (d.recompOf r.g page).isNone && !d.mustRebuild r.g page && (d.startRecomp r).isNone
    | _ => false

/-- A write to a line whose key entry is empty has no effect (R81, R42): it is completed, with an EVENT. -/
def Dev.keyless (d : Dev) (r : Req) : Dev :=
  match r.who with
  | .quiet => d
  | .host h =>
    let d1 := (d.noKey r.g r.line true).bump (128 + 16 * h.link + 6)
    if d1.linkLive h.link then d1.emit (.memCmp h) else d1
  | _ => (d.noKey r.g r.line true).answerWrite r

/-- Take a request one way: mode 0 newly arrived, 1 taken up again, 2 granted when its round has ended, 3 taken up again after its grant. -/
def Dev.serve (d : Dev) (mode : Nat) (r : Req) : Dev :=
  let page := pageOf r.line
  if r.op.isWrite && !d.keyed r.g r.line then d.keyless r
  else match r.op with
  | .wb x p leaveS =>
    let (known, d1) := d.dirKnown r.g r.line
    if known then d1.serveWb mode r x p leaveS else d1
  | .clean =>
    let (known, d1) := d.dirKnown r.g r.line
    if known then d1.serveClean r else d1
  | .unback n =>
    let (done, d1) := d.unbackRange r.g page n
    if done then d1.answerWrite r else d1.slotHold r
  | _ =>
  if mode = 3 then (d.fillNow r.g page).grant r
  else if mode = 2 then ((d.fillNow r.g page).granted r).grant r
  else if d.slices.locks.any fun l => l.1 == lineKey r.g r.line then d.slotHold r
  else if d.heldBySweep r then d.slotHold r
  else if r.op.isWrite && d.roped r.g && decide (16384 ≤ d.ev.rope.unplaced.length) then d.slotHold r
  else
    let needMap := r.op.isWrite || (d.ncGet r.g r.line).isNone
    if needMap && mode = 0 && !d.mapHit r.g page then d.startFill r
    else
      let d := if needMap then d.fillNow r.g page else d
      if d.starved r then d.waitFrame r
      else if r.op.isWrite && peState (d.entry r.g page) == 0 then
        match d.takeFrame r.g with
        | some (f, d1) => (d1.firstEntry r.g page f).arbitrate r
        | none => d.waitFrame r
      else d.arbitrate r

/-- Serve everything to be taken up again in this command, in order. -/
def Dev.drain (d : Dev) : Nat → Dev
  | 0 => d
  | n + 1 =>
    match d.slices.resume with
    | [] => d
    | (m, r) :: t => (({ d with slices := { d.slices with resume := t } }).serve m r).drain n

def drainFuel : Nat := 65536

/-- Waiting writes that need wait no longer, in arrival order (R99, R107, R211, R218), and those in credit slots behind them (R108). -/
def Dev.serveFrames (d : Dev) : Nat → Dev
  | 0 => d
  | n + 1 =>
    match d.pages.frameWait.find? fun r => !d.starved r with
    | some r =>
      let d1 := d.onPages fun p => { p with frameWait := p.frameWait.erase r ++ p.creditWait.take 1, creditWait := p.creditWait.drop 1 }
      ((d1.serve 1 r).drain drainFuel).serveFrames n
    | none => d

/-- Misses that wait for their map block and may go on, in order (R93, R94). -/
def Dev.serveMap (d : Dev) : Nat → Dev
  | 0 => d
  | n + 1 =>
    match d.pages.mapWait.find? fun r => d.mapHit r.g (pageOf r.line) || d.mayFill r with
    | some r => (((d.onPages fun p => { p with mapWait := p.mapWait.erase r }).serve 0 r).drain drainFuel).serveMap n
    | none => d

/-- Dirty near-cache lines of lost pages are written out at once (R532). -/
def Dev.writeOutLost (d : Dev) : Dev :=
  (d.slices.nc.filter fun e => e.2.dirty && peView (d.entry (keyGrotto e.1) (pageOf (keyLine e.1))) == 4).foldl
    (fun d e => d.ncEvict (keyGrotto e.1) (keyLine e.1)) d

/-- A grotto's first-discard mark ends once S is at least 1 (R109). -/
def Dev.clearDiscards (d : Dev) : Dev :=
  if d.grottos.any (fun e => e.2.discarded) && decide (d.surplus ≥ 1) then
    { d with grottos := d.grottos.map fun e => (e.1, { e.2 with discarded := false }) }
  else d

/-- A flip mask armed on the counter array or on fill buffers meets the writes of a command (R472): two bits or more set a
counter to zero, which one being free; a line in a fill buffer is fetched again. -/
def Dev.sweepArrays (d : Dev) : Dev :=
  if d.faults.armed.isEmpty then d
  else
    let (n, d1) := d.arrayWrite 0x386
    let d2 := if n < 2 then d1
      else
        let (k, d2) := d1.choose 1536
        (d2.onCnt fun c => { c with cnt := mput c.cnt 0 k 0 }).raise { code := 0x2001, cls := 1, unit := 0x386, att := 2 }
    (List.range 16).foldl (fun (d : Dev) i => (d.arrayWrite (0x220 + i)).2) d2

/-- Settle a command at the home slices: take up what resumes, send waiting snoops, write out lines of lost pages and what the hold load does not
allow, free frames, serve what waits for map blocks and frames, check the watermark. -/
def Dev.quiesce (d : Dev) : Dev :=
  let d1 := (((((d.drain drainFuel).pumpSnoops).writeOutLost).relieve drainFuel).reap).drain drainFuel
  (((((((d1.serveMap 4096).serveFrames 4096).resumeRebuilds).clearDiscards).askRelease).sweepArrays).issueAll).catchUp

/-! ### Fencing (R181 to R185) -/

/-- Whether an issued instruction touches a grotto (R296): through a window that its format names; what names further areas is taken
to touch the grotto of its queue. -/
def Issued.touches (i : Issued) (x : Queue) (g : Nat) : Bool :=
  let win (h : BitVec 6) : Bool := let y := mgetD x.windows h.toNat {}; y.kind == 1 && y.grotto == g
  match i.word.fmt.toNat with
  | 0 | 1 => false
  | 2 => (i.opcode != 0x06 || i.word.mod.getLsbD 0) && win i.word.swin
  | 3 => win i.word.dwin
  | _ => if i.opcode = 0x20 ∨ i.opcode = 0x44 then win i.word.swin || win i.word.dwin else true

/-- A grotto that is fenced stops its queues with the fenced state (R80, R296): what they have issued that touches it faults. -/
def Dev.fenceQueues (d : Dev) (g : Nat) : Dev :=
  { d with queues := { d.queues with qs := d.queues.qs.map fun e =>
      if 16 ≤ e.1 ∧ e.1 < 8192 ∧ e.2.recd.grotto = g then
        (e.1, { e.2 with
          state := 5, run := false,
          issued := e.2.issued.map fun i => if i.state = .completed ∨ i.state = .recorded ∨ !i.touches e.2 g then i else
            { i with state := .applied, res := { i.res with status := 0x020D } } })
      else e } }

/-- Fence the attachment of a silent host (R182, R183): the whole grotto if it is the owner's. -/
def Dev.fenceAttach (d : Dev) (link ld g line : Nat) : Dev :=
  let x := d.grotto g
  let src := srcOf link ld
  let y : Grotto := { x with attaches := x.attaches.map fun a => if a.link = link ∧ a.ld = ld then { a with fenced := true } else a }
  let d1 := if x.ownerLink = link ∧ x.ownerLd = ld then (d.setGrotto g { y with state := 2 }).fenceQueues g else d.setGrotto g y
  let d2 := d1.raise { code := 0x2005, cls := 3, unit := unitLink link, att := 2, akind := 1, addr := d.devOffset g line,
                       grotto := some g, detail := src }
  let d3 : Dev := { d2 with slices := { d2.slices with sweeps := d2.slices.sweeps ++ [(g, src)] } }
  d3.resolveSilent g line src

/-- The sweep of all slices (R183): E lines of the source are poisoned and go to I, S pointers are dropped; the number of
lines poisoned. -/
def Dev.fenceSweep (d : Dev) (g src : Nat) : Nat × Dev :=
  d.slices.dir.foldl (fun (acc : Nat × Dev) e =>
    let (n, d) := acc
    if keyGrotto e.1 = g then
      let line := keyLine e.1
      match e.2.st with
      | .E => if e.2.sharers.contains src then (n + 1, (d.dirDrop g line).poisonWhole g line) else (n, d)
      | .S =>
        if !e.2.bcast ∧ e.2.sharers.contains src then
          let sh := e.2.sharers.filter (· != src)
          (n, if sh.isEmpty then d.dirDrop g line else d.dirPut g line { e.2 with sharers := sh })
        else (n, d)
      | .B =>
        if d.slices.snoops.any fun s => s.g == g && s.line == line && srcOf s.link s.ld == src then
          (if e.2.track.priorE then n + 1 else n, d.resolveSilent g line src)
        else (n, d)
      | .D => (n, d)
    else acc) (0, d)

end Sys2Proof.Machine
end

