-- ==== Sys2Proof/Machine/HostPort.lean ====
section
/-!
DEFINITION. How a host request finds its line (R40 to R43, R51), and snoop responses (R167, R181).
-/
namespace Sys2Proof.Machine

/-- Decode an HPA through the committed decoders of a logical device: decoder, position and DPA (R40). -/
def Ld.decode (x : Ld) (hpa : Nat) : Option (Nat × Nat × Nat) :=
  (List.range 4).findSome? fun n =>
    let k := mgetD x.decoders n {}
    let off := hpa - k.base.toNat
    let ways := max 1 k.ways
    let gran := max 1 k.gran
    let pos := off / gran % ways
    if k.committed ∧ k.base.toNat ≤ hpa ∧ hpa < k.base.toNat + k.size.toNat ∧ (k.position = none ∨ k.position = some pos) then
      some (n, pos, x.dpaStart n + off / gran / ways * gran + off % gran)
    else none

/-- Whether an attachment is its grotto's owner's. -/
def Grotto.owns (x : Grotto) (a : Attach) : Bool := a.link == x.ownerLink && a.ld == x.ownerLd

/-- First DPA of a grotto at its owner. -/
def Grotto.ownBase (x : Grotto) : Option Nat := (x.attaches.find? x.owns).map (·.base)

/-- Grottos that a logical device owns. -/
def Dev.owned (d : Dev) (l ld : Nat) : List (Nat × Grotto) :=
  d.grottos.filter fun e => e.2.ownerLink == l && e.2.ownerLd == ld && !e.2.copy

/-- DC regions of a logical device (R47, R37): grotto, its base, and record; of more than eight the first in the table (log 91). -/
def Dev.regions (d : Dev) (l ld : Nat) : List (Nat × Nat × Grotto) :=
  ((d.owned l ld).filterMap fun e => e.2.ownBase.bind fun b => if e.2.elasticMax = 0 then none else some (e.1, b, e.2)).take 8

/-- Extents offered to a logical device or accepted by it (R37). -/
def Dev.extentCount (d : Dev) (l ld : Nat) : Nat := ((d.owned l ld).map fun e => e.2.offered.length + e.2.accepted.length).sum

/-- Bytes of a grotto that an attachment sees (R39). -/
def Grotto.visible (x : Grotto) (a : Attach) : Nat :=
  (if x.owns a then x.committed + x.elasticMax else x.committed) * unitBytes

/-- The grotto range of a logical device that holds a DPA: grotto, attachment, and grotto offset. Where ranges overlap after all (a GROTTO that
grows an attached grotto which is not active), the first grotto of the table (DESIGN CHOICE, log 88). -/
def Dev.rangeOf (d : Dev) (link ld dpa : Nat) : Option (Nat × Attach × Nat) :=
  d.grottos.findSome? fun e => (e.2.attaches.find? fun a =>
    a.link == link && a.ld == ld && decide (a.base ≤ dpa ∧ dpa < a.base + e.2.visible a)).map fun a => (e.1, a, dpa - a.base)

/-- Whether an offset of a grotto lies in committed capacity or in an accepted extent (R48). -/
def Grotto.reachable (x : Grotto) (off : Nat) : Bool :=
  let u := off / unitBytes
  decide (u < x.committed) || x.accepted.any fun e => decide (e.1 ≤ u ∧ u < e.1 + e.2)

/-- A DPA of a logical device as a grotto offset, or the case of R42 that shuts it out. -/
def Dev.dpaCase (d : Dev) (link ld dpa : Nat) : Except Nat (Nat × Nat) :=
  match d.rangeOf link ld dpa with
  | none => .error 2
  | some (g, a, off) =>
    let x := d.grotto g
    if !x.reachable off then .error 3
    else if x.state = 2 then .error 5
    else if x.state ≠ 1 then .error 6
    else if a.fenced then .error 7
    else .ok (g, off)

/-- Translate a request's HPA: the device with the decoder's position latched (R40), and the line or the case of R42. -/
def Dev.locate (d : Dev) (link ld hpa : Nat) : Except Nat (Nat × Nat) × Dev :=
  if d.power.mode = .boot then (.error 4, d)
  else
    let x := d.ld link ld
    match x.decode hpa with
    | none => (.error 1, d)
    | some (n, pos, dpa) =>
      let d1 := d.setLd link ld { x with decoders := mmod x.decoders n {} fun k => { k with position := some pos } }
      (match d1.dpaCase link ld dpa with
       | .error c => .error c
       | .ok (g, off) => .ok (g, off / 64), d1)

/-- The line of a grotto to which a logical device's fenced attachment leads an HPA (R184). -/
def Dev.fencedLine (d : Dev) (link ld hpa : Nat) : Option (Nat × Nat) :=
  if d.power.mode = .boot then none
  else ((d.ld link ld).decode hpa).bind fun x => (d.rangeOf link ld x.2.2).bind fun y =>
    if y.2.1.fenced then some (y.1, y.2.2 / 64) else none

/-- A request outside every grotto (R42, R641): EVENT; a read gets poisoned zeros, a write its completion. -/
def Dev.outside (d : Dev) (h : MemHdr) (hpa case : Nat) (read : Bool) : Dev :=
  let d1 := (d.event (unitLink h.link) 2 hpa (h.ld + case * 16)).bump (128 + 16 * h.link + 6)
  if read then d1.emit (.memData h 0 true false) else d1.emit (.memCmp h)

/-- Whether a link carries messages now: it is up and out of reset. One that has acknowledged PME_Turn_Off waits for PERST_N, and the
model takes nothing on it any more (R75; DESIGN CHOICE, log 89). -/
def Dev.linkOpen (d : Dev) (l : Nat) : Bool :=
  let k := d.link l
  d.linkExists l && k.up && !k.perst && !k.cleanup && !k.pme && d.live

/-- Whether a link takes CXL.mem messages now (R35). -/
def Dev.linkTakes (d : Dev) (l : Nat) : Bool := d.linkOpen l && (d.link l).cxl

/-- Whether a message names another PBR ID than its link's (R51). -/
def Link.misrouted (k : Link) (dpid : BitVec 12) : Bool :=
  match k.pbr with
  | some p => p != dpid
  | none => false

/-- Act on a message that a link has brought (R43, R51): one that names another PBR ID, or a logical device that the link does not
present, is discarded with an EVENT. -/
def Dev.addressed (d : Dev) (l ld : Nat) (dpid : BitVec 12) (here : Bool) (k : Dev → Dev) : Dev :=
  if (d.link l).misrouted dpid then d.event (unitLink l)
  else if !here then d.event (unitLink l) 0 0 ld
  else k d

/-- A message of CXL.io arrives (R35, R43, R51, R74): it wakes the device; one that comes while DEEP is entered or left is taken up back in
RUN. plain: it may come over a link without CXL. -/
def Dev.ioArrive (d : Dev) (l ld : Nat) (dpid : BitVec 12) (plain : Bool) (c : Instr) (k : Dev → Dev) : Dev :=
  if !d.linkOpen l ∨ (!plain ∧ !(d.link l).cxl) then d
  else
    let d1 := d.wake 1 l
    if d1.asleep then { d1 with late := d1.late ++ [c] } else d1.addressed l ld dpid (d1.ldExists l ld) k

/-- Whether CXL.io messages for a logical device have their effect at once. -/
def Dev.ldOpen (d : Dev) (l ld : Nat) : Bool := d.linkTakes l && d.ldExists l ld && !d.asleep

/-- Memory_Active of a link (R35, R71): 1 in RUN, DOZE and DEEP, over CXL alone. -/
def Dev.memoryActive (d : Dev) (l : Nat) : Bool :=
  (d.link l).cxl && (d.power.mode == .run || d.power.mode == .doze || d.power.mode == .deep)

/-- A CXL.mem request is acted on (R42, R536): it is decoded and goes to its home slice. -/
def Dev.hostRequest (d : Dev) (h : MemHdr) (hpa : BitVec 64) (op : Op) : Dev :=
  let read := !op.isWrite && op != .clean
  let d2 := if op.isWrite then d.bump (128 + 16 * h.link + 2) 64 else d
  match d2.locate h.link h.ld hpa.toNat with
  | (.error c, d3) =>
    match op, d3.fencedLine h.link h.ld hpa.toNat with
    | .wb .., some (g, line) =>
      (d3.event (unitLink h.link) 1 (d3.devOffset g line) (srcOf h.link h.ld) (some g)).emit (.memCmp h)
    | _, _ => d3.outside h hpa.toNat c read
  | (.ok (g, line), d3) =>
    d3.again 0 { who := .host h, src := srcOf h.link h.ld, g := g, line := line, op := op, cls := (d3.grotto g).cls }

/-- Act on a CXL.mem request whose MAC has been checked (R43, R51, R46); one that comes while DEEP is entered or left waits in its credit
slot for RUN (R528). -/
def Dev.memAct (d : Dev) (c : Instr) : Dev :=
  match memReqOf c with
  | none => d
  | some (h, hpa, op) =>
    if d.asleep then { d with late := d.late ++ [c] }
    else d.addressed h.link h.ld h.dpid (decide (h.ld < d.ldCount h.link)) fun e =>
      match op with
      | some o => e.hostRequest h hpa o
      | none => e.emit (.conflictAck h hpa)

/-- In skid mode a read enters decode ahead of the check (R54): the decoder takes its position. -/
def Dev.decodeAhead (d : Dev) (c : Instr) : Dev :=
  match memReqOf c with
  | some (h, hpa, some op) =>
    if op.isWrite || op == .clean || d.asleep || decide (d.ldCount h.link ≤ h.ld) || (d.link h.link).misrouted h.dpid then d
    else (d.locate h.link h.ld hpa.toNat).2
  | _ => d

/-- A CXL.mem request reaches its port (R53 to R55): it wakes the device. On an insecure stream it is discarded; on a secured one it
waits until the MAC of its epoch has come. -/
def Dev.memEnter (d : Dev) (h : MemHdr) (c : Instr) : Dev :=
  let d1 := d.wake 1 h.link
  let k := d1.link h.link
  if k.cacheIde.insecure then d1
  else if k.cacheIde.rx.inUse.isSome && !h.mac then
    let d2 := d1.setLink h.link { k with epoch := k.epoch ++ [c] }
    if k.skid then d2.decodeAhead c else d2
  else (k.epoch ++ [c]).foldl Dev.memAct (d1.setLink h.link { k with epoch := [] })

/-- Requests whose senders waited for a credit slot come as slots are free, each link's in the order they were to be sent (R27). -/
def Dev.takeUnsent (d : Dev) : Nat → Dev
  | 0 => d
  | n + 1 =>
    match d.unsent.findSome? fun c => (memReqOf c).bind fun x => if d.noSlot x.1.link then none else some (c, x.1) with
    | some (c, h) => ((({ d with unsent := d.unsent.erase c } : Dev).memEnter h c).drain drainFuel).takeUnsent n
    | none => d

/-- Finish a command: what it started at the home slices settles, and requests come for which credit slots are free again. -/
def Dev.after (d : Dev) : Dev :=
  let d1 := d.quiesce
  if d1.unsent.isEmpty then d1 else (d1.takeUnsent 8192).quiesce

/-- A CXL.mem request of a link (R27): with no credit slot free its sender holds it, and those after it. -/
def Dev.memArrive (d : Dev) (h : MemHdr) (c : Instr) : Dev :=
  if !d.linkTakes h.link then d
  else if takesSlot c && (d.noSlot h.link || d.unsent.any fun x => cmdLink x == some h.link) then { d with unsent := d.unsent ++ [c] }
  else (d.memEnter h c).after

/-! ### Snoop responses -/

/-- The response of a host: 0 BIRspI, 1 BIRspS, 2 BIRspE. -/
def SnpKind.allows (k : SnpKind) (resp : Nat) : Bool :=
  match k, resp with
  | _, 0 => true
  | .data, 1 | .cur, 1 | .cur, 2 => true
  | _, _ => false

/-- A snoop response arrives (R167, R168, R181, R184, R641). -/
def Dev.snoopAnswer (d : Dev) (link ld tag resp : Nat) (dpid : BitVec 12) : Dev :=
  if !d.linkTakes link then d
  else (d.wake 1 link).addressed link ld dpid (decide (ld < d.ldCount link)) fun d =>
    let detail := tag % 4096 + (ld % 16) * 65536 + resp * 1048576
    match d.slices.snoops.find? fun s => s.link == link && s.ld == ld && s.tag == some tag with
    | none => d.event (unitLink link) 0 0 detail
    | some s =>
      let src := srcOf link ld
      if d.fencedSrc s.g src then d.event (unitLink link) 1 (d.devOffset s.g s.line) src (some s.g)
      else
        let ok := s.kind.allows resp
        let d1 : Dev := { d with slices := { d.slices with snoops := d.slices.snoops.filter fun x =>
          !(x.link == link && x.ld == ld && x.tag == some tag) } }
        let d2 := if ok then d1 else d1.event (unitLink link) 1 (d1.devOffset s.g s.line) detail (some s.g)
        let late : Hap := {
          code := 0x2004, cls := 1, unit := unitLink link, att := 2, akind := 1, addr := d2.devOffset s.g s.line,
          grotto := some s.g }
        let d3 := if s.resent then d2.raise late else d2
        let d4 := match d3.dirGet s.g s.line with
          | some e =>
            if !ok then d3
            else if resp = 1 then d3.dirPut s.g s.line { e with track := { e.track with leftS := e.track.leftS ++ [src] } }
            else if resp = 2 then d3.dirPut s.g s.line { e with track := { e.track with leftE := some src } }
            else d3
          | none => d3
        (d4.checkRound s.g s.line).after

/-- The response timer of a snoop runs out (R181, R182): sent once more with its tag, then the attachment is fenced. -/
def Dev.snoopLate (d : Dev) (link tag : Nat) : Dev :=
  match d.slices.snoops.find? fun s => s.link == link && s.tag == some tag with
  | none => d
  | some s =>
    if !d.awake then d
    else if s.resent then (d.fenceAttach s.link s.ld s.g s.line).after
    else
      let mark (x : Snoop) : Snoop := if x.link = link ∧ x.tag = some tag then { x with resent := true } else x
      let d1 := d.onSlices fun sl => { sl with snoops := sl.snoops.map mark }
      match d1.snoopHpa s.link s.ld s.g s.line with
      | some hpa => (d1.emit (.snoop s.link s.ld s.kind (d1.link s.link).biId tag hpa)).bump (128 + 16 * link + 5)
      | none => ((d.onSlices fun sl => { sl with snoops := sl.snoops.erase s }).checkRound s.g s.line).after

/-- The sweep of a fence ends (R183): its count of poisoned lines is recorded. -/
def Dev.sweepDone (d : Dev) (g src : Nat) : Dev :=
  if d.slices.sweeps.contains (g, src) then
    let (n, d1) := d.fenceSweep g src
    let d2 : Dev := { d1 with slices := { d1.slices with sweeps := d1.slices.sweeps.filter (· != (g, src)) } }
    (d2.event (unitLink (src / 16)) 0 0 (n + src * 2 ^ 32) (some g)).after
  else d

end Sys2Proof.Machine
end

