-- ==== Sys2Proof/Machine/PageOps.lean ====
section
/-!
DEFINITION. Returns from DRAM and from the decompress units, promotion and recompression as they finish, frame waits, the
zeroer, and extent offers (03, 06, 13).
-/
namespace Sys2Proof.Machine

/-- The page whose entry names a frame as its own (state hot, or moving from hot). -/
def Dev.pageAt (d : Dev) (f : Nat) : Option (Nat × Nat) :=
  (d.pages.area.find? fun e => peView e.2 == 1 && peLoc e.2 == f).bind fun e =>
    (d.grottoAt e.1).map fun g => (g, e.1 - (d.grotto g).mapBase)

/-! ### Map fills (R89, R91, R93, R94) -/

/-- An uncorrectable page-map line (R91): each page is lost, or rebuilt from the partner. -/
def Dev.mapLineBad (d : Dev) (lineIdx : Nat) : Dev :=
  (d.linePages lineIdx).foldl (fun d gp =>
    if d.covered gp.1 then d.rebuildPage gp.1 gp.2 none
    else (d.entryLost gp.1 gp.2).containPage 0x3004 unitMap gp.1 gp.2 2) d

/-- A page-map line returns: its entries are checked, it enters the map cache, and the requests that joined go on in order. -/
def Dev.fillReturn (d : Dev) (lineIdx : Nat) (o : LineObs) : Dev :=
  match d.pages.fills.find? fun f => f.lineIdx == lineIdx with
  | none => d
  | some f =>
    if d.mapWaits lineIdx then d
    else
    let dead := d.mapDead lineIdx
    let cls := ((f.waiting.head?).map Req.cls).getD 0
    let d0 := (d.countMap lineIdx cls).onPages fun p => { p with fills := p.fills.filter fun x => x.lineIdx != lineIdx }
    let d1 := if dead then d0.mapLineBad lineIdx else match judge [] o.first, judge [] o.second with
      | .good, _ => d0
      | .fixed _, _ => d0.raise { code := 0x1001, cls := 1, unit := unitMap, att := 2 }
      | .bad, .good | .bad, .fixed _ => d0.raise { code := 0x1002, cls := 1, unit := unitMap, att := 2 }
      | _, _ => d0.mapLineBad lineIdx
    let d2 := (d1.linePages lineIdx).foldl (fun d gp => d.readEntry gp.1 gp.2) d1
    let g := match f.waiting with
      | r :: _ => r.g
      | [] => (d2.grottoAt (lineIdx * 8)).getD 0
    match d2.mapInsert lineIdx g with
    | some d3 => (d3.againAll 1 f.waiting).after
    | none => (d2.onPages fun p => { p with mapWait := p.mapWait ++ f.waiting }).after

/-! ### DRAM lines and sub-blocks -/

/-- A line that a read waits for returns from its channel (R123, R469): it is delivered, kept in the near cache where the request
allocates, and poisoned or repaired as its reading says. -/
def Dev.lineReturn (d : Dev) (channel frame line : Nat) (o : LineObs) (ready : Option (List Nat) := none) : Dev :=
  let f := mkFrame channel frame
  match d.pages.dreads.find? fun x => x.frame == f && x.line == line with
  | none => d
  | some x =>
    match d.readLeaves x ready with
    | none => d
    | some d0 =>
      let r := x.req
      let (y, d1) := d0.readSeen f line x.seen o (some (r.g, r.line)) r.cls
      let (data, poison, d2) := d1.deliver r.g (pageOf r.line) line y
      let here := x.seen.isNone && r.allocates && peView (d2.entry r.g (pageOf r.line)) == 1
      let d3 := if here then d2.ncAlloc r.g r.line data poison r.cls else d2
      (d3.answerRead r data poison).after

/-- Serve a read of a warm line whose sub-block has been read. -/
def Dev.serveSub (d : Dev) (r : Req) (x : Contents) : Dev :=
  let n := lineIn r.line
  if (x.subs.getD (n / 16) none).isNone && d.covered r.g then d.partnerRead r
  else
    let (data, poison) := x.line n
    if poison then d.answerPoison r else d.giveLine r x data

/-- The kind of unit that an opcode runs on, by the first opcode of the kind: the five queries share the scan units (R360). -/
def unitKind (op : Nat) : Nat := if 0x60 ≤ op ∧ op ≤ 0x64 then 0x60 else op

/-- Whether an instruction holds a unit (R224, R360): until it ends or stops. -/
def Dev.holdsUnit (d : Dev) (e : Nat × Nat × BitVec 32) : Bool :=
  d.queues.units.contains e && (mget d.queues.qs e.2.1).any fun x => x.issued.any fun i =>
    i.pos == e.2.2 && unitKind i.opcode == e.1 && !i.done

/-- Units of a kind that instructions hold, and those in service. -/
def Dev.unitsHeld (d : Dev) (kind : Nat) : Nat := (d.queues.units.filter fun e => e.1 == kind && d.holdsUnit e).length
def Dev.unitsUp (d : Dev) (kind : Nat) : Nat :=
  let (base, n) := if kind = 0x41 then (0x320, 16) else if kind = 0x60 then (0x330, 16) else (0x310, 8)
  n - (d.faults.fenced.filter fun u => decide (base ≤ u ∧ u < base + n)).length

/-- Whether a sub-block that reads wait for has a unit (R27, R224): jobs of gallery work are given units in order of arrival, beside those that
stream jobs hold. -/
def Dev.subHasUnit (d : Dev) (e : Nat × Nat × Nat) : Bool :=
  (((d.pages.sreads.map fun x => (x.g, x.page, x.sub)).eraseDups).take (d.unitsUp 0x41 - d.unitsHeld 0x41)).contains e

/-- A decompress unit has read a sub-block (R207 to R210): the reads that wait for it are served. -/
def Dev.subReturn (d : Dev) (g page sub : Nat) (o : SubObs) : Dev :=
  if d.pageWaits g page then d
  else
  let rs : List Req := if d.subHasUnit (g, page, sub) then
      (d.pages.sreads.filter fun x => x.g == g && x.page == page && x.sub == sub).map (·.req) else []
  let cls := ((rs.head?).map Req.cls).getD 0
  if rs.isEmpty then d
  else
    let d0 := d.onPages fun p => { p with sreads := p.sreads.filter fun x => !(x.g == g && x.page == page && x.sub == sub) }
    if peView (d0.entry g page) ≠ 2 then (d0.againAll 3 rs).after
    else match d0.headerRead g page cls o.header with
      | (none, d1) =>
        let d2 := d1.headerBad g page
        (rs.foldl (fun (d : Dev) r => if d.covered g then d.partnerRead r else d.answerPoison r) d2).after
      | (some h, d1) =>
        let (data, d2) := d1.subRead g page sub cls h o
        let x : Contents := ⟨(d2.galleryOf g page).getD h, (List.replicate 4 none).set sub data⟩
        (rs.foldl (fun (d : Dev) r => d.serveSub r x) d2).after

/-- The grotto line that a line of DRAM holds, where it is one of a hot page. -/
def Dev.lineAt (d : Dev) (f n : Nat) : Option (Nat × Nat) := (d.pageAt f).map fun e => (e.1, e.2 * 64 + n)

/-- The lines of a repaired row that stand in error are read, checked and written back: without the device whose row was replaced, corrected
or as poison (R149). -/
def Dev.rowBack (d : Dev) (r : Repair) : Dev :=
  let k := d.coord r.frame r.line
  let row := d.mem.dram.filter fun e => !e.2.errs.isEmpty && frameChan (e.1 / 64) == frameChan r.frame && (
    let y := d.coord (e.1 / 64) (e.1 % 64)
    y.cell == k.cell && y.row == k.row)
  row.foldl (fun (d : Dev) e => (d.dramRead (e.1 / 64) (e.1 % 64) {} (d.lineAt (e.1 / 64) (e.1 % 64)) scrubCls).2) d

/-- A soft repair ends (R149, R150): the row is written back, refreshes owed to the rank are issued, the next repair begins, and firmware owes
the channel's repair map. -/
def Dev.repairDone (d : Dev) (c : Nat) (effective : Bool) : Dev :=
  let k := d.chan c
  match k.repair with
  | none => d
  | some r =>
    let at_ := d.coord r.frame r.line
    let rest : Nat := if d.power.mode = .doze then 1 else 0
    let d1 := (d.setChan c { k with
      repair := k.repairNext.head?, repairNext := k.repairNext.drop 1, sub := if k.repairNext.isEmpty then rest else 4,
      rows := merase k.rows at_.cell, softRun := k.softRun + 1, fault := k.fault ||| 0x02#8 }).owes 4 c
    let d2 := (d1.rowBack r).issueOwed c at_.rank
    if effective then (d2.raise {
      code := 0x1004, cls := 1, unit := unitChan c, att := 2, akind := 3, addr := r.frame,
      detail := dramDetail c at_ (2 ^ r.dev) }).after
    else (d2.retireFrame r.frame r.line (d2.pageAt r.frame)).after

/-! ### Promotion and recompression -/

/-- Write the lines of a gallery into a frame (R212): zero-mode sub-blocks keep the zero mark. -/
def Dev.spreadGallery (d : Dev) (g page f : Nat) (x : Contents) (cls : Nat) : Dev :=
  (List.range 64).foldl (fun d n =>
    let (data, poison) := x.line n
    if x.zeroLine n then d else d.dramWrite f n (d.seal g page n data poison) cls) d

/-- A promotion commits (R212, R213): the page is hot, the gallery is freed, and the held requests go on in arbiter order. A header that
is unknown, or in a roped grotto a sub-block, ends it (R209, R210). -/
def Dev.promoDone (d : Dev) (g page : Nat) (obs : List SubObs := []) : Dev :=
  match d.promoOf g page with
  | none => d
  | some p =>
    if d.pageWaits g page then d
    else
    let d0 := d.onPages fun q => { q with promos := q.promos.filter fun x => !(x.g == g && x.page == page) }
    let cls := ((p.held.head?).map Req.cls).getD 0
    let stop (d : Dev) : Dev := (((d.hold g (frameChan p.frame) (-1)).freeFrame p.frame).againAll 3 p.held).after
    match d0.readGallery g page cls obs with
    | (some x, d1) =>
      if d1.rebuilding g page then stop (d1.toSource g page)
      else
        let d2 := (d1.spreadGallery g page p.frame x cls).turn g page 1 0 p.frame
        ((d2.freeGallery g page p.src).againAll 3 p.held).after
    | (none, d1) => stop (if d1.covered g then (d1.toSource g page).headerBad g page else d1.headerBad g page)

/-- What a unit showed while it read the sub-block that a recompression replaces (R209, R214): whether it could be read. -/
def Dev.recompRead (d : Dev) (rc : Recomp) (o : SubObs) : Bool × Dev :=
  let cls := ((rc.merged.head?).map Req.cls).getD 0
  match d.headerRead rc.g rc.page cls o.header with
  | (none, d1) => (false, d1.headerBad rc.g rc.page)
  | (some _, d1) =>
    if o.firstOk then (true, d1)
    else if o.secondOk then (true, d1.raise {
      code := 0x3001, cls := 1, unit := unitChan (frameChan (locFrame rc.loc)), att := 2, akind := 1,
      addr := d1.devOffset rc.g (rc.page * 64 + 16 * rc.sub), grotto := some rc.g })
    else (false, d1.subBad rc.g rc.page rc.sub cls)

/-- A map-update record commits (R214): the merged writes complete. Where the sub-block or the header turned out unreadable, the
recompression ends without effect and its writes are taken up again. -/
def Dev.recordCommit (d : Dev) (g page : Nat) (obs : List SubObs := []) : Dev :=
  match d.recompOf g page with
  | none => d
  | some rc =>
    if rc.committed || d.pageWaits g page then d
    else
      let (ok, d0) := d.recompRead rc (obs.getD 0 {})
      if !ok then (d0.dropRecomp g page 3).after
      else
        let d1 := d0.onPages fun p => { p with recomps := p.recomps.map fun x =>
          if x.g = g ∧ x.page = page then { x with committed := true } else x }
        let fin (d : Dev) (r : Req) : Dev :=
          let data := rc.lines.getD (lineIn r.line % 16) 0
          let p := rc.header.poison.getLsbD (lineIn r.line)
          match r.op with
          | .write m _ wp => (d.ncKeep r (m == fullMask) data p).settle r (m == fullMask) wp data p
          | _ => (d.ncRefresh g r.line data p).answerWrite r
        ((rc.merged.foldl fin d1).bump 17).after

/-- The writes of a recompression are done (R214, R215): sump sectors, primary sectors, then the header; sectors that the stream no longer
uses are free, and later requests go on. They do not begin while a read of the page granted before still waits for its data. -/
def Dev.recompDone (d : Dev) (g page : Nat) : Dev :=
  match d.recompOf g page with
  | none => d
  | some rc =>
    if !rc.committed || d.pages.sreads.any (fun x => x.g == g && x.page == page) then d
    else
      let cls := ((rc.merged.head?).map Req.cls).getD 0
      let gone := rc.old.filter fun s => !rc.sumps.contains s
      let d0 := d.onPages fun p => { p with
        recomps := p.recomps.filter fun x => !(x.g == g && x.page == page), sump := p.sump.filter fun s => !gone.contains s }
      let d1 := (d0.layStream g page rc.sub (rc.header.desc rc.sub) rc.sumps rc.stream cls).layHeader g page rc.loc rc.header cls
      (d1.againAll 3 rc.later).after

/-! ### Frame waits, the zeroer, extents -/

/-- Whether the frame-wait limit applies to a request: not to instructions, nor to lines already accepted (R109). -/
def Req.expires (r : Req) : Bool :=
  match r.who with
  | .engine _ _ | .quiet => false
  | _ => true

/-- A waiting write reaches the frame-wait limit (R109). -/
def Dev.waitExpire (d : Dev) (index : Nat) : Dev :=
  match d.pages.frameWait[index]? with
  | none => d
  | some r =>
    if !r.expires then d
    else
      let x := d.grotto r.g
      let d1 := d.onPages fun p => { p with
        frameWait := p.frameWait.eraseIdx index ++ p.creditWait.take 1, creditWait := p.creditWait.drop 1 }
      let d2 := (d1.modGrotto r.g fun x => { x with discarded := true }).bump 15
      if x.discarded then d2.event unitMap 1 (d.devOffset r.g r.line) 0 (some r.g)
      else d2.raise { code := 0x8003, cls := 3, unit := unitMap, akind := 1, addr := d.devOffset r.g r.line, grotto := some r.g }

/-- The zeroer has written the zero mark into a pending frame (R97); waiting writes are served (R107). It waits while the channel is in idle
self-refresh (R132). -/
def Dev.zeroerDone (d : Dev) (c i : Nat) : Dev :=
  let p := d.pool c
  if ivMem i p.pending && d.frameOk (mkFrame c i) && (d.power.mode == .run || d.power.mode == .boot) && !d.asleep &&
      (d.chan c).sub != 2 && !d.frameWaits (mkFrame c i) then
    let d1 := (d.setPool c { zeroed := p.zeroed ++ [i], pending := ivErase i p.pending }).zeroFrame (mkFrame c i)
    let d2 := ((d1.bump 1339).bump (chCnt c 15) 64).charge c scrubCls 4096
    d2.after
  else d

/-- An offered extent lapses (R48, R641). -/
def Dev.offerLapse (d : Dev) (g dpa : Nat) : Dev :=
  let x := d.grotto g
  match x.attaches.find? x.owns with
  | none => d
  | some a =>
    match x.offered.find? fun e => a.base + e.1 * unitBytes == dpa with
    | none => d
    | some e =>
      let d1 := d.setGrotto g { x with offered := x.offered.erase e }
      (d1.event (unitLink x.ownerLink) 1 (d.devOffset g (e.1 * unitLines)) (x.ownerLd % 16 + e.2 * 2 ^ 32) (some g)).dcLog g .capacityReleased e

end Sys2Proof.Machine
end

