-- ==== Sys2Proof/Machine/QosOps.lean ====
section
/-!
DEFINITION. Deliverable bandwidth, admission and scaling of the bandwidth classes, windows and periods (04, 14).
-/
namespace Sys2Proof.Machine

/-- Deliverable bandwidth of a channel with a scrub reserve, in 0.25 GB/s units (R138). -/
def Chan.deliverableAt (x : Chan) (scrub : Nat) : Nat :=
  if x.state = 3 then (7 * x.speed * (x.interval - x.trfc) - scrub * 250 * x.interval) / (250 * max 1 x.interval) else 0
def Chan.deliverable (x : Chan) : Nat := x.deliverableAt x.scrub

/-- D: the sum over channels in service. -/
def Dev.deliverable (d : Dev) : Nat := ((List.range 16).map fun c => (d.chan c).deliverable).sum

def Dev.class (d : Dev) (c : Nat) : QClass := mgetD d.qos.classes c {}
def Dev.setClass (d : Dev) (c : Nat) (x : QClass) : Dev := d.onQos fun q => { q with classes := mset q.classes c x }

/-- Σ g_c. -/
def Dev.sumGuar (d : Dev) : Nat := ((List.range 16).map fun c => (d.class c).guar).sum

/-- Recompute the effective guarantees and publish D (R21, R505, R506). -/
def Dev.rescale (d : Dev) : Dev :=
  let bw := d.deliverable
  let sum := d.sumGuar
  let eff (g : Nat) : Nat := if sum ≤ bw then g else g * bw / sum
  let d1 := (List.range 16).foldl (fun (d : Dev) c =>
    let x := d.class c
    d.setClass c { x with eff := eff x.guar, atRisk := x.atRisk || decide (eff x.guar < x.guar) }) d
  let d2 := d1.onQos fun q => { q with bw := bw }
  let hit := ((List.range 16).map fun c => if eff (d.class c).guar < (d.class c).guar then 2 ^ c else 0).sum
  if hit = 0 then d2 else d2.event 0 0 0 (hit + bw % 65536 * 2 ^ 32)

/-- Recompute if D has changed. -/
def Dev.republish (d : Dev) : Dev := if d.deliverable = d.qos.bw then d else d.rescale

/-- Bytes of a class's budget in a window (R500), of the effective guarantee that held as it started (R505). -/
def QClass.budget (x : QClass) : Nat := 250 * x.cur

/-- A 1 µs window ends (R501, R503, R507): the classes that the environment saw backlogged, and those with a host request
above its latency target, are judged; charges start again, and the effective guarantees that were recomputed take effect. many: how many
host requests of each class were above the target, one where the list ends. -/
def Dev.windowEnd (d : Dev) (backlogged late : BitVec 16) (many : List Nat) : Dev :=
  let judged := d.power.mode == .run || d.power.mode == .doze
  let d1 := (List.range 16).foldl (fun (d : Dev) c =>
    let x := d.class c
    let slow := late.getLsbD c && x.target != 0
    let miss := judged && ((backlogged.getLsbD c && decide (x.charged < x.budget)) || slow)
    let d := d.setClass c { x with charged := 0, cur := x.eff, missedN := if miss then x.missedN + 1 else x.missedN }
    let d := if miss then d.bump (64 + 4 * c + 2) else d
    if slow then d.bump (64 + 4 * c + 3) (max 1 (many.getD c 1)) else d) d
  d1.onQos fun q => { q with windows := q.windows + 1, scrubUsed := [] }

/-- A period of 1,024 windows ends (R508). -/
def Dev.periodEnd (d : Dev) : Dev :=
  let d1 := (List.range 16).foldl (fun (d : Dev) c =>
    let x := d.class c
    let d := d.setClass c { x with missedN := 0, missed := x.missed || decide (x.thresh < x.missedN) }
    if x.thresh < x.missedN then
      let d := d.event 0 0 0 (c + x.missedN % 2048 * 65536)
      if x.notify then d.interrupt x.nLink x.nLd x.vector else d
    else d) d
  d1.onQos fun q => { q with windows := 0 }

end Sys2Proof.Machine
end

