-- ==== Sys2Proof/Machine/ChannelOps.lean ====
section
/-!
DEFINITION. DRAM channels: refresh, self-refresh, temperature, training, ranks and DIMMs that leave service, and the crawl
(04, 13).
-/
namespace Sys2Proof.Machine

/-- The postponement limit (R129): the largest n, at most 8 (4 while hot), with n × tRFC below the interval. -/
def Chan.limit (x : Chan) : Nat :=
  let top := if x.hot then 4 else 8
  min top ((x.interval - 1) / max 1 x.trfc)

/-- Logical ranks in service. -/
def Chan.ranksUp (x : Chan) : List Nat := (List.range x.ranks).filter fun r => !x.ranksOut.contains r

/-- A channel becomes or stops being hot at a refresh due point (R136, R128); a rank that owes more than the limit of its new rate receives
what it is owed (R129). -/
def Dev.applyHot (d : Dev) (c : Nat) : Dev :=
  let x := d.chan c
  match x.hotNext with
  | some h =>
    let y : Chan := { x with hot := h, hotNext := none, interval := if h then 975 else 1950 }
    (x.owed.foldl (fun (d : Dev) e => if y.limit < e.2 then d.issueOwed c e.1 else d) (d.setChan c y)).republish
  | none => d

/-- A refresh of a rank falls due (R128, R129, R134). It may be postponed while the rank has queued requests, here or as the environment
shows, and is owed while a row of the rank is repaired (R149). -/
def Dev.refresh (d : Dev) (c rank : Nat) (busy : Bool) : Dev :=
  let x0 := d.chan c
  if x0.state ≠ 3 ∨ x0.sub = 2 ∨ x0.sub = 3 ∨ !x0.ranksUp.contains rank ∨ !d.live then d
  else
    let d := d.applyHot c
    let x := d.chan c
    let owed := mgetD x.owed rank 0
    let put (x : Chan) (n : Nat) : Dev := d.setChan c { x with owed := mput x.owed 0 rank n }
    if !(busy || d.rankBusy c rank || d.rankMends c rank) ∨ x.sub = 1 then (put (x.closeRank rank) 0).bump (chCnt c 5) (owed + 1)
    else if owed < x.limit then (put x (owed + 1)).bump (chCnt c 6)
    else ((put (x.closeRank rank) 1).bump (chCnt c 5) owed).bump (chCnt c 6)

/-- The refresh floor forces a burst of eight (R130). -/
def Dev.floorTrip (d : Dev) (c rank : Nat) : Dev :=
  let x := d.chan c
  if x.state = 3 ∧ x.ranksUp.contains rank ∧ x.sub ≠ 2 ∧ x.sub ≠ 3 then
    ((d.setChan c { x.closeRank rank with owed := mput x.owed 0 rank 0, fault := x.fault ||| 0x80#8 }).bump (chCnt c 5) 8).raise
      { code := 0x100A, cls := 2, unit := unitChan c }
  else d

/-- Whether a channel has a request queued, or one that waits for its data (R131): a line, a sub-block, a page-map line. -/
def Dev.chanBusy (d : Dev) (c : Nat) : Bool :=
  let p := d.pages
  p.dreads.any (fun r => frameChan r.frame == c) || p.dwrites.any (fun r => frameChan r.frame == c) ||
    p.sreads.any (fun r => (d.galleryFrames r.g r.page (peLoc (d.entry r.g r.page))).any fun f => frameChan f == c) ||
    p.fills.any fun f => (d.mapHome f.lineIdx).any fun e => frameChan e.1 == c

/-- Issue every refresh that a channel is owed, and close its rows. -/
def Dev.settleRefresh (d : Dev) (c : Nat) : Dev :=
  let x := d.chan c
  let n := (x.owed.map (·.2)).sum
  let d1 := d.setChan c { x with owed := [], rows := [] }
  if n = 0 then d1 else d1.bump (chCnt c 5) n

/-- A channel that has been idle enters self-refresh after its owed refreshes (R131). -/
def Dev.idleRefresh (d : Dev) (c : Nat) : Dev :=
  let x := d.chan c
  if x.state = 3 ∧ x.sub = 0 ∧ d.power.mode = .run ∧ x.repair.isNone ∧ x.retrain.isEmpty ∧ !d.chanBusy c then
    let d1 := d.settleRefresh c
    (d1.setChan c { d1.chan c with sub := 2 }).bump (chCnt c 7)
  else d

/-- Scrub work owed has reached its bound: the channel leaves idle self-refresh (R132). -/
def Dev.scrubExit (d : Dev) (c : Nat) : Dev :=
  let x := d.chan c
  if x.sub = 2 ∧ d.power.mode = .run then d.setChan c { x with sub := 0 } else d

/-- A temperature reading of a channel (R135 to R137). -/
def Dev.tempRead (d : Dev) (c : Nat) (t : Int) (fast : Bool) : Dev :=
  let x := d.chan c
  if x.state ≠ 3 ∨ !d.live ∨ d.power.mode = .deep then d
  else
    let warm := decide (85 < t) || fast
    let y : Chan :=
      if warm then { x with temp := t, cool := 0, hotNext := if x.hot then none else some true }
      else if x.hot || x.hotNext == some true then
        let n := if t ≤ 82 then x.cool + 1 else 0
        { x with temp := t, cool := n, hotNext := if 2 ≤ n then (if x.hot then some false else none) else x.hotNext }
      else { x with temp := t }
    if 95 < t then
      let d1 := d.setChan c { y with over95 := true, fault := y.fault ||| 0x40#8 }
      if x.over95 then d1 else d1.raise { code := 0x100B, cls := 2, unit := unitChan c }
    else d.setChan c { y with over95 := false }

/-! ### What leaves service (R110, R142, R153) -/

/-- Write the dirty near-cache lines of a page that became lost to a new frame (R532). -/
def Dev.flushLost (d : Dev) (g page : Nat) : Dev :=
  (d.slices.nc.filter fun e => keyGrotto e.1 == g && pageOf (keyLine e.1) == page && e.2.dirty).foldl (fun (d : Dev) e =>
    (d.ncDrop g (keyLine e.1)).victimWrite g (keyLine e.1) e.2.data e.2.poison e.2.cls) d

/-- A page whose backing is gone: rebuilt from the partner, or lost (R153, R457). -/
def Dev.damaged (d : Dev) (g page : Nat) : Dev :=
  let d0 := match d.moveOf g page with
    | some m => (d.abandon m).againAll 3 m.held
    | none => d
  let d1 := match d0.promoOf g page with
    | some p => (((d0.onPages fun q => { q with promos := q.promos.filter fun x => !(x.g == g && x.page == page) }).hold g
        (frameChan p.frame) (-1)).freeFrame p.frame).againAll 3 p.held
    | none => d0
  let d2 := d1.dropRecomp g page 3
  if d2.covered g then d2.rebuildPage g page none
  else
    let w := d2.entry g page
    let d3 := match peView w with
      | 1 => d2.hold g (frameChan (peLoc w)) (-1)
      | 2 => d2.freeGallery g page (peLoc w)
      | _ => d2
    (d3.turn g page 4 0 (lostLoc w)).flushLost g page

/-- Whether what backs a page lies in frames that satisfy a test. -/
def Dev.liesIn (d : Dev) (g page : Nat) (p : Nat → Bool) : Bool :=
  let w := d.entry g page
  match peView w with
  | 1 => p (peLoc w)
  | 2 => (d.galleryFrames g page (peLoc w)).any p
  | _ => false

/-- Take frames out of service: the pages on them are damaged, D and P fall (R110, R153). n frames are lost. -/
def Dev.loseFrames (d : Dev) (c n : Nat) (p : Nat → Bool) : Dev :=
  let gone := d.pages.area.filterMap fun e =>
    (d.grottoAt e.1).bind fun g =>
      let page := e.1 - (d.grotto g).mapBase
      if d.liesIn g page p then some (g, page) else none
  let d0 := d.onPages fun q => { q with dwrites := q.dwrites.filter fun x => !p x.frame }
  let d1 := (gone.foldl (fun d gp => d.damaged gp.1 gp.2) d0).onMem fun m => { m with lost := m.lost + n }
  let d2 := d1.raise { code := 0x1009, cls := 2, unit := unitChan c }
  let d3 := if d2.dataFrames < d2.sumReserve then d2.raise { code := 0x8004, cls := 2, unit := 0 } else d2
  d3.republish

/-- A channel fails (R119): neither of its slots is in service (R154). The argument marks slots left out (R142). -/
def Dev.failChannel (d : Dev) (c : Nat) (out : BitVec 8 := 0) : Dev :=
  let x := d.chan c
  if x.state = 4 then d
  else
    let up := x.ranksUp.length
    let d1 := d.setChan c { x with
      state := 4, sub := 0, repair := none, repairNext := [], retrain := [], crawling := false, in0 := false, in1 := false,
      owed := [], rows := [], inOrder := [], drain := false, fault := x.fault ||| out }
    (d1.loseFrames c (x.frames / max 1 x.ranks * up) fun f => frameChan f == c).after

/-- Ranks of a slot: slot 0 holds the lower half where two DIMMs are fitted. -/
def Chan.slotRanks (x : Chan) (slot : Nat) : List Nat :=
  let per := match x.slot0 with
    | some k => dimmRanks k
    | none => 0
  (List.range per).map (slot * per + ·)

/-- Ranks leave service (R142): a DIMM that has lost all of its ranks is out, and with the last one the channel fails. -/
def Dev.loseRanks (d : Dev) (c : Nat) (rs : List Nat) : Dev :=
  let x := d.chan c
  let more := rs.filter fun r => x.ranksUp.contains r
  if more.isEmpty then d
  else if x.ranksUp.all fun r => rs.contains r then d.failChannel c ((if x.in0 then 0x10#8 else 0) ||| (if x.in1 then 0x20#8 else 0))
  else
    let out := x.ranksOut ++ more
    let gone0 := x.in0 && (x.slotRanks 0).all out.contains
    let gone1 := x.in1 && (x.slotRanks 1).all out.contains
    let d1 := d.setChan c { x with
      ranksOut := out, retrain := x.retrain.filter (fun e => !more.contains e.1), owed := mkeep x.owed fun r => !more.contains r, in0 := x.in0 && !gone0, in1 := x.in1 && !gone1,
      fault := x.fault ||| (if gone0 then 0x10#8 else 0) ||| (if gone1 then 0x20#8 else 0) }
    (d1.loseFrames c (x.frames / max 1 x.ranks * more.length) fun f =>
      frameChan f == c && more.contains (rankOf x.ranks (frameIdx f))).after

/-- A DIMM leaves service (R148, R142). -/
def Dev.loseDimm (d : Dev) (c slot : Nat) : Dev :=
  let x := d.chan c
  d.loseRanks c (x.slotRanks slot)

/-- A CA parity error (R148): the command is sent again; one that fails again leaves its DIMM out. -/
def Dev.caParity (d : Dev) (c slot : Nat) (second : Bool) : Dev :=
  let x := d.chan c
  if x.state ≠ 3 ∨ !d.live then d
  else
    let d1 := (d.setChan c { x with fault := x.fault ||| 0x01#8 }).bump (chCnt c 12)
    if second then d1.loseDimm c slot else d1.raise { code := 0x1007, cls := 1, unit := unitChan c, att := 2 }

/-- Periodic recalibration of a rank (R146), or its retrain where the drift is too great (R147). -/
def Dev.recalibrate (d : Dev) (c rank : Nat) (ok : Bool) : Dev :=
  let x := d.chan c
  if x.state ≠ 3 ∨ !x.ranksUp.contains rank ∨ x.sub = 2 ∨ x.sub = 3 ∨ !d.awake then d
  else if ok then d.bump (chCnt c 13)
  else if x.retrain.any fun e => e.1 == rank then d
  else ((d.setChan c { x.closeRank rank with retrain := x.retrain ++ [(rank, 0)], fault := x.fault ||| 0x08#8 }).bump (chCnt c 13)).raise
    { code := 0x1008, cls := 1, unit := unitChan c, att := 1, detail := rank * 2 ^ 55 }

/-- Training writes its patterns into the training frames, and nothing else (R141). -/
def Dev.withPatterns (d : Dev) (c : Nat) : Dev :=
  { d.setChan c { d.chan c with patterns := some d.freeCtr } with freeCtr := d.freeCtr + 1 }

/-- A rank retrain ends (R147): requests to the rank go on, and firmware owes the channel's record its adjusted settings. -/
def Dev.retrainDone (d : Dev) (c rank : Nat) (ok : Bool) : Dev :=
  let x := d.chan c
  match x.retrain.find? fun e => e.1 == rank with
  | none => d
  | some (_, n) =>
    let rest := x.retrain.filter fun e => e.1 != rank
    if ok then (((d.setChan c { x with retrain := rest }).withPatterns c).owes 5 c).after
    else if n = 0 then d.setChan c { x with retrain := rest ++ [(rank, 1)] }
    else (d.setChan c { x with retrain := rest }).loseRanks c [rank]

/-! ### Training (R115 to R119, R140 to R145) -/

/-- Whether two DIMMs may share a channel (R117). -/
def sameDimm (a b : Dimm) : Bool :=
  a.part == b.part && a.mrdimm == b.mrdimm && a.pkgRanks == b.pkgRanks && a.stack == b.stack

/-- Whether a DIMM is of a supported make (R115, R116). -/
def goodDimm (a : Dimm) : Bool :=
  a.width == 4 && a.checkDev == 2 && [16, 24, 32].contains a.density && [1, 2].contains a.pkgRanks && [1, 2, 4].contains a.stack

/-- Speeds of R117, fastest first, in MT/s. -/
def speeds : List Nat := [8800, 8000, 7200, 6400, 5600, 4800]

/-- The speed of a population, none where it is excluded. -/
def popSpeed : Option Dimm → Option Dimm → Option Nat
  | some a, none => if goodDimm a then speeds.find? (· ≤ a.speed) else none
  | some a, some b => if goodDimm a && goodDimm b && sameDimm a b then speeds.find? (fun v => decide (v ≤ 6400 ∧ v ≤ a.speed ∧ v ≤ b.speed)) else none
  | _, _ => none

/-- Frames of one logical rank: two subchannels of eight data devices (R116). -/
def rankFrames (a : Dimm) : Nat := a.density * 2 ^ 19

/-- Whether this BOOT runs full training (R140, R535). -/
def Dev.coldStart (d : Dev) : Bool := d.power.bootKind == 0 || d.power.bootKind == 3

/-- The end of training with no channel in service (R118): a DEGRADED fault; BOOT does not end. -/
def Dev.trainEnd (d : Dev) : Dev :=
  let done := if d.coldStart then (List.range 16).all fun c => (d.chan c).checked && (d.chan c).state != 2
    else d.chans.all fun e => e.2.state != 2
  if done && d.chans.all (fun e => e.2.state != 3) then d.raise { code := 0x1009, cls := 2, unit := 0 } else d

/-- Firmware reads the SPD of a channel's DIMMs. In a BOOT from OFF the channel is absent, excluded, or goes on to training (R117 to R119); in a
fast boot identities other than the record's make the record unusable, so that the channel is trained again (R144, R145). -/
def Dev.spdRead (d : Dev) (c : Nat) (a? b? : Option Dimm) : Dev :=
  let x := d.chan c
  if d.power.mode ≠ .boot ∨ 16 ≤ c ∨ x.checked then d
  else if d.coldStart then
    if x.state ≠ 0 then d
    else match a?, b? with
      | none, none => d.setChan c { x with checked := true }
      | _, _ =>
        match popSpeed a? b?, a? with
        | some v, some a =>
          let n := if b?.isSome then 2 * dimmRanks a else dimmRanks a
          d.setChan c { x with
            state := 2, sub := 0, slot0 := a?, slot1 := b?, ranks := n, speed := v, trfc := a.trfc, frames := n * rankFrames a }
        | _, _ => (d.setChan c { x with state := 1, checked := true, slot0 := a?, slot1 := b? }).raise
            { code := 0x1009, cls := 2, unit := unitChan c }
  else if x.state = 3 ∧ (a?, b?) ≠ x.spd then
    ((d.setChan c { x with state := 2, recordOk := false }).onPower fun p => { p with bootKind := 2 }).republish
  else d

/-- A channel has been trained (R140 to R143): its patterns stand in its training frames, and firmware owes its record. -/
def Dev.service (d : Dev) (c : Nat) : Dev :=
  let x := d.chan c
  (((d.setChan c { x with state := 3, sub := 0, recordOk := true, checked := true, spd := (x.slot0, x.slot1) }).withPatterns c).owes 5 c).republish

/-- Full training of a channel ends (R119, R142, R151): the soft repairs of the repair map have been applied; ranks that failed twice are
out, a DIMM with all of its ranks, and with every rank the channel fails. -/
def Dev.fullTrained (d : Dev) (c : Nat) (badRanks soft : List Nat) : Dev :=
  let x := d.chan c
  let bad := (List.range x.ranks).filter fun k => badRanks.contains k
  let out0 := (x.slotRanks 0).all bad.contains
  let out1 := x.slot1.isSome && (x.slotRanks 1).all bad.contains
  let y : Chan := { x with
    ranksOut := bad, softBoot := soft.length, usedRepair := soft, in0 := !out0, in1 := x.slot1.isSome && !out1,
    fault := (if out0 then 0x10#8 else 0) ||| (if out1 then 0x20#8 else 0) }
  let d1 := if bad.length = x.ranks then d.setChan c { y with state := 4, checked := true } else (d.setChan c y).service c
  if bad.isEmpty then d1 else d1.raise { code := 0x1009, cls := 2, unit := unitChan c }

/-- A retrain in a fast boot ends (R145): the channel keeps what it holds, or loses it with the ranks that fail. The DIMMs found take the place
of the old ones where they make the same channel; otherwise it fails. -/
def Dev.retrained (d : Dev) (c : Nat) (r : TrainReport) : Dev :=
  let x := d.chan c
  let same (old new : Option Dimm) : Bool := match old, new with
    | some a, some b => sameDimm a b && a.density == b.density
    | none, none => true
    | _, _ => false
  let told := r.slot0.isSome || r.slot1.isSome
  if told && !(same x.slot0 r.slot0 && same x.slot1 r.slot1) then d.failChannel c
  else
    let y : Chan := if told then { x with slot0 := r.slot0, slot1 := r.slot1 } else x
    ((d.setChan c y).service c).loseRanks c (y.ranksUp.filter fun k => r.badRanks.contains k)

/-- TRAINING_COMPLETE. In a fast boot a channel that came up from its record and is named here has failed its read-only check (R145). -/
def Dev.trained (d : Dev) (c : Nat) (r : TrainReport) (soft : List Nat) : Dev :=
  if d.power.mode ≠ .boot ∨ 16 ≤ c ∨ (d.chan c).checked = true ∨ !d.fwUp then d
  else if d.coldStart then
    if d.power.trstHigh then d
    else
      let d1 := d.spdRead c r.slot0 r.slot1
      (if (d1.chan c).state = 2 then d1.fullTrained c r.badRanks soft else d1).trainEnd
  else if (d.chan c).state = 2 ∨ (d.chan c).state = 3 then
    ((d.onPower fun p => { p with bootKind := 2 }).retrained c r).trainEnd
  else d

/-! ### The crawl (R481 to R484) -/

/-- A pass starts (R481): 24 h after the one before. -/
def Dev.crawlStart (d : Dev) (c : Nat) : Dev :=
  let x := d.chan c
  let due := match x.crawlStart with
    | some t => decide (t + 86399999 ≤ d.timeMs)
    | none => true
  if x.state = 3 ∧ !x.crawling ∧ d.power.mode = .run ∧ (due = true ∨ x.owedWork = true) then
    d.setChan c { x with crawling := true, crawlDone := 0, crawlStart := some d.timeMs, owedWork := false }
  else d

/-- Lines of one bank of one subchannel of a rank (R539). -/
def Chan.bankLines (x : Chan) : Nat := x.frames * 64 / (max 1 x.ranks * 64)

/-- The lost bank that a line lies in. -/
def Dev.bankOf (d : Dev) (f n : Nat) : Option Bank :=
  let k := d.coord f n
  (d.chan (frameChan f)).lostBanks.find? fun b => b.sub == k.sub && b.rank == k.rank && b.bg == k.bg && b.bank == k.bank

/-- The crawl reaches a line of a lost bank (R484, R541): poison over a line in use, the zero mark elsewhere; the bank leaves
the lost state when every line of it is done. -/
def Dev.crawlLost (d : Dev) (f n : Nat) (b : Bank) : Dev :=
  let c := frameChan f
  let put (d : Dev) (x : DLine) : Dev := d.onMem fun m => { m with dram := mput m.dram {} (dramKey f n) x }
  let d1 := match d.pageAt f with
    | some (g, page) => (put d .poisoned).poisonList g (page * 64 + n) 2
    | none => put d (if (d.galleryLine f n).isSome then .poisoned else {})
  let x := d1.chan c
  let lines := x.swept ++ [dramKey f n]
  let mine (k : Nat) : Bool := d1.bankOf (k / 64) (k % 64) == some b
  let d2 :=
    if x.bankLines ≤ ((x.cleanLines ++ lines).filter mine).length then
      (d1.setChan c { x with
        lostBanks := x.lostBanks.filter (· != b), cleanLines := x.cleanLines.filter fun k => !mine k,
        swept := lines.filter fun k => !mine k }).retrySlots
    else d1.setChan c { x with swept := lines }
  d2.bump 1340

/-- Whether both readings of a line fail. -/
def lasting (o : LineObs) (errs : List Nat) : Bool :=
  match judge errs o.first, judge errs o.second with
  | .bad, .bad => true
  | _, _ => false

/-- The crawl has read a line twice in vain: both errors of the line and its reads are counted (R155, R501). -/
def Dev.crawlBad (d : Dev) (f n : Nat) : Dev := (d.countRead f n scrubCls).bump (chCnt (frameChan f) 11)

/-- What the crawl finds in a line (R482, R483). -/
def Dev.crawlFind (d : Dev) (f n : Nat) (o : LineObs) : Dev :=
  match d.pageAt f with
  | some (g, page) =>
    let line := page * 64 + n
    if (d.ncGet g line).any (·.dirty) then d
    else if lasting o (d.dline f n).errs && d.covered g then
      let d1 := (d.crawlBad f n).raise {
        code := 0x1002, cls := 1, unit := unitChan (frameChan f), att := 2, akind := 3, addr := f, grotto := some g,
        detail := dramDetail (frameChan f) (d.coord f n) 0 }
      d1.partnerRead { who := .quiet, src := 160, g := g, line := line, op := .victim 0 false, cls := scrubCls }
    else (d.dramRead f n o (some (g, line)) scrubCls).2
  | none =>
    match d.galleryLine f n with
    | some (g, page, sub) =>
      if !(lasting o (d.dline f n).errs) then (d.dramRead f n o none scrubCls).2
      else
        let d1 := if d.covered g then d.crawlBad f n else (d.dramRead f n o none scrubCls).2
        match sub with
        | none => d1.headerBad g page
        | some k => d1.subBad g page k scrubCls
    | none =>
      if frameIdx f < d.resvFrames then
        (if lasting o (d.dline f n).errs then
            match d.mapLineAt f n with
            | some l => (d.crawlBad f n).mapLineBad l
            | none => (d.crawlBad f n).raise {
              code := 0x1003, cls := 3, unit := unitChan (frameChan f), att := 2, akind := 3, addr := f,
              detail := dramDetail (frameChan f) (d.coord f n) 0 }
          else (d.dramRead f n o none scrubCls).2)
      else if lasting o (d.dline f n).errs then
        let p := d.pool (frameChan f)
        let d1 := (d.crawlBad f n).setPool (frameChan f) { zeroed := p.zeroed.filter (· != frameIdx f), pending := ivErase (frameIdx f) p.pending }
        (d1.onMem fun m => { m with retired := m.retired.filter (· != f) ++ [f] }).raise {
          code := 0x1006, cls := 1, unit := unitChan (frameChan f), att := 2, akind := 3, addr := f,
          detail := dramDetail (frameChan f) (d.coord f n) 0 }
      else (d.dramRead f n o none scrubCls).2

/-- Whether a line is the last of its channel's pass: only retired frames follow (R481). -/
def Dev.passEnds (d : Dev) (c i n : Nat) : Bool :=
  n == 63 && decide ((d.chan c).frames ≤ i + 1 + (d.mem.retired.filter fun f => frameChan f == c && decide (i < frameIdx f)).eraseDups.length)

/-- The crawl visits a line, in frame order; a pass ends with the last line (R481). -/
def Dev.crawl (d : Dev) (c i n : Nat) (o : LineObs) : Dev :=
  let f := mkFrame c i
  let x := d.chan c
  if x.state ≠ 3 ∨ d.power.mode ≠ .run ∨ x.sub = 2 ∨ x.frames ≤ i ∨ 64 ≤ n ∨ d.lineWaits f n then d
  else
    match d.bankOf f n with
    | some b => if !d.inLostBank f n then d else (d.crawlLost f n b).after
    | none =>
      if !x.crawling ∨ i * 64 + n < x.crawlDone ∨ d.mem.retired.contains f then d
      else
        let before := d.cnt
        let d1 := d.crawlFind f n o
        let d2 := d1.bump 1336
        let d3 := if mgetD d1.cnt.cnt (chCnt c 10) 0 = mgetD before.cnt (chCnt c 10) 0 then d2 else d2.bump 1337
        let y := d3.chan c
        let last := d.passEnds c i n
        let d4 := d3.setChan c { y with crawlDone := i * 64 + n + 1, crawling := !last }
        ((if last then d4.bump 1338 else d4)).after

end Sys2Proof.Machine
end

