-- ==== Sys2Proof/Machine/MoveOps.lean ====
section
/-!
DEFINITION. Flowstone's moves (R246 to R262): how one starts, copies, holds, commits or is abandoned; the sweep and epochs
(R237 to R245).
-/
namespace Sys2Proof.Machine

/-! ### Heap sectors (R196, R250) -/

/-- Whether a sector of a heap frame is free. -/
def HeapFrame.isFree (h : HeapFrame) (s : Nat) : Bool := !h.data.getLsbD s && mgetD h.heads s 0 == 0

/-- Starts of runs of n free sectors in one heap frame. -/
def HeapFrame.runs (h : HeapFrame) (n : Nat) : List Nat :=
  (List.range (9 - n)).filter fun s => (List.range n).all fun i => h.isFree (s + i)

/-- The heap frames of a grotto on a channel. -/
def Dev.heapsOn (d : Dev) (g c : Nat) : AMap HeapFrame :=
  d.pages.heaps.filter fun e => e.2.grotto == g && frameChan e.1 == c && d.frameOk e.1

/-- Reserve a run of n sectors on a channel, in a heap frame of the grotto or a new one: its first sector number. -/
def Dev.takeRun (d : Dev) (g c n : Nat) : Option (Nat × Dev) :=
  let mark (d : Dev) (f s : Nat) : Dev := d.modHeap f fun h =>
    { h with data := (List.range n).foldl (fun (m : BitVec 8) i => m ||| (1#8 <<< (s + i))) h.data }
  let can := (d.heapsOn g c).flatMap fun e => (e.2.runs n).map fun s => (e.1, s)
  if can.isEmpty then
    match d.takeFrame g (· == c) with
    | some (f, d1) => some (8 * f, mark (d1.onPages fun p => { p with heaps := mset p.heaps f { grotto := g } }) f 0)
    | none => none
  else
    let (i, d1) := d.choose can.length
    match can[i]? with
    | some (f, s) => some (8 * f + s, mark d1 f s)
    | none => none

/-- Reserve a header slot on a channel: in a header sector of the grotto with a free slot, or in a free sector. -/
def Dev.takeHead (d : Dev) (g c : Nat) : Option (Nat × Dev) :=
  let slots := (d.heapsOn g c).flatMap fun e => e.2.heads.flatMap fun h =>
    (List.range 8).filterMap fun k => if h.2.getLsbD k then none else some (e.1, h.1, k)
  let put (d : Dev) (f s k : Nat) : Dev := d.modHeap f fun h =>
    { h with heads := mset h.heads s (mgetD h.heads s 0 ||| (1#8 <<< k)) }
  if slots.isEmpty then
    match d.takeRun g c 1 with
    | some (sec, d1) =>
      let d2 := d1.modHeap (sec / 8) fun h => { h with data := h.data &&& ~~~(1#8 <<< (sec % 8)) }
      some (sec * 8, put d2 (sec / 8) (sec % 8) 0)
    | none => none
  else
    let (i, d1) := d.choose slots.length
    match slots[i]? with
    | some (f, s, k) => some ((f * 8 + s) * 8 + k, put d1 f s k)
    | none => none

/-- Reserve one header slot and 7 primary sectors, as runs of 4 and 3 that hold any four sub-blocks (R250, log 15). -/
def Dev.takeGallery (d : Dev) (g c : Nat) : Option (List Nat × Nat × Dev) := do
  let (a, d1) ← d.takeRun g c 4
  let (b, d2) ← d1.takeRun g c 3
  let (h, d3) ← d2.takeHead g c
  return ([a, a + 1, a + 2, a + 3, b, b + 1, b + 2], h, d3)

/-! ### Starting a move -/

/-- How an attempt to start a move ends. -/
inductive MoveStart where
  | started (d : Dev)
  | refused (status : Nat)
  | busy

/-- A mover that is free and not fenced (R250, R256). -/
def Dev.freeMover (d : Dev) : Option Nat :=
  (List.range 16).find? fun m => !(d.pages.moves.any fun x => x.mover == m) && !d.faults.fenced.contains (unitMover m)

/-- Bytes that movers may spend in a window (R249): the budget, under an eighth of the deliverable bandwidth. -/
def Dev.migCeiling (d : Dev) : Nat := min (d.flow.migBud * 250) (d.qos.bw * 250 / 8)

/-- Where a move goes, chosen by its kind and the page's state; 0x0104 where they do not suit each other. -/
structure MoveAsk where
  kind : MoveKind
  g    : Nat
  page : Nat
  gen  : BitVec 8
  chan : Option Nat := none
  port : Nat := 0
  policy : Bool := false

def MoveAsk.suits (a : MoveAsk) (st : Nat) : Bool :=
  match a.kind with
  | .promote => st == 2 || st == 3
  | .demote => st == 1
  | .rewrite => st == 2
  | .relocate => st == 1
  | .spill => st == 1 || st == 2

/-- The channel on which a move of a page takes heap sectors (R250). -/
def Dev.heapChan (d : Dev) (g page : Nat) : Nat :=
  let x := d.grotto g
  let w := d.entry g page
  let c := if peView w = 1 then frameChan (peLoc w) else frameChan (locFrame (peLoc w))
  if x.chanMask.getLsbD c && (d.chan c).state == 3 then c
  else (((rotation x.allocPtr).find? fun k => x.chanMask.getLsbD k && (d.chan k).state == 3)).getD c

/-- The destination of a move, or the status with which it ends without effect (R247, R250, R332, R333). -/
def Dev.moveDst (d : Dev) (a : MoveAsk) : Except Nat (Dst × Dev) :=
  match a.kind with
  | .promote =>
    if d.mayPromote a.g then
      match d.takeFrame a.g with
      | some (f, d1) => .ok (.frame f, d1)
      | none => .error 0x0105
    else .error 0x0105
  | .relocate =>
    let ok (c : Nat) : Bool := match a.chan with
      | some k => c == k
      | none => true
    match d.takeFrame a.g ok with
    | some (f, d1) => .ok (.frame f, d1)
    | none => .error 0x0105
  | .demote | .rewrite =>
    let c := d.heapChan a.g a.page
    match d.takeGallery a.g c with
    | some (ss, h, d1) => .ok (.gallery c ss h, d1)
    | none => .error 0x0105
  | .spill => if d.maySpill a.g a.port then .ok (.guest a.port none, d) else .error 0x0108

/-- Movers read or write n bytes (R249, R510). -/
def Dev.moverBytes (d : Dev) (n : Nat) : Dev := (d.onFlow fun f => { f with migUsed := f.migUsed + n }).bump 1317 n

/-- Bytes of a gallery: its header and its sectors. -/
def Header.bytes (h : Header) : Nat := 64 + 512 * (h.primary + h.sump)

/-- Bytes that a mover reads of a page: 64 lines, or a gallery. -/
def Dev.sourceBytes (d : Dev) (g page : Nat) : Nat :=
  if peState (d.entry g page) = 2 then ((d.galleryOf g page).map Header.bytes).getD 64 else 4096

/-- Start a move (R246, R250): the entry becomes moving at the next generation and the mover takes its destination. -/
def Dev.startMove (d : Dev) (a : MoveAsk) (issuer : Option (Nat × BitVec 32)) : MoveStart :=
  let w := d.entry a.g a.page
  if (d.moveOf a.g a.page).isSome ∨ (d.promoOf a.g a.page).isSome ∨ (d.recompOf a.g a.page).isSome ∨ !peCommit w ∨
      peGen w ≠ a.gen ∨ !a.suits (peState w) ∨ d.rebuilding a.g a.page then .refused 0x0104
  else
    match d.freeMover with
    | none => .busy
    | some m =>
      if d.migCeiling ≤ d.flow.migUsed then .busy
      else
        match d.moveDst a with
        | .error st => .refused st
        | .ok (dst, d1) =>
          let d2 := d1.turn a.g a.page 5 (peState w) (peLoc w)
          let mv : Move := { mover := m, issuer := issuer, kind := a.kind, g := a.g, page := a.page, dst := dst, policy := a.policy }
          let d3 := (d2.onPages fun p => { p with moves := p.moves ++ [mv] }).moverBytes (d.sourceBytes a.g a.page)
          let ask (d : Dev) (port : Nat) (msg : Nat → EvMsg) (line : Nat) : Dev :=
            let (tag, d1) := d.evTag port
            let far : FarReq := {
              port := port, tag := tag, page := some (a.g, a.page),
              req := { who := .quiet, src := 144 + m, g := a.g, line := line, op := .again, cls := d.flow.cls } }
            (d1.onPages fun p => { p with fars := p.fars ++ [far] }).evSend port (msg tag)
          match a.kind, peState w with
          | .spill, _ => .started (ask d3 a.port (fun t => .guestRequest t) (a.page * 64))
          | .promote, 3 =>
            let port := remotePort w
            let d4 := (List.range 64).foldl (fun d n => ask d port (fun t => .guestRead t (remoteHandle w) n) (a.page * 64 + n)) d3
            .started (d4.setMove { mv with acks := 64 })
          | _, _ => .started d3

/-- Whether a plan still stands when its turn comes (R243): a promotion by the built-in program, and a demotion of Flowstone's own while writes
wait for frames. -/
def Dev.planStands (d : Dev) (p : Plan) : Bool :=
  p.forced || match p.why with
    | .policy => p.kind != .promote || d.mayPromote p.g
    | .pressure => !d.pages.frameWait.isEmpty && decide ((d.grotto p.g).reserve < (d.grotto p.g).used)
    | .compaction => true

/-- The start of the plans that wait, forced ones first, compaction last (R248, R249). -/
def Dev.startPlan (d : Dev) (p : Plan) : Dev × Bool :=
  if !d.planStands p then (d, true)
  else
  let a : MoveAsk := {
    kind := if p.forced ∧ peState (d.entry p.g p.page) = 2 then .rewrite else p.kind,
    g := p.g, page := p.page, gen := if p.forced then peGen (d.entry p.g p.page) else p.gen, chan := p.chan, port := p.port,
    policy := !p.forced && p.why == .policy }
  match d.startMove a none with
  | .started d1 => (if p.why = .pressure then d1.bump 1318 else d1, true)
  | .refused 0x0104 => (d.bump 1313, true)
  | .refused 0x0105 => (d.bump 1314, true)
  | .refused _ => (d, true)
  | .busy => (d, false)

def Dev.startPlans (d : Dev) : Nat → Dev
  | 0 => d
  | n + 1 =>
    let ps := d.pages.plans
    match (match ps.find? (·.forced) with
      | some p => some p
      | none => ps.head?) with
    | none => d
    | some p =>
      let (d1, done) := d.startPlan p
      if done then (d1.onPages fun q => { q with plans := q.plans.erase p }).startPlans n else d

/-! ### Copying -/

/-- A line of a page as a mover reads it (R250, R254): the near cache's, or the source's, which for a warm page is what its gallery reads
as; data and poison. -/
def Dev.moverLine (d : Dev) (g page n : Nat) (x : Option Contents := none) (o : LineObs := {}) : LineData × Bool × Dev :=
  match d.ncLook g (page * 64 + n) with
  | (some y, d1) => (y.data, y.poison, d1)
  | (none, d1) =>
    match x with
    | some c => let (y, p) := c.line n; (y, p, d1)
    | none =>
      match d1.pageRead g (page * 64 + n) d.flow.cls o with
      | (.data y p, d2) => (y, p, d2)
      | (_, d2) => (0, true, d2)

/-- All 64 lines of a page. -/
def Dev.moverLines (d : Dev) (g page : Nat) (x : Option Contents) (lo : AMap LineObs := []) : List (LineData × Bool) × Dev :=
  (List.range 64).foldl (fun (acc : List (LineData × Bool) × Dev) n =>
    let (y, p, d1) := acc.2.moverLine g page n x (mgetD lo n {})
    (acc.1 ++ [(y, p)], d1)) ([], d)

/-- Whether a line of a page is in D or locked, so that a mover's read of it waits (R175, R254). -/
def Dev.pageLocked (d : Dev) (g page : Nat) : Bool := (List.range 64).any fun n => d.locked g (page * 64 + n)

/-- Place sub-blocks into runs of 3 and 4 sectors, longest first (log 15): the first sector of each. -/
def placeRuns (counts : List Nat) (a b : Nat) : List Nat :=
  let order := [3, 2, 1].flatMap fun k => (List.range counts.length).filter fun i => (counts[i]?).getD 0 == k
  let put (st : Nat × Nat × List (Nat × Nat)) (i : Nat) : Nat × Nat × List (Nat × Nat) :=
    let (ua, ub, acc) := st
    let k := (counts[i]?).getD 0
    if ub + k ≤ 3 then (ua, ub + k, acc ++ [(i, b + ub)]) else (ua + k, ub, acc ++ [(i, a + ua)])
  let (_, _, placed) := order.foldl put (0, 0, [])
  (List.range counts.length).map fun i => ((placed.find? fun e => e.1 == i).map (·.2)).getD 0

/-- The gallery of a page (R195 to R198), its header and streams: none where it would need more than 7 primary sectors. -/
def Dev.packPage (d : Dev) (g page : Nat) (gen : BitVec 8) (ls : List (LineData × Bool)) (ss : List Nat) : Option (Header × List (List Byte)) :=
  let level := (d.grotto g).level
  let subs := (List.range 4).map fun k => packSub level ((ls.drop (16 * k)).take 16)
  let counts := subs.map (·.1.count)
  if 7 < counts.sum then none
  else
    let firsts := placeRuns counts (ss.getD 0 0) (ss.getD 4 0)
    some ({
      page := page, gen := gen, level := level, primary := counts.sum,
      poison := BitVec.ofNat 64 (((List.range 64).map fun n => if (ls.getD n (0, false)).2 then 2 ^ n else 0).sum),
      descs := (List.range 4).map fun k => let s := (subs.getD k ({}, [])).1; { s with first := if s.zero then 0 else firsts.getD k 0 } },
      subs.map (·.2))

/-- End a move without its effect (R247, R253), with a status for its instruction; its held requests go on. -/
def Dev.endMove (d : Dev) (m : Move) (status : Nat) : Dev :=
  let d1 := (d.revert m).moveResult m status
  let d2 := if status = 0x0107 then d1.bump 1312 else d1
  (d2.againAll 3 m.held).after

/-- Free the source of a move once it has committed (R250). -/
def Dev.freeSource (d : Dev) (g page src loc : Nat) : Dev :=
  match src with
  | 1 => (d.hold g (frameChan loc) (-1)).freeFrame loc
  | 2 => d.freeGallery g page loc
  | 3 => d.evSend (bitsOf loc 33 33) (.guestRelease (BitVec.ofNat 33 loc))
  | _ => d

/-- Mark every near-cache line of a page clean (R255). -/
def Dev.cleanPage (d : Dev) (g page : Nat) : Dev :=
  let mine (k : Nat) : Bool := keyGrotto k == g && pageOf (keyLine k) == page
  d.onSlices fun s => { s with
    nc := s.nc.map fun e => (e.1, if mine e.1 then { e.2 with dirty := false } else e.2), dirtied := s.dirtied.filter (!mine ·) }

/-- The counter of a kind of move (R510). -/
def moveCounter : MoveKind → Nat
  | .promote => 1307
  | .demote => 1308
  | .rewrite => 1309
  | .relocate => 1310
  | .spill => 1311

/-- Finish a committed move: source freed, instruction told, held requests taken against the new state. -/
def Dev.moveDone (d : Dev) (m : Move) (src loc : Nat) : Dev :=
  let d1 := (d.freeSource m.g m.page src loc).dropMove m
  let d2 := (((d1.moveResult m 0).bump (moveCounter m.kind)).bump (1320 + m.mover))
  (d2.againAll 3 m.held).after

/-- Send lines of a page, those of a mask, to a guest frame (R260). -/
def Dev.shipLines (d : Dev) (m : Move) (port : Nat) (h : BitVec 33) (mask : BitVec 64) (ls : List (LineData × Bool)) : Dev :=
  (List.range 64).foldl (fun (d : Dev) n =>
    if mask.getLsbD n then
      let (y, p) := ls.getD n (0, true)
      let (tag, d2) := d.evTag port
      let far : FarReq := {
        port := port, tag := tag, place := true, page := some (m.g, m.page),
        req := { who := .quiet, src := 144 + m.mover, g := m.g, line := m.page * 64 + n, op := .again, cls := d.flow.cls } }
      let d3 := d2.onPages fun q => { q with
        fars := q.fars ++ [far], moves := q.moves.map fun x => if x.mover = m.mover then { x with acks := x.acks + 1 } else x }
      d3.evSend port (.guestWrite p (y == 0 && !p) tag h n y ((d.pageKey? m.g m.page).getD 0) (lineTweak m.g m.page n))
    else d) d

/-- A neighbour has granted the guest frame of a spill (R258, R260): a hot page's lines go to it at once, a warm one's when its gallery has
been read. -/
def Dev.shipPage (d : Dev) (m : Move) (port : Nat) (h : BitVec 33) : Dev :=
  let d1 := d.setMove m
  if peSrc (d.entry m.g m.page) = 2 then d1
  else let (ls, d2) := d1.moverLines m.g m.page none; d2.shipLines m port h (BitVec.allOnes 64) ls

/-- Write the 64 lines of a new frame as a mover read them; what carries the zero mark keeps it (R212, R250). -/
def Dev.spreadLines (d : Dev) (m : Move) (f : Nat) (x : Contents) (ls : List (LineData × Bool)) : Dev :=
  (List.range 64).foldl (fun (d : Dev) n =>
    let (y, p) := ls.getD n (0, true)
    if x.zeroLine n && y == 0 && !p then d else d.dramWrite f n (d.seal m.g m.page n y p) d.flow.cls) d

/-- A move ends because its gallery cannot be read (R209, R210, R256): a header that is unknown loses the page, or in a roped grotto has it
rebuilt, as an unreadable sub-block does; status abandoned. -/
def Dev.sourceBad (d : Dev) (m : Move) (known : Bool) : Dev :=
  let w := d.entry m.g m.page
  let d1 := d.freeDst m
  let d2 := if known then d1.toSource m.g m.page
    else if d1.covered m.g then (d1.turn m.g m.page 2 0 (peLoc w)).rebuildPage m.g m.page none
    else d1.headerBad m.g m.page
  ((((d2.dropMove m).moveResult m 0x0107).bump 1312).againAll 3 m.held).after

/-- What the copy of a move makes of the lines read: the frame's lines, the gallery, or lines on their way to the guest frame; then phase 3
holds writes (R250, R251, R255). -/
def Dev.copied (d : Dev) (m : Move) (x : Option Contents) (lo : AMap LineObs) : Dev :=
  let w := d.entry m.g m.page
  match m.dst with
  | .guest port (some h) =>
    let (ls, d1) := d.moverLines m.g m.page x lo
    (d1.setMove { m with phase := 3, dirty := 0 }).shipLines m port h (if x.isSome then BitVec.allOnes 64 else m.dirty) ls
  | .gallery _ ss _ =>
    let (ls, d1) := d.moverLines m.g m.page x lo
    if ls.all fun e => e.1 == 0 && !e.2 then d1.setMove { m with phase := 3, image := none }
    else
      match d1.packPage m.g m.page (peGen w + 1) ls ss with
      | some y => (d1.compressions y.1.packed.length).setMove { m with phase := 3, image := some y }
      | none => (d1.bump 1315).endMove m 0x0106
  | .frame f =>
    match x with
    | some c => let (ls, d1) := d.moverLines m.g m.page x; (d1.spreadLines m f c ls).setMove { m with phase := 3 }
    | none => d.setMove { m with phase := 3 }
  | .guest _ none => d

/-- The copy of a move is finished (R251): many dirty lines are copied again, at most twice; otherwise writes are held and the
final copy begins. It waits for lines in D (R254). What the reads of the source showed comes with it (R209, R256). -/
def Dev.copyDone (d : Dev) (mover : Nat) (obs : List SubObs := []) (lo : AMap LineObs := []) : Dev :=
  match d.pages.moves.find? fun x => x.mover == mover with
  | none => d
  | some m =>
    let w := d.entry m.g m.page
    if m.phase ≠ 2 ∨ m.dst = .guest 0 none ∨ m.dst = .guest 1 none ∨ d.pageLocked m.g m.page ∨ d.pageWaits m.g m.page then d
    else if peSrc w = 1 ∧ 16 < popCount m.dirty.toNat 64 ∧ m.rounds < 2 then
      let d1 := (d.setMove { m with dirty := 0, rounds := m.rounds + 1 }).moverBytes (128 * popCount m.dirty.toNat 64)
      match m.dst with
      | .guest port (some h) => let (ls, d2) := d1.moverLines m.g m.page none lo; d2.shipLines m port h m.dirty ls
      | _ => d1
    else if peSrc w = 2 then
      match d.readGallery m.g m.page d.flow.cls obs with
      | (some x, d1) => if d1.rebuilding m.g m.page then d1.sourceBad m true else d1.copied m (some x) lo
      | (none, d1) => d1.sourceBad m false
    else d.copied m none lo

/-- Copy a hot page's 64 lines to a new frame (R250, R254): near-cache lines as they stand there, the others as their codewords are. -/
def Dev.fillFrame (d : Dev) (m : Move) (f : Nat) (w : Word) : Dev :=
  if peSrc w = 1 then
    (List.range 64).foldl (fun (d : Dev) n =>
      match d.ncLook m.g (m.page * 64 + n) with
      | (some y, d1) => d1.dramWrite f n (d1.seal m.g m.page n y.data y.poison) d.flow.cls
      | (none, d1) =>
        let (x, d2) := d1.dramRead (peLoc w) n {} (some (m.g, m.page * 64 + n)) d.flow.cls
        if x.kind = .zero then d2 else d2.dramWrite f n x d.flow.cls) d
  else d

/-- The entry of a move is written with its destination, and committed (R250, R255). A page of zeros alone becomes unbacked (R197), its
host copies invalidated and its near-cache lines dropped first (R100). -/
def Dev.commitMove (d : Dev) (mover : Nat) : Dev :=
  match d.pages.moves.find? fun x => x.mover == mover with
  | none => d
  | some m =>
    let w := d.entry m.g m.page
    if m.phase ≠ 3 ∨ 0 < m.acks ∨ d.pageLocked m.g m.page ∨ d.pageWaits m.g m.page then d
    else
      match m.dst with
      | .frame f => (((d.moverBytes 4096).fillFrame m f w).turn m.g m.page 1 0 f).moveDone m (peSrc w) (peLoc w)
      | .guest p (some h) => (((d.moverBytes 4096).cleanPage m.g m.page).turn m.g m.page 3 0 (p * 2 ^ 33 + h.toNat)).moveDone m (peSrc w) (peLoc w)
      | .guest _ none => d
      | .gallery _ ss head =>
        match m.image with
        | some (x, streams) =>
          let used := x.primaries
          let d1 := ((d.moverBytes x.bytes).cleanPage m.g m.page).freeSectors (ss.filter fun s => !used.contains s)
          let d2 := (List.range 4).foldl (fun (d : Dev) k =>
            d.layStream m.g m.page k (x.desc k) [] (streams.getD k []) d.flow.cls) d1
          ((d2.layHeader m.g m.page head x d2.flow.cls).turn m.g m.page 2 0 head).moveDone m (peSrc w) (peLoc w)
        | none =>
          let (ok, d1) := if (d.grotto m.g).db then d.invalidatePage m.g m.page else (true, d)
          if ok then (((d1.ncDropPage m.g m.page).freeDst m).turn m.g m.page 0 0 0).moveDone m (peSrc w) (peLoc w) else d1.after

/-- Whether a move holds writes now (R251, R252). -/
def Dev.holding (d : Dev) (m : Move) : Bool := m.phase != 2 || peSrc (d.entry m.g m.page) != 1

/-- The hold of a move reaches 2 µs (R253). -/
def Dev.holdExpire (d : Dev) (mover : Nat) : Dev :=
  match d.pages.moves.find? fun x => x.mover == mover with
  | none => d
  | some m => if d.holding m then d.endMove m 0x0107 else d

/-! ### The sweep and epochs -/

/-- Whether a grotto's page may be spilled by its spill mode (R245); a mirror copy's never is (R447). -/
def Grotto.spills (x : Grotto) : Bool := !x.copy && (x.spillMode == 2 || (x.spillMode == 1 && x.mirror))

def candEntry (g page : Nat) (heat : Nat) (st : Nat) (gen : BitVec 8) : BitVec 64 :=
  BitVec.ofNat 64 (g * 2 ^ 58 + page % 2 ^ 33 * 2 ^ 25 + heat * 2 ^ 17 + st * 2 ^ 14 + gen.toNat)

/-- List an entry among the candidates whose mark it meets (R245). -/
def Flow.list (f : Flow) (x : Grotto) (st heat : Nat) (c : BitVec 64) : Flow :=
  let f1 := if st = 1 ∧ heat ≤ x.coldMark then
      (if f.demote.length < 8192 then { f with demote := f.demote ++ [c] } else { f with dropD := f.dropD + 1 }) else f
  let f2 := if st = 2 ∧ heat ≤ x.farMark ∧ x.spills then
      (if f1.spill.length < 8192 then { f1 with spill := f1.spill ++ [c] } else { f1 with dropS := f1.dropS + 1 }) else f1
  if (st = 2 ∨ st = 3) ∧ x.hotMark ≤ heat then
    (if f2.promote.length < 8192 then { f2 with promote := f2.promote ++ [c] } else { f2 with dropP := f2.dropP + 1 })
  else f2

/-- Set the heat of a page where it is held: in its block, or in its entry. -/
def Dev.putHeat (d : Dev) (g page : Nat) (h : BitVec 8) : Dev :=
  let l := d.mapLine g page
  match mget d.pages.cache l with
  | some b => d.onPages fun p => { p with cache := mset p.cache l { b with heats := b.heats.set (d.mapIdx g page % 8) h } }
  | none =>
    let w := d.entry g page
    d.onPages fun p => { p with area := mput p.area freshEntry (d.mapIdx g page) (mkEntry (peCommit w) (peState w) h (peGen w) (peSrc w) (peLoc w)) }

/-- The sweep visits one page (R239, R240, R245). -/
def Dev.sweepPage (d : Dev) (g page : Nat) : Dev :=
  let d := d.readEntry g page
  let x := d.grotto g
  let w := d.entry g page
  let n := d.flow.shift * d.flow.roundK
  let h := if 8 ≤ n then 0 else (d.heat g page).toNat >>> n
  let d1 := if (d.heat g page).toNat = h then d else d.putHeat g page (BitVec.ofNat 8 h)
  let d2 := d1.onFlow fun f => { f with histo := mmod f.histo (g * 32 + h / 8) 0 fun k => min 255 (k + 1) }
  if peCommit w ∧ peState w ≠ 5 then d2.onFlow fun f => f.list x (peState w) h (candEntry g page h (peState w) (peGen w)) else d2

/-- The line that the sweep visits next (R239): the first in map-index order of an active grotto, from where it stands in its round. -/
def Dev.sweepNext (d : Dev) : Option Nat :=
  let pos := d.flow.sweepPos
  let firsts := d.grottos.filterMap fun e =>
    let lo := e.2.mapBase / 8
    if e.2.state = 1 ∧ pos < lo + (e.2.committed + e.2.elasticMax) * (unitPages / 8) then some (max lo pos) else none
  firsts.foldl (fun (b : Option Nat) l => match b with
    | none => some l
    | some m => some (min l m)) none

/-- The sweep reads a page-map line through the map cache, without a block of its own (R239). -/
def Dev.sweepRead (d : Dev) (lineIdx : Nat) : Dev :=
  if (mget d.pages.cache lineIdx).isSome then d
  else
    let d1 := d.countMap lineIdx d.flow.cls
    if d1.mapDead lineIdx then d1.mapLineBad lineIdx else d1

/-- The sweep reaches its next page-map line (R239, R249); a line behind a retrain or a repair waits. -/
def Dev.sweepLine (d : Dev) (lineIdx : Nat) : Dev :=
  if d.sweepNext ≠ some lineIdx ∨ !d.awake ∨ min (d.flow.sweepBud * 250) 16000 < d.flow.sweepUsed + 64 ∨
      ((mget d.pages.cache lineIdx).isNone ∧ d.mapWaits lineIdx) then d
  else
    let d0 := d.sweepRead lineIdx
    let d1 := (d0.linePages lineIdx).foldl (fun d gp => d.sweepPage gp.1 gp.2) d0
    (d1.bump 1316 64).onFlow fun f => { f with sweepUsed := f.sweepUsed + 64, sweepPos := lineIdx + 1 }

/-- Page-map bytes of the active grottos. -/
def Dev.mapBytes (d : Dev) : Nat :=
  (d.grottos.map fun e => if e.2.state = 1 then (e.2.committed + e.2.elasticMax) * unitPages * 8 else 0).sum

/-- k of a round (R240). -/
def Dev.roundLen (d : Dev) : Nat := max 1 (ceilDiv d.mapBytes (max 1 (d.flow.sweepBud * 250000 * d.flow.epochMs)))

/-- Whether the previous policy run still works (R242). -/
def Dev.policyBusy (d : Dev) : Bool := if d.flow.builtin then (d.pages.plans.any fun p => !p.forced && p.why == .policy) || d.pages.moves.any (·.policy) else d.flow.running

/-- An epoch boundary (R241, R242): heat written back, lists closed, a run placed unless the last one still works. -/
def Dev.epochEnd (d : Dev) : Dev :=
  if !d.live ∨ d.asleep ∨ d.power.mode = .boot then d
  else
    let d0 := d.wake 6 1
    let d1 := d0.pages.cache.foldl (fun d e => d.heatBack e.1 e.2) d0
    let d2 := (d1.closeLists 0).bump 1304
    let d3 := if d2.policyBusy then (d2.event 0x370).bump 1305 else d2.policyRun 0
    let age := d3.flow.roundAge + 1
    let d4 := if d3.flow.roundK ≤ age then d3.onFlow fun f => { f with roundAge := 0, roundK := d3.roundLen, sweepPos := 0 }
      else d3.onFlow fun f => { f with roundAge := age }
    d4.onFlow fun f => { f with
      epoch := f.epoch + 1, promote := [], demote := [], spill := [], dropP := 0, dropD := 0, dropS := 0, histo := [] }

/-- A pressure run is due again (R243). -/
def Dev.pressureAgain (d : Dev) : Dev :=
  if d.pages.frameWait.isEmpty ∨ !d.awake then d else d.pressureRun.after

/-- Whether a page of a grotto must leave a frame (R248): it is retired (R150), on a channel that the grotto's mask no longer has (R78),
or in a rank that a SPARE is to repair (R152). -/
def Dev.mustLeave (d : Dev) (g f : Nat) : Bool :=
  (d.chan (frameChan f)).state == 3 &&
    (d.mem.retired.contains f || !(d.grotto g).chanMask.getLsbD (frameChan f) ||
      d.sparing (frameChan f) (rankOf (d.chan (frameChan f)).ranks (frameIdx f)))

/-- The forced moves that are due and not yet planned (R248). -/
def Dev.forcedPlans (d : Dev) : List Plan :=
  d.pages.area.filterMap fun e => match d.grottoAt e.1 with
    | none => none
    | some g =>
      let page := e.1 - (d.grotto g).mapBase
      if peCommit e.2 && (peState e.2 == 1 || peState e.2 == 2) && d.liesIn g page (d.mustLeave g) &&
          !(d.pages.plans.any fun p => p.forced && p.g == g && p.page == page) then
        some { kind := .relocate, g := g, page := page, gen := peGen e.2, forced := true }
      else none

/-- Whether less than half of a heap frame is in use (R248). -/
def HeapFrame.sparse (h : HeapFrame) : Bool := decide (4 < ((List.range 8).filter h.isFree).length)

/-- Galleries that compaction may rewrite (R248): every heap frame that they lie in is less than half used. -/
def Dev.compactable (d : Dev) : List Plan :=
  d.warmPages.filterMap fun (g, page, loc) =>
    let w := d.entry g page
    if peCommit w && peState w == 2 &&
        ((d.galleryFrames g page loc).filter (mget d.pages.heaps · |>.isSome)).all (fun f => (mget d.pages.heaps f).any HeapFrame.sparse) then
      some { kind := .rewrite, g := g, page := page, gen := peGen w, why := .compaction }
    else none

/-- Compaction (R248): where no other move waits, one such gallery is rewritten, or none for now; which is free (log 83). -/
def Dev.compaction (d : Dev) : Dev :=
  let cs := d.compactable
  if d.pages.plans.isEmpty then
    let (i, d1) := d.choose (cs.length + 1)
    match cs[i]? with
    | some p => d1.onPages fun q => { q with plans := [p] }
    | none => d1
  else d

/-- A 1 µs budget window begins (R249): moves that wait start, and spill and fetch traffic that waits goes. What a move takes beyond the
allowance of its window comes out of the next ones. -/
def Dev.budgets (d : Dev) : Dev :=
  let d1 := d.onFlow fun f => { f with sweepUsed := 0, migUsed := f.migUsed - d.migCeiling, spillUsed0 := 0, spillUsed1 := 0 }
  if d.awake then
    let d2 := d1.onPages fun p => { p with plans := p.plans ++ d1.forcedPlans }
    (((d2.compaction.startPlans 64).evPump 0 1024).evPump 1 1024).after
  else d1

end Sys2Proof.Machine
end

