-- ==== Sys2Proof/Machine/QueueOps.lean ====
section
/-!
DEFINITION. Pelmic queues (08): how an instruction is fetched, decoded, issued, completed, journaled and retired, how its
records are written, how a queue stops and resumes; and how an engine reads and writes lines.
-/
namespace Sys2Proof.Machine

/-! ### Queues and positions -/

def Dev.queue? (d : Dev) (q : Nat) : Option Queue :=
  match mget d.queues.qs q with
  | some x => some x
  | none => if privQ q then some (d.privDefault q) else none

def Dev.setQueue (d : Dev) (q : Nat) (x : Queue) : Dev := d.onQueues fun k => { k with qs := mset k.qs q x }

/-- Ring entries, and completion-ring records (R268). -/
def Queue.slots (x : Queue) : Nat := 2 ^ (x.recd.ringOrder + 6)
def Queue.crSize (x : Queue) : Nat := 2 ^ (x.recd.crOrder + 6)

/-- The phase bit of a position in a ring of n entries (R271). -/
def phaseOf (n : Nat) (p : BitVec 32) : Bool := p.toNat / n % 2 == 0

/-- Whether position a lies before b (R271, compared modulo 2^32). -/
def posBefore (a b : BitVec 32) : Bool := a != b && decide ((b - a).toNat < 2 ^ 31)

/-- The valid copy of the progress record (R297). -/
def Queue.valid (x : Queue) : Progress :=
  if x.progA.committed ∧ x.progB.committed then
    (if 1 ≤ (x.progA.seq - x.progB.seq).toNat ∧ (x.progA.seq - x.progB.seq).toNat < 2 ^ 31 then x.progA else x.progB)
  else if x.progB.committed then x.progB else x.progA

/-- Write the progress record over the copy that is not valid (R297, R298): the retire pointer is committed. -/
def Queue.commitProgress (x : Queue) : Queue :=
  let p : Progress := {
    seq := x.valid.seq + 1, retire := x.retired, tail := x.tail, written := x.written, consumed := x.consumed,
    loop := x.loop, iter := x.iter, state := x.state, regs := x.regs, marks := x.marks, committed := true }
  let y : Queue := { x with commit := x.retired, dirty := false }
  if x.progA.committed ∧ x.valid = x.progA then { y with progB := p } else { y with progA := p }

/-- The retire pointer (R285, R320, R322): the loop start while a loop is active, else the oldest instruction that has not
retired, or the next to issue; skipped positions retire once the tail passes them. -/
def Queue.retirePoint (x : Queue) : BitVec 32 :=
  match x.loop, x.issued with
  | some (st, _), _ => st
  | none, i :: _ => i.pos
  | none, [] => if posBefore x.tail x.head then x.tail else x.head

def Queue.settle (x : Queue) : Queue :=
  if x.retirePoint = x.retired then x else { x with retired := x.retirePoint, dirty := true }

/-- Whether instructions wait to be issued. -/
def Queue.hasWork (x : Queue) : Bool := posBefore x.head x.tail

/-- The owner of a queue's grotto: link and logical device. -/
def Dev.ownerOf (d : Dev) (x : Queue) : Nat × Nat :=
  let g := d.grotto x.recd.grotto
  (g.ownerLink, g.ownerLd)

/-! ### What an instruction does in general -/

/-- Faults that the program causes (R287): decode faults, refusals and the faults of its own operands. -/
def byProgram (status : Nat) : Bool := decide ((0x201 ≤ status ∧ status ≤ 0x208) ∨ (0x210 ≤ status ∧ status < 0x300))

def isAtomic (op : Nat) : Bool := decide (0x80 ≤ op ∧ op ≤ 0x86)
def isPriv (op : Nat) : Bool := decide (0xC0 ≤ op)

def rn (r : BitVec 8) : Nat := r.toNat % 32

/-- Registers that an instruction writes (R309, R343). -/
def writesOf (op : Nat) (w : PWord) : List Nat :=
  if isAtomic op then (if w.mod.getLsbD 0 then [rn w.ra, rn w.ra + 1] else [rn w.ra])
  else if op = 0x42 then (if w.mod.toNat % 4 = 0 then [rn w.ra] else [])
  else if [0x05, 0x06, 0x07, 0x08, 0x09, 0x0A].contains op then [rn w.ra] else []

/-- Registers that an instruction reads. -/
def readsOf (op : Nat) (w : PWord) : List Nat :=
  if isAtomic op then
    (if w.mod.getLsbD 0 then [rn w.ra, rn w.ra + 1, rn w.rb, rn w.rb + 1, rn w.rc] else [rn w.ra, rn w.rb, rn w.rc]).drop
      (if op = 0x81 then 0 else if w.mod.getLsbD 0 then 2 else 1)
  else if op = 0x05 then [rn w.ra]
  else if [0x03, 0x04, 0x06, 0x07, 0x08, 0x09, 0x0A, 0x0B].contains op then [rn w.rb, rn w.rc]
  else if op = 0x42 ∧ w.mod.toNat % 4 = 0 then [rn w.rb, rn w.rc]
  else [rn w.ra, rn w.rb, rn w.rc]

/-- FENCE, LOOP and privileged instructions issue as though fence-before were set (R284, R312, R645). -/
def fenced (op : Nat) (w : PWord) : Bool := w.fence || op == 0x02 || op == 0x05 || isPriv op

/-- Whether the next instruction waits for this one to complete (R284, R312). -/
def chained (op : Nat) (w : PWord) : Bool := w.chain || isPriv op

/-- HALT, BRANCH and LOOP: nothing issues before they have retired (R317, R320, R321). -/
def turns (op : Nat) : Bool := op == 0x01 || op == 0x04 || op == 0x05

/-- The value and poison mark of a register as an instruction sees it, older ones done (R283, R325). -/
def regSeen (x : Queue) (older : List Issued) (n : Nat) : Word × Bool :=
  if n = 0 then (0, false)
  else older.foldl (fun v i => match i.res.regs.find? fun r => r.1 == n with
    | some r => r.2
    | none => v) (mgetD x.regs n 0, x.marks.getLsbD n)

/-- The operands of an instruction, with poison marks; the second ones are of pairs. -/
structure Vals where
  a  : Word × Bool
  b  : Word × Bool
  c  : Word × Bool
  a1 : Word × Bool
  b1 : Word × Bool
  deriving DecidableEq, Repr

def valsOf (x : Queue) (older : List Issued) (w : PWord) : Vals := {
  a := regSeen x older (rn w.ra), b := regSeen x older (rn w.rb), c := regSeen x older (rn w.rc),
  a1 := regSeen x older (rn w.ra + 1), b1 := regSeen x older (rn w.rb + 1) }

/-! ### What an engine does -/

/-- On whose behalf lines are accessed, and how. -/
structure Ctx where
  q     : Nat
  pos   : BitVec 32 := 0
  who   : Who
  src   : Nat
  cls   : Nat
  stale : Bool := false
  alloc : Bool := false
  wrap  : AMap (BitVec 256) := []
  /-- What an instruction that waited keeps of its decode (R277, R306). -/
  decoded : Option Decoded := none

/-- What a line must go through before an access can go on. -/
inductive Need where
  | hold
  /-- Look again later, at what stands then. -/
  | poll
  | read (g line : Nat)
  | own (g line : Nat)
  | sub (g line : Nat)
  | far (g line port : Nat) (handle : BitVec 33)
  | partner (g line : Nat)
  | unback (g lo n : Nat)
  | capacity (g page n : Nat)
  | survey

/-- How an instruction's body ends early: a fault with its results and the effects so far, or a wait with no effect. -/
inductive Stop where
  | fault (status : Nat) (r : Result) (d : Dev)
  | wait (n : Need)

/-- An engine's work on the device. -/
abbrev Eng (α : Type) := StateT Dev (Except Stop) α

def Eng.fault {α : Type} (status : Nat) (r : Result := {}) : Eng α := fun d => .error (.fault status r d)
def Eng.wait {α : Type} (n : Need) : Eng α := fun _ => .error (.wait n)
def Eng.dev : Eng Dev := fun d => .ok (d, d)
def Eng.upd (f : Dev → Dev) : Eng Unit := fun d => .ok ((), f d)
def Eng.check (ok : Bool) (status : Nat) (r : Result := {}) : Eng Unit := if ok then pure () else Eng.fault status r

def Ctx.req (c : Ctx) (g line : Nat) (op : Op) : Req := { who := c.who, src := c.src, g := g, line := line, op := op, cls := c.cls }

/-- Whether an atomic of an instruction has its line (R171, R172). -/
def Dev.owns (d : Dev) (c : Ctx) (g line : Nat) : Bool := d.slices.locks.any fun l => l.1 == lineKey g line && l.2.1 == c.q && l.2.2 == c.pos

/-- What a read does at its line's home slice (R162). -/
def Ctx.readOp (c : Ctx) : Op := if c.stale then .readStale else if c.alloc then .readS else .readI

/-- Whether the line of a hot page lies behind a retrain or a repair (R147, R149). -/
def Dev.rowWaits (d : Dev) (g line : Nat) : Bool :=
  let w := d.entry g (pageOf line)
  peView w == 1 && d.lineWaits (peLoc w) (lineIn line)

/-- Whether a read of a line must go to its arbiter and wait there, behind an atomic, a snoop round or a DRAM bank that is not served
(R147, R149, R163, R172, R174, R175). -/
def Dev.readWaits (d : Dev) (c : Ctx) (g line : Nat) : Bool :=
  if d.owns c g line then false
  else if d.slices.locks.any fun l => l.1 == lineKey g line then true
  else if (d.ncGet g line).isNone && d.rowWaits g line then true
  else (d.grotto g).db && match d.dirGet g line with
    | none => false
    | some e => match e.st with
      | .S => false
      | .D => true
      | .B => !c.stale
      | .E => !c.stale

/-- Whether a read of a line, or an atomic's claim to it, is on its way for a reader. -/
def Dev.reading (d : Dev) (who : Who) (g line : Nat) : Bool :=
  d.requests.any fun r => r.who == who && r.g == g && r.line == line && !r.op.isWrite

/-- Whether a write that is held covers a line, so that a read waits behind it. -/
def Dev.behindWrite (d : Dev) (g line : Nat) : Bool :=
  (d.moveOf g (pageOf line)).any (fun m => covers m.held line) || (d.promoOf g (pageOf line)).any (fun p => covers p.held line) ||
    (d.recompOf g (pageOf line)).isSome

/-- A read of an engine is granted at once: from the near cache, or from wherever its page's entry points. -/
def Eng.fetch (c : Ctx) (g line : Nat) : Eng (LineData × Bool) := fun d =>
  let page := pageOf line
  let k := 576 + 16 * homeSlice g line
  let (hit, d1) := d.ncLook g line
  match hit with
  | some x => .ok ((x.data, x.poison), ((d1.bump k).bump (k + 1)).addHeat g page d.flow.readW)
  | none =>
    let d2 := (((d1.bump k).bump (k + 2)).fillNow g page).addHeat g page d.flow.readW
    let view := peView (d2.entry g page)
    match d2.pageRead g line c.cls with
    | (.data y p, d3) =>
      let alloc := c.alloc && [1, 2].contains view && d3.keyed g line
      let d4 := if alloc then d3.ncAlloc g line y p c.cls else d3
      .ok ((y, p), if alloc && view == 2 && !p then d4.offerZeros g page (lineIn line / 16) line c.cls else d4)
    | (.far port h, _) => .error (.wait (.far g line port h))
    | (.sub, _) => .error (.wait (.sub g line))
    | (.partner, _) => .error (.wait (.partner g line))

/-- An engine reads a line (R25): its data and poison. What its line's arbiter has delivered to it is used as it was then; a read that meets a
snoop round, an atomic or a held write takes its place in order (R163). Only reads of single words and lines allocate (R189). -/
def Eng.line (c : Ctx) (g line : Nat) : Eng (LineData × Bool) := fun d =>
  match d.kept? c.who g line with
  | some v => .ok (v, d)
  | none =>
    if d.reading c.who g line then .error (.wait .hold)
    else if d.readWaits c g line || d.behindWrite g line then .error (.wait (.read g line))
    else match d.dirKnown g line with
      | (true, d1) => Eng.fetch c g line d1
      | (false, _) => .error (.wait (.read g line))

/-- The mark that a SURVEY which was merged into the next survey leaves while it waits (R520). -/
def surveyKey (q : Nat) (pos : BitVec 32) : Nat := keptKey (.engine q pos) 64 0

/-- Begin what an access waits for: a snoop round, or a read of a neighbour or the partner. -/
def Dev.needs (d : Dev) (c : Ctx) : Need → Dev
  | .hold => d
  | .poll => d.forget c.who
  | .read g line => d.again 1 (c.req g line c.readOp)
  | .own g line => d.again 1 (c.req g line .atomic)
  | .sub g line => d.onPages fun p => { p with sreads := p.sreads ++ [⟨g, pageOf line, lineIn line / 16, c.req g line c.readOp⟩] }
  | .far g line port h => d.farRead (c.req g line c.readOp) port h
  | .partner g line =>
    let d := if peView (d.entry g (pageOf line)) = 2 ∧ (d.galleryOf g (pageOf line)).isNone then d.headerBad g (pageOf line) else d
    d.partnerRead (c.req g line c.readOp)
  | .unback g lo n => (d.backedPages g lo n).foldl (fun d p => (d.invalidatePage g p).2) d
  | .capacity g page n =>
    if d.pages.mirrorWait.any fun e => e.2.2.who == c.who then d
    else
      let (sent, d1) := d.mirrorMap g 2 page n
      d1.onPages fun p => { p with mirrorWait := p.mirrorWait ++ sent.map fun e => (e.1, e.2, c.req g (page * 64) .again) }
  | .survey => (d.onCnt fun k => { k with merged := true }).onPages fun p => { p with
      farBuf := mset p.farBuf (surveyKey c.q c.pos) (BitVec.ofNat 512 (d.cnt.seq + 2).toNat, false) }

/-- Place of a queue in the rotation over queue numbers, the four queue 0s first. -/
def queueRank (q : Nat) : Nat := if isQ0 q then q - 8192 else q + 3

/-- The 256 bits of a record at a count (R291). -/
def recBits (x : Queue) (count pos : BitVec 32) (status op : Nat) (r0 r1 r2 : Word) : BitVec 256 :=
  let flags : BitVec 8 := if phaseOf x.crSize count then 1 else 0
  r2 ++ r1 ++ r0 ++ BitVec.ofNat 8 op ++ flags ++ BitVec.ofNat 16 status ++ pos

/-- Bytes of one copy of a progress record (R297). -/
def Progress.bytes (p : Progress) : List Byte :=
  let (st, n) := p.loop.getD (0, 0)
  [p.seq, p.retire, p.tail, p.written, p.consumed].flatMap (fun v => bytesOfNat 4 v.toNat) ++
    bytesOfNat 8 (p.iter % 2 ^ 16 + st.toNat * 2 ^ 16 + n % 64 * 2 ^ 48) ++ bytesOfNat 4 (p.state % 16) ++
    (List.range 31).flatMap (fun k => bytesOfNat 8 (mgetD p.regs (k + 1) 0).toNat) ++ bytesOfNat 4 p.marks.toNat ++
    List.replicate 227 0#8 ++ [if p.committed then 0xC3#8 else 0#8]

/-- Bytes of a journal entry of a queue (R299): its record, its result registers, and the commit byte. -/
def JEntry.bytes (x : Queue) (j : JEntry) : List Byte :=
  let reg (k : Nat) : Nat × Word × Bool := (j.regs.filter fun r => r.1 != 0).getD k (0, 0, false)
  (match j.rec? with
    | some r => bytesOfNat 32 (recBits x r.count r.pos r.status r.opcode r.r0 r.r1 r.r2).toNat
    | none => List.replicate 32 0) ++
  bytesOfNat 8 (reg 0).2.1.toNat ++ bytesOfNat 8 (reg 1).2.1.toNat ++ bytesOfNat 4 j.pos.toNat ++ bytesOfNat 2 j.iter ++
  [BitVec.ofNat 8 (reg 0).1, BitVec.ofNat 8 (reg 1).1, BitVec.ofNat 8 (flag j.rec?.isSome 0 + flag j.irq 1),
   BitVec.ofNat 8 (flag (reg 0).2.2 0 + flag (reg 1).2.2 1)] ++ List.replicate 5 0#8 ++ [0xC3#8]

/-- The queue at a place of the rotation over queue numbers. -/
def rankQueue (n : Nat) : Nat := if n < 4 then 8192 + n else n - 3

/-- A line of the reserved region: of the progress records, the journals or the completion rings of queues 0 to 15 as these stand (R264,
R297, R299; log 4 places them), or what was written there. -/
def Dev.resvLine (d : Dev) (n : Nat) : LineData :=
  let p := d.plat
  let of (bs : List Byte) (k : Nat) : LineData := BitVec.ofNat 512 (natOfBytes ((bs.drop (64 * k)).take 64))
  if p.progBase ≤ n ∧ n < p.progBase + 16 * 8196 then
    let k := n - p.progBase
    match d.queue? (rankQueue (k / 16)) with
    | some x => of (if k % 16 < 8 then x.progA.bytes else x.progB.bytes) (k % 8)
    | none => 0
  else if p.journalBase ≤ n ∧ n < p.journalBase + 64 * 8196 then
    let k := n - p.journalBase
    match (d.queue? (rankQueue (k / 64))).bind fun x => (mget x.journal (k % 64)).map (JEntry.bytes x) with
    | some bs => of bs 0
    | none => 0
  else if p.recBase ≤ n ∧ n < p.recBase + 128 * 19 then
    let k := 2 * (n - p.recBase)
    let at_ (k : Nat) : BitVec 256 := mgetD d.queues.fmRecs (rankQueue (k / 256) * 256 + k % 256) 0
    at_ (k + 1) ++ at_ k
  else d.resvGet n

/-- A range of bytes that an instruction reaches: in a grotto, or in the reserved region (R277). -/
structure Area where
  resv : Bool
  g    : Nat
  base : Nat
  len  : Nat
  deriving DecidableEq, Repr

/-- Bytes with the poison of their lines. -/
abbrev PBytes := List (Byte × Bool)

def lineOf (c : Ctx) (a : Area) (n : Nat) : Eng (LineData × Bool) := do
  if a.resv then let d ← Eng.dev; pure (d.resvLine n, false) else Eng.line c a.g n

/-- Read some bytes of an area. -/
def Eng.read (c : Ctx) (a : Area) (off len : Nat) : Eng PBytes := do
  if len = 0 then pure []
  else
    let s := a.base + off
    let parts ← (List.range ((s + len - 1) / 64 - s / 64 + 1)).mapM fun i => lineOf c a (s / 64 + i)
    pure (((parts.flatMap fun e => (lineBytes e.1).map fun b => (b, e.2)).drop (s % 64)).take len)

/-- Write some bytes of one line: into the reserved region, or as a request to the line's home slice. -/
def Dev.putLine (d : Dev) (c : Ctx) (a : Area) (line : Nat) (mask : ByteMask) (data : LineData) (poison : Bool) : Dev :=
  if a.resv then d.resvPut line (mergeLine (d.resvGet line) data mask)
  else d.again 1 (c.req a.g line (.write mask data poison))

/-- Write bytes from byte s on, line by line. -/
def Dev.putBytes (d : Dev) (c : Ctx) (a : Area) : Nat → Nat → PBytes → Dev
  | 0, _, _ => d
  | _, _, [] => d
  | n + 1, s, bs =>
    let here := bs.take (64 - s % 64)
    let data : LineData := BitVec.ofNat 512 (natOfBytes (here.map (·.1)) <<< (8 * (s % 64)))
    let d1 := d.putLine c a (s / 64) (maskRange (s % 64) here.length) data (here.any (·.2))
    d1.putBytes c a n (s / 64 * 64 + 64) (bs.drop (64 - s % 64))

def Eng.write (c : Ctx) (a : Area) (off : Nat) (bs : PBytes) : Eng Unit :=
  Eng.upd fun d => d.putBytes c a (bs.length / 64 + 2) (a.base + off) bs

def clean (bs : List Byte) : PBytes := bs.map fun b => (b, false)
def numOf (bs : PBytes) : Nat := natOfBytes (bs.map (·.1))

/-! ### Decode (R278 to R280, R307) -/

/-- A range that an instruction names: right 0 read, 1 write, 2 atomic. -/
structure Rng where
  win   : Nat
  off   : Nat
  len   : Nat
  right : Nat := 0
  align : Nat := 1
  deriving DecidableEq, Repr

def Rng.writes (r : Rng) : Bool := r.right != 0

def Queue.window (x : Queue) (h : Nat) : Window := mgetD x.windows (h % 64) {}

def Window.grants (y : Window) : Nat → Bool
  | 0 => y.read
  | 1 => y.write
  | _ => y.atomic

def Rng.area (r : Rng) (x : Queue) : Area :=
  let y := x.window r.win
  { resv := y.kind == 2, g := y.grotto, base := y.base + r.off, len := r.len }

def Area.meets (a b : Area) : Bool :=
  a.resv == b.resv && (a.resv || a.g == b.g) && a.len != 0 && b.len != 0 &&
    decide (a.base < b.base + b.len ∧ b.base < a.base + a.len)

/-- Whether some range that is written meets another; identical ranges pass where the instruction is in-place (R280). -/
def overlaps (inPlace : Bool) : List (Bool × Area) → Bool
  | [] => false
  | (w, a) :: t =>
    (t.any fun e => (w || e.1) && a.meets e.2 && !(inPlace && a == e.2)) || overlaps inPlace t

/-- Whether every byte of an area can be reached (R278 step 8). -/
def Dev.reaches (d : Dev) (a : Area) : Bool :=
  if a.resv ∨ a.len = 0 then true
  else
    let x := d.grotto a.g
    let lo := a.base / unitBytes
    let hi := (a.base + a.len - 1) / unitBytes
    x.state == 1 && ((List.range (hi + 1 - lo)).all fun i => x.reachable ((lo + i) * unitBytes)) &&
      (mget d.keys (x.keyOf (a.base / 4096))).isSome && (mget d.keys (x.keyOf ((a.base + a.len - 1) / 4096))).isSome

/-- Decode steps 4 to 8 over the ranges of an instruction: the first that fails, or the areas. high: a length or count
register has high bits set (R307); passed: they have passed before, so that the reach of step 8 is not looked at again. -/
def Dev.ranges (d : Dev) (q : Nat) (x : Queue) (rs : List Rng) (high inPlace : Bool) (passed : Bool := false) : Except Nat (List Area) :=
  let kindOk (r : Rng) : Bool := (x.window r.win).kind == 1 || ((x.window r.win).kind == 2 && privQ q)
  let fits (r : Rng) : Bool :=
    decide (r.off < 2 ^ 64 ∧ r.off ≤ (x.window r.win).length ∧ r.len ≤ (x.window r.win).length - r.off)
  let areas := rs.map fun r => r.area x
  if !rs.all kindOk then .error 0x0204
  else if !rs.all (fun r => (x.window r.win).grants r.right) then .error 0x0205
  else if rs.any (fun r => r.off % r.align != 0) then .error 0x0210
  else if high || !rs.all fits then .error 0x0206
  else if overlaps inPlace (rs.map fun r => (r.writes, r.area x)) then .error 0x0207
  else if !passed && !areas.all d.reaches then .error 0x0208
  else .ok areas

def Eng.ranges (c : Ctx) (x : Queue) (rs : List Rng) (high : Bool := false) (inPlace : Bool := false) : Eng (List Area) := fun d =>
  match d.ranges c.q x rs high inPlace (c.decoded.any (·.passed)) with
  | .ok as => .ok (as, d)
  | .error st => .error (.fault st {} d)

/-- A length or count register (R307): its value, and whether high bits are set. -/
def count32 (v : Word) : Nat × Bool := (v.toNat % 2 ^ 32, decide (2 ^ 32 ≤ v.toNat))

/-- Which operand fields a word may use (R305, R643). -/
structure Form where
  fmt  : Nat
  ra   : Bool := false
  rb   : Bool := false
  rc   : Bool := false
  swin : Bool := false
  dwin : Bool := false
  imm  : Nat := 0
  mod  : Nat := 0

/-- Decode step 1 (R278, R305): the format matches and whatever is not used is zero. -/
def Form.ok (f : Form) (w : PWord) : Bool :=
  let reg (used : Bool) (r : BitVec 8) : Bool := if used then decide (r.toNat < 32) else r == 0
  decide (w.fmt.toNat = f.fmt) && w.resv == 0 && reg f.ra w.ra && reg f.rb w.rb && reg f.rc w.rc && (f.swin || w.swin == 0) &&
    (f.dwin || w.dwin == 0) && (w.imm &&& ~~~BitVec.ofNat 64 f.imm) == 0 && (w.mod &&& ~~~BitVec.ofNat 4 f.mod) == 0

def immAll : Nat := 2 ^ 64 - 1

/-- An instruction's meaning: opcode, mod of a format M action, decode step 1, and its work. -/
structure Pel where
  op   : Nat
  mod  : Option Nat := none
  form : PWord → Bool
  body : Ctx → Queue → PWord → Vals → Eng Result

/-! ### Issue -/

/-- A run of queue 0 that a position lies in (R266). -/
def Dev.runAt (d : Dev) (q : Nat) (p : BitVec 32) : Option Run :=
  (mgetD d.queues.q0Runs (q - 8192) []).find? fun r => decide ((p - r.start).toNat < r.words.length)

/-- Effective class of an instruction (R304): its override, or its queue's class; Flowstone's in a policy run (R242). -/
def Dev.clsOf (d : Dev) (q : Nat) (x : Queue) (p : BitVec 32) (w : PWord) : Nat :=
  if w.cls ≠ 0 then w.cls.toNat
  else match (if isQ0 q then d.runAt q p else none) with
    | some r => if r.writer = .flowstone then d.flow.cls else x.recd.cls
    | none => x.recd.cls

/-- Source number of the engine whose context a queue is bound to (R159). -/
def Queue.source (x : Queue) : Nat := 128 + (x.ctx.getD 0) / 32

def Dev.ctxOf (d : Dev) (t : Trust) (q : Nat) (x : Queue) (p : BitVec 32) (w : PWord) : Ctx := {
  q := q, pos := p, who := .engine q p, src := x.source, cls := d.clsOf q x p w, stale := w.mod.getLsbD 3,
  wrap := t.wrap }

/-- Where a slot of a ring lies (R264, R271): in the queue's grotto, or in the reserved region. -/
def Dev.slotArea (d : Dev) (q : Nat) (x : Queue) (p : BitVec 32) : Area :=
  let i := 16 * (p.toNat % x.slots)
  if privQ q then
    { resv := true, g := 0, base := (d.plat.ringBase + (if isQ0 q then q - 8192 else q + 3) * 1024) * 64 + i, len := 16 }
  else { resv := false, g := x.recd.grotto, base := x.recd.ringBase + i, len := 16 }

/-- Device-wide instructions issued and not retired (R282). -/
def Queues.inFlight (k : Queues) : Nat := (k.qs.map fun e => e.2.issued.length).sum

/-- The conditions of R282, R284 and R287 that do not depend on the next instruction. -/
def Dev.mayIssue (d : Dev) (x : Queue) : Bool :=
  d.awake && d.mayWork && x.ctx.isSome && ((x.run && x.state == 1) || (x.state == 4 && posBefore x.head x.resetTail)) && x.hasWork &&
    !x.tornWait && x.stopping.isNone && decide (x.issued.length < 64 ∧ (x.head - x.commit).toNat < 64 ∧ d.queues.inFlight < 4096) &&
    !(x.issued.any fun i => isFault i.res.status || turns i.opcode) &&
    !(match x.issued.getLast? with
      | some i => chained i.opcode i.word && !i.done
      | none => false)

/-- Whether an instruction is journaled (R299, R314, R340). -/
def journals (op : Nat) (w : PWord) (inPlace : Bool) : Bool :=
  w.sig || [0x03, 0x07, 0x24, 0x25].contains op || isAtomic op || isPriv op || (op == 0x44 && inPlace)

/-- The conditions that depend on the instruction: fence (R284), registers (R283), and the commit of its iteration (R322). -/
def Queue.ready (x : Queue) (op : Nat) (w : PWord) (journ : Bool) : Bool :=
  (!fenced op w || (x.issued.isEmpty && !x.dirty)) &&
    !(x.issued.any fun i => !i.done && (writesOf i.opcode i.word).any fun n => n != 0 && (readsOf op w).contains n) &&
    (x.loop.isNone || !journ || (x.valid.loop == x.loop && x.valid.iter == x.iter))

/-- A comparison of BRANCH (R320). -/
def branchTaken (w : PWord) (v : Vals) : Bool :=
  let b := v.b.1
  let c := v.c.1
  match w.mod.toNat with
  | 0 => b == c
  | 1 => b != c
  | 2 => b.ult c
  | 3 => !b.ult c
  | 4 => b.slt c
  | 5 => !b.slt c
  | _ => true

/-- The next position under control flow (R320, R321). -/
def nextPos (op : Nat) (w : PWord) (v : Vals) (status : Nat) (p : BitVec 32) : BitVec 32 :=
  if isFault status then p + 1
  else if op = 0x04 then (if branchTaken w v then p + w.imm.setWidth 32 else p + 1)
  else if op = 0x05 then (if v.a.1 = 1 then p + 1 else p - w.imm.setWidth 32)
  else p + 1

/-- The EVENT of a fault that the program caused (R287). -/
def Dev.faultEvent (d : Dev) (q : Nat) (p : BitVec 32) (status op : Nat) : Dev :=
  if byProgram status then d.event unitQueue 5 ((if privQ q && isQ0 q then 0 else q) * 2 ^ 32 + p.toNat) (status + op * 65536) else d

/-- Counter k of the engine that a queue is bound to (R510). -/
def Dev.countEngine (d : Dev) (x : Queue) (k : Nat) : Dev :=
  match x.ctx with
  | some n => d.bump (832 + 16 * (n / 32) + k)
  | none => d

/-- Units of a kind, by opcode: first counter, counters a unit, and units (R510). -/
def unitsOf (op : Nat) : Nat × Nat × Nat :=
  if op = 0x40 then (1088, 8, 8)
  else if op = 0x41 then (1152, 4, 16)
  else if op = 0x42 then (1280, 1, 16)
  else if op = 0x43 then (1296, 2, 4)
  else (1216, 4, 16)

/-- The counters of the unit that ran an instruction, which is any of its kind, or of the slice of an atomic (R510). -/
def Dev.countWork (d : Dev) (op : Nat) (work : List Nat) : Dev :=
  match work with
  | [] => d
  | n :: _ =>
    if isAtomic op then d.bump (576 + 16 * n + 8)
    else
      let (base, stride, units) := unitsOf op
      let (u, d1) := d.choose units
      (work.zip (List.range work.length)).foldl (fun (d : Dev) e => if e.1 = 0 then d else d.bump (base + stride * u + e.2) e.1) d1

/-! ### Units for stream jobs and queries (R224, R360) -/

/-- COMPRESS and DECOMPRESS run on the compress and the decompress units. -/
def isStream (op : Nat) : Bool := op == 0x40 || op == 0x41

/-- Instructions that wait for a unit: stream jobs, and the queries, which run on the scan units. -/
def needsUnit (op : Nat) : Bool := isStream op || unitKind op == 0x60

/-- Gallery jobs that take a unit ahead of stream jobs: on a decompress unit the sub-blocks that line reads wait for, promotions, recompressions
and moves of warm pages; on a compress unit recompressions and moves to a gallery. -/
def Dev.galleryJobs (d : Dev) (op : Nat) : Nat :=
  let p := d.pages
  let recs := (p.recomps.filter fun x => !x.committed).length
  let copies (f : Move → Bool) : Nat := (p.moves.filter fun m => m.phase == 2 && f m).length
  if op = 0x41 then
    ((p.sreads.map fun x => (x.g, x.page, x.sub)).eraseDups).length + p.promos.length + recs + copies fun m => peSrc (d.entry m.g m.page) == 2
  else recs + copies fun m => m.image.isNone && match m.dst with
    | .gallery .. => true
    | _ => false

/-- Units of a kind that instructions may still take: stream jobs at most 12 or 6 at a time, and what gallery work leaves; queries every
scan unit. -/
def Dev.unitsFree (d : Dev) (kind : Nat) : Nat :=
  let held := d.unitsHeld kind
  if kind = 0x60 then d.unitsUp kind - held
  else min ((if kind = 0x41 then 12 else 6) - held) (d.unitsUp kind - held - d.galleryJobs kind)

/-- The rotating pointer of a kind of unit. -/
def Queues.unitPtr (k : Queues) (kind : Nat) : Nat := if kind = 0x41 then k.duPtr else if kind = 0x60 then k.suPtr else k.cuPtr

/-- Instructions that wait for a unit of a kind ahead of one: of a higher effective priority, or of the same and nearer to the pointer. -/
def Dev.unitRivals (d : Dev) (kind q : Nat) (pos : BitVec 32) : Nat :=
  let ptr := d.queues.unitPtr kind
  let dist (q : Nat) : Nat := (queueRank q + 8196 - ptr) % 8196
  let prio (q : Nat) (x : Queue) (i : Issued) : Nat := d.effPrio (d.clsOf q x i.pos i.word)
  match (d.queue? q).bind fun x => (x.issued.find? fun i => i.pos == pos).map fun i => prio q x i with
  | none => 0
  | some mine => (d.queues.qs.map fun e => (e.2.issued.filter fun j =>
      unitKind j.opcode == kind && j.state == .waiting && !d.holdsUnit (kind, e.1, j.pos) && (
        let p := prio e.1 e.2 j
        decide (mine < p) || (p == mine && (decide (dist e.1 < dist q) || (e.1 == q && posBefore j.pos pos))))).length).sum

/-- A stream job or a query takes a unit where one is its own to take; none where it waits. -/
def Dev.takeUnit (d : Dev) (op q : Nat) (pos : BitVec 32) : Option Dev :=
  let kind := unitKind op
  if !needsUnit op || d.holdsUnit (kind, q, pos) then some d
  else if d.unitRivals kind q pos < d.unitsFree kind then
    let turn := (queueRank q + 1) % 8196
    some (d.onQueues fun k => { k with
      units := k.units.filter d.holdsUnit ++ [(kind, q, pos)],
      duPtr := if kind = 0x41 then turn else k.duPtr, cuPtr := if kind = 0x40 then turn else k.cuPtr,
      suPtr := if kind = 0x60 then turn else k.suPtr })
  else none

/-- An instruction holds no unit any longer. -/
def Dev.dropUnit (d : Dev) (q : Nat) (pos : BitVec 32) : Dev :=
  if d.queues.units.isEmpty then d
  else d.onQueues fun k => { k with units := k.units.filter fun e => !(e.2.1 == q && e.2.2 == pos) }

/-- Where the third operand of an instruction lies (R306). -/
def thirdRng (w : PWord) (len : Nat) : Rng := { win := w.imm.toNat / 2 ^ 58, off := w.imm.toNat % 2 ^ 58, len := len }

/-- Bytes of the third operand of an opcode (R306, R334, R338, R339, R363). -/
def thirdLen (op : Nat) (w : PWord) : Nat :=
  match op with
  | 0x40 | 0x41 | 0x61 | 0x62 | 0x63 | 0x64 => 64
  | 0x42 => 32
  | 0x43 => if w.mod.getLsbD 0 then 64 else 0
  | 0x60 => 160
  | _ => 0

/-- Read the third operand, once, at decode (R306): an instruction that waited has its bytes already. -/
def Eng.thirdBytes (c : Ctx) (a : Area) (len : Nat) : Eng PBytes :=
  match c.decoded with
  | some k => pure k.third
  | none => Eng.read c a 0 len

/-- What an instruction that must wait keeps of its decode: none while its third operand is not at hand. -/
def Dev.keepDecode (d : Dev) (c : Ctx) (x : Queue) (i : Issued) (passed : Bool) : Option Decoded :=
  let n := thirdLen i.opcode i.word
  if i.decoded.isSome then i.decoded.map fun k => { k with passed := k.passed || passed }
  else if n = 0 then some { windows := x.windows, passed := passed }
  else match (Eng.read c ((thirdRng i.word n).area x) 0 n).run d with
    | .ok (bs, _) => some { windows := x.windows, third := bs, passed := passed }
    | .error _ => none

/-- Run the body of an instruction: what its entry becomes. A wait has no effect but to begin what it waits for; a stream job or a query waits
for a unit first, and holds it while it waits for data. -/
def Dev.runBody (d : Dev) (c0 : Ctx) (x0 : Queue) (i : Issued) (v : Vals) (pel : Pel) : Issued × Dev :=
  let c : Ctx := { c0 with decoded := i.decoded }
  let x : Queue := match i.decoded with
    | some k => { x0 with windows := k.windows }
    | none => x0
  match d.takeUnit i.opcode c.q i.pos with
  | none => ({ i with state := .waiting, decoded := d.keepDecode c x i false }, d)
  | some d =>
    match (pel.body c x i.word v).run d with
    | .ok (r, d1) => ({ i with state := .applied, res := r }, d1.forget c.who)
    | .error (.fault st r d1) => ({ i with state := .applied, res := { r with status := st } }, (d1.forget c.who).faultEvent c.q i.pos st i.opcode)
    | .error (.wait n) => ({ i with state := .waiting, decoded := d.keepDecode c x i true }, d.needs c n)

/-- Decode steps 1 to 3 (R278). -/
def early (q : Nat) (x : Queue) (w : PWord) (pel : Pel) : Option Nat :=
  if !pel.form w then some 0x0201
  else if isPriv pel.op && !privQ q then some 0x0202
  else if w.cls ≠ 0 ∧ !privQ q ∧ !x.recd.classMask.getLsbD w.cls.toNat then some 0x0203
  else none

/-- Set an issued entry of a queue. -/
def Dev.putIssued (d : Dev) (q : Nat) (i : Issued) : Dev :=
  match d.queue? q with
  | some x => d.setQueue q { x with issued := x.issued.map fun j => if j.pos = i.pos then i else j }
  | none => d

/-- The journal's result for a position and iteration (R299, R301). -/
def Queue.journaled (x : Queue) (p : BitVec 32) (iter : Nat) : Option JEntry :=
  (mget x.journal (p.toNat % 64)).filter fun j => j.pos == p && j.iter == iter

def JEntry.result (j : JEntry) : Result :=
  match j.rec? with
  | some r => { status := r.status, r0 := r.r0, r1 := r.r1, r2 := r.r2, regs := j.regs }
  | none => { regs := j.regs }

/-- Issue the instruction at the head, which the ring holds (R282): its effect is applied, or waits, or it faults. -/
def Dev.issueAt (d : Dev) (c : Ctx) (q : Nat) (x : Queue) (w : PWord) (pel : Pel) (v : Vals) (journ : Bool) : Dev :=
  let p := x.head
  let i : Issued := { pos := p, word := w, opcode := pel.op, iter := x.iter, journ := journ }
  let add (d : Dev) : Dev := d.setQueue q { x with issued := x.issued ++ [i], head := p + 1 }
  let (i1, d1) := match x.journaled p x.iter with
    | some j => ({ i with res := j.result }, add d)
    | none => match early q x w pel with
      | some st => ({ i with res := { status := st } }, (add d).faultEvent q p st pel.op)
      | none => (add d).runBody c x i v pel
  let d2 := d1.putIssued q { i1 with since := d1.lamp }
  let d3 := match d2.queue? q with
    | some y => d2.setQueue q { y with head := nextPos pel.op w v i1.res.status p }
    | none => d2
  let d4 := d3.countEngine x 0
  if isFault i1.res.status then d4.countEngine x 2 else d4

/-- The head of a queue stands in a run of the mailbox dispatcher, whose program MAILBOX_RESULT runs (R26, log 90). -/
def Dev.atMailRun (d : Dev) (q : Nat) (x : Queue) : Bool := isQ0 q && (d.runAt q x.head).any fun r => r.writer.turn == 0

/-- An instruction of a queue as the ring shows it (R276, R282): nothing happens where it cannot issue or is not what the
slot at the head holds; a stale phase starts the torn-submission wait. -/
def Dev.issue (d : Dev) (t : Trust) (q : Nat) (w : PWord) (pel : Pel) : Dev :=
  match d.queue? q with
  | none => d
  | some x =>
    if !d.mayIssue x || d.atMailRun q x || pel.mod.any (fun m => w.mod.toNat != m) then d
    else
      let c := d.ctxOf t q x x.head w
      match (Eng.read { c with stale := false, alloc := true } (d.slotArea q x x.head) 0 16).run d with
      | .error (.wait n) => d.needs c n
      | .error (.fault ..) => d
      | .ok (bs, d0) =>
        let d1 := d0.forget c.who
        let word := BitVec.ofNat 128 (numOf bs)
        if word.getLsbD 15 ≠ phaseOf x.slots x.head then (d1.setQueue q { x with tornWait := true, torn := 0 }).countEngine x 4
        else if word ≠ encodePelmic (BitVec.ofNat 8 pel.op) w then d1
        else
          let v := valsOf x x.issued w
          let at_ (h : BitVec 6) (o : Word) : Area := ({ win := h.toNat, off := o.toNat, len := 0 } : Rng).area x
          let same := at_ w.swin v.b.1 == at_ w.dwin v.a.1
          let journ := journals pel.op w same
          if x.ready pel.op w journ then d1.issueAt c q x w pel v journ else d1

def State.issue (s : State) (q : Nat) (w : PWord) (pel : Pel) : Answer :=
  .next { s with dev := (s.dev.issue s.trust q w pel).after }

/-! ### Outstanding effects -/

/-- Take back writes that wait for a frame (R286). -/
def Dev.withdraw (d : Dev) (who : Who) : Dev :=
  d.onPages fun p => { p with
    frameWait := p.frameWait.filter (fun r => !r.isBy who), creditWait := p.creditWait.filter (fun r => !r.isBy who) }

def Dev.releaseLocks (d : Dev) (q : Nat) (pos : BitVec 32) : Dev :=
  let mine := d.slices.locks.filter fun l => l.2.1 == q && l.2.2 == pos
  let d1 := d.onSlices fun s => { s with locks := s.locks.filter fun l => !(l.2.1 == q && l.2.2 == pos) }
  mine.foldl (fun d l => d.releaseLine (keyGrotto l.1) (keyLine l.1)) d1

/-! ### Completion records (R290 to R293) -/

/-- Whether the next record may be written (R293). -/
def Queue.recSpace (x : Queue) : Bool :=
  decide ((x.written - x.consumed).toNat < x.crSize ∧
    (x.valid.written - (x.written - BitVec.ofNat 32 x.crSize + 1)).toNat < 2 ^ 31)

/-- Write a record at its count (R292): into the reserved region, the grotto, or host memory. -/
def Dev.writeRec (d : Dev) (c : Ctx) (q : Nat) (x : Queue) (count : BitVec 32) (bits : BitVec 256) : Dev :=
  let slot := count.toNat % x.crSize
  if privQ q then d.onQueues fun k => { k with fmRecs := mset k.fmRecs (q * 256 + slot) bits }
  else
    let addr := x.recd.crBase + 32 * slot
    if x.recd.crHost then
      let (l, ld) := d.ownerOf x
      d.emit (.hostWrite l ld addr (bytesOfNat 32 bits.toNat))
    else (d.putBytes c { resv := false, g := x.recd.grotto, base := addr, len := 32 } 2 addr (clean (bytesOfNat 32 bits.toNat)))

/-- The interrupt of a queue (R59): on its vector of the owning logical device; privileged queues have none (log 17). -/
def Dev.queueIrq (d : Dev) (q : Nat) (x : Queue) : Dev :=
  if privQ q then d else let (l, ld) := d.ownerOf x; d.interrupt l ld x.recd.vector

/-- A queue stops (R287, R295, R317): state 3 with its status and position. One that finishes what it had accepted before a port reset
stays in that state and issues no more (R70). -/
def Queue.stop (x : Queue) (status : Nat) (pos : BitVec 32) : Queue :=
  { x with state := if x.state = 1 then 3 else x.state, resetTail := if x.state = 4 then x.head else x.resetTail, run := false, stopStatus := status, stopPos := pos, stopping := none,
           tornWait := false, torn := 0, dirty := true }

/-- The end of a run of queue 0 (R317, R318): what is left of it is skipped. -/
def Dev.endRun (d : Dev) (q : Nat) (p : BitVec 32) (status : Nat) : Dev :=
  match d.runAt q p, d.queue? q with
  | some r, some x =>
    let stop := r.start + BitVec.ofNat 32 r.words.length
    let d1 := d.setQueue q { x with head := stop, stopping := none }
    let d2 := d1.onQueues fun k => { k with q0Runs := mmod k.q0Runs (q - 8192) [] fun rs => rs.filter (· != r) }
    if r.writer = .flowstone then
      let d3 := d2.onFlow fun f => { f with running := false, progFault := f.progFault || isFault status }
      if isFault status then d3.raise { code := 1, cls := 3, unit := 0x370, akind := 5, addr := p.toNat, detail := status } else d3
    else d2
  | _, _ => d

/-- Register writes of a result. -/
def applyRegs (x : Queue) (rs : List (Nat × Word × Bool)) : Queue :=
  rs.foldl (fun x r =>
    if r.1 = 0 ∨ 31 < r.1 then x
    else
      let bit : BitVec 32 := 1#32 <<< r.1
      { x with regs := mput x.regs 0 r.1 r.2.1, marks := if r.2.2 then x.marks ||| bit else x.marks &&& ~~~bit }) x

/-- What control flow leaves as an instruction retires (R320 to R322): the active loop, its iteration, skipped journal
entries. -/
def Queue.flow (x : Queue) (i : Issued) : Queue :=
  if isFault i.res.status then x
  else if i.opcode = 0x05 then
    let left := (i.res.regs.find? fun r => r.1 == rn i.word.ra).map fun r => r.2.1
    let taken := if rn i.word.ra = 0 then true else left != some 0
    if taken then
      { x with loop := some (i.pos - i.word.imm.setWidth 32, i.word.imm.toNat), iter := (x.iter + 1) % 65536, dirty := true }
    else { x with loop := none, iter := 0, dirty := true }
  else if i.opcode = 0x04 then
    let past := match x.loop with
      | some (st, n) => posBefore (st + BitVec.ofNat 32 n) x.head
      | none => false
    let y : Queue := if past then { x with loop := none, iter := 0 } else x
    let n := (x.head - i.pos).toNat
    { y with journal := y.journal.filter fun e => !decide (1 ≤ (e.2.pos - i.pos).toNat ∧ (e.2.pos - i.pos).toNat < n) }
  else x

/-- Retire the oldest instruction, its record written (R285, R287). -/
def Dev.retireOne (d : Dev) (q : Nat) (x : Queue) (i : Issued) (rest : List Issued) : Dev :=
  let torn := i.res.status == 0x020B
  let x1 := (applyRegs { x with issued := rest, crFull := false, dirty := true } i.res.regs).flow i
  let x2 : Queue := if isFault i.res.status ∧ x1.stopping.isNone then { x1 with stopping := some (i.res.status, i.pos) } else x1
  if isQ0 q ∧ (isFault i.res.status ∨ i.opcode = 0x01) then
    let d1 := (d.setQueue q x2).endRun q i.pos i.res.status
    (match d1.queue? q with
    | some y => d1.setQueue q { y with stopping := none }.settle
    | none => d1).countEngine x 1
  else
    let x3 :=
      if rest.isEmpty then
        match x2.stopping with
        | some (st, p) => x2.stop st p
        | none =>
          if i.opcode = 0x01 then x2.stop 0 i.pos
          else if !x2.run ∧ x2.state = 1 then x2.stop 0 x2.stopPos else x2
      else x2
    (d.setQueue q (if torn then x3 else x3.settle)).countEngine x 1

/-- The count of an instruction's record, and whether the journal shows that it was written before (R301). -/
def Queue.recCount (x : Queue) (i : Issued) : BitVec 32 × Bool :=
  match x.journaled i.pos i.iter with
  | some j => match j.rec?, j.sent with
    | some r, true => (r.count, true)
    | _, _ => (x.written, false)
  | none => (x.written, false)

/-- One step of retirement: a record is sent, or the oldest instruction retires; none where nothing can. -/
def Dev.retireStep (d : Dev) (q : Nat) : Option Dev :=
  match d.queue? q with
  | none => none
  | some x =>
    match x.issued with
    | [] => none
    | i :: rest =>
      let c : Ctx := { q := q, pos := i.pos, who := .engine q i.pos, src := x.source, cls := x.recd.cls }
      let mk (count : BitVec 32) : RecPend := {
        count := count, pos := i.pos, status := i.res.status, opcode := i.opcode, r0 := i.res.r0.getD 0, r1 := i.res.r1.getD 0, r2 := i.res.r2.getD 0,
        irq := i.interrupts }
      match i.state with
      | .completed =>
        if !i.records then some (d.retireOne q x i rest)
        else if x.state = 4 then
          some (d.retireOne q { x with recs := x.recs ++ [mk (x.written + BitVec.ofNat 32 x.recs.length)] } i rest)
        else
          let (count, again) := x.recCount i
          if again || x.recSpace then
            let r := mk count
            let bits := recBits x count i.pos i.res.status (if i.res.status = 0x020B then 0 else i.opcode) r.r0 r.r1 r.r2
            let upto := if count = x.written then x.written + 1 else x.written
            let y : Queue := { x with
              issued := { i with state := .recorded } :: rest, written := upto, crFull := false,
              consumed := if isQ0 q then upto else x.consumed,
              journal := match x.journaled i.pos i.iter with
                | some j => mset x.journal (i.pos.toNat % 64) { j with rec? := some r, sent := true }
                | none => x.journal }
            some (((d.setQueue q y).writeRec c q x count bits).drain drainFuel)
          else if x.crFull then none
          else some (d.setQueue q { x with crFull := true, dirty := true })
      | .recorded =>
        if d.outstanding c.who then none
        else some ((if i.interrupts then d.queueIrq q x else d).retireOne q x i rest)
      | _ => none

def Dev.retire (d : Dev) (q : Nat) : Nat → Dev
  | 0 => d
  | n + 1 => match d.retireStep q with
    | some d1 => d1.retire q n
    | none => d

def retireFuel : Nat := 256

/-! ### Completion of an instruction (R285, R288, R299) -/

/-- Complete an issued instruction whose effect stands: journal entry, lines out of D, then retirement in order. -/
def Dev.completeNow (d : Dev) (q : Nat) (x : Queue) (k : Issued) : Dev :=
  let (i, d0) := d.named k
  let i1 : Issued := { i with state := .completed }
  let noted := (i.journ || i.records) && i.res.status != 0x020B
  let y : Queue := { x with
    issued := x.issued.map fun k => if k.pos = i.pos then i1 else k,
    journal := if noted then mset x.journal (i.pos.toNat % 64) (x.entryOf i) else x.journal }
  let d1 := (d0.countWork i.opcode i.res.work).dropUnit q i.pos
  (((if noted then d1.countEngine x 5 else d1).setQueue q y).releaseLocks q i.pos).retire q retireFuel

/-- What a hardware unit showed (R288): a retry that succeeds is CORRECTED; a lasting fault fences the unit and faults the
instruction, unless the journal records its effect. -/
def Dev.hardware (d : Dev) (i : Issued) (hit : Bool) : HwObs → Issued × Dev
  | .ok => (i, d)
  | .retryOk u => (i, if hit then d else d.raise { code := 0x4001, cls := 1, unit := u, att := 2 })
  | .lasting u =>
    if hit then (i, d)
    else
      let d1 := (d.onFaults fun f => { f with fenced := f.fenced.filter (· != u) ++ [u] }).raise { code := 0x4002, cls := 2, unit := u, att := 2 }
      ({ i with res := { i.res with status := 0x020C } }, d1)

/-- Errors injected into the scratch of the engine that a queue is bound to (R472): lasting ones are a fault of the engine. -/
def Dev.scratch (d : Dev) (x : Queue) (hw : HwObs) : HwObs × Dev :=
  let u := unitEngine ((x.ctx.getD 0) / 32)
  let (n, d1) := (d.arrayRead u 0x4001).arrayWrite u
  (if 2 ≤ n then .lasting u else hw, d1)

/-- Try the effect of a waiting instruction again. -/
def Dev.rerun (d : Dev) (t : Trust) (q : Nat) (x : Queue) (i : Issued) (pel : Pel) : Dev :=
  if d.toldLater q i.pos then d
  else
    let older := x.issued.takeWhile fun j => j.pos != i.pos
    let v := valsOf x older i.word
    let (i1, d1) := d.runBody (d.ctxOf t q x i.pos i.word) x i v pel
    d1.putIssued q i1

/-- An issued instruction finishes (R285): a waiting one tries again; one whose effect stands completes. -/
def Dev.finishInstr (d : Dev) (t : Trust) (q : Nat) (pos : BitVec 32) (hw : HwObs) (pel : PWord → Nat → Pel) : Dev :=
  match d.queue? q with
  | none => d
  | some x =>
    match x.issued.find? fun i => i.pos == pos with
    | none => d
    | some i =>
      match i.state with
      | .waiting => d.rerun t q x i (pel i.word i.opcode)
      | .applied =>
        let older := x.issued.takeWhile fun j => j.pos != pos
        if d.outstanding (.engine q pos) || d.toldLater q pos then d
        else if (i.opcode = 0x03 ∨ i.opcode = 0x01) ∧ !(older.all Issued.done) then d
        else
          let (hw1, d0) := d.scratch x hw
          let (i1, d1) := d0.hardware i (x.journaled pos i.iter).isSome hw1
          (if isFault i1.res.status ∧ !isFault i.res.status then d1.countEngine x 2 else d1).completeNow q x i1
      | _ => d.retire q retireFuel

/-- An instruction reaches its class time limit (R286): it faults; what it applied remains, and writes that wait for frames
are withdrawn. -/
def Dev.timeUp (d : Dev) (q : Nat) (pos : BitVec 32) : Dev :=
  match d.queue? q with
  | none => d
  | some x =>
    match x.issued.find? fun i => i.pos == pos with
    | none => d
    | some i =>
      if i.done ∨ isFault i.res.status then d
      else
        let d1 := ((d.withdraw (.engine q pos)).forget (.engine q pos)).dropUnit q pos
        let d2 := match d1.pages.moves.find? fun m => m.issuer == some (q, pos) with
          | some m => (d1.abandon m).againAll 3 m.held
          | none => d1
        (d2.putIssued q { i with state := .applied, res := { i.res with status := 0x0209 } }).countEngine x 2

/-- Set the state and result of an instruction that was told of its end. -/
def Dev.tell (d : Dev) (q : Nat) (pos : BitVec 32) (f : Result → Result) : Dev :=
  match d.queue? q with
  | some x => d.setQueue q { x with issued := x.issued.map fun i => if i.pos = pos ∧ !i.done then { i with state := .applied, res := f i.res } else i }
  | none => d

/-! ### Torn submissions (R276) -/

/-- The slot is read again: a good phase ends the wait; the eighth stale one stops the queue. -/
def Dev.reread (d : Dev) (q : Nat) : Dev :=
  match d.queue? q with
  | none => d
  | some x =>
    if !x.tornWait ∨ !d.awake then d
    else
      let c : Ctx := { q := q, pos := x.head, who := .engine q x.head, src := x.source, cls := x.recd.cls, alloc := true }
      match (Eng.read c (d.slotArea q x x.head) 0 16).run d with
      | .error (.wait n) => d.needs c n
      | .error (.fault ..) => d
      | .ok (bs, d0) =>
        let d1 := d0.forget c.who
        if (BitVec.ofNat 128 (numOf bs)).getLsbD 15 = phaseOf x.slots x.head then
          d1.setQueue q { x with tornWait := false, torn := 0 }
        else if x.torn < 7 then d1.setQueue q { x with torn := x.torn + 1 }
        else
          let (i, d2) := d1.named { pos := x.head, word := {}, opcode := 0, iter := x.iter, state := .completed, res := { status := 0x020B } }
          let y : Queue := { x with issued := x.issued ++ [i], tornWait := false, torn := 0, stopping := some (0x020B, x.head) }
          ((d2.setQueue q y).faultEvent q x.head 0x020B 0).retire q retireFuel

/-! ### Doorbells (R272 to R274, R293, R295) -/

/-- R273: whether a new tail is recorded. -/
def Queue.tailOk (x : Queue) (t : BitVec 32) : Bool :=
  decide (1 ≤ (t - x.tail).toNat ∧ (t - x.tail).toNat ≤ x.slots ∧ (t - x.commit).toNat ≤ x.slots)

/-- A lasting error in queue SRAM (R472): the queue stops with the hardware status and its positions come from its progress
record. -/
def Dev.sramFault (d : Dev) (q : Nat) (x : Queue) : Dev :=
  let p := x.valid
  let y : Queue := if p.committed then
      { x with tail := p.tail, retired := p.retire, commit := p.retire, head := p.retire, written := p.written, consumed := p.consumed, issued := [] }
    else { x with issued := [] }
  ((x.issued.foldl (fun d i => (d.releaseLocks q i.pos).forget (.engine q i.pos)) d).setQueue q (y.stop 0x020C y.retired)).arrayFault unitQueue (if privQ q then none else some x.recd.grotto)

def Dev.recordTail (d : Dev) (q : Nat) (x : Queue) (t : BitVec 32) : Dev :=
  let (n, d1) := (d.arrayRead unitQueue 0x2001).arrayWrite unitQueue
  if 2 ≤ n then d1.sramFault q x else d1.setQueue q ({ x with tail := t, dirty := true } : Queue).settle

/-- CR_CONSUMED (R293): recorded; records that waited for space are written. -/
def Dev.recordConsumed (d : Dev) (q : Nat) (x : Queue) (v : BitVec 32) : Dev :=
  (d.setQueue q { x with consumed := v, dirty := true, crFull := false }).retire q retireFuel

/-- Write 0 to run (R295). -/
def Dev.stopRun (d : Dev) (q : Nat) (x : Queue) : Dev :=
  let y : Queue := { x with run := false }
  d.setQueue q (if x.issued.isEmpty ∧ x.state = 1 then y.stop 0 x.stopPos else y)

/-- Restart of a queue in state 4: the held records and interrupts go to their original slots first (R70, R295). -/
def Dev.flushHeld (d : Dev) (q : Nat) (x : Queue) : Dev :=
  let c : Ctx := { q := q, who := .engine q x.head, src := x.source, cls := x.recd.cls }
  x.recs.foldl (fun (d : Dev) r =>
    let d1 := d.writeRec c q x r.count (recBits x r.count r.pos r.status (if r.status = 0x020B then 0 else r.opcode) r.r0 r.r1 r.r2)
    if r.irq then d1.queueIrq q x else d1) d

/-- Write 1 to run (R295): none where it leaves run at 0 and records an EVENT. -/
def Dev.startRun (d : Dev) (q : Nat) (x : Queue) : Option Dev :=
  match x.state with
  | 1 => if x.stopping.isSome ∨ (x.issued.any fun i => isFault i.res.status) then none else some (d.setQueue q { x with run := true })
  | 3 => some (d.setQueue q { x with state := 1, run := true, stopStatus := 0, stopPos := 0, stopping := none, dirty := true })
  | 4 =>
    let y : Queue := { x with
      state := 1, run := true, stopStatus := 0, stopPos := 0, stopping := none, recs := [], dirty := true,
      written := x.written + BitVec.ofNat 32 x.recs.length }
    some ((d.flushHeld q x).setQueue q y)
  | _ => none

/-- State shown by Q_STATUS: idle and running are told apart by the work at hand. -/
def Queue.shown (x : Queue) : Nat := if x.state = 1 then (if x.hasWork ∨ !x.issued.isEmpty then 2 else 1) else x.state

/-- The 64-byte doorbell block as eight words (R272). -/
def Queue.doorbell (x : Queue) : List Nat :=
  [x.tail.toNat, x.head.toNat, x.commit.toNat,
   x.shown * 2 ^ 60 + x.stopStatus % 65536 * 2 ^ 40 + (if x.crFull then 2 ^ 39 else 0) + (if x.tornWait then 2 ^ 38 else 0) + x.stopPos.toNat,
   if x.run then 1 else 0, x.consumed.toNat, x.written.toNat, 0]

/-! ### Contexts (R289) -/

/-- Whether a queue waits for a context. -/
def Queue.wants (x : Queue) : Bool :=
  x.ctx.isNone && (!x.issued.isEmpty || (x.hasWork && ((x.run && x.state == 1) || (x.state == 4 && posBefore x.head x.resetTail))))

/-- The queue that is bound next: highest effective priority, then the first at or after the pointer. -/
def Dev.nextBound (d : Dev) : Option Nat :=
  let ws := d.queues.qs.filter fun e => e.2.wants
  let top := (ws.map fun e => d.effPrio e.2.recd.cls).foldl max 0
  let best := ws.filter fun e => d.effPrio e.2.recd.cls == top
  let dist (q : Nat) : Nat := (queueRank q + 8196 - d.queues.ctxPtr) % 8196
  (best.foldl (fun (b : Option Nat) e => match b with
    | none => some e.1
    | some q => if dist e.1 < dist q then some e.1 else some q) none)

/-- A context becomes free for a queue that waits. -/
def Dev.bind (d : Dev) (q : Nat) : Dev :=
  let used := d.queues.qs.filterMap fun e => e.2.ctx
  match (List.range 512).find? fun n => !used.contains n && !d.faults.fenced.contains (unitEngine (n / 32)), d.queue? q with
  | some n, some x =>
    if d.awake ∧ d.nextBound = some q then
      ((d.setQueue q { x with ctx := some n }).onQueues fun k => { k with ctxPtr := (queueRank q + 1) % 8196 }).bump (832 + 16 * (n / 32) + 3)
    else d
  | _, _ => d

/-- A queue gives up its context: it has nothing that it can issue, or waits in WAIT while others wait for a context. -/
def Dev.yield (d : Dev) (q : Nat) : Dev :=
  match d.queue? q with
  | some x =>
    let nothing := x.issued.isEmpty && !(x.hasWork && ((x.run && x.state == 1) || (x.state == 4 && posBefore x.head x.resetTail)))
    let inWait := (x.issued.any fun i => i.opcode == 0x06 && i.state == .waiting) && d.queues.qs.any fun e => e.2.wants
    if x.ctx.isSome ∧ (nothing ∨ inWait) then d.setQueue q { x with ctx := none } else d
  | none => d

/-! ### Runs of queue 0 (R266) -/

/-- Put the words of a run into the ring from a position on, each with its phase. -/
def Dev.layWords (d : Dev) (q : Nat) (x : Queue) (p : BitVec 32) : List (BitVec 128) → Dev
  | [] => d
  | w :: t =>
    let bit := 0x8000#128
    let w1 := if phaseOf x.slots p then w ||| bit else w &&& ~~~bit
    let a := d.slotArea q x p
    let c : Ctx := { q := q, who := .quiet, src := 128, cls := 0 }
    let d1 := if a.resv then d.putBytes c a 2 a.base (clean (bytesOfNat 16 w1.toNat)) else d
    d1.layWords q x (p + 1) t

/-- Place the next run of queue 0 of a port, if its ring has room for all of it. -/
def Dev.placeRun (d : Dev) (port : Nat) : Dev :=
  let q := 8192 + port
  let ws := mgetD d.queues.q0Wait port []
  let ptr := mgetD d.queues.q0Ptr port 0
  let pick := (List.range 3).findSome? fun i => ws.find? fun r => r.writer.turn == (ptr + i) % 3
  match pick, d.queue? q with
  | some r, some x =>
    if x.slots < (x.tail - x.commit).toNat + r.words.length then d
    else
      let d1 := d.layWords q x x.tail r.words
      let d2 := d1.setQueue q ({ x with tail := x.tail + BitVec.ofNat 32 r.words.length, dirty := true } : Queue).settle
      d2.onQueues fun k => { k with
        q0Wait := mset k.q0Wait port (ws.erase r), q0Ptr := mset k.q0Ptr port ((r.writer.turn + 1) % 3),
        q0Runs := mmod k.q0Runs port [] (· ++ [{ r with start := x.tail }]) }
  | _, _ => d

/-- A queue after fast boot (R301): from the valid copy of its progress record. -/
def Queue.resume (x : Queue) : Queue :=
  let p := x.valid
  if p.committed then
    { x with
      head := p.retire, retired := p.retire, commit := p.retire, tail := p.tail, written := p.written, consumed := p.consumed,
      loop := p.loop, iter := p.iter, regs := p.regs, marks := p.marks, issued := [], ctx := none, tornWait := false, torn := 0,
      stopping := none, crFull := false, dirty := false }
  else
    { x with issued := [], head := x.retired, ctx := none, tornWait := false, torn := 0, stopping := none, crFull := false }

end Sys2Proof.Machine
end

