-- ==== Sys2Proof/Machine/Operands.lean ====
section
/-!
DEFINITION. Operand areas beyond windows: the third operand (R306), chain lists and output that runs on into them (R229,
R230, R365), and how a record reports them (R337, R341).
-/
namespace Sys2Proof.Machine

/-- Read the third operand, after decode steps 4 to 8 over it and the other ranges known so far; a poisoned one faults. -/
def Eng.third (c : Ctx) (x : Queue) (w : PWord) (len : Nat) (others : List Rng) (high : Bool) : Eng (List Byte) := do
  let as ← Eng.ranges c x (others ++ [thirdRng w len]) high
  match as.getLast? with
  | some a =>
    let bs ← Eng.thirdBytes c a len
    Eng.check (!(bs.any (·.2))) 0x020A
    pure (bs.map (·.1))
  | none => Eng.fault 0x0204

/-- A little-endian field of n bytes at a byte offset. -/
def fieldAt (bs : List Byte) (off n : Nat) : Nat := natOfBytes ((bs.drop off).take n)
def zeroAt (bs : List Byte) (off n : Nat) : Bool := fieldAt bs off n == 0

/-- A handle byte: [7] present, [6] reserved, [5:0] window (R334, R363). -/
def handleOk (b : Nat) : Bool := !(b.testBit 7 && b.testBit 6)
def handleOf (b : Nat) : Option Nat := if b.testBit 7 then some (b % 64) else none

/-- An entry of a chain list (R229). -/
structure ChainEntry where
  off  : Nat
  len  : Nat
  win  : Nat
  good : Bool
  deriving DecidableEq, Repr

def chainEntry (bs : List Byte) : ChainEntry := {
  off := fieldAt bs 0 8, len := fieldAt bs 8 4, win := fieldAt bs 12 1 % 64,
  good := decide (fieldAt bs 12 1 < 64) && zeroAt bs 13 3 }

def chainEntries : Nat → List Byte → List ChainEntry
  | 0, _ => []
  | n + 1, bs => chainEntry (bs.take 16) :: chainEntries n (bs.drop 16)

/-- Where output goes: the destination, the chain, and the areas that a chain entry must not meet. -/
structure Sink where
  dst     : Area
  chain   : List ChainEntry
  others  : List (Bool × Area)

/-- Output as it has been laid out so far. -/
structure Laid where
  cur    : Area
  idx    : Option Nat := none
  acc    : PBytes := []
  done   : List (Area × PBytes) := []
  units  : Nat := 0
  stop   : Option Nat := none

/-- Bytes of a sink. -/
def Sink.space (k : Sink) : Nat := k.dst.len + (k.chain.map (·.len)).sum

/-- Check a chain entry as the output reaches it: decode steps 4 to 8 (R229, R280), against the buffers used before it as well. -/
def Dev.chainArea (d : Dev) (c : Ctx) (x : Queue) (k : Sink) (e : ChainEntry) (used : List Area) : Except Nat Area :=
  if !e.good then .error 0x0214
  else match d.ranges c.q x [{ win := e.win, off := e.off, len := e.len, right := 1 }] false false with
    | .ok (a :: _) => if (used ++ k.dst :: k.others.map (·.2)).any a.meets then .error 0x0207 else .ok a
    | .ok [] => .error 0x0206
    | .error st => .error st

/-- Lay units out over the destination and the chain: a unit is never split over two buffers (R365). -/
def Dev.layUnits (d : Dev) (c : Ctx) (x : Queue) (k : Sink) : Nat → List PBytes → List (ChainEntry × Nat) → Laid → Laid
  | 0, _, _, l => { l with done := l.done ++ [(l.cur, l.acc)] }
  | _, [], _, l => { l with done := l.done ++ [(l.cur, l.acc)] }
  | n + 1, u :: us, es, l =>
    if l.acc.length + u.length ≤ l.cur.len then
      d.layUnits c x k n us es { l with acc := l.acc ++ u, units := l.units + 1 }
    else match es with
      | [] => { l with done := l.done ++ [(l.cur, l.acc)], stop := some 0x0102 }
      | (e, i) :: rest =>
        if e.len = 0 then d.layUnits c x k n (u :: us) rest l
        else match d.chainArea c x k e (l.cur :: l.done.map (·.1)) with
          | .ok a => d.layUnits c x k n (u :: us) rest { l with done := l.done ++ [(l.cur, l.acc)], cur := a, idx := some i, acc := [] }
          | .error st => { l with done := l.done ++ [(l.cur, l.acc)], stop := some st }

/-- The index of the last chain entry used and the bytes filled in that buffer (R337). -/
def Laid.fill (l : Laid) : Word :=
  BitVec.ofNat 64 ((l.idx.getD 0xFFFFFFFF) * 2 ^ 32 + ((l.done.getLast?.map (·.2.length)).getD 0))

/-- Bytes laid out. -/
def Laid.bytes (l : Laid) : Nat := (l.done.map (·.2.length)).sum

/-- Lay units out and write them. -/
def Eng.emit (c : Ctx) (x : Queue) (k : Sink) (us : List PBytes) : Eng Laid := do
  let d ← Eng.dev
  let l := d.layUnits c x k (us.length + k.chain.length + 1) us (k.chain.zip (List.range k.chain.length)) { cur := k.dst }
  for e in l.done do Eng.write c e.1 0 e.2
  pure l

/-- Bytes as units of one. -/
def singles (bs : PBytes) : List PBytes := bs.map fun b => [b]

/-- Index of the first poisoned byte. -/
def firstPoison (bs : PBytes) : Option Nat := bs.findIdx? (·.2)

/-- Offset within an area of the line that holds a byte (R228); 0 for a line that begins before the area (DESIGN CHOICE, log 41). -/
def lineOffset (a : Area) (i : Nat) : Nat := (a.base + i) / 64 * 64 - a.base

end Sys2Proof.Machine
end

