-- ==== Sys2Proof/Machine/Movement.lean ====
section
/-!
DEFINITION. Movement instructions (R328 to R333).
-/
namespace Sys2Proof.Machine

def noArea : Area := { resv := true, g := 0, base := 0, len := 0 }
def areaAt (as : List Area) (i : Nat) : Area := (as[i]?).getD noArea

/-- The record of a transform or query with count 0 (R307, R337, R341): nothing consumed, nothing produced, no output buffer filled. -/
def nothingDone : Result := { r0 := some 0, r1 := some 0, r2 := some 0xFFFFFFFF00000000 }

/-- COPY (R328): poison travels with its lines. -/
def copyPel : Pel := {
  op := 0x20, form := Form.ok { fmt := 4, ra := true, rb := true, rc := true, swin := true, dwin := true, mod := 8 },
  body := fun c x w v => do
    let (n, high) := count32 v.c.1
    if v.c.1 = 0 then pure {}
    else
      let as ← Eng.ranges c x [{ win := w.swin.toNat, off := v.b.1.toNat, len := n },
        { win := w.dwin.toNat, off := v.a.1.toNat, len := n, right := 1 }] high
      let bs ← Eng.read c (areaAt as 0) 0 n
      Eng.write c (areaAt as 1) 0 bs
      pure {} }

/-- FILL (R329): byte i takes byte i mod 8 of rb. -/
def fillPel : Pel := {
  op := 0x21, form := Form.ok { fmt := 3, ra := true, rb := true, rc := true, dwin := true },
  body := fun c x w v => do
    let (n, high) := count32 v.c.1
    if v.c.1 = 0 then pure {}
    else
      let as ← Eng.ranges c x [{ win := w.dwin.toNat, off := v.a.1.toNat, len := n, right := 1 }] high
      let pat := bytesOfNat 8 v.b.1.toNat
      Eng.write c (areaAt as 0) 0 (clean ((List.range n).map fun i => (pat[i % 8]?).getD 0))
      pure {} }

/-- Return whole pages of a grotto to unbacked (R100, R329), with the same change for the partner: none where host copies
must be invalidated first. -/
def Dev.unbackPages (d : Dev) (c : Ctx) (g lo n : Nat) : Option Dev :=
  match d.unbackRange g lo n with
  | (false, _) => none
  | (true, d1) =>
    let (sent, d2) := d1.mirrorMap g 0 lo n
    some (d2.onPages fun k => { k with
      mirrorWait := k.mirrorWait ++ sent.map fun e => (e.1, e.2, c.req g (lo * 64) (.write 0 0 false)) })

def Eng.unback (c : Ctx) (g lo n : Nat) : Eng Unit := fun d =>
  match d.unbackPages c g lo n with
  | some d1 => .ok ((), d1)
  | none => .error (.wait (.unback g lo n))

/-- Write zeros over an area, its whole pages going back to unbacked (R329). -/
def Eng.zeroArea (c : Ctx) (a : Area) : Eng Unit := do
  let stop := a.base + a.len
  let lo := ceilDiv a.base 4096
  let hi := stop / 4096
  let zeros (n : Nat) : PBytes := List.replicate n (0, false)
  if a.resv ∨ hi ≤ lo then Eng.write c a 0 (zeros a.len)
  else
    Eng.unback c a.g lo (hi - lo)
    Eng.write c a 0 (zeros (lo * 4096 - a.base))
    Eng.write c a (hi * 4096 - a.base) (zeros (stop - hi * 4096))

/-- ZERO (R329). -/
def zeroPel : Pel := {
  op := 0x22, form := Form.ok { fmt := 3, ra := true, rc := true, dwin := true },
  body := fun c x w v => do
    let (n, high) := count32 v.c.1
    if v.c.1 = 0 then pure {}
    else
      let as ← Eng.ranges c x [{ win := w.dwin.toNat, off := v.a.1.toNat, len := n, right := 1 }] high
      Eng.zeroArea c (areaAt as 0)
      pure {} }

/-- PREFETCH (R330): each line into the near cache, clean, without a snoop. -/
def prefetchPel : Pel := {
  op := 0x23, form := Form.ok { fmt := 2, rb := true, rc := true, swin := true, mod := 8 },
  body := fun c x w v => do
    let (n, high) := count32 v.c.1
    if v.c.1 = 0 then pure {}
    else
      let as ← Eng.ranges c x [{ win := w.swin.toNat, off := v.b.1.toNat, len := n }] high
      let _ ← Eng.read { c with stale := true, alloc := true } (areaAt as 0) 0 n
      pure {} }

/-- MIGRATE and SPILL: the page that rb names (R331), and the move (R246 to R260). The result is told when the move ends. -/
def moveBody (c : Ctx) (v : Vals) (kind : MoveKind) (chan : Option Nat) (port : Nat) : Eng Result := fun d =>
  let g := bitsOf v.b.1.toNat 63 58
  let page := bitsOf v.b.1.toNat 57 25
  let x := d.grotto g
  let own := match d.queue? c.q with
    | some y => privQ c.q || y.recd.grotto == g
    | none => false
  if !own then .error (.fault 0x0205 {} d)
  else if (x.committed + x.elasticMax) * unitPages ≤ page then .error (.fault 0x0206 {} d)
  else
    match d.startMove { kind := kind, g := g, page := page, gen := BitVec.ofNat 8 v.b.1.toNat, chan := chan, port := port } (some (c.q, c.pos)) with
    | .started d1 => .ok ({}, d1)
    | .refused st => .ok ({ status := st, r0 := d.entry g page }, d)
    | .busy => .error (.wait .hold)

/-- MIGRATE (R331, R332). A warm target rewrites a warm page and demotes a hot one. -/
def migratePel : Pel := {
  op := 0x24,
  form := fun w => Form.ok { fmt := 6, rb := true, imm := if w.mod = 2 then 31 else 0, mod := 3 } w && decide (w.mod.toNat ≤ 2),
  body := fun c _ w v => do
    let d ← Eng.dev
    let g := bitsOf v.b.1.toNat 63 58
    let warm := peState (d.entry g (bitsOf v.b.1.toNat 57 25)) == 2
    match w.mod.toNat with
    | 0 => moveBody c v .promote none 0
    | 1 => moveBody c v (if warm then .rewrite else .demote) none 0
    | _ => moveBody c v .relocate (if w.imm.getLsbD 4 then some (w.imm.toNat % 16) else none) 0 }

/-- SPILL to the neighbour on E0 or E1 (R333). -/
def spillPel : Pel := {
  op := 0x25, form := Form.ok { fmt := 6, rb := true, mod := 1 },
  body := fun c _ w v => moveBody c v .spill none (w.mod.toNat % 2) }

/-- COPY (R328). -/
def execCopy (q : Nat) (w : PWord) (s : State) : Answer := s.issue q w copyPel
/-- FILL (R329). -/
def execFill (q : Nat) (w : PWord) (s : State) : Answer := s.issue q w fillPel
/-- ZERO (R329). -/
def execZero (q : Nat) (w : PWord) (s : State) : Answer := s.issue q w zeroPel
/-- PREFETCH (R330). -/
def execPrefetch (q : Nat) (w : PWord) (s : State) : Answer := s.issue q w prefetchPel
/-- MIGRATE (R331, R332). -/
def execMigrate (q : Nat) (w : PWord) (s : State) : Answer := s.issue q w migratePel
/-- SPILL (R331, R333). -/
def execSpill (q : Nat) (w : PWord) (s : State) : Answer := s.issue q w spillPel

end Sys2Proof.Machine
end

