-- ==== Sys2Proof/Machine/Atomics.lean ====
section
/-!
DEFINITION. Atomic instructions (R171 to R173, R343 to R345).
-/
namespace Sys2Proof.Machine

/-- Take a line for an atomic (R171, R172): the line of a free one goes to D, or is locked by its slice, at once; otherwise the claim goes to the
line's arbiter and takes its turn behind the snoop round, the other atomic or the tracker that it waits for (R163, R164). The line is held
until the journal entry is committed. -/
def Eng.own (c : Ctx) (g line : Nat) : Eng Unit := fun d =>
  if d.owns c g line then .ok ((), d)
  else if d.reading c.who g line then .error (.wait .hold)
  else if d.slices.locks.any fun l => l.1 == lineKey g line then .error (.wait (.own g line))
  else
    let r := c.req g line .atomic
    if !(d.grotto g).db then .ok ((), d.grant r)
    else match d.dirKnown g line with
      | (false, _) => .error (.wait (.own g line))
      | (true, d1) =>
        if (d1.dirGet g line).isSome ∨ 16 ≤ (d1.dirWays g line).length ∨ d1.trackersFull g line = true then .error (.wait (.own g line))
        else .ok ((), (d1.dirStep r).2.grant r)

/-- An atomic cannot be served without a near-cache line: it waits until a way may be chosen (R190). -/
def Eng.roomFor (g line : Nat) : Eng Unit := fun d =>
  if (d.ncGet g line).isSome ∨ (d.ncRoom g line).isSome then .ok ((), d) else .error (.wait .hold)

/-- Read the old value in the near cache and write the new one over the whole line (R171, R344). -/
def atomicAt (c : Ctx) (a : Area) (f : Nat → Option Nat) : Eng Nat := do
  let line := a.base / 64
  let off := a.base % 64
  if a.resv then
    let bs ← Eng.read c a 0 a.len
    match f (numOf bs) with
    | some n => Eng.write c a 0 (clean (bytesOfNat a.len n))
    | none => pure ()
    pure (numOf bs)
  else
    Eng.own c a.g line
    let (y, poison) ← Eng.line { c with alloc := true } a.g line
    Eng.check (!poison) 0x020A
    Eng.roomFor a.g line
    let v := natOfBytes (((lineBytes y).drop off).take a.len)
    match f v with
    | some n =>
      let new : LineData := BitVec.ofNat 512 (n <<< (8 * off))
      let all := mergeLine y new (maskRange off a.len)
      Eng.upd fun d => d.applyWrite (c.req a.g line (.write fullMask all false)) fullMask all false
    | none => pure ()
    pure v

/-- An atomic of an opcode (R343): the old value goes to the result registers and words. -/
def atomicPel (op : Nat) : Pel := {
  op := op,
  form := fun w => Form.ok { fmt := 3, ra := true, rb := true, rc := true, dwin := true, imm := immAll, mod := 1 } w &&
    (!w.mod.getLsbD 0 || (w.ra.toNat % 2 == 0 && w.rb.toNat % 2 == 0)),
  body := fun c x w v => do
    let wide := w.mod.getLsbD 0
    let n := if wide then 16 else 8
    let as ← Eng.ranges c x [{ win := w.dwin.toNat, off := v.c.1.toNat + w.imm.toNat, len := n, right := 2, align := n }]
    let cas := op == 0x81
    Eng.check (!(v.b.2 || (wide && v.b1.2) || (cas && (v.a.2 || (wide && v.a1.2))))) 0x020A
    let b := v.b.1.toNat + if wide then v.b1.1.toNat * 2 ^ 64 else 0
    let a := v.a.1.toNat + if wide then v.a1.1.toNat * 2 ^ 64 else 0
    let f (old : Nat) : Option Nat :=
      if cas ∧ old ≠ a then none
      else if wide then some (atomicOp op (BitVec.ofNat 128 old) (BitVec.ofNat 128 b) (BitVec.ofNat 128 a)).toNat
      else some (atomicOp op (BitVec.ofNat 64 old) (BitVec.ofNat 64 b) (BitVec.ofNat 64 a)).toNat
    let old ← atomicAt c (areaAt as 0) f
    let lo : Word := BitVec.ofNat 64 old
    let hi : Word := BitVec.ofNat 64 (old / 2 ^ 64)
    let slice := homeSlice (areaAt as 0).g ((areaAt as 0).base / 64)
    pure (if wide then { r0 := lo, r1 := hi, regs := [(rn w.ra, lo, false), (rn w.ra + 1, hi, false)], work := [slice] }
      else { r0 := lo, regs := [(rn w.ra, lo, false)], work := [slice] }) }

/-- ADD (R343). -/
def execAdd (q : Nat) (w : PWord) (s : State) : Answer := s.issue q w (atomicPel 0x80)
/-- CAS (R343). -/
def execCas (q : Nat) (w : PWord) (s : State) : Answer := s.issue q w (atomicPel 0x81)
/-- SWAP (R343). -/
def execSwap (q : Nat) (w : PWord) (s : State) : Answer := s.issue q w (atomicPel 0x82)
/-- SMIN (R343). -/
def execSmin (q : Nat) (w : PWord) (s : State) : Answer := s.issue q w (atomicPel 0x83)
/-- UMIN (R343). -/
def execUmin (q : Nat) (w : PWord) (s : State) : Answer := s.issue q w (atomicPel 0x84)
/-- SMAX (R343). -/
def execSmax (q : Nat) (w : PWord) (s : State) : Answer := s.issue q w (atomicPel 0x85)
/-- UMAX (R343). -/
def execUmax (q : Nat) (w : PWord) (s : State) : Answer := s.issue q w (atomicPel 0x86)

end Sys2Proof.Machine
end

