-- ==== Sys2Proof/Machine/Control.lean ====
section
/-!
DEFINITION. Control instructions (R316 to R327).
-/
namespace Sys2Proof.Machine

def noEffect : Ctx → Queue → PWord → Vals → Eng Result := fun _ _ _ _ => pure {}

def nopPel : Pel := { op := 0x00, form := Form.ok { fmt := 0 }, body := noEffect }
def haltPel : Pel := { op := 0x01, form := Form.ok { fmt := 0 }, body := noEffect }
def fencePel : Pel := { op := 0x02, form := Form.ok { fmt := 0 }, body := noEffect }

/-- SIGNAL: result words imm, rb and rc (R319). -/
def signalPel : Pel := {
  op := 0x03, form := Form.ok { fmt := 1, rb := true, rc := true, imm := immAll, mod := 1 },
  body := fun _ _ w v => pure { r0 := w.imm, r1 := v.b.1, r2 := v.c.1 } }

/-- Whether an immediate names a distance of 1 to 63. -/
def near (w : PWord) : Bool := decide (1 ≤ w.imm.toNat ∧ w.imm.toNat ≤ 63)

/-- BRANCH consumes the registers it compares (R320, R325); where it goes is said at issue. -/
def branchPel : Pel := {
  op := 0x04,
  form := fun w => Form.ok { fmt := 1, rb := true, rc := true, imm := immAll, mod := 7 } w && near w && decide (w.mod.toNat ≤ 6),
  body := fun _ _ w v => do
    Eng.check (w.mod.toNat == 6 || !(v.b.2 || v.c.2)) 0x020A
    pure {} }

/-- LOOP: the counter minus 1 (R321); loops do not nest. -/
def loopPel : Pel := {
  op := 0x05, form := fun w => Form.ok { fmt := 1, ra := true, imm := immAll } w && near w,
  body := fun c x w v => do
    Eng.check (match x.loop with
      | some (st, n) => st == c.pos - w.imm.setWidth 32 && n == w.imm.toNat
      | none => true) 0x0215
    pure { regs := [(rn w.ra, v.a.1 - 1, false)] } }

/-- SETI: imm to ra (R323). -/
def setiPel : Pel := {
  op := 0x08, form := Form.ok { fmt := 1, ra := true, imm := immAll },
  body := fun _ _ w _ => pure { regs := [(rn w.ra, w.imm, false)] } }

/-- ALU: rb with rc + imm (R323). -/
def aluPel : Pel := {
  op := 0x09,
  form := fun w => Form.ok { fmt := 1, ra := true, rb := true, rc := true, imm := immAll, mod := 15 } w && decide (w.mod.toNat ≤ 10),
  body := fun _ _ w v => do
    Eng.check (!(v.b.2 || v.c.2)) 0x020A
    pure { regs := [(rn w.ra, aluOp w.mod.toNat v.b.1 (v.c.1 + w.imm), false)] } }

/-- LOAD: 8 bytes; poison marks the register and does not fault (R324). -/
def loadPel : Pel := {
  op := 0x0A, form := Form.ok { fmt := 2, ra := true, rb := true, swin := true, imm := immAll, mod := 8 },
  body := fun c x w v => do
    let as ← Eng.ranges c x [{ win := w.swin.toNat, off := v.b.1.toNat + w.imm.toNat, len := 8, align := 8 }]
    let bs ← Eng.read { c with alloc := true } (as.headD ⟨true, 0, 0, 0⟩) 0 8
    pure { regs := [(rn w.ra, BitVec.ofNat 64 (numOf bs), bs.any (·.2))] } }

/-- STORE: 8 bytes; a marked register writes the line poisoned (R324, R325). -/
def storePel : Pel := {
  op := 0x0B, form := Form.ok { fmt := 3, rb := true, rc := true, dwin := true, imm := immAll },
  body := fun c x w v => do
    let as ← Eng.ranges c x [{ win := w.dwin.toNat, off := v.b.1.toNat + w.imm.toNat, len := 8, right := 1, align := 8 }]
    Eng.write c (as.headD ⟨true, 0, 0, 0⟩) 0 ((bytesOfNat 8 v.c.1.toNat).map fun b => (b, v.c.2))
    pure {} }

/-- The comparison of WAIT mode 1 (R327). -/
def waitHolds (w : PWord) (x y : Word) : Bool :=
  match w.mod.toNat / 2 % 4 with
  | 0 => x == y
  | 1 => x != y
  | 2 => !x.ult y
  | _ => x.ult y

/-- WAIT (R327): mode 0 until device time reaches rb; mode 1 until a comparison of a word with rc holds. -/
def waitPel : Pel := {
  op := 0x06,
  form := fun w =>
    if w.mod.getLsbD 0 then
      Form.ok { fmt := 2, ra := true, rb := true, rc := true, swin := true, imm := 2 ^ 32 - 1, mod := 15 } w &&
        decide (w.imm.toNat ≤ 16000000)
    else Form.ok { fmt := 2, ra := true, rb := true } w,
  body := fun c x w v => do
    if w.mod.getLsbD 0 then
      let as ← Eng.ranges c x [{ win := w.swin.toNat, off := v.b.1.toNat, len := 8, align := 8 }]
      Eng.check (!v.c.2) 0x020A
      let bs ← Eng.read { c with alloc := true } (as.headD ⟨true, 0, 0, 0⟩) 0 8
      Eng.check (!(bs.any (·.2))) 0x020A
      let y : Word := BitVec.ofNat 64 (numOf bs)
      if waitHolds w y v.c.1 then pure { regs := [(rn w.ra, y, false)] }
      else if w.imm = 0 then pure { status := 0x0101, regs := [(rn w.ra, y, false)] }
      else Eng.wait .poll
    else
      let d ← Eng.dev
      if v.b.1.toNat ≤ d.timeNs then pure { regs := [(rn w.ra, BitVec.ofNat 64 d.timeNs, false)] } else Eng.wait .hold }

/-- TIMER: device time plus rb + imm nanoseconds (R326). -/
def timerPel : Pel := {
  op := 0x07, form := Form.ok { fmt := 1, ra := true, rb := true, imm := immAll },
  body := fun _ _ w v => do
    let d ← Eng.dev
    pure { regs := [(rn w.ra, BitVec.ofNat 64 d.timeNs + v.b.1 + w.imm, false)] } }

/-- An undefined opcode, or an undefined mod of format M: illegal at decode step 1 (R314, R643). -/
def illegalPel (op : Nat) : Pel := { op := op, form := fun _ => false, body := noEffect }

/-- NOP (R316). -/
def execNop (q : Nat) (w : PWord) (s : State) : Answer := s.issue q w nopPel
/-- HALT (R317). -/
def execHalt (q : Nat) (w : PWord) (s : State) : Answer := s.issue q w haltPel
/-- FENCE (R316, R284). -/
def execFence (q : Nat) (w : PWord) (s : State) : Answer := s.issue q w fencePel
/-- SIGNAL (R319, R290). -/
def execSignal (q : Nat) (w : PWord) (s : State) : Answer := s.issue q w signalPel
/-- BRANCH (R320). -/
def execBranch (q : Nat) (w : PWord) (s : State) : Answer := s.issue q w branchPel
/-- LOOP (R321, R322, R645). -/
def execLoop (q : Nat) (w : PWord) (s : State) : Answer := s.issue q w loopPel
/-- WAIT (R327). -/
def execWait (q : Nat) (w : PWord) (s : State) : Answer := s.issue q w waitPel
/-- TIMER (R326). -/
def execTimer (q : Nat) (w : PWord) (s : State) : Answer := s.issue q w timerPel
/-- SETI (R323). -/
def execSeti (q : Nat) (w : PWord) (s : State) : Answer := s.issue q w setiPel
/-- ALU (R323). -/
def execAlu (q : Nat) (w : PWord) (s : State) : Answer := s.issue q w aluPel
/-- LOAD (R324). -/
def execLoad (q : Nat) (w : PWord) (s : State) : Answer := s.issue q w loadPel
/-- STORE (R324). -/
def execStore (q : Nat) (w : PWord) (s : State) : Answer := s.issue q w storePel
/-- ILLEGAL_INSTRUCTION (R314, R278 step 1): a word whose opcode or format M action the opcode map does not define. -/
def execIllegalInstruction (q : Nat) (word : BitVec 128) (s : State) : Answer :=
  match pelmicOf q word with
  | .illegalInstruction _ _ => s.issue q (fieldsOf word) (illegalPel (opOf word).toNat)
  | _ => .next s

end Sys2Proof.Machine
end

