-- ==== Sys2Proof/Machine/Hss.lean ====
section
/-!
DEFINITION. Hash-based signatures under RFC 8554, which the rules name (PRESUMED, log 85): verification of the two-level HSS signature of
a firmware image, LMS_SHA256_M32_H20 with LMOTS_SHA256_N32_W8 (R570, R572), and the device's own three-level identity key,
LMS_SHA256_M32_H10 with the same one-time signature (R589, R590).
-/
namespace Sys2Proof.Machine

/-- A number in n bytes, most significant first, and back. -/
def bigBytes (n v : Nat) : List Byte := (bytesOfNat n v).reverse
def bigNat (bs : List Byte) : Nat := natOfBytes bs.reverse
def part (bs : List Byte) (off n : Nat) : List Byte := (bs.drop off).take n

/-- A Winternitz chain from step a on, n steps. -/
def otsChain (pre : List Byte) : Nat → Nat → List Byte → List Byte
  | 0, _, y => y
  | n + 1, a, y => otsChain pre n (a + 1) (sha256 (pre ++ bigBytes 1 a ++ y))

/-- The digest that a one-time key signs, by its randomizer, with the sum of what its bytes leave to 255: one step count for each of the
34 chains. -/
def otsSteps (pre c msg : List Byte) : List Nat :=
  let q := sha256 (pre ++ bigBytes 2 0x8181 ++ c ++ msg)
  (q ++ bigBytes 2 (q.map fun b => 255 - b.toNat).sum).map (·.toNat)

/-- The 34 chains of a one-time key, each n i steps from step a i on. -/
def otsChains (pre : List Byte) (a n : Nat → Nat) (x : Nat → List Byte) : List Byte :=
  (List.range 34).flatMap fun i => otsChain (pre ++ bigBytes 2 i) (n i) (a i) (x i)

/-- The public key that a one-time signature gives for a message: 34 chains of a byte each. -/
def otsKey (pre : List Byte) (sig msg : List Byte) : List Byte :=
  let a i := (otsSteps pre (part sig 4 32) msg).getD i 0
  sha256 (pre ++ bigBytes 2 0x8080 ++ otsChains pre a (fun i => 255 - a i) fun i => part sig (36 + 32 * i) 32)

/-- A leaf of a tree over a one-time public key, and a node over its two children. -/
def leafHash (id : List Byte) (node : Nat) (k : List Byte) : List Byte := sha256 (id ++ bigBytes 4 node ++ bigBytes 2 0x8282 ++ k)
def nodeHash (id : List Byte) (node : Nat) (l r : List Byte) : List Byte := sha256 (id ++ bigBytes 4 node ++ bigBytes 2 0x8383 ++ l ++ r)

/-- From a node up to the root, with the path. -/
def lmsUp (id : List Byte) : Nat → Nat → List Byte → List Byte → List Byte
  | 0, _, _, t => t
  | n + 1, node, path, t =>
    let p := path.take 32
    lmsUp id n (node / 2) (path.drop 32) (if node % 2 = 1 then nodeHash id (node / 2) p t else nodeHash id (node / 2) t p)

/-- Length of a signature of one level, by the height of its tree. -/
def lmsLen (h : Nat) : Nat := 4 + (4 + 32 + 34 * 32) + 4 + h * 32

/-- The type code of the LMS parameter sets with SHA-256 and 32 bytes, of heights 5, 10, 15, 20 and 25. -/
def lmsType (h : Nat) : Nat := h / 5 + 4

/-- Whether a signature of one level verifies under its public key of 56 bytes, by the height of its tree. -/
def lmsVerifies (h : Nat) (pub sig msg : List Byte) : Bool :=
  let id := part pub 8 16
  let q := bigNat (part sig 0 4)
  let leaf := 2 ^ h + q
  let root := lmsUp id h leaf (part sig 1132 (h * 32)) (leafHash id leaf (otsKey (id ++ bigBytes 4 q) (part sig 4 1124) msg))
  bigNat (part pub 0 4) == lmsType h && bigNat (part pub 4 4) == 4 && bigNat (part sig 4 4) == 4 &&
    bigNat (part sig 1128 4) == lmsType h && decide (q < 2 ^ h) && root == part pub 24 32

/-- Whether the signature of an image header verifies under the public key that the header holds (R570). -/
def imageVerifies (header : List Byte) : Bool :=
  let msg := part header 0 112
  let pub := part header 52 60
  let sig := part header 112 3604
  let pub1 := part sig (4 + lmsLen 20) 56
  bigNat (part pub 0 4) == 2 && bigNat (part sig 0 4) == 1 && lmsVerifies 20 (part pub 4 56) (part sig 4 (lmsLen 20)) pub1 &&
    lmsVerifies 20 pub1 (part sig (60 + lmsLen 20) (lmsLen 20)) msg

/-! ### The identity key (R589, R590) -/

/-- A tree: its identifier and its seed. -/
structure LmsTree where
  id   : List Byte
  seed : List Byte
  deriving DecidableEq, Repr

/-- The pseudorandom method of RFC 8554 Appendix A: the value of a tree for leaf q and index i. -/
def LmsTree.value (t : LmsTree) (q i : Nat) : List Byte := sha256 (t.id ++ bigBytes 4 q ++ bigBytes 2 i ++ [0xFF#8] ++ t.seed)

/-- The tree below leaf q. Appendix A gives indices 0 to 33 to the private values of a leaf; identifiers, seeds and randomizers take
indices at the end of the range (PRESUMED, log 100). -/
def LmsTree.below (t : LmsTree) (q : Nat) : LmsTree := { id := (t.value q 0xFFFF).take 16, seed := t.value q 0xFFFE }
def LmsTree.randomizer (t : LmsTree) (q : Nat) : List Byte := t.value q 0xFFFD

/-- The top tree of an identity seed. -/
def identityTree (seed : BitVec 256) : LmsTree :=
  let s := bytesOfNat 32 seed.toNat
  { id := (({ id := List.replicate 16 0#8, seed := s } : LmsTree).value 0 0xFFFF).take 16, seed := s }

/-- Node r of a tree at a height above its leaves, which are nodes 2 ^ h on. -/
def LmsTree.node (t : LmsTree) (h : Nat) : Nat → Nat → List Byte
  | 0, r =>
    let pre := t.id ++ bigBytes 4 (r - 2 ^ h)
    leafHash t.id r (sha256 (pre ++ bigBytes 2 0x8080 ++ otsChains pre (fun _ => 0) (fun _ => 255) (t.value (r - 2 ^ h))))
  | n + 1, r => nodeHash t.id r (t.node h n (2 * r)) (t.node h n (2 * r + 1))

/-- The public key of a tree, 56 bytes. -/
def LmsTree.pub (t : LmsTree) (h : Nat) : List Byte := bigBytes 4 (lmsType h) ++ bigBytes 4 4 ++ t.id ++ t.node h h 1

/-- The other child of the parent of a node. -/
def otherChild (r : Nat) : Nat := if r % 2 = 1 then r - 1 else r + 1

/-- The signature of a message at leaf q of a tree. -/
def LmsTree.sign (t : LmsTree) (h q : Nat) (msg : List Byte) : List Byte :=
  let pre := t.id ++ bigBytes 4 q
  let c := t.randomizer q
  let path := (List.range h).flatMap fun k => t.node h k (otherChild ((2 ^ h + q) / 2 ^ k))
  bigBytes 4 q ++ bigBytes 4 4 ++ c ++ otsChains pre (fun _ => 0) (fun i => (otsSteps pre c msg).getD i 0) (t.value q) ++
    bigBytes 4 (lmsType h) ++ path

/-- The identity public key, 60 bytes: three levels over a tree of height 10. -/
def identityKey (seed : BitVec 256) : List Byte := bigBytes 4 3 ++ (identityTree seed).pub 10

/-- The signature of a message at leaf index q, 4,472 bytes: leaf q >> 20 of the top tree signs the middle tree's key, leaf
(q >> 10) & 0x3FF of it the bottom tree's, and leaf q & 0x3FF of that the message (R590). -/
def identitySign (seed : BitVec 256) (q : Nat) (msg : List Byte) : List Byte :=
  let top := identityTree seed
  let mid := top.below (q / 2 ^ 20)
  let bot := mid.below (q / 2 ^ 10 % 1024)
  bigBytes 4 2 ++ top.sign 10 (q / 2 ^ 20) (mid.pub 10) ++ mid.pub 10 ++ mid.sign 10 (q / 2 ^ 10 % 1024) (bot.pub 10) ++ bot.pub 10 ++
    bot.sign 10 (q % 1024) msg

/-- Whether a signature verifies under an identity public key. -/
def identityVerifies (pub sig msg : List Byte) : Bool :=
  let n := lmsLen 10
  let mid := part sig (4 + n) 56
  let bot := part sig (60 + 2 * n) 56
  bigNat (part pub 0 4) == 3 && bigNat (part sig 0 4) == 2 && lmsVerifies 10 (part pub 4 56) (part sig 4 n) mid &&
    lmsVerifies 10 mid (part sig (60 + n) n) bot && lmsVerifies 10 bot (part sig (116 + 2 * n) n) msg

end Sys2Proof.Machine
end

