-- ==== Sys2Proof/Machine/PortOps.lean ====
section
/-!
DEFINITION. What happens at a host port: PERST_N, link up and down, decoder commits, register-access EVENTs (02, 17).
-/
namespace Sys2Proof.Machine

/-- The EVENT of a register access (R617); bar 3 is the management path. -/
def Dev.regEvent (d : Dev) (link ld bar off detail : Nat) : Dev :=
  d.event unitRegs 4 (link % 8 * 2 ^ 45 + ld % 16 * 2 ^ 41 + bar % 4 * 2 ^ 39 + off % 2 ^ 32) detail

/-- The link that a PERST_N pin resets (R627): the B pin of an unsplit port is ignored. -/
def Dev.perstLink (d : Dev) (port : Nat) (halfB : Bool) : Option Nat :=
  if port < 4 then (if halfB then (if d.split port then some (port + 4) else none) else some port) else none

/-- A request whose link is gone: nobody is answered, whatever the link does later (R68, R70). -/
def Req.unheard (l : Nat) (r : Req) : Req := if r.fromLink l then { r with who := .quiet } else r

/-- Requests that PERST_N keeps among those past their arbiter: all but reads of the link; the writes are applied and answered to nobody
(R68). -/
def keepPast (l : Nat) (rs : List Req) : List Req := (rs.filter fun r => !r.fromLink l || r.op.isWrite).map (·.unheard l)

/-- Requests that PERST_N keeps among those ahead of their arbiter. -/
def keepAhead (l : Nat) (rs : List Req) : List Req := rs.filter fun r => !r.fromLink l

/-- Discard what a link had in flight (R68). -/
def Dev.dropFlight (d : Dev) (l : Nat) : Dev :=
  let d1 := d.onPages fun p => { p with
    fills := p.fills.map fun f => { f with waiting := keepAhead l f.waiting },
    mapWait := keepAhead l p.mapWait,
    frameWait := keepAhead l p.frameWait,
    creditWait := keepAhead l p.creditWait,
    dreads := p.dreads.filter fun x => !x.req.fromLink l,
    sreads := p.sreads.filter fun x => !x.req.fromLink l,
    fars := (p.fars.filter fun x => !x.req.fromLink l || x.req.op.isWrite).map (fun x => { x with req := x.req.unheard l }),
    mirrorWait := p.mirrorWait.map fun x => (x.1, x.2.1, x.2.2.unheard l),
    promos := p.promos.map fun x => { x with held := keepPast l x.held },
    recomps := p.recomps.map fun x => { x with merged := x.merged.map (·.unheard l), later := keepPast l x.later },
    moves := p.moves.map fun x => { x with held := keepPast l x.held } }
  let d2 := d1.onRope fun r => { r with pages := r.pages.map fun x => { x with waiting := keepPast l x.waiting } }
  let d3 : Dev := { d2 with late := d2.late.filter (cmdLink · != some l), unsent := d2.unsent.filter (cmdLink · != some l) }
  d3.onSlices fun s => { s with
    slotWait := keepAhead l s.slotWait,
    dir := s.dir.map fun e => (e.1, { e.2 with track := { e.2.track with
      cause := (e.2.track.cause.filter fun r => !r.fromLink l || r.op.isWrite).map (·.unheard l),
      parked := keepPast l e.2.track.parked } }) }

/-- Clear every record of a link's logical devices and poison the lines they held in E (R69): the number poisoned. -/
def Dev.clearHolders (d : Dev) (l : Nat) : Nat × Dev :=
  if d.slices.saved then (0, d)
  else
  let mine (s : Nat) : Bool := s / 16 == l
  d.slices.dir.foldl (fun (acc : Nat × Dev) e =>
    let (n, d) := acc
    let g := keyGrotto e.1
    let line := keyLine e.1
    match e.2.st with
    | .E => if e.2.sharers.any mine then (n + 1, (d.dirDrop g line).poisonWhole g line) else (n, d)
    | .S =>
      let sh := e.2.sharers.filter (!mine ·)
      if e.2.bcast ∨ sh.length = e.2.sharers.length then (n, d)
      else (n, if sh.isEmpty then d.dirDrop g line else d.dirPut g line { e.2 with sharers := sh })
    | .B =>
      let lost := e.2.track.priorE && e.2.track.prior.any mine && d.slices.snoops.any fun s =>
        s.g == g && s.line == line && s.link == l
      let d1 := d.onSlices fun s => { s with snoops := s.snoops.filter fun x => !(x.g == g && x.line == line && x.link == l) }
      let d2 := d1.dirPut g line { e.2 with track := { e.2.track with
        leftS := e.2.track.leftS.filter (!mine ·), leftE := e.2.track.leftE.filter (!mine ·) } }
      let d3 := if lost then d2.poisonWhole g line else d2
      ((if lost then n + 1 else n), d3.checkRound g line)
    | .D => (n, d)) (0, d)

/-- A queue whose completion ring lies in host memory behind a link stops in the port-reset state (R70): what it had accepted before still
completes, unless it had stopped already. -/
def Dev.portResetQueues (d : Dev) (l : Nat) : Dev :=
  d.onQueues fun q => { q with qs := q.qs.map fun e =>
    let x := d.grotto e.2.recd.grotto
    if 16 ≤ e.1 ∧ e.1 < 8192 ∧ e.2.recd.crHost ∧ x.ownerLink = l ∧ e.2.state ≠ 0 ∧ e.2.state ≠ 5 then
      (e.1, { e.2 with
        state := 4, run := false,
        resetTail := if e.2.state = 4 then e.2.resetTail else if e.2.run ∧ e.2.state ≠ 3 then e.2.tail else e.2.head })
    else e }

/-- What PERST_N leaves of a logical device: its options, logs, poison list and commands, not its configuration (R58, R67). -/
def Ld.afterPerst (x : Ld) : Ld :=
  { x with decoders := [], msixOn := false, unmasked := [], pendVec := [], table := [], policy := 0 }

/-- Reset a link (R67 to R70, R56). -/
def Dev.resetLink (d : Dev) (l : Nat) : Dev :=
  let (n, d1) := (d.dropFlight l).clearHolders l
  let d2 := (d1.portResetQueues l).after
  let d3 := (List.range 17).foldl (fun d ld => d.setLd l ld (d.ld l ld).afterPerst) d2
  d3.setLink l { perst := true, cleanup := true, poisoned := (d.link l).poisoned + n }

/-- The directory is back from its image: the records of links that were reset meanwhile are cleared (R69). -/
def Dev.dirBack (d : Dev) : Dev :=
  (d.links.filter fun e => e.2.cleanup).foldl (fun (d : Dev) e =>
    let (n, d1) := d.clearHolders e.1
    d1.setLink e.1 { d1.link e.1 with poisoned := (d1.link e.1).poisoned + n }) d.restoreDir

/-- PERST_N of a port or half falls: the split recorded for the port takes effect (R32), and the links it names are reset. On a split port
whose record has changed, either half's pin does it and resets both halves; in HOLD too the pin resets the kept configuration at once
(R72 names only one after the link-up): DESIGN CHOICE, log 89. -/
def Dev.perstFall (d : Dev) (port : Nat) (halfB : Bool) : Dev :=
  match d.perstLink port halfB with
  | none => d
  | some l =>
    if d.power.mode = .off ∨ (d.link l).perst then d
    else
      let d1 := d.wake 2 l
      let p := d1.port port
      if p.split = p.recorded then d1.resetLink l
      else
        let d2 := (d1.resetLink port).resetLink (port + 4)
        { d2 with ports := mset d2.ports port { p with split := p.recorded } }

/-- The cleanup of a reset ends (R69): one EVENT with the number of lines poisoned. -/
def Dev.perstClean (d : Dev) (l : Nat) : Dev :=
  let k := d.link l
  if k.cleanup ∧ d.live ∧ !d.slices.saved then (d.setLink l { k with cleanup := false, poisoned := 0 }).event (unitLink l) 0 0 (k.poisoned % 2 ^ 32)
  else d

def Dev.perstRise (d : Dev) (port : Nat) (halfB : Bool) : Dev :=
  match d.perstLink port halfB with
  | none => d
  | some l =>
    let d1 := d.wake 2 l
    let rise (d : Dev) (l : Nat) : Dev := d.setLink l { d.link l with perst := false }
    if d1.split port then rise d1 l else rise (rise d1 port) (port + 4)

/-- Rates of R34 in MT/s. -/
def linkRates : List Nat := [2500, 5000, 8000, 16000, 32000, 64000, 128000]

/-- The transmitter presets of PCI Express, by number (R36). -/
def presetCount : Nat := 11

/-- Lane margining (R36): timing steps to each side, which reach half a unit interval, and voltage steps to each side, which reach 200 mV. The
error sampler is independent, so that margining leaves every state as it is. -/
def marginTiming : Nat := 32
def marginVoltage : Nat := 64

/-- Presets after the partner's requests, lane by lane: one outside the table is rejected, and the lane keeps its preset (R36). -/
def Link.preset (k : Link) (asked : List (Nat × Nat)) : AMap Nat :=
  asked.foldl (fun m a => if a.2 < presetCount ∧ a.1 < 16 then mput m 0 a.1 a.2 else m) k.presets

/-- A link has trained (R34, R35, R71): not before its PERST_N is high and its cleanup done. The IDs that the fabric manager and the upstream
component have assigned come with it (R44, R51). A link that waits for PERST_N after PME_Turn_Off goes on waiting (R75). -/
def Dev.linkTrained (d : Dev) (l : Nat) (cxl : Bool) (rate width : Nat) (o : LinkUp) : Dev :=
  let k := d.link l
  let most := if d.split (portOf l) then 8 else 16
  if !d.linkExists l || k.up || k.perst || k.cleanup || !d.live || d.asleep || !linkRates.contains rate || width == 0 || decide (most < width)
  then d
  else
    let d1 := d.setLink l { k with 
      up := true, cxl := cxl, rate := rate, width := width, macError := false, presets := k.preset o.presets,
      pbr := o.pbr.orElse fun _ => k.pbr, biId := o.biId.getD k.biId, l0p := o.l0p, aspm := o.aspm }
    if cxl then d1 else d1.raise { code := 0x8002, cls := 2, unit := unitLink l }

/-- A link goes down (R33): nothing on the other half changes. Messages whose MAC had not come go with it. -/
def Dev.linkLost (d : Dev) (l : Nat) : Dev :=
  let k := d.link l
  if k.up then d.setLink l { k with up := false, cxl := false, rate := 0, width := 0, narrow := false, inL1 := false, epoch := [] } else d

/-- An IDE integrity failure (R55): stream 0 is CXL.cachemem, 1 CXL.io. The requests of the epoch that failed are discarded with it, and all
later ones while the stream is insecure; its keys go, since IDE resumes only after a new exchange. -/
def Dev.ideFail (d : Dev) (l stream : Nat) : Dev :=
  let k := d.link l
  if k.up ∧ d.live then
    let bad : IdeStream := { insecure := true }
    let k1 : Link := if stream = 0 then { k with cacheIde := bad } else { k with ioIde := bad }
    (((d.setLink l { k1 with macError := true }).bump (128 + 16 * l + 7)).raise
      { code := 0x8001, cls := 3, unit := unitLink l }).linkLost l
  else d

/-- PME_Turn_Off is acknowledged (R75). -/
def Dev.pmeAck (d : Dev) (l : Nat) : Dev := (d.emit (.pmeToAck l)).setLink l { d.link l with pme := true }

/-- PME_Turn_Off arrives; one that comes in DEEP is acknowledged back in RUN (R74, R75). It names the link itself, so that no logical device
matters. -/
def Dev.pme (d : Dev) (l : Nat) (dpid : BitVec 12) : Dev := d.ioArrive l 16 dpid true (.pmeTurnOff l dpid) (·.pmeAck l)

/-! ### Decoders (R40, R41, R610) -/

def decoderCtl (n : Nat) : Nat := 0x1320 + 0x20 * n

def Dev.setDecoder (d : Dev) (l ld n : Nat) (k : Decoder) : Dev :=
  d.setLd l ld { d.ld l ld with decoders := mset (d.ld l ld).decoders n k }

/-- The cause for which a decoder is refused, 0 where it commits (R41). -/
def Dev.decoderCause (d : Dev) (l ld n : Nat) (k : Decoder) : Nat :=
  let x := d.ld l ld
  let start := ({ x with decoders := mset x.decoders n k }).dpaStart n
  let len := k.size.toNat / max 1 k.ways
  match d.rangeOf l ld start with
  | none => 1
  | some (g, a, _) =>
    let y := d.grotto g
    if len = 0 ∨ a.base + y.visible a < start + len then 1
    else if y.db ≠ k.typeDB then 2
    else if k.typeDB ∧ !(d.link l).biOn then 3
    else 0

/-- Interleave ways and granularities that a decoder can have (R37). -/
def waysKnown (n : Nat) : Bool := [1, 2, 3, 4, 6, 8, 12, 16].contains n
def granKnown (n : Nat) : Bool := [256, 512, 1024, 2048, 4096, 8192, 16384].contains n

/-- Write a decoder's fields and its commit bit. A locked one records the write (R616); until it is locked the fields of a committed one are
written as any (R12, R610), and it stays committed without a new check (R41). Ways or a granularity outside the table of R37 leave the field
as it was, with an EVENT (R14). -/
def Dev.commitDecoder (d : Dev) (l ld n : Nat) (c : DecoderCfg) : Dev :=
  let old := mgetD (d.ld l ld).decoders n {}
  if 4 ≤ n then d
  else if old.locked then d.regEvent l ld 0 (decoderCtl n) 1
  else
    let d1 := if waysKnown c.ways ∧ granKnown c.gran then d else d.regEvent l ld 0 (decoderCtl n) 2
    let k : Decoder := {
      base := BitVec.ofNat 64 c.base, size := BitVec.ofNat 64 c.size, ways := if waysKnown c.ways then c.ways else old.ways,
      gran := if granKnown c.gran then c.gran else old.gran, skip := c.skip, typeDB := c.typeDB, lockOnCommit := c.lock }
    if old.committed then d1.setDecoder l ld n { k with committed := true, position := old.position }
    else
      let cause := d1.decoderCause l ld n k
      if cause = 0 then
        d1.setDecoder l ld n { k with committed := true, locked := c.lock, position := if k.ways ≤ 1 then some 0 else none }
      else
        (d1.setDecoder l ld n { k with error := true }).event (unitLink l) 4 (decoderCtl n) (ld % 16 + n * 16 + cause * 256)

def Dev.uncommitDecoder (d : Dev) (l ld n : Nat) : Dev :=
  let old := mgetD (d.ld l ld).decoders n {}
  if 4 ≤ n then d
  else if old.locked then d.regEvent l ld 0 (decoderCtl n) 1
  else d.setDecoder l ld n { old with committed := false, error := false, position := none }

/-- A vector is unmasked (R60): a pending interrupt is sent. MSI-X counts as enabled from then on (log 14). -/
def Dev.unmask (d : Dev) (l ld k : Nat) : Dev :=
  if (d.ld l ld).vecCount ≤ k then d
  else
    let x := d.ld l ld
    let y : Ld := { x with msixOn := true, unmasked := x.unmasked.filter (· != k) ++ [k], pendVec := x.pendVec.filter (· != k) }
    if x.pendVec.contains k then (d.setLd l ld y).interrupt l ld k else d.setLd l ld y

end Sys2Proof.Machine
end

