-- ==== Sys2Proof/Machine/RegOps.lean ====
section
/-!
DEFINITION. The registers of the device block (R611 to R614) as they read, what a clearing read clears, and the counter
commands (13, 14, 15, 16, 17).
-/
namespace Sys2Proof.Machine

/-- The control view (R606). -/
def control (v : RegView) : Bool := v.mgmt || v.ld == 16

/-- BAR code of a view's accesses in R617. -/
def viewBar (v : RegView) (bar : Nat) : Nat := if v.mgmt then 3 else bar / 2

def Dev.viewEvent (d : Dev) (v : RegView) (bar off detail : Nat) : Dev := d.regEvent v.link v.ld (viewBar v bar) off detail

/-- The device answers over I3C (R636): not before firmware runs in BOOT. -/
def Dev.i3cAnswers (d : Dev) : Bool := d.live && (d.power.mode != .boot || d.fwUp)

/-- A register access arrives (R536): over I3C by the management path, or as a TLP of a link. The device block of BAR4 answers over a link
without CXL too (R35). -/
def Dev.viewArrive (d : Dev) (v : RegView) (bar : Nat) (c : Instr) (k : Dev → Dev) : Dev :=
  if v.mgmt then (if d.i3cAnswers then k (d.wake 5 0) else d) else d.ioArrive v.link v.ld v.dpid (bar == 4) c k

/-! ### Clearing reads (R12, R604) -/

/-- Bits of an RC register whose cause persists. -/
def Dev.faultStay (d : Dev) : BitVec 8 :=
  let c := d.faultCause
  (if c.getLsbD 8 then 0x40#8 else 0) ||| (if (c &&& 0xFF#9) != 0 then 0x20#8 else 0)

def Chan.faultStay (x : Chan) : BitVec 8 := (if x.over95 then 0x40#8 else 0) ||| 0x30#8

def EvPort.faultStay (x : EvPort) : BitVec 8 := if x.state = 0 then 0x80#8 else 0

def Dev.lostNow (d : Dev) : Nat := (d.chans.map fun e => e.2.lostBanks.length).sum

/-- Value that an RC register returns: its bits, and cause_present where some stay. -/
def rcValue (bits stay : Nat) : Word := BitVec.ofNat 64 (bits + if bits &&& stay = 0 then 0 else 2 ^ 63)

/-- Whether a read clears: all 64 bits, in the control view (R604, R606). -/
def clears (v : RegView) (wide : Bool) : Bool := control v && wide

/-- Answer a register read; a narrow one returns its low half. -/
def Dev.answerReg (d : Dev) (v : RegView) (wide : Bool) (x : Word) : Dev :=
  d.emit (.regData v (if wide then x else x &&& 0xFFFFFFFF#64))

def Dev.readFaultStatus (d : Dev) (clear : Bool) : Word × Dev :=
  let bits := d.faults.status
  let stay := d.faultStay
  (rcValue bits.toNat stay.toNat, if clear then d.onFaults fun f => { f with status := bits &&& stay } else d)

def Dev.readChFault (d : Dev) (n : Nat) (clear : Bool) : Word × Dev :=
  let x := d.chan n
  (rcValue x.fault.toNat x.faultStay.toNat, if clear then d.setChan n { x with fault := x.fault &&& x.faultStay } else d)

def Dev.readEvFault (d : Dev) (n : Nat) (clear : Bool) : Word × Dev :=
  let x := d.evPort n
  (rcValue x.fault.toNat x.faultStay.toNat, if clear then d.setEv n { x with fault := x.fault &&& x.faultStay } else d)

/-- CLASS_STATUS: missed bits clear, at_risk stays while the class is scaled (R509). -/
def Dev.readClassStatus (d : Dev) (clear : Bool) : Word × Dev :=
  let bits := ((List.range 16).map fun c => flag (d.class c).missed c + flag (d.class c).atRisk (16 + c)).sum
  let stay := ((List.range 16).map fun c => flag (decide ((d.class c).eff < (d.class c).guar)) (16 + c)).sum
  (rcValue bits stay,
   if clear then (List.range 16).foldl (fun (d : Dev) c =>
     let x := d.class c
     d.setClass c { x with missed := false, atRisk := x.atRisk && decide (x.eff < x.guar) }) d
   else d)

/-- PWR_RETAIN: canary_fail stays while a bank is lost (R559). -/
def Dev.readRetain (d : Dev) (clear : Bool) : Word × Dev :=
  let p := d.power
  let bits := flag p.retPg 3 + flag p.retTemp 2 + flag p.retCanary 1 + flag p.retHold 0
  let stay := flag (decide (0 < d.lostNow)) 1
  (rcValue bits stay,
   if clear then d.onPower fun q => { q with
     retPg := false, retTemp := false, retHold := false, retCanary := q.retCanary && decide (0 < d.lostNow) }
   else d)

/-- CNT_WRAPj (R522). -/
def Dev.readWrap (d : Dev) (j : Nat) (clear : Bool) : Word × Dev :=
  let bits := ((d.cnt.wrap.filter fun n => n / 64 == j).map fun n => 2 ^ (n % 64)).sum
  (BitVec.ofNat 64 bits, if clear then d.onCnt fun c => { c with wrap := c.wrap.filter fun n => n / 64 != j } else d)

/-- A read of an RC register through a view. -/
def Dev.rcRead (d : Dev) (v : RegView) (wide : Bool) (f : Dev → Bool → Word × Dev) : Dev :=
  let (x, d1) := f (d.arrayRead unitRegs 0x2001) (clears v wide)
  d1.answerReg v wide x

/-- Media Status of a logical device (R609): not ready in BOOT, ready from RUN on. -/
def Dev.mediaStatus (d : Dev) : Nat := if d.power.mode == .run || d.power.mode == .doze || d.power.mode == .deep then 1 else 0

/-! ### The registers of each block, as 64-bit values -/

/-- The four words of a fault record (R488). -/
def FaultRec.word (r : FaultRec) : Nat → Nat
  | 0 => r.fine % 65536 * 2 ^ 48 + r.lamp % 2 ^ 48
  | 1 => r.code % 65536 * 2 ^ 48 + r.cls % 8 * 2 ^ 45 + r.att % 4 * 2 ^ 43 + r.akind % 8 * 2 ^ 40 +
      (r.grotto.getD 0) % 64 * 2 ^ 34 + flag r.grotto.isSome 33 + r.seq % 65536 * 65536 + r.unit % 65536
  | 2 => r.addr % 2 ^ 64
  | _ => r.detail % 2 ^ 64

/-- The record in a slot of the history queue (R490). -/
def Faults.slot (f : Faults) (s : Nat) : Option FaultRec :=
  (List.range f.hist.length).findSome? fun i =>
    if (f.total.toNat + 2 ^ 32 - f.hist.length + i) % 32 = s then f.hist[i]? else none

def famReg : Nat → Nat → Nat → Nat
  | 0x00, m, st => m % 65536 * 2 ^ 48 + 2 ^ 40 + st % 256 * 2 ^ 32
  | 0x08, _, _ => 0x1040024010102000
  | 0x10, _, _ => 0x0810101004102000
  | 0x18, _, _ => 0x04000000
  | 0x20, _, _ => 4194304 * 2 ^ 32 + 65536
  | 0x28, _, _ => 4096 * 2 ^ 48 + 1536 * 2 ^ 32 + 2048 * 65536 + 4096
  | 0x30, _, _ => 2048 * 2 ^ 48 + 1024 * 2 ^ 32 + 32 * 65536
  | _, _, _ => 0

/-- Device status (R614). -/
def Dev.statusReg (d : Dev) (off : Nat) : Nat :=
  match off with
  | 0x00 => d.qos.bw % 65536 * 2 ^ 32 + ((List.range 16).map fun c => flag ((d.chan c).state == 3) (16 + c)).sum
  | 0x08 => match d.ev.pool with
    | some p => 2 ^ 63 + p.toNat
    | none => 0
  | 0x10 => d.mem.ceiling % 2 ^ 18 * 2 ^ 34 + d.dataFrames % 2 ^ 33
  | 0x18 => d.devTag.toNat
  | _ => 0

def Dev.faultReg (d : Dev) (off : Nat) : Nat :=
  let f := d.faults
  match off with
  | 0x008 => d.faultCause.toNat
  | 0x010 => f.total.toNat
  | 0x018 => f.consumed.toNat
  | 0x020 => f.overwritten * 2 ^ 32 + f.dropped
  | _ =>
    if 0x400 ≤ off then
      match f.slot ((off - 0x400) / 32) with
      | some r => r.word (off / 8 % 4)
      | none => 0
    else 0

def Dev.classReg (d : Dev) (off : Nat) : Nat :=
  if 0x040 ≤ off ∧ off < 0x0C0 then
    let x := d.class ((off - 0x40) / 8)
    x.guar * 2 ^ 32 + x.eff * 65536 + x.prio
  else 0

def Counters.reg (c : Counters) (off : Nat) : Nat :=
  if off < 0x3000 then mgetD c.cnt (off / 8) 0
  else if off < 0x6000 then mgetD c.hold ((off - 0x3000) / 8) 0
  else if off = 0x6008 then c.window * 2 + flag c.sat 0
  else if off = 0x6010 then c.seq.toNat
  else if off = 0x6018 then c.time % 2 ^ 64
  else if off = 0x6020 then c.bwSeq.toNat
  else if 0x61C0 ≤ off ∧ off < 0x6220 then
    ((c.chain.filter fun p => p / 64 == (off - 0x61C0) / 8).map fun p => 2 ^ (p % 64)).sum
  else if 0x6240 ≤ off ∧ off < 0x6310 then
    let (o, i) := mgetD c.bw ((off - 0x6240) / 8) (0, 0)
    o * 2 ^ 32 + i
  else 0

def Dev.powerReg (d : Dev) (off : Nat) : Nat :=
  let p := d.power
  match off with
  | 0x000 => (if p.mode = .boot then 1 else 2) * 2 ^ 61 + p.lastTrig % 8 * 2 ^ 58 + p.bootKind % 4 * 2 ^ 56 + flag p.deepOk 55 +
      flag p.fwdOk 54 + flag p.fwdOn 53 + max p.throttle p.hotLimit % 16 * 2 ^ 49 + flag p.lockout 48 + p.cap % 65536 * 2 ^ 32 +
      p.estimate % 65536 * 65536 + d.plat.powerCeiling % 65536
  | 0x008 => p.wakeSrc % 16 * 2 ^ 60 + flag p.wakeReplayed 59 + p.wakeDetail % 256 * 2 ^ 48 + p.wakeTick % 2 ^ 48
  | 0x018 => p.junction % 256 * 2 ^ 56 + p.lampTemp % 256 * 2 ^ 48 + p.lostWake % 65536 * 65536 + d.lostNow % 65536
  | 0x020 => d.lamp
  | 0x028 => d.timeNs % 2 ^ 64
  | _ => 0

/-- The valid record of a type and instance (R565): the committed one with the highest sequence. -/
def Trust.record (t : Trust) (type inst : Nat) : Option CairnRec :=
  t.cairn.reverse.find? fun r => r.committed && !r.hidden && r.type == type && r.inst == inst

/-- The slot selection record (R571, R574): active slot, and pending slot if any. -/
def Trust.selection (t : Trust) : Nat × Option Nat :=
  match t.record 2 0 with
  | some r =>
    let a := natOfBytes (r.data.take 1)
    let p := natOfBytes ((r.data.drop 1).take 1)
    (a % 2, if p = 0xFF then none else some (p % 2))
  | none => (0, none)

/-- Firmware runs the pending slot and has not confirmed it (R574, R599). -/
def Trust.onTrial (t : Trust) : Bool := t.trial && t.selection.2 == some t.running

def Trust.reg (t : Trust) (off : Nat) : Nat :=
  if off = 0x000 then
    flag (t.running == 1) 63 + flag t.onTrial 62 + flag t.recovery 61 + flag (t.root == 1) 60 + t.rootRevoke.toNat * 2 ^ 58 +
      t.svn % 128 * 2 ^ 51 + t.svnRun % 128 * 2 ^ 44 + t.leafMark % 32 * 2 ^ 39 + flag t.exhausted 38 +
      flag t.fmRoot.isSome 37 + t.fwVersion % 2 ^ 32
  else if off = 0x008 then t.leaf % 2 ^ 31 * 2 ^ 32 + t.leafEnd % 2 ^ 31
  else if 0x100 ≤ off then bitsOf (mgetD t.mr ((off - 0x100) / 32) 0).toNat (off / 8 % 4 * 64 + 63) (off / 8 % 4 * 64)
  else 0

/-- The identity of a DIMM (R154): maker, serial and capacity in 16 GiB units. -/
def dimmId : Option Dimm → Nat
  | some x => x.maker.toNat * 2 ^ 48 + x.serial.toNat * 65536 + x.pkgRanks * x.stack * x.density / 8 % 256 * 256
  | none => 0

def Dev.chanReg (d : Dev) (n off : Nat) : Nat :=
  let x := d.chan n
  match off with
  | 0x000 => x.state * 2 ^ 61 + x.sub * 2 ^ 58 + flag (x.slot0.any (·.mrdimm)) 57 + flag x.in0 55 + flag x.in1 56 +
      (x.ranksUp.length - 1) % 16 * 2 ^ 51 + x.speed / 100 % 256 * 2 ^ 43 + ((x.slot0.map (·.density)).getD 0) % 64 * 2 ^ 37 +
      flag x.hot 29 + x.frames % 2 ^ 29
  | 0x008 => x.speed * 8 / 100 % 65536 * 2 ^ 24 + x.deliverable % 4096 * 4096 + x.scrub % 4096
  | 0x010 => x.trfc % 65536 * 2 ^ 32 + x.interval % 65536 * 65536 + (((x.owed.filter fun e => x.ranksUp.contains e.1).map (·.2)).foldl max 0) % 16 * 4096 +
      (if x.state = 3 then x.limit % 16 else 0) * 256
  | 0x020 => dimmId x.slot0
  | 0x028 => dimmId x.slot1
  | 0x030 => x.softRun % 65536 * 2 ^ 32 + x.softBoot % 65536 * 65536 + x.hardMade % 65536
  | _ => if 0x040 ≤ off ∧ off < 0x0C0 then mgetD d.cnt.cnt (chCnt n ((off - 0x40) / 8)) 0 else 0

def Dev.evReg (d : Dev) (n off : Nat) : Nat :=
  let x := d.evPort n
  let r := d.ev.rope
  match off with
  | 0x000 => x.state * 2 ^ 61 + flag x.narrow 60 + flag x.peerPool.isSome 59 + ((x.peerPool.map (·.toNat)).getD 0) * 2 ^ 47 +
      x.echo.length % 2048 * 2 ^ 36 + x.nextSeq.toNat * 2 ^ 24 + x.expect.toNat * 4096
  | 0x008 => r.state * 2 ^ 62 + flag r.both 61 + flag x.spillOk 60 + r.partner.toNat * 2 ^ 48 + r.epoch.toNat * 65536
  | _ => if 0x040 ≤ off ∧ off < 0x0C0 then mgetD d.cnt.cnt (evCnt n ((off - 0x40) / 8)) 0 else 0

/-- A 64-bit read of a register of the device block, its aliases decoded (R611, R15); clear: a control-view read. -/
def State.readBlock (s : State) (off : Nat) (clear : Bool) : Word × State :=
  let d := s.dev
  let ret (n : Nat) : Word × State := (BitVec.ofNat 64 n, s)
  let rc (p : Word × Dev) : Word × State := (p.1, { s with dev := p.2 })
  let blk := off / 0x10000
  match blk with
  | 0 => ret (famReg (off % 0x100) d.plat.member d.plat.stepping)
  | 1 => ret (d.statusReg (off % 0x100))
  | 2 => if off % 0x800 = 0 then rc (d.readFaultStatus clear) else ret (d.faultReg (off % 0x800))
  | 3 => if off % 0x100 = 0 then rc (d.readClassStatus clear) else ret (d.classReg (off % 0x100))
  | 4 => if 0x6100 ≤ off % 0x8000 ∧ off % 0x8000 < 0x61C0 then rc (d.readWrap ((off % 0x8000 - 0x6100) / 8) clear)
    else ret (d.cnt.reg (off % 0x8000))
  | 5 => if off % 0x200 = 0x10 then rc (d.readRetain clear) else ret (d.powerReg (off % 0x200))
  | 6 =>
    if 0x180 ≤ off % 0x200 ∧ off % 0x200 < 0x1A0 then
      ret (bitsOf d.flow.measure.toNat (off / 8 % 4 * 64 + 63) (off / 8 % 4 * 64))
    else ret (s.trust.reg (off % 0x200))
  | _ =>
    if 0x40 ≤ blk ∧ blk < 0x50 then
      (if off % 0x200 = 0x18 then rc (d.readChFault (blk - 0x40) clear) else ret (d.chanReg (blk - 0x40) (off % 0x200)))
    else if blk = 0x50 ∨ blk = 0x51 then
      (if off % 0x200 = 0x10 then rc (d.readEvFault (blk - 0x50) clear) else ret (d.evReg (blk - 0x50) (off % 0x200)))
    else ret 0

/-! ### Registers that software writes -/

/-- Merge the bits that a write covers. -/
def mergeBits (old new mask : Word) : Word := (old &&& ~~~mask) ||| (new &&& mask)

/-- A flip mask armed on register storage strikes the register written at an offset (R495, R472). -/
def Dev.storeReg (d : Dev) (off : Nat) : Dev :=
  let (n, d1) := d.arrayWrite unitRegs
  d1.onFaults fun f => { f with arrays := f.arrays.filter (fun e => e.1 != off) ++ (if n = 0 then [] else [(off, n)]) }

/-- FAULT_CONSUMED (R492): a value ahead of total is ignored with an EVENT. -/
def Dev.writeConsumed (d : Dev) (v : RegView) (off : Nat) (value : Word) (mask : Word := BitVec.allOnes 64) : Dev :=
  let x : BitVec 32 := value.setWidth 32
  if !control v then d.viewEvent v 4 off 4
  else if !mask.getLsbD 0 then d
  else if (d.faults.total - x).toNat < 2 ^ 31 then (d.onFaults fun f => { f with consumed := x }).storeReg 0x20018
  else d.viewEvent v 4 off 2

/-- DEV_TAG (R614, R616): the first write through the control view sets the tag. -/
def Dev.writeTag (d : Dev) (v : RegView) (off : Nat) (value : Word) (mask : Word := BitVec.allOnes 64) : Dev :=
  if !control v then d.viewEvent v 4 off 4
  else if d.tagDone then d.viewEvent v 4 off 1
  else ({ d with devTag := mergeBits d.devTag value mask, tagDone := true } : Dev).storeReg 0x10018

/-! ### Counter commands (R514, R515) -/

def cntCmdOff : Nat := 0x46000

/-- Clear some counters with their wrap bits; the bytes of the bandwidth window are not lost (R517). -/
def Counters.clear (c : Counters) (p : Nat → Bool) : Counters :=
  { c with
    cnt := mkeep c.cnt (fun n => !p n), wrap := c.wrap.filter (fun n => !p n),
    base := (c.cnt.map (·.1)).foldl (fun b n =>
      if p n ∧ n < 256 then mput b 0 n ((mgetD b n 0 + cntTop - mgetD c.cnt n 0 % cntTop) % cntTop) else b) c.base }

/-- A counter command through a view: it acts in the control view; a refused one records an EVENT (R514). -/
def Dev.cntCmd (d : Dev) (v : RegView) (ok : Bool) (f : Counters → Counters) (off : Nat := cntCmdOff) : Dev :=
  if !control v then d.viewEvent v 4 off 8
  else if !ok then d.viewEvent v 4 off 2
  else d.onCnt f

def rangeGood (first last : Nat) : Bool := decide (first ≤ last ∧ last < 1536)

/-- Pairs that lie wholly within a range. -/
def pairsIn (first last : Nat) : List Nat := (List.range 768).filter fun p => decide (first ≤ 2 * p ∧ 2 * p + 1 ≤ last)

/-- Start a survey, or merge into the one that follows the survey under way (R519, R520); the sequence number it will have. -/
def Dev.survey (d : Dev) : BitVec 32 × Dev :=
  let c := d.cnt
  if c.pendingSurvey then (c.seq + 2, d.onCnt fun c => { c with merged := true })
  else (c.seq + 1, d.onCnt fun c => { c with hold := c.cnt, surveyAt := d.timeNs, pendingSurvey := true })

/-- CNT_CMD survey through a view. -/
def Dev.surveyCmd (d : Dev) (v : RegView) (off : Nat := cntCmdOff) : Dev :=
  if control v then d.survey.2 else d.viewEvent v 4 off 8

def Counters.chainAll (c : Counters) (first last : Nat) : Counters :=
  { c with chain := c.chain ++ (pairsIn first last).filter fun p => !c.chain.contains p }
def Counters.unchainAll (c : Counters) (first last : Nat) : Counters :=
  { c with chain := c.chain.filter fun p => !(pairsIn first last).contains p }

/-- A write of CNT_CMD (R514): the command that the value names; one that the table does not define records an EVENT (R14). -/
def Dev.cntWrite (d : Dev) (v : RegView) (off : Nat) (x : Word) : Dev :=
  let a := bitsOf x.toNat 10 0
  let b := bitsOf x.toNat 51 32
  match bitsOf x.toNat 63 60 with
  | 1 => d.cntCmd v true (·.clear fun _ => true) off
  | 2 => d.cntCmd v (rangeGood a b) (·.clear fun n => decide (a ≤ n ∧ n ≤ b)) off
  | 3 => d.cntCmd v (rangeGood a b) (·.chainAll a b) off
  | 4 => d.cntCmd v (rangeGood a b) (·.unchainAll a b) off
  | 5 => d.cntCmd v (decide (a < 2)) (fun c => { c with sat := a == 1 }) off
  | 6 => d.cntCmd v (decide (1 ≤ b ∧ b ≤ 1000000)) (fun c => { c with nextWindow := b }) off
  | 7 => d.surveyCmd v off
  | _ => d.cntCmd v false id off

/-- Every domain has latched a survey (R520). -/
def Dev.surveyDone (d : Dev) : Dev :=
  if d.cnt.pendingSurvey then
    let d1 := (d.bump 7).onCnt fun c => { c with seq := c.seq + 1, time := c.surveyAt, pendingSurvey := false, merged := false }
    if d.cnt.merged then d1.survey.2 else d1
  else d

/-- Bytes per window as a BW value (R517). -/
def bwValue (bytes window : Nat) : Nat := min (2 ^ 20 - 1) (bytes / (10 * max 1 window))

/-- A bandwidth window ends (R517, R518). -/
def Dev.bwEnd (d : Dev) : Dev :=
  d.onCnt fun c =>
    let diff (n : Nat) : Nat := (mgetD c.cnt n 0 + cntTop - mgetD c.base n 0 % cntTop) % cntTop
    let put (m : AMap (Nat × Nat)) (k o i : Nat) := mput m (0, 0) k (bwValue o c.window, bwValue i c.window)
    let m1 := (List.range 8).foldl (fun m l => put m l (diff (128 + 16 * l + 3)) (diff (128 + 16 * l + 2))) ([] : AMap (Nat × Nat))
    let m2 := (List.range 16).foldl (fun m n => put m (8 + n) (64 * mgetD c.chRead n 0) (64 * mgetD c.chWrite n 0)) m1
    let m3 := (List.range 2).foldl (fun m n => put m (24 + n) (256 * mgetD c.evOut n 0) (256 * mgetD c.evIn n 0)) m2
    { c with
      bw := m3, bwSeq := c.bwSeq + 1, window := c.nextWindow, evOut := [], evIn := [], chRead := [], chWrite := [],
      base := (List.range 8).foldl (fun b l =>
        mput (mput b 0 (128 + 16 * l + 3) (mgetD c.cnt (128 + 16 * l + 3) 0)) 0 (128 + 16 * l + 2) (mgetD c.cnt (128 + 16 * l + 2) 0)) [] }

end Sys2Proof.Machine
end

