-- ==== Sys2Proof/Machine/Manage.lean ====
section
/-!
DEFINITION. Privileged instructions for grottos, queues, windows, keys, classes and policy (R346 to R354, R643), test injection,
surveys, and the instructions that wait for firmware (R356 to R359).
-/
namespace Sys2Proof.Machine

/-- Decode step 1 of a format M action (R643). -/
def formM (imm : Nat) (ra : Bool := false) (rb : Bool := false) (rc : Bool := false) (swin : Bool := false)
    (dwin : Bool := false) : PWord → Bool :=
  Form.ok { fmt := 7, ra := ra, rb := rb, rc := rc, swin := swin, dwin := dwin, imm := imm, mod := 15 }

def refuse {α : Type} (status cond : Nat) (r1 : Option Nat := none) : Eng α :=
  Eng.fault status { r0 := some (BitVec.ofNat 64 cond), r1 := r1.map (BitVec.ofNat 64 ·) }

/-- Refuse with the first condition of a list that holds (R347). -/
def Eng.refusals (status : Nat) (cs : List (Bool × Nat)) : Eng Unit :=
  match cs.find? (·.1) with
  | some (_, n) => refuse status n
  | none => pure ()

/-- Read an operand of some bytes at offset ra of swin; a poisoned one faults. -/
def Eng.operand (c : Ctx) (x : Queue) (w : PWord) (v : Vals) (len : Nat) : Eng (List Byte) := do
  let as ← Eng.ranges c x [{ win := w.swin.toNat, off := v.a.1.toNat, len := len }]
  let bs ← Eng.read c (areaAt as 0) 0 len
  Eng.check (!(bs.any (·.2))) 0x020A
  pure (bs.map (·.1))

/-- Write output bytes to offset ra of dwin. -/
def Eng.output (c : Ctx) (x : Queue) (w : PWord) (v : Vals) (bs : List Byte) : Eng Unit := do
  let as ← Eng.ranges c x [{ win := w.dwin.toNat, off := v.a.1.toNat, len := bs.length, right := 1 }]
  Eng.write c (areaAt as 0) 0 (clean bs)

def wordsBytes (ws : List Nat) : List Byte := ws.flatMap (bytesOfNat 8)
def field (bs : List Byte) (k hi lo : Nat) : Nat := bitsOf (fieldAt bs (8 * k) 8) hi lo

/-! ### Grotto records (R76 to R80, R348) -/

/-- The 32 bytes of a record. -/
def Grotto.words (x : Grotto) : List Nat :=
  [x.state * 2 ^ 62 + (if x.db then 2 ^ 61 else 0) + (if x.mirror then 2 ^ 60 else 0) + x.cls * 2 ^ 56 + x.keyId * 2 ^ 44 +
     x.ownerLink * 2 ^ 40 + x.ownerLd * 2 ^ 36 + x.chanMask.toNat * 2 ^ 20 + x.committed,
   x.coverage * 2 ^ 56 + x.elasticMax * 2 ^ 34 + x.mapBase % 2 ^ 33, x.elasticKeyId * 2 ^ 52, x.held % 2 ^ 33]

/-- A record with the fields that a write names. -/
def Grotto.written (x : Grotto) (bs : List Byte) : Grotto := { x with
  state := field bs 0 63 62, db := field bs 0 61 61 == 1, mirror := field bs 0 60 60 == 1, cls := field bs 0 59 56,
  keyId := field bs 0 55 44, ownerLink := field bs 0 42 40, ownerLd := field bs 0 39 36,
  chanMask := BitVec.ofNat 16 (field bs 0 35 20), committed := field bs 0 17 0, coverage := field bs 1 62 56,
  elasticMax := field bs 1 51 34, elasticKeyId := field bs 2 63 52, copy := x.copy && field bs 0 63 62 != 1 }

/-- Whether the reserved fields of a written record are zero. -/
def recordClean (bs : List Byte) : Bool :=
  field bs 0 43 43 == 0 && field bs 0 19 18 == 0 && field bs 1 63 63 == 0 && field bs 1 55 52 == 0 && field bs 1 33 33 == 0 &&
    field bs 2 51 0 == 0 && field bs 3 63 33 == 0

def Grotto.units (x : Grotto) : Nat := x.committed + x.elasticMax

/-- Fields that change only while a grotto is inactive (R78). -/
def Grotto.sameFixed (x y : Grotto) : Bool :=
  x.db == y.db && x.mirror == y.mirror && x.keyId == y.keyId && x.elasticKeyId == y.elasticKeyId && x.ownerLink == y.ownerLink &&
    x.ownerLd == y.ownerLd && x.committed == y.committed && x.elasticMax == y.elasticMax

/-- The device with every offer that the host has not answered counted as accepted (R47, R103). -/
def Dev.withOffers (d : Dev) : Dev :=
  { d with grottos := d.grottos.map fun e => (e.1, { e.2 with accepted := e.2.accepted ++ e.2.offered }) }

/-- P of one channel (R105). -/
def Dev.dataFramesOn (d : Dev) (c : Nat) : Nat :=
  let x := d.chan c
  if x.state = 3 then
    x.frames / max 1 x.ranks * (x.ranks - x.ranksOut.length) - d.resvFrames - (d.mem.retired.filter fun f => frameChan f == c).length
  else 0

/-- Σ Q_g of one channel (R105). -/
def Dev.reserveOn (d : Dev) (c : Nat) : Nat := (d.grottos.map fun e => e.2.chanReserve c).sum

/-- Whether some grotto that holds a reserve is confined, so that admission is checked per channel too (R105). -/
def Dev.anyConfined (d : Dev) : Bool := d.grottos.any fun e => e.2.state != 0 && d.confined e.2

/-- Whether a change from one grotto table to another would raise Σ Q_g above P, on the device or on a channel (R103, R105). -/
def Dev.overcommits (before after : Dev) : Bool :=
  let b := before.withOffers
  let a := after.withOffers
  decide (a.dataFrames < a.sumReserve ∧ b.sumReserve < a.sumReserve) ||
    (a.anyConfined && (List.range 16).any fun c => decide (a.dataFramesOn c < a.reserveOn c ∧ b.reserveOn c < a.reserveOn c))

/-- Whether a map run of n units from unit b on is free of other grottos' runs and below the ceiling. -/
def Dev.runFits (d : Dev) (g b n : Nat) : Bool :=
  decide (b + n ≤ d.mem.ceiling) && d.grottos.all fun e =>
    e.1 == g || e.2.units == 0 || decide (e.2.mapBase + e.2.units * unitPages ≤ b * unitPages ∨ (b + n) * unitPages ≤ e.2.mapBase)

/-- A free map run of n units: any, by a free choice, and otherwise the lowest (R78). -/
def Dev.freeRun (d : Dev) (g n : Nat) : Option (Nat × Dev) :=
  let starts := (0 :: d.grottos.map fun e => e.2.mapBase / unitPages + e.2.units).filter fun b => d.runFits g b n
  match starts with
  | [] => none
  | b :: _ =>
    let (k, d1) := d.choose (d.mem.ceiling + 1 - n)
    some (if d.runFits g k n then k else starts.foldl min b, d1)

/-- Whether a committed decoder of a logical device covers part of a DPA range (R79). -/
def Ld.covers (x : Ld) (lo len : Nat) : Bool :=
  (List.range 4).any fun n =>
    let k := mgetD x.decoders n {}
    k.committed && decide (x.dpaStart n < lo + len ∧ lo < x.dpaStart n + k.size.toNat / max 1 k.ways)

def Dev.decoded (d : Dev) (x : Grotto) (a : Attach) : Bool := (d.ld a.link a.ld).covers a.base (x.visible a)

/-- Whether a queue of a grotto is stopped (R79). -/
def Queue.stopped (x : Queue) : Bool := decide (3 ≤ x.state) && x.issued.isEmpty

def Dev.mayLeave (d : Dev) (g : Nat) (x : Grotto) : Bool :=
  !(x.attaches.any (d.decoded x)) &&
    d.queues.qs.all fun e => !(decide (16 ≤ e.1 ∧ e.1 < 8192) && e.2.recd.grotto == g) || e.2.stopped

/-- The first failing condition of a record write, in table order (R348); the run that its map takes. -/
def Dev.checkRecord (d : Dev) (g : Nat) (old : Option Grotto) (bs : List Byte) : Except Nat (Nat × Dev) :=
  let x := (old.getD {}).written bs
  let live := match old with
    | some o => o.state != 0
    | none => false
  let sum := ((d.grottos.filter fun e => e.1 != g).map fun e => e.2.units).sum + x.units
  let keep := match old with
    | some o => o.units == x.units || (!live && d.runFits g (o.mapBase / unitPages) x.units)
    | none => false
  let run := if keep then some ((old.map (·.mapBase)).getD 0 / unitPages, d) else d.freeRun g x.units
  let after : Dev := { d with grottos := mset d.grottos g { x with state := min x.state 1 } }
  let conds : List (Bool × Nat) := [
    (x.chanMask == 0, 0x0220), (x.keyId == 0, 0x0221), (x.coverage == 0 || decide (100 < x.coverage), 0x0222),
    (decide (131072 < x.units), 0x0223), (decide (d.mem.ceiling < sum), 0x0224),
    (d.overcommits after, 0x0225), (run.isNone, 0x0226),
    (live && !(x.sameFixed (old.getD {})), 0x0227), (live && x.state == 0 && !(d.mayLeave g (old.getD {})), 0x0228),
    (!recordClean bs || decide (2 ≤ x.state), 0x0229)]
  match conds.find? (·.1), run with
  | some (_, st), _ => .error st
  | none, some (b, d1) => .ok (b * unitPages, d1)
  | none, none => .error 0x0226

/-- The queues of a grotto that returns to active leave the fenced state (R296). -/
def Dev.unfenceQueues (d : Dev) (g : Nat) : Dev :=
  d.onQueues fun k => { k with qs := k.qs.map fun e =>
    if 16 ≤ e.1 ∧ e.1 < 8192 ∧ e.2.recd.grotto = g ∧ e.2.state = 5 then (e.1, { e.2 with state := 3, dirty := true }) else e }

/-- The policy entry of R245 in a record. -/
def Grotto.withEntry (x : Grotto) (e : Word) : Grotto := { x with
  level := bitsOf e.toNat 63 60, spillMode := bitsOf e.toNat 59 58, coldMark := bitsOf e.toNat 57 50,
  farMark := bitsOf e.toNat 49 42, hotMark := bitsOf e.toNat 41 34 }

/-- A lasting error that a flip mask leaves in the grotto table fences the grotto (R472). -/
def Dev.grottoArray (d : Dev) (g : Nat) : Dev :=
  let (n, d1) := (d.arrayRead unitGrottoTable 0x2001).arrayWrite unitGrottoTable
  if 2 ≤ n then ((d1.modGrotto g fun x => { x with state := 2 }).fenceQueues g).arrayFault unitGrottoTable (some g) else d1

/-- A fenced attachment returns with no copies recorded (R185): its sweep ends, whether or not it had begun. -/
def Dev.dropCopies (d : Dev) (g src : Nat) : Dev :=
  if !d.fencedSrc g src then d
  else
    let (n, d1) := d.fenceSweep g src
    let d2 := d1.onSlices fun s => { s with sweeps := s.sweeps.filter (· != (g, src)) }
    if d.slices.sweeps.contains (g, src) then d2.event (unitLink (src / 16)) 0 0 (n + src * 2 ^ 32) (some g) else d2

/-- A fenced grotto returns to active: its queues leave the fenced state, and its owner's attachment is back in service (R80, R182). -/
def Dev.unfence (d : Dev) (g : Nat) : Dev :=
  let x := d.grotto g
  ((d.dropCopies g (srcOf x.ownerLink x.ownerLd)).modGrotto g fun x => { x with
    attaches := x.attaches.map fun a => if x.owns a then { a with fenced := false } else a }).unfenceQueues g

/-- The heap frames that an inactive grotto still holds go to the zeroer (R79). -/
def Dev.dropHeaps (d : Dev) (g : Nat) : Dev :=
  ((d.pages.heaps.filter fun e => e.2.grotto == g).map (·.1)).foldl (fun (d : Dev) f =>
    ((d.onPages fun p => { p with heaps := merase p.heaps f }).hold g (frameChan f) (-1)).freeFrame f) d

/-- Put a checked record into the table. A mirrored grotto that is activated with no partner is DEGRADED, and its divergence map marked
(R455). -/
def Dev.putRecord (d : Dev) (g : Nat) (old : Option Grotto) (bs : List Byte) (base : Nat) : Dev :=
  let fresh : Grotto := match mget d.flow.entries g with
    | some e => ({} : Grotto).withEntry e
    | none => {}
  let x : Grotto := { (old.getD fresh).written bs with mapBase := base }
  let was : Nat := (old.map Grotto.state).getD 0
  let d1 := d.setGrotto g x
  let d2 := if was = 2 ∧ x.state = 1 then d1.unfence g else if was ≠ 0 ∧ x.state = 0 then d1.dropHeaps g else d1
  let d3 := if was = 0 ∧ x.state = 1 ∧ x.mirror ∧ !d.roped g then
      (d2.raise { code := 0x5004, cls := 2, unit := 0, grotto := some g, detail := g }).markPages g 0 (x.units * unitPages)
    else d2
  d3.grottoArray g

/-- GROTTO mod 0. -/
def grottoWritePel : Pel := {
  op := 0xC0, mod := some 0, form := formM 63 (ra := true) (swin := true),
  body := fun c x w v => do
    let bs ← Eng.operand c x w v 32
    let g := w.imm.toNat % 64
    let d ← Eng.dev
    let old := d.grotto? g
    match d.checkRecord g old bs with
    | .error st => Eng.fault st
    | .ok (base, d1) =>
      let was := (old.map (·.state)).getD 0
      if was ≠ 0 ∧ field bs 0 63 62 = 0 then Eng.unback c g 0 (((old.getD {}).units) * unitPages)
      else Eng.upd fun _ => d1
      Eng.upd fun d => d.putRecord g (d.grotto? g) bs base
      pure {} }

/-- GROTTO mod 1. -/
def grottoReadPel : Pel := {
  op := 0xC0, mod := some 1, form := formM 63 (ra := true) (dwin := true),
  body := fun c x w v => do
    let d ← Eng.dev
    Eng.output c x w v (match d.grotto? (w.imm.toNat % 64) with
      | some g => wordsBytes g.words
      | none => List.replicate 32 0)
    pure {} }

def immG (w : PWord) : Nat := bitsOf w.imm.toNat 5 0
def immLink (w : PWord) : Nat := bitsOf w.imm.toNat 8 6
def immLd (w : PWord) : Nat := bitsOf w.imm.toNat 12 9

/-- GROTTO mod 2 (R38, R39); attaching again moves the base. -/
def grottoAttachPel : Pel := {
  op := 0xC0, mod := some 2, form := formM 0x1FFF (rb := true),
  body := fun _ _ w v => do
    let d ← Eng.dev
    let g := immG w
    let x := d.grotto g
    let a : Attach := { link := immLink w, ld := immLd w, base := v.b.1.toNat }
    let here := x.attaches.filter fun b => !(b.link == a.link && b.ld == a.ld)
    let old := x.attaches.find? fun b => b.link == a.link && b.ld == a.ld
    let meets := d.grottos.any fun e => e.1 != g && e.2.attaches.any fun b =>
      b.link == a.link && b.ld == a.ld && decide (a.base < b.base + e.2.visible b ∧ b.base < a.base + x.visible a)
    Eng.refusals 0x022A [
      ((d.grotto? g).isNone, 7), (decide (16 ≤ here.length), 1), (a.base % unitBytes != 0, 2), (meets, 3),
      (!d.linkExists a.link || decide (d.ldCount a.link ≤ a.ld), 4), (old.any (d.decoded x), 6)]
    Eng.upd fun d => (d.modGrotto g fun x => { x with
      attaches := here ++ [{ a with fenced := (old.map (·.fenced)).getD false }] }).grottoArray g
    pure {} }

/-- GROTTO mod 3. -/
def grottoDetachPel : Pel := {
  op := 0xC0, mod := some 3, form := formM 0x1FFF,
  body := fun _ _ w _ => do
    let d ← Eng.dev
    let g := immG w
    let x := d.grotto g
    let mine (b : Attach) : Bool := b.link == immLink w && b.ld == immLd w
    let old := x.attaches.find? mine
    Eng.refusals 0x022A [((d.grotto? g).isNone, 7), (old.isNone, 5), (old.any (d.decoded x), 6)]
    Eng.upd fun d => (d.modGrotto g fun x => { x with attaches := x.attaches.filter fun b => !mine b }).grottoArray g
    pure {} }

/-- GROTTO mod 4 (R185). -/
def grottoReturnToServicePel : Pel := {
  op := 0xC0, mod := some 4, form := formM 0x1FFF,
  body := fun _ _ w _ => do
    let d ← Eng.dev
    let g := immG w
    let mine (b : Attach) : Bool := b.link == immLink w && b.ld == immLd w
    Eng.refusals 0x022A [((d.grotto? g).isNone, 7), (!((d.grotto g).attaches.any mine), 5)]
    Eng.upd fun d => ((d.dropCopies g (srcOf (immLink w) (immLd w))).modGrotto g fun x => { x with
      attaches := x.attaches.map fun b => if mine b then { b with fenced := false } else b }).grottoArray g
    pure {} }

/-- Conditions of an extent offer (R47, R348): every offer not yet answered counts as reserve. -/
def Dev.offerConds (d : Dev) (g dpa n : Nat) : List (Bool × Nat) :=
  let x := d.grotto g
  let base := ((x.attaches.find? x.owns).map (·.base)).getD 0
  let lo := base + x.committed * unitBytes
  let hi := base + x.units * unitBytes
  let b := (dpa - base) / unitBytes
  let after : Dev := { d with grottos := mset d.grottos g { x with offered := x.offered ++ [(b, n)] } }
  let room := ((d.regions x.ownerLink x.ownerLd).any fun r => r.1 == g) && decide (d.extentCount x.ownerLink x.ownerLd < 1024)
  [((d.grotto? g).isNone, 5),
   (!(x.attaches.any x.owns) || (!x.copy && !room) || n == 0 || decide (dpa < lo ∨ hi < dpa + n * unitBytes), 1),
   (d.overcommits after, 2), (dpa % unitBytes != 0, 3),
   ((x.offered ++ x.accepted).any fun e => decide (b < e.1 + e.2 ∧ e.1 < b + n), 4)]

/-- GROTTO mod 5 (R48): a mirror copy takes the extent first (R447). -/
def grottoOfferExtentPel : Pel := {
  op := 0xC0, mod := some 5, form := formM 63 (rb := true) (rc := true),
  body := fun c _ w v => do
    let d ← Eng.dev
    let g := immG w
    let dpa := v.b.1.toNat
    let n := v.c.1.toNat
    Eng.refusals 0x022B (d.offerConds g dpa n)
    let x := d.grotto g
    let b := (dpa - ((x.attaches.find? x.owns).map (·.base)).getD 0) / unitBytes
    let admitted := (d.kept? c.who g (b * unitLines)).isSome && !(d.pages.mirrorWait.any fun e => e.2.2.who == c.who)
    if d.roped g ∧ !admitted then Eng.wait (.capacity g (b * unitPages) (n * unitPages))
    else
      Eng.upd fun d => (d.modGrotto g fun x => { x with offered := x.offered ++ [(b, n)] }).dcLog g .addCapacity (b, n)
      pure {} }

/-- GROTTO mod 6. -/
def grottoDeletePel : Pel := {
  op := 0xC0, mod := some 6, form := formM 63,
  body := fun _ _ w _ => do
    let d ← Eng.dev
    let g := immG w
    match d.grotto? g with
    | none => pure {}
    | some x =>
      Eng.check (x.state == 0 && d.mayLeave g x) 0x0228
      Eng.upd fun d => { d with grottos := merase d.grottos g }
      pure {} }

/-! ### QUEUE (R268 to R270, R349) -/

/-- A queue record as it is written. -/
def qrecOf (bs : List Byte) : QRec := {
  crHost := field bs 0 62 62 == 1, grotto := field bs 0 61 56, cls := field bs 0 55 52, ringOrder := field bs 0 51 48,
  crOrder := field bs 0 47 44, vector := field bs 0 43 33, ringBase := field bs 1 44 0, crBase := field bs 2 63 0,
  classMask := BitVec.ofNat 16 (field bs 3 15 0) }

def qrecClean (bs : List Byte) : Bool :=
  field bs 0 63 63 == 1 && field bs 0 32 0 == 0 && field bs 1 63 45 == 0 && field bs 3 63 16 == 0

def QRec.words (r : QRec) : List Nat :=
  [2 ^ 63 + (if r.crHost then 2 ^ 62 else 0) + r.grotto * 2 ^ 56 + r.cls * 2 ^ 52 + r.ringOrder * 2 ^ 48 + r.crOrder * 2 ^ 44 +
     r.vector * 2 ^ 33, r.ringBase, r.crBase, r.classMask.toNat]

def QRec.ringBytes (r : QRec) : Nat := 2 ^ (r.ringOrder + 6) * 16
def QRec.crBytes (r : QRec) : Nat := 2 ^ (r.crOrder + 6) * 32

/-- Whether a queue is neither stopped nor idle, or has work issued or waiting to be written (R270). -/
def Queue.busy (x : Queue) : Bool :=
  !x.issued.isEmpty || !x.recs.isEmpty || x.tornWait || (decide (x.state < 3) && x.hasWork)

/-- Conditions of R269 in order, then R270. -/
def Dev.queueConds (d : Dev) (q : Nat) (bs : List Byte) : List (Bool × Nat) :=
  let r := qrecOf bs
  let g := d.grotto r.grotto
  let top := g.committed * unitBytes
  [(decide (q < 16), 1), (g.state != 1, 2), (decide (10 < r.ringOrder ∨ 10 < r.crOrder), 3),
   (r.ringBase % r.ringBytes != 0 || r.crBase % r.crBytes != 0, 4),
   (decide (top < r.ringBase + r.ringBytes) || (!r.crHost && decide (top < r.crBase + r.crBytes)), 5),
   (decide ((d.ld g.ownerLink g.ownerLd).vecCount ≤ r.vector), 6), (!qrecClean bs, 7), ((d.queue? q).any Queue.busy, 8)]

/-- A lasting error that a flip mask leaves in a queue's record or windows fences the queue (R472). -/
def Dev.queueArray (d : Dev) (q : Nat) : Dev :=
  let (n, d1) := (d.arrayRead unitQueue 0x2001).arrayWrite unitQueue
  match d1.queue? q with
  | some x =>
    if 2 ≤ n ∧ !privQ q then (d1.setQueue q { x with state := 5, run := false }).arrayFault unitQueue (some x.recd.grotto) else d1
  | none => d1

def immQ (w : PWord) : Nat := bitsOf w.imm.toNat 12 0

/-- QUEUE mod 0: a new queue's ring and completion ring are zeroed (R269). -/
def queueWritePel : Pel := {
  op := 0xC1, mod := some 0, form := formM 0x1FFF (ra := true) (swin := true),
  body := fun c x w v => do
    let bs ← Eng.operand c x w v 32
    let d ← Eng.dev
    let q := immQ w
    let r := qrecOf bs
    Eng.refusals 0x0230 (d.queueConds q bs)
    match d.queue? q with
    | some y => Eng.upd fun d => d.setQueue q { y with recd := r, dirty := true }
    | none =>
      Eng.zeroArea c { resv := false, g := r.grotto, base := r.ringBase, len := r.ringBytes }
      if !r.crHost then Eng.zeroArea c { resv := false, g := r.grotto, base := r.crBase, len := r.crBytes }
      Eng.upd fun d => d.setQueue q { recd := r }
    Eng.upd fun d => d.queueArray q
    pure {} }

/-- QUEUE mod 1: deleting a queue that does not exist has no effect. -/
def queueDeletePel : Pel := {
  op := 0xC1, mod := some 1, form := formM 0x1FFF,
  body := fun _ _ w _ => do
    let d ← Eng.dev
    let q := immQ w
    Eng.refusals 0x0230 [(decide (q < 16), 1), ((d.queue? q).any Queue.busy, 8)]
    Eng.upd fun d => d.onQueues fun k => { k with qs := merase k.qs q }
    pure {} }

/-- QUEUE mod 2: the record of a queue that does not exist reads as zero. Queue 0 is the one of the port at hand. -/
def queueReadPel : Pel := {
  op := 0xC1, mod := some 2, form := formM 0x1FFF (ra := true) (dwin := true),
  body := fun c x w v => do
    let d ← Eng.dev
    let q := if immQ w = 0 ∧ isQ0 c.q then c.q else immQ w
    Eng.output c x w v (match d.queue? q with
      | some y => wordsBytes y.recd.words
      | none => List.replicate 32 0)
    pure {} }

/-! ### WINDOW (R277, R350) -/

def windowOf (w0 w1 : Nat) : Window := {
  grotto := bitsOf w0 63 58, kind := bitsOf w0 57 56, read := w0.testBit 55, write := w0.testBit 54, atomic := w0.testBit 53,
  base := bitsOf w0 44 0, length := bitsOf w1 44 0 }

def Window.words (y : Window) : List Nat :=
  [y.grotto * 2 ^ 58 + y.kind * 2 ^ 56 + (if y.read then 2 ^ 55 else 0) + (if y.write then 2 ^ 54 else 0) +
     (if y.atomic then 2 ^ 53 else 0) + y.base, y.length]

def immH (w : PWord) : Nat := bitsOf w.imm.toNat 18 13

/-- The queue that a WINDOW names: number 0 is firmware's own port's (R350). -/
def winTarget (c : Ctx) (w : PWord) : Nat := if immQ w = 0 ∧ isQ0 c.q then c.q else immQ w

/-- Bytes of the reserved region (R82). -/
def Dev.resvBytes (d : Dev) : Nat := d.mem.ceiling * unitPages * 8 + 2 ^ 30

/-- Whether a window has a length of at least 1 and stays within its bound (R277, R350). -/
def Dev.winFits (d : Dev) (c : Ctx) (y : Window) : Bool :=
  if y.length = 0 then false
  else if y.kind = 2 then
    (if isQ0 c.q then decide (y.base + y.length ≤ d.resvBytes)
     else decide ((d.plat.stagingBase + 1024) * 64 ≤ y.base ∧ y.base + y.length ≤ (d.plat.stagingBase + 16 * 1024) * 64))
  else decide (y.base + y.length ≤ (d.grotto y.grotto).units * unitBytes)

def Dev.winConds (d : Dev) (c : Ctx) (w : PWord) (fix : Bool) : List (Bool × Nat) :=
  let t := winTarget c w
  [(fix && isFm t && immH w == 0, 4), (t != 0 && (d.queue? t).isNone, 5), (t == 0, 6)]

/-- WINDOW mod 0. -/
def windowWritePel : Pel := {
  op := 0xC2, mod := some 0, form := formM 0x7FFFF (rb := true) (rc := true),
  body := fun c _ w v => do
    let d ← Eng.dev
    let w0 := v.b.1.toNat
    let w1 := v.c.1.toNat
    let y := windowOf w0 w1
    let t := winTarget c w
    let odd := bitsOf w0 52 45 != 0 || bitsOf w1 63 45 != 0 || y.kind == 3 || (y.kind == 2 && y.grotto != 0)
    Eng.refusals 0x0231 ([(!d.winFits c y, 1), (y.kind == 2 && t != 0 && !privQ t, 2), (odd, 3)] ++ d.winConds c w true)
    Eng.upd fun d => match d.queue? t with
      | some x => (d.setQueue t { x with windows := mset x.windows (immH w) y }).queueArray t
      | none => d
    pure {} }

/-- WINDOW mod 1. -/
def windowInvalidatePel : Pel := {
  op := 0xC2, mod := some 1, form := formM 0x7FFFF,
  body := fun c _ w _ => do
    let d ← Eng.dev
    let t := winTarget c w
    Eng.refusals 0x0231 (d.winConds c w true)
    Eng.upd fun d => match d.queue? t with
      | some x => d.setQueue t { x with windows := mmod x.windows (immH w) {} fun y => { y with kind := 0 } }
      | none => d
    pure {} }

/-- WINDOW mod 2. -/
def windowReadPel : Pel := {
  op := 0xC2, mod := some 2, form := formM 0x7FFFF (ra := true) (dwin := true),
  body := fun c x w v => do
    let d ← Eng.dev
    let t := winTarget c w
    let as ← Eng.ranges c x [{ win := w.dwin.toNat, off := v.a.1.toNat, len := 16, right := 1 }]
    Eng.refusals 0x0231 (d.winConds c w false)
    let y := match d.queue? t with
      | some k => k.window (immH w)
      | none => {}
    Eng.write c (areaAt as 0) 0 (clean (wordsBytes y.words))
    pure {} }

/-! ### KEYLOAD (R351) -/

/-- Drop every near-cache line of the pages that a key entry encrypts (R100). -/
def Dev.dropKeyed (d : Dev) (k : Nat) : Dev :=
  d.ncFilter fun e => match d.grotto? (keyGrotto e) with
    | some x => x.keyOf (pageOf (keyLine e)) != k
    | none => true

/-- A lasting error that a flip mask leaves in the key table fences the grottos that the entry serves (R472). -/
def Dev.keyArray (d : Dev) (k : Nat) : Dev :=
  let (n, d1) := (d.arrayRead unitKeyTable 0x2001).arrayWrite unitKeyTable
  if n < 2 then d1
  else
    let gs := d1.grottos.filter fun e => e.2.keyId == k || e.2.elasticKeyId == k
    (gs.foldl (fun (d : Dev) e => (d.modGrotto e.1 fun x => { x with state := if x.state = 1 then 2 else x.state }).fenceQueues e.1)
      d1).arrayFault unitKeyTable ((gs.head?).map (·.1))

/-- KEYLOAD mod 0: the conditions in the order 1, 2, 4, 3. -/
def keyloadLoadPel : Pel := {
  op := 0xC3, mod := some 0, form := formM 0xFFFF (ra := true) (swin := true),
  body := fun c x w v => do
    let bs ← Eng.operand c x w v 72
    let d ← Eng.dev
    let k := bitsOf w.imm.toNat 11 0
    let sel := bitsOf w.imm.toNat 15 12
    Eng.refusals 0x0232 [(k == 0, 1), ((mget d.keys k).isSome, 2)]
    match (if sel = 0 then none else mget c.wrap sel) with
    | none => refuse 0x0232 4
    | some kek =>
      match unwrapBlob kek bs with
      | none => refuse 0x0232 3
      | some key =>
        Eng.upd fun d => ({ d with keys := mset d.keys k key }).keyArray k
        pure {} }

/-- KEYLOAD mod 1. -/
def keyloadErasePel : Pel := {
  op := 0xC3, mod := some 1, form := formM 0xFFF,
  body := fun _ _ w _ => do
    let k := bitsOf w.imm.toNat 11 0
    Eng.refusals 0x0232 [(k == 0, 1)]
    Eng.upd fun d => ({ d.dropKeyed k with keys := merase d.keys k })
    pure {} }

/-! ### SETCLASS (R352, R499, R504) -/

/-- The class that a descriptor sets, over what the class has accounted. -/
def QClass.described (x : QClass) (bs : List Byte) : QClass := { x with
  guar := fieldAt bs 0 2, prio := fieldAt bs 2 1 % 16, target := fieldAt bs 4 2, thresh := fieldAt bs 6 2, limit := fieldAt bs 8 4,
  notify := (fieldAt bs 12 1).testBit 7, nLd := bitsOf (fieldAt bs 12 1) 6 3, nLink := fieldAt bs 12 1 % 8,
  vector := fieldAt bs 14 2 % 2048 }

/-- Whether the fields of a class descriptor lie in their ranges (R499). -/
def Dev.classFits (d : Dev) (x : QClass) (bs : List Byte) : Bool :=
  decide (x.guar ≤ 8191 ∧ 1 ≤ x.prio ∧ x.thresh ≤ 1023 ∧ 1 ≤ x.limit ∧ x.limit ≤ 16000000) &&
    fieldAt bs 2 1 / 16 == 0 && zeroAt bs 3 1 && zeroAt bs 13 1 && fieldAt bs 14 2 / 2048 == 0 && zeroAt bs 16 16 &&
    (!x.notify || (d.ldExists x.nLink x.nLd && decide (x.vector < (d.ld x.nLink x.nLd).vecCount)))

/-- Σ a_c of R504. -/
def Dev.sumWith (d : Dev) (c guar : Nat) : Nat :=
  ((List.range 16).map fun k => if k = c then guar else (d.class k).eff).sum

def setclassWritePel : Pel := {
  op := 0xC4, mod := some 0, form := formM 15 (ra := true) (swin := true),
  body := fun c x w v => do
    let bs ← Eng.operand c x w v 32
    let d ← Eng.dev
    let k := w.imm.toNat % 16
    let old := d.class k
    let new := old.described bs
    Eng.refusals 0x0233 [
      (!d.classFits new bs, 1), (decide (old.guar < new.guar ∧ d.deliverable < d.sumWith k new.guar), 2)]
    Eng.upd fun d => (d.setClass k new).rescale
    pure {} }

/-- D with a scrub reserve on some channels (R139). -/
def Dev.deliverableWith (d : Dev) (mask : BitVec 16) (scrub : Nat) : Nat :=
  ((List.range 16).map fun c => if mask.getLsbD c then (d.chan c).deliverableAt scrub else (d.chan c).deliverable).sum

def setclassScrubReservePel : Pel := {
  op := 0xC4, mod := some 1, form := formM 0xFFFFFFF,
  body := fun _ _ w _ => do
    let d ← Eng.dev
    let mask := BitVec.ofNat 16 w.imm.toNat
    let n := bitsOf w.imm.toNat 27 16
    let raised := (maskList mask).any fun c => decide ((d.chan c).scrub < n)
    Eng.refusals 0x0233 [
      (decide (n = 0 ∨ 16 < n), 1), (raised && decide (d.deliverableWith mask n < d.sumGuar), 2)]
    Eng.upd fun d => ((maskList mask).foldl (fun (d : Dev) c => d.setChan c { d.chan c with scrub := n }) d).republish
    pure {} }

def QClass.words (x : QClass) : List Byte :=
  bytesOfNat 2 x.guar ++ [BitVec.ofNat 8 x.prio, 0] ++ bytesOfNat 2 x.target ++ bytesOfNat 2 x.thresh ++ bytesOfNat 4 x.limit ++
    [BitVec.ofNat 8 ((if x.notify then 128 else 0) + x.nLd % 16 * 8 + x.nLink % 8), 0] ++ bytesOfNat 2 x.vector ++ List.replicate 16 0

def setclassReadPel : Pel := {
  op := 0xC4, mod := some 2, form := formM 15 (ra := true) (dwin := true),
  body := fun c x w v => do
    let d ← Eng.dev
    Eng.output c x w v (d.class (w.imm.toNat % 16)).words
    pure {} }

/-! ### POLICY (R244, R245, R354, R579) -/

/-- Fields of the policy descriptor: offset, bytes, least and greatest value (R244). The migration budget's top is its ceiling. -/
def descRanges : List (Nat × Nat × Nat × Nat) :=
  [(0, 4, 10, 60000), (4, 1, 1, 8), (5, 1, 0, 255), (6, 1, 0, 15), (7, 1, 0, 0), (8, 2, 1, 64), (10, 2, 1, 65535), (12, 2, 1, 128),
   (14, 2, 0, 65535), (16, 2, 0, 65535)] ++ (List.range 46).map fun i => (18 + i, 1, 0, 0)

def Flow.described (f : Flow) (bs : List Byte) : Flow := { f with
  epochMs := fieldAt bs 0 4, shift := fieldAt bs 4 1, readW := fieldAt bs 5 1 % 16, writeW := fieldAt bs 5 1 / 16,
  cls := fieldAt bs 6 1, sweepBud := fieldAt bs 8 2, migBud := fieldAt bs 10 2, spillBud := fieldAt bs 12 2,
  quota0 := fieldAt bs 14 2, quota1 := fieldAt bs 16 2 }

def policyDescriptorPel : Pel := {
  op := 0xC6, mod := some 0, form := formM 0 (ra := true) (swin := true),
  body := fun c x w v => do
    let bs ← Eng.operand c x w v 64
    let d ← Eng.dev
    match descRanges.find? fun r => decide (fieldAt bs r.1 r.2.1 < r.2.2.1 ∨ r.2.2.2 < fieldAt bs r.1 r.2.1) with
    | some r => refuse 0x0235 1 r.1
    | none =>
      if d.deliverable / 8 < fieldAt bs 10 2 then refuse 0x0235 2 (some 10)
      else
        Eng.upd fun d => d.onFlow fun f => f.described bs
        pure {} }

def policyGrottoEntryPel : Pel := {
  op := 0xC6, mod := some 1, form := formM 63 (rb := true),
  body := fun _ _ w v => do
    let e := v.b.1
    let n := e.toNat
    let bad : Option Nat :=
      if bitsOf n 63 60 = 0 ∨ 9 < bitsOf n 63 60 then some 60
      else if bitsOf n 59 58 = 3 then some 58
      else (List.range 34).find? fun i => n.testBit i
    match bad with
    | some b => refuse 0x0235 1 b
    | none =>
      Eng.upd fun d => (d.onFlow fun f => { f with entries := mset f.entries (immG w) e }).modGrotto (immG w) fun x => x.withEntry e
      pure {} }

/-- Extend MR4 by a digest (R579). -/
def Flow.extend (f : Flow) (digest : List Byte) : Flow :=
  { f with measure := BitVec.ofNat 256 (natOfBytes (sha256 (bytesOfNat 32 f.measure.toNat ++ digest))) }

def chunk16 : Nat → List Byte → List (BitVec 128)
  | 0, _ => []
  | n + 1, bs => BitVec.ofNat 128 (natOfBytes (bs.take 16)) :: chunk16 n (bs.drop 16)

def policyLoadProgramPel : Pel := {
  op := 0xC6, mod := some 2, form := formM 0 (ra := true) (rc := true) (swin := true),
  body := fun c x w v => do
    let n := v.c.1.toNat
    if n = 0 then
      Eng.upd fun d => d.onFlow fun f =>
        ({ f with builtin := true, program := [], progFault := false } : Flow).extend (bytesOfNat 32 Config.builtinDigest.toNat)
      pure {}
    else
      let as ← Eng.ranges c x [{ win := w.swin.toNat, off := v.a.1.toNat, len := 16 * n }]
      if 256 < n then refuse 0x0235 3
      else
        let bs ← Eng.read c (areaAt as 0) 0 (16 * n)
        Eng.check (!(bs.any (·.2))) 0x020A
        let bytes := bs.map (·.1)
        Eng.upd fun d => d.onFlow fun f =>
          ({ f with builtin := false, program := chunk16 n bytes, progFault := false } : Flow).extend (sha256 bytes)
        pure {} }

/-- A field that stays where the value written is 0 (R354). -/
def orKeep (v old : Nat) : Nat := if v = 0 then old else v

def policySetLimitsPel : Pel := {
  op := 0xC6, mod := some 3, form := formM 0 (rb := true) (rc := true),
  body := fun _ _ _ v => do
    let b := v.b.1.toNat
    let k := v.c.1.toNat
    let bad : List (Bool × Nat) := [
      (decide (1000 < bitsOf b 15 0), 0), (decide (4000 < bitsOf b 31 16), 16), (decide (40 < bitsOf b 39 32), 32),
      (bitsOf b 63 40 != 0, 40), (decide (1000000 < bitsOf k 29 0), 0), (bitsOf k 63 30 != 0, 30)]
    match bad.find? (·.1) with
    | some (_, p) => refuse 0x0235 1 p
    | none =>
      Eng.upd fun d => d.onFlow fun f => { f with
        biTimeout := orKeep (bitsOf b 15 0) f.biTimeout, frameLimit := orKeep (bitsOf b 31 16) f.frameLimit,
        watermark := orKeep (bitsOf b 39 32) f.watermark, idleTime := orKeep (bitsOf k 29 0) f.idleTime }
      pure {} }

def policyReadLimitsPel : Pel := {
  op := 0xC6, mod := some 4, form := formM 0 (ra := true) (dwin := true),
  body := fun c x w v => do
    let d ← Eng.dev
    let f := d.flow
    Eng.output c x w v (wordsBytes [f.biTimeout + f.frameLimit * 65536 + f.watermark * 2 ^ 32, f.idleTime])
    pure {} }

/-! ### INJECT (R356, R486, R495, R496) -/

/-- Units that hold storage arrays (R486). -/
def injectable (u : Nat) : Bool :=
  decide ((0x100 ≤ u ∧ u ≤ 0x22F) ∨ (0x300 ≤ u ∧ u ≤ 0x30F) ∨ (0x380 ≤ u ∧ u ≤ 0x386))

def immUnit (w : PWord) : Nat := bitsOf w.imm.toNat 15 0

def armBody (w : PWord) (flip : Option (Word × Word)) : Eng Result := do
  let d ← Eng.dev
  Eng.refusals 0x0238 [(!injectable (immUnit w), 1), ((d.armedOn (immUnit w)).isSome, 2)]
  Eng.upd fun d => d.onFaults fun f => { f with
    armed := f.armed ++ [{ unit := immUnit w, word := bitsOf w.imm.toNat 18 16, flip := flip }] }
  pure {}

def injectFlipMaskPel : Pel := {
  op := 0xC8, mod := some 0, form := formM 0x7FFFF (rb := true) (rc := true),
  body := fun _ _ w v => armBody w (some (v.b.1, v.c.1)) }
def injectInvertedCheckBitsPel : Pel := {
  op := 0xC8, mod := some 1, form := formM 0x7FFFF, body := fun _ _ w _ => armBody w none }
def injectDisarmPel : Pel := {
  op := 0xC8, mod := some 2, form := formM 0xFFFF,
  body := fun _ _ w _ => do
    Eng.refusals 0x0238 [(!injectable (immUnit w), 1)]
    Eng.upd fun d => d.disarm (immUnit w)
    pure {} }

/-! ### SURVEY (R357, R519, R520) -/

/-- What SURVEY reports once its survey has been broadcast. -/
def surveyOut (c : Ctx) (x : Queue) (w : PWord) (v : Vals) (seq time : Nat) : Eng Result := do
  let d ← Eng.dev
  if w.mod.getLsbD 0 then
    Eng.output c x w v (wordsBytes ((List.range 1536).map fun n => mgetD d.cnt.hold n 0))
  pure { r0 := BitVec.ofNat 64 seq, r1 := BitVec.ofNat 64 time }

/-- SURVEY: one that arrives while another is under way is merged into the next, and waits for its broadcast (R520). -/
def surveyPel : Pel := {
  op := 0xC9,
  form := fun w => (if w.mod.getLsbD 0 then (formM 0 (ra := true) (dwin := true) : PWord → Bool) w else (formM 0 : PWord → Bool) w) && decide (w.mod.toNat ≤ 1),
  body := fun c x w v => do
    if w.mod.getLsbD 0 then
      let _ ← Eng.ranges c x [{ win := w.dwin.toNat, off := v.a.1.toNat, len := 12288, right := 1 }]
    let d ← Eng.dev
    match mget d.pages.farBuf (surveyKey c.q c.pos) with
    | some (t, _) =>
      let seq := t.toNat % 2 ^ 32
      if d.cnt.seq.toNat = seq then surveyOut c x w v seq d.cnt.time
      else if (d.cnt.seq + 1).toNat = seq ∧ d.cnt.pendingSurvey then surveyOut c x w v seq d.cnt.surveyAt
      else Eng.wait .hold
    | none =>
      if d.cnt.pendingSurvey then Eng.wait .survey
      else
        let (seq, d1) := d.survey
        Eng.upd fun _ => d1
        surveyOut c x w v seq.toNat d1.cnt.surveyAt }

/-! ### SPARE and RECORD (R152, R358, R359) -/

/-- Resource of hard repair: subchannel, rank, bank group and device (R150). -/
def spareKey (x : Chan) (w : PWord) : Nat :=
  repairKey { sub := bitsOf w.imm.toNat 5 5, rank := spareRank x w, bg := bitsOf w.imm.toNat 11 9,
              bank := bitsOf w.imm.toNat 13 12, row := bitsOf w.imm.toNat 31 14, col := 0 } (bitsOf w.imm.toNat 35 32)

/-- Whether a rank holds backed frames: pages, moves' destinations or heap sectors. -/
def Dev.rankBacked (d : Dev) (c r : Nat) : Bool :=
  let ranks := (d.chan c).ranks
  let here (f : Nat) : Bool := frameChan f == c && rankOf ranks (frameIdx f) == r
  (d.pages.area.any fun e => peView e.2 == 1 && here (peLoc e.2)) || d.pages.heaps.any (fun e => here e.1) ||
    d.pages.moves.any (fun m => match m.dst with
      | .frame f => here f
      | _ => false) || d.pages.promos.any (fun p => here p.frame) || d.mem.guests.any fun e => here e.1

/-- Whether the address of a SPARE lies in its rank (R115, R116, R120): a device 0 to 9 and a row that the rank has. -/
def spareInside (x : Chan) (w : PWord) : Bool :=
  let slot := if w.imm.getLsbD 4 then x.slot1 else x.slot0
  let rows := x.frames / max 1 x.ranks / 128
  decide (bitsOf w.imm.toNat 35 32 ≤ 9 ∧ bitsOf w.imm.toNat 31 14 < rows) && slot.any fun a => decide (bitsOf w.imm.toNat 8 6 < dimmRanks a)

/-- SPARE waits for firmware. -/
def sparePel : Pel := {
  op := 0xCA, mod := some 0, form := formM 0xFFFFFFFFF,
  body := fun _ _ w _ => do
    let d ← Eng.dev
    let c := bitsOf w.imm.toNat 3 0
    let x := d.chan c
    let k := spareKey x w
    if !d.fwUp then Eng.wait .hold
    else
      Eng.refusals 0x0237 [
        (d.rankBacked c (spareRank x w), 1), (x.hardUsed.contains k, 2), (x.state != 3, 3), (!spareInside x w, 4)]
      Eng.upd fun d => (d.setChan c { d.chan c with hardMade := x.hardMade + 1, hardUsed := x.hardUsed ++ [k] }).owes 4 c
      pure {} }

/-- RECORD waits for firmware; the port-width record is written as it completes (R32, R359). -/
def recordPel : Pel := {
  op := 0xCB,
  form := fun w => if w.mod = 1 then (formM 7 : PWord → Bool) w else (formM 0 : PWord → Bool) w,
  body := fun _ _ w _ => do
    Eng.check (w.mod == 1) 0x0239 { r0 := some 1 }
    let d ← Eng.dev
    if d.fwUp then pure {} else Eng.wait .hold }

/-- GROTTO_WRITE (R348, R76 to R79). -/
def execGrottoWrite (q : Nat) (w : PWord) (s : State) : Answer := s.issue q w grottoWritePel
/-- GROTTO_READ (R348, R76). -/
def execGrottoRead (q : Nat) (w : PWord) (s : State) : Answer := s.issue q w grottoReadPel
/-- GROTTO_ATTACH (R348, R38, R39). -/
def execGrottoAttach (q : Nat) (w : PWord) (s : State) : Answer := s.issue q w grottoAttachPel
/-- GROTTO_DETACH (R348). -/
def execGrottoDetach (q : Nat) (w : PWord) (s : State) : Answer := s.issue q w grottoDetachPel
/-- GROTTO_RETURN_TO_SERVICE (R348, R185). -/
def execGrottoReturnToService (q : Nat) (w : PWord) (s : State) : Answer := s.issue q w grottoReturnToServicePel
/-- GROTTO_OFFER_EXTENT (R348, R47, R48, R447). -/
def execGrottoOfferExtent (q : Nat) (w : PWord) (s : State) : Answer := s.issue q w grottoOfferExtentPel
/-- GROTTO_DELETE (R348, R79). -/
def execGrottoDelete (q : Nat) (w : PWord) (s : State) : Answer := s.issue q w grottoDeletePel
/-- QUEUE_WRITE (R268 to R270, R349). -/
def execQueueWrite (q : Nat) (w : PWord) (s : State) : Answer := s.issue q w queueWritePel
/-- QUEUE_DELETE (R270, R349). -/
def execQueueDelete (q : Nat) (w : PWord) (s : State) : Answer := s.issue q w queueDeletePel
/-- QUEUE_READ (R349). -/
def execQueueRead (q : Nat) (w : PWord) (s : State) : Answer := s.issue q w queueReadPel
/-- WINDOW_WRITE (R277, R350). -/
def execWindowWrite (q : Nat) (w : PWord) (s : State) : Answer := s.issue q w windowWritePel
/-- WINDOW_INVALIDATE (R350). -/
def execWindowInvalidate (q : Nat) (w : PWord) (s : State) : Answer := s.issue q w windowInvalidatePel
/-- WINDOW_READ (R350). -/
def execWindowRead (q : Nat) (w : PWord) (s : State) : Answer := s.issue q w windowReadPel
/-- KEYLOAD_LOAD (R351, R587). -/
def execKeyloadLoad (q : Nat) (w : PWord) (s : State) : Answer := s.issue q w keyloadLoadPel
/-- KEYLOAD_ERASE (R351, R100). -/
def execKeyloadErase (q : Nat) (w : PWord) (s : State) : Answer := s.issue q w keyloadErasePel
/-- SETCLASS_WRITE (R352, R499, R504). -/
def execSetclassWrite (q : Nat) (w : PWord) (s : State) : Answer := s.issue q w setclassWritePel
/-- SETCLASS_SCRUB_RESERVE (R352, R139, R504). -/
def execSetclassScrubReserve (q : Nat) (w : PWord) (s : State) : Answer := s.issue q w setclassScrubReservePel
/-- SETCLASS_READ (R352). -/
def execSetclassRead (q : Nat) (w : PWord) (s : State) : Answer := s.issue q w setclassReadPel
/-- POLICY_DESCRIPTOR (R244, R354). -/
def execPolicyDescriptor (q : Nat) (w : PWord) (s : State) : Answer := s.issue q w policyDescriptorPel
/-- POLICY_GROTTO_ENTRY (R245, R354). -/
def execPolicyGrottoEntry (q : Nat) (w : PWord) (s : State) : Answer := s.issue q w policyGrottoEntryPel
/-- POLICY_LOAD_PROGRAM (R354, R579). -/
def execPolicyLoadProgram (q : Nat) (w : PWord) (s : State) : Answer := s.issue q w policyLoadProgramPel
/-- POLICY_SET_LIMITS (R354). -/
def execPolicySetLimits (q : Nat) (w : PWord) (s : State) : Answer := s.issue q w policySetLimitsPel
/-- POLICY_READ_LIMITS (R354). -/
def execPolicyReadLimits (q : Nat) (w : PWord) (s : State) : Answer := s.issue q w policyReadLimitsPel
/-- INJECT_FLIP_MASK (R356, R495). -/
def execInjectFlipMask (q : Nat) (w : PWord) (s : State) : Answer := s.issue q w injectFlipMaskPel
/-- INJECT_INVERTED_CHECK_BITS (R356, R496). -/
def execInjectInvertedCheckBits (q : Nat) (w : PWord) (s : State) : Answer := s.issue q w injectInvertedCheckBitsPel
/-- INJECT_DISARM (R356). -/
def execInjectDisarm (q : Nat) (w : PWord) (s : State) : Answer := s.issue q w injectDisarmPel
/-- SURVEY (R357, R519, R520). -/
def execSurvey (q : Nat) (w : PWord) (s : State) : Answer := s.issue q w surveyPel
/-- SPARE (R152, R358). -/
def execSpare (q : Nat) (w : PWord) (s : State) : Answer := s.issue q w sparePel
/-- RECORD (R32, R359). -/
def execRecord (q : Nat) (w : PWord) (s : State) : Answer := s.issue q w recordPel

end Sys2Proof.Machine
end

