-- ==== Sys2Proof/Machine/EvOps.lean ====
section
/-!
DEFINITION. Evoil ports and ropes (12): acknowledgement, replay, retrain and loss of a port; partner loss, rebuild, formation;
what the loss of a neighbour does to remote pages; guest frames.
-/
namespace Sys2Proof.Machine

/-- Whether Evoil ports work in the present mode (R423). -/
def Dev.evLive (d : Dev) : Bool := d.power.mode == .run || d.power.mode == .doze || d.power.mode == .deep

def Dev.modEv (d : Dev) (p : Nat) (f : EvPort → EvPort) : Dev := d.setEv p (f (d.evPort p))

/-- Set bits of EV_FAULT (R463). -/
def Dev.evFault (d : Dev) (p : Nat) (bits : BitVec 8) : Dev := d.modEv p fun x => { x with fault := x.fault ||| bits }

/-- DEGRADED for a port that is down or narrow (R421, R438, R440, R442). -/
def Dev.evDegraded (d : Dev) (p : Nat) : Dev := d.raise { code := 0x5003, cls := 2, unit := unitEv p }

def evFuel : Nat := 4096

/-! ### Waiting mirrored writes (R452, R455) -/

/-- Complete one wait for a placement report: an engine that asked for an admission is told in its buffer. -/
def Dev.placedReq (d : Dev) (r : Req) : Dev :=
  match r.op with
  | .again => d.keep r.who r.g r.line 0 false
  | _ => d.answerWrite r

/-- Whether sequence s is covered by a report of t (R452). -/
def seqCovered (s t : BitVec 32) : Bool := decide ((t - s).toNat < 2 ^ 31)

/-- Complete the waits that satisfy a test. -/
def Dev.releaseMirror (d : Dev) (test : Nat × BitVec 32 × Req → Bool) : Dev :=
  let go := d.pages.mirrorWait.filter test
  let d1 := d.onPages fun p => { p with mirrorWait := p.mirrorWait.filter fun e => !test e }
  go.foldl (fun (d : Dev) e => d.placedReq e.2.2) d1

/-! ### Remote pages and neighbours (R262) -/

/-- Pages of grottos that an Evoil port's neighbour holds. -/
def Dev.remotePages (d : Dev) (p : Nat) : List (Nat × Nat) :=
  d.pages.area.filterMap fun e =>
    if peView e.2 == 3 && remotePort e.2 == p then (d.grottoAt e.1).map fun g => (g, e.1 - (d.grotto g).mapBase) else none

/-- Moves that use a port: spills to it, and promotions from it. -/
def Dev.movesOver (d : Dev) (p : Nat) : List Move :=
  d.pages.moves.filter fun m => (match m.dst with
    | .guest q _ => q == p
    | _ => false) || (peView (d.entry m.g m.page) == 3 && remotePort (d.entry m.g m.page) == p)

/-- The neighbour on a port is lost (R262): its pages are rebuilt from the partner or lost, with one CONTAINED fault a grotto; reads
in flight return poison; writes in flight are taken up against the page that results. -/
def Dev.neighbourLost (d : Dev) (p : Nat) : Dev :=
  let d0 := (d.movesOver p).foldl (fun (d : Dev) m => (d.abandon m).againAll 3 m.held) d
  let pages := d0.remotePages p
  let flying := d0.pages.fars.filter fun f => f.port == p && !f.rope && f.page.isNone
  let d1 := d0.onPages fun k => { k with fars := k.fars.filter fun f => !(f.port == p && !f.rope) }
  let d2 := pages.foldl (fun (d : Dev) gp =>
    if d.covered gp.1 then d.rebuildPage gp.1 gp.2 none else d.turn gp.1 gp.2 4 0 0) d1
  let gs := (List.range 64).filter fun g => pages.any fun gp => gp.1 == g
  let d3 := gs.foldl (fun (d : Dev) g =>
    if d.covered g then d
    else d.raise { code := 0x3003, cls := 3, unit := unitEv p, grotto := some g, detail := (pages.filter fun gp => gp.1 == g).length }) d2
  flying.foldl (fun (d : Dev) f =>
    if f.req.op.isWrite then d.again 3 f.req
    else match f.req.op with
      | .again => d
      | _ => let (y, d1) := d.freeLine; d1.answerRead f.req y true) d3

/-! ### Rope: partner loss (R455 to R457) -/

/-- Ports that a rope uses. -/
def Rope.ports (r : Rope) : List Nat := if r.both then [0, 1] else [r.port]

/-- Answer what waited for the partner once it is gone: reads are taken up again, and pages in rebuild follow the rules for
unmirrored grottos (R457): they become lost, or lose the sub-blocks that cannot be read. -/
def Dev.dropPartner (d : Dev) : Dev :=
  let flying := d.pages.fars.filter (·.rope)
  let ps := d.ev.rope.pages
  let d1 := (d.onPages fun k => { k with fars := k.fars.filter fun f => !f.rope }).onRope fun r => { r with
    pages := [], rebuilds := [], todo := [], carrier := none }
  let d2 := ps.foldl (fun (d : Dev) x =>
    let d1 := match x.frame with
      | some f => (d.hold x.g (frameChan f) (-1)).freeFrame f
      | none => d
    let w := d1.entry x.g x.page
    let d2 :=
      if peView w = 4 then d1.containPage 0x3003 (unitEv x.port) x.g x.page 2
      else if x.partly && (d1.galleryOf x.g x.page).isSome then (if peState w = 5 then d1.toSource x.g x.page else d1)
      else ((d1.releaseBacking x.g x.page).turn x.g x.page 4 0 (lostLoc w)).containPage 0x3003 (unitEv x.port) x.g x.page 2
    d2.againAll 3 x.waiting) d1
  flying.foldl (fun (d : Dev) f => match f.req.op with
    | .again | .victim .. => d
    | _ => d.again 3 f.req) d2

/-- Mark the regions of the mirror messages that a rope has not placed (R455, R456). -/
def Dev.markUnplaced (d : Dev) (r : Rope) : Dev :=
  r.unplaced.foldl (fun (d : Dev) e => match e.2.2 with
    | .mirrorLine m => d.mark m.grotto m.line
    | .mapChange _ n g page _ => d.markPages g page n
    | _ => d) d

/-- The partner is lost (R455): alone, DEGRADED, marks, then the waiting writes complete (R407). -/
def Dev.ropeAlone (d : Dev) (cause : Nat) : Dev :=
  let r := d.ev.rope
  if r.state = 0 ∨ r.state = 3 then d
  else
    let d1 := d.onRope fun r => { r with
      state := 3, wasSynced := r.state == 1, broke := if r.state = 1 then r.paired else [], markEpoch := r.epoch, unplaced := [] }
    let d2 := d1.raise {
      code := 0x5004, cls := 2, unit := unitEv (if r.both then 0 else r.port), akind := 6, addr := r.partner.toNat, detail := cause }
    let d3 := d2.markUnplaced r
    let d4 := (d3.releaseMirror fun _ => true).dropPartner
    let d5 := match r.forming with
      | some (_, q, pos) => d4.tell q pos fun x => { x with r0 := r.mask.setWidth 64, r1 := r.epoch.setWidth 64 }
      | none => d4
    (d5.onRope fun r => { r with forming := none }).retrySlots.after

/-- One of two rope ports goes down (R453): what it had not placed is sent over the other with the resent flag. Rope reads in flight on it
fail (R441, R262): they return poison, and pages are asked of the partner again over the other port. -/
def Dev.ropeShift (d : Dev) (p : Nat) : Dev :=
  let mine := d.ev.rope.unplaced.filter fun e => e.1 == p
  let q := 1 - p
  let resent (m : EvMsg) : EvMsg := match m with
    | .mirrorLine l => .mirrorLine { l with resent := true }
    | x => x
  let d1 := mine.foldl (fun (d : Dev) e => d.evSend q (resent e.2.2)) d
  let flying := d.pages.fars.filter fun f => f.rope && f.port == p
  let d2 := (d1.onRope fun r => { r with
    carrier := some q, unplaced := r.unplaced.map fun e => if e.1 = p then (q, e.2.1, resent e.2.2) else e,
    pages := r.pages.map fun x => if x.port = p then { x with port := q, sent := false, got := 0 } else x }).onPages fun k => { k with
      mirrorWait := k.mirrorWait.map fun e => if e.1 = p then (q, e.2) else e, fars := k.fars.filter fun f => !(f.rope && f.port == p) }
  flying.foldl (fun (d : Dev) f => match f.req.op with
    | .victim .. => d.again 3 f.req
    | _ => let (y, d1) := d.freeLine; d1.answerRead f.req y true) d2

/-! ### A port goes down (R422, R441) -/

/-- The end of a port's session. What the port has received and not handled is dropped with it; the counts the far end keeps stay. -/
def EvPort.ended (x : EvPort) : EvPort := { x with
  state := 0, narrow := false, echo := [], txq := [], rxq := [], nakSent := false, retrains := 0, retrainCause := none,
  helloSent := false, helloGot := false, placing := [], held := [], cur := [], handles := [] }

/-- A port goes down from active or retraining (R422, R441): the rope moves to its other port or is alone, and the neighbour is lost. -/
def Dev.portDown (d : Dev) (p : Nat) (bits : BitVec 8) (degraded : Bool) : Dev :=
  let x := d.evPort p
  if x.state ≠ 2 ∧ x.state ≠ 3 then d
  else
    let d1 := (d.setEv p { x.ended with fault := x.fault ||| bits ||| 0x80#8 })
    let d2 := if degraded then d1.evDegraded p else d1
    let r := d2.ev.rope
    let d3 := if r.state = 1 ∨ r.state = 2 then
        (if r.ports.contains p then (if r.both ∧ d2.ropeUp (1 - p) then d2.ropeShift p else d2.ropeAlone 1) else d2)
      else d2
    (d3.neighbourLost p).after

/-! ### Replay and retrain (R433 to R435, R440) -/

/-- Send the flits from a place of the echo buffer on again (R435). -/
def Dev.replay (d : Dev) (p i : Nat) : Dev :=
  let x := d.evPort p
  let d1 := if (x.echo.drop i).isEmpty then d else d.evFault p 0x02#8
  (x.echo.drop i).zipIdx.foldl (fun (d : Dev) e =>
    let y := d.evPort p
    ((d.emit (.flit p 1 (x.unacked + BitVec.ofNat 12 (i + e.2)).toNat y.ack y.freed.toNat false e.1.1)).bump (evCnt p 2)).evCountOut p) d1

/-- Begin a retrain (R440): the first, or the repeat of a failed one; after the second the port goes down. -/
def Dev.startRetrain (d : Dev) (p : Nat) (cause : Option (BitVec 12)) : Dev :=
  let x := d.evPort p
  if 2 ≤ x.retrains then d.portDown p 0x40#8 true
  else (d.setEv p { x with
    state := 3, retrains := x.retrains + 1, retrainCause := cause, fault := x.fault ||| 0x20#8 }).bump (evCnt p 7)

/-- Count a failure against a flit of the echo buffer (R433, R434, R440). -/
def Dev.flitFails (d : Dev) (p : Nat) (n : BitVec 12) : Dev :=
  let x := d.evPort p
  let i := (n - x.unacked).toNat
  match x.echo[i]? with
  | none => d
  | some (ms, k) =>
    let d1 := d.setEv p { x with echo := x.echo.set i (ms, k + 1) }
    if 1 ≤ k ∨ x.retrainCause = some n then d1.startRetrain p (some n) else d1.replay p i

/-- Free the flits up to n excluded (R429); replays and retrains that came good are CORRECTED. -/
def Dev.freeTo (d : Dev) (p : Nat) (n : BitVec 12) : Dev :=
  let x := d.evPort p
  let k := (n - x.unacked).toNat
  if k = 0 then d
  else
    let again := (x.echo.take k).any fun e => e.2 != 0
    let cured := match x.retrainCause with
      | some c => decide ((c - x.unacked).toNat < k)
      | none => false
    let y : EvPort := { x with unacked := n, echo := x.echo.drop k }
    if cured then
      (d.setEv p { y with retrains := 0, retrainCause := none, echo := y.echo.map fun e => (e.1, 0) }).raise
        { code := 0x5002, cls := 1, unit := unitEv p, att := 2 }
    else if again && x.retrainCause.isNone then (d.setEv p y).raise { code := 0x5001, cls := 1, unit := unitEv p, att := 2 }
    else d.setEv p y

/-- An ack, NAK or credit that is not valid (R429, R437). -/
def Dev.evInvalid (d : Dev) (p : Nat) : Dev := ((d.evFault p 0x04#8).bump (evCnt p 6)).event (unitEv p)

/-- The ack of a good header (R429, R433). -/
def Dev.takeAck (d : Dev) (p : Nat) (f : Flit) : Dev :=
  let x := d.evPort p
  let out := (x.nextSeq - x.unacked).toNat
  if f.nak then
    if (f.ack - x.unacked).toNat ≤ out then
      let d1 := d.freeTo p f.ack
      if f.ack = x.nextSeq then d1 else d1.flitFails p f.ack
    else d.evInvalid p
  else if (f.ack - x.unacked + 1).toNat ≤ out then d.freeTo p (f.ack + 1)
  else d.evInvalid p

/-- The credit of a good header (R437). -/
def Dev.takeCredit (d : Dev) (p : Nat) (f : Flit) : Dev :=
  let x := d.evPort p
  if (f.credit - x.limit).toNat ≤ (x.nextSeq - x.limit).toNat then d.setEv p { x with limit := f.credit } else d.evInvalid p

/-- Whether a message is of a reserved kind (R425, R426). -/
def EvMsg.bad : EvMsg → Bool
  | .reserved _ => true
  | _ => false

/-- What a port sends once a flit has been taken: payload that is ready, or a control flit with the ack (R431). -/
def Dev.evAnswer (d : Dev) (p : Nat) : Dev := if d.evReady p then d.evPump p evFuel else d.evControl p

/-- A payload flit with its sequence (R430, R432). -/
def Dev.takePayload (d : Dev) (p : Nat) (f : Flit) : Dev :=
  let x := d.evPort p
  if f.seq = x.expect then
    ((d.setEv p { x with expect := x.expect + 1, nakSent := false, rxq := x.rxq ++ [f.msgs] }).bump (evCnt p 1)).evAnswer p
  else if 1 ≤ (x.expect - f.seq).toNat ∧ (x.expect - f.seq).toNat ≤ 1024 then (d.bump (evCnt p 5)).evControl p
  else if x.nakSent then d else d.evNak p

/-- A flit arrives (R425, R429 to R433, R437). -/
def Dev.flitIn (d : Dev) (p : Nat) (f : Flit) : Dev :=
  if 2 ≤ p ∨ (d.evPort p).state ≠ 2 ∨ !d.evLive then d
  else
    let d0 := d.onCnt fun c => { c with evIn := mmod c.evIn p 0 (· + 1) }
    let odd := decide (2 ≤ f.kind) || !f.resvOk || f.msgs.any EvMsg.bad
    if !f.crcOk ∨ odd then
      let d1 := (d0.evFault p 0x01#8).bump (evCnt p 3)
      (if f.crcOk then d1.event (unitEv p) else d1).evNak p
    else
      let d1 := (d0.takeAck p f).takeCredit p f
      if (d1.evPort p).state ≠ 2 then d1
      else if f.kind = 1 then (if f.seq = (d1.evPort p).expect then d1.wake 3 p else d1).takePayload p f
      else if d1.evReady p then d1.evPump p evFuel else d1

/-! ### Messages as they are handled -/

/-- The rope sequence of a mirror message. -/
def EvMsg.seq? : EvMsg → Option (BitVec 32)
  | .mirrorLine m => some m.seq
  | .mapChange _ _ _ _ s => some s
  | _ => none

/-- A mirror message whose placement the port must report (R451). -/
def EvPort.await (x : EvPort) (m : EvMsg) : EvPort :=
  match EvMsg.seq? m with
  | some s => { x with placing := x.placing ++ [(s, false)], cur := x.cur ++ [s] }
  | none => x

/-- The message at the front of a port, taken off; the receive slot of its flit is freed with its last message, or when the mirror
messages among them are placed (R436). A device that a message wakes handles it once it is awake (R423). -/
def Dev.popMsg (d : Dev) (p : Nat) : Option (EvMsg × Dev) :=
  if 2 ≤ p ∨ !d.awake then none
  else match (d.evPort p).rxq with
    | (m :: t) :: rest =>
      let x := (d.evPort p).await m
      let y : EvPort :=
        if t.isEmpty then
          (if x.cur.isEmpty then { x with rxq := rest, freed := x.freed + 1 }
           else { x with rxq := rest, held := x.held ++ [x.cur], cur := [] })
        else { x with rxq := t :: rest }
      some (m, d.setEv p y)
    | [] :: rest => some (.reserved 0, d.modEv p fun x => { x with rxq := rest, freed := x.freed + 1 })
    | [] => none

/-- Handle the message at the front of a port if it is of the kind at hand: f gives the meaning of those that are. A flit with no
message left is passed over. -/
def Dev.handle (d : Dev) (p : Nat) (f : Dev → EvMsg → Option Dev) : Dev :=
  match d.popMsg p with
  | none => d
  | some (m, d1) => (f d1 m).getD (match m with
    | .reserved _ => d1
    | _ => d)

/-! ### Mirror messages at the receiver (R449 to R453) -/

/-- Whether a mirror message is to be applied: one resent from the other port only above what that port had placed (R453). -/
def Dev.freshSeq (d : Dev) (p : Nat) (resent : Bool) (s : BitVec 32) : Bool :=
  !resent || (match (if p = 0 then d.ev.rope.rx1 else d.ev.rope.rx0) with
    | some t => !seqCovered s t
    | none => true)

/-- The port's pipe opens a line under the key that its page has here (R427). -/
def Dev.unsealed (d : Dev) (m : LineMsg) : LineData :=
  if m.poison || m.zero then 0
  else match d.pageKey? m.grotto (pageOf m.line) with
    | some k =>
      let t := lineTweak m.grotto (pageOf m.line) (lineIn m.line)
      ({ kind := .data, key := m.key, tweak := t, data := m.data } : DLine).open k t
    | none => m.data

/-- A mirror line is applied as a cacheless write of source 161 or 162 into the mirror copy (R451). -/
def Dev.mirrorIn (d : Dev) (p : Nat) (m : LineMsg) : Dev :=
  let d0 := if m.rebuild then d.bump (evCnt p 13) else d
  if (d0.grotto m.grotto).copy ∧ d0.freshSeq p m.resent m.seq then
    let r : Req := {
      who := .rope p m.seq, src := 161 + p, g := m.grotto, line := m.line, cls := (d0.grotto m.grotto).cls,
      op := .write fullMask (d0.unsealed m) m.poison }
    (d0.again 1 r).after
  else d0.ropePlaced p m.seq

/-- Whether a map change reached a port that it does not go by when both ports of the rope work: it may be a resent one (R453),
and R426 gives a map change no resent flag. -/
def Dev.crossed (d : Dev) (p g page : Nat) : Bool :=
  d.ev.rope.both && (if homeSlice g (page * 64) < 8 then 0 else 1) != p

/-- A mirror map change is applied to the mirror copy (R447, R449, R451, R453). -/
def Dev.mapChangeIn (d : Dev) (p action n g page : Nat) (s : BitVec 32) : Dev :=
  let x := d.grotto g
  let ext := (page / unitPages, n / unitPages)
  let done (d : Dev) : Dev := (d.ropePlaced p s).after
  let empty (d : Dev) : Dev := (d.again 1 { who := .rope p s, src := 161 + p, g := g, line := page * 64, op := .unback n, cls := x.cls }).after
  if !x.copy || !d.freshSeq p (d.crossed p g page) s then done d
  else match action with
    | 0 => empty d
    | 1 => done { (d.dropKeyed x.keyId).dropKeyed x.elasticKeyId with keys := merase (merase d.keys x.keyId) x.elasticKeyId }
    | 2 =>
      let y : Grotto := { x with accepted := x.accepted ++ [ext] }
      done (if d.overcommits { d with grottos := mset d.grottos g y } then d else d.setGrotto g y)
    | 3 => empty (d.modGrotto g fun x => { x with
        accepted := x.accepted.filter fun e => !(decide (ext.1 ≤ e.1 ∧ e.1 + e.2 ≤ ext.1 + ext.2)) })
    | _ => done d

/-! ### Placement reports and rebuilds (R452, R458 to R460) -/

/-- Rebuilds of grottos whose last line has been reported placed end (R460). -/
def Dev.checkRebuilds (d : Dev) : Dev :=
  let r := d.ev.rope
  let busy (e : Nat × BitVec 32) : Bool :=
    (r.unplaced.any fun u => match u.2.2 with
      | .mirrorLine m => m.rebuild && m.grotto == e.1
      | _ => false) || r.todo.any (fun x => x.1 == e.1) || d.pages.fars.any fun f => f.req.who == .quiet && f.req.op == .readI && f.req.g == e.1
  let (keep, done) := r.rebuilds.partition busy
  if done.isEmpty then d
  else
    let d1 := done.foldl (fun (d : Dev) e =>
      let x := d.grotto e.1
      let lo := x.mapBase * 4096 / 2097152
      let hi := (x.mapBase + x.units * unitPages) * 4096 / 2097152
      (d.onRope fun r => { r with marks := r.marks.filter fun k => !(decide (lo ≤ k ∧ k < hi)) }).evSend (d.ropePort e.1 0)
        (.ropeControl 3 e.1 0 0 0 0)) d
    d1.onRope fun r => { r with
      rebuilds := keep, state := if keep.isEmpty ∧ r.state = 2 then 1 else r.state,
      carrier := if keep.isEmpty ∧ r.state = 2 then none else r.carrier }

/-- Send one line of a grotto in a rebuild (R459); a remote line is asked of its neighbour first. -/
def Dev.rebuildLine (d : Dev) (g page : Nat) (x : Option Contents) (n : Nat) : Dev :=
  let w := d.entry g page
  let line := page * 64 + n
  if peView w = 3 ∧ (d.ncGet g line).isNone then
    d.farRead { who := .quiet, src := 160, g := g, line := line, op := .readI } (remotePort w) (remoteHandle w)
  else
    let zero := peView w == 1 && (d.dline (peLoc w) (lineIn line)).kind == .zero && (d.ncGet g line).isNone
    if zero then d
    else
      let (y, poison, d1) := d.moverLine g page n x
      (d1.mirrorLine g line y poison true).2

/-- Pages of a grotto that a rebuild sends (R458, R459): backed, and in marked regions where it is incremental. -/
def Dev.rebuildPages (d : Dev) (g : Nat) (inc : Bool) : List Nat :=
  let x := d.grotto g
  (d.backedPages g 0 (x.units * unitPages)).filter fun page => !inc || d.ev.rope.marks.contains (d.region g (page * 64))

/-- Whether a page has lines that a rebuild sends (R459). -/
def Dev.sendable (d : Dev) (g page : Nat) : Bool := let v := peView (d.entry g page); v == 1 || v == 2 || v == 3

/-- Send the pages of a rebuild in turn, while the rope has fewer than 16,384 mirror messages unreported (R450, R459). -/
def Dev.pumpRebuild (d : Dev) : Nat → Dev
  | 0 => d
  | n + 1 =>
    match d.ev.rope.todo with
    | [] => d
    | (g, page) :: t =>
      if 16384 < d.ev.rope.unplaced.length + 64 then d
      else
        let d0 := d.onRope fun r => { r with todo := t }
        if d0.sendable g page then
          let (x, d1) := if peView (d0.entry g page) = 2 then d0.readGallery g page d0.flow.cls [] else (none, d0)
          ((List.range 64).foldl (fun (d : Dev) n => d.rebuildLine g page x n) d1).pumpRebuild n
        else d0.pumpRebuild n

/-- A placement report (R452): rebuilds go on, and those whose last line it covers end. -/
def Dev.placedUpTo (d : Dev) (p : Nat) (s : BitVec 32) : Dev :=
  let d1 := d.releaseMirror fun e => e.1 == p && seqCovered e.2.1 s
  let d2 := d1.onRope fun r => { r with unplaced := r.unplaced.filter fun e => !(e.1 == p && seqCovered e.2.1 s) }
  ((d2.pumpRebuild evFuel).checkRebuilds.retrySlots).after

/-- Rebuild one paired grotto onto the partner (R458): its pages are sent as the rope's messages are reported. -/
def Dev.rebuildGrotto (d : Dev) (g : Nat) : Dev :=
  let r := d.ev.rope
  let inc := r.wasSynced && r.broke.contains g && r.epoch == r.markEpoch + 1
  let d0 := d.evSend (d.ropePort g 0) (.ropeControl 2 g 0 0 0 0)
  let d1 := if inc then d0 else (d0.mirrorMap g 0 0 ((d.grotto g).units * unitPages)).2
  d1.onRope fun r => { r with
    todo := r.todo.filter (fun e => e.1 != g) ++ (d.rebuildPages g inc).map fun page => (g, page),
    rebuilds := r.rebuilds.filter (fun e => e.1 != g) ++ [(g, r.next)] }

/-! ### Formation (R445 to R448) -/

/-- Key checks of a grotto's two entries (R446). -/
def Dev.checks (d : Dev) (x : Grotto) : BitVec 14 × BitVec 14 :=
  let one (k : Nat) : BitVec 14 := match mget d.keys k with
    | some v => keyCheckOf v
    | none => 0
  (one x.keyId, if x.elasticKeyId = 0 then 0 else one x.elasticKeyId)

def Dev.pairMsg (d : Dev) (g : Nat) : EvMsg :=
  let x := d.grotto g
  let (a, b) := d.checks x
  .ropeControl 0 g x.committed x.elasticMax a b

/-- Whether a port leads to a pool, its hello in (R445). -/
def Dev.leadsTo (d : Dev) (p : Nat) (pool : BitVec 12) : Bool :=
  (d.evPort p).state == 2 && (d.evPort p).helloGot && (d.evPort p).peerPool == some pool

/-- A rope with the neighbour on a port, at the larger epoch plus 1, which firmware copies into the Cairn store (R445, R448). -/
def Dev.newRope (d : Dev) (p : Nat) (pool : BitVec 12) : Dev :=
  let peer := (d.evPort p).peerEpoch
  (d.owes 6 0).onRope fun r => { r with
    state := 2, port := p, both := d.leadsTo (1 - p) pool, partner := pool, paired := [], mask := 0,
    epoch := (if r.epoch.ult peer then peer else r.epoch) + 1, rebuilds := [], todo := [], carrier := none, rx0 := none, rx1 := none, unplaced := [] }

/-- A formed rope is synced where no primary here has pages to send. -/
def Dev.settleRope (d : Dev) : Dev :=
  if d.ev.rope.state = 2 ∧ (d.ev.rope.paired.all fun g => (d.rebuildPages g false).isEmpty) then d.onRope fun r => { r with state := 1 }
  else d

/-- Whether a grotto here pairs with the values of the other device, and the role it takes (R446): some true for a primary, some
false for a mirror copy. -/
def Dev.pairs (d : Dev) (g committed elastic : Nat) (a b : BitVec 14) : Option Bool :=
  match d.grotto? g with
  | none => none
  | some x =>
    if !x.mirror ∨ x.committed ≠ committed ∨ x.elasticMax ≠ elastic ∨ d.checks x ≠ (a, b) then none
    else if x.state = 1 then some true
    else if x.state = 0 ∨ x.copy then
      (if d.overcommits { d with grottos := mset d.grottos g { x with state := 2, copy := true } } then none else some false)
    else none

/-- Take the role of a pair. -/
def Dev.takeRole (d : Dev) (g : Nat) (primary : Bool) : Dev :=
  let d1 := if primary then d else d.modGrotto g fun x => { x with state := 2, copy := true }
  (d1.owes 6 0).onRope fun r => { r with
    paired := if primary then r.paired.filter (· != g) ++ [g] else r.paired, mask := r.mask ||| (1#64 <<< g) }

/-- The end of a formation: the issuing ROPE is told its mask and epoch (R446). -/
def Dev.formed (d : Dev) : Dev :=
  match d.ev.rope.forming with
  | some (0, q, pos) =>
    let r := d.ev.rope
    ((d.onRope fun r => { r with forming := none }).tell q pos fun x =>
      { x with r0 := r.mask.setWidth 64, r1 := r.epoch.setWidth 64 }).settleRope
  | _ => d

/-- Pair control at either end. The issuer counts answers; the other device answers with its own values, or with zeros where it does
not pair (R446 gives no form for that answer). -/
def Dev.pairIn (d : Dev) (p g committed elastic : Nat) (a b : BitVec 14) : Dev :=
  match d.ev.rope.forming with
  | some (n, q, pos) =>
    let d1 := match (if committed + elastic = 0 then none else d.pairs g committed elastic a b) with
      | some primary => d.takeRole g primary
      | none => d
    (d1.onRope fun r => { r with forming := some (n - 1, q, pos) }).formed
  | none =>
    match (d.evPort p).peerPool with
    | none => d
    | some pool =>
      let r := d.ev.rope
      let fresh := r.state == 0 || r.state == 3 || r.mask.getLsbD g
      let d1 := if fresh then d.newRope p pool else d
      match d1.pairs g committed elastic a b with
      | some primary => ((d1.evSend p (d1.pairMsg g)).takeRole g primary).settleRope
      | none => (d1.evSend p (.ropeControl 0 g 0 0 0 0)).settleRope

/-! ### Rope reads (R457) -/

/-- A line of a page being rebuilt arrives (R457): the frame is taken with the first, the entry commits with the last. -/
def Dev.rebuildData (d : Dev) (p : Nat) (x : Rebuilt) (m : LineMsg) : Dev :=
  let n := lineIn m.line
  let frame := match x.frame with
    | some f => some (f, d)
    | none => d.takeFrame x.g
  match frame with
  | none => d.onRope fun r => { r with pages := r.pages.map fun k =>
      if k.g = x.g ∧ k.page = x.page then { k with sent := false, got := 0 } else k }
  | some (f, d1) =>
    let d2 := if m.zero then d1
      else if m.poison then (d1.dramWrite f n .poisoned 0).contain 0x1003 (unitEv p) 2 x.g m.line 2
      else d1.dramWrite f n (d1.seal x.g x.page n (d1.unsealed m) false) 0
    let y : Rebuilt := { x with frame := some f, got := x.got ||| (1#64 <<< n) }
    if y.got = BitVec.allOnes 64 then
      let d3 := d2.onRope fun r => { r with pages := r.pages.filter fun k => !(k.g == x.g && k.page == x.page) }
      ((((d3.releaseBacking x.g x.page).turn x.g x.page 1 0 f).againAll 1 x.waiting).nextRebuild p).after
    else d2.onRope fun r => { r with pages := r.pages.map fun k => if k.g = x.g ∧ k.page = x.page then y else k }

/-- Rope read data arrives: for a single line read, or for a page that is rebuilt. -/
def Dev.ropeDataIn (d : Dev) (p : Nat) (m : LineMsg) : Dev :=
  match d.pages.fars.find? fun f => f.rope && f.port == p && f.tag == m.tag && f.req.g == m.grotto && f.req.line == m.line with
  | some f =>
    let data : LineData := d.unsealed m
    let d0 := d.onPages fun k => { k with fars := k.fars.erase f }
    let d1 := if m.poison then d0.contain 0x1003 (unitEv p) 2 m.grotto m.line 2 else d0
    match f.req.op with
    | .victim .. => (d1.again 3 { f.req with op := .victim data m.poison }).after
    | _ => (d1.answerRead f.req data m.poison).after
  | none =>
    match d.ev.rope.pages.find? fun x => x.g == m.grotto && x.page == pageOf m.line with
    | some x => d.rebuildData p x m
    | none => d

/-- A rope read arrives at the partner (R457): one line or the 64 of a page, read through their home slices. -/
def Dev.ropeReadIn (d : Dev) (p : Nat) (whole : Bool) (tag g line : Nat) : Dev :=
  let mk (n : Nat) : Req := { who := .ropeRead p tag, src := 161 + p, g := g, line := n, op := .readI, cls := (d.grotto g).cls }
  let ls := if whole then (List.range 64).map fun i => line / 64 * 64 + i else [line]
  (ls.foldl (fun (d : Dev) n => d.again 1 (mk n)) d).after

/-! ### Guest frames (R259 to R263, R461, R462) -/

/-- Grant a guest frame to the origin on a port, within its quota (R461): its commit record precedes the grant. -/
def Dev.guestAsk (d : Dev) (p tag : Nat) : Dev :=
  let no : Dev := d.evSend p (.guestGrant true tag 0)
  if d.quota p ≤ d.guestsOf p then no
  else
    let cs := (List.range 16).filter fun c => decide (0 < d.freeOn c)
    let (i, d1) := d.choose cs.length
    match (cs[i]?).bind d1.takeOn with
    | some (f, d2) => (d2.onMem fun m => { m with guests := mset m.guests f p }).evSend p (.guestGrant false tag (BitVec.ofNat 33 f))
    | none => no

/-- A session of guest frames ends when the last frame of an origin is freed (R462). -/
def Dev.guestFree (d : Dev) (p f : Nat) : Dev :=
  if mget d.mem.guests f = some p then
    let d1 := (d.onMem fun m => { m with guests := merase m.guests f }).freeFrame f
    if d1.guestsOf p = 0 then d1.modEv p fun x => { x with session := x.session + 1 } else d1
  else d

/-- Store a guest line: the origin's ciphertext with its marks (R259). -/
def Dev.guestStore (d : Dev) (p : Nat) (poison zero : Bool) (tag : Nat) (h : BitVec 33) (line : Nat) (data : LineData)
    (key : BitVec 512) (tweak : Nat) : Dev :=
  if mget d.mem.guests h.toNat = some p ∧ line < 64 then
    let x : DLine := if poison then .poisoned else if zero then {} else { kind := .data, key := key, tweak := tweak, data := data }
    (d.dramWrite h.toNat line x d.flow.cls).evSend p (.guestPlaced tag)
  else d.event (unitEv p)

/-- Answer a guest line read (R461). -/
def Dev.guestGive (d : Dev) (p tag : Nat) (h : BitVec 33) (line : Nat) : Dev :=
  if mget d.mem.guests h.toNat = some p ∧ line < 64 then
    let (x, d1) := d.dramRead h.toNat line {} none d.flow.cls
    d1.evSend p (.guestData (x.kind == .poison) (x.kind == .zero) tag x.data x.key x.tweak)
  else d.event (unitEv p)

/-- A grant or refusal arrives at the origin (R461). -/
def Dev.grantIn (d : Dev) (p : Nat) (refused : Bool) (tag : Nat) (h : BitVec 33) : Dev :=
  let give (d : Dev) : Dev := if refused then d else d.evSend p (.guestRelease h)
  match d.pages.fars.find? fun f => !f.rope && f.port == p && f.tag == tag && f.page.isSome with
  | none => give d
  | some f =>
    let d1 := d.onPages fun k => { k with fars := k.fars.erase f }
    match f.page.bind fun gp => d1.moveOf gp.1 gp.2 with
    | none => give d1
    | some m =>
      if m.dst ≠ .guest p none then give d1
      else if refused then d1.endMove m 0x0108
      else
        let y : Move := { m with dst := .guest p (some h) }
        d1.shipPage y p h

/-- A line of a neighbour arrives (R261): it is opened, and serves a reader, a merge, a move or a rebuild. -/
def Dev.guestDataIn (d : Dev) (p : Nat) (poison zero : Bool) (tag : Nat) (data : LineData) (key : BitVec 512) (tweak : Nat) : Dev :=
  match d.pages.fars.find? fun f => !f.rope && !f.place && f.port == p && f.tag == tag with
  | none => d
  | some f =>
    let r := f.req
    let page := pageOf r.line
    let d1 := d.onPages fun k => { k with fars := k.fars.erase f }
    let x : DLine := if poison then .poisoned else if zero then {} else { kind := .data, key := key, tweak := tweak, data := data }
    let (y, bad, d2) := d1.deliver r.g page (lineIn r.line) x
    match f.page with
    | some (g, pg) =>
      match d2.moveOf g pg with
      | some m => match m.dst with
        | .frame fr =>
          let d3 := if bad then d2.dramWrite fr (lineIn r.line) .poisoned r.cls
            else if zero then d2 else d2.dramWrite fr (lineIn r.line) (d2.seal g pg (lineIn r.line) y false) r.cls
          d3.setMove { m with acks := m.acks - 1 }
        | _ => d2
      | none => d2
    | none =>
      match r.op with
      | .write m new np =>
        (if peView (d2.entry r.g page) = 3 then
          d2.farWrite { r with op := .write fullMask (mergeLine y new m) (bad || np) } (remotePort (d2.entry r.g page))
            (remoteHandle (d2.entry r.g page)) (mergeLine y new m) (bad || np)
        else d2.again 3 r).after
      | .victim .. => d2.after
      | _ =>
        if r.who = .quiet then ((d2.mirrorLine r.g r.line y bad true).2.checkRebuilds).after
        else
          let d3 := if r.allocates then d2.ncAlloc r.g r.line y bad r.cls else d2
          (d3.answerRead r y bad).after

/-- A line is placed at the neighbour (R260, R261). -/
def Dev.guestPlacedIn (d : Dev) (p tag : Nat) : Dev :=
  match d.pages.fars.find? fun f => !f.rope && f.place && f.port == p && f.tag == tag with
  | none => d
  | some f =>
    let r := f.req
    let d1 := d.onPages fun k => { k with fars := k.fars.erase f }
    match f.page with
    | some (g, page) =>
      match d1.moveOf g page with
      | some m => d1.setMove { m with acks := m.acks - 1 }
      | none => d1
    | none =>
      match r.op with
      | .write m x np => (d1.settle r (m == fullMask) np x np).after
      | _ => d1.after

/-- The handles that committed entries name on a port. -/
def Dev.handlesOn (d : Dev) (p : Nat) : List (BitVec 33) :=
  d.pages.area.filterMap fun e => if peView e.2 == 3 && remotePort e.2 == p then some (remoteHandle e.2) else none

/-- Send the handle list, 28 handles a message (R263, R426). -/
def Dev.sendHandles (d : Dev) (p : Nat) : Nat → List (BitVec 33) → Dev
  | 0, _ => d
  | n + 1, hs =>
    let last := decide (hs.length ≤ 28)
    let d1 := d.evSend p (.handleList last (hs.take 28))
    if last then d1 else d1.sendHandles p n (hs.drop 28)

def Dev.handleListOut (d : Dev) (p : Nat) : Dev := let hs := d.handlesOn p; d.sendHandles p (hs.length + 1) hs

/-- A handle list arrives (R263): with its last message, guest frames of the origin that it does not name are freed. -/
def Dev.handleListIn (d : Dev) (p : Nat) (last : Bool) (hs : List (BitVec 33)) : Dev :=
  let all := (d.evPort p).handles ++ hs
  if !last then d.modEv p fun x => { x with handles := all }
  else
    let gone := d.mem.guests.filter fun e => e.2 == p && !all.contains (BitVec.ofNat 33 e.1)
    (gone.foldl (fun (d : Dev) e => d.guestFree p e.1) (d.modEv p fun x => { x with handles := [] })).after

/-! ### Link-up (R422, R442) -/

/-- The hello of a port (R442). -/
def Dev.helloMsg (d : Dev) (p : Nat) : EvMsg :=
  let r := d.ev.rope
  .hello 8 (BitVec.ofNat 16 d.plat.member) d.ev.pool (if r.state ≠ 0 ∧ r.ports.contains p then some r.partner else none) r.epoch
    (d.evPort p).session

/-- A port becomes active in a new session and sends its hello (R422, R442). -/
def Dev.evUp (d : Dev) (p : Nat) (x4 : Bool) : Dev :=
  let x := d.evPort p
  if 2 ≤ p ∨ x.state ≠ 1 ∨ !d.evLive then d
  else
    let y : EvPort := { x.ended with
      state := 2, narrow := x4, nextSeq := 0, expect := 0, unacked := 0, freed := 0, limit := 0, helloSent := true,
      txq := [d.helloMsg p] }
    let d1 := (d.setEv p y).evPump p 1
    if x4 then d1.evDegraded p else d1

/-- The far end's hello (R442, R462): a member without Evoil ports or another slot count takes the port down. -/
def Dev.helloIn (d : Dev) (p slots : Nat) (member : BitVec 16) (pool rope : Option (BitVec 12)) (epoch session : BitVec 32) : Dev :=
  if slots ≠ 8 ∨ !([0x0832#16, 0x1664#16].contains member) then d.portDown p 0 true
  else
    let x := d.evPort p
    let d1 := d.setEv p { x with
      helloGot := true, peerMember := member, peerPool := pool, peerRope := rope, peerEpoch := epoch, peerSession := session }
    let d2 := if x.peerSession = session then (if d1.mem.recon then d1 else d1.handleListOut p) else d1.neighbourLost p
    (d2.evPump p evFuel).after

end Sys2Proof.Machine
end

