-- ==== Sys2Proof/Machine/PowerOps.lean ====
section
/-!
DEFINITION. Power modes (15): idleness, DOZE, DEEP, the HOLD sequence, BOOT, canaries and lost banks, limits of issue.
-/
namespace Sys2Proof.Machine

/-! ### Idleness (R524) -/

/-- Requests that are somewhere in the device. -/
def Dev.inFlight (d : Dev) : Bool :=
  let p := d.pages
  !(p.fills.isEmpty && p.mapWait.isEmpty && p.dreads.isEmpty && p.sreads.isEmpty && p.fars.isEmpty && p.promos.isEmpty &&
    p.recomps.isEmpty && p.moves.isEmpty && p.frameWait.isEmpty && p.creditWait.isEmpty && p.mirrorWait.isEmpty &&
    d.slices.slotWait.isEmpty && d.queues.units.isEmpty && d.ev.rope.pages.isEmpty && d.ev.rope.rebuilds.isEmpty && d.ev.rope.todo.isEmpty &&
    d.late.isEmpty && d.unsent.isEmpty && d.links.all fun e => e.2.epoch.isEmpty)

/-- A queue has nothing but a WAIT of mode 0 and can issue nothing. -/
def Dev.queueIdle (d : Dev) (x : Queue) : Bool :=
  (x.issued.all fun i => i.opcode == 0x06 && !i.word.mod.getLsbD 0 && i.state == .waiting) && x.recs.isEmpty &&
    !(d.mayIssue { x with ctx := some 0 })

def Dev.evQuiet (d : Dev) : Bool :=
  d.ev.rope.unplaced.isEmpty && [d.ev.p0, d.ev.p1].all fun x => x.echo.isEmpty && x.txq.isEmpty

/-- Whether the device is idle, a queue aside. -/
def Dev.idleBut (d : Dev) (q : Option Nat) : Bool :=
  !d.inFlight && d.evQuiet && d.queues.qs.all fun e => some e.1 == q || d.queueIdle e.2

/-! ### DOZE (R525, R526, R73, R134) -/

/-- The Lamp alarm of the earliest deadline that a WAIT of mode 0 waits for, or of its class time limit where that falls earlier
(R527): comparator 0 (log 26). -/
def Dev.armWaits (d : Dev) : Dev :=
  let ticks := d.queues.qs.flatMap fun e => e.2.issued.filterMap fun i =>
    if i.opcode = 0x06 ∧ i.word.mod.getLsbD 0 = false ∧ i.state = .waiting then
      some (min (ceilDiv ((mgetD e.2.regs (rn i.word.rb) 0).toNat * 32768) 1000000000)
        (i.since + ceilDiv ((d.class (d.clsOf e.1 e.2 i.pos i.word)).limit * 32768) 1000000))
    else none
  match ticks with
  | [] => d
  | t :: ts => d.onPower fun p => { p with alarms := mset p.alarms 0 { armed := true, tick := ts.foldl min t } }

/-- Whether a link is to be narrowed: an x16 or x8 link that is up and whose partner takes L0p (R73). -/
def Link.narrows (k : Link) : Bool := k.up && !k.narrow && k.l0p && (k.width == 16 || k.width == 8)

/-- Links narrow to x4 or x2 through L0p (R73); one whose partner refuses stays at full width. -/
def Dev.narrowLinks (d : Dev) : Dev :=
  d.links.foldl (fun (d : Dev) e =>
    if e.2.narrows then (d.setLink e.1 { e.2 with narrow := true }).bump (128 + 16 * e.1 + 9) else d) d

/-- In DEEP a link is in L1 where both partners enabled ASPM L1, else at narrow width (R74). -/
def Dev.sleepLinks (d : Dev) : Dev :=
  d.links.foldl (fun (d : Dev) e =>
    if !e.2.up then d
    else if e.2.aspm then d.setLink e.1 { e.2 with inL1 := true }
    else if e.2.narrows then (d.setLink e.1 { e.2 with narrow := true }).bump (128 + 16 * e.1 + 9)
    else d) d

/-- Links leave L1 on the way back to RUN (R74). -/
def Dev.wakeLinks (d : Dev) : Dev := { d with links := d.links.map fun e => (e.1, { e.2 with inL1 := false }) }

def Dev.enterDoze (d : Dev) : Dev :=
  if d.power.mode ≠ .run ∨ d.power.entering ≠ 0 ∨ !d.idleBut none then d
  else
    let d1 := d.narrowLinks
    let d2 := (d1.chans.map (·.1)).foldl (fun (d : Dev) c =>
      if (d.chan c).state = 3 ∧ (d.chan c).sub = 0 then
        let d := d.settleRefresh c
        d.setChan c { d.chan c with sub := 1 }
      else d) d1
    ((d2.armWaits).bump 9).onPower fun p => { p with mode := .doze, fwdOn := false }

/-! ### Saving (R528, R532, R539) -/

/-- The exit time of R530 is at most 50 µs: 12 µs and 128 bytes for each occupied set at the deliverable bandwidth. -/
def Dev.exitFits (d : Dev) : Bool := decide (128 * d.occupiedSets.length ≤ 38 * (d.qos.bw * 250))

/-- No directory entry is in B or D (R192). -/
def Dev.dirQuiet (d : Dev) : Bool := d.slices.dir.all fun e => e.2.st != DirState.B && e.2.st != DirState.D

/-- Write the heat bytes of the map cache back (R95). -/
def Dev.heatsBack (d : Dev) : Dev :=
  (d.pages.cache.foldl (fun (d : Dev) e => d.heatBack e.1 e.2) d).onPages fun p => { p with cache := [], mapAge := [] }

/-- A zeroed frame for a lost page whatever the reserve (R532). -/
def Dev.spareFrame (d : Dev) (g : Nat) : Option (Nat × Dev) :=
  let x := d.grotto g
  let cs := (rotation x.allocPtr).filter fun c => x.chanMask.getLsbD c && (d.chan c).state == 3
  cs.findSome? fun c => match (d.pool c).zeroed.find? fun i => d.frameOk (mkFrame c i) with
    | some i => some (mkFrame c i, (d.setPool c { d.pool c with zeroed := (d.pool c).zeroed.filter (· != i) }).hold g c 1)
    | none => none

/-- Write a dirty near-cache line to its page (R190), with what its words' errors leave of it (R186, R187); in HOLD, one of a lost page takes a zeroed frame or is dropped (R532). -/
def Dev.flushLine (d : Dev) (inHold : Bool) (key : Nat) (x : NcLine) : Dev :=
  let g := keyGrotto key
  let line := keyLine key
  if !x.dirty then d
  else
  let (y, d) := d.ncLook g line
  let x := y.getD x
  if inHold ∧ peView (d.entry g (pageOf line)) = 4 then
    match d.spareFrame g with
    | some (f, d1) =>
      let d2 := (List.range 64).foldl (fun (d : Dev) n => if n = lineIn line then d else d.dramWrite f n .poisoned 0) d1
      (d2.turn g (pageOf line) 1 0 f).hotStore g line f x.data x.poison 0
    | none => d
  else d.victimWrite g line x.data x.poison x.cls

/-- Flush the near cache and leave it empty. -/
def Dev.flushNc (d : Dev) (inHold : Bool) : Dev :=
  (d.slices.nc.foldl (fun (d : Dev) e => d.flushLine inHold e.1 e.2) d).ncFilter fun _ => false

/-- Write every progress record that has changed (R298). -/
def Dev.saveProgress (d : Dev) : Dev :=
  d.onQueues fun k => { k with qs := k.qs.map fun e => (e.1, if e.2.dirty then e.2.commitProgress else e.2) }

/-- Canaries under the parity of the Lamp entry count, and every channel in mode self-refresh (R539, R528), its writes issued; refreshes owed
are issued at the exit (R530, R144). -/
def Dev.selfRefresh (d : Dev) : Dev :=
  let n := d.power.entries
  let d1 := (d.onPages fun p => { p with dreads := [] }).issueAll
  let d2 := d1.onPages fun p => { p with dwrites := [] }
  (d2.chans.map (·.1)).foldl (fun (d : Dev) c =>
    let x := d.chan c
    if x.state = 3 then
      (d.setChan c { x with
        sub := 3, canaries := some (n % 2), repair := none, repairNext := [], rows := [], inOrder := [], drain := false }).bump (chCnt c 7)
    else d) (d2.onPower fun p => { p with entries := n + 1 })

/-! ### Canaries (R539 to R541) -/

/-- Banks of a slot (R539): two subchannels, its ranks, 8 bank groups of 4 banks. -/
def Chan.slotBanks (x : Chan) (c slot : Nat) : List Bank :=
  (List.range 2).flatMap fun sub => (x.slotRanks slot).flatMap fun r => (List.range 8).flatMap fun bg =>
    (List.range 4).map fun b => { channel := c, sub := sub, rank := r, bg := bg, bank := b }

/-- Whether a bank can be lost: it is in a rank in service and not lost already. -/
def Dev.bankLive (d : Dev) (b : Bank) : Bool :=
  let x := d.chan b.channel
  x.state == 3 && x.ranksUp.contains b.rank && decide (b.sub < 2 ∧ b.bg < 8 ∧ b.bank < 4) && !x.lostBanks.contains b

/-- A bank whose canary failed is lost: one CONTAINED fault (R541). -/
def Dev.loseBank (d : Dev) (b : Bank) : Dev :=
  if !d.bankLive b then d
  else
    let x := d.chan b.channel
    let d1 := (d.setChan b.channel { x with lostBanks := x.lostBanks ++ [b] }).onPower fun p => { p with lostWake := p.lostWake + 1, retCanary := true }
    d1.raise {
      code := 0x1003, cls := 3, unit := unitChan b.channel, att := 1,
      detail := dramDetail b.channel { sub := b.sub, rank := b.rank, bg := b.bg, bank := b.bank, row := 0, col := 0 } 0 }

/-- A canary with one corrected symbol, in the device that is named, is recorded (R539). -/
def Dev.fixCanary (d : Dev) (b : Bank) (dev : Nat) : Dev :=
  if !d.bankLive b then d
  else (d.bump (chCnt b.channel 10)).raise {
    code := 0x1001, cls := 1, unit := unitChan b.channel, att := 1,
    detail := dramDetail b.channel { sub := b.sub, rank := b.rank, bg := b.bg, bank := b.bank, row := 0, col := 0 } (2 ^ dev) }

/-- Exit from self-refresh: owed refreshes are issued (R144, R530), the canaries checked; a slot whose power-good dropped fails whole (R540). -/
def Dev.checkCanaries (d : Dev) (failed : List Bank) (fixed : List (Bank × Nat)) : Dev :=
  let dropped := d.power.pgDropped.flatMap fun e => (d.chan e.1).slotBanks e.1 e.2
  let d1 := d.onPower fun p => { p with lostWake := 0, pgDropped := [] }
  let d2 := (d1.chans.map (·.1)).foldl (fun (d : Dev) c =>
    let d := d.settleRefresh c
    let x := d.chan c
    d.setChan c { x with sub := if x.sub = 3 then 0 else x.sub, canaries := none }) d1
  let d3 := fixed.foldl (fun (d : Dev) e => if (failed ++ dropped).contains e.1 then d else d.fixCanary e.1 e.2) d2
  ((failed ++ dropped).eraseDups).foldl Dev.loseBank d3

/-- Entry to RUN: crawl passes that are due at once begin (R540). -/
def Dev.startDueCrawls (d : Dev) : Dev :=
  { d with chans := d.chans.map fun e => (e.1, if e.2.crawlDue ∧ e.2.state = 3 then
      { e.2 with crawlDue := false, crawling := true, crawlDone := 0, crawlStart := some d.timeMs } else e.2) }

/-! ### DEEP (R527 to R530) -/

/-- DEEP entry starts: from 10 ms of idleness, or for a POWER of mod 1. -/
def Dev.startDeep (d : Dev) (issuer : Option (Nat × BitVec 32)) : Option Dev :=
  if (d.power.mode = .run ∨ d.power.mode = .doze) ∧ d.power.entering = 0 ∧ d.power.deepOk ∧ d.idleBut (issuer.map (·.1)) ∧
      d.dirQuiet ∧ d.exitFits then
    some (d.onPower fun p => { p with entering := 1, latch := none, deepIssuer := issuer })
  else none

/-- The instruction that asked for DEEP completes, its record written (R528 step 5). -/
def Dev.finishDeepAsk (d : Dev) : Dev :=
  match d.power.deepIssuer with
  | none => d
  | some (q, pos) =>
    let d1 := (d.onPower fun p => { p with deepIssuer := none }).tell q pos id
    match d1.queue? q with
    | some x => match x.issued.find? fun i => i.pos == pos with
      | some i => d1.completeNow q x i
      | none => d1
    | none => d1

/-- The entry steps finish (R528): DEEP; a latched wake is replayed at once (R537). -/
def Dev.deepEntered (d : Dev) : Dev :=
  if d.power.entering ≠ 1 then d
  else
    let d1 := (((((d.heatsBack).flushNc false).saveDir).finishDeepAsk).saveProgress).selfRefresh
    let d2 := ((d1.armWaits.sleepLinks).bump 10).onPower fun p => { p with mode := .deep, entering := 0, fwdOn := false }
    let d3 := d2.onQueues fun k => { k with qs := k.qs.map fun e => (e.1, { e.2 with ctx := none }) }
    match d.power.latch with
    | some (src, detail) => d3.onPower fun p => { p with
        latch := none, entering := 2, wakeSrc := src, wakeDetail := detail, wakeTick := d3.lamp, wakeReplayed := true }
    | none => d3

/-- The exit finishes (R530): canaries, queues from their progress records, links out of L1; RUN. What the links brought meanwhile is taken up
next (R74). -/
def Dev.deepLeft (d : Dev) (failed : List Bank) (fixed : List (Bank × Nat)) : Dev :=
  if d.power.mode ≠ .deep ∨ d.power.entering ≠ 2 then d
  else
    let d1 := ((d.onPower fun p => ({ p with mode := .run, entering := 0 } : Power).bias).checkCanaries failed fixed).dirBack
    let d2 := d1.onQueues fun k => { k with qs := k.qs.map fun e => (e.1, if e.2.state = 1 then e.2.resume else { e.2 with ctx := none }) }
    (((d2.wakeLinks).endDoze).startDueCrawls).after

/-! ### The HOLD sequence (R532, R533, R423, R456) -/

/-- The regions of mirror messages not reported are marked, the rope is alone, and the ports are down. -/
def Dev.evHold (d : Dev) : Dev :=
  let r := d.ev.rope
  let down (x : EvPort) : EvPort := { x.ended with fault := 0 }
  let d1 := d.onEv fun e => { e with p0 := down e.p0, p1 := down e.p1 }
  if r.state = 0 then d1
  else
    let d2 := d1.onRope fun r => { r with
      state := 3, wasSynced := if r.state = 3 then r.wasSynced else r.state == 1, markEpoch := if r.state = 3 then r.markEpoch else r.epoch,
      broke := if r.state = 3 then r.broke else if r.state = 1 then r.paired else [], unplaced := [], rebuilds := [], forming := none }
    (d2.markUnplaced r).dropPartner

/-- The lines of the blobs (R583): of each, its entry number in bytes 0 to 7 and the blob behind it, over two lines (DESIGN CHOICE, log 4). -/
def Dev.blobPut (d : Dev) (i entry : Nat) (blob : List Byte) : Dev :=
  let bs := bytesOfNat 8 entry ++ blob
  (d.resvPut (d.plat.blobBase + 2 * i) (BitVec.ofNat 512 (natOfBytes (bs.take 64)))).resvPut (d.plat.blobBase + 2 * i + 1)
    (BitVec.ofNat 512 (natOfBytes (bs.drop 64)))

/-- The sequencer wraps the key table and the wrapping-key slots under the hold key (R583); the core then loses them. A HOLD from BOOT leaves the
blobs that stand. -/
def Dev.wrapKeys (d : Dev) (slots : AMap (BitVec 256)) : Dev :=
  if d.power.fromBoot then d
  else
    let es := d.keys ++ slots.map fun e => (4096 + e.1, e.2.setWidth 512)
    let d1 := ((List.range es.length).zip es).foldl (fun (d : Dev) x => d.blobPut x.1 x.2.1 (wrapBlob d.holdKey x.2.2)) d
    { d1 with keys := [], wrapped := es.map (·.1) }

/-- The blob of an entry comes back at fast boot (R583, R584): none where its lines are lost or its integrity check fails. -/
def Dev.blobGet (d : Dev) (i : Nat) : Option (BitVec 512) :=
  let n := d.plat.blobBase + 2 * i
  if d.mapDead (d.mem.ceiling * 8192 + n) || d.mapDead (d.mem.ceiling * 8192 + n + 1) then none
  else
    let bs := bytesOfNat 64 (d.resvGet n).toNat ++ bytesOfNat 64 (d.resvGet (n + 1)).toNat
    unwrapBlob d.holdKey ((bs.drop 8).take 72)

/-- An entry whose blob fails is left empty (R584). -/
def Dev.blobFails (d : Dev) (entry : Nat) : Dev :=
  d.raise { code := 0x7008, cls := 3, unit := unitKeyTable, detail := entry % 4096 }

/-- The key table comes back (R583, R584). -/
def Dev.unwrapKeys (d : Dev) : Dev :=
  ((List.range d.wrapped.length).zip d.wrapped).foldl (fun (d : Dev) x =>
    if 4096 ≤ x.2 then d
    else match d.blobGet x.1 with
      | some k => { d with keys := mset d.keys x.2 k }
      | none => d.blobFails x.2) d

/-- The hold sequencer finishes (R532): near cache flushed, records saved, canaries, self-refresh, retention flag. The heat in the
map cache is lost (R95). -/
def Dev.holdDone (d : Dev) (slots : AMap (BitVec 256)) : Dev :=
  if d.power.mode ≠ .hold ∨ d.power.holdSeq ≠ 1 then d
  else
    let d1 := (((d.evHold).flushNc true).onPages fun p => { p with cache := [], mapAge := [], frameWait := [] }).saveProgress
    let d2 := ((d1.saveDir).wrapKeys slots).selfRefresh
    d2.onPower fun p => { p with
      holdSeq := 2, retention := if p.fromBoot then p.retention else true, incomplete := false, sramEn := false, coreEn := false,
      retPg := false, retTemp := false, retHold := false }

/-- The Lamp command hold takes the channels itself (R533): an incomplete hold, with the flag clear. -/
def Dev.holdFails (d : Dev) : Dev :=
  { d.evHold with
    power := { d.power with
      mode := .hold, holdSeq := 2, retention := false, incomplete := true, retHold := true, sramEn := false, coreEn := false,
      entering := 0, latch := none, deepIssuer := none },
    fwUp := false, fwDown := false, late := [], unsent := [],
    links := d.links.map (fun e => (e.1, e.2.atHold)),
    pages := { d.evHold.pages with dreads := [], dwrites := [] },
    chans := d.chans.map fun e => (e.1, if e.2.state = 3 then { e.2 with sub := 3, rows := [], inOrder := [], drain := false } else e.2) }

/-- A main rail leaves its limits (R533). -/
def Dev.railLost (d : Dev) : Dev :=
  let d1 := d.onPower fun p => { p with rails := false }
  match d.power.mode with
  | .off => d1
  | .hold => if d.power.holdSeq = 1 then d1.holdFails else d1
  | _ => d1.holdFails

/-! ### BOOT (R535, R144, R89, R217, R301) -/

/-- Registers of BAR4 that BOOT returns to their reset values (R602, R559). -/
def Power.atBoot (p : Power) (cap kind : Nat) : Power := { p with
  mode := .boot, holdSeq := 0, bootKind := kind, rails := true, sramEn := true, coreEn := true, resetLow := false, cap := cap, fwdOk := false,
  fwdOn := false, throttle := 0, hotLimit := 0, biasHot := false, estimate := 0, junction := 0, wakeSrc := 0, wakeReplayed := false,
  wakeDetail := 0, wakeTick := 0, entering := 0, latch := none, deepIssuer := none, fromBoot := false, bootOk := true, retCanary := false }

/-- Channel after fast boot: from its record, or to be trained again (R144, R145). -/
def Chan.atBoot (x : Chan) : Chan :=
  let y : Chan := { x with
    fault := 0, softRun := 0, softBoot := 0, retrain := [], repair := none, repairNext := [], rows := [], ptr := 0, inOrder := [], drain := false,
    checked := false, in0 := x.slot0.isSome && !(x.slotRanks 0).all x.ranksOut.contains,
    in1 := x.slot1.isSome && !(x.slotRanks 1).all x.ranksOut.contains }
  if x.state = 4 then { y with
    state := 2, sub := 0, ranksOut := [], lostBanks := [], cleanLines := [], swept := [], in0 := x.slot0.isSome, in1 := x.slot1.isSome }
  else if x.state = 3 ∧ !x.recordOk then { y with state := 2 }
  else y

/-- Entry to the fast boot (R144, R145): registers at their reset values, what HOLD saved restored. -/
def Dev.fastBoot (d : Dev) : Dev :=
  let chans := d.chans.map fun e => (e.1, e.2.atBoot)
  let kind := if chans.any fun e => e.2.state == 2 then 2 else 1
  let d1 : Dev := { d with
    power := d.power.atBoot d.plat.powerCeiling kind,
    faults := { d.faults with status := d.faults.status &&& 0xE0#8, armed := [], arrays := [], fenced := [] },
    cnt := { d.cnt with pendingSurvey := false, merged := false },
    links := d.links.map (fun e => (e.1, e.2.atHold)),
    ports := d.ports.map (fun e => (e.1, { e.2 with split := e.2.recorded })),
    grottos := d.grottos.map (fun e => (e.1, { e.2 with allocPtr := 0 })),
    chans := chans, regPtr := 0, fwUp := false, fwDown := false, late := [], unsent := [] }
  let d2 := (d1.onPages fun p => { p with slicePtr := 0, cache := [], mapAge := [], farBuf := [] }).onQueues fun k => { k with
    ctxPtr := 0, cuPtr := 0, duPtr := 0, suPtr := 0, units := [], q0Ptr := [], q0Wait := [] }
  let placed := (List.range 4).any fun p => (mgetD d.queues.q0Runs p []).any fun r => r.writer == .flowstone
  (d2.onFlow fun f => { f with running := f.running && placed, measure := 0 }).republish

/-- What BOOT from OFF leaves (R535): nothing but the constants, the fuses and what the Cairn store keeps: the port widths and
hard repairs. -/
def Dev.coldDev (d : Dev) (p : Power) : Dev := {
  plat := d.plat, power := p,
  ports := d.ports.map (fun e => (e.1, { e.2 with split := e.2.recorded })),
  links := (d.links.filter fun e => e.2.perst).map (fun e => (e.1, { perst := true })),
  chans := (d.chans.filter fun e => !e.2.hardUsed.isEmpty).map (fun e => (e.1, { hardMade := e.2.hardMade, hardUsed := e.2.hardUsed })),
  freeCtr := d.freeCtr, out := d.out }

/-- BOOT from OFF (R535, R547): the Lamp time base starts at 0, and key ID 0 and the hold key are drawn (R582). -/
def Dev.coldBoot (d : Dev) (refclk : Nat) (k0 : BitVec 512) (hk : BitVec 256) : Dev :=
  let p : Power := { trstHigh := d.power.trstHigh, cap := d.plat.powerCeiling, refclk := refclk }
  { d.coldDev p with key0 := k0, holdKey := hk }

/-- BOOT from HOLD with the flag clear (R535): as from OFF, but the Lamp time base, FAULT_STATUS [7:5], the trigger record and what
PWR_RETAIN reports are kept. -/
def Dev.bareBoot (d : Dev) (k0 : BitVec 512) (hk : BitVec 256) : Dev :=
  let p : Power := { ({} : Power).atBoot d.plat.powerCeiling 3 with
    ticks := d.power.ticks, lastTrig := d.power.lastTrig, lockout := d.power.lockout, trstHigh := d.power.trstHigh,
    refclk := d.power.refclk, entries := d.power.entries, retPg := d.power.retPg, retTemp := d.power.retTemp, retHold := d.power.retHold,
    lampTemp := d.power.lampTemp }
  let d1 : Dev := { d.coldDev p with key0 := k0, holdKey := hk, faults := { status := d.faults.status &&& 0xE0#8 } }
  match (d.faults.hist.reverse).find? fun r => r.code == 2 with
  | some r => d1.enter { r with seq := 0 } true
  | none => d1

/-- Whether HOLD may be left (R534): sequence ended, RESET_N high, main rails enabled and good, no lockout, and 110 °C or less after
a thermal trip. -/
def Dev.mayLeaveHold (d : Dev) (lampTemp : Int) : Bool :=
  d.power.mode == .hold && d.power.holdSeq == 2 && !d.power.resetLow && d.power.coreEn && d.power.rails &&
    !d.power.lockout && (d.power.lastTrig != 3 || decide (lampTemp ≤ 110))

/-- A page whose move or promotion HOLD stopped returns to its source (R89, R257); its destination waits for reconciliation. -/
def Dev.unmove (d : Dev) (g page : Nat) (frame : Option Nat) : Dev :=
  let d2 := if peState (d.entry g page) = 5 then d.toSource g page else d
  match frame with
  | some f => (d2.hold g (frameChan f) (-1)).onMem fun m => { m with unrecon := m.unrecon ++ [f] }
  | none => d2

/-- Data sectors and header slots of a heap frame that galleries name, or that moves under way have taken. -/
def Dev.namedIn (d : Dev) (f : Nat) (h : HeapFrame) : HeapFrame :=
  let moving : List (List Nat × Nat) := d.pages.moves.filterMap fun m => match m.dst with
    | .gallery _ ss head => some (ss, head)
    | _ => none
  let warm := d.warmPages.filter fun x => x.1 == h.grotto
  let ss := (warm.flatMap fun (g, page, _) => ((d.galleryOf g page).map Header.primaries).getD []) ++ moving.flatMap (·.1)
  let hs := (warm.map (fun x => x.2.2) ++ moving.map (·.2)).filter fun h => locFrame h == f
  { h with
    data := (ss.filter fun s => s / 8 == f).foldl (fun (m : BitVec 8) s => m ||| (1#8 <<< (s % 8))) 0,
    heads := hs.foldl (fun m h => mput m 0 (locSector h) (mgetD m (locSector h) 0 ||| (1#8 <<< locSlot h))) [] }

/-- Heap frames in which nothing is named any more are held by no grotto until reconciliation returns them (R90). -/
def Dev.unholdHeaps (d : Dev) : Dev :=
  (d.pages.heaps.filter fun e => let h := d.namedIn e.1 e.2; h.data == 0 && h.heads.all fun x => x.2 == 0).foldl (fun (d : Dev) e =>
    ((d.onPages fun p => { p with heaps := merase p.heaps e.1 }).hold e.2.grotto (frameChan e.1) (-1)).onMem fun m => { m with
      unrecon := m.unrecon ++ [e.1] }) d

/-- Moves and promotions are resolved, and committed map-update records replayed (R217, R257, R406). -/
def Dev.resolvePages (d : Dev) : Dev :=
  let ms := d.pages.moves
  let ps := d.pages.promos
  let rs := d.pages.recomps
  let d1 := ms.foldl (fun (d : Dev) m => d.unmove m.g m.page (match m.dst with
    | .frame f => some f
    | _ => none)) d
  let d2 := ps.foldl (fun (d : Dev) p => d.unmove p.g p.page (some p.frame)) d1
  let d3 := d2.onPages fun p => { p with moves := [], promos := [] }
  let d4 := d3.pages.area.foldl (fun (d : Dev) e =>
    if peState e.2 = 5 then (match d.grottoAt e.1 with
      | some g => d.unmove g (e.1 - (d.grotto g).mapBase) none
      | none => d) else d) d3
  (rs.foldl (fun (d : Dev) r => d.recompDone r.g r.page) d4).unholdHeaps

/-- Every attachment of every HDM-DB grotto is fenced after an entry of the directory was lost (R188), and the lines they held are resolved by
a sweep (R183). -/
def Dev.fenceAllDb (d : Dev) : Dev :=
  if !d.slices.unknown then d
  else
    let gs := d.grottos.map fun (e : Nat × Grotto) =>
      (e.1, if e.2.db then { e.2 with attaches := e.2.attaches.map fun a => { a with fenced := true } } else e.2)
    let sweeps := d.grottos.flatMap fun (e : Nat × Grotto) =>
      if e.2.db then e.2.attaches.map fun a => (e.1, srcOf a.link a.ld) else []
    let d1 : Dev := { d with grottos := gs }
    d1.onSlices fun s => { s with unknown := false, sweeps := s.sweeps ++ sweeps.filter fun x => !s.sweeps.contains x }

/-- The end of a fast boot (R144, R301, R406, R65). -/
def Dev.resumeAll (d : Dev) (failed : List Bank) (fixed : List (Bank × Nat)) : Dev :=
  let d1 := ((((d.checkCanaries failed fixed).unwrapKeys).resolvePages).dirBack).fenceAllDb
  let d2 := d1.onQueues fun k => { k with qs := k.qs.map fun e =>
    (e.1, if e.2.state = 1 ∨ e.2.state = 4 then e.2.resume else { e.2 with issued := [], ctx := none }) }
  let recs := d2.power.fatalRecs
  let d3 := recs.foldl (fun (d : Dev) r => d.logCopy r) (d2.onPower fun p => { p with fatalRecs := [] })
  d3.onMem fun m => { m with recon := true }

/-- Frames in ranks in service, and the ceiling in 256 MiB units (R82). -/
def Dev.physFrames (d : Dev) : Nat :=
  (d.chans.map fun e => if e.2.state = 3 then e.2.frames / max 1 e.2.ranks * e.2.ranksUp.length else 0).sum

/-- The end of a full training: ceiling, reserved region, and every other frame pending (R82, R97). -/
def Dev.layMemory (d : Dev) : Dev :=
  let n := d.physFrames
  let d1 := d.onMem fun m => { m with
    phys := n, ceiling := min 131072 (2 * n / 65536), lost := 0, resvChans := (d.chans.filter fun e => e.2.state == 3).map (·.1) }
  d1.onMem fun m => { m with
    pools := (d1.chans.filter fun e => e.2.state == 3).map fun e => (e.1, { pending := [(d1.resvFrames, e.2.frames)] }) }

/-- Whether BOOT can end (R118, R535): firmware runs, no PLL is lost, every channel has trained, and one is in service. -/
def Dev.bootReady (d : Dev) : Bool :=
  d.power.mode == .boot && d.fwUp && d.power.bootOk && (d.chans.all fun e => e.2.state != 2) && (d.chans.any fun e => e.2.state == 3) &&
    (d.power.bootKind == 1 || d.power.bootKind == 2 || (List.range 16).all fun c => (d.chan c).checked)

def Dev.bootDone (d : Dev) (failed : List Bank) (fixed : List (Bank × Nat)) : Dev :=
  if !d.bootReady then d
  else
    let fast := d.power.bootKind == 1 || d.power.bootKind == 2
    let d1 := if fast then (d.resumeAll failed fixed).onMem fun m => { m with phys := d.physFrames, lost := 0 } else d.layMemory
    let d2 := d1.onPower fun p => { p with mode := .run, retention := false, runTick := d1.lamp }
    (d2.rescale.startDueCrawls).after

/-- The frames of a channel that something names: pages, heap frames, pools, retired frames, destinations of promotions, moves and rebuilds,
guest frames, and those that reads still use. -/
def Dev.namedFrames (d : Dev) (c : Nat) : List Nat :=
  let dst (m : Move) : List Nat := match m.dst with
    | .frame f => [f]
    | _ => []
  ((d.pages.area.filterMap fun e => if peView e.2 = 1 then some (peLoc e.2) else none) ++ d.pages.heaps.map (·.1) ++ d.mem.retired ++
    d.pages.promos.map (·.frame) ++ d.pages.moves.flatMap dst ++ d.ev.rope.pages.filterMap (·.frame) ++ d.mem.guests.map (·.1) ++
    d.pages.dying).filter fun f => frameChan f == c

/-- Reconciliation of a channel's frames (R90): every frame behind the reserved region that nothing names is pending. -/
def Dev.sweepFrames (d : Dev) (c : Nat) : Dev :=
  let x := d.chan c
  let p := d.pool c
  if x.state = 3 ∧ d.resvFrames < x.frames then
    d.setPool c { p with pending := (p.zeroed ++ (d.namedFrames c).map frameIdx).foldl (fun ivs i => ivErase i ivs) [(d.resvFrames, x.frames)] }
  else d

/-- The reconciliation sweep ends (R90): frames and sectors that no entry names go to the zeroer; handle lists go out (R263). -/
def Dev.reconciled (d : Dev) : Dev :=
  if !d.awake ∨ !d.mem.recon then d
  else
    let d1 := d.onMem fun m => { m with recon := false, unrecon := [] }
    let d2 := (d1.chans.map (·.1)).foldl (fun (d : Dev) c => d.sweepFrames c) d1
    let named := (d2.warmPages.flatMap fun (g, page, _) => ((d2.galleryOf g page).map (d2.sumpsOf g page)).getD []) ++
      d2.pages.recomps.flatMap fun r => r.sumps ++ r.old
    let d3 := d2.onPages fun p => { p with
      heaps := p.heaps.map fun e => (e.1, d2.namedIn e.1 e.2), sump := p.sump.filter named.contains }
    let d4 := (d3.pages.heaps.map (·.1)).foldl (fun (d : Dev) f => d.heapCheck f) d3
    let send (d : Dev) (p : Nat) : Dev := if (d.evPort p).state = 2 then d.handleListOut p else d
    (send (send d4 0) 1).after

/-! ### OFF (R523, R556, R631) -/

def Dev.lampLost (d : Dev) : Dev :=
  d.coldDev { mode := .off, lampOn := false, crystal := false, sramEn := false, coreEn := false, rails := false, bootKind := 0,
              trstHigh := d.power.trstHigh, cap := d.plat.powerCeiling }

/-! ### Limits of issue and bias (R544 to R546) -/

/-- What well bias and SRAM assist depend on (R543): logic that DOZE gates (engines, units and movers), what DEEP keeps powered, the arrays at
retention assist in DOZE (near cache, directory, map cache), and the rest of the core. -/
inductive BiasBlock where
  | gated | kept | cache | other
  deriving DecidableEq, Repr

/-- SRAM assist: both, retention, none. -/
inductive Assist where
  | readWrite | retention | none
  deriving DecidableEq, Repr

/-- Well bias of a powered block, in millivolts, and its SRAM assist (R543, R544, R528): none where the block is off. -/
def Power.blockBias (p : Power) (b : BiasBlock) : Option (Int × Assist) :=
  match p.mode, b with
  | .off, _ | .hold, _ => none
  | .boot, _ => some (0, .readWrite)
  | .run, _ => some (if p.fwdOn then 100 else 0, .readWrite)
  | .doze, .gated => some (-200, .readWrite)
  | .doze, .cache => some (0, .retention)
  | .doze, _ => some (0, .readWrite)
  | .deep, .kept => some (-200, .retention)
  | .deep, _ => none

/-- °C + 64 as PWR_SENSE shows it. -/
def senseOf (t : Int) : Nat := min 255 (t + 64).toNat

/-- The 1 ms power estimate (R545). -/
def Dev.powerTick (d : Dev) (watts : Nat) : Dev :=
  if d.power.mode ≠ .run ∧ d.power.mode ≠ .doze then d
  else
    let p : Power := { d.power with estimate := watts }
    if p.cap < watts then
      if p.fwdOn then d.onPower fun _ => { p with fwdOn := false }
      else
        let t := min 8 (p.throttle + 1)
        let d1 := d.onPower fun _ => { p with throttle := t }
        if t = 8 ∧ p.throttle ≠ 8 then d1.event 0x3A3 else d1
    else
      d.onPower fun _ => ({ p with throttle := if watts + 5 ≤ p.cap then p.throttle - 1 else p.throttle } : Power).bias

/-- The 100 µs junction read (R546). -/
def Dev.junctionRead (d : Dev) (t : Int) : Dev :=
  if d.power.mode ≠ .run ∧ d.power.mode ≠ .doze then d
  else
    let old := d.power.hotLimit
    let lim := if 125 ≤ t then 8 else if 120 ≤ t then max 4 old else if t < 115 then 0 else old
    let d1 := d.onPower fun p => ({ p with junction := senseOf t, hotLimit := lim } : Power).bias
    if lim = old then d1 else d1.event 0x3A1

end Sys2Proof.Machine
end

