-- ==== Sys2Proof/Machine/TrustOps.lean ====
section
/-!
DEFINITION. Firmware slots and their verification, measurements, the Cairn store, signing leaves, and what BOOT and a reset of the
firmware cores do to them (16).
-/
namespace Sys2Proof.Machine

/-! ### The flash slots (R562, R570, R577) -/

/-- A byte of a firmware slot. -/
def Trust.flash (t : Trust) (slot n : Nat) : Byte :=
  let (m, wiped) := if slot = 0 then (t.slotA, t.wipedA) else (t.slotB, t.wipedB)
  match mget m n with
  | some b => b
  | none => if wiped then 0xFF else Config.flashByte slot n

def Trust.bytes (t : Trust) (slot off len : Nat) : List Byte := (List.range len).map fun i => t.flash slot (off + i)
def Trust.num (t : Trust) (slot off len : Nat) : Nat := natOfBytes (t.bytes slot off len)

/-- Bytes of a slot (R562). -/
def slotBytes : Nat := 16777216

/-- Write bytes into a slot (R577): erased at offset 0. -/
def Trust.program (t : Trust) (slot off : Nat) (bs : List Byte) : Trust :=
  let put (m : AMap Byte) : AMap Byte := ((List.range bs.length).zip bs).foldl (fun m e => mset m (off + e.1) e.2) (if off = 0 then [] else m)
  if slot = 0 then { t with slotA := put t.slotA, wipedA := t.wipedA || off == 0 }
  else { t with slotB := put t.slotB, wipedB := t.wipedB || off == 0 }

/-! ### Verification (R570 to R573) -/

/-- Body length of the image in a slot. -/
def Trust.bodyLen (t : Trust) (slot : Nat) : Nat := t.num slot 12 4

/-- The root key that an image's public key hashes to, unless it is revoked. -/
def Trust.rootOf (t : Trust) (p : Plat) (slot : Nat) : Option Nat :=
  let h := natOfBytes (sha256 (t.bytes slot 52 60))
  if h = p.rootHash0.toNat ∧ !t.rootRevoke.getLsbD 0 then some 0
  else if h = p.rootHash1.toNat ∧ !t.rootRevoke.getLsbD 1 then some 1
  else none

/-- verify(slot) (R572): the number of the check that fails, or the root key. -/
def Trust.verify (t : Trust) (p : Plat) (slot : Nat) : Except Nat Nat :=
  let len := t.bodyLen slot
  if t.bytes slot 0 4 ≠ [0x5A#8, 0x4B#8, 0x46#8, 0x57#8] ∨ t.num slot 4 2 ≠ p.member ∨ t.num slot 6 1 ≠ 1 ∨ t.num slot 7 1 / 4 ≠ 0 ∨
      t.num slot 3716 380 ≠ 0 then .error 1
  else match t.rootOf p slot with
    | none => .error 2
    | some k =>
      if t.num slot 8 4 < t.svn then .error 3
      else if !imageVerifies (t.bytes slot 0 3716) then .error 4
      else if len = 0 ∨ 16773120 < len ∨ sha256 (t.bytes slot 4096 len) ≠ t.bytes slot 16 32 then .error 5
      else .ok k

/-! ### Measurements (R579) -/

/-- Extend a measurement register by a digest. -/
def Trust.extend (t : Trust) (n : Nat) (digest : List Byte) : Trust :=
  { t with mr := mmod t.mr n 0 fun m => BitVec.ofNat 256 (natOfBytes (sha256 (bytesOfNat 32 m.toNat ++ digest))) }

def digestBytes (x : BitVec 256) : List Byte := bytesOfNat 32 x.toNat

/-- MR0 and MR3, once per BOOT: the fuse fields other than the identity seed go into the first (R579, R560). -/
def Trust.measureBoot (t : Trust) (p : Plat) : Trust :=
  if t.measured then t
  else
    let fuses := [p.rootHash0.toNat, p.rootHash1.toNat, t.rootRevoke.toNat, t.svn, t.leafMark, (t.fmRoot.map (·.toNat + 1)).getD 0,
      p.powerCeiling, p.vidCore.1, p.vidCore.2, p.vidSram.1, p.vidSram.2, p.member]
    let recs := [1, 6, 7].flatMap fun k => match t.record k 0 with
      | some r => k :: r.data.length :: r.data.map (·.toNat)
      | none => []
    let t1 := (t.extend 0 (digestBytes (Config.digest 0 []))).extend 0 (digestBytes (Config.digest 1 fuses))
    { t1.extend 3 (digestBytes (Config.digest 3 recs)) with measured := true }

/-! ### The ROM (R571 to R575) -/

/-- The slots that the ROM tries, in order; the first of them is the pending one only once for each trial. -/
def Trust.bootOrder (t : Trust) : Trust × List Nat :=
  match t.selection with
  | (a, some p) => if t.trial then (t, [a, 1 - a]) else ({ t with trial := true }, [p, a])
  | (a, none) => (t, [a, 1 - a])

/-- Release firmware from a slot (R573, R575, R579). -/
def Trust.release (t : Trust) (slot root : Nat) (second : Bool) : Trust :=
  let t1 := (t.extend 1 (sha256 (t.bytes slot 0 4096))).extend 1 (t.bytes slot 16 32)
  let svn := t.num slot 8 4
  let fwv := t.num slot 48 4
  let t2 := t1.extend 2 (digestBytes (Config.digest 2 [slot, svn, fwv, root]))
  { t2 with
    running := slot, root := root, svnRun := svn, fwVersion := fwv, recovery := second,
    rootRevoke := if (t.flash slot 7).getLsbD 1 ∧ root = 1 then t.rootRevoke ||| 1#2 else t.rootRevoke }

/-- Try slots in order: DEGRADED 0x7005 for each that fails, its detail the slot and 256 × the check (log 27). -/
def State.trySlots (s : State) (second : Bool) : List Nat → State
  | [] =>
    { s with
      dev := let h : Hap := { code := 0x7006, cls := 4, unit := 0x390 }
        { (if s.dev.power.mode = .boot then s.dev.fatal h else s.dev.raise h) with fwDown := true },
      trust := { s.trust with noImage := true } }
  | slot :: rest =>
    match s.trust.verify s.dev.plat slot with
    | .ok root =>
      { s with
        dev := { s.dev with fwUp := true, fwDown := false },
        trust := { s.trust.release slot root second with wdAt := s.dev.lamp } }
    | .error n =>
      ({ s with dev := s.dev.raise { code := 0x7005, cls := 2, unit := 0x390, detail := slot + 256 * n } } : State).trySlots true rest

/-! ### Signing leaves (R590 to R593) -/

/-- The reserved end that a leaf-reservation record names (R594). -/
def CairnRec.leafEnd (r : CairnRec) : Nat := natOfBytes (r.data.take 4)

/-- The latest leaf reservation cannot be read, so that no older one stands for it (R593). -/
def Trust.leafUnread (t : Trust) : Bool := ((t.cairn.reverse.find? fun r => r.committed && r.type == 3).map (·.hidden)).getD false

/-- q at BOOT and at a reset of the firmware cores (R593). -/
def Trust.leafStart (t : Trust) : Nat :=
  let n := if t.leafUnread then none else (t.record 3 0).map CairnRec.leafEnd
  if t.leafMark = 0 then n.getD 0
  else match n with
    | some n => if t.leafMark - 1 ≤ n / 2 ^ 26 then n else t.leafMark * 2 ^ 26
    | none => t.leafMark * 2 ^ 26

def Trust.restartLeaf (t : Trust) : Trust := { t with leaf := t.leafStart, leafEnd := t.leafStart }

/-- The next leaf, used up (R590, R591); none where a reservation must be written first. -/
def Trust.takeLeaf (t : Trust) : Option (Nat × Trust) :=
  if t.leaf < t.leafEnd then some (t.leaf, { t with leaf := t.leaf + 1, leafTop := max t.leafTop (t.leaf + 1) }) else none

/-! ### The Cairn store (R563 to R569) -/

/-- A record as its bytes (R563). -/
def CairnRec.bytes (r : CairnRec) : List Byte :=
  let head := [0xC3#8, BitVec.ofNat 8 r.type] ++ bytesOfNat 2 r.inst ++ bytesOfNat 4 r.data.length ++ bytesOfNat 8 r.seq ++ r.data
  head ++ bytesOfNat 4 (crc32c head) ++ [if r.committed then 0x3C#8 else 0xFF#8]

/-- What a reader takes from the bytes at a record's place (R565): none where it does not accept them. -/
def readCairn (bs : List Byte) : Option CairnRec :=
  let n (i k : Nat) : Nat := natOfBytes ((bs.drop i).take k)
  let len := n 4 4
  if n 0 1 = 0xC3 ∧ len ≤ 65515 ∧ n (16 + len) 4 = crc32c (bs.take (16 + len)) ∧ n (20 + len) 1 = 0x3C then
    some { type := n 1 1, inst := n 2 2, seq := n 8 8, data := (bs.drop 16).take len }
  else none

/-- Bytes that a record takes: header, payload, check, commit byte, and padding to 16 bytes. -/
def CairnRec.size (r : CairnRec) : Nat := ceilDiv r.bytes.length 16 * 16

/-- Where records lie that follow one another from a block and the bytes used of it: a record never crosses a block (R563, R566). -/
def recPlaces : Nat → Nat → List CairnRec → List (Nat × Nat)
  | _, _, [] => []
  | b, used, r :: t =>
    if used + r.size ≤ 65536 then (b, used) :: recPlaces b (used + r.size) t else (b + 1, 0) :: recPlaces (b + 1) r.size t

/-- Blocks of the store, and the flash address of a place (R562): blocks are used in turn. -/
def storeBlocks : Nat := 3568
def Trust.addressOf (t : Trust) (p : Nat × Nat) : Nat := 0x2100000 + (t.erased + p.1) % storeBlocks * 65536 + p.2

/-- The store index takes the address of a record just written, in the entry of its pair or in a free one of 32 (R569; DESIGN CHOICE, log 4:
which pairs fast boot needs, the first 32 that are written). -/
def Trust.indexed (t : Trust) (r : CairnRec) (addr : Nat) : Trust :=
  if r.type = 8 then t
  else if t.index.any fun e => e.1 == r.type && e.2.1 == r.inst then
    { t with index := t.index.map fun e => if e.1 = r.type ∧ e.2.1 = r.inst then (r.type, r.inst, addr) else e }
  else if t.index.length < 32 then { t with index := t.index ++ [(r.type, r.inst, addr)] }
  else t

/-- Append a record (R564, R566); the sequence advances for one that commits. -/
def Trust.add (t : Trust) (type inst : Nat) (data : List Byte) (ok : Bool) (soft : Option (List Nat)) : Trust :=
  let r : CairnRec := { type := type, inst := inst, seq := t.cairnSeq, data := data, committed := ok, soft := soft }
  let t1 := { t with cairn := t.cairn ++ [r], cairnSeq := if ok then t.cairnSeq + 1 else t.cairnSeq }
  if ok then t1.indexed r (t1.addressOf ((recPlaces 0 0 t1.cairn).getLast?.getD (0, 0))) else t1

/-- Whether compaction keeps a record (R567): it is valid, or among the 4,096 newest of the fault log. No older leaf reservation is valid in the
place of one that cannot be read (R568, R593). -/
def Trust.keeps (t : Trust) (r : CairnRec) : Bool :=
  r.committed && (if r.type = 8 then (((t.cairn.filter fun x => x.committed && x.type == 8).reverse).take 4096).contains r
    else t.record r.type r.inst == some r && !(r.type == 3 && t.leafUnread))

/-- The oldest block is compacted into the newest and erased. -/
def Trust.compact (t : Trust) : Trust :=
  let n := ((recPlaces 0 0 t.cairn).takeWhile fun p => p.1 == 0).length
  if n = t.cairn.length then t
  else
    let old := (t.cairn.take n).filter t.keeps
    let t1 := old.foldl (fun (t : Trust) r => t.add r.type r.inst r.data true r.soft) t
    { t1 with cairn := t1.cairn.drop n, erased := t1.erased + 1 }

/-- Append a record; the store keeps at least two erased blocks (R567). -/
def Trust.append (t : Trust) (type inst : Nat) (data : List Byte) (ok : Bool) (soft : Option (List Nat) := none) : Trust :=
  let t1 := t.add type inst data ok soft
  if storeBlocks < ((recPlaces 0 0 t1.cairn).getLast?.getD (0, 0)).1 + 3 then t1.compact else t1

/-! ### BOOT and resets of the firmware cores (R579, R582 to R584, R593, R597) -/

/-- What every BOOT leaves of the trust block. -/
def Trust.atBoot (t : Trust) : Trust :=
  ({ t with
    mr := [], measured := false, noImage := false, running := 0, recovery := false, root := 0, svnRun := 0, fwVersion := 0,
    exhausted := false, sessions := [], negotiated := [], waiting := [] } : Trust).restartLeaf

/-- Wrapping keys come back from their blobs at fast boot, or their slots are left empty (R583, R584). -/
def State.unwrapSlots (s : State) : State :=
  let s1 := ((List.range s.dev.wrapped.length).zip s.dev.wrapped).foldl (fun (s : State) x =>
    if x.2 < 4096 then s
    else match s.dev.blobGet x.1 with
      | some k => { s with trust := { s.trust with wrap := mset s.trust.wrap (x.2 - 4096) (k.setWidth 256) } }
      | none => { s with dev := s.dev.blobFails x.2 }) s
  { s1 with dev := { s1.dev with wrapped := [] } }

/-- The two keys that a BOOT without retained content draws (R582). -/
def Trust.drawKeys (t : Trust) : BitVec 512 × BitVec 256 × Trust :=
  (Config.drbg t.draws, (Config.drbg (t.draws + 1)).setWidth 256, { t with draws := t.draws + 2 })

/-- Payload of a pool-ID record (R443): pool ID, ack time and credit timeout in microseconds, two bytes each (log 31). -/
def poolBytes (id : BitVec 12) (ack credit : Nat) : List Byte := bytesOfNat 2 id.toNat ++ bytesOfNat 2 ack ++ bytesOfNat 2 credit

/-- The pool ID with its times and the rope epoch come from the Cairn store (R443, R448). -/
def Trust.pool (t : Trust) (e : Evoil) : Evoil :=
  let at_ (r : CairnRec) (i k : Nat) : Nat := natOfBytes ((r.data.drop i).take k)
  let e1 : Evoil := match t.record 7 0 with
    | some r => { e with pool := some (BitVec.ofNat 12 (at_ r 0 2)), ackUs := at_ r 2 2, creditUs := at_ r 4 2 }
    | none => e
  match t.record 6 0 with
  | some r => { e1 with rope := { e1.rope with epoch := BitVec.ofNat 32 (at_ r 2 4) } }
  | none => e1

/-- The ports' widths as the valid record gives them (R32): a port without one is one x16 link. -/
def Trust.widths (t : Trust) (d : Dev) : Dev :=
  let b := ((t.record 1 0).bind (·.data.head?)).getD 0
  { d with ports := (List.range 4).foldl (fun m p => mset m p { d.port p with recorded := b.getLsbD p, split := b.getLsbD p }) d.ports }

/-- A channel whose training record cannot be read is trained again in a fast boot (R145, R568). -/
def Trust.trainings (t : Trust) (d : Dev) : Dev :=
  (List.range 16).foldl (fun (d : Dev) c =>
    let x := d.chan c
    if (t.record 5 c).isSome || !x.recordOk then d
    else if d.coldStart || x.state != 3 then d.setChan c { x with recordOk := false }
    else ((d.setChan c { x with state := 2, recordOk := false }).onPower fun p => { p with bootKind := 2 }).republish) d

/-- The store, of which some records cannot be read. -/
def Trust.hiding (t : Trust) (hide : CairnRec → Bool) : Trust := { t with cairn := t.cairn.map fun r => { r with hidden := hide r } }

/-- The ROM and firmware read the Cairn store (R480, R568, R569, R593): records, named by their sequences, whose both reads fail are treated as
absent, and in BOOT what the store then says is taken up. A BOOT from OFF scans the whole store, which sets the index. -/
def State.readStore (s : State) (lost : List Nat) : State :=
  let t0 := s.trust.hiding fun r => r.committed && lost.contains r.seq
  let t : Trust := if s.dev.power.mode = .boot ∧ s.dev.coldStart then
      ((t0.cairn.zip (recPlaces 0 0 t0.cairn)).filter fun e => t0.record e.1.type e.1.inst == some e.1).foldl (fun (t : Trust) e =>
        t.indexed e.1 (t.addressOf e.2)) { t0 with index := [] }
    else t0
  if t.cairn = s.trust.cairn then { s with trust := t }
  else
    let d := (t.cairn.filter (·.hidden)).foldl (fun (d : Dev) _ => d.raise { code := 0x7002, cls := 2, unit := 0x394, att := 2 }) s.dev
    if d.power.mode ≠ .boot then { s with dev := d, trust := t.restartLeaf }
    else
      let d1 := t.trainings (t.widths d)
      { s with dev := if d1.coldStart then d1.onEv t.pool else d1, trust := t.restartLeaf }

/-- A BOOT that starts from nothing: f is the device part of it. -/
def State.bareStart (s : State) (f : BitVec 512 → BitVec 256 → Dev) : State :=
  let (k0, hk, t) := s.trust.drawKeys
  { s with dev := (f k0 hk).onEv t.pool, trust := { t.atBoot with wrap := [] } }

/-- Core reset: sessions end, and firmware stops (R597, R556). -/
def State.coreDown (s : State) (d : Dev) : State :=
  { s with dev := { d with fwUp := false, fwDown := false }, trust := { s.trust with sessions := [], negotiated := [], waiting := [] } }

/-- A reset of the firmware cores alone (R556, R557, R593, R597): what waits for firmware goes on waiting. -/
def State.fwReset (s : State) : State :=
  { s with
    dev := { s.dev with fwUp := false, fwDown := true },
    trust := ({ s.trust with sessions := [], negotiated := [] } : Trust).restartLeaf }

end Sys2Proof.Machine
end

