-- ==== Sys2Proof/Machine/Power.lean ====
section
/-!
DEFINITION. The commands of power, clocks, resets and boot (15, 18), and the POWER instruction (R355).
-/
namespace Sys2Proof.Machine

/-! ### POWER (R355) -/

/-- POWER mod 0: DEEP permission. -/
def powerDeepPermissionPel : Pel := {
  op := 0xC7, mod := some 0, form := formM 1,
  body := fun _ _ w _ => do
    Eng.upd fun d => d.onPower fun p => { p with deepOk := w.imm.getLsbD 0 }
    pure {} }

/-- POWER mod 1: DEEP entry; where a condition of R527 other than permission and idleness fails, it waits for it. -/
def powerEnterDeepPel : Pel := {
  op := 0xC7, mod := some 1, form := formM 0,
  body := fun c _ _ _ => do
    let d ← Eng.dev
    Eng.refusals 0x0236 [(!d.power.deepOk || !d.idleBut (some c.q), 1)]
    match d.startDeep (some (c.q, c.pos)) with
    | some d1 => Eng.upd fun _ => d1
    | none => Eng.wait .hold
    pure {} }

/-- POWER mod 2: the power cap. -/
def powerCapPel : Pel := {
  op := 0xC7, mod := some 2, form := formM 0xFFFF,
  body := fun _ _ w _ => do
    let d ← Eng.dev
    let n := w.imm.toNat % 65536
    Eng.refusals 0x0236 [(decide (d.plat.powerCeiling < n ∨ n < 80), 2)]
    Eng.upd fun d => d.onPower fun p => ({ p with cap := n } : Power).bias
    pure {} }

/-- POWER mod 3: forward well bias. -/
def powerForwardBiasPel : Pel := {
  op := 0xC7, mod := some 3, form := formM 1,
  body := fun _ _ w _ => do
    Eng.upd fun d => d.onPower fun p => ({ p with fwdOk := w.imm.getLsbD 0 } : Power).bias
    pure {} }

/-- POWER_DEEP_PERMISSION (R355, R527). -/
def execPowerDeepPermission (q : Nat) (w : PWord) (s : State) : Answer := s.issue q w powerDeepPermissionPel
/-- POWER_ENTER_DEEP (R355, R527). -/
def execPowerEnterDeep (q : Nat) (w : PWord) (s : State) : Answer := s.issue q w powerEnterDeepPel
/-- POWER_CAP (R355, R545). -/
def execPowerCap (q : Nat) (w : PWord) (s : State) : Answer := s.issue q w powerCapPel
/-- POWER_FORWARD_BIAS (R355, R544). -/
def execPowerForwardBias (q : Nat) (w : PWord) (s : State) : Answer := s.issue q w powerForwardBiasPel

/-! ### DOZE and DEEP -/

/-- DOZE_ENTRY (R525). -/
def execDozeEntry (s : State) : Answer := s.onDev (·.enterDoze)

/-- WAKE_N_ASSERT (R536): ignored outside DOZE and DEEP. -/
def execWakeNAssert (s : State) : Answer :=
  s.onDev fun d => if d.power.mode = .doze ∨ d.power.mode = .deep ∨ d.power.entering = 1 then d.wake 4 0 else d

/-- DEEP_ENTRY (R527, R528). -/
def execDeepEntry (s : State) : Answer := s.onDev fun d => (d.startDeep none).getD d

/-- DEEP_ENTRY_COMPLETE (R528, R537). -/
def execDeepEntryComplete (s : State) : Answer := s.onDev (·.deepEntered)

/-- LAMP_ALARM (R550, R536): an armed comparator whose tick has come; its detail is its number (log 26). -/
def execLampAlarm (index : Nat) (s : State) : Answer :=
  s.onDev fun d =>
    let a := mgetD d.power.alarms index {}
    if d.power.lampOn ∧ index < 8 ∧ a.armed ∧ a.tick ≤ d.lamp then
      (d.onPower fun p => { p with alarms := merase p.alarms index }).wake 6 index
    else d

/-- LAMP_DIMM_WATCH (R540). -/
def execLampDimmWatch (channel slot : Nat) (celsius : Int) (s : State) : Answer :=
  s.onDev fun d =>
    let x := d.chan channel
    if x.state = 3 ∧ x.sub = 3 ∧ slot < 2 ∧ (if slot = 0 then x.slot0 else x.slot1).isSome ∧ 95 < celsius then
      let d1 := (d.setChan channel { x with crawlDue := true }).onPower fun p => { p with retTemp := true }
      if d.power.mode = .deep then d1.wake 6 2 else d1
    else d

/-- DIMM_POWER_GOOD_DROP (R540): every bank of the slot fails at the next exit. -/
def execDimmPowerGoodDrop (channel slot : Nat) (s : State) : Answer :=
  s.onDev fun d =>
    let x := d.chan channel
    if x.state = 3 ∧ x.sub = 3 ∧ slot < 2 ∧ (if slot = 0 then x.slot0 else x.slot1).isSome then
      d.onPower fun p => { p with retPg := true, pgDropped := p.pgDropped.filter (· != (channel, slot)) ++ [(channel, slot)] }
    else d

/-! ### Limits -/

/-- POWER_ESTIMATE (R544, R545). -/
def execPowerEstimate (watts : Nat) (s : State) : Answer := s.onDev (·.powerTick (min watts 65535))

/-- JUNCTION_SENSOR_READ (R546). -/
def execJunctionSensorRead (celsius : Int) (s : State) : Answer := s.onDev (·.junctionRead celsius)

/-! ### HOLD (R405, R531 to R534) -/

/-- RESET_N_ASSERT (R531, R534): it ends a FATAL lockout. -/
def execResetNAssert (s : State) : Answer :=
  s.onDev fun d => (d.onPower fun p => { p with resetLow := true, lockout := false }).holdCut 0

/-- HOLD_REQ_N_ASSERT (R531). -/
def execHoldReqNAssert (s : State) : Answer := s.onDev (·.holdCut 1)

/-- PWR_WARN_N_ASSERT (R531). -/
def execPwrWarnNAssert (s : State) : Answer := s.onDev (·.holdCut 2)

/-- THERMAL_TRIP (R531, R546): HOLD even from BOOT. -/
def execThermalTrip (s : State) : Answer :=
  s.onDev fun d => if d.live then ((d.raise { code := 0x7004, cls := 4, unit := 0x3A1 }).lockCheck).holdCut 3 else d

/-- The core loses the wrapping-key slots, whose blobs stand in the reserved region (R583). -/
def State.slotsOff (s : State) : State := { s with trust := { s.trust with wrap := [] } }

/-- HOLD_SEQUENCE_COMPLETE (R532, R583, R597). -/
def execHoldSequenceComplete (s : State) : Answer :=
  if s.dev.power.mode = .hold ∧ s.dev.power.holdSeq = 1 then .next (s.coreDown (s.dev.holdDone s.trust.wrap)).slotsOff else .next s

/-- HOLD_BACKSTOP (R533): the 13th edge with the sequence not complete. -/
def execHoldBackstop (s : State) : Answer :=
  if s.dev.power.mode = .hold ∧ s.dev.power.holdSeq = 1 then .next (s.coreDown s.dev.holdFails) else .next s

/-- MAIN_RAIL_LOSS (R533). -/
def execMainRailLoss (s : State) : Answer :=
  let d := s.dev.railLost
  if d.power.mode = .off ∨ d.power.holdSeq = s.dev.power.holdSeq then .next { s with dev := d } else .next (s.coreDown d)

/-- HOLD_EXIT (R534, R535, R551, R582 to R584, R593): the fast boot, or a BOOT that keeps little; the core reference is chosen again. -/
def execHoldExit (lampTemp : Int) (s : State) (refclk : Nat := 0) : Answer :=
  let d := s.dev.onPower fun p => { p with lampTemp := senseOf lampTemp, refclk := refclk }
  if !s.dev.mayLeaveHold lampTemp then .next s
  else if d.power.retention then .next { s with dev := d.fastBoot, trust := s.trust.atBoot }
  else .next (s.bareStart d.bareBoot)

/-! ### BOOT and OFF (R523, R535, R630, R631) -/

/-- BOOT_COMPLETE (R535, R144, R217, R301). -/
def execBootComplete (failedCanaries : List Bank) (s : State) (fixed : List (Bank × Nat) := []) : Answer :=
  let fast := s.dev.bootReady && !s.dev.coldStart
  let s1 : State := { s with dev := s.dev.bootDone failedCanaries fixed }
  .next (if fast then s1.unwrapSlots else s1)

/-- BOOT_FROM_OFF (R631, R551, R582): rails good, RESET_N high and LAMPCLK running, with a host reference clock present. -/
def execBootFromOff (refclk : Nat) (s : State) : Answer :=
  let p := s.dev.power
  if p.mode = .off ∧ p.lampOn ∧ p.crystal ∧ p.coreEn ∧ p.rails ∧ !p.resetLow ∧ refclk < 4 then .next (s.bareStart (s.dev.coldBoot refclk))
  else .next s

/-- VDD_LAMP_LOSS (R523): OFF from any mode; what the Lamp domain held is lost (R574, R582). -/
def execVddLampLoss (s : State) : Answer :=
  .next { s.coreDown s.dev.lampLost with trust := { (s.coreDown s.dev).trust with trial := false, wrap := [], index := [] } }

/-- VDD_LAMP_POWER_ON (R631, R637): the Lamp domain resets, and its oscillator starts. -/
def execVddLampPowerOn (s : State) : Answer :=
  s.onDev fun d => if d.power.mode = .off ∧ !d.power.lampOn then d.onPower fun p => { p with lampOn := true, crystal := true } else d

/-- SRAM_EN_RAISE (R630, R631): RESET_N is high. -/
def execSramEnRaise (s : State) : Answer :=
  s.onDev fun d =>
    if (d.power.mode = .off ∨ (d.power.mode = .hold ∧ d.power.holdSeq = 2)) ∧ d.power.lampOn then
      d.onPower fun p => { p with sramEn := true, resetLow := false }
    else d

/-- CORE_EN_RAISE (R630, R631). -/
def execCoreEnRaise (s : State) : Answer :=
  s.onDev fun d =>
    if (d.power.mode = .off ∨ (d.power.mode = .hold ∧ d.power.holdSeq = 2)) ∧ d.power.lampOn ∧ d.power.sramEn then
      d.onPower fun p => { p with coreEn := true, rails := true }
    else d

/-- RECONCILIATION_COMPLETE (R90, R263). -/
def execReconciliationComplete (s : State) : Answer := s.onDev (·.reconciled)

/-! ### Die-to-die links and PLLs (R17, R480, R551) -/

/-- DIE_TO_DIE_CRC_FAILURE (R17): second, where the retried flit failed as well. -/
def execDieToDieCrcFailure (east second : Bool) (s : State) : Answer :=
  s.onDev fun d =>
    let u := if east then 0x31 else 0x30
    if !d.live then d
    else if second then d.fatal { code := 0x6002, cls := 4, unit := u, att := 2 }
    else d.raise { code := 0x6001, cls := 1, unit := u, att := 2 }

/-- A PLL that has not locked again (R480, R551): in BOOT a channel's fails its channel, and any other keeps the device in BOOT; in
RUN a FLITCLK takes its port's links down, and any other PLL is on the core reference. -/
def Dev.pllLost (d : Dev) (p : Pll) : Dev :=
  match d.power.mode, p with
  | .boot, .channel n =>
    let x := d.chan n
    if x.state = 4 then d
    else if x.state = 3 then d.failChannel n
    else (d.setChan n { x with state := 4, sub := 0, checked := true }).raise { code := 0x7001, cls := 2, unit := 0x3A2, att := 2, detail := n }
  | .boot, _ => d.fatal { code := 0x7001, cls := 4, unit := 0x3A2, att := 2 }
  | _, .flit n =>
    let d1 := d.raise { code := 0x7001, cls := 2, unit := 0x3A2, att := 2, detail := n }
    if n < 4 then (d1.linkLost n).linkLost (n + 4) else d1
  | _, _ => d.fatal { code := 0x7001, cls := 4, unit := 0x3A2, att := 2 }

/-- PLL_LOSS_OF_LOCK (R551, R480): second, where the lock was tried again in vain. -/
def execPllLossOfLock (pll : Pll) (second : Bool) (s : State) : Answer :=
  s.onDev fun d =>
    let asleep : Bool := d.power.mode == .deep && (match pll with
      | .evoil _ => false
      | _ => true)
    if !d.live || asleep then d
    else if second then d.pllLost pll
    else d.raise { code := 0x7001, cls := 1, unit := 0x3A2, att := 2 }

/-! ### Output pins (R626, R628, R630); ALARM is Dev.alarm -/

/-- The core is unpowered: in OFF, and once the hold sequence has ended (R532, R630). -/
def Dev.coreDark (d : Dev) : Bool := d.power.mode == .off || (d.power.mode == .hold && d.power.holdSeq == 2)

/-- A VID output: the boot code 0x32 while the core is unpowered, else the code asked for, clamped to the fused window (R630). -/
def Dev.vidCode (d : Dev) (rail : Nat) (window : Nat × Nat) : BitVec 8 :=
  if d.coreDark then 0x32#8 else BitVec.ofNat 8 (max window.1 (min window.2 (Config.vidAsked rail d.power.ticks)))

def Dev.vidc (d : Dev) : BitVec 8 := d.vidCode 0 d.plat.vidCore
def Dev.vids (d : Dev) : BitVec 8 := d.vidCode 1 d.plat.vidSram

/-! ### The TAP (R639, R628, R631) -/

/-- RETAIN_N is low: a channel's ranks are in self-refresh under the Lamp command hold (R628). -/
def Dev.retainLow (d : Dev) : Bool := d.chans.any fun e => e.2.state == 3 && e.2.sub == 3

/-- Every DRAM_RESET_N is low: in OFF, and in BOOT before training has begun (R631, R639). -/
def Dev.dramReset (d : Dev) : Bool :=
  match d.power.mode with
  | .off => d.power.lampOn
  | .boot => (d.power.bootKind == 0 || d.power.bootKind == 3) && d.chans.all fun e => !e.2.checked
  | _ => false

/-- TAP_INSTRUCTION (R639): one that drives outputs acts only while DRAM_RESET_N is low and RETAIN_N high, else as BYPASS. -/
def execTapInstruction (code : Nat) (drivesOutputs : Bool) (s : State) : Answer :=
  s.onDev fun d =>
    if !d.power.rails then d
    else
      let ok := !drivesOutputs || (d.dramReset && !d.retainLow)
      d.onPower fun p => { p with trstHigh := true, tap := if ok then code else 255, tapDrives := drivesOutputs && ok }

/-- TRST_N_RELEASE (R639). -/
def execTrstNRelease (s : State) : Answer :=
  s.onDev (·.onPower fun p => { p with trstHigh := false, tap := 255, tapDrives := false })

end Sys2Proof.Machine
end

