-- ==== Sys2Proof/Machine/Query.lean ====
section
/-!
DEFINITION. Query instructions: SCAN, GATHER, SCATTER, PROBE, REDUCE (10, R341, R342).
-/
namespace Sys2Proof.Machine

/-! ### The common header (R363, R364) -/

/-- Destination length and chain list of a query descriptor. -/
structure QHead where
  dlen  : Nat
  chain : Option (Nat × Nat × Nat)
  deriving DecidableEq, Repr

/-- Read the header: none where it is malformed. -/
def qhead (bs : List Byte) (op : Nat) : Option QHead :=
  if fieldAt bs 4 1 = op ∧ handleOk (fieldAt bs 5 1) ∧ zeroAt bs 6 2 ∧ zeroAt bs 12 4 then
    some { dlen := fieldAt bs 0 4, chain := (handleOf (fieldAt bs 5 1)).map fun h => (h, fieldAt bs 16 8, fieldAt bs 8 4) }
  else none

def QHead.rngs (h : QHead) : List Rng := (h.chain.map fun e => ({ win := e.1, off := e.2.1, len := 16 * e.2.2 } : Rng)).toList

/-- What a query has found out about its operands: the areas of source, destination, descriptor, chain, then its own. -/
structure QIn where
  as    : List Area
  own   : Nat
  sink  : Sink

/-- Check all ranges of a query (R364) and read its chain list. -/
def Eng.query (c : Ctx) (x : Queue) (w : PWord) (dn : Nat) (h : QHead) (src dst : Rng) (more : List Rng) (high : Bool) : Eng QIn := do
  let rs := [src, dst, thirdRng w dn] ++ h.rngs ++ more
  let as ← Eng.ranges c x rs high
  let list ← if h.chain.isNone then pure [] else Eng.read c (areaAt as 3) 0 (areaAt as 3).len
  Eng.check (!(list.any (·.2))) 0x020A
  pure { as := as, own := 3 + h.rngs.length, sink := {
    dst := areaAt as 1, chain := chainEntries (list.length / 16) (list.map (·.1)), others := ((rs.map Rng.writes).zip as).eraseIdx 1 } }

def QIn.area (i : QIn) (k : Nat) : Area := areaAt i.as (i.own + k)

/-- How the rows of a query came out: units with the row each is for, and where and why they stopped. -/
structure Rows where
  units : List (Nat × PBytes) := []
  fault : Option (Nat × Nat) := none

/-- Write the units of n rows; the record says how far they came (R341, R366). per is the number of rows of one unit in the
bitmap forms, 0 elsewhere; width is that of an input element. -/
def Eng.rows (c : Ctx) (x : Queue) (k : Sink) (n per width : Nat) (r : Rows) : Eng Result := do
  let l ← Eng.emit c x k (r.units.map (·.2))
  let rowOf : Nat := match r.units[l.units]? with
    | some u => u.1
    | none => n
  let made := if per = 0 then l.units else min n (l.units * per)
  let res (r0 : Nat) : Result := { r0 := BitVec.ofNat 64 r0, r1 := BitVec.ofNat 64 made, r2 := l.fill, work := [1, r0 * width, made, r0] }
  match l.stop, r.fault with
  | some st, _ => if st = 0x0102 then pure { res rowOf with status := st } else Eng.fault st (res rowOf)
  | none, some (st, i) => Eng.fault st (res i)
  | none, none => pure (res n)

/-- Pack selected rows into bitmap bytes: whole bytes of rows below n, the last one padded when all rows are there. -/
def packBits (sel : List Bool) (n : Nat) : List (Nat × PBytes) :=
  let whole := if sel.length = n then ceilDiv n 8 else sel.length / 8
  (List.range whole).map fun k =>
    (8 * k, [(BitVec.ofNat 8 (((List.range 8).map fun i => if (sel[8 * k + i]?).getD false then 2 ^ i else 0).sum), false)])

/-- A bit of a bitmap that starts at a bit of its first byte. -/
def bitAt (bs : PBytes) (start i : Nat) : Bool × Bool :=
  match bs[(start + i) / 8]? with
  | some (b, p) => (b.getLsbD ((start + i) % 8), p)
  | none => (false, false)

def sliceAt (bs : PBytes) (i width : Nat) : PBytes := (bs.drop (i * width)).take width

/-! ### SCAN (R367 to R373) -/

structure ScanDesc where
  head   : QHead
  width  : Nat
  type   : Nat
  form   : Nat
  invert : Bool
  nulls  : Bool
  cmp    : Bool
  range  : Bool
  set    : Bool
  bitmap : Bool
  mode   : Nat
  slots  : List (Option (Nat × Nat))
  incLo  : Bool
  incHi  : Bool
  nullAt : Nat × Nat × Nat
  setAt  : Nat × Nat × Nat
  rowBase : Nat
  lo     : Nat
  hi     : Nat
  deriving DecidableEq, Repr

/-- A width code of an element type (R367). -/
def widthOk (type code : Nat) : Bool := decide (code ≤ 4) && (type != 2 || decide (1 ≤ code ∧ code ≤ 3))

def scanDesc (bs : List Byte) : Option ScanDesc := do
  let h ← qhead bs 0x60
  let b (i : Nat) : Nat := fieldAt bs i 1
  let e := b 24
  let width := 2 ^ (e % 8)
  let const (off : Nat) : Nat := fieldAt bs off 16
  let small (v : Nat) : Bool := decide (v < 2 ^ (8 * width))
  let ops := [b 28 % 16, b 28 / 16, b 29 % 16, b 29 / 16]
  let slots := (List.range 4).map fun k => if (b 27).testBit k then some ((ops[k]?).getD 0, const (64 + 16 * k)) else none
  let d : ScanDesc := {
    head := h, width := width, type := e / 16 % 4, form := b 25 % 4, invert := (b 25).testBit 2, nulls := (b 25).testBit 3,
    cmp := (b 26).testBit 0, range := (b 26).testBit 1, set := (b 26).testBit 2, bitmap := (b 26).testBit 3, mode := b 26 / 16 % 4,
    slots := slots, incLo := (b 30).testBit 0, incHi := (b 30).testBit 1, nullAt := (b 40 % 64, fieldAt bs 32 8, b 31),
    setAt := (b 41 % 64, fieldAt bs 48 8, fieldAt bs 42 2), rowBase := fieldAt bs 56 8, lo := const 128, hi := const 144 }
  let ok := !e.testBit 3 && decide (e < 64) && widthOk d.type (e % 8) && d.form != 3 && decide (b 25 < 16) && decide (b 26 < 64) &&
    decide (b 27 < 16) && ops.all (fun o => decide (o ≤ 5)) && decide (b 30 < 4) && decide (b 31 < 8) && handleOk (b 40) &&
    handleOk (b 41) && zeroAt bs 44 4 && (List.range 4).all (fun k => small (const (64 + 16 * k))) && small d.lo && small d.hi &&
    (!d.cmp || slots.any (·.isSome)) && (!d.bitmap || (b 40).testBit 7) &&
    (!d.set || ((b 41).testBit 7 && decide (1 ≤ d.setAt.2.2 ∧ d.setAt.2.2 ≤ 256)))
  if ok then some d else none

/-- The comparison term (R369). -/
def ScanDesc.termC (d : ScanDesc) (v : Nat) : Bool :=
  let on (k : Nat) : Bool := ((d.slots[k]?).getD none).isSome
  let val (k : Nat) (dflt : Bool) : Bool := match (d.slots[k]?).getD none with
    | some (op, y) => elemCmp d.type d.width op v y
    | none => dflt
  match d.mode with
  | 0 => val 0 true && val 1 true && val 2 true && val 3 true
  | 1 => val 0 false || val 1 false || val 2 false || val 3 false
  | 2 => ((on 0 || on 1) && val 0 true && val 1 true) || ((on 2 || on 3) && val 2 true && val 3 true)
  | _ => (!(on 0 || on 1) || val 0 false || val 1 false) && (!(on 2 || on 3) || val 2 false || val 3 false)

/-- The range term (R370). -/
def ScanDesc.termR (d : ScanDesc) (v : Nat) : Bool :=
  elemCmp d.type d.width (if d.incLo then 5 else 4) v d.lo && elemCmp d.type d.width (if d.incHi then 3 else 2) v d.hi

/-- Whether a row that is not null is selected (R371). -/
def ScanDesc.selects (d : ScanDesc) (set : List Nat) (v : Nat) : Bool :=
  ((!d.cmp || d.termC v) && (!d.range || d.termR v) && (!d.set || set.any fun y => elemCmp d.type d.width 0 v y)) != d.invert

/-- Strictly ascending entries without a NaN (R370). -/
def ascending (type width : Nat) : List Nat → Bool
  | [] => true
  | [a] => (elemKey type width a).isSome
  | a :: b :: t => elemCmp type width 2 a b && ascending type width (b :: t)

/-- Evaluate rows in order (R371 to R373): selected rows, and the first poisoned one. -/
def ScanDesc.run (d : ScanDesc) (set : List Nat) (src nul : PBytes) : List Nat → List (Nat × Bool × PBytes) → List (Nat × Bool × PBytes) × Option (Nat × Nat)
  | [], acc => (acc, none)
  | i :: t, acc =>
    let e := sliceAt src i d.width
    let (null, nullBad) := if d.bitmap then bitAt nul d.nullAt.2.2 i else (false, false)
    let used := !null && (d.cmp || d.range || d.set || d.form == 2)
    if nullBad || (used && e.any (·.2)) then (acc, some (0x020A, i))
    else
      let sel := if null then d.nulls else d.selects set (numOf e)
      d.run set src nul t (acc ++ [(i, sel, e)])

def scanBody (c : Ctx) (x : Queue) (w : PWord) (v : Vals) : Eng Result := do
  let (n, high) := count32 v.c.1
  let src (len : Nat) : Rng := { win := w.swin.toNat, off := v.b.1.toNat, len := len }
  let dst (len : Nat) : Rng := { win := w.dwin.toNat, off := v.a.1.toNat, len := len, right := 1 }
  if v.c.1 = 0 then pure nothingDone
  else
    let bs ← Eng.third c x w 160 [src 0, dst 0] high
    match scanDesc bs with
    | none => Eng.fault 0x0214
    | some d =>
      let nul : List Rng := if d.bitmap then [{ win := d.nullAt.1, off := d.nullAt.2.1, len := ceilDiv (d.nullAt.2.2 + n) 8 }] else []
      let set : List Rng := if d.set then [{ win := d.setAt.1, off := d.setAt.2.1, len := d.setAt.2.2 * d.width }] else []
      let q ← Eng.query c x w 160 d.head (src (n * d.width)) (dst d.head.dlen) (nul ++ set) high
      let sb ← if d.set then Eng.read c (q.area nul.length) 0 (d.setAt.2.2 * d.width) else pure []
      Eng.check (!(sb.any (·.2))) 0x020A
      let entries := (List.range (if d.set then d.setAt.2.2 else 0)).map fun i => numOf (sliceAt sb i d.width)
      Eng.check (ascending d.type d.width entries) 0x0214
      let nb ← if d.bitmap then Eng.read c (q.area 0) 0 (q.area 0).len else pure []
      let inp ← Eng.read c (areaAt q.as 0) 0 (n * d.width)
      let (rows, fault) := d.run entries inp nb (List.range n) []
      let picked := rows.filter fun r => r.2.1
      let units : List (Nat × PBytes) := match d.form with
        | 0 => packBits (rows.map fun r => r.2.1) n
        | 1 => picked.map fun r => (r.1, clean (bytesOfNat 8 ((d.rowBase + r.1) % 2 ^ 64)))
        | _ => picked.map fun r => (r.1, r.2.2)
      Eng.rows c x q.sink n (if d.form = 0 then 8 else 0) d.width { units := units, fault := fault }

/-! ### GATHER and SCATTER (R374 to R376, R342) -/

structure ListDesc where
  head  : QHead
  width : Nat
  idx   : Nat
  win   : Nat
  off   : Nat
  count : Nat
  deriving DecidableEq, Repr

def listDesc (bs : List Byte) (op : Nat) : Option ListDesc := do
  let h ← qhead bs op
  let e := fieldAt bs 24 1
  let i := fieldAt bs 25 1
  if e ≤ 4 ∧ i ≤ 1 ∧ fieldAt bs 26 1 < 64 ∧ zeroAt bs 27 5 ∧ zeroAt bs 48 16 then
    some { head := h, width := 2 ^ e, idx := if i = 0 then 4 else 8, win := fieldAt bs 26 1, off := fieldAt bs 32 8, count := fieldAt bs 40 8 }
  else none

/-- The indices of a list, checked before any effect (R342): a poisoned one, or one out of range, stops the instruction. -/
def checkIdx (bs : PBytes) (width count : Nat) : List Nat → List Nat → Except (Nat × Nat) (List Nat)
  | [], acc => .ok acc
  | i :: t, acc =>
    let e := sliceAt bs i width
    if e.any (·.2) then .error (0x020A, i)
    else if count ≤ numOf e then .error (0x0206, 0)
    else checkIdx bs width count t (acc ++ [numOf e])

def gatherBody (c : Ctx) (x : Queue) (w : PWord) (v : Vals) : Eng Result := do
  let (n, high) := count32 v.c.1
  let src (len : Nat) : Rng := { win := w.swin.toNat, off := v.b.1.toNat, len := len }
  let dst (len : Nat) : Rng := { win := w.dwin.toNat, off := v.a.1.toNat, len := len, right := 1 }
  if v.c.1 = 0 then pure nothingDone
  else
    let bs ← Eng.third c x w 64 [src 0, dst 0] high
    match listDesc bs 0x61 with
    | none => Eng.fault 0x0214
    | some d =>
      let q ← Eng.query c x w 64 d.head (src (n * d.idx)) (dst d.head.dlen) [{ win := d.win, off := d.off, len := d.count * d.width }] high
      let ib ← Eng.read c (areaAt q.as 0) 0 (n * d.idx)
      match checkIdx ib d.idx d.count (List.range n) [] with
      | .error (st, i) => Eng.fault st { nothingDone with r0 := BitVec.ofNat 64 i }
      | .ok is =>
        let vals ← is.mapM fun i => Eng.read c (q.area 0) (i * d.width) d.width
        Eng.rows c x q.sink n 0 d.idx { units := (List.range n).zip vals }

/-- Bytes to be put into lines, later ones over earlier ones (R376). -/
def mergeBytes (m : AMap (ByteMask × LineData × Bool)) (pos : Nat) : PBytes → AMap (ByteMask × LineData × Bool)
  | [] => m
  | (b, p) :: t =>
    let (mask, data, poison) := mgetD m (pos / 64) (0, 0, false)
    let one := maskRange (pos % 64) 1
    let new : LineData := BitVec.ofNat 512 (b.toNat <<< (8 * (pos % 64)))
    mergeBytes (mset m (pos / 64) (mask ||| one, mergeLine data new one, poison || p)) (pos + 1) t

def scatterBody (c : Ctx) (x : Queue) (w : PWord) (v : Vals) : Eng Result := do
  let (n, high) := count32 v.c.1
  let src (len : Nat) : Rng := { win := w.swin.toNat, off := v.b.1.toNat, len := len }
  let dst (len : Nat) : Rng := { win := w.dwin.toNat, off := v.a.1.toNat, len := len, right := 1 }
  if v.c.1 = 0 then pure { nothingDone with r2 := some 0 }
  else
    let bs ← Eng.third c x w 64 [src 0, dst 0] high
    match (listDesc bs 0x62).filter fun d => d.head.dlen == 0 && d.head.chain.isNone with
    | none => Eng.fault 0x0214
    | some d =>
      let q ← Eng.query c x w 64 d.head (src (n * d.width)) (dst (d.count * d.width)) [{ win := d.win, off := d.off, len := n * d.idx }] high
      let ib ← Eng.read c (q.area 0) 0 (n * d.idx)
      match checkIdx ib d.idx d.count (List.range n) [] with
      | .error (st, i) => Eng.fault st { r0 := BitVec.ofNat 64 i, r1 := some 0, r2 := some 0 }
      | .ok is =>
        let vb ← Eng.read c (areaAt q.as 0) 0 (n * d.width)
        let a := areaAt q.as 1
        let lines := (is.zip (List.range n)).foldl (fun m e => mergeBytes m (a.base + e.1 * d.width) (sliceAt vb e.2 d.width)) []
        Eng.upd fun dv => lines.foldl (fun dv e => dv.putLine c a e.1 e.2.1 e.2.2.1 e.2.2.2) dv
        pure { r0 := some (BitVec.ofNat 64 n), r1 := some (BitVec.ofNat 64 n), r2 := some 0, work := [1, n * d.width, n, n] }

/-! ### PROBE (R377 to R382) -/

structure ProbeDesc where
  head  : QHead
  form  : Nat
  win   : Nat
  off   : Nat
  base  : Nat
  miss  : List Byte
  deriving DecidableEq, Repr

def probeDesc (bs : List Byte) : Option ProbeDesc := do
  let h ← qhead bs 0x63
  let form := fieldAt bs 24 1
  if form ≤ 3 ∧ fieldAt bs 25 1 < 64 ∧ zeroAt bs 26 6 ∧ (form = 3 ∨ zeroAt bs 48 16) then
    some { head := h, form := form, win := fieldAt bs 25 1, off := fieldAt bs 32 8, base := fieldAt bs 40 8, miss := (bs.drop 48).take 16 }
  else none

structure HashTable where
  key   : Nat
  pay   : Nat
  log   : Nat
  seed1 : Nat
  seed2 : Nat
  deriving DecidableEq, Repr

/-- The table header (R377, R378). -/
def hashTable (bs : List Byte) : Option HashTable :=
  let k := fieldAt bs 5 1
  let p := fieldAt bs 6 1
  let l := fieldAt bs 7 1
  if bs.take 4 = [0x5A#8, 0x4B#8, 0x48#8, 0x54#8] ∧ fieldAt bs 4 1 = 1 ∧ k ≤ 2 ∧ p ≤ 3 ∧ 1 ≤ l ∧ l ≤ 30 ∧ zeroAt bs 24 40 then
    some { key := 4 * 2 ^ k, pay := if p = 0 then 0 else 2 * 2 ^ p, log := l, seed1 := fieldAt bs 8 4, seed2 := fieldAt bs 12 4 }
  else none

/-- Slots of a bucket. -/
def HashTable.slots (t : HashTable) : Nat := min 8 (120 / (t.key + t.pay))

/-- The two buckets of a key (R379). -/
def HashTable.buckets (t : HashTable) (k : List Byte) : Nat × Nat :=
  let b1 := checkValue (crc32cDesc t.seed1) k % 2 ^ t.log
  let b2 := checkValue (crc32cDesc t.seed2) k % 2 ^ t.log
  (b1, if b2 = b1 then b1 ^^^ 1 else b2)

/-- The payload of the first occupied slot that holds a key. -/
def HashTable.look (t : HashTable) (b : List Byte) (k : List Byte) : Option (List Byte) :=
  (List.range t.slots).findSome? fun s =>
    let e := (b.drop (8 + s * (t.key + t.pay))).take (t.key + t.pay)
    if (fieldAt b 0 1).testBit s ∧ e.take t.key = k then some (e.drop t.key) else none

/-- Look keys up in order (R379, R381): payload or miss of each, and the first that meets poison. -/
def probeKeys (c : Ctx) (t : HashTable) (tab : Area) (keys : PBytes) : List Nat → List (Nat × Option (List Byte)) →
    Eng (List (Nat × Option (List Byte)) × Option (Nat × Nat))
  | [], acc => pure (acc, none)
  | i :: rest, acc => do
    let k := sliceAt keys i t.key
    if k.any (·.2) then pure (acc, some (0x020A, i))
    else
      let kb := k.map (·.1)
      let (b1, b2) := t.buckets kb
      let x1 ← Eng.read c tab (64 + 128 * b1) 128
      if x1.any (·.2) then pure (acc, some (0x020A, i))
      else match t.look (x1.map (·.1)) kb with
        | some p => probeKeys c t tab keys rest (acc ++ [(i, some p)])
        | none =>
          let x2 ← Eng.read c tab (64 + 128 * b2) 128
          if x2.any (·.2) then pure (acc, some (0x020A, i))
          else probeKeys c t tab keys rest (acc ++ [(i, t.look (x2.map (·.1)) kb)])

def probeBody (c : Ctx) (x : Queue) (w : PWord) (v : Vals) : Eng Result := do
  let (n, high) := count32 v.c.1
  let src (len : Nat) : Rng := { win := w.swin.toNat, off := v.b.1.toNat, len := len }
  let dst (len : Nat) : Rng := { win := w.dwin.toNat, off := v.a.1.toNat, len := len, right := 1 }
  if v.c.1 = 0 then pure nothingDone
  else
    let bs ← Eng.third c x w 64 [src 0, dst 0] high
    match probeDesc bs with
    | none => Eng.fault 0x0214
    | some d =>
      let tabRng (len : Nat) : Rng := { win := d.win, off := d.off, len := len }
      let room : Bool := decide (d.off + 64 ≤ (x.window d.win).length)
      let _ ← Eng.ranges c x [src 0, dst 0, thirdRng w 64, { tabRng 0 with off := 0 }] high
      Eng.check (d.off % 64 == 0 && room) 0x0214
      let tas ← Eng.ranges c x [tabRng 64] high
      let hb ← Eng.read c (areaAt tas 0) 0 64
      Eng.check (!(hb.any (·.2))) 0x020A
      match (hashTable (hb.map (·.1))).filter fun t =>
          decide (d.off + 64 + 128 * 2 ^ t.log ≤ (x.window d.win).length) && !(t.pay == 0 && decide (2 ≤ d.form)) with
      | none => Eng.fault 0x0214
      | some t =>
        let q ← Eng.query c x w 64 d.head (src (n * t.key)) (dst d.head.dlen) [tabRng (64 + 128 * 2 ^ t.log)] high
        let keys ← Eng.read c (areaAt q.as 0) 0 (n * t.key)
        let (rows, fault) ← probeKeys c t (q.area 0) keys (List.range n) []
        let id (i : Nat) : PBytes := clean (bytesOfNat 8 ((d.base + i) % 2 ^ 64))
        let units : List (Nat × PBytes) := match d.form with
          | 0 => packBits (rows.map fun r => r.2.isSome) n
          | 1 => rows.filterMap fun r => r.2.map fun _ => (r.1, id r.1)
          | 2 => rows.filterMap fun r => r.2.map fun p => (r.1, id r.1 ++ clean p)
          | _ => rows.map fun r => (r.1, clean (r.2.getD (d.miss.take t.pay)))
        Eng.rows c x q.sink n (if d.form = 0 then 8 else 0) t.key { units := units, fault := fault }

/-! ### REDUCE (R383 to R387) -/

structure ReduceDesc where
  head   : QHead
  width  : Nat
  type   : Nat
  gw     : Nat
  gwin   : Nat
  sel    : Option Nat
  prior  : Option Nat
  selBit : Nat
  groups : Nat
  goff   : Nat
  soff   : Nat
  poff   : Nat
  deriving DecidableEq, Repr

def reduceDesc (bs : List Byte) : Option ReduceDesc := do
  let h ← qhead bs 0x64
  let b (i : Nat) : Nat := fieldAt bs i 1
  let e := b 24
  let type := e / 16 % 4
  let g := fieldAt bs 30 2
  let ok := !e.testBit 2 && !e.testBit 3 && decide (e < 64 ∧ type ≤ 2) && !(type == 2 && e % 4 == 0) && decide (b 25 ≤ 3) &&
    (if b 25 = 0 then b 26 == 0 else decide (b 26 < 64)) && handleOk (b 27) && handleOk (b 28) && decide (b 29 < 8) &&
    decide (1 ≤ g ∧ g ≤ 4096) && zeroAt bs 56 8
  if ok then
    some {
      head := h, width := 2 ^ (e % 4), type := type, gw := if b 25 = 0 then 0 else 2 ^ (b 25 - 1), gwin := b 26,
      sel := handleOf (b 27), prior := handleOf (b 28), selBit := b 29, groups := g, goff := fieldAt bs 32 8,
      soff := fieldAt bs 40 8, poff := fieldAt bs 48 8 }
  else none

/-- An accumulator record (R383). -/
structure Accum where
  count : Nat := 0
  sum   : Nat := 0
  min   : Nat := 0
  max   : Nat := 0
  nan   : Bool := false
  deriving DecidableEq, Repr

def Accum.bytes (a : Accum) : List Byte :=
  bytesOfNat 8 a.count ++ bytesOfNat 16 a.sum ++ bytesOfNat 8 a.min ++ bytesOfNat 8 a.max ++ [if a.nan then 1#8 else 0#8] ++
    List.replicate 23 0#8

/-- A prior record: none where it is malformed (R384). -/
def accumOf (type : Nat) (bs : List Byte) : Option Accum :=
  let a : Accum := {
    count := fieldAt bs 0 8, sum := fieldAt bs 8 16, min := fieldAt bs 24 8, max := fieldAt bs 32 8, nan := fieldAt bs 40 1 == 1 }
  let agrees := if a.count = 0 then a == {} else !(elemCmp type 8 2 a.max a.min)
  if fieldAt bs 40 1 ≤ 1 ∧ zeroAt bs 41 23 ∧ (type ≠ 2 ∨ zeroAt bs 16 8) ∧ agrees then some a else none

/-- Add a row to a group (R384). -/
def Accum.add (a : Accum) (type width v : Nat) : Accum :=
  let ext : Nat :=
    if type = 1 ∧ v.testBit (8 * width - 1) then 2 ^ 64 - 2 ^ (8 * width) + v
    else if type = 2 then f64Widen width v else v
  if type = 2 then
    if f64Nan ext then { a with count := (a.count + 1) % 2 ^ 64, sum := someNan a.sum ext, nan := true }
    else
      { a with
        count := (a.count + 1) % 2 ^ 64, sum := f64Add a.sum ext,
        min := if a.count = 0 ∨ elemCmp 2 8 2 ext a.min then ext else a.min,
        max := if a.count = 0 ∨ elemCmp 2 8 2 a.max ext then ext else a.max }
  else
    let wide : Nat := if type = 1 ∧ ext.testBit 63 then 2 ^ 128 - 2 ^ 64 + ext else ext
    { a with
      count := (a.count + 1) % 2 ^ 64, sum := (a.sum + wide) % 2 ^ 128,
      min := if a.count = 0 ∨ elemCmp type 8 2 ext a.min then ext else a.min,
      max := if a.count = 0 ∨ elemCmp type 8 2 a.max ext then ext else a.max }

/-- Add rows in order: the records, and the first row that stops (R385). -/
def ReduceDesc.run (d : ReduceDesc) (vals grp sel : PBytes) : List Nat → List Accum → List Accum × Option (Nat × Nat)
  | [], acc => (acc, none)
  | i :: t, acc =>
    let (on, selBad) := if d.sel.isSome then bitAt sel d.selBit i else (true, false)
    if selBad then (acc, some (0x020A, i))
    else if !on then d.run vals grp sel t acc
    else
      let v := sliceAt vals i d.width
      let gb := sliceAt grp i d.gw
      let g := numOf gb
      if gb.any (·.2) || v.any (·.2) then (acc, some (0x020A, i))
      else if d.groups ≤ g then (acc, some (0x0206, i))
      else d.run vals grp sel t (acc.modify g fun a => a.add d.type d.width (numOf v))

/-- REDUCE over its rows; halt: its class time limit stops it before the first row, its records written as they start (R387, R390). -/
def reduceRows (halt : Bool) (c : Ctx) (x : Queue) (w : PWord) (v : Vals) : Eng Result := do
  let (n, high) := count32 v.c.1
  let src (len : Nat) : Rng := { win := w.swin.toNat, off := v.b.1.toNat, len := len }
  let dst (len : Nat) : Rng := { win := w.dwin.toNat, off := v.a.1.toNat, len := len, right := 1 }
  if v.c.1 = 0 then pure nothingDone
  else
    let bs ← Eng.third c x w 64 [src 0, dst 0] high
    match reduceDesc bs with
    | none => Eng.fault 0x0214
    | some d =>
      let grp : List Rng := if d.gw = 0 then [] else [{ win := d.gwin, off := d.goff, len := n * d.gw }]
      let sel : List Rng := (d.sel.map fun h => ({ win := h, off := d.soff, len := ceilDiv (d.selBit + n) 8 } : Rng)).toList
      let pri : List Rng := (d.prior.map fun h => ({ win := h, off := d.poff, len := 64 * d.groups } : Rng)).toList
      let q ← Eng.query c x w 64 d.head (src (n * d.width)) (dst d.head.dlen) (grp ++ sel ++ pri) high
      let pb ← if d.prior.isSome then Eng.read c (q.area (grp.length + sel.length)) 0 (64 * d.groups) else pure []
      Eng.check (!(pb.any (·.2))) 0x020A
      let priors := (List.range d.groups).map fun g => if d.prior.isSome then accumOf d.type ((sliceAt pb g 64).map (·.1)) else some {}
      Eng.check (priors.all (·.isSome)) 0x0214
      let recs := priors.map fun a => a.getD {}
      let dv ← Eng.dev
      let es := q.sink.chain.zip (List.range q.sink.chain.length)
      let plan := dv.layUnits c x q.sink (d.groups + q.sink.chain.length + 1) (recs.map fun a => clean a.bytes) es { cur := q.sink.dst }
      match plan.stop with
      | some st => if st = 0x0102 then pure { nothingDone with status := st } else Eng.fault st
      | none =>
        let rows := if halt then 0 else n
        let gb ← if d.gw = 0 then pure [] else Eng.read c (q.area 0) 0 (rows * d.gw)
        let sb ← if d.sel.isSome ∧ !halt then Eng.read c (q.area grp.length) 0 (q.area grp.length).len else pure []
        let vb ← Eng.read c (areaAt q.as 0) 0 (rows * d.width)
        let (out, fault) := d.run vb gb sb (List.range rows) recs
        let l ← Eng.emit c x q.sink (out.map fun a => clean a.bytes)
        let r (k : Nat) : Result := {
          r0 := BitVec.ofNat 64 k, r1 := BitVec.ofNat 64 d.groups, r2 := l.fill, work := [1, k * d.width, d.groups, k] }
        match fault with
        | some (st, i) => Eng.fault st (r i)
        | none => pure (r rows)

def reduceBody : Ctx → Queue → PWord → Vals → Eng Result := reduceRows false

/-! ### The rows -/

def queryForm : PWord → Bool :=
  Form.ok { fmt := 5, ra := true, rb := true, rc := true, swin := true, dwin := true, imm := immAll, mod := 8 }

def scanPel : Pel := { op := 0x60, form := queryForm, body := scanBody }
def gatherPel : Pel := { op := 0x61, form := queryForm, body := gatherBody }
def scatterPel : Pel := { op := 0x62, form := queryForm, body := scatterBody }
def probePel : Pel := { op := 0x63, form := queryForm, body := probeBody }
def reducePel : Pel := { op := 0x64, form := queryForm, body := reduceBody }

/-- SCAN (R367 to R373). -/
def execScan (q : Nat) (w : PWord) (s : State) : Answer := s.issue q w scanPel
/-- GATHER (R374 to R376). -/
def execGather (q : Nat) (w : PWord) (s : State) : Answer := s.issue q w gatherPel
/-- SCATTER (R374 to R376). -/
def execScatter (q : Nat) (w : PWord) (s : State) : Answer := s.issue q w scatterPel
/-- PROBE (R377 to R382). -/
def execProbe (q : Nat) (w : PWord) (s : State) : Answer := s.issue q w probePel
/-- REDUCE (R383 to R387). -/
def execReduce (q : Nat) (w : PWord) (s : State) : Answer := s.issue q w reducePel

end Sys2Proof.Machine
end

