-- ==== Sys2Proof/Machine/Rope.lean ====
section
/-!
DEFINITION. ROPE (R353, R445 to R448, R458).
-/
namespace Sys2Proof.Machine

/-- The port that a ROPE acts on, and the pool that it names. -/
def ropeP (w : PWord) : Nat := bitsOf w.imm.toNat 12 12
def ropePool (w : PWord) : BitVec 12 := BitVec.ofNat 12 w.imm.toNat

/-- Whether the link of a port is up: its session has the far end's hello. -/
def Dev.evOn (d : Dev) (p : Nat) : Bool := ((d.evPort p).state == 2 || (d.evPort p).state == 3) && (d.evPort p).helloGot

def Dev.ropeConds (d : Dev) (w : PWord) (pool : Bool) : List (Bool × Nat) :=
  [(!d.evOn (ropeP w), 1), (pool && (d.evPort (ropeP w)).peerPool != some (ropePool w), 2)]

/-- ROPE mod 0: a pair message for each mirrored grotto; it completes when all are answered. -/
def ropeFormPel : Pel := {
  op := 0xC5, mod := some 0, form := formM 0x1FFF,
  body := fun c _ w _ => do
    let d ← Eng.dev
    let p := ropeP w
    let r := d.ev.rope
    Eng.refusals 0x0234 (d.ropeConds w true ++ [(r.state != 0 && r.port != p, 3)])
    let gs := (d.grottos.filter fun e => e.2.mirror && (e.2.state == 1 || e.2.state == 0 || e.2.copy)).map (·.1)
    Eng.upd fun d =>
      let d1 := (d.newRope p (ropePool w)).onRope fun r => { r with forming := some (gs.length, c.q, c.pos) }
      gs.foldl (fun (d : Dev) g => d.evSend p (d.pairMsg g)) d1
    if gs.isEmpty then
      Eng.upd fun d => (d.onRope fun r => { r with forming := none }).settleRope
      let d ← Eng.dev
      pure { r1 := d.ev.rope.epoch.setWidth 64 }
    else pure {} }

/-- ROPE mod 1: the partner is told, and what waits for it completes; the epoch stays (R448). -/
def ropeRemovePel : Pel := {
  op := 0xC5, mod := some 1, form := formM 0x1000,
  body := fun _ _ w _ => do
    let d ← Eng.dev
    Eng.refusals 0x0234 (d.ropeConds w false)
    Eng.upd fun d =>
      if d.ev.rope.state = 0 then d
      else
        let d1 := d.ev.rope.ports.foldl (fun (d : Dev) p => d.evSend p (.ropeControl 1 0 0 0 0 0)) d
        let lines := d1.ev.rope.marks
        let d2 := (((d1.owes 6 0).onRope fun r => { epoch := r.epoch, next := r.next, marks := lines }).releaseMirror fun _ => true).dropPartner
        d2.retrySlots
    pure {} }

/-- ROPE mod 2. -/
def ropePermitSpillPel : Pel := {
  op := 0xC5, mod := some 2, form := formM 0x1FFF,
  body := fun _ _ w _ => do
    let d ← Eng.dev
    Eng.refusals 0x0234 (d.ropeConds w true)
    Eng.upd fun d => d.modEv (ropeP w) fun x => { x with spillOk := true, spillPool := ropePool w }
    pure {} }

/-- ROPE mod 3: pages already spilled stay. -/
def ropeWithdrawSpillPel : Pel := {
  op := 0xC5, mod := some 3, form := formM 0x1000,
  body := fun _ _ w _ => do
    let d ← Eng.dev
    let used := (d.remotePages (ropeP w)).any fun gp => (d.grotto gp.1).spillMode == 2
    Eng.refusals 0x0234 (d.ropeConds w false ++ [(used, 5)])
    Eng.upd fun d => d.modEv (ropeP w) fun x => { x with spillOk := false }
    pure {} }

/-- ROPE mod 4: rebuild of every paired grotto onto the partner; a rope that is alone has no partner to rebuild. -/
def ropeStartRebuildPel : Pel := {
  op := 0xC5, mod := some 4, form := formM 0x1000,
  body := fun _ _ w _ => do
    let d ← Eng.dev
    let r := d.ev.rope
    Eng.refusals 0x0234 (d.ropeConds w false ++ [(r.state != 1 && r.state != 2, 4)])
    Eng.upd fun d =>
      let d1 := d.onRope fun r => { r with state := 2 }
      ((r.paired.foldl (fun (d : Dev) g => d.rebuildGrotto g) d1).pumpRebuild evFuel).checkRebuilds
    pure {} }

/-- ROPE_FORM (R353, R445, R446). -/
def execRopeForm (q : Nat) (w : PWord) (s : State) : Answer := s.issue q w ropeFormPel
/-- ROPE_REMOVE (R353). -/
def execRopeRemove (q : Nat) (w : PWord) (s : State) : Answer := s.issue q w ropeRemovePel
/-- ROPE_PERMIT_SPILL (R353, R258). -/
def execRopePermitSpill (q : Nat) (w : PWord) (s : State) : Answer := s.issue q w ropePermitSpillPel
/-- ROPE_WITHDRAW_SPILL (R353). -/
def execRopeWithdrawSpill (q : Nat) (w : PWord) (s : State) : Answer := s.issue q w ropeWithdrawSpillPel
/-- ROPE_START_REBUILD (R353, R458, R459). -/
def execRopeStartRebuild (q : Nat) (w : PWord) (s : State) : Answer := s.issue q w ropeStartRebuildPel

end Sys2Proof.Machine
end

