-- ==== Sys2Proof/Machine/Inflate.lean ====
section
/-!
DEFINITION. Decompression of DEFLATE, zlib and gzip (R225 to R228; the formats are those of RFC 1951, 1950 and 1952, PRESUMED, log 84).
-/
namespace Sys2Proof.Machine

/-! ### Reading an input -/

/-- Why a decoder stops: a malformed stream (R227), or an input that ends inside one (R230). -/
inductive Halt where
  | bad
  | short
  deriving DecidableEq, Repr

/-- An input as a number, least significant byte first, with its length in bits. -/
structure BitSrc where
  num  : Nat
  bits : Nat
  deriving DecidableEq, Repr

/-- Where a decoder stands: the next bit, the output so far, and check values that did not match: stored, computed. -/
structure DecSt where
  pos   : Nat := 0
  out   : Array Byte := #[]
  wrong : List (Nat × Nat) := []
  deriving DecidableEq, Repr

abbrev Dec := EStateM Halt DecSt

def bitSrc (bs : List Byte) : BitSrc := { num := natOfBytes bs, bits := 8 * bs.length }

def Dec.bad {α : Type} : Dec α := throw .bad

def Dec.need (b : Bool) : Dec Unit := if b then pure () else throw .bad

/-- The next k bits as a number, the first bit least significant. -/
def BitSrc.take (b : BitSrc) (k : Nat) : Dec Nat := do
  let s ← get
  if s.pos + k ≤ b.bits then
    set { s with pos := s.pos + k }
    pure ((b.num >>> s.pos) % 2 ^ k)
  else throw .short

/-- Whole bytes from a byte boundary on, as a number. -/
def BitSrc.bytes (b : BitSrc) (k : Nat) : Dec Nat := b.take (8 * k)

def BitSrc.byteList (b : BitSrc) (k : Nat) : Dec (List Byte) := do
  let n ← b.bytes k
  pure (bytesOfNat k n)

/-- Skip to a byte boundary. -/
def Dec.align : Dec Unit := modify fun s => { s with pos := 8 * ceilDiv s.pos 8 }

def Dec.put (x : Byte) : Dec Unit := modify fun s => { s with out := s.out.push x }

def Dec.puts (xs : List Byte) : Dec Unit := modify fun s => { s with out := s.out ++ xs.toArray }

/-- Copy n bytes from so far back, one at a time: a match may overlap its own output. -/
def Dec.copy (dist : Nat) : Nat → Dec Unit
  | 0 => pure ()
  | n + 1 => do
    modify fun s => { s with out := s.out.push (s.out.getD (s.out.size - dist) 0#8) }
    Dec.copy dist n

/-- Compare a stored check value with the computed one: a mismatch is kept, the first one first (R226). -/
def Dec.verify (stored comp : Nat) : Dec Unit :=
  if stored = comp then pure () else modify fun s => { s with wrong := s.wrong ++ [(stored, comp)] }

/-! ### Codes -/

/-- A canonical code: how many codes each length from 1 has, and the symbols in order of code. -/
structure Huff where
  counts : List Nat
  syms   : Array Nat
  deriving DecidableEq, Repr

def huffOf (lens : List Nat) : Huff :=
  let of (l : Nat) : List Nat := (List.range lens.length).filter fun s => lens.getD s 0 == l
  let by_ := (List.range 15).map fun l => of (l + 1)
  { counts := by_.map (·.length), syms := by_.flatten.toArray }

/-- Codes left unused; none where the lengths ask for too many. -/
def Huff.left (h : Huff) : Option Nat :=
  h.counts.foldl (fun l c => l.bind fun n => if c ≤ 2 * n then some (2 * n - c) else none) (some 1)

/-- A code is complete, has no symbol, or has one symbol of one bit. -/
def Huff.sound (h : Huff) : Bool :=
  match h.left with
  | none => false
  | some n => n == 0 || h.syms.size == 0 || (h.syms.size == 1 && h.counts.head? == some 1)

def huffWalk (b : BitSrc) (syms : Array Nat) : List Nat → Nat → Nat → Nat → Dec Nat
  | [], _, _, _ => throw .bad
  | c :: t, code, first, index => do
    let bit ← b.take 1
    let k := code + bit
    if k < first + c then pure (syms.getD (index + (k - first)) 0)
    else huffWalk b syms t (2 * k) (2 * (first + c)) (index + c)

def Huff.next (h : Huff) (b : BitSrc) : Dec Nat := huffWalk b h.syms h.counts 0 0 0

/-! ### DEFLATE -/

/-- Extra bits of a length symbol above 256 and of a distance symbol: four lengths, or two distances, share a count. -/
def lenExtra (k : Nat) : Nat := if k < 8 ∨ k = 28 then 0 else k / 4 - 1
def distExtra (d : Nat) : Nat := if d < 4 then 0 else d / 2 - 1

/-- The least length, and the least distance, that a symbol stands for. -/
def lenBase (k : Nat) : Nat := if k = 28 then 258 else if k < 8 then 3 + k else 3 + (4 + k % 4) * 2 ^ lenExtra k
def distBase (d : Nat) : Nat := if d < 4 then 1 + d else 1 + (2 + d % 2) * 2 ^ distExtra d

/-- The symbols of one block; base is where this stream's output begins. -/
def inflateSyms (b : BitSrc) (base : Nat) (lit dist : Huff) : Nat → Dec Unit
  | 0 => throw .bad
  | n + 1 => do
    let s ← lit.next b
    if s < 256 then
      Dec.put (BitVec.ofNat 8 s)
      inflateSyms b base lit dist n
    else if s = 256 then pure ()
    else
      Dec.need (decide (s ≤ 285))
      let e ← b.take (lenExtra (s - 257))
      let d ← dist.next b
      Dec.need (decide (d < 30))
      let f ← b.take (distExtra d)
      let back := distBase d + f
      let st ← get
      Dec.need (decide (base + back ≤ st.out.size))
      Dec.copy back (lenBase (s - 257) + e)
      inflateSyms b base lit dist n

def fixedLit : Huff :=
  huffOf (List.replicate 144 8 ++ List.replicate 112 9 ++ List.replicate 24 7 ++ List.replicate 8 8)

def fixedDist : Huff := huffOf (List.replicate 30 5)

/-- The order in which a dynamic block gives the lengths of its length code: the repeats and 0, then from 8 outwards. -/
def clenOrder : List Nat := [16, 17, 18, 0, 8] ++ (List.range 7).flatMap fun k => [7 - k, 9 + k]

/-- Code lengths of a dynamic block, until there are so many. -/
def readLens (b : BitSrc) (h : Huff) (want : Nat) : Nat → List Nat → Dec (List Nat)
  | 0, _ => throw .bad
  | n + 1, got =>
    if want ≤ got.length then pure got
    else do
      let s ← h.next b
      if s < 16 then readLens b h want n (got ++ [s])
      else
        Dec.need (s != 16 || !got.isEmpty)
        let k ← b.take (if s = 16 then 2 else if s = 17 then 3 else 7)
        let times := if s = 16 then 3 + k else if s = 17 then 3 + k else 11 + k
        Dec.need (decide (got.length + times ≤ want))
        readLens b h want n (got ++ List.replicate times (if s = 16 then got.getLastD 0 else 0))

def takeMany (b : BitSrc) (k : Nat) : Nat → Dec (List Nat)
  | 0 => pure []
  | n + 1 => do
    let x ← b.take k
    let t ← takeMany b k n
    pure (x :: t)

def inflateDynamic (b : BitSrc) (base : Nat) : Dec Unit := do
  let nlen := (← b.take 5) + 257
  let ndist := (← b.take 5) + 1
  let ncode := (← b.take 4) + 4
  Dec.need (decide (nlen ≤ 286 ∧ ndist ≤ 30))
  let cl ← takeMany b 3 ncode
  let at_ := clenOrder.zip cl
  let ch := huffOf ((List.range 19).map fun s => ((at_.find? fun e => e.1 == s).map (·.2)).getD 0)
  Dec.need (ch.left == some 0)
  let lens ← readLens b ch (nlen + ndist) (nlen + ndist + 1) []
  let lit := huffOf (lens.take nlen)
  let dist := huffOf (lens.drop nlen)
  Dec.need (lens.getD 256 0 != 0 && lit.sound && dist.sound)
  inflateSyms b base lit dist (b.bits + 1)

def inflateStored (b : BitSrc) : Dec Unit := do
  Dec.align
  let len ← b.bytes 2
  let not_ ← b.bytes 2
  Dec.need (len + not_ == 0xFFFF)
  let here := (b.bits - (← get).pos) / 8
  Dec.puts (← b.byteList (min len here))
  if here < len then throw .short

/-- The blocks of a DEFLATE stream, to the end of its last byte. -/
def inflateBlocks (b : BitSrc) (base : Nat) : Nat → Dec Unit
  | 0 => throw .bad
  | n + 1 => do
    let last ← b.take 1
    let type ← b.take 2
    match type with
    | 0 => inflateStored b
    | 1 => inflateSyms b base fixedLit fixedDist (b.bits + 1)
    | 2 => inflateDynamic b base
    | _ => throw .bad
    if last = 1 then Dec.align else inflateBlocks b base n

def inflateRaw (b : BitSrc) : Dec (List Byte) := do
  let base := (← get).out.size
  inflateBlocks b base (b.bits + 1)
  pure ((← get).out.toList.drop base)

/-! ### zlib and gzip -/

/-- Adler-32 (RFC 1950). -/
def adler32 (bs : List Byte) : Nat :=
  let r := bs.foldl (fun (p : Nat × Nat) x => let a := (p.1 + x.toNat) % 65521; (a, (p.2 + a) % 65521)) (1, 0)
  r.2 * 65536 + r.1

/-- CRC-32 by the row of R236's examples. -/
def crc32 (bs : List Byte) : Nat :=
  checkValue { poly := 0x04C11DB7, init := 0xFFFFFFFF, width := 32, refin := true, refout := true, invert := true, big := false } bs

/-- zlib: FDICT = 1 is unsupported (R225). -/
def inflateZlib (b : BitSrc) : Dec Unit := do
  let cmf ← b.bytes 1
  let flg ← b.bytes 1
  Dec.need (decide (cmf % 16 = 8 ∧ cmf / 16 ≤ 7 ∧ (256 * cmf + flg) % 31 = 0 ∧ flg / 32 % 2 = 0))
  let out ← inflateRaw b
  let sum ← b.byteList 4
  Dec.verify (natOfBytes sum.reverse) (adler32 out)

/-- Skip a string to its zero byte. -/
def skipString (b : BitSrc) : Nat → Dec Unit
  | 0 => throw .short
  | n + 1 => do
    let x ← b.bytes 1
    if x = 0 then pure () else skipString b n

/-- One gzip member: FEXTRA, FNAME and FCOMMENT are skipped, FHCRC is checked (R225). -/
def inflateMember (b : BitSrc) : Dec Unit := do
  let start := (← get).pos / 8
  let id ← b.bytes 2
  Dec.need (id == 0x8B1F)
  let cm ← b.bytes 1
  let flg ← b.bytes 1
  Dec.need (cm == 8 && decide (flg < 32))
  let _ ← b.bytes 6
  if flg.testBit 2 then
    let n ← b.bytes 2
    let _ ← b.bytes n
  if flg.testBit 3 then skipString b b.bits
  if flg.testBit 4 then skipString b b.bits
  if flg.testBit 1 then
    let here := (← get).pos / 8
    let head := bytesOfNat (here - start) (b.num >>> (8 * start) % 2 ^ (8 * (here - start)))
    let sum ← b.bytes 2
    Dec.need (sum == crc32 head % 65536)
  let out ← inflateRaw b
  let sum ← b.bytes 4
  let size ← b.bytes 4
  Dec.verify sum (crc32 out)
  Dec.verify size (out.length % 2 ^ 32)

/-- Concatenated members are one job (R225); what follows them is not consumed (R227). -/
def inflateMembers (b : BitSrc) : Nat → Dec Unit
  | 0 => pure ()
  | n + 1 => do
    inflateMember b
    let p := (← get).pos
    if p + 16 ≤ b.bits ∧ b.num >>> p % 65536 = 0x8B1F then inflateMembers b n else pure ()

/-- Decompression of format 1, 2 or 3. -/
def inflate (fmt : Nat) (bs : List Byte) : EStateM.Result Halt DecSt Unit :=
  let b := bitSrc bs
  let d : Dec Unit := match fmt with
    | 1 => do let _ ← inflateRaw b
    | 2 => inflateZlib b
    | _ => inflateMembers b (bs.length + 1)
  d.run {}

/-! ### Making streams -/

/-- Stored blocks of up to 65,535 bytes each. -/
def storedBlocks : Nat → List Byte → List Byte
  | 0, _ => []
  | n + 1, bs =>
    let k := min bs.length 65535
    [if bs.length ≤ 65535 then 1#8 else 0#8] ++ bytesOfNat 2 k ++ bytesOfNat 2 (65535 - k) ++ bs.take k ++
      (if bs.length ≤ 65535 then [] else storedBlocks n (bs.drop k))

/-- Whether bytes are one DEFLATE stream of the input and nothing more. -/
def deflates (d bs : List Byte) : Bool :=
  match inflate 1 d with
  | .ok _ s => s.out.toList == bs && s.pos == 8 * d.length
  | .error _ _ => false

/-- The DEFLATE stream of the family's compressor (R222: free, but a stream of this input). -/
def deflateBody (level : Nat) (bs : List Byte) : List Byte :=
  let d := Config.deflate (lzParse level 258 32768 bs)
  if deflates d bs then d else storedBlocks (bs.length + 1) bs

/-- FLEVEL and FCHECK of a zlib stream (R225). -/
def zlibFlg (level : Nat) : Nat :=
  let f := if level = 1 then 0 else if level ≤ 5 then 64 else if level = 6 then 128 else 192
  f + (31 - (256 * 0x78 + f) % 31) % 31

/-- A whole stream of format 1, 2 or 3 (R225). -/
def deflateStream (fmt level : Nat) (bs : List Byte) : List Byte :=
  let d := deflateBody level bs
  match fmt with
  | 1 => d
  | 2 => [0x78#8, BitVec.ofNat 8 (zlibFlg level)] ++ d ++ (bytesOfNat 4 (adler32 bs)).reverse
  | _ =>
    [0x1F#8, 0x8B#8, 8#8, 0#8, 0#8, 0#8, 0#8, 0#8, if level = 9 then 2#8 else if level = 1 then 4#8 else 0#8, 0xFF#8] ++ d ++
      bytesOfNat 4 (crc32 bs) ++ bytesOfNat 4 (bs.length % 2 ^ 32)

end Sys2Proof.Machine
end

