-- ==== Sys2Proof/Machine/Zstd.lean ====
section
/-!
DEFINITION. Decompression of Zstandard frames (R225 to R228; the format is that of RFC 8878, PRESUMED, log 84).
-/
namespace Sys2Proof.Machine

/-! ### XXH64 -/

abbrev W64 := BitVec 64

def xxP (i : Nat) : W64 :=
  [0x9E3779B185EBCA87#64, 0xC2B2AE3D27D4EB4F#64, 0x165667B19E3779F9#64, 0x85EBCA77C2B2AE63#64, 0x27D4EB2F165667C5#64].getD (i - 1) 0#64

def le64 (bs : List Byte) (off n : Nat) : W64 := BitVec.ofNat 64 (natOfBytes ((bs.drop off).take n))

def xxRound (acc x : W64) : W64 := (acc + x * xxP 2).rotateLeft 31 * xxP 1

def xxStripes : Nat → List Byte → List W64 → List W64 × List Byte
  | 0, bs, v => (v, bs)
  | n + 1, bs, v =>
    xxStripes n (bs.drop 32) ((List.range 4).map fun i => xxRound (v.getD i 0#64) (le64 bs (8 * i) 8))

def xxTail : Nat → List Byte → W64 → W64
  | 0, _, h => h
  | n + 1, bs, h =>
    if 8 ≤ bs.length then xxTail n (bs.drop 8) ((h ^^^ xxRound 0#64 (le64 bs 0 8)).rotateLeft 27 * xxP 1 + xxP 4)
    else if 4 ≤ bs.length then xxTail n (bs.drop 4) ((h ^^^ le64 bs 0 4 * xxP 1).rotateLeft 23 * xxP 2 + xxP 3)
    else if bs.isEmpty then h
    else xxTail n (bs.drop 1) ((h ^^^ le64 bs 0 1 * xxP 5).rotateLeft 11 * xxP 1)

/-- XXH64 with seed 0 (R226). -/
def xxh64 (bs : List Byte) : W64 :=
  let (v, rest) := xxStripes (bs.length / 32) bs [xxP 1 + xxP 2, xxP 2, 0#64, 0#64 - xxP 1]
  let merge (h x : W64) : W64 := (h ^^^ xxRound 0#64 x) * xxP 1 + xxP 4
  let h0 : W64 :=
    if bs.length < 32 then xxP 5
    else v.foldl merge ((v.getD 0 0#64).rotateLeft 1 + (v.getD 1 0#64).rotateLeft 7 + (v.getD 2 0#64).rotateLeft 12 +
      (v.getD 3 0#64).rotateLeft 18)
  let h := xxTail (rest.length + 1) rest (h0 + BitVec.ofNat 64 bs.length)
  let h := (h ^^^ h >>> 33) * xxP 2
  let h := (h ^^^ h >>> 29) * xxP 3
  h ^^^ h >>> 32

/-! ### Backward bit streams -/

/-- A stream read from its end: what is left is the low bits of a number. -/
structure Back where
  num  : Nat
  left : Nat
  deriving DecidableEq, Repr

/-- The highest set bit of the last byte marks the end. -/
def backOf (bs : List Byte) : Option Back :=
  match bs.getLast? with
  | some b => if b = 0#8 then none else some { num := natOfBytes bs, left := Nat.log2 (natOfBytes bs) }
  | none => none

/-- The next k bits, those past the beginning as zeros. -/
def Back.peek (s : Back) (k : Nat) : Nat :=
  if k ≤ s.left then s.num >>> (s.left - k) % 2 ^ k else (s.num % 2 ^ s.left) <<< (k - s.left)

/-- Take k bits: none where the stream has fewer. -/
def Back.take (s : Back) (k : Nat) : Option (Nat × Back) :=
  if k ≤ s.left then some (s.peek k, { s with left := s.left - k }) else none

/-! ### FSE -/

/-- A state of a table: symbol, bits to read, and the base of the next state. -/
structure FseCell where
  sym  : Nat
  bits : Nat
  base : Nat
  deriving DecidableEq, Repr, Inhabited

structure Fse where
  log   : Nat
  cells : Array FseCell
  deriving DecidableEq, Repr

def fseSpread (size : Nat) (top : Nat) (step : Nat) : List Nat → Nat → Array Nat → Array Nat
  | [], _, a => a
  | s :: t, pos, a =>
    let next := (List.range size).foldl (fun (p : Nat × Bool) _ =>
      if p.2 then p else let q := (p.1 + step) % size; (q, decide (q < top))) (pos, false)
    fseSpread size top step t next.1 (a.set! pos s)

/-- The table of normalized counts, -1 for less than one. -/
def fseOf (log : Nat) (norm : List Int) : Fse :=
  let size := 2 ^ log
  let low := (List.range norm.length).filter fun s => norm.getD s 0 == -1
  let top := size - low.length
  let a0 : Array Nat := (List.replicate top 0 ++ low.reverse).toArray
  let many := (List.range norm.length).flatMap fun s => List.replicate (norm.getD s 0).toNat s
  let syms := fseSpread size top (size / 2 + size / 8 + 3) many 0 a0
  let fill := syms.foldl (fun (p : Array FseCell × AMap Nat) s =>
    let x := (mget p.2 s).getD (if norm.getD s 0 = -1 then 1 else (norm.getD s 0).toNat)
    let nb := log - Nat.log2 x
    (p.1.push { sym := s, bits := nb, base := x * 2 ^ nb - size }, mset p.2 s (x + 1))) (#[], [])
  { log := log, cells := fill.1 }

def fseRle (s : Nat) : Fse := { log := 0, cells := #[{ sym := s, bits := 0, base := 0 }] }

def fseZeros (b : BitSrc) : Nat → List Int → Dec (List Int)
  | 0, got => pure got
  | n + 1, got => do
    let k ← b.take 2
    let g := got ++ List.replicate k 0
    if k = 3 then fseZeros b n g else pure g

def fseCounts (b : BitSrc) (most : Nat) : Nat → Nat → List Int → Dec (List Int)
  | 0, _, _ => throw .bad
  | n + 1, remaining, got =>
    if remaining = 0 then pure got
    else do
      Dec.need (decide (got.length < most))
      let bits := Nat.log2 (remaining + 1) + 1
      let limit := 2 ^ bits - 1 - (remaining + 1)
      let low ← b.take (bits - 1)
      let v ← if low < limit then pure low else do
        let hi ← b.take 1
        pure (if hi = 1 then low + 2 ^ (bits - 1) - limit else low)
      let p : Int := (v : Int) - 1
      let used := if v = 0 then 1 else v - 1
      Dec.need (decide (used ≤ remaining))
      if v = 1 then
        let g ← fseZeros b (most + 1) (got ++ [p])
        fseCounts b most n remaining g
      else fseCounts b most n (remaining - used) (got ++ [p])

/-- A table description, to a byte boundary. -/
def fseRead (b : BitSrc) (maxLog most : Nat) : Dec Fse := do
  let log := (← b.take 4) + 5
  Dec.need (decide (log ≤ maxLog))
  let norm ← fseCounts b most (2 * most + 2) (2 ^ log) []
  Dec.need (decide (norm.length ≤ most))
  Dec.align
  pure (fseOf log norm)

def Fse.at (f : Fse) (s : Nat) : FseCell := f.cells.getD s { sym := 0, bits := 0, base := 0 }

/-! ### Literals -/

/-- A table of a code of at most so many bits: symbol and length by the next bits. -/
structure ZHuff where
  log   : Nat
  cells : Array (Nat × Nat)
  deriving DecidableEq, Repr

/-- The table that weights give; the last weight makes it complete. -/
def zhuffOf (ws : List Nat) : Option ZHuff :=
  let sum := (ws.map fun w => if w = 0 then 0 else 2 ^ (w - 1)).sum
  if sum = 0 then none
  else
    let log := Nat.log2 sum + 1
    let left := 2 ^ log - sum
    if 11 < log ∨ 2 ^ Nat.log2 left ≠ left then none
    else
      let all := ws ++ [Nat.log2 left + 1]
      let cells := (List.range log).flatMap fun k =>
        ((List.range all.length).filter fun s => all.getD s 0 == k + 1).flatMap fun s => List.replicate (2 ^ k) (s, log - k)
      some { log := log, cells := cells.toArray }

def fseWeights (f : Fse) : Nat → Back → Nat → Nat → List Nat → List Nat
  | 0, _, _, _, got => got
  | n + 1, s, a, other, got =>
    let c := f.at a
    let g := got ++ [c.sym]
    if s.left < c.bits then g ++ [(f.at other).sym]
    else fseWeights f n { s with left := s.left - c.bits } other (c.base + s.peek c.bits) g

/-- A description of a code for literals. -/
def zhuffRead (b : BitSrc) : Dec ZHuff := do
  let h ← b.bytes 1
  let ws ← if 128 ≤ h then do
      let n := h - 127
      let bs ← b.byteList (ceilDiv n 2)
      pure ((bs.flatMap fun x => [x.toNat / 16, x.toNat % 16]).take n)
    else do
      let p := (← get).pos
      let f ← fseRead b 6 256
      let q := (← get).pos
      Dec.need (decide (q ≤ p + 8 * h))
      let bs ← b.byteList (h - (q - p) / 8)
      match backOf bs with
      | none => throw .bad
      | some s =>
        match s.take f.log with
        | none => throw .bad
        | some (a, s) =>
          match s.take f.log with
          | none => throw .bad
          | some (c, s) => pure (fseWeights f 256 s a c [])
  match zhuffOf ws with
  | some t => do
    Dec.need (decide (ws.length ≤ 255))
    pure t
  | none => throw .bad

def zhuffSyms (t : ZHuff) : Nat → Back → List Byte → Option (List Byte)
  | 0, s, out => if s.left = 0 then some out else none
  | n + 1, s, out =>
    let (sym, len) := t.cells.getD (s.peek t.log) (0, 0)
    if s.left < len then none else zhuffSyms t n { s with left := s.left - len } (BitVec.ofNat 8 sym :: out)

/-- One stream of literals of a known number. -/
def zhuffStream (t : ZHuff) (n : Nat) (bs : List Byte) : Option (List Byte) :=
  (backOf bs).bind fun s => (zhuffSyms t n s []).map List.reverse

/-! ### Blocks -/

/-- What one block leaves to the next: code of literals, tables of literal lengths, offsets and match lengths, repeat offsets. -/
structure ZState where
  huff : Option ZHuff := none
  ll   : Option Fse := none
  off  : Option Fse := none
  ml   : Option Fse := none
  rep  : Nat × Nat × Nat := (1, 4, 8)

def zBlockMax : Nat := 131072

def zOrBad {α : Type} (o : Option α) : Dec α := match o with
  | some a => pure a
  | none => throw .bad

def zLiterals (b : BitSrc) (z : ZState) : Dec (List Byte × ZState) := do
  let h ← b.bytes 1
  let type := h % 4
  let form := h / 4 % 4
  if type < 2 then
    let size ← if form % 2 = 0 then pure (h / 8)
      else if form = 1 then do pure (h / 16 + 16 * (← b.bytes 1))
      else do pure (h / 16 + 16 * (← b.bytes 2))
    Dec.need (decide (size ≤ zBlockMax))
    if type = 0 then do pure (← b.byteList size, z)
    else do
      let x ← b.bytes 1
      pure (List.replicate size (BitVec.ofNat 8 x), z)
  else
    let width := if form < 2 then 10 else if form = 2 then 14 else 18
    let more ← b.bytes (if form < 2 then 2 else if form = 2 then 3 else 4)
    let v := h / 16 + 16 * more
    let regen := v % 2 ^ width
    let comp := v / 2 ^ width
    Dec.need (decide (regen ≤ zBlockMax))
    let p := (← get).pos
    let t ← if type = 2 then zhuffRead b else zOrBad z.huff
    let q := (← get).pos
    Dec.need (decide (q ≤ p + 8 * comp))
    let bs ← b.byteList (comp - (q - p) / 8)
    let lits ← if form = 0 then zOrBad (zhuffStream t regen bs)
      else do
        let a := natOfBytes (bs.take 2)
        let c := natOfBytes ((bs.drop 2).take 2)
        let d := natOfBytes ((bs.drop 4).take 2)
        Dec.need (decide (6 + a + c + d ≤ bs.length ∧ 6 ≤ regen))
        let each := ceilDiv regen 4
        Dec.need (decide (3 * each ≤ regen))
        let s1 ← zOrBad (zhuffStream t each ((bs.drop 6).take a))
        let s2 ← zOrBad (zhuffStream t each ((bs.drop (6 + a)).take c))
        let s3 ← zOrBad (zhuffStream t each ((bs.drop (6 + a + c)).take d))
        let s4 ← zOrBad (zhuffStream t (regen - 3 * each) (bs.drop (6 + a + c + d)))
        pure (s1 ++ s2 ++ s3 ++ s4)
    pure (lits, { z with huff := some t })

/-- Least value and extra bits of the k-th code behind those that stand for themselves. -/
def codeBase (first : Nat) (bits : List Nat) (k : Nat) : Nat × Nat := (first + ((bits.take k).map (2 ^ ·)).sum, bits.getD k 0)

def llBase (c : Nat) : Nat × Nat :=
  if c < 16 then (c, 0) else codeBase 16 ([1, 1, 1, 1, 2, 2, 3, 3, 4] ++ (List.range 11).map (· + 6)) (c - 16)
def mlBase (c : Nat) : Nat × Nat :=
  if c < 32 then (c + 3, 0) else codeBase 35 ([1, 1, 1, 1, 2, 2, 3, 3, 4, 4, 5] ++ (List.range 10).map (· + 7)) (c - 32)

/-- The predefined tables of literal lengths, match lengths and offsets, by runs of one count. -/
def runs (l : List (Nat × Int)) : List Int := l.flatMap fun e => List.replicate e.1 e.2
def llDefault : Fse := fseOf 6 (runs [(1, 4), (1, 3), (11, 2), (3, 1), (9, 2), (1, 3), (1, 2), (5, 1), (4, -1)])
def mlDefault : Fse := fseOf 6 (runs [(1, 1), (1, 4), (1, 3), (6, 2), (37, 1), (7, -1)])
def offDefault : Fse := fseOf 5 (runs [(6, 1), (3, 2), (15, 1), (5, -1)])

/-- The table that a mode selects: predefined, one symbol, described here, or the previous one. -/
def zTable (b : BitSrc) (mode maxLog most : Nat) (dflt : Fse) (prev : Option Fse) : Dec Fse := do
  match mode with
  | 0 => pure dflt
  | 1 =>
    let s ← b.bytes 1
    Dec.need (decide (s < most))
    pure (fseRle s)
  | 2 => fseRead b maxLog most
  | _ => zOrBad prev

/-- The offset of a sequence and the repeat offsets after it. -/
def zOffset (rep : Nat × Nat × Nat) (v ll : Nat) : Nat × (Nat × Nat × Nat) :=
  let (a, b, c) := rep
  if 3 < v then (v - 3, (v - 3, a, b))
  else
    match (if ll = 0 then v + 1 else v) with
    | 1 => (a, rep)
    | 2 => (b, (b, a, c))
    | 3 => (c, (c, a, b))
    | _ => (a - 1, (a - 1, a, b))

/-- Run the sequences of a block: literals, then a match; far is how far back a match may reach beyond the output. -/
def zSequences (ll off ml : Fse) : Nat → Back → Nat → Nat → Nat → List Byte → Nat × Nat × Nat → Dec (List Byte × (Nat × Nat × Nat))
  | 0, s, _, _, _, lits, rep => do
    Dec.need (s.left == 0)
    pure (lits, rep)
  | n + 1, s, a, o, m, lits, rep => do
    let oc := (off.at o).sym
    let (e, s) ← zOrBad (s.take oc)
    let (mb, mx) := mlBase (ml.at m).sym
    let (me, s) ← zOrBad (s.take mx)
    let (lb, lx) := llBase (ll.at a).sym
    let (le, s) ← zOrBad (s.take lx)
    let lit := lb + le
    let (dist, rep) := zOffset rep (2 ^ oc + e) lit
    Dec.need (decide (lit ≤ lits.length))
    Dec.puts (lits.take lit)
    let st ← get
    Dec.need (decide (0 < dist ∧ dist ≤ st.out.size))
    Dec.copy dist (mb + me)
    if n = 0 then zSequences ll off ml 0 s a o m (lits.drop lit) rep
    else
      let (x, s) ← zOrBad (s.take (ll.at a).bits)
      let (y, s) ← zOrBad (s.take (ml.at m).bits)
      let (w, s) ← zOrBad (s.take (off.at o).bits)
      zSequences ll off ml n s ((ll.at a).base + x) ((off.at o).base + w) ((ml.at m).base + y) (lits.drop lit) rep

/-- A compressed block of so many bytes. -/
def zBlock (b : BitSrc) (size : Nat) (z : ZState) : Dec ZState := do
  let start := (← get).pos
  let (lits, z) ← zLiterals b z
  let h ← b.bytes 1
  let n ← if h < 128 then pure h
    else if h < 255 then do pure ((h - 128) * 256 + (← b.bytes 1))
    else do pure ((← b.bytes 2) + 0x7F00)
  if n = 0 then
    Dec.need ((← get).pos == start + 8 * size)
    Dec.puts lits
    pure z
  else
    let modes ← b.bytes 1
    Dec.need (modes % 4 == 0)
    let ll ← zTable b (modes / 64) 9 36 llDefault z.ll
    let off ← zTable b (modes / 16 % 4) 8 32 offDefault z.off
    let ml ← zTable b (modes / 4 % 4) 9 53 mlDefault z.ml
    let p := (← get).pos
    Dec.need (decide (p ≤ start + 8 * size))
    let bs ← b.byteList (size - (p - start) / 8)
    let s ← zOrBad (backOf bs)
    let (a, s) ← zOrBad (s.take ll.log)
    let (o, s) ← zOrBad (s.take off.log)
    let (m, s) ← zOrBad (s.take ml.log)
    let (rest, rep) ← zSequences ll off ml n s a o m lits z.rep
    Dec.puts rest
    pure { z with ll := some ll, off := some off, ml := some ml, rep := rep }

def zBlocks (b : BitSrc) (most : Nat) : Nat → ZState → Dec Unit
  | 0, _ => throw .bad
  | n + 1, z => do
    let h ← b.bytes 3
    let size := h / 8
    Dec.need (decide (size ≤ most ∨ h / 2 % 4 = 1 ∧ size ≤ zBlockMax))
    let before := (← get).out.size
    let z ← match h / 2 % 4 with
      | 0 => do
        Dec.puts (← b.byteList size)
        pure z
      | 1 => do
        let x ← b.bytes 1
        Dec.puts (List.replicate size (BitVec.ofNat 8 x))
        pure z
      | 2 => do
        let p := (← get).pos
        if b.bits < p + 8 * size then throw .short
        let z ← zBlock { b with num := b.num % 2 ^ (p + 8 * size), bits := p + 8 * size } size z
        pure z
      | _ => throw .bad
    let after := (← get).out.size
    Dec.need (decide (after - before ≤ most))
    if h % 2 = 1 then pure () else zBlocks b most n z

/-! ### Frames -/

/-- A dictionary: its ID, what its tables set up, and its content. Without the magic number it is content only. -/
structure ZDict where
  id      : Nat := 0
  state   : ZState := {}
  content : List Byte := []

/-- Read a dictionary; none where it is malformed. -/
def zDict (bs : List Byte) : Option ZDict :=
  if natOfBytes (bs.take 4) ≠ 0xEC30A437 then some { content := bs }
  else
    let b := bitSrc bs
    let d : Dec ZDict := do
      let _ ← b.bytes 4
      let id ← b.bytes 4
      let h ← zhuffRead b
      let off ← fseRead b 8 32
      let ml ← fseRead b 9 53
      let ll ← fseRead b 9 36
      let r1 ← b.bytes 4
      let r2 ← b.bytes 4
      let r3 ← b.bytes 4
      let p := (← get).pos / 8
      pure { id := id, state := { huff := some h, ll := some ll, off := some off, ml := some ml, rep := (r1, r2, r3) }, content := bs.drop p }
    match d.run {} with
    | .ok v _ => some v
    | .error _ _ => none

def zMagic : Nat := 0xFD2FB528

/-- Run on an output of its own that begins with some bytes; what was there before stays in front, those bytes are dropped. -/
def zApart (own : List Byte) (d : Dec Unit) : Dec Unit := fun s =>
  let back (t : DecSt) : DecSt := { t with out := s.out ++ (t.out.toList.drop own.length).toArray }
  match d { s with out := own.toArray } with
  | .ok a t => .ok a (back t)
  | .error e t => .error e (back t)

/-- One frame: its matches reach no further back than the dictionary (R225, R226). -/
def zFrame (b : BitSrc) (dict : Option ZDict) : Dec Unit := do
  let fhd ← b.bytes 1
  Dec.need (fhd / 8 % 2 == 0)
  let single := fhd / 32 % 2 == 1
  let win ← if single then pure none else do
    let w ← b.bytes 1
    let base := 2 ^ (10 + w / 8)
    pure (some (base + base / 8 * (w % 8)))
  let id ← b.bytes ([0, 1, 2, 4].getD (fhd % 4) 0)
  let fcs ← match fhd / 64 with
    | 0 => if single then do pure (some (← b.bytes 1)) else pure none
    | 1 => do pure (some ((← b.bytes 2) + 256))
    | 2 => do pure (some (← b.bytes 4))
    | _ => do pure (some (← b.bytes 8))
  let window := win.getD (fcs.getD 0)
  Dec.need (decide (window ≤ 2 ^ 31))
  let d := dict.getD {}
  Dec.need (id == 0 || (dict.isSome && d.id == id))
  let before := (← get).out.size
  zApart d.content (zBlocks b (min window zBlockMax) (b.bits + 1) d.state)
  let out := (← get).out.toList.drop before
  match fcs with
  | some n => Dec.verify (n % 2 ^ 32) (out.length % 2 ^ 32)
  | none => pure ()
  if fhd / 4 % 2 = 1 then
    let sum ← b.bytes 4
    Dec.verify sum ((xxh64 out).toNat % 2 ^ 32)

/-- Frames and skippable frames, one after another (R225); what follows them is not consumed (R227). -/
def zFrames (b : BitSrc) (dict : Option ZDict) : Nat → Bool → Dec Unit
  | 0, _ => throw .bad
  | n + 1, first => do
    let s ← get
    let avail := b.bits - s.pos
    let m := b.num >>> s.pos % 2 ^ 32
    let skippable := m / 16 == 0x184D2A5
    if avail < 32 then
      if first then throw .short else pure ()
    else if m = zMagic then do
      let _ ← b.bytes 4
      zFrame b dict
      zFrames b dict n false
    else if skippable then do
      let _ ← b.bytes 4
      let k ← b.bytes 4
      let _ ← b.bytes k
      zFrames b dict n false
    else if first then throw .bad else pure ()

/-- Decompression of format 4 with an optional dictionary. -/
def unzstd (dict : Option (List Byte)) (bs : List Byte) : EStateM.Result Halt DecSt Unit :=
  match dict with
  | none => (zFrames (bitSrc bs) none (bs.length + 1) true).run {}
  | some d =>
    match zDict d with
    | none => .error .bad {}
    | some z => (zFrames (bitSrc bs) (some z) (bs.length + 1) true).run {}

/-! ### Making frames -/

/-- Raw blocks of up to 128 KiB. -/
def rawBlocks : Nat → List Byte → List Byte
  | 0, _ => []
  | n + 1, bs =>
    let k := min bs.length zBlockMax
    bytesOfNat 3 ((if bs.length ≤ zBlockMax then 1 else 0) + 8 * k) ++ bs.take k ++
      (if bs.length ≤ zBlockMax then [] else rawBlocks n (bs.drop k))

/-- The frame header that R225 asks for: the content size, the checksum, one segment up to 8 MiB and an 8 MiB window above. -/
def zHeader (n : Nat) : List Byte :=
  let single := decide (n ≤ 8 * 1024 * 1024)
  bytesOfNat 4 zMagic ++ [if single then 0xE4#8 else 0xC4#8] ++ (if single then [] else [0x68#8]) ++ bytesOfNat 8 n

/-- Whether bytes are one such frame of the input, by the header descriptor, and nothing more (R225). -/
def isFrame (d bs : List Byte) : Bool :=
  let fhd := natOfBytes ((d.drop 4).take 1)
  let single := decide (bs.length ≤ 8 * 1024 * 1024)
  let shape := natOfBytes (d.take 4) == zMagic && fhd / 4 % 2 == 1 && fhd % 4 == 0 && (fhd / 32 % 2 == 1) == single &&
    (single || (decide (64 ≤ fhd) && (d.drop 5).head? == some 0x68#8))
  match unzstd none d with
  | .ok _ s => shape && s.out.toList == bs && s.wrong.isEmpty && s.pos == 8 * d.length
  | .error _ _ => false

/-- The frame of the family's compressor (R222: free, but a frame of this input). -/
def zstdStream (level : Nat) (bs : List Byte) : List Byte :=
  let d := Config.zstdFrame (lzParse level bs.length (2 ^ 23) bs)
  if isFrame d bs then d
  else zHeader bs.length ++ rawBlocks (bs.length + 1) bs ++ bytesOfNat 4 ((xxh64 bs).toNat % 2 ^ 32)

end Sys2Proof.Machine
end

