-- ==== Sys2Proof/Machine/Transform.lean ====
section
/-!
DEFINITION. Transform instructions: COMPRESS, DECOMPRESS, CHECK, HASH, BYTESWAP (R225 to R236, R334 to R340).
-/
namespace Sys2Proof.Machine

/-! ### Stream jobs -/

def saveLen : Nat := 34816

/-- A job descriptor (R334). -/
structure Job where
  dlen    : Nat
  level   : Nat
  resume  : Bool
  chain   : Option (Nat × Nat × Nat)
  saveIn  : Option (Nat × Nat)
  saveOut : Option (Nat × Nat)
  dict    : Option (Nat × Nat × Nat)
  deriving DecidableEq, Repr

/-- Read a job descriptor: none where it is malformed (R334, R335). -/
def jobOf (bs : List Byte) (fmt : Nat) (decomp : Bool) : Option Job :=
  let b (i : Nat) : Nat := fieldAt bs i 1
  let level := b 4
  let resume := (b 5).testBit 0
  let needs := decide (1 ≤ fmt ∧ fmt ≤ 3) || (decomp && fmt == 4)
  let j : Job := {
    dlen := fieldAt bs 0 4, level := level, resume := resume,
    chain := (handleOf (b 6)).map fun h => (h, fieldAt bs 8 8, fieldAt bs 16 4),
    saveIn := if resume && needs then (handleOf (b 7)).map fun h => (h, fieldAt bs 24 8) else none,
    saveOut := if needs then (handleOf (b 21)).map fun h => (h, fieldAt bs 48 8) else none,
    dict := (handleOf (b 20)).map fun h => (h, fieldAt bs 32 8, fieldAt bs 40 4) }
  if b 5 < 2 ∧ zeroAt bs 22 2 ∧ zeroAt bs 44 4 ∧ zeroAt bs 56 8 ∧ handleOk (b 6) ∧ handleOk (b 7) ∧ handleOk (b 20) ∧
      handleOk (b 21) ∧ (if decomp then level = 0 else 1 ≤ level ∧ level ≤ 9) ∧ (needs → j.saveOut.isSome) ∧
      (needs → resume → j.saveIn.isSome) ∧ (j.dict.isSome → decomp ∧ fmt = 4) then some j else none

/-- The bytes of a save area (R231): the fields the layout gives, then the unit's own. -/
def saveBytes (fmt : Nat) (decomp : Bool) (inTotal outTotal : Nat) (own : List Byte) : List Byte :=
  [BitVec.ofNat 8 fmt, if decomp then 1#8 else 0#8, 1#8] ++ List.replicate 5 0#8 ++ bytesOfNat 8 inTotal ++ bytesOfNat 8 outTotal ++
    (own ++ List.replicate saveLen 0#8).take (saveLen - 24)

/-- How a stream job ends. -/
structure JobEnd where
  used   : Nat
  out    : List Byte
  status : Nat := 0
  stored : Nat := 0
  comp   : Nat := 0
  own    : List Byte := []

/-- Take whole pieces of output while they fit, with the input each stands for. -/
def takePieces (space : Nat) : List (Nat × List Byte) → Nat → List Byte → JobEnd
  | [], used, out => { used := used, out := out }
  | (n, p) :: t, used, out =>
    if out.length + p.length ≤ space then takePieces space t (used + n) (out ++ p) else { used := used, out := out, status := 0x0102 }

/-- The blocks of an input: 1,024 bytes each, the last one shorter. -/
def blocksOf : Nat → List Byte → List (List Byte)
  | 0, _ => []
  | _, [] => []
  | n + 1, bs => bs.take 1024 :: blocksOf n (bs.drop 1024)

/-- Native compression (R206) of an input of which these are the first bytes: header, blocks, and a trailer where they are all of
it; a restart begins at a block (R232). -/
def nativeEncode (level : Nat) (resume : Bool) (n : Nat) (bs : List Byte) (space : Nat) : JobEnd :=
  let whole := if bs.length = n then bs else bs.take (1024 * (bs.length / 1024))
  let blocks := (blocksOf (whole.length + 1) whole).map fun b => (b.length, encodeBlock level b)
  let head := if resume then [] else [(0, nativeMagic ++ List.replicate 4 0#8 ++ bytesOfNat 8 n)]
  let check := if resume then Config.resumedCheck bs else crc32c bs
  takePieces space (head ++ blocks ++ (if bs.length = n then [(0, bytesOfNat 4 check)] else [])) 0 []

/-- Native decompression from a block on: left is what remains of the stream, none where a restart does not know it; there the trailer is
what stands where exactly four input bytes are left (R232 does not say: DESIGN CHOICE, log 33). -/
def nativeBlocks (space : Nat) : Nat → Option Nat → List Byte → JobEnd → JobEnd
  | 0, _, _, e => e
  | n + 1, left, bs, e =>
    if left = some 0 ∨ (left = none ∧ bs.length = 4) then
      if bs.length < 4 then { e with status := 0x0103 }
      else
        let stored := natOfBytes (bs.take 4)
        let comp := if left.isNone then Config.resumedCheck e.out else crc32c e.out
        let e1 : JobEnd := { e with used := e.used + 4 }
        if e1.status ≠ 0 then e1
        else if stored = comp % 2 ^ 32 then e1 else { e1 with status := 0x0212, stored := stored, comp := comp % 2 ^ 32 }
    else
      let cap := match left with
        | some k => min k 1024
        | none => 1024
      match decodeBlock cap bs with
      | .bad => { e with status := 0x0211 }
      | .short => { e with status := 0x0103 }
      | .ok out used stored =>
        if left.isSome ∧ out.length ≠ cap then { e with status := 0x0211 }
        else if space < e.out.length + out.length then { e with status := 0x0102 }
        else
          let e1 : JobEnd := { e with used := e.used + used, out := e.out ++ out }
          let e2 : JobEnd := match stored with
            | some v => if e1.status = 0 then { e1 with status := 0x0212, stored := v, comp := crc32c out } else e1
            | none => e1
          nativeBlocks space n (left.map (· - out.length)) (bs.drop used) e2

def nativeDecode (resume : Bool) (bs : List Byte) (space : Nat) : JobEnd :=
  if resume then nativeBlocks space (bs.length + 1) none bs { used := 0, out := [] }
  else if bs.length < 16 then { used := 0, out := [], status := 0x0103 }
  else if bs.take 4 ≠ nativeMagic ∨ !zeroAt bs 4 4 then { used := 0, out := [], status := 0x0211 }
  else nativeBlocks space (bs.length + 1) (some (fieldAt bs 8 8)) (bs.drop 16) { used := 16, out := [] }

/-- Decompression of format 1 to 4 from its start (R225 to R230). How much input counts as consumed at a stop or a fault, and the
unit's own bytes of the save area, are free (log 33). -/
def streamDecoded (fmt : Nat) (dict : Option (List Byte)) (bs : List Byte) (space : Nat) : JobEnd :=
  let (used, _, _, _, _, own) := Config.streamDecode fmt [] (dict.getD []) bs space
  let stop (out : List Byte) (st : Nat) : JobEnd := { used := min used bs.length, out := out, status := st, own := own }
  let r := if fmt = 4 then unzstd dict bs else inflate fmt bs
  match r with
  | .ok _ s =>
    let out := s.out.toList
    if space < out.length then stop (out.take space) 0x0102
    else match s.wrong with
      | [] => { used := s.pos / 8, out := out }
      | (stored, comp) :: _ => { used := s.pos / 8, out := out, status := 0x0212, stored := stored, comp := comp }
  | .error h s =>
    let out := s.out.toList
    if space < out.length then stop (out.take space) 0x0102
    else match h with
      | .bad => stop out 0x0211
      | .short => stop out 0x0103

/-- What a unit does with the first bytes of an input of length n and so much output space. -/
def runJob (decomp : Bool) (fmt : Nat) (j : Job) (save dict : List Byte) (n : Nat) (bs : List Byte) (space : Nat) : JobEnd :=
  if fmt = 0 then (if decomp then nativeDecode j.resume bs space else nativeEncode j.level j.resume n bs space)
  else if decomp then
    if !j.resume then streamDecoded fmt (if j.dict.isSome then some dict else none) bs space
    else
      let (used, out, kind, stored, comp, own) := Config.streamDecode fmt save dict bs space
      let status := match kind with
        | 0 => 0
        | 1 => 0x0102
        | 2 => 0x0103
        | 3 => 0x0211
        | _ => 0x0212
      { used := min used bs.length, out := out.take space, status := status, stored := stored, comp := comp, own := own }
  else
    let full := if fmt = 4 then zstdStream j.level bs else deflateStream fmt j.level bs
    if !j.resume ∧ bs.length = n ∧ full.length ≤ space then { used := n, out := full }
    else
      let (used, out, own) := Config.streamEncode fmt j.level save bs space
      let k := min used bs.length
      { used := k, out := out.take space, status := if j.resume ∧ k = n ∨ bs.length < n then 0 else 0x0102, own := own }

/-- COMPRESS and DECOMPRESS (R334 to R337). -/
def streamBody (decomp : Bool) (c : Ctx) (x : Queue) (w : PWord) (v : Vals) : Eng Result := do
  let (n, high) := count32 v.c.1
  let fmt := w.mod.toNat % 8
  if v.c.1 = 0 then pure nothingDone
  else
    let src : Rng := { win := w.swin.toNat, off := v.b.1.toNat, len := n }
    let dst (len : Nat) : Rng := { win := w.dwin.toNat, off := v.a.1.toNat, len := len, right := 1 }
    let bs ← Eng.third c x w 64 [src, dst 0] high
    match jobOf bs fmt decomp with
    | none => Eng.fault 0x0214
    | some j =>
      let opt (o : Option Rng) : List Rng := o.toList
      let saveIn := opt (j.saveIn.map fun e => { win := e.1, off := e.2, len := saveLen })
      let saveOut := opt (j.saveOut.map fun e => { win := e.1, off := e.2, len := saveLen, right := 1 })
      let chain := opt (j.chain.map fun e => { win := e.1, off := e.2.1, len := 16 * e.2.2 })
      let dict := opt (j.dict.map fun e => { win := e.1, off := e.2.1, len := e.2.2 })
      let rs := [src, dst j.dlen, thirdRng w 64] ++ saveOut ++ chain ++ saveIn ++ dict
      let as ← Eng.ranges c x rs high
      let aOut := areaAt as 3
      let aChain := areaAt as (3 + saveOut.length)
      let aIn := areaAt as (3 + saveOut.length + chain.length)
      let aDict := areaAt as (3 + saveOut.length + chain.length + saveIn.length)
      let list ← if chain.isEmpty then pure [] else Eng.read c aChain 0 aChain.len
      let save ← if saveIn.isEmpty then pure [] else Eng.read c aIn 0 saveLen
      let dbytes ← if dict.isEmpty then pure [] else Eng.read c aDict 0 aDict.len
      Eng.check (!((list ++ save ++ dbytes).any (·.2))) 0x020A
      let save := save.map (·.1)
      Eng.check (saveIn.isEmpty || (fieldAt save 0 1 == fmt && fieldAt save 1 1 == (if decomp then 1 else 0))) 0x0213
      let inp ← Eng.read c (areaAt as 0) 0 n
      let sink : Sink := {
        dst := areaAt as 1, chain := chainEntries (list.length / 16) (list.map (·.1)),
        others := (rs.map Rng.writes).zip as |>.eraseIdx 1 }
      let bad := firstPoison inp
      let good := match bad with
        | some i => lineOffset (areaAt as 0) i
        | none => n
      let e := runJob decomp fmt j save (dbytes.map (·.1)) n ((inp.map (·.1)).take good) sink.space
      let l ← Eng.emit c x sink (singles (clean e.out))
      let r : Result := {
        status := e.status, r0 := BitVec.ofNat 64 e.used, r1 := BitVec.ofNat 64 l.bytes, r2 := l.fill
        work := if decomp then [0, 1, l.bytes] else [1, e.used, l.bytes] }
      match l.stop with
      | some st => if st = 0x0102 then pure { r with status := st } else Eng.fault st r
      | none =>
        if bad.isSome ∧ (if decomp then e.status = 0x0103 else e.status ≠ 0x0102) then Eng.fault 0x020A { r with r0 := BitVec.ofNat 64 good }
        else if e.status = 0x0212 then Eng.fault 0x0212 { r with r2 := BitVec.ofNat 64 (e.stored % 2 ^ 32 * 2 ^ 32 + e.comp % 2 ^ 32), work := r.work ++ [1] }
        else if isFault e.status then Eng.fault e.status r
        else
          if e.status ≠ 0 ∧ !saveOut.isEmpty then
            Eng.write c aOut 0 (clean (saveBytes fmt decomp (fieldAt save 8 8 + e.used) (fieldAt save 16 8 + l.bytes) e.own))
          pure r

/-- A stream job that reaches its class time limit before its unit has taken any of its input stops at that boundary (R230): nothing is consumed
or produced, and the state that it starts from goes to its outgoing save area. -/
def streamHalt (decomp : Bool) (c : Ctx) (x : Queue) (w : PWord) : Eng Result := do
  let r : Result := { nothingDone with status := 0x0209 }
  let fmt := w.mod.toNat % 8
  let bs ← Eng.third c x w 64 [] false
  match (jobOf bs fmt decomp).bind fun j => j.saveOut.map fun o => (j, o) with
  | none => pure r
  | some (j, o) =>
    let saveIn : List Rng := (j.saveIn.map fun e => ({ win := e.1, off := e.2, len := saveLen } : Rng)).toList
    let as ← Eng.ranges c x (({ win := o.1, off := o.2, len := saveLen, right := 1 } : Rng) :: saveIn) false
    let save ← if saveIn.isEmpty then pure [] else Eng.read c (areaAt as 1) 0 saveLen
    let old := save.map (·.1)
    Eng.write c (areaAt as 0) 0 (clean (if old.isEmpty then saveBytes fmt decomp 0 0 [] else old))
    pure r

/-- Format codes above 4 are illegal (R225). -/
def streamForm (w : PWord) : Bool :=
  Form.ok { fmt := 5, ra := true, rb := true, rc := true, swin := true, dwin := true, imm := immAll, mod := 15 } w &&
    decide (w.mod.toNat % 8 ≤ 4)

def compressPel : Pel := { op := 0x40, form := streamForm, body := streamBody false }
def decompressPel : Pel := { op := 0x41, form := streamForm, body := streamBody true }

/-! ### CHECK (R233 to R236, R338) -/

def checkDescOf (bs : List Byte) : Option CheckDesc :=
  let f := fieldAt bs 17 1
  let width := fieldAt bs 16 1
  if 1 ≤ width ∧ width ≤ 64 ∧ f < 16 ∧ zeroAt bs 18 14 then
    some { poly := fieldAt bs 0 8, init := fieldAt bs 8 8, width := width, refin := f.testBit 0, refout := f.testBit 1,
           invert := f.testBit 2, big := f.testBit 3 }
  else none

/-- The bytes of a check value as append writes them. -/
def CheckDesc.bytes (k : CheckDesc) (v : Nat) : List Byte :=
  let b := bytesOfNat (ceilDiv k.width 8) v
  if k.big then b.reverse else b

/-- CHECK (R233 to R236, R338). What the rules leave open of its faults is log 41: a source shorter than the value is a bounds fault, a
poisoned source leaves nothing written, and result0 holds the offset of its lowest poisoned line. -/
def checkBody (c : Ctx) (x : Queue) (w : PWord) (v : Vals) : Eng Result := do
  let (n, high) := count32 v.c.1
  let mode := w.mod.toNat % 4
  if v.c.1 = 0 then pure {}
  else
    let src : Rng := { win := w.swin.toNat, off := v.b.1.toNat, len := n }
    let dst (len : Nat) : List Rng := if mode = 0 then [] else [{ win := w.dwin.toNat, off := v.a.1.toNat, len := len, right := 1 }]
    let bs ← Eng.third c x w 32 ([src] ++ dst 0) high
    match checkDescOf bs with
    | none => Eng.fault 0x0214
    | some k =>
      let vb := ceilDiv k.width 8
      Eng.check (mode != 2 || decide (vb ≤ n)) 0x0206
      let pay := if mode = 2 then n - vb else n
      let as ← Eng.ranges c x ([src, thirdRng w 32] ++ dst (if mode = 1 then n + vb else pay)) high
      let inp ← Eng.read c (areaAt as 0) 0 n
      match firstPoison inp with
      | some i => Eng.fault 0x020A { r0 := BitVec.ofNat 64 (lineOffset (areaAt as 0) i) }
      | none =>
        let bytes := inp.map (·.1)
        let value := checkValue k (bytes.take pay)
        let word : Word := BitVec.ofNat 64 value
        match mode with
        | 0 => pure { r0 := word, regs := [(rn w.ra, word, false)], work := [pay] }
        | 1 =>
          Eng.write c (areaAt as 2) 0 (clean (bytes ++ k.bytes value))
          pure { r0 := word, work := [pay] }
        | _ =>
          Eng.write c (areaAt as 2) 0 (clean (bytes.take pay))
          let tail := bytes.drop pay
          let stored := natOfBytes (if k.big then tail.reverse else tail)
          if stored = value then pure { r0 := word, work := [pay] }
          else Eng.fault 0x0212 { r0 := word, r1 := BitVec.ofNat 64 stored, work := [pay] }

/-- CHECK (R338): compute writes a register and has no destination. -/
def checkPel : Pel := {
  op := 0x42,
  form := fun w =>
    Form.ok { fmt := 5, ra := true, rb := true, rc := true, swin := true, dwin := w.mod.toNat % 4 != 0, imm := immAll, mod := 11 } w &&
      w.mod.toNat % 4 != 3,
  body := checkBody }

/-! ### HASH (R339) -/

def hashBody (c : Ctx) (x : Queue) (w : PWord) (v : Vals) : Eng Result := do
  let (n, high) := count32 v.c.1
  let cont := w.mod.getLsbD 0
  let final := w.mod.getLsbD 1
  if v.c.1 = 0 then pure {}
  else
    let third := if cont then [thirdRng w 64] else []
    -- a non-final count that is no multiple of 64 is misaligned at step 6 (R339)
    let src : Rng := { win := w.swin.toNat, off := v.b.1.toNat, len := n }
    let dst : Rng := { win := w.dwin.toNat, off := v.a.1.toNat, len := if final then 32 else 64, right := 1 }
    let d ← Eng.dev
    let rs := [src, dst] ++ third
    match d.ranges c.q x rs high false (c.decoded.any (·.passed)) with
    | .error st => Eng.fault (if 0x0206 ≤ st ∧ st ≤ 0x0208 ∧ !final ∧ n % 64 ≠ 0 then 0x0210 else st)
    | .ok as =>
      Eng.check (final || n % 64 == 0) 0x0210
      let st ← if cont then Eng.thirdBytes c (areaAt as 2) 64 else pure []
      Eng.check (!(st.any (·.2))) 0x020A
      let sb := st.map (·.1)
      Eng.check (!cont || zeroAt sb 40 24) 0x0214
      let inp ← Eng.read c (areaAt as 0) 0 n
      match firstPoison inp with
      | some i => Eng.fault 0x020A { r0 := BitVec.ofNat 64 (lineOffset (areaAt as 0) i) }
      | none =>
        let start := if cont then shaState sb else shaInit
        let before := if cont then fieldAt sb 32 8 else 0
        let bytes := inp.map (·.1)
        let total := (before + n) % 2 ^ 64
        let whole := n / 64
        let h := shaBlocks whole start bytes
        if final then
          let pad := shaPad (bytes.drop (64 * whole)) total
          Eng.write c (areaAt as 1) 0 (clean (shaBytes (shaBlocks (pad.length / 64) h pad)))
          pure { work := [whole + pad.length / 64, 1] }
        else
          Eng.write c (areaAt as 1) 0 (clean (shaBytes h ++ bytesOfNat 8 total ++ List.replicate 24 0#8))
          pure { work := [whole, 0] }

def hashPel : Pel := {
  op := 0x43,
  form := fun w => Form.ok {
    fmt := 5, ra := true, rb := true, rc := true, swin := true, dwin := true,
    imm := if w.mod.getLsbD 0 then immAll else 0, mod := 11 } w,
  body := hashBody }

/-! ### BYTESWAP (R340) -/

/-- Reverse the bytes of each element. -/
def swapElems (size : Nat) : Nat → List Byte → List Byte
  | 0, _ => []
  | n + 1, bs => (bs.take size).reverse ++ swapElems size n (bs.drop size)

def byteswapBody (c : Ctx) (x : Queue) (w : PWord) (v : Vals) : Eng Result := do
  let (n, high) := count32 v.c.1
  let size := 2 ^ (w.mod.toNat % 4 + 1)
  if v.c.1 = 0 then pure {}
  else
    let as ← Eng.ranges c x [{ win := w.swin.toNat, off := v.b.1.toNat, len := n * size, align := size },
      { win := w.dwin.toNat, off := v.a.1.toNat, len := n * size, right := 1, align := size }] high true
    let inp ← Eng.read c (areaAt as 0) 0 (n * size)
    match firstPoison inp with
    | some i => Eng.fault 0x020A { r0 := BitVec.ofNat 64 (lineOffset (areaAt as 0) i) }
    | none =>
      Eng.write c (areaAt as 1) 0 (clean (swapElems size n (inp.map (·.1))))
      pure {}

def byteswapPel : Pel := {
  op := 0x44, form := Form.ok { fmt := 4, ra := true, rb := true, rc := true, swin := true, dwin := true, mod := 11 },
  body := byteswapBody }

/-- COMPRESS (R334 to R337, R225). -/
def execCompress (q : Nat) (w : PWord) (s : State) : Answer := s.issue q w compressPel
/-- DECOMPRESS (R334 to R337, R226, R227). -/
def execDecompress (q : Nat) (w : PWord) (s : State) : Answer := s.issue q w decompressPel
/-- CHECK (R338). -/
def execCheck (q : Nat) (w : PWord) (s : State) : Answer := s.issue q w checkPel
/-- HASH (R339). -/
def execHash (q : Nat) (w : PWord) (s : State) : Answer := s.issue q w hashPel
/-- BYTESWAP (R340). -/
def execByteswap (q : Nat) (w : PWord) (s : State) : Answer := s.issue q w byteswapPel

end Sys2Proof.Machine
end

