-- ==== Sys2Proof/Machine/QueueEvents.lean ====
section
/-!
DEFINITION. What happens to a queue while its instructions run (08): contexts, torn submissions, completion, commits of the progress
record, time limits, WAIT, and the runs of queue 0.
-/
namespace Sys2Proof.Machine

/-- The meaning of an issued word of an opcode. -/
def pelOf (w : PWord) (op : Nat) : Pel :=
  match pelmicOf 0 (encodePelmic (BitVec.ofNat 8 op) w) with
  | .nop _ _ => nopPel
  | .halt _ _ => haltPel
  | .fence _ _ => fencePel
  | .signal _ _ => signalPel
  | .branch _ _ => branchPel
  | .loop _ _ => loopPel
  | .wait _ _ => waitPel
  | .timer _ _ => timerPel
  | .seti _ _ => setiPel
  | .alu _ _ => aluPel
  | .load _ _ => loadPel
  | .store _ _ => storePel
  | .copy _ _ => copyPel
  | .fill _ _ => fillPel
  | .zero _ _ => zeroPel
  | .prefetch _ _ => prefetchPel
  | .migrate _ _ => migratePel
  | .spill _ _ => spillPel
  | .compress _ _ => compressPel
  | .decompress _ _ => decompressPel
  | .check _ _ => checkPel
  | .hash _ _ => hashPel
  | .byteswap _ _ => byteswapPel
  | .scan _ _ => scanPel
  | .gather _ _ => gatherPel
  | .scatter _ _ => scatterPel
  | .probe _ _ => probePel
  | .reduce _ _ => reducePel
  | .grottoWrite _ _ => grottoWritePel
  | .grottoRead _ _ => grottoReadPel
  | .grottoAttach _ _ => grottoAttachPel
  | .grottoDetach _ _ => grottoDetachPel
  | .grottoReturnToService _ _ => grottoReturnToServicePel
  | .grottoOfferExtent _ _ => grottoOfferExtentPel
  | .grottoDelete _ _ => grottoDeletePel
  | .queueWrite _ _ => queueWritePel
  | .queueDelete _ _ => queueDeletePel
  | .queueRead _ _ => queueReadPel
  | .windowWrite _ _ => windowWritePel
  | .windowInvalidate _ _ => windowInvalidatePel
  | .windowRead _ _ => windowReadPel
  | .keyloadLoad _ _ => keyloadLoadPel
  | .keyloadErase _ _ => keyloadErasePel
  | .setclassWrite _ _ => setclassWritePel
  | .setclassScrubReserve _ _ => setclassScrubReservePel
  | .setclassRead _ _ => setclassReadPel
  | .ropeForm _ _ => ropeFormPel
  | .ropeRemove _ _ => ropeRemovePel
  | .ropePermitSpill _ _ => ropePermitSpillPel
  | .ropeWithdrawSpill _ _ => ropeWithdrawSpillPel
  | .ropeStartRebuild _ _ => ropeStartRebuildPel
  | .policyDescriptor _ _ => policyDescriptorPel
  | .policyGrottoEntry _ _ => policyGrottoEntryPel
  | .policyLoadProgram _ _ => policyLoadProgramPel
  | .policySetLimits _ _ => policySetLimitsPel
  | .policyReadLimits _ _ => policyReadLimitsPel
  | .powerDeepPermission _ _ => powerDeepPermissionPel
  | .powerEnterDeep _ _ => powerEnterDeepPel
  | .powerCap _ _ => powerCapPel
  | .powerForwardBias _ _ => powerForwardBiasPel
  | .injectFlipMask _ _ => injectFlipMaskPel
  | .injectInvertedCheckBits _ _ => injectInvertedCheckBitsPel
  | .injectDisarm _ _ => injectDisarmPel
  | .survey _ _ => surveyPel
  | .spare _ _ => sparePel
  | .record _ _ => recordPel
  | .add _ _ => atomicPel 0x80
  | .cas _ _ => atomicPel 0x81
  | .swap _ _ => atomicPel 0x82
  | .smin _ _ => atomicPel 0x83
  | .umin _ _ => atomicPel 0x84
  | .smax _ _ => atomicPel 0x85
  | .umax _ _ => atomicPel 0x86
  | _ => illegalPel op

/-- CONTEXT_BIND (R278, R289). -/
def execContextBind (q : Nat) (s : State) : Answer := s.onDev (·.bind q)

/-- CONTEXT_YIELD (R289). -/
def execContextYield (q : Nat) (s : State) : Answer := s.onDev (·.yield q)

/-- TORN_REREAD (R276). -/
def execTornReread (q : Nat) (s : State) : Answer := s.onDev fun d => (d.reread q).after

/-- The port-width record that a RECORD has written (R32, R359). -/
def State.recorded (s : State) (q : Nat) (pos : BitVec 32) (before : Dev) : State :=
  match (before.queue? q).bind fun x => x.issued.find? fun i => i.pos == pos with
  | some i =>
    let still := ((s.dev.queue? q).bind fun x => x.issued.find? fun j => j.pos == pos).any fun j => !j.done
    if i.opcode = 0xCB ∧ !i.done ∧ !still ∧ i.res.status = 0 ∧ i.state = .applied ∧ before.fwUp then
      let p := bitsOf i.word.imm.toNat 1 0
      let d : Dev := { s.dev with ports := mset s.dev.ports p { s.dev.port p with recorded := i.word.imm.getLsbD 2 } }
      let byte : Nat := ((List.range 4).map fun n => flag (d.port n).recorded n).sum
      { s with dev := d, trust := s.trust.append 1 0 [BitVec.ofNat 8 byte] true }
    else s
  | none => s

/-- INSTRUCTION_COMPLETE (R285, R288, R299): an instruction that waits tries its effect again; one whose effect stands completes. -/
def execInstructionComplete (q : Nat) (pos : BitVec 32) (hw : HwObs) (s : State) : Answer :=
  if !s.dev.awake then .next s
  else
    let s1 : State := { s with dev := s.dev.finishInstr s.trust q pos hw pelOf }
    let s2 := s1.recorded q pos s.dev
    .next { s2 with dev := s2.dev.after }

/-- PROGRESS_RECORD_COMMIT (R297, R298). -/
def execProgressRecordCommit (q : Nat) (s : State) : Answer :=
  s.onDev fun d => match d.queue? q with
    | some x => if d.awake ∧ x.dirty then (((d.setQueue q x.commitProgress).retire q retireFuel).countEngine x 6).after else d
    | none => d

/-- What an instruction that waits does where it stops in its restartable way: a stream job (R230), or a query (R390), whose elements have all
yet to be taken. -/
def haltBody (op : Nat) (c : Ctx) (x : Queue) (w : PWord) (v : Vals) : Eng Result :=
  if isStream op then streamHalt (op == 0x41) c x w else if op = 0x64 then reduceRows true c x w v
  else pure { nothingDone with r2 := if op = 0x62 then some 0 else nothingDone.r2 }

/-- A stream job or a query that waits is stopped in its restartable way (R230, R286, R390). What its save areas or its prior records hold must
be at hand: else nothing is written (DESIGN CHOICE, log 34). -/
def Dev.haltUnit (d : Dev) (t : Trust) (q : Nat) (pos : BitVec 32) : Dev :=
  match (d.queue? q).bind fun x => (x.issued.find? fun i => i.pos == pos && needsUnit i.opcode && i.state == .waiting).map fun i => (x, i) with
  | none => d
  | some (x, i) =>
    let y : Queue := match i.decoded with
      | some k => { x with windows := k.windows }
      | none => x
    let v := valsOf x (x.issued.takeWhile fun j => j.pos != pos) i.word
    match (haltBody i.opcode { d.ctxOf t q x pos i.word with decoded := i.decoded } y i.word v).run d with
    | .ok (r, d1) => d1.putIssued q { i with res := { r with status := 0 } }
    | .error _ => d.putIssued q { i with res := nothingDone }

/-- TIME_LIMIT (R286): it also wakes DOZE and DEEP (R527, R536). -/
def execTimeLimit (q : Nat) (pos : BitVec 32) (s : State) : Answer :=
  s.onDev fun d =>
    if !d.live then d
    else
      let d1 := if d.power.mode = .doze ∨ d.power.mode = .deep ∨ d.power.entering = 1 then d.wake 6 0 else d
      ((d1.haltUnit s.trust q pos).timeUp q pos).after

/-- An issued WAIT of a mode that waits. -/
def Dev.waiting? (d : Dev) (q : Nat) (pos : BitVec 32) (mode : Bool) : Option (Queue × Issued) :=
  (d.queue? q).bind fun x => (x.issued.find? fun i =>
    i.pos == pos && i.opcode == 0x06 && i.state == .waiting && i.word.mod.getLsbD 0 == mode).map fun i => (x, i)

/-- WAIT_TIMEOUT (R327): one last comparison, as with a timeout of 0. -/
def execWaitTimeout (q : Nat) (pos : BitVec 32) (s : State) : Answer :=
  s.onDev fun d => match d.waiting? q pos true with
    | some (x, i) =>
      if d.awake then
        let i1 : Issued := { i with word := { i.word with imm := 0 } }
        ((d.putIssued q i1).rerun s.trust q x i1 waitPel).after
      else d
    | none => d

/-- WAIT_REREAD (R327). -/
def execWaitReread (q : Nat) (pos : BitVec 32) (s : State) : Answer :=
  s.onDev fun d => match d.waiting? q pos true with
    | some (x, i) => if d.awake then (d.rerun s.trust q x i waitPel).after else d
    | none => d

/-- WAIT_DEADLINE (R313, R327): device time has reached rb. -/
def execWaitDeadline (q : Nat) (pos : BitVec 32) (s : State) : Answer :=
  s.onDev fun d => match d.waiting? q pos false with
    | some (x, i) => if d.awake then (d.rerun s.trust q x i waitPel).after else d
    | none => d

/-- RUN_PLACEMENT (R266). -/
def execRunPlacement (port : Nat) (s : State) : Answer := s.onDev fun d => if d.awake ∧ port < 4 then d.placeRun port else d

/-- FIRMWARE_SUBMISSION (R266): a run of at most 4,096 instructions. -/
def execFirmwareSubmission (port : Nat) (words : List (BitVec 128)) (s : State) : Answer :=
  s.onDev fun d =>
    if d.awake ∧ d.fwUp ∧ port < 4 ∧ words ≠ [] ∧ words.length ≤ 4096 then d.queueRun port { writer := .firmware, words := words } else d

end Sys2Proof.Machine
end

