-- ==== Sys2Proof/Machine/RegWrite.lean ====
section
/-!
DEFINITION. Writes of registers through the BARs: doorbells (08), the component registers and the MSI-X table of a logical device (02),
the device block (17), and the refused ones (R603, R617).
-/
namespace Sys2Proof.Machine

/-! ### Doorbells (R272, R610) -/

/-- The queue whose doorbell block a view reaches at an offset of BAR2: its grotto's owner is that logical device. -/
def Dev.doorOf (d : Dev) (v : RegView) (off : Nat) : Option (Nat × Queue) :=
  let q := off / 0x1000
  if q < 16 ∨ 8192 ≤ q then none
  else (d.queue? q).bind fun x => if d.ownerOf x = (v.link, v.ld) then some (q, x) else none

/-- A register of a doorbell block as a view reads it (R270, R272): zero where the block is not that view's. -/
def Dev.readDoor (d : Dev) (v : RegView) (off : Nat) : Word :=
  match d.doorOf v off with
  | some (_, x) => BitVec.ofNat 64 ((x.doorbell[off / 8 % 8]?).getD 0)
  | none => 0

/-- DB_TAIL (R273). -/
def Dev.doorTail (d : Dev) (v : RegView) (off q : Nat) (x : Queue) (t : BitVec 32) : Dev :=
  if t = x.tail then d
  else if x.tailOk t then d.recordTail q x t
  else d.viewEvent v 2 off 7

/-- Q_RUN (R295): a 1 that cannot restart the queue records an EVENT, whose detail no table names (log 28). -/
def Dev.doorRun (d : Dev) (v : RegView) (off q : Nat) (x : Queue) (run : Bool) : Dev :=
  if !run then d.stopRun q x
  else match d.startRun q x with
    | some d1 => d1
    | none => let (n, d1) := d.freeWord; d1.viewEvent v 2 off (n.toNat % 256)

/-- One 8-byte access of BAR2: the halves that it covers. -/
def Dev.writeDoor (d : Dev) (v : RegView) (off : Nat) (value mask : Word) : Dev :=
  match d.doorOf v off with
  | none => d.viewEvent v 2 off 6
  | some (q, x) =>
    let low := mask.getLsbD 0
    match off / 8 % 8 with
    | 0 => if low then d.doorTail v off q x (value.setWidth 32) else d
    | 4 => if low then d.doorRun v off q x (value.getLsbD 0) else d
    | 5 => if low then d.recordConsumed q x (value.setWidth 32) else d
    | 7 => d
    | _ => d.viewEvent v 2 off 3

/-- A write of BAR2 by a host: it wakes the device and what can then issue goes on. -/
def Dev.doorCmd (d : Dev) (link ld off : Nat) (dpid : BitVec 12) (value : Word) (reg : Nat) (c : Instr) : Dev :=
  d.ioArrive link ld dpid false c fun e =>
    if off % 64 = reg ∧ off < 0x2000000 then (e.writeDoor { link := link, ld := ld } off value (BitVec.allOnes 64)).after else e

/-! ### BAR0 (R609, R644; the standard's layouts are log 29) -/

/-- Ways and granularity of a decoder's encodings. -/
def waysOf : Nat → Option Nat
  | 0 => some 1
  | 1 => some 2
  | 2 => some 4
  | 3 => some 8
  | 4 => some 16
  | 8 => some 3
  | 9 => some 6
  | 10 => some 12
  | _ => none

def granOf (n : Nat) : Option Nat := if n ≤ 6 then some (256 * 2 ^ n) else none

/-- Replace one 32-bit half of a 64-bit value. -/
def setHalf (x : Nat) (high : Bool) (w : Nat) : Nat :=
  if high then x % 2 ^ 32 + w * 2 ^ 32 else x / 2 ^ 32 * 2 ^ 32 + w

/-- The control register of a decoder. -/
def Dev.decoderControl (d : Dev) (l ld n : Nat) (w : Nat) : Dev :=
  let old := mgetD (d.ld l ld).decoders n {}
  let note (d : Dev) (bad : Bool) : Dev := if bad then d.regEvent l ld 0 (decoderCtl n) 2 else d
  let gran := granOf (w % 16)
  let ways := waysOf (w / 16 % 16)
  let cfg : DecoderCfg := {
    base := old.base.toNat, size := old.size.toNat, ways := ways.getD old.ways, gran := gran.getD old.gran, skip := old.skip,
    typeDB := !w.testBit 12, lock := w.testBit 8 }
  let d1 := note (note d gran.isNone) ways.isNone
  if w.testBit 9 then d1.commitDecoder l ld n cfg
  else d1.setDecoder l ld n { old with
    ways := cfg.ways, gran := cfg.gran, typeDB := cfg.typeDB, lockOnCommit := cfg.lock, committed := false, error := false, position := none }

/-- A 32-bit write within decoder n. -/
def Dev.writeDecoder (d : Dev) (l ld n reg : Nat) (w : Nat) : Dev :=
  let old := mgetD (d.ld l ld).decoders n {}
  let top := w / 2 ^ 28 * 2 ^ 28
  if reg = 0x1C then d
  else if old.locked then d.regEvent l ld 0 (0x1310 + 0x20 * n + reg) 1
  else if reg = 0x10 then d.decoderControl l ld n w
  else match reg with
    | 0x00 => d.setDecoder l ld n { old with base := BitVec.ofNat 64 (setHalf old.base.toNat false top) }
    | 0x04 => d.setDecoder l ld n { old with base := BitVec.ofNat 64 (setHalf old.base.toNat true w) }
    | 0x08 => d.setDecoder l ld n { old with size := BitVec.ofNat 64 (setHalf old.size.toNat false top) }
    | 0x0C => d.setDecoder l ld n { old with size := BitVec.ofNat 64 (setHalf old.size.toNat true w) }
    | 0x14 => d.setDecoder l ld n { old with skip := setHalf old.skip false top }
    | 0x18 => d.setDecoder l ld n { old with skip := setHalf old.skip true w }
    | _ => d

/-- A 32-bit write of the MSI-X table (R57, R60, R609): address, data, and vector control, whose bit 0 masks. -/
def Dev.writeVector (d : Dev) (l ld k part : Nat) (w : Nat) : Dev :=
  let x := d.ld l ld
  if x.vecCount ≤ k then d
  else
    let (a, b) := mgetD x.table k (0, 0)
    match part with
    | 3 =>
      if w.testBit 0 then d.setLd l ld { x with unmasked := x.unmasked.filter (· != k) } else d.unmask l ld k
    | 2 => d.setLd l ld { x with table := mset x.table k (a, BitVec.ofNat 64 (setHalf b.toNat false w)) }
    | p => d.setLd l ld { x with table := mset x.table k (BitVec.ofNat 64 (setHalf a.toNat (p == 1) w), b) }

/-- A 32-bit write of BAR0. -/
def Dev.writeBar0 (d : Dev) (l ld off : Nat) (w : Nat) : Dev :=
  if 0x1310 ≤ off ∧ off < 0x1390 then d.writeDecoder l ld ((off - 0x1310) / 32) ((off - 0x1310) % 32) w
  else if off = 0x1404 then d.setLink l { d.link l with biOn := w.testBit 1 }
  else if 0x20000 ≤ off ∧ off < 0x28000 then d.writeVector l ld ((off - 0x20000) / 16) ((off - 0x20000) / 4 % 4) w
  else d

/-! ### The device block (R606, R611, R612) -/

/-- Whether a sub-block of the device block lies at an offset. -/
def assigned (off : Nat) : Bool :=
  let blk := off / 0x10000
  decide (blk < 7 ∨ (0x40 ≤ blk ∧ blk < 0x52))

/-- One access of the device block. The channel and Evoil blocks record writes of their registers (R154, R463). -/
def Dev.writeBlock (d : Dev) (v : RegView) (off : Nat) (value mask : Word) : Dev :=
  let blk := off / 0x10000
  let whole := mask == BitVec.allOnes 64
  if !assigned off then d
  else if blk = 4 ∧ off % 0x8000 = 0x6000 then (if whole then d.cntWrite v off value else d)
  else if !control v then d.viewEvent v 4 off 4
  else if blk = 1 ∧ off % 0x100 = 0x18 then d.writeTag v off value mask
  else if blk = 2 ∧ off % 0x800 = 0x18 then d.writeConsumed v off value mask
  else
    let r := off % 0x200
    if 0x40 ≤ blk ∧ blk < 0x50 ∧ (r < 0x38 ∨ (0x40 ≤ r ∧ r < 0xC0)) then d.viewEvent v 4 off 3
    else if 0x50 ≤ blk ∧ (r < 0x18 ∨ (0x40 ≤ r ∧ r < 0xC0)) then d.viewEvent v 4 off 3
    else d

/-! ### Accesses (R603) -/

/-- Size of a BAR (R601). -/
def barSize : Nat → Nat
  | 0 => 0x40000
  | 2 => 0x2000000
  | _ => 0x800000

/-- Whether a write of some bytes is accepted: 4 or 8 bytes aligned, or multiples of 8 within one 64-byte block. -/
def writeFits (off size : Nat) : Bool :=
  (size == 4 && off % 4 == 0) || (decide (8 ≤ size) && size % 8 == 0 && off % 8 == 0 && decide (off % 64 + size ≤ 64))

/-- One access of up to 8 bytes at a multiple of 8; the mask gives the halves covered. -/
def Dev.writeUnit (d : Dev) (v : RegView) (bar off : Nat) (value mask : Word) : Dev :=
  if v.mgmt ∨ bar = 4 then d.writeBlock v off value mask
  else if bar = 2 then d.writeDoor v off value mask
  else
    let d1 := if mask.getLsbD 32 then d.writeBar0 v.link v.ld (off + 4) (bitsOf value.toNat 63 32) else d
    if mask.getLsbD 0 then d1.writeBar0 v.link v.ld off (bitsOf value.toNat 31 0) else d1

/-- A write of the registers through a view: refused by size or alignment, or taken in ascending 8-byte accesses. -/
def Dev.writeRegs (d : Dev) (v : RegView) (bar off size : Nat) (value : LineData) : Dev :=
  if !([0, 2, 4].contains bar || v.mgmt) ∨ barSize (if v.mgmt then 4 else bar) ≤ off then d
  else if !writeFits off size then d.viewEvent v bar off 5
  else if size = 4 then
    let high := off % 8 == 4
    let w : Word := value.setWidth 64 &&& 0xFFFFFFFF#64
    (d.writeUnit v bar (off / 8 * 8) (if high then w <<< 32 else w) (if high then 0xFFFFFFFF00000000#64 else 0xFFFFFFFF#64)).after
  else
    ((List.range (size / 8)).foldl (fun (d : Dev) i =>
      d.writeUnit v bar (off + 8 * i) ((value >>> (64 * i)).setWidth 64) (BitVec.allOnes 64)) d).after

/-! ### The commands -/

/-- DB_TAIL_WRITE (R272 to R274). -/
def execDbTailWrite (link ld off : Nat) (value : Word) (s : State) (dpid : BitVec 12 := 0) : Answer :=
  s.onDev (·.doorCmd link ld off dpid value 0 (.dbTailWrite link ld off value dpid))

/-- Q_RUN_SET (R295). -/
def execQRunSet (link ld off : Nat) (s : State) (dpid : BitVec 12 := 0) : Answer :=
  s.onDev (·.doorCmd link ld off dpid 1 0x20 (.qRunSet link ld off dpid))

/-- Q_RUN_CLEAR (R295). -/
def execQRunClear (link ld off : Nat) (s : State) (dpid : BitVec 12 := 0) : Answer :=
  s.onDev (·.doorCmd link ld off dpid 0 0x20 (.qRunClear link ld off dpid))

/-- CR_CONSUMED_WRITE (R293). -/
def execCrConsumedWrite (link ld off : Nat) (value : Word) (s : State) (dpid : BitVec 12 := 0) : Answer :=
  s.onDev (·.doorCmd link ld off dpid value 0x28 (.crConsumedWrite link ld off value dpid))

/-- REGISTER_WRITE (R603, R606, R610 to R617). -/
def execRegisterWrite (v : RegView) (bar off size : Nat) (value : LineData) (s : State) : Answer :=
  s.onDev fun d => d.viewArrive v bar (.registerWrite v bar off size value) (·.writeRegs v bar off size value)

end Sys2Proof.Machine
end

