-- ==== Sys2Proof/Machine/Mailbox.lean ====
section
/-!
DEFINITION. The mailbox commands (02): what the dispatcher's built-in programs do (R26, R61 to R66), poison and media commands, dynamic
capacity (R47 to R50), and the result that ends a command. A command's effect is one step; lengths of DPA ranges are in bytes.
-/
namespace Sys2Proof.Machine

/-! ### What every program shares -/

/-- Opcode of a mailbox command, 0 for others. -/
def mailOpcode : Instr → Nat
  | .scanMedia .. => 0x4304
  | .sanitize .. => 0x4400
  | _ => 0

/-- The agent that runs a logical device's programs, with the class of the grotto that a command names (R159, R497). -/
def mailCtx (l ld cls : Nat) : Ctx := { q := 16384 + ldKey l ld, who := .mbox l ld, src := 163, cls := cls }

/-- A program: its work, with the code and payload fields that it returns. -/
abbrev Mail := Eng (CmdCode × List Nat)

def Mail.ok (payload : List Nat := []) : Mail := pure (.success, payload)
def Mail.fail (c : CmdCode) : Mail := pure (c, [])

/-! ### Event logs (R65, R66) -/

/-- Records that one payload holds: 128 bytes each after a header of 32 (log 30). -/
def logPayload : Nat := 63

/-- A record as Get Event Records gives it (log 30): its type, transaction type, DPA with a flag that it is known, length, extent tag and
sequence, then the words of R488. -/
def LogRec.words (r : LogRec) : List Nat :=
  let kind := match r.kind with
    | .generalMedia => 0
    | .dramEvent => 1
    | .memoryModule => 2
    | .addCapacity => 3
    | .releaseCapacity => 4
    | .capacityReleased => 5
  [kind, r.trans, if r.dpa.isSome then 1 else 0, r.dpa.getD 0, r.len, r.tag, r.seq, r.fault.word 0, r.fault.word 1, r.fault.word 2, r.fault.word 3]

def getLog (x : Ld) (log : Nat) : Mail :=
  if 4 < log then Mail.fail .invalidInput
  else
    let g := mgetD x.logs log {}
    Mail.ok ([log, g.overflow, g.first, g.last, min g.recs.length logPayload, if logPayload < g.recs.length then 1 else 0] ++
      (g.recs.take logPayload).flatMap LogRec.words)

def clearLog (l ld log count : Nat) : Mail := do
  let d ← Eng.dev
  let x := d.ld l ld
  let g := mgetD x.logs log {}
  if 4 < log ∨ g.recs.length < count then Mail.fail .invalidInput
  else
    let g1 : EvLog := { g with recs := g.recs.drop count }
    let g2 : EvLog := if g1.recs.isEmpty then {} else g1
    Eng.upd fun d => d.setLd l ld { x with logs := mset x.logs log g2 }
    Mail.ok

/-! ### Poison and media (R63, R477) -/

/-- The records of a poison list that meet a range of DPA lines, clipped to it. -/
def poisonIn (x : Ld) (lo hi : Nat) : List Nat :=
  x.poison.flatMap fun r =>
    let a := max lo r.dpaLine
    let b := min hi (r.dpaLine + r.count)
    if a < b then [a * 64, b - a, r.source] else []

def getPoison (x : Ld) (dpa len : Nat) : Mail :=
  Mail.ok ([if x.poisonOver then 1 else 0, x.poisonTime] ++ poisonIn x (dpa / 64) (ceilDiv (dpa + len) 64))

/-- Lines on a logical device's list that Inject Poison left there. -/
def Ld.injected (x : Ld) : Nat := ((x.poison.filter fun r => r.source == 3).map (·.count)).sum

/-- A full-line write of a program: the poison codeword, or data. -/
def mailWrite (l ld dpa : Nat) (data : LineData) (poison : Bool) : Mail := do
  let d ← Eng.dev
  if dpa % 64 ≠ 0 then Mail.fail .invalidInput
  else match d.dpaCase l ld dpa with
    | .error _ => Mail.fail .physicalAddress
    | .ok (g, off) =>
      Eng.upd fun d => d.again 1 ((mailCtx l ld (d.grotto g).cls).req g (off / 64) (.write fullMask data poison))
      Mail.ok

def injectMail (l ld dpa : Nat) : Mail := do
  let d ← Eng.dev
  let x := d.ld l ld
  if !x.injectOk then Mail.fail .unsupported
  else if dpa % 64 = 0 ∧ 64 ≤ x.injected then Mail.fail .injectLimit
  else mailWrite l ld dpa 0 true

/-- Lines of backed pages that a range of a logical device's DPA space reaches: grotto, first DPA line, line. -/
def Dev.scanLines (d : Dev) (l ld lo hi : Nat) : List (Nat × Nat × Nat) :=
  d.grottos.flatMap fun e => (e.2.attaches.filter fun a => a.link == l && a.ld == ld).flatMap fun a =>
    let base := a.base / 64
    ((d.backedPages e.1 0 (e.2.visible a / 4096)).flatMap fun p => (List.range 64).map fun i => p * 64 + i).filterMap fun n =>
      if lo ≤ base + n ∧ base + n < hi ∧ e.2.reachable (n * 64) then some (e.1, base, n) else none

/-- Scan Media: every backed line in the range is read, in order from the retire pointer on (R65); the poisoned ones are the results. The Bool
says that the scan is at its end. -/
def Dev.scanOn (d : Dev) (l ld lo : Nat) : List (Nat × Nat × Nat) → Bool × Dev
  | [] => (true, d)
  | e :: t =>
    let c := mailCtx l ld (d.grotto e.1).cls
    match (Eng.line c e.1 e.2.2).run d with
    | .ok ((_, bad), d1) =>
      let x := d1.ld l ld
      let n := e.2.1 + e.2.2
      ((d1.forget c.who).setLd l ld { x with
        bgAt := n + 1 - lo, scan := x.scan ++ if bad then [(n * 64, 64)] else [] }).scanOn l ld lo t
    | .error (.wait n) => (false, d.needs c n)
    | .error (.fault _ _ d1) => (true, d1)

def scanMail (l ld dpa len : Nat) : Mail := do
  let d ← Eng.dev
  let lo := dpa / 64
  let (ended, d1) := d.scanOn l ld lo (d.scanLines l ld (lo + (d.ld l ld).bgAt) (ceilDiv (dpa + len) 64))
  Eng.upd fun _ => d1
  if ended then Mail.ok else Mail.fail .background

/-! ### Sanitize and Secure Erase (R64, R100, R449) -/

/-- Return every page of the owned grottos to unbacked. -/
def unbackOwned (l ld : Nat) : Eng Unit := do
  let d ← Eng.dev
  (d.owned l ld).foldlM (fun (_ : Unit) e => Eng.unback (mailCtx l ld e.2.cls) e.1 0 (e.2.units * unitPages)) ()

/-- Frames that the owned grottos use: those of hot pages, and the heap frames. -/
def Dev.ownedFrames (d : Dev) (l ld : Nat) : List Nat :=
  ((d.owned l ld).flatMap fun e => (d.backedPages e.1 0 (e.2.units * unitPages)).filterMap fun p =>
    let w := d.entry e.1 p
    if peState w = 1 then some (peLoc w) else none) ++
  (d.pages.heaps.filter fun h => (d.owned l ld).any fun e => e.1 == h.2.grotto).map (·.1)

/-- Whether a frame is still to be zeroed. -/
def Dev.unzeroed (d : Dev) (f : Nat) : Bool := ivMem (frameIdx f) (d.pool (frameChan f)).pending || d.pages.dying.contains f

/-- Sanitize: unback once, then wait until the frames are zeroed. -/
def sanitizeMail (l ld : Nat) : Mail := do
  let d ← Eng.dev
  match (d.ld l ld).bgFrames with
  | none => do
    let fs := d.ownedFrames l ld
    unbackOwned l ld
    Eng.upd fun d =>
      let left := fs.filter d.unzeroed
      d.setLd l ld { d.ld l ld with bgFrames := some left, bgAll := left.length }
    Mail.fail .background
  | some fs =>
    let left := fs.filter d.unzeroed
    Eng.upd fun d => d.setLd l ld { d.ld l ld with bgFrames := some left, bgAt := (d.ld l ld).bgAll - left.length }
    if left.isEmpty ∧ !d.outstanding (.mbox l ld) then Mail.ok else Mail.fail .background

/-- The key-table entries of the owned grottos are destroyed, here and at a partner. -/
def Dev.eraseOwned (d : Dev) (l ld : Nat) : Dev :=
  (d.owned l ld).foldl (fun (d : Dev) e =>
    let d1 : Dev := (d.dropKeyed e.2.keyId).dropKeyed e.2.elasticKeyId
    let d2 : Dev := { d1 with keys := merase (merase d1.keys e.2.keyId) e.2.elasticKeyId }
    let (sent, d3) := d2.mirrorMap e.1 1 0 1
    d3.onPages fun k => { k with
      mirrorWait := k.mirrorWait ++ sent.map fun m => (m.1, m.2, (mailCtx l ld 0).req e.1 0 (.write 0 0 false)) }) d

/-! ### Dynamic capacity (R47 to R50, R281) -/

/-- Extents of a logical device's owned grottos as DPA and length, with the grotto and the extent in blocks. -/
def Dev.extents (d : Dev) (l ld : Nat) (f : Grotto → List (Nat × Nat)) : List (Nat × Nat × Nat × Nat × Nat) :=
  (d.owned l ld).flatMap fun e => match e.2.ownBase with
    | some b => (f e.2).map fun x => (b + x.1 * unitBytes, x.2 * unitBytes, e.1, x)
    | none => []

def dcConfig (d : Dev) (l ld : Nat) : List Nat :=
  (d.regions l ld).flatMap fun e => [e.2.1 + e.2.2.committed * unitBytes, e.2.2.elasticMax * unitBytes, unitBytes]

/-- The extent list: start, length, then the extent tag and the shared-extent sequence, both zero (R47). -/
def dcList (d : Dev) (l ld first count : Nat) : List Nat :=
  let all := d.extents l ld (·.accepted)
  all.length :: ((all.drop first).take count).flatMap fun e => [e.1, e.2.1, 0, 0]

/-- Accept the offered extents that a response names; one that names none declines every offer (log 30). Where lost frames have left less
than the reserve that an acceptance adds, it is refused as new reserve is (R110, log 95). -/
def addResponse (l ld : Nat) (es : List (Nat × Nat)) : Mail := do
  let d ← Eng.dev
  let offers := d.extents l ld (·.offered)
  let hits := es.map fun x => offers.find? fun o => o.1 == x.1 && o.2.1 == x.2
  if 341 < es.length then Mail.fail .payloadLength
  else if hits.any Option.isNone then Mail.fail .invalidExtentList
  else if es.isEmpty then
    Eng.upd fun d => (d.owned l ld).foldl (fun d e => d.setGrotto e.1 { e.2 with offered := [] }) d
    Mail.ok
  else
    let after := (hits.filterMap id).foldl (fun (d : Dev) o => d.modGrotto o.2.2.1 fun x =>
      if x.offered.contains o.2.2.2 then { x with offered := x.offered.erase o.2.2.2, accepted := x.accepted ++ [o.2.2.2] } else x) d
    if d.dataFrames < after.sumReserve ∧ d.sumReserve < after.sumReserve then Mail.fail .invalidExtentList
    else
      Eng.upd fun _ => after
      Mail.ok

/-- The accepted extent that a release names. -/
def Dev.releasing (d : Dev) (l ld dpa len : Nat) : Option (Nat × Nat × Nat) :=
  ((d.extents l ld (·.accepted)).find? fun e => e.1 == dpa && e.2.1 == len).map (·.2.2)

/-- Whether issued instructions, or requests already accepted, still touch pages of a grotto (R281); an instruction with a third-operand area may
reach through any window of its queue. -/
def Dev.inUse (d : Dev) (g lo n : Nat) : Bool :=
  let hit (r : Req) : Bool := r.g == g && decide (lo ≤ pageOf r.line ∧ pageOf r.line < lo + n)
  let meets (y : Window) : Bool :=
    y.kind == 1 && y.grotto == g && decide (y.base < (lo + n) * 4096 ∧ lo * 4096 < y.base + y.length)
  (d.anyReq hit) || d.pages.dreads.any (fun x => hit x.req) || d.pages.sreads.any (fun x => hit x.req) ||
    d.queues.qs.any fun e => e.2.issued.any fun i =>
      !i.done && (if i.word.fmt = 5 then e.2.windows.any fun y => meets y.2
        else meets (e.2.window i.word.swin.toNat) || meets (e.2.window i.word.dwin.toNat))

/-- Release, its extent taken out already: when nothing touches it any more its pages go back. -/
def releaseMail (l ld g lo n : Nat) : Mail := do
  let d ← Eng.dev
  if d.inUse g lo n then Eng.wait .hold
  else match d.unbackRange g lo n with
    | (false, _) => Eng.wait (.unback g lo n)
    | (true, d1) => do
      let (sent, d2) := d1.mirrorMap g 3 lo n
      Eng.upd fun _ => d2.onPages fun k => { k with
        mirrorWait := k.mirrorWait ++ sent.map fun m => (m.1, m.2, (mailCtx l ld 0).req g (lo * 64) (.write 0 0 false)) }
      Mail.ok

/-! ### The programs -/

/-- Progress of the background command: whether it runs, its opcode, the percentage that its retire pointer shows (R65), and the code of the
last that ended. -/
def bgStatus (x : Ld) : Mail :=
  match x.background with
  | some c => Mail.ok [1, mailOpcode c, x.bgAt * 100 / max 1 x.bgAll, 0]
  | none => match x.bgDone with
    | some (op, code) => Mail.ok [0, op, 100, if code = .success then 0 else 1]
    | none => Mail.ok [0, 0, 100, 0]

/-- Start a background command (R62) that has so many lines to read. -/
def startBg (l ld : Nat) (c : Instr) (ok : Bool) (lines : Nat := 0) : Mail := do
  let d ← Eng.dev
  let x := d.ld l ld
  if !ok then Mail.fail .invalidInput
  else if x.background.isSome then Mail.fail .busy
  else
    Eng.upd fun d => d.setLd l ld { x with
      background := some c, bgFrames := none, bgAt := 0, bgAll := lines, scan := if lines = 0 then x.scan else [] }
    Mail.fail .background

/-- The program of a command. -/
def mailBody (l ld : Nat) (c : Instr) : Mail := do
  let d ← Eng.dev
  let x := d.ld l ld
  match c with
  | .identify .. => Mail.ok [0x1664]
  | .backgroundOperationStatus .. => bgStatus x
  | .getEventRecords _ _ log _ => getLog x log
  | .clearEventRecords _ _ log n _ => clearLog l ld log n
  | .getEventInterruptPolicy .. => Mail.ok [x.policy.toNat]
  | .setEventInterruptPolicy _ _ p _ => do
    Eng.upd fun d => d.setLd l ld { x with policy := p }
    Mail.ok
  | .identifyMemoryDevice .. =>
    let units := ((d.owned l ld).map fun e => e.2.committed).sum
    Mail.ok [units, units, 0, 0, 256, 64]
  | .getPoisonList _ _ dpa len _ => getPoison x dpa len
  | .injectPoison _ _ dpa _ => injectMail l ld dpa
  | .clearPoison _ _ dpa data _ => mailWrite l ld dpa data false
  | .getScanMediaCapabilities _ _ _ len _ => Mail.ok [ceilDiv (len * 1000) (2 ^ 36)]
  | .scanMedia _ _ dpa len _ => startBg l ld c (decide (dpa % 64 = 0 ∧ len % 64 = 0 ∧ 0 < len)) (len / 64)
  | .getScanMediaResults .. => Mail.ok (x.scan.flatMap fun e => [e.1, e.2])
  | .sanitize .. => startBg l ld c true
  | .secureErase .. => do
    unbackOwned l ld
    Mail.ok
  | .getDynamicCapacityConfiguration .. => Mail.ok (dcConfig d l ld)
  | .getDynamicCapacityExtentList _ _ first n _ => Mail.ok (dcList d l ld first n)
  | .addDynamicCapacityResponse _ _ es _ => addResponse l ld es
  | _ => Mail.fail .unsupported

/-- What a command does before its program's waits: the device, and the program. -/
def Dev.mailStart (d : Dev) (l ld : Nat) (c : Instr) : Dev × Mail :=
  match c with
  | .secureErase .. => (d.eraseOwned l ld, mailBody l ld c)
  | .releaseDynamicCapacity _ _ dpa len _ =>
    match d.releasing l ld dpa len with
    | some (g, ext) =>
      (d.modGrotto g fun x => { x with accepted := x.accepted.erase ext, releaseAsked := x.releaseAsked.erase ext },
       releaseMail l ld g (ext.1 * unitPages) (ext.2 * unitPages))
    | none => (d, Mail.fail .invalidExtentList)
  | _ => (d, mailBody l ld c)

/-- The program of a command that was begun before. -/
def Dev.mailGoOn (d : Dev) (l ld : Nat) (c : Instr) : Mail :=
  match c with
  | .releaseDynamicCapacity _ _ dpa len _ =>
    match d.rangeOf l ld dpa with
    | some (g, _, off) => releaseMail l ld g (off / 4096) (len / 4096)
    | none => Mail.ok
  | _ => mailBody l ld c

/-- Run a program: its result stands in the mailbox, or it waits. -/
def Dev.runMail (d : Dev) (l ld : Nat) (c : Instr) (m : Mail) : Dev :=
  match m.run d with
  | .ok ((code, pl), d1) =>
    (d1.setLd l ld { d1.ld l ld with mbox := some (c, code, pl), mboxWait := none }).forget (.mbox l ld)
  | .error (.wait n) => (d.setLd l ld { d.ld l ld with mboxWait := some (c, true) }).needs (mailCtx l ld 0) n
  | .error (.fault _ _ d1) => d1.setLd l ld { d1.ld l ld with mbox := some (c, .internalError, []), mboxWait := none }

/-- Begin a command. -/
def Dev.startMail (d : Dev) (l ld : Nat) (c : Instr) : Dev :=
  let (d1, m) := d.mailStart l ld c
  d1.runMail l ld c m

/-- The run of a command in queue 0 of the port that received it (R26, R266). The text of the ROM's programs is not the spec's: one instruction
stands for a program, the SIGNAL that ends it (log 90). -/
def mailRun (l ld : Nat) : Run := { writer := .dispatcher l ld, words := [encodePelmic 0x03 {}] }

/-- A command is written (R26, R62): the dispatcher has its program wait for room in queue 0 of the port; one written while the mailbox is
occupied is not taken. -/
def Dev.mailWrite (d : Dev) (l ld : Nat) (c : Instr) : Dev :=
  let x := d.ld l ld
  if x.mbox.isSome ∨ x.mboxWait.isSome then d
  else (d.setLd l ld { x with mboxWait := some (c, false) }).queueRun (portOf l) (mailRun l ld)

def State.mail (s : State) (l ld : Nat) (dpid : BitVec 12) (c : Instr) : Answer :=
  s.onDev fun d => d.ioArrive l ld dpid false c (·.mailWrite l ld c)

/-! ### Results and background commands (R26, R62, R65) -/

/-- The effect of the background command. -/
def bgBody (l ld : Nat) : Instr → Mail
  | .scanMedia _ _ dpa len _ => scanMail l ld dpa len
  | .sanitize .. => sanitizeMail l ld
  | _ => Mail.ok

/-- Take the background command as far as it goes: its end signals vector 0. -/
def Dev.runBg (d : Dev) (l ld : Nat) : Dev :=
  match (d.ld l ld).background with
  | none => d
  | some c =>
    match (bgBody l ld c).run d with
    | .ok ((code, _), d1) =>
      let d2 := d1.forget (.mbox l ld)
      if code = .background then d2
      else (d2.setLd l ld { d2.ld l ld with background := none, bgFrames := none, bgDone := some (mailOpcode c, code) }).interrupt l ld 0
    | .error (.wait n) => d.needs (mailCtx l ld 0) n
    | .error (.fault _ _ d1) => d1.setLd l ld { d1.ld l ld with background := none, bgFrames := none, bgDone := some (mailOpcode c, .internalError) }

/-- The program of a logical device's command stands at the head of queue 0 of its port, and its context may run it (R26, R282). -/
def Dev.mailAtHead (d : Dev) (l ld : Nat) : Bool :=
  (d.queue? (8192 + portOf l)).any fun x =>
    d.mayIssue x && x.issued.isEmpty && (d.runAt (8192 + portOf l) x.head).any fun r => r.writer == .dispatcher l ld

/-- The program has retired: queue 0 goes on behind its run. -/
def Dev.mailRetire (d : Dev) (l : Nat) : Dev :=
  let q := 8192 + portOf l
  match d.queue? q with
  | some x =>
    let d1 := d.endRun q x.head 0
    match d1.queue? q with
    | some y => d1.setQueue q ({ y with dirty := true } : Queue).settle
    | none => d1
  | none => d

/-- The dispatcher writes the result into the mailbox, which is free then (R62). -/
def Dev.mailAnswer (d : Dev) (l ld : Nat) (code : CmdCode) (pl : List Nat) : Dev :=
  ((((d.setLd l ld { d.ld l ld with mbox := none }).emit (.mbox l ld code pl)).interrupt l ld 0).mailRetire l)

/-- A program's SIGNAL completes (R26): the program at the head of queue 0 runs, and where nothing of it is outstanding its result is
written; where it waits, it stays. The background command goes on as far as it can. -/
def Dev.mailResult (d : Dev) (l ld : Nat) : Dev :=
  if !d.awake then d
  else
    let d1 :=
      if !d.mailAtHead l ld then d
      else
        let ran := match (d.ld l ld).mboxWait with
          | some (c, true) => d.runMail l ld c (d.mailGoOn l ld c)
          | some (c, false) => d.startMail l ld c
          | none => d
        let e := ran.after
        match (e.ld l ld).mbox with
        | some (_, code, pl) => if e.outstanding (.mbox l ld) then e else e.mailAnswer l ld code pl
        | none => e
    (d1.runBg l ld).after

/-! ### The commands -/

/-- Identify. -/
def execIdentify (l ld : Nat) (s : State) (dpid : BitVec 12 := 0) : Answer := s.mail l ld dpid (.identify l ld dpid)
/-- Background Operation Status (R65). -/
def execBackgroundOperationStatus (l ld : Nat) (s : State) (dpid : BitVec 12 := 0) : Answer := s.mail l ld dpid (.backgroundOperationStatus l ld dpid)
/-- Get Event Records (R66). -/
def execGetEventRecords (l ld log : Nat) (s : State) (dpid : BitVec 12 := 0) : Answer := s.mail l ld dpid (.getEventRecords l ld log dpid)
/-- Clear Event Records (R66). -/
def execClearEventRecords (l ld log count : Nat) (s : State) (dpid : BitVec 12 := 0) : Answer := s.mail l ld dpid (.clearEventRecords l ld log count dpid)
/-- Get Event Interrupt Policy (R66). -/
def execGetEventInterruptPolicy (l ld : Nat) (s : State) (dpid : BitVec 12 := 0) : Answer := s.mail l ld dpid (.getEventInterruptPolicy l ld dpid)
/-- Set Event Interrupt Policy (R66). -/
def execSetEventInterruptPolicy (l ld : Nat) (policy : BitVec 5) (s : State) (dpid : BitVec 12 := 0) : Answer := s.mail l ld dpid (.setEventInterruptPolicy l ld policy dpid)
/-- Identify Memory Device. -/
def execIdentifyMemoryDevice (l ld : Nat) (s : State) (dpid : BitVec 12 := 0) : Answer := s.mail l ld dpid (.identifyMemoryDevice l ld dpid)
/-- Get Poison List (R477). -/
def execGetPoisonList (l ld dpa len : Nat) (s : State) (dpid : BitVec 12 := 0) : Answer := s.mail l ld dpid (.getPoisonList l ld dpa len dpid)
/-- Inject Poison (R63). -/
def execInjectPoison (l ld dpa : Nat) (s : State) (dpid : BitVec 12 := 0) : Answer := s.mail l ld dpid (.injectPoison l ld dpa dpid)
/-- Clear Poison (R63). -/
def execClearPoison (l ld dpa : Nat) (data : LineData) (s : State) (dpid : BitVec 12 := 0) : Answer := s.mail l ld dpid (.clearPoison l ld dpa data dpid)
/-- Get Scan Media Capabilities. -/
def execGetScanMediaCapabilities (l ld dpa len : Nat) (s : State) (dpid : BitVec 12 := 0) : Answer := s.mail l ld dpid (.getScanMediaCapabilities l ld dpa len dpid)
/-- Scan Media. -/
def execScanMedia (l ld dpa len : Nat) (s : State) (dpid : BitVec 12 := 0) : Answer := s.mail l ld dpid (.scanMedia l ld dpa len dpid)
/-- Get Scan Media Results. -/
def execGetScanMediaResults (l ld : Nat) (s : State) (dpid : BitVec 12 := 0) : Answer := s.mail l ld dpid (.getScanMediaResults l ld dpid)
/-- Sanitize (R64). -/
def execSanitize (l ld : Nat) (s : State) (dpid : BitVec 12 := 0) : Answer := s.mail l ld dpid (.sanitize l ld dpid)
/-- Secure Erase (R64). -/
def execSecureErase (l ld : Nat) (s : State) (dpid : BitVec 12 := 0) : Answer := s.mail l ld dpid (.secureErase l ld dpid)
/-- Get Dynamic Capacity Configuration (R47). -/
def execGetDynamicCapacityConfiguration (l ld : Nat) (s : State) (dpid : BitVec 12 := 0) : Answer := s.mail l ld dpid (.getDynamicCapacityConfiguration l ld dpid)
/-- Get Dynamic Capacity Extent List (R47). -/
def execGetDynamicCapacityExtentList (l ld first count : Nat) (s : State) (dpid : BitVec 12 := 0) : Answer := s.mail l ld dpid (.getDynamicCapacityExtentList l ld first count dpid)
/-- Add Dynamic Capacity Response (R48). -/
def execAddDynamicCapacityResponse (l ld : Nat) (extents : List (Nat × Nat)) (s : State) (dpid : BitVec 12 := 0) : Answer :=
  s.mail l ld dpid (.addDynamicCapacityResponse l ld extents dpid)
/-- Release Dynamic Capacity (R50). -/
def execReleaseDynamicCapacity (l ld dpa len : Nat) (s : State) (dpid : BitVec 12 := 0) : Answer := s.mail l ld dpid (.releaseDynamicCapacity l ld dpa len dpid)
/-- An opcode that the table does not list (R61). -/
def execUnsupportedMailboxCommand (l ld : Nat) (opcode : BitVec 16) (s : State) (dpid : BitVec 12 := 0) : Answer := s.mail l ld dpid (.unsupportedMailboxCommand l ld opcode dpid)
/-- A program's SIGNAL completes (R26). -/
def execMailboxResult (l ld : Nat) (s : State) : Answer := s.onDev fun d => d.mailResult l ld

end Sys2Proof.Machine
end

