-- ==== Sys2Proof/Machine/FwOps.lean ====
section
/-!
DEFINITION. What the firmware cores serve, in the order in which it arrives (R31, R595): the SPDM responder (R586 to R598), the firmware
slots (R577), and the record of the pool ID (R443).
-/
namespace Sys2Proof.Machine

def State.fmAnswer (s : State) (code : CmdCode) (payload : List Nat := []) : State := { s with dev := s.dev.emit (.fm code payload) }
def State.spdmAnswer (s : State) (ch : Nat) (ok : Bool) (payload : List Nat := []) (bytes : List Byte := []) : State :=
  { s with dev := s.dev.emit (.spdm ch ok payload bytes) }
def State.onTrust (s : State) (f : Trust → Trust) : State := { s with trust := f s.trust }

/-! ### Firmware slots (R577) -/

/-- Transfer Firmware: up to 4 KiB into the slot that does not run. -/
def State.transfer (s : State) (off : Nat) (bs : List Byte) : State :=
  if 4096 < bs.length ∨ slotBytes < off + bs.length then s.fmAnswer .invalidInput
  else (s.onTrust fun t => t.program (1 - t.running) off bs).fmAnswer .success

/-- Activate Firmware: the slot that does not run becomes pending; mode 1 resets the firmware cores. -/
def State.activate (s : State) (mode : Nat) : State :=
  if 2 ≤ mode then s.fmAnswer .invalidInput
  else
    let put (t : Trust) : Trust := t.append 2 0 (bytesOfNat 1 t.selection.1 ++ bytesOfNat 7 (1 - t.running)) true
    let s1 := ({ s.onTrust put with dev := s.dev.emit (.flash true 2 0) } : State).fmAnswer .success
    if mode = 1 then s1.fwReset else s1

/-! ### The SPDM responder (R595 to R597; its order of negotiation is log 32) -/

/-- The channels of the responder: 0 is I3C, 1 + link + 8 × logical device a DOE mailbox (log 32). -/
def chLink (ch : Nat) : Nat := (ch - 1) % 8
def chLd (ch : Nat) : Nat := (ch - 1) / 8

/-- How far negotiation on a channel has come: 1 version, 2 capabilities, 3 algorithms. -/
def Trust.stage (t : Trust) (ch : Nat) : Nat := mgetD t.negotiated ch 0

/-- A negotiation step from one stage to the next. -/
def State.negotiate (s : State) (ch stage : Nat) (ok : Bool) (payload : List Nat) : State :=
  if ok ∧ stage ≤ s.trust.stage ch + 1 then
    (s.onTrust fun t => { t with negotiated := mset t.negotiated ch stage }).spdmAnswer ch true payload
  else s.spdmAnswer ch false

/-- An answer that needs completed negotiation. -/
def State.afterAlgorithms (s : State) (ch : Nat) (ok : Bool) (payload : List Nat) (bytes : List Byte := []) : State :=
  if s.trust.stage ch = 3 ∧ ok then s.spdmAnswer ch true payload bytes else s.spdmAnswer ch false

/-- The identity certificate and its chain, which carry the identity public key (R589). -/
def Plat.chain (p : Plat) : List Byte := Config.identityChain (identityKey p.identitySeed)

/-- The signature of an answer at leaf q (R589, R590; what it signs is log 32). -/
def Plat.sign (p : Plat) (q : Nat) : List Byte := identitySign p.identitySeed q (Config.transcript q)

/-- A signed answer. -/
def State.signedAnswer (s : State) (ch q : Nat) (payload : List Nat) : State :=
  s.spdmAnswer ch true (payload ++ [q]) (s.dev.plat.sign q)

/-- An answer that needs a signature (R591, R592, R596): it takes a leaf, waits for a reservation, or is an error once the
engine is exhausted. -/
def State.signed (s : State) (ch : Nat) (ok : Bool) (f : Nat → State → State) : Option State :=
  if s.trust.stage ch ≠ 3 ∨ !ok then some (s.spdmAnswer ch false)
  else match s.trust.takeLeaf with
    | some (q, t) => some (f q { s with trust := t })
    | none => if s.trust.exhausted then some (s.spdmAnswer ch false) else none

/-- Measurement of an index 1 to 8: MR0 to MR7, of which MR4 is the policy program's (R579, R595). -/
def State.measurement (s : State) (index : Nat) : Nat :=
  if index = 5 then s.dev.flow.measure.toNat else (mgetD s.trust.mr (index - 1) 0).toNat

/-- All measurements for index 0xFF, or one. -/
def State.measurements (s : State) (index : Nat) : List Nat :=
  if index = 0xFF then (List.range 8).map fun i => s.measurement (i + 1)
  else if index = 0 then [8]
  else [s.measurement index]

def measureIndexOk (index : Nat) : Bool := decide (index ≤ 8) || index == 0xFF

def Trust.session (t : Trust) (ch id : Nat) : Option Spdm := t.sessions.find? fun x => x.chan == ch && x.id == id

/-- The lowest free session of the four. -/
def Trust.freeSession (t : Trust) : Option Nat := (List.range 4).find? fun n => !t.sessions.any fun x => x.id == n

def State.openSession (s : State) (ch id leaf : Nat) : State :=
  (s.onTrust fun t => { t with sessions := t.sessions ++ [{ chan := ch, id := id }] }).signedAnswer ch leaf [id]

/-- FINISH: the session is up; it is authenticated where the requester's root is the fabric manager's (R586). -/
def State.finishSession (s : State) (ch id : Nat) (root : Option (BitVec 256)) : State :=
  match s.trust.session ch id with
  | some x =>
    if x.up then s.spdmAnswer ch false
    else
      let auth := root.isSome && root == s.trust.fmRoot
      (s.onTrust fun t => { t with
        sessions := t.sessions.map fun y => if y = x then { y with up := true, auth := auth } else y }).spdmAnswer ch true [id]
  | none => s.spdmAnswer ch false

/-- A message inside a session that is up. -/
def State.inSession (s : State) (ch id : Nat) (f : Spdm → State → State) : State :=
  match s.trust.session ch id with
  | some x => if x.up then f x s else s.spdmAnswer ch false
  | none => s.spdmAnswer ch false

/-- Set Wrapping Key (R586): over I3C, mutually authenticated, slots 1 to 15. -/
def State.wrapKey (s : State) (ch slot : Nat) (erase : Bool) (key : BitVec 256) (x : Spdm) : State :=
  if ch = 0 ∧ x.auth ∧ 1 ≤ slot ∧ slot ≤ 15 then
    (s.onTrust fun t => { t with wrap := if erase then merase t.wrap slot else mset t.wrap slot key }).spdmAnswer ch true
  else s.spdmAnswer ch false

/-! ### IDE keys (R52, R598) -/

def Link.ide (k : Link) (stream : Nat) : IdeStream := if stream = 0 then k.cacheIde else k.ioIde
def Link.setIde (k : Link) (stream : Nat) (x : IdeStream) : Link :=
  if stream = 0 then { k with cacheIde := x } else { k with ioIde := x }
def IdeStream.dir (x : IdeStream) (tx : Bool) : IdeDir := if tx then x.tx else x.rx
def IdeStream.setDir (x : IdeStream) (tx : Bool) (y : IdeDir) : IdeStream := if tx then { x with tx := y } else { x with rx := y }
def IdeDir.key (y : IdeDir) (set : Nat) : Option (BitVec 256) := if set = 0 then y.set0 else y.set1

/-- An IDE_KM message: it comes over the DOE mailbox of its own link, f answers the stream it leaves, if it is
accepted, and g what else of the link it sets. -/
def State.ideKm (s : State) (ch link stream : Nat) (f : IdeStream → Option IdeStream) (g : Link → Link := id) : State :=
  let k := s.dev.link link
  match (if ch ≠ 0 ∧ chLink ch = link ∧ s.dev.linkExists link ∧ stream < 2 then f (k.ide stream) else none) with
  | some y => ({ s with dev := s.dev.setLink link (g (k.setIde stream y)) } : State).spdmAnswer ch true
  | none => s.spdmAnswer ch false

/-- KEY_PROG: a set that is not in use takes a key. -/
def keyProgTo (tx : Bool) (set : Nat) (key : BitVec 256) (x : IdeStream) : Option IdeStream :=
  let y := x.dir tx
  if 2 ≤ set ∨ y.inUse = some set then none
  else some (x.setDir tx (if set = 0 then { y with set0 := some key } else { y with set1 := some key }))

/-- K_SET_GO: the direction goes over to a set that holds a key; the stream is secure again. -/
def keyGo (tx : Bool) (set : Nat) (x : IdeStream) : Option IdeStream :=
  let y := x.dir tx
  if 2 ≤ set ∨ (y.key set).isNone then none
  else some { x.setDir tx { y with inUse := some set } with insecure := false }

/-- The mode that K_SET_GO names for the received CXL.cachemem stream, skid or containment (R53, R54; DESIGN CHOICE, log 87: the spec
names both modes and no field that chooses). -/
def ideMode (stream : Nat) (tx skid : Bool) (k : Link) : Link := if stream = 0 ∧ !tx then { k with skid := skid } else k

/-- K_SET_STOP: both sets of each direction are cleared and the stream stops. -/
def keyStop (x : IdeStream) : Option IdeStream := some { x with rx := {}, tx := {} }

/-! ### Cairn records (R31, R490, R563, R564) -/

/-- The device does what a committed record stands for: port widths, a confirmed trial, a channel's stored training. -/
def State.recordKept (s : State) (type inst : Nat) (data : List Byte) : State :=
  match type with
  | 1 =>
    let b := (data.head?).getD 0
    { s with dev := (List.range 4).foldl (fun (d : Dev) p => { d with ports := mset d.ports p { d.port p with recorded := b.getLsbD p } }) s.dev }
  | 5 =>
    let x := s.dev.chan inst
    if inst < 16 then { s with dev := s.dev.setChan inst { x with recordOk := true, spd := (x.slot0, x.slot1) } } else s
  | _ => s

/-- Whether a slot-selection record confirms the trial (R574). -/
def Trust.confirms (t : Trust) (type : Nat) (data : List Byte) : Bool :=
  type == 2 && t.selection.2 == some (natOfBytes (data.take 1)) && natOfBytes ((data.drop 1).take 1) == 0xFF

/-- A leaf reservation (R591, R592): only for the next block, its segment fused first; none is written in segment 16. -/
def State.reserve (s : State) (data : List Byte) (ok : Bool) : State :=
  let t := s.trust
  let seg := t.leafEnd / 2 ^ 26
  if natOfBytes (data.take 4) ≠ t.leafEnd + 256 then s
  else if 16 ≤ seg then
    if t.exhausted then s
    else { s with dev := s.dev.raise { code := 0x7007, cls := 2, unit := 0x394 }, trust := { t with exhausted := true } }
  else
    let t1 := ({ t with leafMark := max t.leafMark (seg + 1) } : Trust).append 3 0 data ok
    { s with dev := s.dev.emit (.flash ok 3 0), trust := if ok then { t1 with leafEnd := t1.leafEnd + 256 } else t1 }

/-- Write a record; one whose read-back differs never commits. -/
def State.putRecord (s : State) (type inst : Nat) (payload : List Byte) (readBackOk : Bool) : State :=
  if type = 3 then s.reserve payload readBackOk
  else
    let t := s.trust
    let t1 := t.append type inst payload readBackOk
    let s1 : State := { s with
      dev := s.dev.emit (.flash readBackOk type inst),
      trust := { t1 with trial := t1.trial && !(readBackOk && t.confirms type payload) } }
    if readBackOk then s1.recordKept type inst payload else s1

/-- The records of the history queue that the fault log does not have yet (R490). -/
def Faults.unspilled (f : Faults) : List FaultRec :=
  let first := f.total.toNat - f.hist.length
  f.hist.drop (f.spilled.toNat - first)

/-- A fault record as its 32 bytes (R488, R490). -/
def FaultRec.bytes (r : FaultRec) : List Byte := (List.range 4).flatMap fun k => bytesOfNat 8 (r.word k)

/-- The payload of the rope pairing record: partner pool, epoch, grottos paired (R448; the bytes are a DESIGN CHOICE, log 4). -/
def pairBytes (r : Rope) : List Byte := bytesOfNat 2 r.partner.toNat ++ bytesOfNat 4 r.epoch.toNat ++ bytesOfNat 8 r.mask.toNat

/-- Firmware, where it runs, writes the records that it owes: repair maps, channel records and the rope pairing, then the fault log (R31, R147,
R150, R448, R490). A record that is read back otherwise is written again, so that each of these ends committed (R564). -/
def State.payDue (s : State) : State :=
  if !s.dev.fwUp || !s.dev.live then s
  else
    let put (s : State) (e : Nat × Nat) : State :=
      let n := s.dev.freeCtr
      let data := if e.1 = 4 then Config.repairRecord n else if e.1 = 6 then pairBytes s.dev.ev.rope else Config.channelRecord n
      let soft := if e.1 = 4 then some (s.dev.chan e.2).usedRepair else none
      { s with
        dev := { s.dev with freeCtr := n + 1 }.emit (.flash true e.1 e.2),
        trust := s.trust.append e.1 e.2 data true soft }
    let s1 := s.dev.due.foldl put { s with dev := { s.dev with due := [] } }
    let log := s1.dev.faults.unspilled
    if log.isEmpty then s1
    else { s1 with
      dev := (s1.dev.onFaults fun f => { f with spilled := f.total }).emit (.flash true 8 0),
      trust := s1.trust.append 8 0 (log.flatMap FaultRec.bytes) true }

/-- The records that waited for firmware are written. -/
def State.writeWaiting (s : State) : State :=
  if s.dev.fwUp then
    s.trust.waiting.foldl (fun (s : State) c => match c with
      | .cairnRecordWrite type inst payload ok => s.putRecord type inst payload ok
      | _ => s) (s.onTrust fun t => { t with waiting := t.waiting.filter fun c => match c with
        | .cairnRecordWrite .. => false
        | _ => true })
  else s

/-! ### Serving and waiting (R31) -/

/-- Serve one command; none where it must wait for a leaf reservation. -/
def State.serve (s : State) (c : Instr) : Option State :=
  match c with
  | .getVersion ch => some (s.negotiate ch 1 true [0x12, 0x13])
  | .getCapabilities ch => some (s.negotiate ch 2 true [])
  | .negotiateAlgorithms ch ok => some (s.negotiate ch 3 ok [])
  | .getDigests ch => some (s.afterAlgorithms ch true [1] (sha256 s.dev.plat.chain))
  | .getCertificate ch slot off len => some (s.afterAlgorithms ch (slot == 0) [slot, off, len] ((s.dev.plat.chain.drop off).take len))
  | .challenge ch slot => s.signed ch (slot == 0) fun q s => s.signedAnswer ch q [slot]
  | .getMeasurements ch index sig =>
    if sig then s.signed ch (measureIndexOk index) fun q s => s.signedAnswer ch q (s.measurements index)
    else some (s.afterAlgorithms ch (measureIndexOk index) (s.measurements index))
  | .keyExchange ch slot =>
    match s.trust.freeSession with
    | some id => s.signed ch (slot == 0) fun q s => s.openSession ch id q
    | none => some (s.spdmAnswer ch false)
  | .finish ch id root => some (s.finishSession ch id root)
  | .heartbeat ch id => some (s.inSession ch id fun _ s => s.spdmAnswer ch true)
  | .keyUpdate ch id => some (s.inSession ch id fun _ s => s.spdmAnswer ch true)
  | .endSession ch id => some (s.inSession ch id fun x s =>
      (s.onTrust fun t => { t with sessions := t.sessions.filter (· != x) }).spdmAnswer ch true)
  | .setWrappingKey ch id slot erase key => some (s.inSession ch id fun x s => s.wrapKey ch slot erase key x)
  | .keyProg ch id link stream tx set key => some (s.inSession ch id fun _ s => s.ideKm ch link stream (keyProgTo tx set key))
  | .kSetGo ch id link stream tx set skid => some (s.inSession ch id fun _ s => s.ideKm ch link stream (keyGo tx set) (ideMode stream tx skid))
  | .kSetStop ch id link stream => some (s.inSession ch id fun _ s => s.ideKm ch link stream keyStop)
  | .transferFirmware off bs => some (s.transfer off bs)
  | .activateFirmware mode => some (s.activate mode)
  | .setPoolId id ack credit => some (s.onTrust fun t => t.append 7 0 (poolBytes id ack credit) true)
  | _ => some s

/-- Serve what waits, in order, as far as it goes. -/
def State.serveAll (s : State) : List Instr → State
  | [] => s.onTrust fun t => { t with waiting := [] }
  | c :: t =>
    if s.dev.fwUp then
      match s.serve c with
      | some s1 => s1.serveAll t
      | none => s.onTrust fun k => { k with waiting := c :: t }
    else s.onTrust fun k => { k with waiting := c :: t }

def State.serveWaiting (s : State) : State := s.serveAll s.trust.waiting

/-- A command for firmware: served after those that wait. -/
def State.ask (s : State) (c : Instr) : State :=
  (s.onTrust fun t => { t with waiting := t.waiting ++ [c] }).serveWaiting

/-- A channel of the responder is open: I3C, or the DOE mailbox of a logical device of a link that is up (R595). -/
def Dev.spdmOpen (d : Dev) (ch : Nat) : Bool :=
  d.live && (ch == 0 || (d.ldExists (chLink ch) (chLd ch) && (d.link (chLink ch)).up && !(d.link (chLink ch)).perst))

/-- An SPDM request arrives and wakes the device. -/
def State.spdm (s : State) (ch : Nat) (c : Instr) : Answer :=
  if s.dev.spdmOpen ch then .next (({ s with dev := if ch = 0 then s.dev.wake 5 0 else s.dev.wake 1 (chLink ch) } : State).ask c) else .next s

end Sys2Proof.Machine
end

