-- ==== Sys2Proof/Machine/Channels.lean ====
section
/-!
DEFINITION. The commands of DRAM channels (04, 13).
-/
namespace Sys2Proof.Machine

/-- REFRESH_DUE (R128, R129, R134). -/
def execRefreshDue (channel rank : Nat) (busy : Bool) (s : State) : Answer := s.onDev (·.refresh channel rank busy)

/-- REFRESH_FLOOR_TRIP (R130). -/
def execRefreshFloorTrip (channel rank : Nat) (s : State) : Answer := s.onDev (·.floorTrip channel rank)

/-- SELF_REFRESH_ENTRY (R131). -/
def execSelfRefreshEntry (channel : Nat) (s : State) : Answer := s.onDev (·.idleRefresh channel)

/-- SCRUB_OWED_EXIT (R132). -/
def execScrubOwedExit (channel : Nat) (s : State) : Answer := s.onDev (·.scrubExit channel)

/-- RECALIBRATION (R146, R147). -/
def execRecalibration (channel rank : Nat) (driftOk : Bool) (s : State) : Answer := s.onDev (·.recalibrate channel rank driftOk)

/-- RANK_RETRAIN_COMPLETE (R147, R142): firmware, where it runs, writes the channel's record. -/
def execRankRetrainComplete (channel rank : Nat) (ok : Bool) (s : State) : Answer :=
  .next ({ s with dev := s.dev.retrainDone channel rank ok } : State).payDue

/-- TEMPERATURE_READ (R135 to R137). -/
def execTemperatureRead (channel : Nat) (celsius : Int) (fastRefresh : Bool) (s : State) : Answer :=
  s.onDev (·.tempRead channel celsius fastRefresh)

/-- CA_PARITY_ERROR (R148). -/
def execCaParityError (channel slot : Nat) (second : Bool) (s : State) : Answer := s.onDev (·.caParity channel slot second)

/-- The soft repairs that the repair map of a channel records (R150, R151, R569). -/
def Trust.softRepairs (t : Trust) (c : Nat) : List Nat :=
  match t.record 4 c with
  | some r => r.soft.getD (Config.repairMap r.data)
  | none => []

/-- TRAINING_COMPLETE (R117 to R119, R142, R151), with the channel's Cairn record (R143). -/
def execTrainingComplete (channel : Nat) (r : TrainReport) (s : State) : Answer :=
  .next ({ s with dev := s.dev.trained channel r (s.trust.softRepairs channel) } : State).payDue

/-- CRAWL_PASS_START (R481). -/
def execCrawlPassStart (channel : Nat) (s : State) : Answer := s.onDev (·.crawlStart channel)

/-- CRAWL_LINE (R481 to R484). -/
def execCrawlLine (channel frame line : Nat) (obs : LineObs) (s : State) : Answer := s.onDev (·.crawl channel frame line obs)

end Sys2Proof.Machine
end

