-- ==== Sys2Proof/Machine/EvWire.lean ====
section
/-!
DEFINITION. The 256 bytes of an Evoil flit (R424 to R427, R442): as a port sends them, and as it reads them.
-/
namespace Sys2Proof.Machine

/-- The CRC-64 of a flit (R425). -/
def flitCrc (bs : List Byte) : Nat :=
  checkValue { poly := 0x42F0E1EBA9EA3693, init := 2 ^ 64 - 1, width := 64, refin := true, refout := true, invert := true, big := false } bs

/-! ### Sending -/

/-- A header slot (R426): kind, flags, tag, and what is specific to the kind, which starts at byte 4. -/
def headSlot (kind flags tag : Nat) (rest : List Byte) : List Byte :=
  bytesOfNat 1 kind ++ bytesOfNat 1 flags ++ bytesOfNat 2 tag ++ (rest ++ List.replicate 12 0#8).take 12

/-- Line data on the link (R427): ciphertext, or 64 zero bytes where a flag says what the line is. -/
def wireLine (flagged : Bool) (key : BitVec 512) (tweak : Nat) (data : LineData) : List Byte :=
  if flagged then List.replicate 64 0 else lineBytes (xtsLine false key tweak data)

/-- A mirror line or rope read data (the table of their header). -/
def lineMsgWire (m : LineMsg) (kind tag : Nat) (seq : BitVec 32) : List Byte :=
  headSlot kind (flag m.poison 0 + flag m.zero 1 + flag m.resent 2 + flag m.rebuild 3) tag
    (bytesOfNat 1 m.grotto ++ bytesOfNat 5 m.line ++ bytesOfNat 2 0 ++ bytesOfNat 4 seq.toNat) ++
  wireLine (m.poison || m.zero) m.key (lineTweak m.grotto (m.line / 64) (m.line % 64)) m.data

/-- A pool ID of a hello, with its valid bit. -/
def poolWire (p : Option (BitVec 12)) : List Byte := bytesOfNat 2 (match p with
  | some v => v.toNat + 2 ^ 15
  | none => 0)

/-- The slots of a message (R426, R442). -/
def msgWire : EvMsg → List Byte
  | .mirrorLine m => lineMsgWire m 0x01 0 m.seq
  | .mapChange a n g page s =>
    headSlot 0x02 a (n - 1) (bytesOfNat 1 g ++ bytesOfNat 5 page ++ bytesOfNat 2 0 ++ bytesOfNat 4 s.toNat)
  | .placement s => headSlot 0x03 0 0 (List.replicate 8 0 ++ bytesOfNat 4 s.toNat)
  | .ropeRead whole tag g line => headSlot 0x04 (flag whole 0) tag (bytesOfNat 1 g ++ bytesOfNat 5 line)
  | .ropeData m => lineMsgWire m 0x05 m.tag 0
  | .guestRequest tag => headSlot 0x06 0 tag []
  | .guestGrant refused tag h => headSlot 0x07 (flag refused 0) tag (bytesOfNat 5 h.toNat)
  | .guestRelease h => headSlot 0x08 0 0 (bytesOfNat 5 h.toNat)
  | .guestWrite poison zero tag h line data key tweak =>
    headSlot 0x09 (flag poison 0 + flag zero 1) tag (bytesOfNat 5 h.toNat ++ bytesOfNat 1 line) ++ wireLine (poison || zero) key tweak data
  | .guestRead tag h line => headSlot 0x0A 0 tag (bytesOfNat 5 h.toNat ++ bytesOfNat 1 line)
  | .guestData poison zero tag data key tweak =>
    headSlot 0x0B (flag poison 0 + flag zero 1) tag [] ++ wireLine (poison || zero) key tweak data
  | .guestPlaced tag => headSlot 0x0C 0 tag []
  | .hello slots member pool rope epoch session =>
    headSlot 0x0D slots member.toNat (poolWire pool ++ poolWire rope ++ bytesOfNat 4 epoch.toNat ++ bytesOfNat 4 session.toNat)
  | .ropeControl a g c e k0 k1 =>
    headSlot 0x0E a 0 (bytesOfNat 1 g ++ bytesOfNat 3 0 ++
      bytesOfNat 8 (if a = 0 then c % 2 ^ 18 + e % 2 ^ 18 * 2 ^ 18 + k0.toNat * 2 ^ 36 + k1.toNat * 2 ^ 50 else 0))
  | .handleList last hs =>
    headSlot 0x0F (flag last 0) hs.length [] ++ hs.flatMap (fun h => bytesOfNat 8 h.toNat) ++ (if hs.length % 2 = 1 then List.replicate 8 0 else [])
  | .reserved k => headSlot k 0 0 []

/-- The header of a flit (R424). -/
def flitHeader (kind seq ack credit : Nat) (nak : Bool) : Nat :=
  kind * 2 ^ 60 + flag nak 59 + ack * 2 ^ 47 + seq * 2 ^ 35 + credit * 2 ^ 23

/-- The bytes of a flit: header, slots, CRC. -/
def flitWire (kind seq ack credit : Nat) (nak : Bool) (ms : List EvMsg) : List Byte :=
  let body := bytesOfNat 8 (flitHeader kind seq ack credit nak) ++ (ms.flatMap msgWire ++ List.replicate 240 0#8).take 240
  body ++ bytesOfNat 8 (flitCrc body)

/-- What leaves an Evoil port. -/
def Out.wire (o : Out) : List Byte :=
  match o.msg with
  | .flit _ kind seq ack credit nak ms => flitWire kind seq ack credit nak ms
  | _ => []

/-! ### Reading -/

/-- n bytes from byte i of a message. -/
def wireField (s : List Byte) (i n : Nat) : Nat := natOfBytes ((s.drop i).take n)

/-- Line data as it is held here: opened under a key of zeros, so that whatever key it is opened under next gets the ciphertext. -/
def readWire (flagged : Bool) (tweak : Nat) (s : List Byte) : LineData :=
  if flagged then 0 else xtsLine true 0 tweak (BitVec.ofNat 512 (wireField s 16 64))

def readLineMsg (s : List Byte) (tag : Nat) (seq : BitVec 32) : LineMsg :=
  let f := wireField s 1 1
  let line := wireField s 5 5 % 2 ^ 39
  let g := wireField s 4 1 % 64
  { poison := f.testBit 0, zero := f.testBit 1, resent := f.testBit 2, rebuild := f.testBit 3, tag := tag, grotto := g, line := line, seq := seq,
    data := readWire (f.testBit 0 || f.testBit 1) (lineTweak g (line / 64) (line % 64)) s }

def readPool (v : Nat) : Option (BitVec 12) := if v.testBit 15 then some (BitVec.ofNat 12 v) else none

/-- The message that a header slot begins, by its kind (R426). -/
def readMsg (s : List Byte) : EvMsg :=
  let f := wireField s 1 1
  let tag := wireField s 2 2
  let seq : BitVec 32 := BitVec.ofNat 32 (wireField s 12 4)
  let h : BitVec 33 := BitVec.ofNat 33 (wireField s 4 5)
  match wireField s 0 1 with
  | 0x01 => .mirrorLine (readLineMsg s 0 seq)
  | 0x02 => .mapChange f (tag + 1) (wireField s 4 1 % 64) (wireField s 5 5) seq
  | 0x03 => .placement seq
  | 0x04 => .ropeRead (f.testBit 0) tag (wireField s 4 1 % 64) (wireField s 5 5)
  | 0x05 => .ropeData (readLineMsg s tag 0)
  | 0x06 => .guestRequest tag
  | 0x07 => .guestGrant (f.testBit 0) tag h
  | 0x08 => .guestRelease h
  | 0x09 => .guestWrite (f.testBit 0) (f.testBit 1) tag h (wireField s 9 1) (readWire (f.testBit 0 || f.testBit 1) 0 s) 0 0
  | 0x0A => .guestRead tag h (wireField s 9 1)
  | 0x0B => .guestData (f.testBit 0) (f.testBit 1) tag (readWire (f.testBit 0 || f.testBit 1) 0 s) 0 0
  | 0x0C => .guestPlaced tag
  | 0x0D => .hello f (BitVec.ofNat 16 tag) (readPool (wireField s 4 2)) (readPool (wireField s 6 2))
      (BitVec.ofNat 32 (wireField s 8 4)) seq
  | 0x0E =>
    let v := wireField s 8 8
    .ropeControl f (wireField s 4 1 % 64) (v % 2 ^ 18) (v / 2 ^ 18 % 2 ^ 18) (BitVec.ofNat 14 (v / 2 ^ 36)) (BitVec.ofNat 14 (v / 2 ^ 50))
  | 0x0F => .handleList (f.testBit 0) ((List.range tag).map fun i => BitVec.ofNat 33 (wireField s (16 + 8 * i) 8))
  | k => .reserved k

/-- Whether the fields of a message that its table calls reserved are zero. -/
def wireClean (s : List Byte) : Bool :=
  match wireField s 0 1 with
  | 0x01 | 0x05 =>
    decide (wireField s 1 1 < 16) && decide (wireField s 4 1 < 64) && decide (wireField s 5 5 < 2 ^ 39) && wireField s 10 2 == 0
  | 0x0D => wireField s 4 2 / 4096 % 8 == 0 && wireField s 6 2 / 4096 % 8 == 0
  | _ => true

/-- The messages in the slots of a flit, in order, and whether their reserved fields are zero. A message that the slots left do not hold is of
no kind that may be used; slots of kind 0 follow the last one. -/
def readSlots : Nat → Nat → List Byte → List EvMsg × Bool
  | 0, _, _ => ([], true)
  | n + 1, left, s =>
    if left = 0 ∨ wireField s 0 1 = 0 then ([], true)
    else
      let m := readMsg s
      let k := msgSlots m
      if left < k then ([.reserved (wireField s 0 1)], true)
      else
        let (ms, ok) := readSlots n (left - k) (s.drop (16 * k))
        (m :: ms, wireClean s && ok)

/-- A flit from its 256 bytes (R424, R425). -/
def readFlit (bs : List Byte) : Flit :=
  let h := natOfBytes (bs.take 8)
  let (ms, ok) := if bitsOf h 63 60 = 1 then readSlots 15 15 ((bs.drop 8).take 240) else ([], true)
  { crcOk := bs.length == 256 && natOfBytes (bs.drop 248) == flitCrc (bs.take 248), kind := bitsOf h 63 60, nak := h.testBit 59,
    ack := BitVec.ofNat 12 (bitsOf h 58 47), seq := BitVec.ofNat 12 (bitsOf h 46 35), credit := BitVec.ofNat 12 (bitsOf h 34 23),
    resvOk := ok && h % 2 ^ 23 == 0, msgs := ms }

end Sys2Proof.Machine
end

