-- ==== Sys2Proof/Machine/Evoil.lean ====
section
/-!
DEFINITION. What happens on the Evoil ports (12): flits, timers, link-up, and the messages as they are handled.
-/
namespace Sys2Proof.Machine

/-- FLIT (R424, R425, R428 to R433, R437): a flit is what its 256 bytes say where the command names them. -/
def execFlit (p : Nat) (f : Flit) (s : State) (raw : List Byte := []) : Answer :=
  s.onDev fun d => d.flitIn p (if raw.isEmpty then f else readFlit raw)

/-- NAK_INTERVAL_EXPIRY (R432). -/
def execNakIntervalExpiry (p : Nat) (s : State) : Answer :=
  s.onDev fun d => if p < 2 then d.modEv p fun x => { x with nakSent := false } else d

/-- Whether an active port of a device whose ports work. -/
def Dev.evActive (d : Dev) (p : Nat) : Bool := decide (p < 2) && d.evLive && (d.evPort p).state == 2

/-- ACK_TIMEOUT (R434). -/
def execAckTimeout (p : Nat) (s : State) : Answer :=
  s.onDev fun d => if d.evActive p && !(d.evPort p).echo.isEmpty then d.flitFails p (d.evPort p).unacked else d

/-- RETRAIN_COMPLETE (R440): the port is active and replays from U; a retrain that no flit caused has succeeded. -/
def execRetrainComplete (p : Nat) (s : State) : Answer :=
  s.onDev fun d =>
    let x := d.evPort p
    if p < 2 ∧ d.evLive ∧ x.state = 3 then
      if x.retrainCause.isNone then
        (((d.setEv p { x with state := 2, retrains := 0, echo := x.echo.map fun e => (e.1, 0) }).replay p 0).raise
          { code := 0x5002, cls := 1, unit := unitEv p, att := 2 }).evPump p evFuel
      else ((d.setEv p { x with state := 2, echo := x.echo.map fun e => (e.1, 0) }).replay p 0).evPump p evFuel
    else d

/-- RETRAIN_TIMEOUT (R440). -/
def execRetrainTimeout (p : Nat) (s : State) : Answer :=
  s.onDev fun d => if p < 2 ∧ d.evLive ∧ (d.evPort p).state = 3 then d.startRetrain p (d.evPort p).retrainCause else d

/-- CONTROL_INTERVAL (R431). -/
def execControlInterval (p : Nat) (s : State) : Answer := s.onDev fun d => if d.evActive p then d.evControl p else d

/-- CREDIT_TIMEOUT (R438). -/
def execCreditTimeout (p : Nat) (s : State) : Answer :=
  s.onDev fun d =>
    let x := d.evPort p
    if d.evActive p && !x.txq.isEmpty && decide (512 ≤ (x.nextSeq - x.limit).toNat) then
      (d.bump (evCnt p 14) d.ev.creditUs).portDown p 0x10#8 true
    else d

/-- LIVENESS (R439). -/
def execLiveness (p : Nat) (s : State) : Answer :=
  s.onDev fun d => if d.evActive p then (d.evFault p 0x08#8).startRetrain p (d.evPort p).retrainCause else d

/-- ELECTRICAL_IDLE_TIMEOUT (R422). -/
def execElectricalIdleTimeout (p : Nat) (s : State) : Answer :=
  s.onDev fun d => if d.evActive p then d.portDown p 0 false else d

/-- LINK_UP_ATTEMPT (R422). -/
def execLinkUpAttempt (p : Nat) (s : State) : Answer :=
  s.onDev fun d => if p < 2 ∧ d.evLive ∧ (d.evPort p).state = 0 then d.modEv p fun x => { x with state := 1 } else d

/-- EVOIL_LINK_UP (R422, R442). -/
def execEvoilLinkUp (p : Nat) (x4 : Bool) (s : State) : Answer := s.onDev fun d => d.evUp p x4

/-- HELLO (R442, R462). -/
def execHello (p : Nat) (s : State) : Answer :=
  s.onDev fun d => d.handle p fun d m => match m with
    | .hello n mb pool rope e ss => some (d.helloIn p n mb pool rope e ss)
    | _ => none

/-- MIRROR_LINE (R451). -/
def execMirrorLine (p : Nat) (s : State) : Answer :=
  s.onDev fun d => d.handle p fun d m => match m with
    | .mirrorLine l => some (d.mirrorIn p l)
    | _ => none

/-- MIRROR_MAP_CHANGE (R447, R449, R451). -/
def execMirrorMapChange (p : Nat) (s : State) : Answer :=
  s.onDev fun d => d.handle p fun d m => match m with
    | .mapChange a n g page q => some (d.mapChangeIn p a n g page q)
    | _ => none

/-- PLACEMENT_REPORT (R452, R460). -/
def execPlacementReport (p : Nat) (s : State) : Answer :=
  s.onDev fun d => d.handle p fun d m => match m with
    | .placement q => some (d.placedUpTo p q)
    | _ => none

/-- ROPE_READ (R457). -/
def execRopeRead (p : Nat) (s : State) : Answer :=
  s.onDev fun d => d.handle p fun d m => match m with
    | .ropeRead whole tag g line => some (d.ropeReadIn p whole tag g line)
    | _ => none

/-- ROPE_READ_DATA (R457). -/
def execRopeReadData (p : Nat) (s : State) : Answer :=
  s.onDev fun d => d.handle p fun d m => match m with
    | .ropeData l => some (d.ropeDataIn p l)
    | _ => none

/-- ROPE_CONTROL (R446, R455, R458, R460). -/
def execRopeControl (p : Nat) (s : State) : Answer :=
  .next ({ s with dev := s.dev.handle p fun d m => match m with
    | .ropeControl a g c e k0 k1 => some (match a with
      | 0 => d.pairIn p g c e k0 k1
      | 1 => d.ropeAlone 2
      | 2 => d.onRope fun r => { r with copies := merase r.copies g }
      | 3 => d.onRope fun r => { r with copies := mset r.copies g r.epoch }
      | _ => d)
    | _ => none } : State).payDue

/-- GUEST_REQUEST (R259, R461). -/
def execGuestRequest (p : Nat) (s : State) : Answer :=
  s.onDev fun d => d.handle p fun d m => match m with
    | .guestRequest tag => some (d.guestAsk p tag)
    | _ => none

/-- GUEST_GRANT (R461, R333). -/
def execGuestGrant (p : Nat) (s : State) : Answer :=
  s.onDev fun d => d.handle p fun d m => match m with
    | .guestGrant refused tag h => some (d.grantIn p refused tag h)
    | _ => none

/-- GUEST_RELEASE (R461). -/
def execGuestRelease (p : Nat) (s : State) : Answer :=
  s.onDev fun d => d.handle p fun d m => match m with
    | .guestRelease h => some (d.guestFree p h.toNat).after
    | _ => none

/-- GUEST_LINE_WRITE (R259, R461). -/
def execGuestLineWrite (p : Nat) (s : State) : Answer :=
  s.onDev fun d => d.handle p fun d m => match m with
    | .guestWrite poison zero tag h line data key tweak => some (d.guestStore p poison zero tag h line data key tweak)
    | _ => none

/-- GUEST_LINE_READ (R461). -/
def execGuestLineRead (p : Nat) (s : State) : Answer :=
  s.onDev fun d => d.handle p fun d m => match m with
    | .guestRead tag h line => some (d.guestGive p tag h line)
    | _ => none

/-- GUEST_LINE_DATA (R261). -/
def execGuestLineData (p : Nat) (s : State) : Answer :=
  s.onDev fun d => d.handle p fun d m => match m with
    | .guestData poison zero tag data key tweak => some (d.guestDataIn p poison zero tag data key tweak)
    | _ => none

/-- GUEST_PLACED (R260, R261). -/
def execGuestPlaced (p : Nat) (s : State) : Answer :=
  s.onDev fun d => d.handle p fun d m => match m with
    | .guestPlaced tag => some (d.guestPlacedIn p tag)
    | _ => none

/-- HANDLE_LIST (R263, R462). -/
def execHandleList (p : Nat) (s : State) : Answer :=
  s.onDev fun d => d.handle p fun d m => match m with
    | .handleList last hs => some (d.handleListIn p last hs)
    | _ => none

end Sys2Proof.Machine
end

