-- ==== Sys2Proof/Machine/Flowstone.lean ====
section
/-!
DEFINITION. The commands of Flowstone and of the class windows (07, 14).
-/
namespace Sys2Proof.Machine

/-- EPOCH_BOUNDARY (R241, R242). -/
def execEpochBoundary (s : State) : Answer := s.onDev (·.epochEnd)

/-- PRESSURE_RUN_REPEAT (R243). -/
def execPressureRunRepeat (s : State) : Answer := s.onDev (·.pressureAgain)

/-- SWEEP_LINE_VISIT (R239, R240, R245). -/
def execSweepLineVisit (lineIdx : Nat) (s : State) : Answer := s.onDev (·.sweepLine lineIdx)

/-- BUDGET_WINDOW (R249). -/
def execBudgetWindow (s : State) : Answer := s.onDev (·.budgets)

/-- MOVE_COPY_DONE (R250, R251). -/
def execMoveCopyDone (mover : Nat) (s : State) (obs : List SubObs := []) (lines : List (Nat × LineObs) := []) : Answer :=
  s.onDev (·.copyDone mover obs lines)

/-- MOVE_COMMIT (R250, R255). -/
def execMoveCommit (mover : Nat) (s : State) : Answer := s.onDev (·.commitMove mover)

/-- MOVE_HOLD_DEADLINE (R253). -/
def execMoveHoldDeadline (mover : Nat) (s : State) : Answer := s.onDev (·.holdExpire mover)

/-- CLASS_WINDOW_END (R500 to R503, R507). -/
def execClassWindowEnd (backlogged late : BitVec 16) (s : State) (many : List Nat := []) : Answer := s.onDev (·.windowEnd backlogged late many)

/-- CLASS_PERIOD_END (R508). -/
def execClassPeriodEnd (s : State) : Answer := s.onDev (·.periodEnd)

end Sys2Proof.Machine
end

