-- ==== Sys2Proof/Machine/FmApi.lean ====
section
/-!
DEFINITION. The FM API commands (R43, R58, R267, R443, R561, R577, R607). They arrive over I3C or a mailbox of an FM-owned logical
device, and wake the device as source 5.
-/
namespace Sys2Proof.Machine

/-- An FM API command reaches the device where the core has power. -/
def State.fm (s : State) (f : State → State) : Answer :=
  if s.dev.live then .next (f { s with dev := s.dev.wake 5 0 }) else .next s

/-- A command of the device alone: it answers with a code and a payload. -/
def State.fmDev (s : State) (f : Dev → CmdCode × List Nat × Dev) : Answer :=
  s.fm fun s => let (code, pl, d) := f s.dev; ({ s with dev := d } : State).fmAnswer code pl

/-! ### Logical devices (R43, R58) -/

/-- Committed capacity, in 256 MiB units, of the grottos that each logical device of a link owns. -/
def Dev.allocations (d : Dev) (link : Nat) : List Nat :=
  (List.range (d.ldCount link)).map fun ld => ((d.owned link ld).map fun e => e.2.committed).sum

def Dev.ldInfo (d : Dev) (link : Nat) (f : Dev → List Nat) : CmdCode × List Nat × Dev :=
  if d.linkExists link then (.success, f d, d) else (.invalidInput, [], d)

/-- Whether a queue or a class descriptor names a vector index of a logical device at or above a count. -/
def Dev.namesVector (d : Dev) (link ld count : Nat) : Bool :=
  (d.queues.qs.any fun e => !privQ e.1 && decide (d.ownerOf e.2 = (link, ld) ∧ count ≤ e.2.recd.vector)) ||
    d.qos.classes.any fun e => e.2.notify && decide (e.2.nLink = link ∧ e.2.nLd = ld ∧ count ≤ e.2.vector)

/-- Whether a vector range meets that of another logical device of the link. -/
def Dev.vectorsMeet (d : Dev) (link ld base count : Nat) : Bool :=
  (List.range (d.ldCount link)).any fun n =>
    let x := d.ld link n
    n != ld && decide (base < x.base n + x.vecCount ∧ x.base n < base + count)

/-- Set LD Options (R58). -/
def Dev.ldOptions (d : Dev) (link ld base count : Nat) (inject : Bool) : CmdCode × List Nat × Dev :=
  let x := d.ld link ld
  if !d.linkExists link ∨ d.ldCount link ≤ ld ∨ count = 0 ∨ d.vectors link < base + count ∨ d.vectorsMeet link ld base count ∨ x.msixOn ∨
      d.namesVector link ld count then (.invalidInput, [], d)
  else (.success, [], d.setLd link ld { x with vecBase := some base, vecCount := count, injectOk := inject })

/-! ### The pool ID (R443) -/

/-- The ranges of the times (R434, R438), and no rope, spill permission or guest frame. -/
def Dev.poolFree (d : Dev) (ack credit : Nat) : Bool :=
  decide (1 ≤ ack ∧ ack ≤ 64 ∧ 10 ≤ credit ∧ credit ≤ 10000 ∧ credit % 10 = 0) && d.ev.rope.state == 0 && !d.ev.p0.spillOk &&
    !d.ev.p1.spillOk && d.mem.guests.isEmpty

def State.poolId (s : State) (id : BitVec 12) (ack credit : Nat) : State :=
  if s.dev.poolFree ack credit then
    let d := s.dev.onEv fun e => { e with pool := some id, ackUs := ack, creditUs := credit }
    ((({ s with dev := d } : State).fmAnswer .success).ask (.setPoolId id ack credit))
  else s.fmAnswer .invalidInput

/-! ### Fabric-manager queues (R267) -/

/-- Put words into a ring as they are. -/
def Dev.putWords (d : Dev) (q : Nat) (x : Queue) (p : BitVec 32) : List (BitVec 128) → Dev
  | [] => d
  | w :: t =>
    let a := d.slotArea q x p
    let c : Ctx := { q := q, who := .quiet, src := 128, cls := 0 }
    (d.putBytes c a 2 a.base (clean (bytesOfNat 16 w.toNat))).putWords q x (p + 1) t

/-- A command that names a fabric-manager queue. -/
def Dev.fmQueue (d : Dev) (q : Nat) (f : Queue → CmdCode × List Nat × Dev) : CmdCode × List Nat × Dev :=
  match (if isFm q then d.queue? q else none) with
  | some x => f x
  | none => (.invalidInput, [], d)

/-- Submit Instructions: 1 to 64 words from the tail on, and the new tail. -/
def Dev.submit (d : Dev) (q : Nat) (ws : List (BitVec 128)) (tail : BitVec 32) : CmdCode × List Nat × Dev :=
  d.fmQueue q fun x =>
    if ws.isEmpty ∨ 64 < ws.length ∨ tail ≠ x.tail + BitVec.ofNat 32 ws.length ∨ !x.tailOk tail then (.invalidInput, [], d)
    else (.success, [], ((d.putWords q x x.tail ws).recordTail q x tail).after)

/-- Get Completion Records: each as four words; their consumption is recorded. -/
def Dev.records (d : Dev) (q : Nat) (first : BitVec 32) (n : Nat) : CmdCode × List Nat × Dev :=
  d.fmQueue q fun x =>
    if n = 0 ∨ 32 < n then (.invalidInput, [], d)
    else
      let rec_ (i : Nat) : Nat := (mgetD d.queues.fmRecs (q * 256 + (first.toNat + i) % x.crSize) 0).toNat
      (.success, (List.range n).flatMap (fun i => (List.range 4).map fun k => bitsOf (rec_ i) (64 * k + 63) (64 * k)),
        (d.recordConsumed q x (first + BitVec.ofNat 32 n)).after)

/-- Set Queue Run: as a write of Q_RUN. -/
def Dev.fmRun (d : Dev) (q : Nat) (run : Bool) : CmdCode × List Nat × Dev :=
  d.fmQueue q fun x => (.success, [], (d.doorRun { mgmt := true } (q * 0x1000 + 0x20) q x run).after)

/-! ### Registers (R607) -/

def regOffset (off : Nat) : Bool := decide (off % 8 = 0 ∧ off < 2 ^ 23)

/-- Read Device Register: as a clearing 64-bit read; storage in error gives no value (R472). -/
def State.readReg (s : State) (off : Nat) : State :=
  if !regOffset off then s.fmAnswer .invalidInput
  else
    let d := s.dev.arrayRead unitRegs 0x2001
    let bad := (d.faults.arrays.find? fun e => e.1 == off).map (·.2)
    let d1 := d.onFaults fun f => { f with arrays := f.arrays.filter fun e => e.1 != off || decide (2 ≤ e.2) }
    match bad with
    | some (_ + 2) => ({ s with dev := d1.arrayFault unitRegs none } : State).fmAnswer .internalError
    | some 1 =>
      let (x, s1) := ({ s with dev := d1.raise { code := 0x2001, cls := 1, unit := unitRegs, att := 1 } } : State).readBlock off true
      s1.fmAnswer .success [x.toNat]
    | _ =>
      let (x, s1) := ({ s with dev := d1 } : State).readBlock off true
      s1.fmAnswer .success [x.toNat]

def Dev.writeReg (d : Dev) (off : Nat) (value : Word) : CmdCode × List Nat × Dev :=
  if regOffset off then (.success, [], (d.writeBlock { mgmt := true } off value (BitVec.allOnes 64)).after) else (.invalidInput, [], d)

/-! ### The commands -/

/-- Get LD Info: the count of logical devices (R43). -/
def execGetLdInfo (link : Nat) (s : State) : Answer := s.fmDev fun d => d.ldInfo link fun d => [d.ldCount link]
/-- Get LD Allocations (R43). -/
def execGetLdAllocations (link : Nat) (s : State) : Answer := s.fmDev fun d => d.ldInfo link fun d => d.allocations link
/-- Set LD Allocations completes with Unsupported (R43). -/
def execSetLdAllocations (_link : Nat) (s : State) : Answer := s.fmDev fun d => (.unsupported, [], d)
/-- Set LD Options (R58). -/
def execSetLdOptions (link ld base count : Nat) (inject : Bool) (s : State) : Answer := s.fmDev fun d => d.ldOptions link ld base count inject
/-- Set Pool ID (R443). -/
def execSetPoolId (id : BitVec 12) (ack credit : Nat) (s : State) : Answer := s.fm fun s => s.poolId id ack credit
/-- Submit Instructions (R267). -/
def execSubmitInstructions (q : Nat) (ws : List (BitVec 128)) (tail : BitVec 32) (s : State) : Answer := s.fmDev fun d => d.submit q ws tail
/-- Get Queue Status: the doorbell block (R267). -/
def execGetQueueStatus (q : Nat) (s : State) : Answer := s.fmDev fun d => d.fmQueue q fun x => (.success, x.doorbell, d)
/-- Get Completion Records (R267). -/
def execGetCompletionRecords (q : Nat) (first : BitVec 32) (n : Nat) (s : State) : Answer := s.fmDev fun d => d.records q first n
/-- Set Queue Run (R267). -/
def execSetQueueRun (q : Nat) (run : Bool) (s : State) : Answer := s.fmDev fun d => d.fmRun q run
/-- Transfer Firmware (R577): firmware writes the slot. -/
def execTransferFirmware (off : Nat) (bs : List Byte) (s : State) : Answer := s.fm fun s => s.ask (.transferFirmware off bs)
/-- Activate Firmware (R577). -/
def execActivateFirmware (mode : Nat) (s : State) : Answer := s.fm fun s => s.ask (.activateFirmware mode)
/-- Provision FM Root: once in the device's life (R561). -/
def execProvisionFmRoot (hash : BitVec 256) (s : State) : Answer :=
  s.fm fun s =>
    if s.trust.fmRoot.isSome then s.fmAnswer .invalidInput
    else (s.onTrust fun t => { t with fmRoot := some hash }).fmAnswer .success
/-- Read Device Register (R607). -/
def execReadDeviceRegister (off : Nat) (s : State) : Answer := s.fm fun s => s.readReg off
/-- Write Device Register (R607). -/
def execWriteDeviceRegister (off : Nat) (value : Word) (s : State) : Answer := s.fmDev fun d => d.writeReg off value

end Sys2Proof.Machine
end

