-- ==== Sys2Proof/Machine/HostMem.lean ====
section
/-!
DEFINITION. The host's CXL.mem commands and snoop responses (02, 05).
-/
namespace Sys2Proof.Machine

/-- RDS: a read that caches the line shared (R162). -/
def execRds (h : MemHdr) (hpa : BitVec 64) (s : State) : Answer := s.onDev (·.memArrive h (.rds h hpa))

/-- RDE: a read that takes ownership (R162). -/
def execRde (h : MemHdr) (hpa : BitVec 64) (s : State) : Answer := s.onDev (·.memArrive h (.rde h hpa))

/-- RDI: a read that caches nothing (R162). -/
def execRdi (h : MemHdr) (hpa : BitVec 64) (s : State) : Answer := s.onDev (·.memArrive h (.rdi h hpa))

/-- WB: a writeback, leaving I or S (R162, R168, R169). -/
def execWb (h : MemHdr) (hpa : BitVec 64) (data : LineData) (poison leaveS : Bool) (s : State) : Answer :=
  s.onDev (·.memArrive h (.wb h hpa data poison leaveS))

/-- MEMCLNEVCT: a clean-eviction notice (R162, R180). -/
def execMemclnevct (h : MemHdr) (hpa : BitVec 64) (s : State) : Answer := s.onDev (·.memArrive h (.memclnevct h hpa))

/-- WRNC: a write by a host that is not the E holder (R24, R162, R170). -/
def execWrnc (h : MemHdr) (hpa : BitVec 64) (mask : ByteMask) (data : LineData) (poison : Bool) (s : State) : Answer :=
  s.onDev (·.memArrive h (.wrnc h hpa mask data poison))

/-- BICONFLICT: acknowledged in order on its channel (R46). -/
def execBiconflict (h : MemHdr) (hpa : BitVec 64) (s : State) : Answer :=
  s.onDev (·.memArrive h (.biconflict h hpa))

/-- BIRSPI: the host holds no copy (R167). -/
def execBirspi (link ld tag : Nat) (s : State) (dpid : BitVec 12 := 0) : Answer := s.onDev (·.snoopAnswer link ld tag 0 dpid)

/-- BIRSPS: the host keeps a shared copy (R167). -/
def execBirsps (link ld tag : Nat) (s : State) (dpid : BitVec 12 := 0) : Answer := s.onDev (·.snoopAnswer link ld tag 1 dpid)

/-- BIRSPE: the host keeps an exclusive copy (R167). -/
def execBirspe (link ld tag : Nat) (s : State) (dpid : BitVec 12 := 0) : Answer := s.onDev (·.snoopAnswer link ld tag 2 dpid)

/-- SNOOP_TIMEOUT (R181, R182). -/
def execSnoopTimeout (link tag : Nat) (s : State) : Answer := s.onDev (·.snoopLate link tag)

/-- FENCE_SWEEP_COMPLETE (R183). -/
def execFenceSweepComplete (grotto src : Nat) (s : State) : Answer := s.onDev (·.sweepDone grotto src)

end Sys2Proof.Machine
end

