-- ==== Sys2Proof/Machine/Ports.lean ====
section
/-!
DEFINITION. The commands of host ports: PERST_N, links, IDE failures, power management, decoders and vectors (02).
-/
namespace Sys2Proof.Machine

/-- PERST_N_ASSERT (R67 to R70, R32, R627). -/
def execPerstNAssert (port : Nat) (halfB : Bool) (s : State) : Answer := s.onDev (·.perstFall port halfB)

/-- PERST_CLEANUP_DONE (R69). -/
def execPerstCleanupDone (link : Nat) (s : State) : Answer := s.onDev (·.perstClean link)

/-- PERST_N_RELEASE (R70). -/
def execPerstNRelease (port : Nat) (halfB : Bool) (s : State) : Answer := s.onDev (·.perstRise port halfB)

/-- HOST_LINK_UP (R34, R35, R36). -/
def execHostLinkUp (link : Nat) (cxl : Bool) (rate width : Nat) (s : State) (opts : LinkUp := {}) : Answer :=
  s.onDev (·.linkTrained link cxl rate width opts)

/-- HOST_LINK_DOWN (R33). -/
def execHostLinkDown (link : Nat) (s : State) : Answer := s.onDev (·.linkLost link)

/-- IDE_INTEGRITY_FAILURE (R55). -/
def execIdeIntegrityFailure (link stream : Nat) (s : State) : Answer := s.onDev (·.ideFail link stream)

/-- PME_TURN_OFF (R75). -/
def execPmeTurnOff (link : Nat) (s : State) (dpid : BitVec 12 := 0) : Answer := s.onDev (·.pme link dpid)

/-- DECODER_COMMIT (R40, R41). -/
def execDecoderCommit (link ld n : Nat) (cfg : DecoderCfg) (s : State) (dpid : BitVec 12 := 0) : Answer :=
  s.onDev fun d => d.ioArrive link ld dpid false (.decoderCommit link ld n cfg dpid) (·.commitDecoder link ld n cfg)

/-- DECODER_UNCOMMIT (R40). -/
def execDecoderUncommit (link ld n : Nat) (s : State) (dpid : BitVec 12 := 0) : Answer :=
  s.onDev fun d => d.ioArrive link ld dpid false (.decoderUncommit link ld n dpid) (·.uncommitDecoder link ld n)

/-- VECTOR_UNMASK (R60). -/
def execVectorUnmask (link ld k : Nat) (s : State) (dpid : BitVec 12 := 0) : Answer :=
  s.onDev fun d => d.ioArrive link ld dpid false (.vectorUnmask link ld k dpid) (·.unmask link ld k)

end Sys2Proof.Machine
end

