-- ==== Sys2Proof/Machine/Registers.lean ====
section
/-!
DEFINITION. The commands on registers of the device block: clearing reads and counter commands (13, 14, 15, 17).
-/
namespace Sys2Proof.Machine

/-- FAULT_CONSUMED_WRITE (R492): a value ahead of total is ignored with an EVENT. -/
def execFaultConsumedWrite (v : RegView) (off : Nat) (value : Word) (s : State) : Answer :=
  s.onDev fun d => d.viewArrive v 4 (.faultConsumedWrite v off value) (·.writeConsumed v off value)

/-- FAULT_STATUS_READ (R492, R604, R606). -/
def execFaultStatusRead (v : RegView) (wide : Bool) (s : State) : Answer :=
  s.onDev fun d => d.viewArrive v 4 (.faultStatusRead v wide) (·.rcRead v wide Dev.readFaultStatus)

/-- CH_FAULT_READ (R154, R604). -/
def execChFaultRead (v : RegView) (n : Nat) (wide : Bool) (s : State) : Answer :=
  s.onDev fun d => d.viewArrive v 4 (.chFaultRead v n wide) (·.rcRead v wide fun e => e.readChFault n)

/-- EV_FAULT_READ (R463, R604). -/
def execEvFaultRead (v : RegView) (n : Nat) (wide : Bool) (s : State) : Answer :=
  s.onDev fun d => d.viewArrive v 4 (.evFaultRead v n wide) (·.rcRead v wide fun e => e.readEvFault n)

/-- CLASS_STATUS_READ (R509). -/
def execClassStatusRead (v : RegView) (wide : Bool) (s : State) : Answer :=
  s.onDev fun d => d.viewArrive v 4 (.classStatusRead v wide) (·.rcRead v wide Dev.readClassStatus)

/-- PWR_RETAIN_READ (R559). -/
def execPwrRetainRead (v : RegView) (wide : Bool) (s : State) : Answer :=
  s.onDev fun d => d.viewArrive v 4 (.pwrRetainRead v wide) (·.rcRead v wide Dev.readRetain)

/-- CNT_WRAP_READ (R522). -/
def execCntWrapRead (v : RegView) (j : Nat) (wide : Bool) (s : State) : Answer :=
  s.onDev fun d => d.viewArrive v 4 (.cntWrapRead v j wide) (·.rcRead v wide fun e => e.readWrap j)

/-- DEV_TAG_WRITE (R614, R616): the first write through the control view sets the tag. -/
def execDevTagWrite (v : RegView) (off : Nat) (value : Word) (s : State) : Answer :=
  s.onDev fun d => d.viewArrive v 4 (.devTagWrite v off value) (·.writeTag v off value)

/-- CNT_CLEAR_ALL (R514, R515). -/
def execCntClearAll (v : RegView) (s : State) : Answer :=
  s.onDev fun d => d.viewArrive v 4 (.cntClearAll v) (·.cntCmd v true (·.clear fun _ => true))

/-- CNT_CLEAR_RANGE (R514, R515). -/
def execCntClearRange (v : RegView) (first last : Nat) (s : State) : Answer :=
  s.onDev fun d => d.viewArrive v 4 (.cntClearRange v first last) (·.cntCmd v (rangeGood first last) (·.clear fun n => decide (first ≤ n ∧ n ≤ last)))

/-- CNT_CHAIN (R511, R514). -/
def execCntChain (v : RegView) (first last : Nat) (s : State) : Answer :=
  s.onDev fun d => d.viewArrive v 4 (.cntChain v first last) (·.cntCmd v (rangeGood first last) (·.chainAll first last))

/-- CNT_UNCHAIN (R511, R514). -/
def execCntUnchain (v : RegView) (first last : Nat) (s : State) : Answer :=
  s.onDev fun d => d.viewArrive v 4 (.cntUnchain v first last) (·.cntCmd v (rangeGood first last) (·.unchainAll first last))

/-- CNT_SET_MODE (R512, R514). -/
def execCntSetMode (v : RegView) (saturating : Bool) (s : State) : Answer :=
  s.onDev fun d => d.viewArrive v 4 (.cntSetMode v saturating) (·.cntCmd v true fun c => { c with sat := saturating })

/-- CNT_SET_BANDWIDTH_WINDOW (R514, R517). -/
def execCntSetBandwidthWindow (v : RegView) (us : Nat) (s : State) : Answer :=
  s.onDev fun d => d.viewArrive v 4 (.cntSetBandwidthWindow v us) (·.cntCmd v (decide (1 ≤ us ∧ us ≤ 1000000)) fun c => { c with nextWindow := us })

/-- CNT_SURVEY (R514, R519, R520). -/
def execCntSurvey (v : RegView) (s : State) : Answer :=
  s.onDev fun d => d.viewArrive v 4 (.cntSurvey v) (·.surveyCmd v)

/-- SURVEY_COMPLETE (R520). -/
def execSurveyComplete (s : State) : Answer := s.onDev (·.surveyDone)

/-- BANDWIDTH_WINDOW_END (R517, R518). -/
def execBandwidthWindowEnd (s : State) : Answer := s.onDev (·.bwEnd)

end Sys2Proof.Machine
end

