-- ==== Sys2Proof/Machine/Late.lean ====
section
/-!
DEFINITION. The end of DEEP (15), and what the links brought while the device was not back in RUN (R74, R528).
-/
namespace Sys2Proof.Machine

/-- A command of CXL.io that a link brought in DEEP, arriving in RUN. -/
def lateIo (c : Instr) (s : State) : Answer :=
  match c with
  | .pmeTurnOff l p => execPmeTurnOff l s p
  | .decoderCommit l x n k p => execDecoderCommit l x n k s p
  | .decoderUncommit l x n p => execDecoderUncommit l x n s p
  | .vectorUnmask l x k p => execVectorUnmask l x k s p
  | .dbTailWrite l x o w p => execDbTailWrite l x o w s p
  | .qRunSet l x o p => execQRunSet l x o s p
  | .qRunClear l x o p => execQRunClear l x o s p
  | .crConsumedWrite l x o w p => execCrConsumedWrite l x o w s p
  | .registerWrite v b o n w => execRegisterWrite v b o n w s
  | .faultConsumedWrite v o w => execFaultConsumedWrite v o w s
  | .faultStatusRead v w => execFaultStatusRead v w s
  | .chFaultRead v n w => execChFaultRead v n w s
  | .evFaultRead v n w => execEvFaultRead v n w s
  | .classStatusRead v w => execClassStatusRead v w s
  | .pwrRetainRead v w => execPwrRetainRead v w s
  | .cntWrapRead v j w => execCntWrapRead v j w s
  | .devTagWrite v o w => execDevTagWrite v o w s
  | .cntClearAll v => execCntClearAll v s
  | .cntClearRange v a b => execCntClearRange v a b s
  | .cntChain v a b => execCntChain v a b s
  | .cntUnchain v a b => execCntUnchain v a b s
  | .cntSetMode v m => execCntSetMode v m s
  | .cntSetBandwidthWindow v n => execCntSetBandwidthWindow v n s
  | .cntSurvey v => execCntSurvey v s
  | _ => match mailTo c with
    | some (l, x, p) => s.mail l x p c
    | none => .next s

/-- Serve one command that waited for RUN; a CXL.mem message has had its MAC checked. -/
def serveLate (s : State) (c : Instr) : State :=
  if (memReqOf c).isSome then { s with dev := (s.dev.memAct c).after }
  else match lateIo c s with
    | .next t => t
    | _ => s

/-- DEEP_EXIT_COMPLETE (R530, R539): back in RUN, what waited is served in the order it came. -/
def execDeepExitComplete (failedCanaries : List Bank) (s : State) (fixed : List (Bank × Nat) := []) : Answer :=
  let d := s.dev.deepLeft failedCanaries fixed
  if d.asleep then .next { s with dev := d }
  else .next (d.late.foldl serveLate { s with dev := { d with late := [] } })

end Sys2Proof.Machine
end

