-- ==== Sys2Proof/Machine/Pages.lean ====
section
/-!
DEFINITION. The commands of pages: returns, commits, waits and lapses (03, 06, 13).
-/
namespace Sys2Proof.Machine

/-- MAP_FILL_RETURN (R89, R91, R93, R94). -/
def execMapFillReturn (lineIdx : Nat) (obs : LineObs) (s : State) : Answer := s.onDev (·.fillReturn lineIdx obs)

/-- DRAM_LINE_RETURN (R123 to R125, R469, R479, R480). -/
def execDramLineReturn (channel frame line : Nat) (obs : LineObs) (s : State) (ready : Option (List Nat) := none) : Answer :=
  s.onDev (·.lineReturn channel frame line obs ready)

/-- SUB_BLOCK_DECOMPRESSED (R207 to R209). -/
def execSubBlockDecompressed (grotto page sub : Nat) (obs : SubObs) (s : State) : Answer :=
  s.onDev (·.subReturn grotto page sub obs)

/-- SOFT_REPAIR_COMPLETE (R149, R150): firmware, where it runs, records the repair (R31). -/
def execSoftRepairComplete (channel : Nat) (effective : Bool) (s : State) : Answer :=
  .next ({ s with dev := s.dev.repairDone channel effective } : State).payDue

/-- PROMOTION_COMMIT (R212, R213). -/
def execPromotionCommit (grotto page : Nat) (s : State) (obs : List SubObs := []) : Answer :=
  s.onDev (·.promoDone grotto page obs)

/-- MAP_UPDATE_RECORD_COMMIT (R214). -/
def execMapUpdateRecordCommit (grotto page : Nat) (s : State) (obs : List SubObs := []) : Answer :=
  s.onDev (·.recordCommit grotto page obs)

/-- RECOMPRESSION_WRITES_DONE (R214, R215). -/
def execRecompressionWritesDone (grotto page : Nat) (s : State) : Answer := s.onDev (·.recompDone grotto page)

/-- FRAME_WAIT_LIMIT (R109). -/
def execFrameWaitLimit (index : Nat) (s : State) : Answer := s.onDev (·.waitExpire index)

/-- ZEROER_FRAME_DONE (R97, R107). -/
def execZeroerFrameDone (channel frame : Nat) (s : State) : Answer := s.onDev (·.zeroerDone channel frame)

/-- EXTENT_OFFER_LAPSE (R48). -/
def execExtentOfferLapse (grotto dpa : Nat) (s : State) : Answer := s.onDev (·.offerLapse grotto dpa)

end Sys2Proof.Machine
end

