-- ==== Sys2Proof/Machine/Spdm.lean ====
section
/-!
DEFINITION. SPDM requests and IDE key messages (16, R52). Firmware serves them one at a time; they wait while it does not run.
-/
namespace Sys2Proof.Machine

/-- GET_VERSION: 1.2 and 1.3. -/
def execGetVersion (ch : Nat) (s : State) : Answer := s.spdm ch (.getVersion ch)
/-- GET_CAPABILITIES. -/
def execGetCapabilities (ch : Nat) (s : State) : Answer := s.spdm ch (.getCapabilities ch)
/-- NEGOTIATE_ALGORITHMS; ok: the requester offers the algorithms of R595. -/
def execNegotiateAlgorithms (ch : Nat) (ok : Bool) (s : State) : Answer := s.spdm ch (.negotiateAlgorithms ch ok)
/-- GET_DIGESTS: slot 0 alone. -/
def execGetDigests (ch : Nat) (s : State) : Answer := s.spdm ch (.getDigests ch)
/-- GET_CERTIFICATE. -/
def execGetCertificate (ch slot off len : Nat) (s : State) : Answer := s.spdm ch (.getCertificate ch slot off len)
/-- CHALLENGE: a signed answer (R596). -/
def execChallenge (ch slot : Nat) (s : State) : Answer := s.spdm ch (.challenge ch slot)
/-- GET_MEASUREMENTS: indices 1 to 8 are MR0 to MR7; a signed answer takes a leaf (R595, R596). -/
def execGetMeasurements (ch index : Nat) (sig : Bool) (s : State) : Answer := s.spdm ch (.getMeasurements ch index sig)
/-- KEY_EXCHANGE: one of four sessions, a signed answer (R595, R596). -/
def execKeyExchange (ch slot : Nat) (s : State) : Answer := s.spdm ch (.keyExchange ch slot)
/-- FINISH (R586, R595). -/
def execFinish (ch sess : Nat) (root : Option (BitVec 256)) (s : State) : Answer := s.spdm ch (.finish ch sess root)
/-- HEARTBEAT. -/
def execHeartbeat (ch sess : Nat) (s : State) : Answer := s.spdm ch (.heartbeat ch sess)
/-- KEY_UPDATE. -/
def execKeyUpdate (ch sess : Nat) (s : State) : Answer := s.spdm ch (.keyUpdate ch sess)
/-- END_SESSION (R597). -/
def execEndSession (ch sess : Nat) (s : State) : Answer := s.spdm ch (.endSession ch sess)
/-- Set Wrapping Key (R586). -/
def execSetWrappingKey (ch sess slot : Nat) (erase : Bool) (key : BitVec 256) (s : State) : Answer :=
  s.spdm ch (.setWrappingKey ch sess slot erase key)
/-- KEY_PROG (R598). -/
def execKeyProg (ch sess link stream : Nat) (tx : Bool) (set : Nat) (key : BitVec 256) (s : State) : Answer :=
  s.spdm ch (.keyProg ch sess link stream tx set key)
/-- K_SET_GO (R598, R53, R54). -/
def execKSetGo (ch sess link stream : Nat) (tx : Bool) (set : Nat) (s : State) (skid : Bool := false) : Answer :=
  s.spdm ch (.kSetGo ch sess link stream tx set skid)
/-- K_SET_STOP (R598). -/
def execKSetStop (ch sess link stream : Nat) (s : State) : Answer := s.spdm ch (.kSetStop ch sess link stream)

end Sys2Proof.Machine
end

