-- ==== Sys2Proof/Machine/Trust.lean ====
section
/-!
DEFINITION. What firmware and the ROM do of themselves (16): Cairn records, signing reservations, the watchdog, the SVN fuses, and the
release of firmware from a slot.
-/
namespace Sys2Proof.Machine

/-- CAIRN_RECORD_WRITE (R563, R564): while the firmware cores are stopped it waits (R31). -/
def execCairnRecordWrite (type inst : Nat) (payload : List Byte) (readBackOk : Bool) (s : State) : Answer :=
  if !s.dev.live ∨ 65515 < payload.length then .next s
  else if s.dev.fwUp then .next (((s.putRecord type inst payload readBackOk).payDue).serveWaiting)
  else .next (s.onTrust fun t => { t with waiting := t.waiting ++ [.cairnRecordWrite type inst payload readBackOk] })

/-- WATCHDOG_RESTART (R557). -/
def execWatchdogRestart (s : State) : Answer :=
  .next (if s.dev.live ∧ s.dev.fwUp then s.onTrust fun t => { t with wdAt := s.dev.lamp } else s)

/-- Ticks of Lamp time after which the watchdog may expire: 1 s less its tolerance of 1 ms. -/
def watchdogTicks : Nat := 32735

/-- WATCHDOG_EXPIRY (R557): the firmware cores alone are reset. -/
def execWatchdogExpiry (s : State) : Answer :=
  .next (if s.dev.live ∧ s.dev.fwUp ∧ s.trust.wdAt + watchdogTicks ≤ s.dev.lamp then
      { s.fwReset with dev := s.fwReset.dev.raise { code := 0x7003, cls := 2, unit := 0x390 } }
    else s)

/-- CAIRN_BLOCK_ERASE (R567). -/
def execCairnBlockErase (s : State) : Answer := .next (if s.dev.live ∧ s.dev.fwUp then s.onTrust Trust.compact else s)

/-- SVN_RAISE (R576): to the running image's svn, once it is confirmed and if its flags[0] allows. -/
def execSvnRaise (s : State) : Answer :=
  let t := s.trust
  .next (if s.dev.live ∧ s.dev.fwUp ∧ !t.onTrial ∧ (t.flash t.running 7).getLsbD 0 ∧ t.svn < t.svnRun then
      s.onTrust fun t => { t with svn := t.svnRun }
    else s)

/-- FIRMWARE_RELEASE (R569, R571 to R575, R579): the store is read, lost naming the records that cannot be; the ROM tries the slots in order;
firmware reads the SPDs in BOOT (R118, R144), and the records and commands that waited go on (R31). -/
def execFirmwareRelease (s : State) (spd : List (Nat × Option Dimm × Option Dimm) := []) (lost : List Nat := []) : Answer :=
  if !s.dev.live ∨ s.dev.fwUp ∨ s.trust.noImage then .next s
  else
    let s0 := s.readStore lost
    let (t, order) := s0.trust.bootOrder
    let s1 := ({ s0 with trust := t.measureBoot s.dev.plat } : State).trySlots false order
    let s2 : State := if s1.dev.fwUp then { s1 with dev := spd.foldl (fun (d : Dev) e => d.spdRead e.1 e.2.1 e.2.2) s1.dev } else s1
    .next ((s2.writeWaiting.payDue).serveWaiting)

end Sys2Proof.Machine
end

