-- ==== Sys2Proof/Machine/Dispatch.lean ====
section
/-!
DEFINITION. The meaning of each command, one arm each, in the order of Syntax.lean.
-/
namespace Sys2Proof.Machine

def exec (i : Instr) (s : State) : Host.Outcome State Fault Refusal :=
  match i with
  | .rds h hpa => Sys2Proof.Machine.execRds h hpa s
  | .rde h hpa => Sys2Proof.Machine.execRde h hpa s
  | .rdi h hpa => Sys2Proof.Machine.execRdi h hpa s
  | .wb h hpa data poison leaveS => Sys2Proof.Machine.execWb h hpa data poison leaveS s
  | .memclnevct h hpa => Sys2Proof.Machine.execMemclnevct h hpa s
  | .wrnc h hpa mask data poison => Sys2Proof.Machine.execWrnc h hpa mask data poison s
  | .biconflict h hpa => Sys2Proof.Machine.execBiconflict h hpa s
  | .birspi link ld tag dpid => Sys2Proof.Machine.execBirspi link ld tag s dpid
  | .birsps link ld tag dpid => Sys2Proof.Machine.execBirsps link ld tag s dpid
  | .birspe link ld tag dpid => Sys2Proof.Machine.execBirspe link ld tag s dpid
  | .snoopTimeout link tag => Sys2Proof.Machine.execSnoopTimeout link tag s
  | .fenceSweepComplete grotto src => Sys2Proof.Machine.execFenceSweepComplete grotto src s
  | .perstNAssert port halfB => Sys2Proof.Machine.execPerstNAssert port halfB s
  | .perstCleanupDone link => Sys2Proof.Machine.execPerstCleanupDone link s
  | .perstNRelease port halfB => Sys2Proof.Machine.execPerstNRelease port halfB s
  | .hostLinkUp link cxl rate width opts => Sys2Proof.Machine.execHostLinkUp link cxl rate width s opts
  | .ideIntegrityFailure link stream => Sys2Proof.Machine.execIdeIntegrityFailure link stream s
  | .pmeTurnOff link dpid => Sys2Proof.Machine.execPmeTurnOff link s dpid
  | .decoderCommit link ld n cfg dpid => Sys2Proof.Machine.execDecoderCommit link ld n cfg s dpid
  | .decoderUncommit link ld n dpid => Sys2Proof.Machine.execDecoderUncommit link ld n s dpid
  | .vectorUnmask link ld k dpid => Sys2Proof.Machine.execVectorUnmask link ld k s dpid
  | .identify link ld dpid => Sys2Proof.Machine.execIdentify link ld s dpid
  | .backgroundOperationStatus link ld dpid => Sys2Proof.Machine.execBackgroundOperationStatus link ld s dpid
  | .getEventRecords link ld log dpid => Sys2Proof.Machine.execGetEventRecords link ld log s dpid
  | .clearEventRecords link ld log count dpid => Sys2Proof.Machine.execClearEventRecords link ld log count s dpid
  | .getEventInterruptPolicy link ld dpid => Sys2Proof.Machine.execGetEventInterruptPolicy link ld s dpid
  | .setEventInterruptPolicy link ld policy dpid => Sys2Proof.Machine.execSetEventInterruptPolicy link ld policy s dpid
  | .identifyMemoryDevice link ld dpid => Sys2Proof.Machine.execIdentifyMemoryDevice link ld s dpid
  | .getPoisonList link ld dpa len dpid => Sys2Proof.Machine.execGetPoisonList link ld dpa len s dpid
  | .injectPoison link ld dpa dpid => Sys2Proof.Machine.execInjectPoison link ld dpa s dpid
  | .clearPoison link ld dpa data dpid => Sys2Proof.Machine.execClearPoison link ld dpa data s dpid
  | .getScanMediaCapabilities link ld dpa len dpid => Sys2Proof.Machine.execGetScanMediaCapabilities link ld dpa len s dpid
  | .scanMedia link ld dpa len dpid => Sys2Proof.Machine.execScanMedia link ld dpa len s dpid
  | .getScanMediaResults link ld dpid => Sys2Proof.Machine.execGetScanMediaResults link ld s dpid
  | .sanitize link ld dpid => Sys2Proof.Machine.execSanitize link ld s dpid
  | .secureErase link ld dpid => Sys2Proof.Machine.execSecureErase link ld s dpid
  | .getDynamicCapacityConfiguration link ld dpid => Sys2Proof.Machine.execGetDynamicCapacityConfiguration link ld s dpid
  | .getDynamicCapacityExtentList link ld first count dpid => Sys2Proof.Machine.execGetDynamicCapacityExtentList link ld first count s dpid
  | .addDynamicCapacityResponse link ld extents dpid => Sys2Proof.Machine.execAddDynamicCapacityResponse link ld extents s dpid
  | .releaseDynamicCapacity link ld dpa len dpid => Sys2Proof.Machine.execReleaseDynamicCapacity link ld dpa len s dpid
  | .unsupportedMailboxCommand link ld opcode dpid => Sys2Proof.Machine.execUnsupportedMailboxCommand link ld opcode s dpid
  | .mailboxResult link ld => Sys2Proof.Machine.execMailboxResult link ld s
  | .getLdInfo link => Sys2Proof.Machine.execGetLdInfo link s
  | .getLdAllocations link => Sys2Proof.Machine.execGetLdAllocations link s
  | .setLdAllocations link => Sys2Proof.Machine.execSetLdAllocations link s
  | .setLdOptions link ld vectorBase vectorCount injectPoison => Sys2Proof.Machine.execSetLdOptions link ld vectorBase vectorCount injectPoison s
  | .setPoolId id ackUs creditUs => Sys2Proof.Machine.execSetPoolId id ackUs creditUs s
  | .submitInstructions q words tail => Sys2Proof.Machine.execSubmitInstructions q words tail s
  | .getQueueStatus q => Sys2Proof.Machine.execGetQueueStatus q s
  | .getCompletionRecords q first count => Sys2Proof.Machine.execGetCompletionRecords q first count s
  | .setQueueRun q run => Sys2Proof.Machine.execSetQueueRun q run s
  | .transferFirmware offset bytes => Sys2Proof.Machine.execTransferFirmware offset bytes s
  | .activateFirmware mode => Sys2Proof.Machine.execActivateFirmware mode s
  | .provisionFmRoot hash => Sys2Proof.Machine.execProvisionFmRoot hash s
  | .readDeviceRegister off => Sys2Proof.Machine.execReadDeviceRegister off s
  | .writeDeviceRegister off value => Sys2Proof.Machine.execWriteDeviceRegister off value s
  | .getVersion ch => Sys2Proof.Machine.execGetVersion ch s
  | .getCapabilities ch => Sys2Proof.Machine.execGetCapabilities ch s
  | .negotiateAlgorithms ch ok => Sys2Proof.Machine.execNegotiateAlgorithms ch ok s
  | .getDigests ch => Sys2Proof.Machine.execGetDigests ch s
  | .getCertificate ch slot offset len => Sys2Proof.Machine.execGetCertificate ch slot offset len s
  | .challenge ch slot => Sys2Proof.Machine.execChallenge ch slot s
  | .getMeasurements ch index signed => Sys2Proof.Machine.execGetMeasurements ch index signed s
  | .keyExchange ch slot => Sys2Proof.Machine.execKeyExchange ch slot s
  | .finish ch sess rootHash => Sys2Proof.Machine.execFinish ch sess rootHash s
  | .heartbeat ch sess => Sys2Proof.Machine.execHeartbeat ch sess s
  | .keyUpdate ch sess => Sys2Proof.Machine.execKeyUpdate ch sess s
  | .endSession ch sess => Sys2Proof.Machine.execEndSession ch sess s
  | .setWrappingKey ch sess slot erase key => Sys2Proof.Machine.execSetWrappingKey ch sess slot erase key s
  | .keyProg ch sess link stream tx set key => Sys2Proof.Machine.execKeyProg ch sess link stream tx set key s
  | .kSetGo ch sess link stream tx set skid => Sys2Proof.Machine.execKSetGo ch sess link stream tx set s skid
  | .kSetStop ch sess link stream => Sys2Proof.Machine.execKSetStop ch sess link stream s
  | .dbTailWrite link ld off value dpid => Sys2Proof.Machine.execDbTailWrite link ld off value s dpid
  | .qRunSet link ld off dpid => Sys2Proof.Machine.execQRunSet link ld off s dpid
  | .qRunClear link ld off dpid => Sys2Proof.Machine.execQRunClear link ld off s dpid
  | .crConsumedWrite link ld off value dpid => Sys2Proof.Machine.execCrConsumedWrite link ld off value s dpid
  | .faultConsumedWrite v off value => Sys2Proof.Machine.execFaultConsumedWrite v off value s
  | .faultStatusRead v wide => Sys2Proof.Machine.execFaultStatusRead v wide s
  | .chFaultRead v n wide => Sys2Proof.Machine.execChFaultRead v n wide s
  | .evFaultRead v n wide => Sys2Proof.Machine.execEvFaultRead v n wide s
  | .classStatusRead v wide => Sys2Proof.Machine.execClassStatusRead v wide s
  | .pwrRetainRead v wide => Sys2Proof.Machine.execPwrRetainRead v wide s
  | .cntWrapRead v j wide => Sys2Proof.Machine.execCntWrapRead v j wide s
  | .devTagWrite v off value => Sys2Proof.Machine.execDevTagWrite v off value s
  | .cntClearAll v => Sys2Proof.Machine.execCntClearAll v s
  | .cntClearRange v first last => Sys2Proof.Machine.execCntClearRange v first last s
  | .cntChain v first last => Sys2Proof.Machine.execCntChain v first last s
  | .cntUnchain v first last => Sys2Proof.Machine.execCntUnchain v first last s
  | .cntSetMode v saturating => Sys2Proof.Machine.execCntSetMode v saturating s
  | .cntSetBandwidthWindow v us => Sys2Proof.Machine.execCntSetBandwidthWindow v us s
  | .cntSurvey v => Sys2Proof.Machine.execCntSurvey v s
  | .registerWrite v bar off size value => Sys2Proof.Machine.execRegisterWrite v bar off size value s
  | .nop q w => Sys2Proof.Machine.execNop q w s
  | .halt q w => Sys2Proof.Machine.execHalt q w s
  | .fence q w => Sys2Proof.Machine.execFence q w s
  | .signal q w => Sys2Proof.Machine.execSignal q w s
  | .branch q w => Sys2Proof.Machine.execBranch q w s
  | .loop q w => Sys2Proof.Machine.execLoop q w s
  | .wait q w => Sys2Proof.Machine.execWait q w s
  | .timer q w => Sys2Proof.Machine.execTimer q w s
  | .seti q w => Sys2Proof.Machine.execSeti q w s
  | .alu q w => Sys2Proof.Machine.execAlu q w s
  | .load q w => Sys2Proof.Machine.execLoad q w s
  | .store q w => Sys2Proof.Machine.execStore q w s
  | .copy q w => Sys2Proof.Machine.execCopy q w s
  | .fill q w => Sys2Proof.Machine.execFill q w s
  | .zero q w => Sys2Proof.Machine.execZero q w s
  | .prefetch q w => Sys2Proof.Machine.execPrefetch q w s
  | .migrate q w => Sys2Proof.Machine.execMigrate q w s
  | .spill q w => Sys2Proof.Machine.execSpill q w s
  | .compress q w => Sys2Proof.Machine.execCompress q w s
  | .decompress q w => Sys2Proof.Machine.execDecompress q w s
  | .check q w => Sys2Proof.Machine.execCheck q w s
  | .hash q w => Sys2Proof.Machine.execHash q w s
  | .byteswap q w => Sys2Proof.Machine.execByteswap q w s
  | .scan q w => Sys2Proof.Machine.execScan q w s
  | .gather q w => Sys2Proof.Machine.execGather q w s
  | .scatter q w => Sys2Proof.Machine.execScatter q w s
  | .probe q w => Sys2Proof.Machine.execProbe q w s
  | .reduce q w => Sys2Proof.Machine.execReduce q w s
  | .add q w => Sys2Proof.Machine.execAdd q w s
  | .cas q w => Sys2Proof.Machine.execCas q w s
  | .swap q w => Sys2Proof.Machine.execSwap q w s
  | .smin q w => Sys2Proof.Machine.execSmin q w s
  | .umin q w => Sys2Proof.Machine.execUmin q w s
  | .smax q w => Sys2Proof.Machine.execSmax q w s
  | .umax q w => Sys2Proof.Machine.execUmax q w s
  | .grottoWrite q w => Sys2Proof.Machine.execGrottoWrite q w s
  | .grottoRead q w => Sys2Proof.Machine.execGrottoRead q w s
  | .grottoAttach q w => Sys2Proof.Machine.execGrottoAttach q w s
  | .grottoDetach q w => Sys2Proof.Machine.execGrottoDetach q w s
  | .grottoReturnToService q w => Sys2Proof.Machine.execGrottoReturnToService q w s
  | .grottoOfferExtent q w => Sys2Proof.Machine.execGrottoOfferExtent q w s
  | .grottoDelete q w => Sys2Proof.Machine.execGrottoDelete q w s
  | .queueWrite q w => Sys2Proof.Machine.execQueueWrite q w s
  | .queueDelete q w => Sys2Proof.Machine.execQueueDelete q w s
  | .queueRead q w => Sys2Proof.Machine.execQueueRead q w s
  | .windowWrite q w => Sys2Proof.Machine.execWindowWrite q w s
  | .windowInvalidate q w => Sys2Proof.Machine.execWindowInvalidate q w s
  | .windowRead q w => Sys2Proof.Machine.execWindowRead q w s
  | .keyloadLoad q w => Sys2Proof.Machine.execKeyloadLoad q w s
  | .keyloadErase q w => Sys2Proof.Machine.execKeyloadErase q w s
  | .setclassWrite q w => Sys2Proof.Machine.execSetclassWrite q w s
  | .setclassScrubReserve q w => Sys2Proof.Machine.execSetclassScrubReserve q w s
  | .setclassRead q w => Sys2Proof.Machine.execSetclassRead q w s
  | .ropeForm q w => Sys2Proof.Machine.execRopeForm q w s
  | .ropeRemove q w => Sys2Proof.Machine.execRopeRemove q w s
  | .ropePermitSpill q w => Sys2Proof.Machine.execRopePermitSpill q w s
  | .ropeWithdrawSpill q w => Sys2Proof.Machine.execRopeWithdrawSpill q w s
  | .ropeStartRebuild q w => Sys2Proof.Machine.execRopeStartRebuild q w s
  | .policyDescriptor q w => Sys2Proof.Machine.execPolicyDescriptor q w s
  | .policyGrottoEntry q w => Sys2Proof.Machine.execPolicyGrottoEntry q w s
  | .policyLoadProgram q w => Sys2Proof.Machine.execPolicyLoadProgram q w s
  | .policySetLimits q w => Sys2Proof.Machine.execPolicySetLimits q w s
  | .policyReadLimits q w => Sys2Proof.Machine.execPolicyReadLimits q w s
  | .powerDeepPermission q w => Sys2Proof.Machine.execPowerDeepPermission q w s
  | .powerEnterDeep q w => Sys2Proof.Machine.execPowerEnterDeep q w s
  | .powerCap q w => Sys2Proof.Machine.execPowerCap q w s
  | .powerForwardBias q w => Sys2Proof.Machine.execPowerForwardBias q w s
  | .injectFlipMask q w => Sys2Proof.Machine.execInjectFlipMask q w s
  | .injectInvertedCheckBits q w => Sys2Proof.Machine.execInjectInvertedCheckBits q w s
  | .injectDisarm q w => Sys2Proof.Machine.execInjectDisarm q w s
  | .survey q w => Sys2Proof.Machine.execSurvey q w s
  | .spare q w => Sys2Proof.Machine.execSpare q w s
  | .record q w => Sys2Proof.Machine.execRecord q w s
  | .illegalInstruction q word => Sys2Proof.Machine.execIllegalInstruction q word s
  | .contextBind q => Sys2Proof.Machine.execContextBind q s
  | .contextYield q => Sys2Proof.Machine.execContextYield q s
  | .tornReread q => Sys2Proof.Machine.execTornReread q s
  | .instructionComplete q pos hw => Sys2Proof.Machine.execInstructionComplete q pos hw s
  | .progressRecordCommit q => Sys2Proof.Machine.execProgressRecordCommit q s
  | .timeLimit q pos => Sys2Proof.Machine.execTimeLimit q pos s
  | .waitTimeout q pos => Sys2Proof.Machine.execWaitTimeout q pos s
  | .waitReread q pos => Sys2Proof.Machine.execWaitReread q pos s
  | .waitDeadline q pos => Sys2Proof.Machine.execWaitDeadline q pos s
  | .runPlacement port => Sys2Proof.Machine.execRunPlacement port s
  | .firmwareSubmission port words => Sys2Proof.Machine.execFirmwareSubmission port words s
  | .mapFillReturn lineIdx obs => Sys2Proof.Machine.execMapFillReturn lineIdx obs s
  | .dramLineReturn channel frame line obs ready => Sys2Proof.Machine.execDramLineReturn channel frame line obs s ready
  | .subBlockDecompressed grotto page sub obs => Sys2Proof.Machine.execSubBlockDecompressed grotto page sub obs s
  | .softRepairComplete channel effective => Sys2Proof.Machine.execSoftRepairComplete channel effective s
  | .promotionCommit grotto page obs => Sys2Proof.Machine.execPromotionCommit grotto page s obs
  | .mapUpdateRecordCommit grotto page obs => Sys2Proof.Machine.execMapUpdateRecordCommit grotto page s obs
  | .recompressionWritesDone grotto page => Sys2Proof.Machine.execRecompressionWritesDone grotto page s
  | .frameWaitLimit index => Sys2Proof.Machine.execFrameWaitLimit index s
  | .zeroerFrameDone channel frame => Sys2Proof.Machine.execZeroerFrameDone channel frame s
  | .extentOfferLapse grotto dpa => Sys2Proof.Machine.execExtentOfferLapse grotto dpa s
  | .refreshDue channel rank busy => Sys2Proof.Machine.execRefreshDue channel rank busy s
  | .refreshFloorTrip channel rank => Sys2Proof.Machine.execRefreshFloorTrip channel rank s
  | .selfRefreshEntry channel => Sys2Proof.Machine.execSelfRefreshEntry channel s
  | .scrubOwedExit channel => Sys2Proof.Machine.execScrubOwedExit channel s
  | .recalibration channel rank driftOk => Sys2Proof.Machine.execRecalibration channel rank driftOk s
  | .rankRetrainComplete channel rank ok => Sys2Proof.Machine.execRankRetrainComplete channel rank ok s
  | .temperatureRead channel celsius fastRefresh => Sys2Proof.Machine.execTemperatureRead channel celsius fastRefresh s
  | .caParityError channel slot second => Sys2Proof.Machine.execCaParityError channel slot second s
  | .trainingComplete channel r => Sys2Proof.Machine.execTrainingComplete channel r s
  | .crawlPassStart channel => Sys2Proof.Machine.execCrawlPassStart channel s
  | .crawlLine channel frame line obs => Sys2Proof.Machine.execCrawlLine channel frame line obs s
  | .sweepLineVisit lineIdx => Sys2Proof.Machine.execSweepLineVisit lineIdx s
  | .moveCopyDone mover obs lines => Sys2Proof.Machine.execMoveCopyDone mover s obs lines
  | .moveCommit mover => Sys2Proof.Machine.execMoveCommit mover s
  | .moveHoldDeadline mover => Sys2Proof.Machine.execMoveHoldDeadline mover s
  | .classWindowEnd backlogged late many => Sys2Proof.Machine.execClassWindowEnd backlogged late s many
  | .flit port f raw => Sys2Proof.Machine.execFlit port f s raw
  | .nakIntervalExpiry port => Sys2Proof.Machine.execNakIntervalExpiry port s
  | .ackTimeout port => Sys2Proof.Machine.execAckTimeout port s
  | .retrainComplete port => Sys2Proof.Machine.execRetrainComplete port s
  | .retrainTimeout port => Sys2Proof.Machine.execRetrainTimeout port s
  | .controlInterval port => Sys2Proof.Machine.execControlInterval port s
  | .creditTimeout port => Sys2Proof.Machine.execCreditTimeout port s
  | .liveness port => Sys2Proof.Machine.execLiveness port s
  | .electricalIdleTimeout port => Sys2Proof.Machine.execElectricalIdleTimeout port s
  | .linkUpAttempt port => Sys2Proof.Machine.execLinkUpAttempt port s
  | .evoilLinkUp port x4 => Sys2Proof.Machine.execEvoilLinkUp port x4 s
  | .hello port => Sys2Proof.Machine.execHello port s
  | .mirrorLine port => Sys2Proof.Machine.execMirrorLine port s
  | .mirrorMapChange port => Sys2Proof.Machine.execMirrorMapChange port s
  | .placementReport port => Sys2Proof.Machine.execPlacementReport port s
  | .ropeRead port => Sys2Proof.Machine.execRopeRead port s
  | .ropeReadData port => Sys2Proof.Machine.execRopeReadData port s
  | .ropeControl port => Sys2Proof.Machine.execRopeControl port s
  | .guestRequest port => Sys2Proof.Machine.execGuestRequest port s
  | .guestGrant port => Sys2Proof.Machine.execGuestGrant port s
  | .guestRelease port => Sys2Proof.Machine.execGuestRelease port s
  | .guestLineWrite port => Sys2Proof.Machine.execGuestLineWrite port s
  | .guestLineRead port => Sys2Proof.Machine.execGuestLineRead port s
  | .guestLineData port => Sys2Proof.Machine.execGuestLineData port s
  | .guestPlaced port => Sys2Proof.Machine.execGuestPlaced port s
  | .handleList port => Sys2Proof.Machine.execHandleList port s
  | .dieToDieCrcFailure east second => Sys2Proof.Machine.execDieToDieCrcFailure east second s
  | .pllLossOfLock pll second => Sys2Proof.Machine.execPllLossOfLock pll second s
  | .holdExit lampTemp refclk => Sys2Proof.Machine.execHoldExit lampTemp s refclk
  | .bootComplete failedCanaries fixed => Sys2Proof.Machine.execBootComplete failedCanaries s fixed
  | .bootFromOff refclk => Sys2Proof.Machine.execBootFromOff refclk s
  | .dimmPowerGoodDrop channel slot => Sys2Proof.Machine.execDimmPowerGoodDrop channel slot s
  | .lampDimmWatch channel slot celsius => Sys2Proof.Machine.execLampDimmWatch channel slot celsius s
  | .deepExitComplete failedCanaries fixed => Sys2Proof.Machine.execDeepExitComplete failedCanaries s fixed
  | .lampAlarm index => Sys2Proof.Machine.execLampAlarm index s
  | .powerEstimate watts => Sys2Proof.Machine.execPowerEstimate watts s
  | .junctionSensorRead celsius => Sys2Proof.Machine.execJunctionSensorRead celsius s
  | .cairnRecordWrite type inst payload readBackOk => Sys2Proof.Machine.execCairnRecordWrite type inst payload readBackOk s
  | .tapInstruction code drivesOutputs => Sys2Proof.Machine.execTapInstruction code drivesOutputs s
  | .hostLinkDown link => Sys2Proof.Machine.execHostLinkDown link s
  | .epochBoundary => Sys2Proof.Machine.execEpochBoundary s
  | .pressureRunRepeat => Sys2Proof.Machine.execPressureRunRepeat s
  | .budgetWindow => Sys2Proof.Machine.execBudgetWindow s
  | .classPeriodEnd => Sys2Proof.Machine.execClassPeriodEnd s
  | .bandwidthWindowEnd => Sys2Proof.Machine.execBandwidthWindowEnd s
  | .surveyComplete => Sys2Proof.Machine.execSurveyComplete s
  | .resetNAssert => Sys2Proof.Machine.execResetNAssert s
  | .holdReqNAssert => Sys2Proof.Machine.execHoldReqNAssert s
  | .pwrWarnNAssert => Sys2Proof.Machine.execPwrWarnNAssert s
  | .thermalTrip => Sys2Proof.Machine.execThermalTrip s
  | .holdSequenceComplete => Sys2Proof.Machine.execHoldSequenceComplete s
  | .holdBackstop => Sys2Proof.Machine.execHoldBackstop s
  | .mainRailLoss => Sys2Proof.Machine.execMainRailLoss s
  | .reconciliationComplete => Sys2Proof.Machine.execReconciliationComplete s
  | .vddLampLoss => Sys2Proof.Machine.execVddLampLoss s
  | .sramEnRaise => Sys2Proof.Machine.execSramEnRaise s
  | .coreEnRaise => Sys2Proof.Machine.execCoreEnRaise s
  | .dozeEntry => Sys2Proof.Machine.execDozeEntry s
  | .wakeNAssert => Sys2Proof.Machine.execWakeNAssert s
  | .deepEntry => Sys2Proof.Machine.execDeepEntry s
  | .deepEntryComplete => Sys2Proof.Machine.execDeepEntryComplete s
  | .watchdogExpiry => Sys2Proof.Machine.execWatchdogExpiry s
  | .watchdogRestart => Sys2Proof.Machine.execWatchdogRestart s
  | .cairnBlockErase => Sys2Proof.Machine.execCairnBlockErase s
  | .svnRaise => Sys2Proof.Machine.execSvnRaise s
  | .vddLampPowerOn => Sys2Proof.Machine.execVddLampPowerOn s
  | .firmwareRelease spd lost => Sys2Proof.Machine.execFirmwareRelease s spd lost
  | .trstNRelease => Sys2Proof.Machine.execTrstNRelease s

end Sys2Proof.Machine
end

