-- ==== Sys2Proof/Safety.lean ====
section
/-!
DEFINITION. The terms that statements use: what it is for a command to complete, for a device to have nothing left to take up at
the end of a command, and for an instruction to stand at the head of its queue and be issued with a result.
-/
namespace Sys2Proof.Machine

/-- A step of the machine answers a next state. -/
def Runs (s : State) : Prop := ∃ t, step s = .next t

/-- Nothing is left over that the end of a command would take up: no resumed request, no snoop without its tag, no dirty line of a lost
page, no more to save in a HOLD than it may, no frame that waits for reads, no miss that waits for its map block, no write in the frame-wait
list, no page that waits for its rebuild, no first-discard mark, no capacity asked for, no test feature armed, no write
queued and no refresh owed at a channel, no request that its sender holds. -/
structure Dev.Still (d : Dev) : Prop where
  resume : d.slices.resume = []
  snoops : ∀ x ∈ d.slices.snoops, x.tag.isSome = true
  lost : ∀ e ∈ d.slices.nc, e.2.dirty = true → peView (d.entry (keyGrotto e.1) (pageOf (keyLine e.1))) ≠ 4
  hold : d.overHold 0 = false
  dying : d.pages.dying = []
  misses : d.pages.mapWait = []
  frames : d.pages.frameWait = []
  rebuilds : d.ev.rope.pages = []
  discards : ∀ e ∈ d.grottos, e.2.discarded = false
  asking : d.flow.asking = false
  surplus : (d.flow.watermark : Int) * d.dataFrames ≤ d.surplus * 200
  armed : d.faults.armed = []
  writes : d.pages.dwrites = []
  owed : ∀ e ∈ d.chans, e.2.owed = []
  unsent : d.unsent = []

/-- In RUN, with no entry to DEEP under way. -/
def Dev.inRun (d : Dev) : Prop := d.power.mode = .run ∧ d.power.entering = 0

/-! ### Instructions of a queue -/

/-- Whether a word names the same place as source and destination (R340). -/
def Queue.inPlace (x : Queue) (w : PWord) : Bool :=
  let v := valsOf x x.issued w
  ({ win := w.swin.toNat, off := v.b.1.toNat, len := 0 } : Rng).area x == ({ win := w.dwin.toNat, off := v.a.1.toNat, len := 0 } : Rng).area x

/-- The word of an instruction stands at the head of queue q, which may issue it (R276, R282 to R284, R287), outside the runs of the mailbox
dispatcher; d is the device once the slot has been read. -/
structure Stands (s : State) (q : Nat) (w : PWord) (pel : Pel) (x : Queue) (d : Dev) : Prop where
  queue : s.dev.queue? q = some x
  may : s.dev.mayIssue x = true
  action : pel.mod.any (fun m => w.mod.toNat != m) = false
  mail : s.dev.atMailRun q x = false
  slot : ∃ bs e, (Eng.read { s.dev.ctxOf s.trust q x x.head w with stale := false, alloc := true } (s.dev.slotArea q x x.head) 0 16).run s.dev =
    .ok (bs, e) ∧ d = e.forget (.engine q x.head) ∧ BitVec.ofNat 128 (numOf bs) = encodePelmic (BitVec.ofNat 8 pel.op) w
  phase : (encodePelmic (BitVec.ofNat 8 pel.op) w).getLsbD 15 = phaseOf x.slots x.head
  ready : x.ready pel.op w (journals pel.op w (x.inPlace w)) = true
  fresh : x.journaled x.head x.iter = none

/-- The context in which the instruction at the head runs, and the values it reads. -/
def State.ctx (s : State) (q : Nat) (x : Queue) (w : PWord) : Ctx := s.dev.ctxOf s.trust q x x.head w
def Queue.vals (x : Queue) (w : PWord) : Vals := valsOf x x.issued w

/-- The device with the instruction entered in its queue. -/
def Dev.queued (d : Dev) (q : Nat) (x : Queue) (w : PWord) (op : Nat) : Dev :=
  d.setQueue q { x with
    issued := x.issued ++ [{ pos := x.head, word := w, opcode := op, iter := x.iter, journ := journals op w (x.inPlace w) }],
    head := x.head + 1 }

/-- The device on which the instruction's body runs: entered in its queue, and with its unit taken where it needs one (R224, R360). -/
def Dev.entered (d : Dev) (q : Nat) (x : Queue) (w : PWord) (op : Nat) : Dev :=
  ((d.queued q x w op).takeUnit op q x.head).getD (d.queued q x w op)

/-- An instruction stands at the head of queue q, decode steps 1 to 3 pass (R278), and a unit is free where it needs one. -/
structure Shows (s : State) (q : Nat) (w : PWord) (pel : Pel) (x : Queue) (d : Dev) : Prop where
  stands : Stands s q w pel x d
  early : early q x w pel = none
  unit : ((d.queued q x w pel.op).takeUnit pel.op q x.head).isSome = true

/-- A device once the instruction at the head of queue q stands in it as applied with result r and the queue goes on at a position. What else
it is stays. -/
def Dev.settled (e : Dev) (q : Nat) (x : Queue) (w : PWord) (op : Nat) (r : Result) (next : BitVec 32) : Dev :=
  let i : Issued := {
    pos := x.head, word := w, opcode := op, iter := x.iter, journ := journals op w (x.inPlace w), res := r,
    since := e.lamp }
  let g : Dev := match e.queue? q with
    | some y => e.setQueue q { y with issued := y.issued.map fun k => if k.pos = x.head then i else k, head := next }
    | none => e
  let h := g.countEngine x 0
  if isFault r.status then h.countEngine x 2 else h

/-- The device e that a body leaves, settled; what was kept for the instruction is used up. -/
def Dev.applied (e : Dev) (q : Nat) (x : Queue) (w : PWord) (op : Nat) (r : Result) (next : BitVec 32) : Dev :=
  (e.forget (.engine q x.head)).settled q x w op r next

/-- The next state where the issue of the instruction at the head of queue q leaves device e and result r, and ends the command. -/
def State.applied (s : State) (e : Dev) (q : Nat) (x : Queue) (w : PWord) (op : Nat) (r : Result) (next : BitVec 32) : State :=
  { s with dev := (e.applied q x w op r next).after }

/-- The next state where the instruction at the head of queue q faults with a status, from the device e that its body left: an EVENT where the
program caused it, and the status stands in the queue (R287). -/
def State.faulted (s : State) (e : Dev) (q : Nat) (x : Queue) (w : PWord) (op status : Nat) (r : Result := {}) : State :=
  { s with dev := (((e.forget (.engine q x.head)).faultEvent q x.head status op).settled q x w op { r with status := status }
      (x.head + 1)).after }

/-- Write bytes over an area from an offset in it on. -/
def Dev.writeAt (d : Dev) (c : Ctx) (a : Area) (off : Nat) (bs : PBytes) : Dev := d.putBytes c a (bs.length / 64 + 2) (a.base + off) bs

/-- A CXL.mem message comes in RUN over a link that takes it: its PBR ID is the link's (R51), its logical device exists (R43), and where the link
is secured the MAC of its epoch has come with it, with no message before it in the epoch (R53, R55). -/
structure Dev.Arrives (d : Dev) (h : MemHdr) : Prop where
  takes : d.linkTakes h.link = true
  pbr : (d.link h.link).misrouted h.dpid = false
  ld : h.ld < d.ldCount h.link
  run : d.inRun
  still : d.Still
  secure : (d.link h.link).cacheIde.insecure = false
  mac : (d.link h.link).cacheIde.rx.inUse = none ∨ h.mac = true
  epoch : (d.link h.link).epoch = []

/-- A CXL.mem request that arrives with a credit slot free for it (R27), whose HPA a decoder maps to a line (R40) for which no atomic, no held
write and no recompression stands against it; e is the device with that decoder's position latched. The HOLD load has room for one more
directory set and dirty line (R532). -/
structure Dev.Finds (d : Dev) (h : MemHdr) (hpa : BitVec 64) (g line : Nat) (e : Dev) : Prop where
  comes : d.Arrives h
  slot : d.noSlot h.link = false
  found : d.locate h.link h.ld hpa.toNat = (.ok (g, line), e)
  locks : d.slices.locks = []
  apart : d.behindWrite g line = false
  live : d.fencedSrc g (srcOf h.link h.ld) = false
  room : d.overHold 192 = false
  form : risingFrom 0 d.slices.dir = true

/-- A write of a line goes to a hot page that does not move and is not mirrored, under a key that is loaded, whose map line is cached and
which the near cache holds the line of. -/
structure Dev.HotLine (d : Dev) (g line : Nat) : Prop where
  keyed : d.keyed g line = true
  cached : d.mapHit g (pageOf line) = true
  hot : peState (d.entry g (pageOf line)) = 1
  here : (d.ncGet g line).isSome = true
  alone : (d.grotto g).mirror = false
  whole : d.rebuilding g (pageOf line) = false

/-- A register access of a view reaches the device (R35, R51, R606, R636): over I3C, or over a link that carries messages, to a logical device that
exists. -/
def Dev.viewOpen (d : Dev) (v : RegView) : Bool :=
  if v.mgmt then d.i3cAnswers else d.linkOpen v.link && !(d.link v.link).misrouted v.dpid && d.ldExists v.link v.ld

/-- The mailbox of a logical device that hosts reach is free in RUN (R26, R62), and messages to it name its link's PBR ID (R51). -/
structure Dev.MailFree (d : Dev) (l ld : Nat) (dpid : BitVec 12) : Prop where
  run : d.inRun
  reached : d.ldOpen l ld = true
  pbr : (d.link l).misrouted dpid = false
  result : (d.ld l ld).mbox = none
  wait : (d.ld l ld).mboxWait = none

/-- A command stands in the mailbox of a logical device, and the run of its program waits for room in queue 0 of the port (R26, R266). -/
def Dev.posted (d : Dev) (l ld : Nat) (c : Instr) : Dev :=
  (d.setLd l ld { d.ld l ld with mboxWait := some (c, false) }).queueRun (portOf l) { writer := .dispatcher l ld, words := [encodePelmic 0x03 {}] }

/-- The program of the command in the mailbox of a logical device stands at the head of queue 0 of its port, whose context may run it (R26, R282). -/
structure Dev.MailRuns (d : Dev) (l ld : Nat) (c : Instr) : Prop where
  run : d.inRun
  head : d.mailAtHead l ld = true
  wait : (d.ld l ld).mboxWait = some (c, false)

/-- A program has ended, and its result stands in the mailbox. -/
def Dev.answered (d : Dev) (l ld : Nat) (c : Instr) (code : CmdCode) (payload : List Nat) : Dev :=
  (d.setLd l ld { d.ld l ld with mbox := some (c, code, payload), mboxWait := none }).forget (.mbox l ld)

/-- The result is written to the host and vector 0 signals it (R62); queue 0 of the port goes on behind the program's run. -/
def Dev.replied (d : Dev) (l ld : Nat) (code : CmdCode) (payload : List Nat) : Dev :=
  let e := ((d.setLd l ld { d.ld l ld with mbox := none }).emit (.mbox l ld code payload)).interrupt l ld 0
  let q := 8192 + portOf l
  match e.queue? q with
  | some x =>
    let f := e.endRun q x.head 0
    match f.queue? q with
    | some y => f.setQueue q ({ y with dirty := true } : Queue).settle
    | none => f
  | none => e

/-! ### Signing leaves -/

/-- What keeps a leaf from being used twice (R590 to R593): no leaf has signed from the next one on, the next leaf is not beyond the reserved end, nor
the end beyond the segments that the fuses record as entered, and no committed reservation names more. Whichever records the next BOOT cannot read, it
starts behind every leaf that has signed, and behind the block that is reserved where some of it is left. -/
structure Trust.LeafSafe (t : Trust) : Prop where
  used : t.leafTop ≤ t.leaf
  next : t.leaf ≤ t.leafEnd
  fused : t.leafEnd ≤ t.leafMark * 2 ^ 26
  blocks : t.leafEnd % 256 = 0
  segments : t.leafMark ≤ 16
  records : ∀ r ∈ t.cairn, r.type = 3 → r.committed = true → r.inst = 0 ∧ r.leafEnd ≤ t.leafMark * 2 ^ 26 ∧ r.leafEnd % 256 = 0
  restart : ∀ hide, t.leafTop ≤ (t.hiding hide).leafStart
  block : t.leaf < t.leafEnd → ∀ hide, t.leafEnd ≤ (t.hiding hide).leafStart

end Sys2Proof.Machine
end

