-- ==== Sys2Proof/WellFormed.lean ====
section
/-!
DEFINITION. Which commands are well formed: operands within the ranges that the spec's numberings allow. The meanings are total: an
ill-formed command names what does not exist.
-/
namespace Sys2Proof

/-- A channel of the SPDM responder: I3C, or the DOE mailbox of one of 17 logical devices of eight links (R595, log 32). -/
def chOk (ch : Nat) : Bool := decide (ch < 1 + 8 * 17)

/-- A host link: 0 to 7 (R76). -/
def linkOk (l : Nat) : Bool := decide (l < 8)
/-- A logical device of a link; 16 is the FM-owned one (R43). -/
def ldOk (ld : Nat) : Bool := decide (ld ≤ 16)
/-- A host port, or an Evoil port (R32, R420). -/
def portOk (p : Nat) : Bool := decide (p < 4)
def evPortOk (p : Nat) : Bool := decide (p < 2)
/-- A queue: 1 to 8,191, or queue 0 of one of four ports as 8,192 to 8,195 (R264). -/
def queueOk (q : Nat) : Bool := decide (1 ≤ q ∧ q ≤ 8195)
/-- A channel (R115). -/
def channelOk (c : Nat) : Bool := decide (c < 16)
/-- A grotto (R76). -/
def grottoOk (g : Nat) : Bool := decide (g < 64)
/-- A transfer rate of a link in MT/s (R34). -/
def rateOk (r : Nat) : Bool := [2500, 5000, 8000, 16000, 32000, 64000, 128000].contains r
/-- The source of a CXL.mem request (R43). -/
def hdrOk (h : MemHdr) : Bool := linkOk h.link && decide (h.ld < 16)
/-- The path of a register access (R606). -/
def viewOk (v : RegView) : Bool := v.mgmt || (linkOk v.link && ldOk v.ld)
/-- A bank (R115, R120). -/
def bankOk (b : Bank) : Bool := channelOk b.channel && decide (b.sub < 2 ∧ b.rank < 16 ∧ b.bg < 8 ∧ b.bank < 4)
/-- A PLL (R551). -/
def Pll.ok : Pll → Bool
  | .core => true
  | .channel n => channelOk n
  | .flit p => portOk p
  | .evoil p => evPortOk p
/-- A decoder's ways and granularity (R40). -/
def DecoderCfg.ok (c : DecoderCfg) : Bool :=
  [1, 2, 3, 4, 6, 8, 12, 16].contains c.ways && [256, 512, 1024, 2048, 4096, 8192, 16384].contains c.gran

/-- The messages of a flit are within their fields (R426, R442). -/
def LineMsg.ok (m : LineMsg) : Bool := grottoOk m.grotto && decide (m.line < 2 ^ 39)
def EvMsg.ok : EvMsg → Bool
  | .mirrorLine m | .ropeData m => m.ok
  | .mapChange _ _ g p _ => grottoOk g && decide (p < 2 ^ 33)
  | .ropeRead _ _ g l => grottoOk g && decide (l < 2 ^ 39)
  | .ropeControl _ g _ _ _ _ => grottoOk g
  | .guestWrite _ _ _ _ l _ _ _ | .guestRead _ _ l => decide (l < 64)
  | .placement _ | .guestRequest _ | .guestGrant _ _ _ | .guestRelease _ | .guestData _ _ _ _ _ _ | .guestPlaced _ | .hello _ _ _ _ _ _
    | .handleList _ _ | .reserved _ => true
def Flit.ok (f : Flit) : Bool := f.msgs.all EvMsg.ok

/-- Well-formed commands. -/
def Instr.wf : Instr → Bool
  | .rds h _ | .rde h _ | .rdi h _ | .wb h _ _ _ _ | .memclnevct h _ | .biconflict h _ => hdrOk h
  | .wrnc h _ mask _ _ => hdrOk h && decide (mask ≠ 0)
  | .birspi link ld tag _ | .birsps link ld tag _ | .birspe link ld tag _ => linkOk link && ldOk ld && decide (tag < 1024)
  | .snoopTimeout link tag => linkOk link && decide (tag < 1024)
  | .fenceSweepComplete grotto src => grottoOk grotto && decide (src < 128)
  | .perstNAssert port _ | .perstNRelease port _ | .runPlacement port => portOk port
  | .perstCleanupDone link | .pmeTurnOff link _ | .getLdInfo link | .getLdAllocations link | .setLdAllocations link | .hostLinkDown link => linkOk link
  | .hostLinkUp link _ rate width opts => linkOk link && rateOk rate && decide (1 ≤ width ∧ width ≤ 16) && opts.presets.all fun a => decide (a.1 < 16)
  | .ideIntegrityFailure link stream => linkOk link && decide (stream < 2)
  | .decoderCommit link ld n cfg _ => linkOk link && ldOk ld && decide (n < 4) && cfg.ok
  | .decoderUncommit link ld n _ => linkOk link && ldOk ld && decide (n < 4)
  | .vectorUnmask link ld k _ => linkOk link && ldOk ld && decide (k < 2048)
  | .identify link ld _ | .backgroundOperationStatus link ld _ | .getEventInterruptPolicy link ld _ | .setEventInterruptPolicy link ld _ _
    | .identifyMemoryDevice link ld _ | .getPoisonList link ld _ _ _ | .injectPoison link ld _ _ | .clearPoison link ld _ _ _
    | .getScanMediaCapabilities link ld _ _ _ | .scanMedia link ld _ _ _ | .getScanMediaResults link ld _ | .sanitize link ld _
    | .secureErase link ld _ | .getDynamicCapacityConfiguration link ld _ | .getDynamicCapacityExtentList link ld _ _ _
    | .addDynamicCapacityResponse link ld _ _ | .releaseDynamicCapacity link ld _ _ _ | .unsupportedMailboxCommand link ld _ _
    | .mailboxResult link ld => linkOk link && ldOk ld
  | .getEventRecords link ld log _ | .clearEventRecords link ld log _ _ => linkOk link && ldOk ld && decide (log < 5)
  | .setLdOptions link ld vectorBase vectorCount _ => linkOk link && ldOk ld && decide (vectorBase < 2048) && decide (vectorCount ≤ 2048)
  | .setPoolId _ _ _ | .transferFirmware _ _ | .activateFirmware _ | .provisionFmRoot _ | .readDeviceRegister _ | .writeDeviceRegister _ _
    | .mapFillReturn _ _ | .frameWaitLimit _ | .sweepLineVisit _ | .classWindowEnd _ _ _ | .dieToDieCrcFailure _ _
    | .junctionSensorRead _ | .epochBoundary | .pressureRunRepeat | .budgetWindow | .classPeriodEnd | .bandwidthWindowEnd | .surveyComplete
    | .resetNAssert | .holdReqNAssert | .pwrWarnNAssert | .thermalTrip | .holdSequenceComplete | .holdBackstop | .mainRailLoss
    | .reconciliationComplete | .vddLampLoss | .sramEnRaise | .coreEnRaise | .dozeEntry | .wakeNAssert | .deepEntry | .deepEntryComplete
    | .watchdogExpiry | .watchdogRestart | .cairnBlockErase | .svnRaise | .vddLampPowerOn | .trstNRelease => true
  | .submitInstructions q _ _ | .getQueueStatus q | .getCompletionRecords q _ _ | .setQueueRun q _ => decide (q < 8192)
  | .getVersion ch | .getCapabilities ch | .negotiateAlgorithms ch _ | .getDigests ch => chOk ch
  | .getCertificate ch slot _ _ | .challenge ch slot | .keyExchange ch slot => chOk ch && decide (slot < 8)
  | .getMeasurements ch index _ => chOk ch && decide (index < 256)
  | .finish ch sess _ | .heartbeat ch sess | .keyUpdate ch sess | .endSession ch sess => chOk ch && decide (sess < 4)
  | .setWrappingKey ch sess slot _ _ => chOk ch && decide (sess < 4) && decide (slot < 16)
  | .keyProg ch sess link stream _ set _ | .kSetGo ch sess link stream _ set _ => chOk ch && decide (sess < 4) && linkOk link && decide (stream < 2) && decide (set < 2)
  | .kSetStop ch sess link stream => chOk ch && decide (sess < 4) && linkOk link && decide (stream < 2)
  | .dbTailWrite link ld off _ _ | .qRunSet link ld off _ | .qRunClear link ld off _ | .crConsumedWrite link ld off _ _ => linkOk link && ldOk ld && decide (off < 2 ^ 25)
  | .faultConsumedWrite v _ _ | .faultStatusRead v _ | .classStatusRead v _ | .pwrRetainRead v _ | .devTagWrite v _ _ | .cntClearAll v
    | .cntSetMode v _ | .cntSurvey v => viewOk v
  | .chFaultRead v n _ => viewOk v && channelOk n
  | .evFaultRead v n _ => viewOk v && evPortOk n
  | .cntWrapRead v j _ => viewOk v && decide (j < 24)
  | .cntClearRange v first last | .cntChain v first last | .cntUnchain v first last => viewOk v && decide (first ≤ last ∧ last < 1536)
  | .cntSetBandwidthWindow v us => viewOk v && decide (1 ≤ us ∧ us ≤ 1000000)
  | .registerWrite v bar _ size _ => viewOk v && decide (bar = 0 ∨ bar = 2 ∨ bar = 4) && decide (1 ≤ size ∧ size ≤ 64)
  | .nop q _ | .halt q _ | .fence q _ | .signal q _ | .branch q _ | .loop q _ | .wait q _ | .timer q _ | .seti q _ | .alu q _ | .load q _
    | .store q _ | .copy q _ | .fill q _ | .zero q _ | .prefetch q _ | .migrate q _ | .spill q _ | .compress q _ | .decompress q _
    | .check q _ | .hash q _ | .byteswap q _ | .scan q _ | .gather q _ | .scatter q _ | .probe q _ | .reduce q _ | .add q _ | .cas q _
    | .swap q _ | .smin q _ | .umin q _ | .smax q _ | .umax q _ | .survey q _ | .record q _ | .illegalInstruction q _ | .contextBind q
    | .contextYield q | .tornReread q | .instructionComplete q _ _ | .progressRecordCommit q | .timeLimit q _ | .waitTimeout q _
    | .waitReread q _ | .waitDeadline q _ => queueOk q
  | .grottoWrite q w | .queueWrite q w | .windowWrite q w | .keyloadLoad q w | .setclassWrite q w | .ropeForm q w | .policyDescriptor q w
    | .powerDeepPermission q w | .injectFlipMask q w | .spare q w => queueOk q && decide (w.mod = 0)
  | .grottoRead q w | .queueDelete q w | .windowInvalidate q w | .keyloadErase q w | .setclassScrubReserve q w | .ropeRemove q w
    | .policyGrottoEntry q w | .powerEnterDeep q w | .injectInvertedCheckBits q w => queueOk q && decide (w.mod = 1)
  | .grottoAttach q w | .queueRead q w | .windowRead q w | .setclassRead q w | .ropePermitSpill q w | .policyLoadProgram q w | .powerCap q w
    | .injectDisarm q w => queueOk q && decide (w.mod = 2)
  | .grottoDetach q w | .ropeWithdrawSpill q w | .policySetLimits q w | .powerForwardBias q w => queueOk q && decide (w.mod = 3)
  | .grottoReturnToService q w | .ropeStartRebuild q w | .policyReadLimits q w => queueOk q && decide (w.mod = 4)
  | .grottoOfferExtent q w => queueOk q && decide (w.mod = 5)
  | .grottoDelete q w => queueOk q && decide (w.mod = 6)
  | .firmwareSubmission port words => portOk port && decide (1 ≤ words.length ∧ words.length ≤ 4096)
  | .firmwareRelease spd _ => spd.all fun e => channelOk e.1
  | .dramLineReturn channel frame line _ _ | .crawlLine channel frame line _ => channelOk channel && decide (frame < 2 ^ 28) && decide (line < 64)
  | .subBlockDecompressed grotto page sub _ => grottoOk grotto && decide (page < 2 ^ 33) && decide (sub < 4)
  | .softRepairComplete channel _ | .selfRefreshEntry channel | .scrubOwedExit channel | .temperatureRead channel _ _
    | .crawlPassStart channel => channelOk channel
  | .promotionCommit grotto page obs => grottoOk grotto && decide (page < 2 ^ 33 ∧ obs.length ≤ 4)
  | .mapUpdateRecordCommit grotto page obs => grottoOk grotto && decide (page < 2 ^ 33 ∧ obs.length ≤ 1)
  | .recompressionWritesDone grotto page => grottoOk grotto && decide (page < 2 ^ 33)
  | .zeroerFrameDone channel frame => channelOk channel && decide (frame < 2 ^ 28)
  | .extentOfferLapse grotto _ => grottoOk grotto
  | .refreshDue channel rank _ | .refreshFloorTrip channel rank | .recalibration channel rank _ | .rankRetrainComplete channel rank _ => channelOk channel && decide (rank < 16)
  | .caParityError channel slot _ | .dimmPowerGoodDrop channel slot | .lampDimmWatch channel slot _ => channelOk channel && decide (slot < 2)
  | .trainingComplete channel r => channelOk channel && r.badRanks.all fun k => decide (k < 16)
  | .moveCopyDone mover obs lines => decide (mover < 16 ∧ obs.length ≤ 4) && lines.all fun e => decide (e.1 < 64)
  | .moveCommit mover | .moveHoldDeadline mover => decide (mover < 16)
  | .flit port f raw => evPortOk port && f.ok && decide (raw.length = 0 ∨ raw.length = 256)
  | .nakIntervalExpiry port | .ackTimeout port | .retrainComplete port | .retrainTimeout port | .controlInterval port | .creditTimeout port
    | .liveness port | .electricalIdleTimeout port | .linkUpAttempt port | .evoilLinkUp port _ | .hello port | .mirrorLine port
    | .mirrorMapChange port | .placementReport port | .ropeRead port | .ropeReadData port | .ropeControl port | .guestRequest port
    | .guestGrant port | .guestRelease port | .guestLineWrite port | .guestLineRead port | .guestLineData port | .guestPlaced port
    | .handleList port => evPortOk port
  | .pllLossOfLock pll _ => pll.ok
  | .holdExit _ refclk => decide (refclk < 4)
  | .bootComplete failedCanaries fixed | .deepExitComplete failedCanaries fixed =>
    failedCanaries.all bankOk && fixed.all fun e => bankOk e.1 && decide (e.2 < 10)
  | .bootFromOff refclk => decide (refclk < 4)
  | .lampAlarm index => decide (index < 8)
  | .powerEstimate watts => decide (watts < 65536)
  | .cairnRecordWrite type _ payload _ => decide (1 ≤ type ∧ type ≤ 8) && decide (payload.length ≤ 65515)
  | .tapInstruction code _ => decide (code < 256)

end Sys2Proof
end

