-- ==== Sys2Proof/Certificates/Slice0/Obligations.lean ====
section
/-!
DEFINITION. The statements for the provers. Each docstring names the rules of spec/ that its statement rests on.
-/
section Statements

open Sys2Proof Sys2Proof.Machine

/-! ### The queue of commands and the whole machine -/

/-- A step with a command at the front of the queue is that command's meaning on the state with the queue's rest. -/
def Obligations.StepRunsFront : Prop :=
  ∀ (s : State) (c : Instr) (rest : List Instr), s.pending = c :: rest → step s = exec c { s with pending := rest }

/-- R547, R549 (the tick itself is the model's choice, log 1): on an empty queue a step passes one tick of LAMPCLK while the Lamp domain
runs, and changes no table, queue, page, line or message. -/
def Obligations.IdleStepTicks : Prop :=
  ∀ s : State, s.pending = [] → ∃ t, step s = .next t ∧ t.trust = s.trust ∧ t.pending = [] ∧
    t.dev.power.ticks = (if s.dev.power.lampOn = true ∧ s.dev.power.crystal = true then s.dev.power.ticks + 1 else s.dev.power.ticks) ∧
    { t.dev with power := { t.dev.power with ticks := s.dev.power.ticks }, cnt := s.dev.cnt } = s.dev

/-- No command of this block stops: every command answers a next state, in every state. -/
def Sys2Proof.Claims.EveryCommandAnswers : Prop := ∀ (c : Instr) (s : State), ∃ t, exec c s = .next t

/-- The queue is first in, first out: a command neither reads nor changes the commands that wait behind it. -/
def Sys2Proof.Claims.CommandsLeaveTheQueue : Prop :=
  ∀ (c : Instr) (s t : State) (l : List Instr), exec c s = .next t →
    t.pending = s.pending ∧ exec c { s with pending := l } = .next { t with pending := l }

/-- No command stops, and none touches the commands that wait: EveryCommandAnswers, CommandsLeaveTheQueue. -/
def Obligations.CommandsAnswerAndLeaveTheQueue : Prop := Claims.EveryCommandAnswers ∧ Claims.CommandsLeaveTheQueue

/-- R523, R559, R560, R602: the machine after reset is in BOOT from nothing, with no command waiting, no grotto, queue, key, fault or line of memory, its
memory in canonical form, and no leaf used. (The two keys drawn, and every value the spec gives none for, are the model's choice, log 5.) -/
def Obligations.ResetLeavesNothing : Prop :=
  let d := State.reset.dev
  State.reset.pending = [] ∧ d.power.mode = .boot ∧ d.power.bootKind = 0 ∧ d.power.ticks = 0 ∧ d.grottos = [] ∧ d.queues.qs = [] ∧ d.keys = [] ∧
    d.mem = {} ∧ d.mem.wf = true ∧ d.faults.status = 0 ∧ d.faults.total = 0 ∧ d.faults.consumed = 0 ∧ d.cnt.cnt = [] ∧ d.cnt.seq = 0 ∧
    d.devTag = 0 ∧ d.tagDone = false ∧ d.fwUp = false ∧ d.out = [] ∧ d.slices.dir = [] ∧ d.slices.nc = [] ∧ d.ev.p0.state = 0 ∧
    d.ev.p1.state = 0 ∧ d.ev.rope.state = 0 ∧ State.reset.trust.LeafSafe

/-! ### Pelmic instructions -/

/-- R278, R304, R314, R643: the word that is laid out for a Pelmic instruction is read as that instruction, with every field at every value; and a word that is not
read as illegal is the one laid out for what it is read as. -/
def Obligations.PelmicWordsRoundTrip : Prop :=
  (∀ (i : Instr) (q op : Nat) (m : Option Nat) (w : PWord), pelmicKey i = some (q, op, m, w) → pelmicFits i = true →
    pelmicOf q (encodePelmic (BitVec.ofNat 8 op) w) = i) ∧
  ∀ (q : Nat) (x : BitVec 128), pelmicOf q x = .illegalInstruction q x ∨
    (pelmicWord (pelmicOf q x) = some x ∧ pelmicFits (pelmicOf q x) = true)

/-- R304, R305, R314, R643: the words of the spec's two examples, and one word of each family written out from the table of R304, are read as what they
stand for; an opcode that the map does not have is illegal. -/
def Obligations.PelmicWordsAreRead : Prop :=
  pelmicOf 37 0x00000000000000000081030102004420 = .copy 37 { fmt := 4, chain := true, ra := 2, rb := 1, rc := 3, swin := 1, dwin := 2 } ∧
  pelmicOf 37 0x0C000000000000400002030204000542 = .check 37 { fmt := 5, ra := 4, rb := 2, rc := 3, swin := 2, imm := 0x0C00000000000040 } ∧
  pelmicOf 1 0x000000000000000A0000000003002108 = .seti 1 { fmt := 1, sig := true, ra := 3, imm := 10 } ∧
  pelmicOf 1 0x00000000000000001000030201000109 = .alu 1 { fmt := 1, mod := 1, ra := 1, rb := 2, rc := 3 } ∧
  pelmicOf 2 0x00000000000000000000000000008001 = .halt 2 { phase := true } ∧
  pelmicOf 40 0x0C000000000000800082030102000560 =
    .scan 40 { fmt := 5, ra := 2, rb := 1, rc := 3, swin := 2, dwin := 2, imm := 0x0C00000000000080 } ∧
  pelmicOf 40 0x00000000000000000040030201000381 = .cas 40 { fmt := 3, ra := 1, rb := 2, rc := 3, dwin := 1 } ∧
  pelmicOf 3 0x000000000000001160000000000007C0 = .grottoDelete 3 { fmt := 7, mod := 6, imm := 17 } ∧
  pelmicOf 3 0x000000000000009620000000000007C7 = .powerCap 3 { fmt := 7, mod := 2, imm := 150 } ∧
  pelmicOf 3 0x0000000000000000000000000000000C = .illegalInstruction 3 0x0C

/-- R316, R317, R319, R323, R326: what NOP, HALT, FENCE, SIGNAL, SETI and TIMER leave when they issue. -/
def Sys2Proof.Claims.RegisterInstructionsIssue : Prop :=
  ∀ (s : State) (q : Nat) (w : PWord) (x : Queue) (d : Dev),
    (Shows s q w nopPel x d → exec (.nop q w) s = .next (s.applied (d.entered q x w 0x00) q x w 0x00 {} (x.head + 1))) ∧
    (Shows s q w haltPel x d → exec (.halt q w) s = .next (s.applied (d.entered q x w 0x01) q x w 0x01 {} (x.head + 1))) ∧
    (Shows s q w fencePel x d → exec (.fence q w) s = .next (s.applied (d.entered q x w 0x02) q x w 0x02 {} (x.head + 1))) ∧
    (Shows s q w signalPel x d → exec (.signal q w) s = .next (s.applied (d.entered q x w 0x03) q x w 0x03
      { r0 := w.imm, r1 := (x.vals w).b.1, r2 := (x.vals w).c.1 } (x.head + 1))) ∧
    (Shows s q w setiPel x d → exec (.seti q w) s = .next (s.applied (d.entered q x w 0x08) q x w 0x08
      { regs := [(rn w.ra, w.imm, false)] } (x.head + 1))) ∧
    (Shows s q w timerPel x d → exec (.timer q w) s = .next (s.applied (d.entered q x w 0x07) q x w 0x07
      { regs := [(rn w.ra, BitVec.ofNat 64 (d.power.ticks * 1000000000 / 32768) + (x.vals w).b.1 + w.imm, false)] } (x.head + 1)))

/-- R320, R325: BRANCH goes to its own position plus imm where its comparison holds, else to the next position. -/
def Sys2Proof.Claims.BranchGoes : Prop :=
  ∀ (s : State) (q : Nat) (w : PWord) (x : Queue) (d : Dev), Shows s q w branchPel x d →
    w.mod.toNat = 6 ∨ ((x.vals w).b.2 = false ∧ (x.vals w).c.2 = false) →
    let b := (x.vals w).b.1
    let c := (x.vals w).c.1
    ∃ taken : Bool,
      (taken = true ↔
        (w.mod.toNat = 0 ∧ b = c) ∨ (w.mod.toNat = 1 ∧ b ≠ c) ∨ (w.mod.toNat = 2 ∧ b.toNat < c.toNat) ∨
        (w.mod.toNat = 3 ∧ c.toNat ≤ b.toNat) ∨ (w.mod.toNat = 4 ∧ b.toInt < c.toInt) ∨ (w.mod.toNat = 5 ∧ c.toInt ≤ b.toInt) ∨
        w.mod.toNat = 6) ∧
      exec (.branch q w) s = .next (s.applied (d.entered q x w 0x04) q x w 0x04 {}
        (if taken then x.head + w.imm.setWidth 32 else x.head + 1))

/-- R321: LOOP writes its counter minus 1 and goes back by imm unless the counter was 1; while another loop is active it faults with 0x0215. -/
def Sys2Proof.Claims.LoopCounts : Prop :=
  ∀ (s : State) (q : Nat) (w : PWord) (x : Queue) (d : Dev), Shows s q w loopPel x d →
    (x.loop = none ∨ x.loop = some (x.head - w.imm.setWidth 32, w.imm.toNat) →
      exec (.loop q w) s = .next (s.applied (d.entered q x w 0x05) q x w 0x05
        { regs := [(rn w.ra, (x.vals w).a.1 - 1, false)] }
        (if (x.vals w).a.1 = 1 then x.head + 1 else x.head - w.imm.setWidth 32))) ∧
    (∀ st n, x.loop = some (st, n) → (st ≠ x.head - w.imm.setWidth 32 ∨ n ≠ w.imm.toNat) →
      exec (.loop q w) s = .next (s.faulted (d.entered q x w 0x05) q x w 0x05 0x0215))

/-- R314, R278, R287: an undefined opcode, or an undefined mod of format M, faults with 0x0201. -/
def Sys2Proof.Claims.IllegalFaults : Prop :=
  ∀ (s : State) (q : Nat) (word : BitVec 128) (x : Queue) (d : Dev),
    pelmicOf q word = .illegalInstruction q word →
    Stands s q (fieldsOf word) (illegalPel (opOf word).toNat) x d →
    exec (.illegalInstruction q word) s =
      .next (s.faulted (d.queued q x (fieldsOf word) (opOf word).toNat) q x (fieldsOf word) (opOf word).toNat 0x0201)

/-- Control instructions: what they leave and where issue goes on: RegisterInstructionsIssue, BranchGoes, LoopCounts, IllegalFaults. -/
def Obligations.ControlInstructions : Prop := Claims.RegisterInstructionsIssue ∧ Claims.BranchGoes ∧ Claims.LoopCounts ∧ Claims.IllegalFaults

/-- R323, R325: ALU writes the result of its mod, on rb and rc + imm; a poison-marked operand faults with 0x020A and writes nothing. -/
def Obligations.AluResult : Prop :=
  ∀ (s : State) (q : Nat) (w : PWord) (x : Queue) (d : Dev), Shows s q w aluPel x d →
    let a := (x.vals w).b.1
    let b := (x.vals w).c.1 + w.imm
    ((x.vals w).b.2 = false → (x.vals w).c.2 = false →
      exec (.alu q w) s = .next (s.applied (d.entered q x w 0x09) q x w 0x09
        { regs := [(rn w.ra, (match w.mod.toNat with
          | 0 => a + b
          | 1 => a - b
          | 2 => a &&& b
          | 3 => a ||| b
          | 4 => a ^^^ b
          | 5 => a <<< (b.toNat % 64)
          | 6 => a >>> (b.toNat % 64)
          | 7 => a.sshiftRight (b.toNat % 64)
          | 8 => a * b
          | 9 => if a.toNat < b.toNat then a else b
          | _ => if a.toNat < b.toNat then b else a), false)] } (x.head + 1))) ∧
    ((x.vals w).b.2 = true ∨ (x.vals w).c.2 = true →
      exec (.alu q w) s = .next (s.faulted (d.entered q x w 0x09) q x w 0x09 0x020A))

/-- R316, R317, R319 to R321, R323, R326: what the instructions on registers alone leave unchanged when they issue: memory, tables, pages, lines, keys, channels,
links, power, firmware and every other queue. -/
def Obligations.RegisterInstructionsFrame : Prop :=
  ∀ p ∈ [(Instr.nop, nopPel), (Instr.halt, haltPel), (Instr.fence, fencePel), (Instr.signal, signalPel), (Instr.seti, setiPel), (Instr.alu, aluPel),
    (Instr.timer, timerPel), (Instr.branch, branchPel), (Instr.loop, loopPel)],
  ∀ (s t : State) (q : Nat) (w : PWord) (x : Queue) (d : Dev), Shows s q w p.2 x d → d.Still → d.overHold 512 = false → exec (p.1 q w) s = .next t →
    t.pending = s.pending ∧ t.trust = s.trust ∧ t.dev.mem = d.mem ∧ t.dev.grottos = d.grottos ∧ t.dev.slices = d.slices ∧
    t.dev.keys = d.keys ∧ t.dev.key0 = d.key0 ∧ t.dev.flow = d.flow ∧ t.dev.ev = d.ev ∧ t.dev.ports = d.ports ∧
    t.dev.pages.area = d.pages.area ∧ t.dev.pages.cache = d.pages.cache ∧ t.dev.devTag = d.devTag ∧ t.dev.fwUp = d.fwUp ∧
    ∀ n, n ≠ q → t.dev.queue? n = d.queue? n

/-- R324, R325: LOAD writes the 8 bytes at its offset, with the poison of their line as the register's mark; STORE writes 8 bytes of rc,
poisoned where rc is marked. -/
def Sys2Proof.Claims.LoadStore : Prop :=
  ∀ (s : State) (q : Nat) (w : PWord) (x : Queue) (d e : Dev) (a : Area) (bs : PBytes),
    (Shows s q w loadPel x d →
      (d.entered q x w 0x0A).ranges q x
        [{ win := w.swin.toNat, off := (x.vals w).b.1.toNat + w.imm.toNat, len := 8, align := 8 }] false false = .ok [a] →
      (Eng.read { s.ctx q x w with alloc := true } a 0 8).run (d.entered q x w 0x0A) = .ok (bs, e) →
      exec (.load q w) s = .next (s.applied e q x w 0x0A
        { regs := [(rn w.ra, BitVec.ofNat 64 (natOfBytes (bs.map Prod.fst)), bs.any Prod.snd)] } (x.head + 1))) ∧
    (Shows s q w storePel x d →
      (d.entered q x w 0x0B).ranges q x
        [{ win := w.dwin.toNat, off := (x.vals w).b.1.toNat + w.imm.toNat, len := 8, right := 1, align := 8 }] false false = .ok [a] →
      exec (.store q w) s = .next (s.applied
        ((d.entered q x w 0x0B).writeAt (s.ctx q x w) a 0
          ((bytesOfNat 8 (x.vals w).c.1.toNat).map fun b => (b, (x.vals w).c.2))) q x w 0x0B {} (x.head + 1)))

/-- R327: WAIT ends at once where device time has reached rb, or where the word compares with rc as its mod says; it writes the time, or
the word, to ra. A timeout of 0 ends it with status 0x0101. -/
def Sys2Proof.Claims.WaitEnds : Prop :=
  ∀ (s : State) (q : Nat) (w : PWord) (x : Queue) (d e : Dev) (a : Area) (bs : PBytes), Shows s q w waitPel x d →
    (w.mod.getLsbD 0 = false → (x.vals w).b.1.toNat ≤ d.timeNs →
      exec (.wait q w) s = .next (s.applied (d.entered q x w 0x06) q x w 0x06
        { regs := [(rn w.ra, BitVec.ofNat 64 d.timeNs, false)] } (x.head + 1))) ∧
    (w.mod.getLsbD 0 = true → (x.vals w).c.2 = false →
      (d.entered q x w 0x06).ranges q x [{ win := w.swin.toNat, off := (x.vals w).b.1.toNat, len := 8, align := 8 }] false false = .ok [a] →
      (Eng.read { s.ctx q x w with alloc := true } a 0 8).run (d.entered q x w 0x06) = .ok (bs, e) → bs.any Prod.snd = false →
      let y : Word := BitVec.ofNat 64 (natOfBytes (bs.map Prod.fst))
      let c := (x.vals w).c.1
      let holds := (w.mod.toNat / 2 % 4 = 0 ∧ y = c) ∨ (w.mod.toNat / 2 % 4 = 1 ∧ y ≠ c) ∨
        (w.mod.toNat / 2 % 4 = 2 ∧ c.toNat ≤ y.toNat) ∨ (w.mod.toNat / 2 % 4 = 3 ∧ y.toNat < c.toNat)
      (holds → exec (.wait q w) s = .next (s.applied e q x w 0x06 { regs := [(rn w.ra, y, false)] } (x.head + 1))) ∧
      (¬ holds → w.imm = 0 → exec (.wait q w) s = .next (s.applied e q x w 0x06
        { status := 0x0101, regs := [(rn w.ra, y, false)] } (x.head + 1))))

/-- LOAD, STORE and WAIT: LoadStore, WaitEnds. -/
def Obligations.MemoryWords : Prop := Claims.LoadStore ∧ Claims.WaitEnds

/-- R343, R344, R171: an atomic on 8 or 16 bytes of a grotto's line that holds no poison and that its slice gives it: the old value goes to
ra (and ra + 1) and to the result words, and the new value to the line; CAS writes nothing where the old value differs from ra. -/
def Obligations.AtomicsUpdateTheLine : Prop :=
  ∀ p ∈ [(0x80, Instr.add), (0x81, Instr.cas), (0x82, Instr.swap), (0x83, Instr.smin), (0x84, Instr.umin), (0x85, Instr.smax), (0x86, Instr.umax)],
  ∀ (s : State) (q : Nat) (w : PWord) (x : Queue) (d e f : Dev) (a : Area) (y : LineData), Shows s q w (atomicPel p.1) x d →
    let v := x.vals w
    let wide := w.mod.getLsbD 0
    let n := if wide then 16 else 8
    let c := s.ctx q x w
    let old := natOfBytes (((lineBytes y).drop (a.base % 64)).take n)
    let b := v.b.1.toNat + (if wide then v.b1.1.toNat * 2 ^ 64 else 0)
    let k := v.a.1.toNat + (if wide then v.a1.1.toNat * 2 ^ 64 else 0)
    let signed (u : Nat) : Int := if u < 2 ^ (8 * n - 1) then u else (u : Int) - 2 ^ (8 * n)
    let new : Option Nat := match p.1 with
      | 0x80 => some ((old + b) % 2 ^ (8 * n))
      | 0x81 => if old = k then some b else none
      | 0x82 => some b
      | 0x83 => some (if signed old < signed b then old else b)
      | 0x84 => some (if old < b then old else b)
      | 0x85 => some (if signed old < signed b then b else old)
      | _ => some (if old < b then b else old)
    v.b.2 = false → (wide = true → v.b1.2 = false) → (p.1 = 0x81 → v.a.2 = false ∧ (wide = true → v.a1.2 = false)) →
    (d.entered q x w p.1).ranges q x [{ win := w.dwin.toNat, off := v.c.1.toNat + w.imm.toNat, len := n, right := 2, align := n }] false false =
      .ok [a] →
    a.resv = false → (Eng.own c a.g (a.base / 64)).run (d.entered q x w p.1) = .ok ((), e) →
    (Eng.line { c with alloc := true } a.g (a.base / 64)).run e = .ok ((y, false), f) →
    (Eng.roomFor a.g (a.base / 64)).run f = .ok ((), f) →
    exec (p.2 q w) s = .next (s.applied
      (match new with
       | some u =>
         let all := mergeLine y (BitVec.ofNat 512 (u <<< (8 * (a.base % 64)))) (maskRange (a.base % 64) n)
         f.applyWrite (c.req a.g (a.base / 64) (.write fullMask all false)) fullMask all false
       | none => f)
      q x w p.1
      (if wide then { r0 := BitVec.ofNat 64 old, r1 := BitVec.ofNat 64 (old / 2 ^ 64), regs := [(rn w.ra, BitVec.ofNat 64 old, false), (rn w.ra + 1, BitVec.ofNat 64 (old / 2 ^ 64), false)], work := [homeSlice a.g (a.base / 64)] }
       else { r0 := BitVec.ofNat 64 old, regs := [(rn w.ra, BitVec.ofNat 64 old, false)], work := [homeSlice a.g (a.base / 64)] })
      (x.head + 1))

/-- R328, R329, R330: COPY writes the bytes it reads, with their poison; FILL writes byte i mod 8 of rb at byte i; PREFETCH reads its
lines and writes none; each of 1 to 2^32 - 1 bytes. -/
def Sys2Proof.Claims.CopyFillPrefetch : Prop :=
  ∀ (s : State) (q : Nat) (w : PWord) (x : Queue) (d e : Dev) (a b : Area) (bs : PBytes),
    let v := x.vals w
    let n := v.c.1.toNat
    0 < n → n < 2 ^ 32 →
    (Shows s q w copyPel x d →
      (d.entered q x w 0x20).ranges q x [{ win := w.swin.toNat, off := v.b.1.toNat, len := n },
        { win := w.dwin.toNat, off := v.a.1.toNat, len := n, right := 1 }] false false = .ok [a, b] →
      (Eng.read (s.ctx q x w) a 0 n).run (d.entered q x w 0x20) = .ok (bs, e) →
      exec (.copy q w) s = .next (s.applied (e.writeAt (s.ctx q x w) b 0 bs) q x w 0x20 {} (x.head + 1))) ∧
    (Shows s q w fillPel x d →
      (d.entered q x w 0x21).ranges q x [{ win := w.dwin.toNat, off := v.a.1.toNat, len := n, right := 1 }] false false = .ok [a] →
      exec (.fill q w) s = .next (s.applied ((d.entered q x w 0x21).writeAt (s.ctx q x w) a 0
        ((List.range n).map fun i => ((v.b.1 >>> (8 * (i % 8))).setWidth 8, false))) q x w 0x21 {} (x.head + 1))) ∧
    (Shows s q w prefetchPel x d →
      (d.entered q x w 0x23).ranges q x [{ win := w.swin.toNat, off := v.b.1.toNat, len := n }] false false = .ok [a] →
      (Eng.read { s.ctx q x w with stale := true, alloc := true } a 0 n).run (d.entered q x w 0x23) = .ok (bs, e) →
      exec (.prefetch q w) s = .next (s.applied e q x w 0x23 {} (x.head + 1)))

/-- R329, R100: ZERO writes zeros over its bytes; whole pages of a grotto are returned to unbacked instead, and only the bytes before
and after them are written. -/
def Sys2Proof.Claims.ZeroClears : Prop :=
  ∀ (s : State) (q : Nat) (w : PWord) (x : Queue) (d e : Dev) (a : Area), Shows s q w zeroPel x d →
    let v := x.vals w
    let n := v.c.1.toNat
    let c := s.ctx q x w
    let lo := ceilDiv a.base 4096
    let hi := (a.base + a.len) / 4096
    0 < n → n < 2 ^ 32 →
    (d.entered q x w 0x22).ranges q x [{ win := w.dwin.toNat, off := v.a.1.toNat, len := n, right := 1 }] false false = .ok [a] →
    (a.resv = true ∨ hi ≤ lo →
      exec (.zero q w) s = .next (s.applied ((d.entered q x w 0x22).writeAt c a 0 (List.replicate n (0, false))) q x w 0x22 {} (x.head + 1))) ∧
    (a.resv = false → lo < hi → (d.entered q x w 0x22).unbackPages c a.g lo (hi - lo) = some e →
      exec (.zero q w) s = .next (s.applied
        ((e.writeAt c a 0 (List.replicate (lo * 4096 - a.base) (0, false))).writeAt c a (hi * 4096 - a.base)
          (List.replicate (a.base + a.len - hi * 4096) (0, false))) q x w 0x22 {} (x.head + 1)))

/-- COPY, FILL, PREFETCH and ZERO: CopyFillPrefetch, ZeroClears. -/
def Obligations.MovementInstructions : Prop := Claims.CopyFillPrefetch ∧ Claims.ZeroClears

/-- R331 to R333, R246, R250: MIGRATE and SPILL of a page of the queue's own grotto start a move that the entry in rb asks for, as soon as
a mover takes it; the move names the instruction, which is told its result when the move ends. -/
def Obligations.MovesStart : Prop :=
  ∀ (s : State) (q : Nat) (w : PWord) (x : Queue) (d e : Dev),
    let rb := (x.vals w).b.1.toNat
    let g := rb / 2 ^ 58
    let page := rb / 2 ^ 25 % 2 ^ 33
    let ask (k : MoveKind) (chan : Option Nat) (port : Nat) : MoveAsk :=
      { kind := k, g := g, page := page, gen := BitVec.ofNat 8 rb, chan := chan, port := port }
    (privQ q = true ∨ x.recd.grotto = g) → page < ((d.grotto g).committed + (d.grotto g).elasticMax) * unitPages →
    (Shows s q w migratePel x d →
      (let a := (match w.mod.toNat with
        | 0 => ask .promote none 0
        | 1 => ask (if peState (d.entry g page) = 2 then .rewrite else .demote) none 0
        | _ => ask .relocate (if w.imm.getLsbD 4 then some (w.imm.toNat % 16) else none) 0)
       (d.entered q x w 0x24).startMove a (some (q, x.head)) = .started e →
       exec (.migrate q w) s = .next (s.applied e q x w 0x24 {} (x.head + 1)) ∧
       ∃ m ∈ e.pages.moves, m.issuer = some (q, x.head) ∧ m.kind = a.kind ∧ m.g = g ∧ m.page = page ∧ m.phase = 2)) ∧
    (Shows s q w spillPel x d → (d.entered q x w 0x25).startMove (ask .spill none (w.mod.toNat % 2)) (some (q, x.head)) = .started e →
      exec (.spill q w) s = .next (s.applied e q x w 0x25 {} (x.head + 1)) ∧
      ∃ m ∈ e.pages.moves, m.issuer = some (q, x.head) ∧ m.kind = .spill ∧ m.g = g ∧ m.page = page ∧ m.phase = 2)

/-- R206, R225, R334 to R337 (native format, no chain): COMPRESS and DECOMPRESS write at the destination what their unit makes of the input,
and report input bytes taken, output bytes, and no chain entry with the bytes in the destination; the status says whether the output is full or the
input short. -/
def Sys2Proof.Claims.StreamJobs : Prop :=
  ∀ p ∈ [(false, compressPel, Instr.compress), (true, decompressPel, Instr.decompress)],
  ∀ (s : State) (q : Nat) (w : PWord) (x : Queue) (d e f : Dev) (a b t : Area) (desc : List Byte) (j : Job) (inp : PBytes),
    Shows s q w p.2.1 x d →
    let v := x.vals w
    let n := v.c.1.toNat
    let c := s.ctx q x w
    let src : Rng := { win := w.swin.toNat, off := v.b.1.toNat, len := n }
    let dst (len : Nat) : Rng := { win := w.dwin.toNat, off := v.a.1.toNat, len := len, right := 1 }
    w.mod.toNat % 8 = 0 → 0 < n → n < 2 ^ 32 →
    (Eng.third c x w 64 [src, dst 0] false).run (d.entered q x w p.2.1.op) = .ok (desc, e) →
    jobOf desc 0 p.1 = some j → j.resume = false → j.chain = none → j.saveIn = none → j.saveOut = none → j.dict = none →
    e.ranges q x [src, dst j.dlen, thirdRng w 64] false false = .ok [a, b, t] →
    (Eng.read c a 0 n).run e = .ok (inp, f) → inp.all (fun u => !u.2) = true →
    let r := runJob p.1 0 j [] [] n (inp.map Prod.fst) j.dlen
    (p.1 = true → isFault r.status = false) →
    exec (p.2.2 q w) s = .next (s.applied (f.writeAt c b 0 (clean r.out)) q x w p.2.1.op
      { status := r.status, r0 := BitVec.ofNat 64 r.used, r1 := BitVec.ofNat 64 r.out.length, r2 := BitVec.ofNat 64 (0xFFFFFFFF * 2 ^ 32 + r.out.length),
        work := if p.1 then [0, 1, r.out.length] else [1, r.used, r.out.length] }
      (x.head + 1))

/-- R226, R206: what COMPRESS makes of bytes in the native format within the space at hand is never longer than that space, and takes no more
input than there is. -/
def Sys2Proof.Claims.NativeFits : Prop :=
  ∀ (level : Nat) (bs : List Byte) (space : Nat),
    (nativeEncode level false bs.length bs space).out.length ≤ space ∧ (nativeEncode level false bs.length bs space).used ≤ bs.length ∧
    ((nativeEncode level false bs.length bs space).status = 0 → (nativeEncode level false bs.length bs space).used = bs.length)

/-- COMPRESS and DECOMPRESS in the native format: StreamJobs, NativeFits. -/
def Obligations.TransformStreams : Prop := Claims.StreamJobs ∧ Claims.NativeFits

/-- R233 to R236, R338: CHECK computes the check value of its input into ra and result0; append writes input and value; verify writes
the input without its value, and faults with 0x0212 where the stored value differs. -/
def Sys2Proof.Claims.CheckModes : Prop :=
  ∀ (s : State) (q : Nat) (w : PWord) (x : Queue) (d e f : Dev) (a b t : Area) (desc : List Byte) (k : CheckDesc) (inp : PBytes),
    Shows s q w checkPel x d →
    let v := x.vals w
    let n := v.c.1.toNat
    let c := s.ctx q x w
    let src : Rng := { win := w.swin.toNat, off := v.b.1.toNat, len := n }
    let dst (len : Nat) : Rng := { win := w.dwin.toNat, off := v.a.1.toNat, len := len, right := 1 }
    let vb := (k.width + 7) / 8
    let bytes := inp.map Prod.fst
    0 < n → n < 2 ^ 32 → checkDescOf desc = some k → (Eng.read c a 0 n).run e = .ok (inp, f) → inp.all (fun u => !u.2) = true →
    (w.mod.toNat % 4 = 0 → (Eng.third c x w 32 [src] false).run (d.entered q x w 0x42) = .ok (desc, e) →
      e.ranges q x [src, thirdRng w 32] false false = .ok [a, t] →
      exec (.check q w) s = .next (s.applied f q x w 0x42
        { r0 := BitVec.ofNat 64 (checkValue k bytes), regs := [(rn w.ra, BitVec.ofNat 64 (checkValue k bytes), false)], work := [n] } (x.head + 1))) ∧
    (w.mod.toNat % 4 = 1 → (Eng.third c x w 32 [src, dst 0] false).run (d.entered q x w 0x42) = .ok (desc, e) →
      e.ranges q x [src, thirdRng w 32, dst (n + vb)] false false = .ok [a, t, b] →
      exec (.check q w) s = .next (s.applied (f.writeAt c b 0 (clean (bytes ++ k.bytes (checkValue k bytes)))) q x w 0x42
        { r0 := BitVec.ofNat 64 (checkValue k bytes), work := [n] } (x.head + 1))) ∧
    (w.mod.toNat % 4 = 2 → vb ≤ n → (Eng.third c x w 32 [src, dst 0] false).run (d.entered q x w 0x42) = .ok (desc, e) →
      e.ranges q x [src, thirdRng w 32, dst (n - vb)] false false = .ok [a, t, b] →
      let stored := natOfBytes (if k.big then (bytes.drop (n - vb)).reverse else bytes.drop (n - vb))
      let value := checkValue k (bytes.take (n - vb))
      let g := f.writeAt c b 0 (clean (bytes.take (n - vb)))
      (stored = value →
        exec (.check q w) s = .next (s.applied g q x w 0x42 { r0 := BitVec.ofNat 64 value, work := [n - vb] } (x.head + 1))) ∧
      (stored ≠ value →
        exec (.check q w) s = .next (s.faulted g q x w 0x42 0x0212
          { r0 := BitVec.ofNat 64 value, r1 := BitVec.ofNat 64 stored, work := [n - vb] })))

/-- R339, R340: HASH of a whole message writes its 32-byte SHA-256 digest, big-endian by words; BYTESWAP writes its elements of 2, 4, 8 or 16
bytes, each with its bytes reversed. -/
def Sys2Proof.Claims.HashAndByteswap : Prop :=
  ∀ (s : State) (q : Nat) (w : PWord) (x : Queue) (d f : Dev) (a b : Area) (inp : PBytes),
    let v := x.vals w
    let n := v.c.1.toNat
    let c := s.ctx q x w
    let bytes := inp.map Prod.fst
    0 < n → n < 2 ^ 32 → inp.all (fun u => !u.2) = true →
    (Shows s q w hashPel x d → w.mod.getLsbD 0 = false → w.mod.getLsbD 1 = true →
      (d.entered q x w 0x43).ranges q x [{ win := w.swin.toNat, off := v.b.1.toNat, len := n },
        { win := w.dwin.toNat, off := v.a.1.toNat, len := 32, right := 1 }] false false = .ok [a, b] →
      (Eng.read c a 0 n).run (d.entered q x w 0x43) = .ok (inp, f) →
      let pad := shaPad (bytes.drop (64 * (n / 64))) n
      exec (.hash q w) s = .next (s.applied
        (f.writeAt c b 0 (clean (shaBytes (shaBlocks (pad.length / 64) (shaBlocks (n / 64) shaInit bytes) pad)))) q x w 0x43
        { work := [n / 64 + pad.length / 64, 1] } (x.head + 1))) ∧
    (Shows s q w byteswapPel x d →
      let z := 2 ^ (w.mod.toNat % 4 + 1)
      (d.entered q x w 0x44).ranges q x [{ win := w.swin.toNat, off := v.b.1.toNat, len := n * z, align := z },
        { win := w.dwin.toNat, off := v.a.1.toNat, len := n * z, right := 1, align := z }] false true = .ok [a, b] →
      (Eng.read c a 0 (n * z)).run (d.entered q x w 0x44) = .ok (inp, f) →
      exec (.byteswap q w) s = .next (s.applied
        (f.writeAt c b 0 (clean ((List.range n).flatMap fun i => ((bytes.drop (i * z)).take z).reverse))) q x w 0x44 {} (x.head + 1)))

/-- CHECK, HASH and BYTESWAP: CheckModes, HashAndByteswap. -/
def Obligations.ChecksHashesAndSwaps : Prop := Claims.CheckModes ∧ Claims.HashAndByteswap

/-- R364 to R373, R341: SCAN without a chain, set or null bitmap, of elements that hold no poison: it selects the rows that its terms select,
in order, and writes their bitmap, their numbers from the row base, or the elements themselves. -/
def Sys2Proof.Claims.ScanSelects : Prop :=
  ∀ (s : State) (q : Nat) (w : PWord) (x : Queue) (d e f : Dev) (a b t : Area) (desc : List Byte) (k : ScanDesc) (inp : PBytes),
    Shows s q w scanPel x d →
    let v := x.vals w
    let n := v.c.1.toNat
    let c := s.ctx q x w
    let src (len : Nat) : Rng := { win := w.swin.toNat, off := v.b.1.toNat, len := len }
    let dst (len : Nat) : Rng := { win := w.dwin.toNat, off := v.a.1.toNat, len := len, right := 1 }
    let elem (i : Nat) : List Byte := ((inp.map Prod.fst).drop (i * k.width)).take k.width
    let sel (i : Nat) : Bool := ((!k.cmp || k.termC (natOfBytes (elem i))) && (!k.range || k.termR (natOfBytes (elem i)))) != k.invert
    let out : List Byte := match k.form with
      | 0 => (List.range ((n + 7) / 8)).map fun j =>
          BitVec.ofNat 8 (((List.range 8).map fun i => if 8 * j + i < n ∧ sel (8 * j + i) then 2 ^ i else 0).sum)
      | 1 => ((List.range n).filter sel).flatMap fun i => bytesOfNat 8 ((k.rowBase + i) % 2 ^ 64)
      | _ => ((List.range n).filter sel).flatMap elem
    0 < n → n < 2 ^ 32 → (Eng.third c x w 160 [src 0, dst 0] false).run (d.entered q x w 0x60) = .ok (desc, e) →
    scanDesc desc = some k → k.head.chain = none → k.set = false → k.bitmap = false → out.length ≤ k.head.dlen →
    e.ranges q x [src (n * k.width), dst k.head.dlen, thirdRng w 160] false false = .ok [a, b, t] →
    (Eng.read c a 0 (n * k.width)).run e = .ok (inp, f) → inp.length = n * k.width → inp.all (fun u => !u.2) = true →
    exec (.scan q w) s = .next (s.applied (f.writeAt c b 0 (clean out)) q x w 0x60
      { r0 := BitVec.ofNat 64 n, r1 := BitVec.ofNat 64 (if k.form = 0 then n else ((List.range n).filter sel).length),
        r2 := BitVec.ofNat 64 (0xFFFFFFFF * 2 ^ 32 + out.length),
        work := [1, n * k.width, if k.form = 0 then n else ((List.range n).filter sel).length, n] } (x.head + 1))

/-- R374 to R376, R341, R342: GATHER without a chain writes the elements that its indices name, in order; SCATTER writes each element
where its index says, later ones over earlier ones. Every index lies below the count. -/
def Sys2Proof.Claims.GatherScatter : Prop :=
  ∀ (s : State) (q : Nat) (w : PWord) (x : Queue) (d e f g : Dev) (a b t m : Area) (desc : List Byte) (k : ListDesc) (ib vb : PBytes)
    (vals : List PBytes) (is : List Nat),
    let v := x.vals w
    let n := v.c.1.toNat
    let c := s.ctx q x w
    let src (len : Nat) : Rng := { win := w.swin.toNat, off := v.b.1.toNat, len := len }
    let dst (len : Nat) : Rng := { win := w.dwin.toNat, off := v.a.1.toNat, len := len, right := 1 }
    0 < n → n < 2 ^ 32 → k.head.chain = none → is.length = n →
    (∀ i, i < n → ((ib.drop (i * k.idx)).take k.idx).all (fun u => !u.2) = true ∧
      is[i]? = some (natOfBytes (((ib.drop (i * k.idx)).take k.idx).map Prod.fst))) →
    (∀ i ∈ is, i < k.count) →
    (Shows s q w gatherPel x d → (Eng.third c x w 64 [src 0, dst 0] false).run (d.entered q x w 0x61) = .ok (desc, e) →
      listDesc desc 0x61 = some k →
      e.ranges q x [src (n * k.idx), dst k.head.dlen, thirdRng w 64, { win := k.win, off := k.off, len := k.count * k.width }] false false =
        .ok [a, b, t, m] →
      (Eng.read c a 0 (n * k.idx)).run e = .ok (ib, f) →
      (is.mapM fun i => Eng.read c m (i * k.width) k.width).run f = .ok (vals, g) →
      vals.length = n → (vals.flatMap id).length ≤ k.head.dlen →
      exec (.gather q w) s = .next (s.applied (g.writeAt c b 0 (vals.flatMap id)) q x w 0x61
        { r0 := BitVec.ofNat 64 n, r1 := BitVec.ofNat 64 n, r2 := BitVec.ofNat 64 (0xFFFFFFFF * 2 ^ 32 + (vals.flatMap id).length),
          work := [1, n * k.idx, n, n] }
        (x.head + 1))) ∧
    (Shows s q w scatterPel x d → (Eng.third c x w 64 [src 0, dst 0] false).run (d.entered q x w 0x62) = .ok (desc, e) →
      listDesc desc 0x62 = some k → k.head.dlen = 0 →
      e.ranges q x [src (n * k.width), dst (k.count * k.width), thirdRng w 64, { win := k.win, off := k.off, len := n * k.idx }] false false =
        .ok [a, b, t, m] →
      (Eng.read c m 0 (n * k.idx)).run e = .ok (ib, f) → (Eng.read c a 0 (n * k.width)).run f = .ok (vb, g) →
      exec (.scatter q w) s = .next (s.applied
        (((is.zip (List.range n)).foldl (fun z u => mergeBytes z (b.base + u.1 * k.width) ((vb.drop (u.2 * k.width)).take k.width)) []).foldl
          (fun dv u => dv.putLine c b u.1 u.2.1 u.2.2.1 u.2.2.2) g) q x w 0x62
        { r0 := BitVec.ofNat 64 n, r1 := BitVec.ofNat 64 n, r2 := some 0, work := [1, n * k.width, n, n] } (x.head + 1)))

/-- SCAN, GATHER and SCATTER: ScanSelects, GatherScatter. -/
def Obligations.ScansAndLists : Prop := Claims.ScanSelects ∧ Claims.GatherScatter

/-- R377 to R382, R341: PROBE without a chain, all of whose keys are looked up: it writes, as its form says, the bitmap of the keys found, their
numbers, their numbers with payloads, or a payload or the miss value for every key. -/
def Obligations.ProbeLooksUp : Prop :=
  ∀ (s : State) (q : Nat) (w : PWord) (x : Queue) (d e e1 e2 f : Dev) (a b t h m : Area) (as : List Area) (desc : List Byte) (k : ProbeDesc)
    (y : HashTable) (hb keys : PBytes) (rows : List (Nat × Option (List Byte))),
    Shows s q w probePel x d →
    let v := x.vals w
    let n := v.c.1.toNat
    let c := s.ctx q x w
    let src (len : Nat) : Rng := { win := w.swin.toNat, off := v.b.1.toNat, len := len }
    let dst (len : Nat) : Rng := { win := w.dwin.toNat, off := v.a.1.toNat, len := len, right := 1 }
    let tab (len : Nat) : Rng := { win := k.win, off := k.off, len := len }
    let num (i : Nat) : List Byte := bytesOfNat 8 ((k.base + i) % 2 ^ 64)
    let units : List (List Byte) := match k.form with
      | 0 => (List.range ((n + 7) / 8)).map fun j => [BitVec.ofNat 8 (((List.range 8).map fun i =>
          if ((rows[8 * j + i]?).map fun r => r.2.isSome).getD false then 2 ^ i else 0).sum)]
      | 1 => rows.filterMap fun r => r.2.map fun _ => num r.1
      | 2 => rows.filterMap fun r => r.2.map fun p => num r.1 ++ p
      | _ => rows.map fun r => r.2.getD (k.miss.take y.pay)
    let out := units.flatMap id
    0 < n → n < 2 ^ 32 → (Eng.third c x w 64 [src 0, dst 0] false).run (d.entered q x w 0x63) = .ok (desc, e) →
    probeDesc desc = some k → k.head.chain = none →
    e.ranges q x [src 0, dst 0, thirdRng w 64, { win := k.win, off := 0, len := 0 }] false false = .ok as →
    k.off % 64 = 0 → k.off + 64 ≤ (x.window k.win).length → e.ranges q x [tab 64] false false = .ok [h] →
    (Eng.read c h 0 64).run e = .ok (hb, e1) → hb.all (fun u => !u.2) = true → hashTable (hb.map Prod.fst) = some y →
    k.off + 64 + 128 * 2 ^ y.log ≤ (x.window k.win).length → (y.pay = 0 → k.form < 2) →
    e1.ranges q x [src (n * y.key), dst k.head.dlen, thirdRng w 64, tab (64 + 128 * 2 ^ y.log)] false false = .ok [a, b, t, m] →
    (Eng.read c a 0 (n * y.key)).run e1 = .ok (keys, e2) →
    (probeKeys c y m keys (List.range n) []).run e2 = .ok ((rows, none), f) → rows.length = n → out.length ≤ k.head.dlen →
    exec (.probe q w) s = .next (s.applied (f.writeAt c b 0 (clean out)) q x w 0x63
      { r0 := BitVec.ofNat 64 n, r1 := BitVec.ofNat 64 (if k.form = 0 then n else units.length),
        r2 := BitVec.ofNat 64 (0xFFFFFFFF * 2 ^ 32 + out.length),
        work := [1, n * y.key, if k.form = 0 then n else units.length, n] } (x.head + 1))

/-- R383 to R387, R341: REDUCE without a chain, groups, selection bitmap or prior records, of elements that hold no poison, adds every element to
its one group and writes the group's record. -/
def Sys2Proof.Claims.ReduceAccumulates : Prop :=
  ∀ (s : State) (q : Nat) (w : PWord) (x : Queue) (d e f : Dev) (a b t : Area) (desc : List Byte) (k : ReduceDesc) (inp : PBytes),
    Shows s q w reducePel x d →
    let v := x.vals w
    let n := v.c.1.toNat
    let c := s.ctx q x w
    let src (len : Nat) : Rng := { win := w.swin.toNat, off := v.b.1.toNat, len := len }
    let dst (len : Nat) : Rng := { win := w.dwin.toNat, off := v.a.1.toNat, len := len, right := 1 }
    let elem (i : Nat) : Nat := natOfBytes (((inp.map Prod.fst).drop (i * k.width)).take k.width)
    let total : Accum := (List.range n).foldl (fun u i => u.add k.type k.width (elem i)) {}
    0 < n → n < 2 ^ 32 → (Eng.third c x w 64 [src 0, dst 0] false).run (d.entered q x w 0x64) = .ok (desc, e) →
    reduceDesc desc = some k → k.head.chain = none → k.gw = 0 → k.sel = none → k.prior = none → k.groups = 1 → 64 ≤ k.head.dlen →
    e.ranges q x [src (n * k.width), dst k.head.dlen, thirdRng w 64] false false = .ok [a, b, t] →
    (Eng.read c a 0 (n * k.width)).run e = .ok (inp, f) → inp.all (fun u => !u.2) = true →
    exec (.reduce q w) s = .next (s.applied (f.writeAt c b 0 (clean total.bytes)) q x w 0x64
      { r0 := BitVec.ofNat 64 n, r1 := some 1, r2 := BitVec.ofNat 64 (0xFFFFFFFF * 2 ^ 32 + 64), work := [1, n * k.width, 1, n] } (x.head + 1))

/-- R384: an unsigned element added to a group whose count and sum are in range raises its count by 1 and its sum by the element, and keeps
least and greatest. -/
def Sys2Proof.Claims.AccumulatorAddsUnsigned : Prop :=
  ∀ (a : Accum) (width v : Nat), v < 2 ^ 64 → a.count + 1 < 2 ^ 64 → a.sum + v < 2 ^ 128 →
    let b := a.add 0 width v
    b.count = a.count + 1 ∧ b.sum = a.sum + v ∧ b.nan = a.nan ∧
    (a.count = 0 → b.min = v ∧ b.max = v) ∧ (a.count ≠ 0 → b.min = min v a.min ∧ b.max = max v a.max)

/-- REDUCE and its accumulator: ReduceAccumulates, AccumulatorAddsUnsigned. -/
def Obligations.Reduces : Prop := Claims.ReduceAccumulates ∧ Claims.AccumulatorAddsUnsigned

/-- R348, R76, R78: GROTTO write and read. A record that passes every check of the table in its order goes into the grotto table with the map
run it is given: where the grotto does not leave service, the new record has the written fields, and where it was not fenced no page, line or key
changes. A read writes out the record, or zeros where there is none. -/
def Sys2Proof.Claims.GrottoRecords : Prop :=
  ∀ (s : State) (q : Nat) (w : PWord) (x : Queue) (d e f : Dev) (a : Area) (bs : List Byte) (base : Nat),
    let g := w.imm.toNat % 64
    (Shows s q w grottoWritePel x d → d.faults.armed = [] →
      (Eng.operand (s.ctx q x w) x w (x.vals w) 32).run (d.entered q x w 0xC0) = .ok (bs, e) → e.faults.armed = [] →
      (((e.grotto? g).map Grotto.state).getD 0 = 0 ∨ field bs 0 63 62 ≠ 0) → e.checkRecord g (e.grotto? g) bs = .ok (base, f) →
      ∃ h, exec (.grottoWrite q w) s = .next (s.applied h q x w 0xC0 {} (x.head + 1)) ∧
        (∃ y, h.grotto? g = some y ∧ y.state = field bs 0 63 62 ∧ y.cls = field bs 0 59 56 ∧ y.keyId = field bs 0 55 44 ∧
          y.ownerLink = field bs 0 42 40 ∧ y.ownerLd = field bs 0 39 36 ∧ y.chanMask = BitVec.ofNat 16 (field bs 0 35 20) ∧
          y.committed = field bs 0 17 0 ∧ y.coverage = field bs 1 62 56 ∧ y.elasticMax = field bs 1 51 34 ∧
          y.elasticKeyId = field bs 2 63 52 ∧ y.mapBase = base) ∧
        (((e.grotto? g).map Grotto.state).getD 0 ≠ 2 → h.mem = f.mem ∧ h.pages = f.pages ∧ h.keys = f.keys)) ∧
    (Shows s q w grottoReadPel x d →
      (d.entered q x w 0xC0).ranges q x [{ win := w.dwin.toNat, off := (x.vals w).a.1.toNat, len := 32, right := 1 }] false false = .ok [a] →
      exec (.grottoRead q w) s = .next (s.applied ((d.entered q x w 0xC0).writeAt (s.ctx q x w) a 0 (clean (match d.grotto? g with
        | some y => y.words.flatMap (bytesOfNat 8)
        | none => List.replicate 32 0))) q x w 0xC0 {} (x.head + 1)))

/-- R348, R38, R39, R79, R185: GROTTO attach, detach, return to service and delete, where none of their conditions holds and no test feature is
armed: the attachment is added at its base (or moved there), taken away, or no longer fenced, and the record removed. An attachment that
was fenced returns with no copies recorded but in broadcast entries. -/
def Sys2Proof.Claims.GrottoAttachments : Prop :=
  ∀ (s : State) (q : Nat) (w : PWord) (x : Queue) (d : Dev) (y : Grotto),
    let g := w.imm.toNat % 64
    let link := w.imm.toNat / 64 % 8
    let ld := w.imm.toNat / 512 % 16
    let base := (x.vals w).b.1.toNat
    let mine (b : Attach) : Bool := b.link == link && b.ld == ld
    let others := y.attaches.filter fun b => !mine b
    d.grotto? g = some y → d.faults.armed = [] →
    (Shows s q w grottoAttachPel x d → others.length < 16 → base % unitBytes = 0 → d.linkExists link = true → ld < d.ldCount link →
      (y.attaches.find? mine).any (d.decoded y) = false →
      (d.grottos.any fun e => e.1 != g && e.2.attaches.any fun b => mine b &&
        decide (base < b.base + e.2.visible b ∧ b.base < base + y.visible { link := link, ld := ld, base := base })) = false →
      exec (.grottoAttach q w) s = .next (s.applied ((d.entered q x w 0xC0).setGrotto g { y with
        attaches := others ++ [{ link := link, ld := ld, base := base, fenced := ((y.attaches.find? mine).map Attach.fenced).getD false }] })
        q x w 0xC0 {} (x.head + 1))) ∧
    (Shows s q w grottoDetachPel x d → (y.attaches.any mine) = true → (y.attaches.find? mine).any (d.decoded y) = false →
      exec (.grottoDetach q w) s = .next (s.applied ((d.entered q x w 0xC0).setGrotto g { y with attaches := others }) q x w 0xC0 {}
        (x.head + 1))) ∧
    (Shows s q w grottoReturnToServicePel x d → (y.attaches.any mine) = true →
      let h := (d.entered q x w 0xC0).dropCopies g (srcOf link ld)
      exec (.grottoReturnToService q w) s = .next (s.applied (h.setGrotto g { y with
        attaches := y.attaches.map fun b => if mine b then { b with fenced := false } else b }) q x w 0xC0 {} (x.head + 1)) ∧
      (risingFrom 0 d.slices.dir = true → (∀ k v, (k, v) ∈ d.slices.dir → keyGrotto k = g → v.st = .S ∨ v.st = .E) →
        (y.attaches.any fun b => mine b && b.fenced) = true →
        ∀ k v, mget h.slices.dir k = some v → keyGrotto k = g → v.bcast = true ∨ srcOf link ld ∉ v.sharers)) ∧
    (Shows s q w grottoDeletePel x d → y.state = 0 → (d.entered q x w 0xC0).mayLeave g y = true →
      exec (.grottoDelete q w) s = .next (s.applied { d.entered q x w 0xC0 with grottos := merase d.grottos g } q x w 0xC0 {} (x.head + 1)))

/-- R47, R48, R348: an extent offer that none of the conditions refuses is recorded as offered and reported to the owner, where the grotto
has no partner to admit it first. -/
def Sys2Proof.Claims.ExtentIsOffered : Prop :=
  ∀ (s : State) (q : Nat) (w : PWord) (x : Queue) (d : Dev) (y : Grotto) (a : Attach), Shows s q w grottoOfferExtentPel x d →
    let g := w.imm.toNat % 64
    let dpa := (x.vals w).b.1.toNat
    let n := (x.vals w).c.1.toNat
    let b := (dpa - a.base) / unitBytes
    d.grotto? g = some y → y.attaches.find? y.owns = some a → (d.offerConds g dpa n).all (fun e => !e.1) = true → d.roped g = false →
    exec (.grottoOfferExtent q w) s = .next (s.applied
      (((d.entered q x w 0xC0).setGrotto g { y with offered := y.offered ++ [(b, n)] }).dcLog g .addCapacity (b, n)) q x w 0xC0 {} (x.head + 1))

/-- GROTTO: records, attachments, extents: GrottoRecords, GrottoAttachments, ExtentIsOffered. -/
def Obligations.GrottoInstructions : Prop := Claims.GrottoRecords ∧ Claims.GrottoAttachments ∧ Claims.ExtentIsOffered

/-- R268 to R270, R349: QUEUE. A write over an existing queue changes its record; a new one is made with its rings zeroed; a delete removes a queue
that is not busy; a read writes out the record, or zeros. -/
def Sys2Proof.Claims.QueueRecords : Prop :=
  ∀ (s : State) (q : Nat) (w : PWord) (x : Queue) (d e f : Dev) (a : Area) (bs : List Byte) (y : Queue),
    let n := w.imm.toNat % 8192
    let c := s.ctx q x w
    let E := d.entered q x w 0xC1
    (Shows s q w queueWritePel x d → (Eng.operand c x w (x.vals w) 32).run E = .ok (bs, e) → e.faults.armed = [] →
      (e.queueConds n bs).all (fun k => !k.1) = true → e.queue? n = some y →
      exec (.queueWrite q w) s = .next (s.applied (e.setQueue n { y with recd := qrecOf bs, dirty := true }) q x w 0xC1 {} (x.head + 1))) ∧
    (Shows s q w queueWritePel x d → (Eng.operand c x w (x.vals w) 32).run E = .ok (bs, e) →
      (e.queueConds n bs).all (fun k => !k.1) = true → e.queue? n = none →
      let r := qrecOf bs
      (do Eng.zeroArea c { resv := false, g := r.grotto, base := r.ringBase, len := r.ringBytes }
          if !r.crHost then Eng.zeroArea c { resv := false, g := r.grotto, base := r.crBase, len := r.crBytes } : Eng Unit).run e = .ok ((), f) →
      f.faults.armed = [] →
      exec (.queueWrite q w) s = .next (s.applied (f.setQueue n { recd := r }) q x w 0xC1 {} (x.head + 1))) ∧
    (Shows s q w queueDeletePel x d → 16 ≤ n → (E.queue? n).any Queue.busy = false →
      exec (.queueDelete q w) s = .next (s.applied (E.onQueues fun k => { k with qs := merase k.qs n }) q x w 0xC1 {} (x.head + 1))) ∧
    (Shows s q w queueReadPel x d → n ≠ 0 →
      E.ranges q x [{ win := w.dwin.toNat, off := (x.vals w).a.1.toNat, len := 32, right := 1 }] false false = .ok [a] →
      exec (.queueRead q w) s = .next (s.applied (E.writeAt c a 0 (clean (match E.queue? n with
        | some z => z.recd.words.flatMap (bytesOfNat 8)
        | none => List.replicate 32 0))) q x w 0xC1 {} (x.head + 1)))

/-- R277, R350: WINDOW. A write of a descriptor that is refused by none of the conditions gives the named queue that window; an invalidation
makes its kind 0; a read writes out its two words. -/
def Sys2Proof.Claims.Windows : Prop :=
  ∀ (s : State) (q : Nat) (w : PWord) (x : Queue) (d : Dev) (a : Area) (z : Queue),
    let n := w.imm.toNat % 8192
    let h := w.imm.toNat / 8192 % 64
    let c := s.ctx q x w
    let E := d.entered q x w 0xC2
    let w0 := (x.vals w).b.1.toNat
    let w1 := (x.vals w).c.1.toNat
    n ≠ 0 → E.queue? n = some z →
    (Shows s q w windowWritePel x d → d.faults.armed = [] → (1 ≤ n ∧ n ≤ 15 → h ≠ 0) →
      E.winFits c (windowOf w0 w1) = true → bitsOf w0 57 56 ≠ 3 → (bitsOf w0 57 56 = 2 → privQ n = true ∧ bitsOf w0 63 58 = 0) →
      bitsOf w0 52 45 = 0 → bitsOf w1 63 45 = 0 →
      exec (.windowWrite q w) s = .next (s.applied (E.setQueue n { z with windows := mset z.windows h {
        grotto := bitsOf w0 63 58, kind := bitsOf w0 57 56, read := w0.testBit 55, write := w0.testBit 54, atomic := w0.testBit 53,
        base := bitsOf w0 44 0, length := bitsOf w1 44 0 } }) q x w 0xC2 {} (x.head + 1))) ∧
    (Shows s q w windowInvalidatePel x d → (1 ≤ n ∧ n ≤ 15 → h ≠ 0) →
      exec (.windowInvalidate q w) s = .next (s.applied
        (E.setQueue n { z with windows := mset z.windows h { mgetD z.windows h {} with kind := 0 } }) q x w 0xC2 {} (x.head + 1))) ∧
    (Shows s q w windowReadPel x d →
      E.ranges q x [{ win := w.dwin.toNat, off := (x.vals w).a.1.toNat, len := 16, right := 1 }] false false = .ok [a] →
      exec (.windowRead q w) s = .next (s.applied (E.writeAt c a 0 (clean ((mgetD z.windows h {}).words.flatMap (bytesOfNat 8)))) q x w 0xC2 {}
        (x.head + 1)))

/-- QUEUE and WINDOW: QueueRecords, Windows. -/
def Obligations.QueueAndWindowInstructions : Prop := Claims.QueueRecords ∧ Claims.Windows

/-- R351, R100, R587: KEYLOAD. A blob whose integrity check holds under its wrapping key loads the entry; one whose check fails is refused
with condition 3; an erase empties the entry and drops the near-cache lines it encrypts, and touches no other entry. -/
def Sys2Proof.Claims.KeyEntries : Prop :=
  ∀ (s : State) (q : Nat) (w : PWord) (x : Queue) (d e : Dev) (bs : List Byte) (kek : BitVec 256),
    let k := w.imm.toNat % 4096
    let slot := w.imm.toNat / 4096 % 16
    k ≠ 0 →
    (Shows s q w keyloadLoadPel x d → (Eng.operand (s.ctx q x w) x w (x.vals w) 72).run (d.entered q x w 0xC3) = .ok (bs, e) →
      e.faults.armed = [] → mget e.keys k = none → slot ≠ 0 → mget s.trust.wrap slot = some kek →
      exec (.keyloadLoad q w) s = .next (match unwrapBlob kek bs with
        | some key => s.applied { e with keys := mset e.keys k key } q x w 0xC3 {} (x.head + 1)
        | none => s.faulted e q x w 0xC3 0x0232 { r0 := some 3 })) ∧
    (Shows s q w keyloadErasePel x d → risingFrom 0 d.keys = true →
      ∃ h, exec (.keyloadErase q w) s = .next (s.applied h q x w 0xC3 {} (x.head + 1)) ∧ mget h.keys k = none ∧
        (∀ n, n ≠ k → mget h.keys n = mget d.keys n) ∧ h.mem = d.mem ∧ h.grottos = d.grottos ∧
        ∀ u y, mget h.slices.nc u = some y → mget d.slices.nc u = some y)

/-- R352, R139, R499, R504: SETCLASS. A descriptor that fits, and does not raise Σ g_c beyond the deliverable bandwidth, sets the class; a
scrub reserve of 1 to 16 is set on the channels of its mask; a read writes out the descriptor. -/
def Sys2Proof.Claims.Classes : Prop :=
  ∀ (s : State) (q : Nat) (w : PWord) (x : Queue) (d e : Dev) (a : Area) (bs : List Byte),
    let k := w.imm.toNat % 16
    let c := s.ctx q x w
    let E := d.entered q x w 0xC4
    (Shows s q w setclassWritePel x d → (Eng.operand c x w (x.vals w) 32).run E = .ok (bs, e) →
      e.classFits ((e.class k).described bs) bs = true →
      (fieldAt bs 0 2 ≤ (e.class k).guar ∨ e.sumWith k (fieldAt bs 0 2) ≤ e.deliverable) →
      ∃ h, exec (.setclassWrite q w) s = .next (s.applied h q x w 0xC4 {} (x.head + 1)) ∧
        (h.class k).guar = fieldAt bs 0 2 ∧ (h.class k).prio = fieldAt bs 2 1 % 16 ∧ (h.class k).target = fieldAt bs 4 2 ∧
        (h.class k).thresh = fieldAt bs 6 2 ∧ (h.class k).limit = fieldAt bs 8 4 ∧ h.qos.bw = e.deliverable ∧
        (∀ n, n < 16 → n ≠ k → (h.class n).guar = (e.class n).guar ∧ (h.class n).prio = (e.class n).prio) ∧ h.mem = e.mem) ∧
    (Shows s q w setclassScrubReservePel x d →
      let n := w.imm.toNat / 65536 % 4096
      let mask := BitVec.ofNat 16 w.imm.toNat
      1 ≤ n → n ≤ 16 → (∀ m, m < 16 → mask.getLsbD m = true → (d.chan m).state ≠ 0) →
      (d.sumGuar ≤ d.deliverableWith mask n ∨ ∀ m, m < 16 → mask.getLsbD m = true → n ≤ (d.chan m).scrub) →
      ∃ h, exec (.setclassScrubReserve q w) s = .next (s.applied h q x w 0xC4 {} (x.head + 1)) ∧
        (∀ m, m < 16 → (h.chan m).scrub = if mask.getLsbD m then n else (d.chan m).scrub) ∧ h.mem = d.mem ∧ h.grottos = d.grottos) ∧
    (Shows s q w setclassReadPel x d →
      E.ranges q x [{ win := w.dwin.toNat, off := (x.vals w).a.1.toNat, len := 32, right := 1 }] false false = .ok [a] →
      exec (.setclassRead q w) s = .next (s.applied (E.writeAt c a 0 (clean (d.class k).words)) q x w 0xC4 {} (x.head + 1)))

/-- KEYLOAD and SETCLASS: KeyEntries, Classes. -/
def Obligations.KeyAndClassInstructions : Prop := Claims.KeyEntries ∧ Claims.Classes

/-- R244, R245, R354, R579: POLICY. Descriptor, grotto entry, program, limits and their read. -/
def Sys2Proof.Claims.Policy : Prop :=
  ∀ (s : State) (q : Nat) (w : PWord) (x : Queue) (d e : Dev) (a : Area) (bs : List Byte) (ps : PBytes) (y : Grotto),
    let v := x.vals w
    let c := s.ctx q x w
    let E := d.entered q x w 0xC6
    (Shows s q w policyDescriptorPel x d → (Eng.operand c x w v 64).run E = .ok (bs, e) →
      (∀ r ∈ descRanges, r.2.2.1 ≤ fieldAt bs r.1 r.2.1 ∧ fieldAt bs r.1 r.2.1 ≤ r.2.2.2) → fieldAt bs 10 2 ≤ e.deliverable / 8 →
      exec (.policyDescriptor q w) s = .next (s.applied (e.onFlow fun f => { f with
        epochMs := fieldAt bs 0 4, shift := fieldAt bs 4 1, readW := fieldAt bs 5 1 % 16, writeW := fieldAt bs 5 1 / 16,
        cls := fieldAt bs 6 1, sweepBud := fieldAt bs 8 2, migBud := fieldAt bs 10 2, spillBud := fieldAt bs 12 2,
        quota0 := fieldAt bs 14 2, quota1 := fieldAt bs 16 2 }) q x w 0xC6 {} (x.head + 1))) ∧
    (Shows s q w policyGrottoEntryPel x d →
      let n := v.b.1.toNat
      let g := w.imm.toNat % 64
      1 ≤ n / 2 ^ 60 → n / 2 ^ 60 ≤ 9 → n / 2 ^ 58 % 4 ≠ 3 → n % 2 ^ 34 = 0 → d.grotto? g = some y →
      exec (.policyGrottoEntry q w) s = .next (s.applied ((E.onFlow fun f => { f with entries := mset f.entries g v.b.1 }).setGrotto g { y with
        level := n / 2 ^ 60, spillMode := n / 2 ^ 58 % 4, coldMark := n / 2 ^ 50 % 256, farMark := n / 2 ^ 42 % 256,
        hotMark := n / 2 ^ 34 % 256 }) q x w 0xC6 {} (x.head + 1))) ∧
    (Shows s q w policyLoadProgramPel x d →
      let n := v.c.1.toNat
      1 ≤ n → n ≤ 256 → E.ranges q x [{ win := w.swin.toNat, off := v.a.1.toNat, len := 16 * n }] false false = .ok [a] →
      (Eng.read c a 0 (16 * n)).run E = .ok (ps, e) → ps.all (fun u => !u.2) = true →
      ∃ h, exec (.policyLoadProgram q w) s = .next (s.applied h q x w 0xC6 {} (x.head + 1)) ∧
        h.flow.program.length = n ∧ h.flow.program = chunk16 n (ps.map Prod.fst) ∧ h.flow.builtin = false ∧ h.flow.progFault = false ∧
        h.flow.measure = BitVec.ofNat 256 (natOfBytes (sha256 (bytesOfNat 32 e.flow.measure.toNat ++ sha256 (ps.map Prod.fst))))) ∧
    (Shows s q w policySetLimitsPel x d →
      let b := v.b.1.toNat
      let k := v.c.1.toNat
      b % 65536 ≤ 1000 → b / 65536 % 65536 ≤ 4000 → b / 2 ^ 32 ≤ 40 → k ≤ 1000000 →
      exec (.policySetLimits q w) s = .next (s.applied (E.onFlow fun f => { f with
        biTimeout := if b % 65536 = 0 then f.biTimeout else b % 65536,
        frameLimit := if b / 65536 % 65536 = 0 then f.frameLimit else b / 65536 % 65536,
        watermark := if b / 2 ^ 32 = 0 then f.watermark else b / 2 ^ 32,
        idleTime := if k = 0 then f.idleTime else k }) q x w 0xC6 {} (x.head + 1))) ∧
    (Shows s q w policyReadLimitsPel x d →
      E.ranges q x [{ win := w.dwin.toNat, off := v.a.1.toNat, len := 16, right := 1 }] false false = .ok [a] →
      exec (.policyReadLimits q w) s = .next (s.applied (E.writeAt c a 0 (clean
        (bytesOfNat 8 (d.flow.biTimeout + d.flow.frameLimit * 65536 + d.flow.watermark * 2 ^ 32) ++ bytesOfNat 8 d.flow.idleTime))) q x w 0xC6 {}
        (x.head + 1)))

/-- POLICY: Policy. -/
def Obligations.PolicyInstructions : Prop := Claims.Policy

/-- R353, R446, R448, R258: ROPE. A rope forms with the neighbour of the pool named on a port whose link is up, at the larger epoch plus 1, with
a pair message for each mirrored grotto, and is synced at once where there is none; a removal with no rope does nothing and one with a
rope ends it, keeps the epoch and owes its record; spill to a neighbour is permitted and withdrawn; a rebuild starts on a rope that is synced or rebuilding. -/
def Sys2Proof.Claims.Ropes : Prop :=
  ∀ (s : State) (q : Nat) (w : PWord) (x : Queue) (d : Dev),
    let p := w.imm.toNat / 4096 % 2
    let pool := BitVec.ofNat 12 w.imm.toNat
    let E := d.entered q x w 0xC5
    let r := d.ev.rope
    let mirrored (y : Grotto) : Bool := y.mirror && (y.state == 1 || y.state == 0 || y.copy)
    let gs := (d.grottos.filter fun e => mirrored e.2).map Prod.fst
    let epoch := (if r.epoch.ult (d.evPort p).peerEpoch then (d.evPort p).peerEpoch else r.epoch) + 1
    d.evOn p = true →
    (Shows s q w ropeFormPel x d → (d.evPort p).peerPool = some pool → (r.state = 0 ∨ r.port = p) →
      (gs = [] → ∃ h, exec (.ropeForm q w) s = .next (s.applied h q x w 0xC5 { r1 := epoch.setWidth 64 } (x.head + 1)) ∧
        h.ev.rope.state = 1 ∧ h.ev.rope.port = p ∧ h.ev.rope.partner = pool ∧ h.ev.rope.epoch = epoch ∧ h.ev.rope.paired = [] ∧
        h.grottos = d.grottos ∧ h.mem = d.mem) ∧
      (gs ≠ [] → exec (.ropeForm q w) s = .next (s.applied
        (gs.foldl (fun (h : Dev) g => h.evSend p (h.pairMsg g))
          ((E.newRope p pool).onRope fun k => { k with forming := some (gs.length, q, x.head) })) q x w 0xC5 {} (x.head + 1)))) ∧
    (Shows s q w ropeRemovePel x d → r.state = 0 →
      exec (.ropeRemove q w) s = .next (s.applied E q x w 0xC5 {} (x.head + 1))) ∧
    (Shows s q w ropeRemovePel x d → r.state ≠ 0 → d.pages.mirrorWait = [] → r.pages = [] → d.pages.fars = [] → d.slices.slotWait = [] →
      exec (.ropeRemove q w) s = .next (s.applied
        (((r.ports.foldl (fun (h : Dev) p => h.evSend p (.ropeControl 1 0 0 0 0 0)) E).owes 6 0).onRope fun k =>
          { epoch := k.epoch, next := k.next, marks := k.marks }) q x w 0xC5 {} (x.head + 1))) ∧
    (Shows s q w ropePermitSpillPel x d → (d.evPort p).peerPool = some pool →
      exec (.ropePermitSpill q w) s = .next (s.applied (E.modEv p fun k => { k with spillOk := true, spillPool := pool }) q x w 0xC5 {}
        (x.head + 1))) ∧
    (Shows s q w ropeWithdrawSpillPel x d → (∀ gp ∈ d.remotePages p, (d.grotto gp.1).spillMode ≠ 2) →
      exec (.ropeWithdrawSpill q w) s = .next (s.applied (E.modEv p fun k => { k with spillOk := false }) q x w 0xC5 {} (x.head + 1))) ∧
    (Shows s q w ropeStartRebuildPel x d → (r.state = 1 ∨ r.state = 2) →
      exec (.ropeStartRebuild q w) s = .next (s.applied
        ((r.paired.foldl (fun (h : Dev) g => h.rebuildGrotto g) (E.onRope fun k => { k with state := 2 })).pumpRebuild evFuel).checkRebuilds
        q x w 0xC5 {} (x.head + 1)))

/-- R355, R527, R545, R546: POWER grants and withdraws DEEP permission, starts the entry to DEEP of an idle device that has it, sets a cap from 80 W to
the ceiling at which the bias is looked at anew, and grants forward bias, which is on in RUN while the device is neither hot nor at its cap. -/
def Sys2Proof.Claims.PowerSettings : Prop :=
  ∀ (s : State) (q : Nat) (w : PWord) (x : Queue) (d : Dev),
    let E := d.entered q x w 0xC7
    let n := w.imm.toNat % 65536
    (Shows s q w powerDeepPermissionPel x d →
      exec (.powerDeepPermission q w) s = .next (s.applied (E.onPower fun p => { p with deepOk := w.imm.getLsbD 0 }) q x w 0xC7 {} (x.head + 1))) ∧
    (Shows s q w powerEnterDeepPel x d → d.inRun → d.power.deepOk = true → E.idleBut (some q) = true → E.dirQuiet = true → E.exitFits = true →
      exec (.powerEnterDeep q w) s = .next (s.applied (E.onPower fun p => { p with entering := 1, latch := none, deepIssuer := some (q, x.head) })
        q x w 0xC7 {} (x.head + 1))) ∧
    (Shows s q w powerCapPel x d → 80 ≤ n → n ≤ d.plat.powerCeiling →
      exec (.powerCap q w) s = .next (s.applied (E.onPower fun p =>
        let hot := if 105 + 64 ≤ p.junction then true else if p.junction ≤ 100 + 64 then false else p.biasHot
        { p with cap := n, biasHot := hot, fwdOn := p.fwdOk && p.mode == .run && !hot && decide (p.estimate < n) }) q x w 0xC7 {}
        (x.head + 1))) ∧
    (Shows s q w powerForwardBiasPel x d → d.inRun → d.power.junction ≤ 100 + 64 → d.power.estimate < d.power.cap →
      exec (.powerForwardBias q w) s = .next (s.applied (E.onPower fun p => { p with
        fwdOk := w.imm.getLsbD 0, biasHot := false, fwdOn := w.imm.getLsbD 0 }) q x w 0xC7 {} (x.head + 1)))

/-- ROPE and POWER: Ropes, PowerSettings. -/
def Obligations.RopeAndPowerInstructions : Prop := Claims.Ropes ∧ Claims.PowerSettings

/-- R356, R495, R496: INJECT arms a feature on a unit with a storage array where none is armed, and disarms it. -/
def Sys2Proof.Claims.InjectArms : Prop :=
  ∀ (s : State) (q : Nat) (w : PWord) (x : Queue) (d : Dev),
    let u := w.imm.toNat % 65536
    let word := w.imm.toNat / 65536 % 8
    let E := d.entered q x w 0xC8
    ((0x100 ≤ u ∧ u ≤ 0x22F) ∨ (0x300 ≤ u ∧ u ≤ 0x30F) ∨ (0x380 ≤ u ∧ u ≤ 0x386)) →
    (Shows s q w injectFlipMaskPel x d → d.armedOn u = none →
      exec (.injectFlipMask q w) s = .next (s.applied (E.onFaults fun f => { f with
        armed := f.armed ++ [{ unit := u, word := word, flip := some ((x.vals w).b.1, (x.vals w).c.1) }] }) q x w 0xC8 {} (x.head + 1))) ∧
    (Shows s q w injectInvertedCheckBitsPel x d → d.armedOn u = none →
      exec (.injectInvertedCheckBits q w) s = .next (s.applied (E.onFaults fun f => { f with
        armed := f.armed ++ [{ unit := u, word := word, flip := none }] }) q x w 0xC8 {} (x.head + 1))) ∧
    (Shows s q w injectDisarmPel x d →
      exec (.injectDisarm q w) s = .next (s.applied (E.onFaults fun f => { f with
        armed := f.armed.filter fun a => a.unit != u }) q x w 0xC8 {} (x.head + 1)))

/-- R357, R519, R152, R358, R32, R359: SURVEY latches every counter and reports its number and device time; SPARE notes a hard repair made, whose
record firmware owes; RECORD of the port widths is accepted, and its record is written as it completes. -/
def Sys2Proof.Claims.SurveySpareRecord : Prop :=
  ∀ (s : State) (q : Nat) (w : PWord) (x : Queue) (d : Dev),
    (Shows s q w surveyPel x d → w.mod = 0 → d.cnt.pendingSurvey = false →
      exec (.survey q w) s = .next (s.applied ((d.entered q x w 0xC9).onCnt fun c => { c with
        hold := c.cnt, surveyAt := d.timeNs, pendingSurvey := true }) q x w 0xC9
        { r0 := BitVec.ofNat 64 (d.cnt.seq + 1).toNat, r1 := BitVec.ofNat 64 d.timeNs } (x.head + 1))) ∧
    (Shows s q w sparePel x d →
      let n := w.imm.toNat % 16
      let k := spareKey (d.chan n) w
      d.fwUp = true → d.rankBacked n (spareRank (d.chan n) w) = false → (d.chan n).hardUsed.contains k = false → (d.chan n).state = 3 →
      spareInside (d.chan n) w = true →
      exec (.spare q w) s = .next (s.applied (((d.entered q x w 0xCA).setChan n { d.chan n with
        hardMade := (d.chan n).hardMade + 1, hardUsed := (d.chan n).hardUsed ++ [k] }).owes 4 n) q x w 0xCA {} (x.head + 1))) ∧
    (Shows s q w recordPel x d → w.mod = 1 → d.fwUp = true →
      exec (.record q w) s = .next (s.applied (d.entered q x w 0xCB) q x w 0xCB {} (x.head + 1)))

/-- INJECT, SURVEY, SPARE and RECORD: InjectArms, SurveySpareRecord. -/
def Obligations.TestAndRecordInstructions : Prop := Claims.InjectArms ∧ Claims.SurveySpareRecord

/-! ### Queues -/

/-- R289, R276, R297, R298: the queue of highest effective priority that is next in the rotation is bound to the first free context; a queue with
nothing to issue gives its context up; the engine counts what R510 has it count; a torn slot is read again, at most eight times; a commit of the progress record writes the copy
that is not valid, which then is the valid one, and moves the committed retire pointer up. -/
def Sys2Proof.Claims.QueueContexts : Prop :=
  ∀ (s : State) (q n : Nat) (x : Queue), s.dev.queue? q = some x → s.dev.awake = true →
    ((List.range 512).find? (fun k => !(s.dev.queues.qs.filterMap fun e => e.2.ctx).contains k && !s.dev.faults.fenced.contains (0x300 + k / 32)) =
        some n → s.dev.nextBound = some q →
      exec (.contextBind q) s = .next { s with dev := ((s.dev.setQueue q { x with ctx := some n }).onQueues fun k => { k with
        ctxPtr := ((if isQ0 q then q - 8192 else q + 3) + 1) % 8196 }).bump (832 + 16 * (n / 32) + 3) }) ∧
    (x.ctx.isSome = true → x.issued = [] → x.hasWork = false →
      exec (.contextYield q) s = .next { s with dev := s.dev.setQueue q { x with ctx := none } }) ∧
    (∀ (bs : PBytes) (e : Dev), x.tornWait = true →
      (Eng.read { q := q, pos := x.head, who := .engine q x.head, src := x.source, cls := x.recd.cls, alloc := true }
        (s.dev.slotArea q x x.head) 0 16).run s.dev = .ok (bs, e) →
      ((BitVec.ofNat 128 (numOf bs)).getLsbD 15 = phaseOf x.slots x.head →
        exec (.tornReread q) s = .next { s with dev := ((e.forget (.engine q x.head)).setQueue q { x with tornWait := false, torn := 0 }).after }) ∧
      ((BitVec.ofNat 128 (numOf bs)).getLsbD 15 ≠ phaseOf x.slots x.head → x.torn < 7 →
        exec (.tornReread q) s = .next { s with dev := ((e.forget (.engine q x.head)).setQueue q { x with torn := x.torn + 1 }).after })) ∧
    (x.dirty = true → x.issued = [] →
      ∃ y, exec (.progressRecordCommit q) s = .next { s with dev := ((s.dev.setQueue q y).countEngine x 6).after } ∧
        y.commit = x.retired ∧ y.dirty = false ∧ y.valid.seq = x.valid.seq + 1 ∧ y.valid.retire = x.retired ∧ y.valid.tail = x.tail ∧
        y.valid.written = x.written ∧ y.valid.consumed = x.consumed ∧ y.valid.regs = x.regs ∧ y.valid.marks = x.marks ∧
        y.valid.loop = x.loop ∧ y.valid.iter = x.iter ∧ y.valid.state = x.state ∧ y.valid.committed = true)

/-- R266: firmware's run of at most 4,096 words joins those that wait for queue 0 of its port; the next run in the rotation of the writers is placed
once the ring has room for all of it: its words lie in the next slots, and the tail moves past them. -/
def Sys2Proof.Claims.RunsAreQueuedAndPlaced : Prop :=
  ∀ (s : State) (port : Nat), s.dev.awake = true → port < 4 →
    (∀ words : List (BitVec 128), s.dev.fwUp = true → words ≠ [] → words.length ≤ 4096 →
      ∃ d, exec (.firmwareSubmission port words) s = .next { s with dev := d } ∧
        mgetD d.queues.q0Wait port [] = mgetD s.dev.queues.q0Wait port [] ++ [{ writer := .firmware, words := words }] ∧
        { d with queues := s.dev.queues } = s.dev ∧ d.queues.qs = s.dev.queues.qs) ∧
    (∀ (r : Run) (x : Queue), mgetD s.dev.queues.q0Wait port [] = [r] → s.dev.queue? (8192 + port) = some x →
      (x.tail - x.commit).toNat + r.words.length ≤ x.slots →
      exec (.runPlacement port) s = .next { s with dev :=
        ((s.dev.layWords (8192 + port) x x.tail r.words).setQueue (8192 + port)
          ({ x with tail := x.tail + BitVec.ofNat 32 r.words.length, dirty := true } : Queue).settle).onQueues fun k => { k with
            q0Wait := mset k.q0Wait port [], q0Ptr := mset k.q0Ptr port ((r.writer.turn + 1) % 3),
            q0Runs := mmod k.q0Runs port [] (· ++ [{ r with start := x.tail }]) } })

/-- Contexts, torn slots, progress records and runs of queue 0: QueueContexts, RunsAreQueuedAndPlaced. -/
def Obligations.QueuesAreServed : Prop := Claims.QueueContexts ∧ Claims.RunsAreQueuedAndPlaced

/-- R285, R290 to R292, R299, R317: an applied instruction that stands alone in its queue completes. One that writes no record retires with its registers
written; HALT stops the queue with status 0 at its position; one of a fabric manager's queue that asks for a record writes it at the
count of records written, which grows by 1. -/
def Sys2Proof.Claims.InstructionsComplete : Prop :=
  ∀ (s : State) (q : Nat) (pos : BitVec 32) (x : Queue) (i : Issued),
    s.dev.queue? q = some x → s.dev.awake = true → s.dev.Still → x.issued = [i] → i.pos = pos → i.state = .applied → q < 8192 →
    isFault i.res.status = false → x.stopping = none → x.run = true → x.state = 1 → s.dev.slices.locks = [] →
    s.dev.outstanding (.engine q pos) = false → s.dev.toldLater q pos = false →
    (i.opcode ≠ 0x01 → i.opcode ≠ 0x04 → i.opcode ≠ 0x05 → i.opcode ≠ 0xCB → i.records = false → i.journ = false →
      exec (.instructionComplete q pos .ok) s = .next { s with dev :=
        ((((s.dev.countWork i.opcode i.res.work).dropUnit q pos).setQueue q
          (applyRegs { x with issued := [], crFull := false, dirty := true } i.res.regs).settle).countEngine x 1).after }) ∧
    (i.opcode = 0x01 → i.records = false → i.journ = false → i.res.regs = [] → i.res.work = [] →
      exec (.instructionComplete q pos .ok) s = .next { s with dev := (((s.dev.dropUnit q pos).setQueue q (Queue.settle { x with
        issued := [], crFull := false, state := 3, run := false, stopStatus := 0, stopPos := pos, tornWait := false, torn := 0,
        dirty := true })).countEngine x 1).after }) ∧
    (1 ≤ q → q ≤ 15 → i.opcode ≠ 0x01 → i.opcode ≠ 0x04 → i.opcode ≠ 0x05 → i.opcode ≠ 0xCB → i.records = true → x.recSpace = true →
      x.journaled pos i.iter = none →
      ∃ (h : Dev) (y : Queue), exec (.instructionComplete q pos .ok) s = .next { s with dev := h.after } ∧ h.queue? q = some y ∧ y.issued = [] ∧
        y.written = x.written + 1 ∧
        ∃ a b c : Word, (∀ k, i.res.r0 = some k → a = k) ∧ (∀ k, i.res.r1 = some k → b = k) ∧ (∀ k, i.res.r2 = some k → c = k) ∧
          mget h.queues.fmRecs (q * 256 + x.written.toNat % x.crSize) = some (c ++ b ++ a ++ BitVec.ofNat 8 i.opcode ++
            (if x.written.toNat / x.crSize % 2 = 0 then 1#8 else 0#8) ++ BitVec.ofNat 16 i.res.status ++ pos))

/-- R286, R224, R327, R390: an instruction that reaches its time limit faults with 0x0209, its waiting writes are withdrawn and its unit is free; a stream
job or a query that waits is stopped first, its result what it leaves in its restartable way; a WAIT for device time ends at its deadline with the time in ra; a WAIT on a word ends when a reread finds its comparison to hold, or at its timeout with status 0x0101. -/
def Sys2Proof.Claims.TimeEndsInstructions : Prop :=
  ∀ (s : State) (q : Nat) (pos : BitVec 32) (x : Queue) (i : Issued) (a : Area) (bs : PBytes) (e : Dev), s.dev.inRun →
    s.dev.queue? q = some x → x.issued.find? (fun j => j.pos == pos) = some i → i.done = false →
    let v := valsOf x (x.issued.takeWhile fun j => j.pos != pos) i.word
    let c := s.dev.ctxOf s.trust q x pos i.word
    let ended (d : Dev) (j : Issued) (r : Result) : Dev :=
      ((d.forget (.engine q pos)).putIssued q { j with state := .applied, res := r }).after
    let k := { c with decoded := i.decoded }
    let z : Queue := match i.decoded with
      | some m => { x with windows := m.windows }
      | none => x
    let late (d : Dev) (r : Result) : Dev := (((((d.withdraw (.engine q pos)).forget (.engine q pos)).dropUnit q pos).putIssued q
      { i with state := .applied, res := { r with status := 0x0209 } }).countEngine x 2).after
    let at0 := { i with word := { i.word with imm := 0 } }
    let E := s.dev.putIssued q at0
    let rng := Rng.mk i.word.swin.toNat v.b.1.toNat 8 0 8
    let y : Word := BitVec.ofNat 64 (natOfBytes (bs.map Prod.fst))
    (isFault i.res.status = false → (∀ m ∈ s.dev.pages.moves, m.issuer ≠ some (q, pos)) →
      (∀ j ∈ x.issued, j.pos = pos → needsUnit j.opcode = false ∨ j.state ≠ .waiting) →
      exec (.timeLimit q pos) s = .next { s with dev := late s.dev i.res }) ∧
    (∀ (r : Result) (f : Dev), needsUnit i.opcode = true → i.state = .waiting → (haltBody i.opcode k z i.word v).run s.dev = .ok (r, f) →
      f.queue? q = some x → (∀ m ∈ f.pages.moves, m.issuer ≠ some (q, pos)) →
      exec (.timeLimit q pos) s = .next { s with dev := late (f.putIssued q { i with res := { r with status := 0 } }) r }) ∧
    (i.opcode = 0x06 → i.state = .waiting → s.dev.toldLater q pos = false →
      (i.word.mod.getLsbD 0 = false → v.b.1.toNat ≤ s.dev.timeNs →
        exec (.waitDeadline q pos) s = .next { s with dev := (ended s.dev i { regs := [(rn i.word.ra, BitVec.ofNat 64 s.dev.timeNs, false)] }) }) ∧
      (i.word.mod.getLsbD 0 = true → v.c.2 = false → s.dev.ranges q z [rng] false false (i.decoded.any (·.passed)) = .ok [a] →
        (Eng.read { k with alloc := true } a 0 8).run s.dev = .ok (bs, e) → bs.any Prod.snd = false → waitHolds i.word y v.c.1 = true →
        exec (.waitReread q pos) s = .next { s with dev := (ended e i { regs := [(rn i.word.ra, y, false)] }) }) ∧
      (i.word.mod.getLsbD 0 = true → v.c.2 = false → E.ranges q z [rng] false false (i.decoded.any (·.passed)) = .ok [a] →
        (Eng.read { E.ctxOf s.trust q x pos at0.word with decoded := i.decoded, alloc := true } a 0 8).run E = .ok (bs, e) → bs.any Prod.snd = false →
        waitHolds i.word y v.c.1 = false →
        exec (.waitTimeout q pos) s = .next { s with dev := (ended e at0 { status := 0x0101, regs := [(rn i.word.ra, y, false)] }) }))

/-- Instructions complete, reach their limit, or end their wait: InstructionsComplete, TimeEndsInstructions. -/
def Obligations.InstructionsEnd : Prop := Claims.InstructionsComplete ∧ Claims.TimeEndsInstructions

/-- R273: a write of t to DB_TAIL is recorded only if t lies 1 to N past the current tail and at most N past the committed retire pointer; one equal to the
tail has no effect; any other keeps the tail and records an EVENT. -/
def Obligations.TailWritesAreChecked : Prop :=
  ∀ (s : State) (l ld q : Nat) (dpid : BitVec 12) (x : Queue) (v : Word), s.dev.inRun → s.dev.Still → s.dev.overHold 512 = false →
    s.dev.ldOpen l ld = true → (s.dev.link l).misrouted dpid = false → 16 ≤ q → q < 8192 → s.dev.queue? q = some x → s.dev.ownerOf x = (l, ld) →
    let t : BitVec 32 := v.setWidth 32
    let fits := 1 ≤ (t - x.tail).toNat ∧ (t - x.tail).toNat ≤ x.slots ∧ (t - x.commit).toNat ≤ x.slots
    (fits → exec (.dbTailWrite l ld (q * 4096) v dpid) s = .next { s with dev := (s.dev.setQueue q
      ({ x with tail := t, dirty := true } : Queue).settle) }) ∧
    (t = x.tail → exec (.dbTailWrite l ld (q * 4096) v dpid) s = .next s) ∧
    (¬ fits → t ≠ x.tail → exec (.dbTailWrite l ld (q * 4096) v dpid) s = .next { s with dev := (s.dev.event 0x385 4
      (l % 8 * 2 ^ 45 + ld % 16 * 2 ^ 41 + 2 ^ 39 + q * 4096) 7) })

/-! ### Hosts -/

/-- R22, R162, R187: a host's read of a line that the near cache holds is answered with that line when its grotto is HDM-H, or when the host holds
the line in E already; a read of a line with no entry, in a set with room, makes one: S for RDS, E for RDE, none for RDI. The answer names
its link's PBR ID as its source (R51). -/
def Obligations.HostReads : Prop :=
  ∀ p ∈ [(Op.readS, Instr.rds), (Op.readE, Instr.rde), (Op.readI, Instr.rdi)],
  ∀ (s : State) (h : MemHdr) (hpa : BitVec 64) (g line : Nat) (e : Dev) (y : NcLine), s.dev.Finds h hpa g line e →
    s.dev.ncGet g line = some y → y.badWords = 0 → y.fixWords = 0 →
    let src := srcOf h.link h.ld
    let answer : Out := { msg := .memData h y.data y.poison (p.1 == .readE), source := (s.dev.link h.link).pbr }
    ((s.dev.grotto g).db = false ∨ (∃ x, s.dev.dirGet g line = some x ∧ x.errBits = 0 ∧ x.st = .E ∧ x.sharers = [src]) →
      ∃ t, exec (p.2 h hpa) s = .next { s with dev := t } ∧
        t.out = s.dev.out ++ [answer] ∧ t.slices = { s.dev.slices with ncAge := t.slices.ncAge } ∧ t.mem = s.dev.mem ∧ t.grottos = s.dev.grottos ∧ t.queues = s.dev.queues ∧ t.keys = s.dev.keys ∧
        t.pages.area = s.dev.pages.area) ∧
    ((s.dev.grotto g).db = true → s.dev.dirGet g line = none → (s.dev.dirWays g line).length < 16 →
      ∃ t, exec (p.2 h hpa) s = .next { s with dev := t } ∧
        t.out = s.dev.out ++ [answer] ∧ t.slices.nc = s.dev.slices.nc ∧ t.mem = s.dev.mem ∧
        t.dirGet g line = (match p.1 with
          | .readS => some { st := .S, sharers := [src] }
          | .readE => some { st := .E, sharers := [src] }
          | _ => none) ∧
        ∀ k, k ≠ lineKey g line → mget t.slices.dir k = mget s.dev.slices.dir k)

/-- R24, R42, R162, R168, R180, R189: a full-line write of a host that no directory entry stands against, and a writeback of the host that holds
the line in E, put the line dirty into the near cache and complete; a writeback leaves the host S or nothing, a clean-eviction notice
nothing. -/
def Obligations.HostWrites : Prop :=
  ∀ (s : State) (h : MemHdr) (hpa : BitVec 64) (g line : Nat) (e : Dev) (data : LineData) (poison leaveS : Bool) (x : DirEntry),
    s.dev.Finds h hpa g line e →
    let src := srcOf h.link h.ld
    let done : Out := { msg := .memCmp h, source := (s.dev.link h.link).pbr }
    let put (t : Dev) : Prop := t.out = s.dev.out ++ [done] ∧
      t.ncGet g line = some { data := data, dirty := true, poison := poison, cls := (s.dev.grotto g).cls } ∧
      (∀ k, k ≠ lineKey g line → mget t.slices.nc k = mget s.dev.slices.nc k) ∧ t.mem = s.dev.mem ∧ t.queues = s.dev.queues ∧
      t.pages.area = s.dev.pages.area
    let holds := s.dev.dirGet g line = some x ∧ x.errBits = 0 ∧ x.st = .E ∧ x.sharers = [src]
    (s.dev.HotLine g line → s.dev.dirGet g line = none →
      ∃ t, exec (.wrnc h hpa fullMask data poison) s = .next { s with dev := t } ∧ put t ∧ t.dirGet g line = none) ∧
    (s.dev.HotLine g line → holds →
      ∃ t, exec (.wb h hpa data poison leaveS) s = .next { s with dev := t } ∧ put t ∧
        t.dirGet g line = if leaveS then some { st := .S, sharers := [src] } else none) ∧
    (holds → ∃ t, exec (.memclnevct h hpa) s = .next { s with dev := t } ∧ t.out = s.dev.out ++ [done] ∧ t.dirGet g line = none ∧
      t.slices.nc = s.dev.slices.nc ∧ t.mem = s.dev.mem)

/-- R46, R167, R168, R181, R183: a BIConflict is acknowledged; while other snoops of a line are out, an answer that its snoop allows is kept in the
round: nothing, shared or exclusive; a snoop whose timer runs out is sent once more with its tag and the BI-ID of its link (R44); the sweep of a fence ends with its
count in an EVENT. -/
def Obligations.SnoopsAreAnswered : Prop :=
  ∀ (s : State) (h : MemHdr) (hpa : BitVec 64) (link ld tag : Nat) (dpid : BitVec 12) (b : Snoop) (x : DirEntry), s.dev.inRun → s.dev.Still →
    (s.dev.Arrives h → ∃ t, exec (.biconflict h hpa) s = .next { s with dev := t } ∧
      t.out = s.dev.out ++ [{ msg := .conflictAck h hpa, source := (s.dev.link h.link).pbr }] ∧
      { t with out := s.dev.out, links := s.dev.links } = s.dev ∧ ∀ l, t.link l = s.dev.link l) ∧
    (s.dev.linkTakes link = true → (s.dev.link link).misrouted dpid = false → ld < s.dev.ldCount link →
      s.dev.slices.snoops.find? (fun k => k.link == link && k.ld == ld && k.tag == some tag) = some b →
      s.dev.fencedSrc b.g (srcOf link ld) = false → b.resent = false → s.dev.dirGet b.g b.line = some x → x.st = .B → x.errBits = 0 →
      (∃ k ∈ s.dev.slices.snoops, k.g = b.g ∧ k.line = b.line ∧ ¬ (k.link = link ∧ k.ld = ld ∧ k.tag = some tag)) →
      let rest := s.dev.slices.snoops.filter fun k => !(k.link == link && k.ld == ld && k.tag == some tag)
      let leaves (c : Instr) (t : Tracker) : Prop := ∃ e, exec c s = .next { s with dev := e } ∧
        e = { s.dev with slices := { s.dev.slices with
          snoops := rest, dir := mset s.dev.slices.dir (lineKey b.g b.line) { x with track := t }, dirAge := e.slices.dirAge } }
      exec (.birspi link ld tag dpid) s = .next { s with dev := { s.dev with slices := { s.dev.slices with snoops := rest } } } ∧
      (b.kind ≠ .inv → leaves (.birsps link ld tag dpid) { x.track with leftS := x.track.leftS ++ [srcOf link ld] }) ∧
      (b.kind = .cur → leaves (.birspe link ld tag dpid) { x.track with leftE := some (srcOf link ld) })) ∧
    (∀ a, s.dev.slices.snoops.find? (fun k => k.link == link && k.tag == some tag) = some b → b.resent = false →
      s.dev.snoopHpa b.link b.ld b.g b.line = some a →
      ∃ t, exec (.snoopTimeout link tag) s = .next { s with dev := t } ∧
        t.out = s.dev.out ++ [{ msg := .snoop b.link b.ld b.kind (s.dev.link b.link).biId tag a, source := (s.dev.link b.link).pbr }] ∧
        t.slices.snoops = (s.dev.slices.snoops.map fun k => if k.link = link ∧ k.tag = some tag then { k with resent := true } else k) ∧
        t.slices.dir = s.dev.slices.dir ∧ t.slices.nc = s.dev.slices.nc ∧ t.mem = s.dev.mem) ∧
    (∀ g src, (g, src) ∈ s.dev.slices.sweeps →
      exec (.fenceSweepComplete g src) s =
        let r := s.dev.fenceSweep g src
        .next { s with dev := ((r.2.onSlices fun k => { k with sweeps := k.sweeps.filter (· != (g, src)) }).event (unitLink (src / 16)) 0 0
          (r.1 + src * 2 ^ 32) (some g)).after })

/-- R32, R67 to R70: PERST_N of a link whose port keeps its split, with no line in the directory: what the link had in flight is dropped, the queues that
complete in its host's memory stop in the port-reset state, the decoders and vectors of its logical devices are cleared, and its cleanup
runs; the end of the cleanup is one EVENT with the lines poisoned; PERST_N rises on every link that its pin resets. -/
def Sys2Proof.Claims.PerstResetsALink : Prop :=
  ∀ (s : State) (port l : Nat) (halfB : Bool), s.dev.inRun →
    let d := s.dev
    (d.perstLink port halfB = some l → (d.link l).perst = false → (d.port port).split = (d.port port).recorded → d.slices.dir = [] → d.Still →
      exec (.perstNAssert port halfB) s = .next { s with dev :=
        (((List.range 17).foldl (fun (d : Dev) ld => d.setLd l ld (d.ld l ld).afterPerst)
          ((d.dropFlight l).portResetQueues l)).setLink l { perst := true, cleanup := true, poisoned := (d.link l).poisoned }) }) ∧
    ((d.link l).cleanup = true → d.slices.saved = false →
      exec (.perstCleanupDone l) s = .next { s with dev :=
        (d.setLink l { d.link l with cleanup := false, poisoned := 0 }).event (unitLink l) 0 0 ((d.link l).poisoned % 2 ^ 32) }) ∧
    (d.perstLink port halfB = some l → d.split port = true →
      exec (.perstNRelease port halfB) s = .next { s with dev := d.setLink l { d.link l with perst := false } }) ∧
    (d.perstLink port false = some l → d.split port = false →
      exec (.perstNRelease port false) s = .next { s with dev :=
        ((d.setLink port { d.link port with perst := false }).setLink (port + 4) { d.link (port + 4) with perst := false }) })

/-- R33 to R36, R44, R51, R55, R75: a link that may train comes up with its rate and width, the presets that its partner asked for and the IDs that it
was assigned, a preset outside the table rejected, and a link without CXL raises DEGRADED 0x8002; a link that goes down has neither rate
nor width, and the messages whose MAC it had not seen go with it; an IDE failure is CONTAINED 0x8001, marks the stream insecure, drops its
keys and takes the link down; PME_Turn_Off is acknowledged. -/
def Sys2Proof.Claims.LinksComeAndGo : Prop :=
  ∀ (s : State) (l rate width : Nat) (o : LinkUp) (dpid : BitVec 12), s.dev.inRun →
    let d := s.dev
    let k := d.link l
    (d.linkExists l = true → k.up = false → k.perst = false → k.cleanup = false → rate ∈ [2500, 5000, 8000, 16000, 32000, 64000, 128000] →
      0 < width → width ≤ (if d.split (l % 4) then 8 else 16) →
      let e (cxl : Bool) : Dev := d.setLink l { k with
        up := true, cxl := cxl, rate := rate, width := width, macError := false, presets := k.preset o.presets,
        pbr := o.pbr.orElse fun _ => k.pbr, biId := o.biId.getD k.biId, l0p := o.l0p, aspm := o.aspm }
      exec (.hostLinkUp l true rate width o) s = .next { s with dev := e true } ∧
      exec (.hostLinkUp l false rate width o) s = .next { s with dev := (e false).raise { code := 0x8002, cls := 2, unit := 0x10 + l } }) ∧
    (∀ lane n, risingFrom 0 k.presets = true → lane < 16 →
      mgetD (k.preset [(lane, n)]) lane 0 = if n ≤ 10 then n else mgetD k.presets lane 0) ∧
    (k.up = true →
      exec (.hostLinkDown l) s = .next { s with dev := (d.setLink l { k with
        up := false, cxl := false, rate := 0, width := 0, narrow := false, inL1 := false, epoch := [] }) } ∧
      (∀ stream, ∃ t, exec (.ideIntegrityFailure l stream) s = .next { s with dev := t } ∧
        t.link l = (let g : Link := { k with
            up := false, cxl := false, rate := 0, width := 0, narrow := false, inL1 := false, epoch := [], macError := true }
          if stream = 0 then { g with cacheIde := { insecure := true } } else { g with ioIde := { insecure := true } }) ∧
        t.mem = d.mem ∧ t.grottos = d.grottos ∧ t.queues = d.queues ∧ t.faults.total = d.faults.total + 1)) ∧
    (d.linkOpen l = true → k.misrouted dpid = false →
      exec (.pmeTurnOff l dpid) s = .next { s with dev :=
        (Dev.setLink { d with out := d.out ++ [{ msg := .pmeToAck l, source := k.pbr }] } l { k with pme := true }) })

/-- Host links come up, go down and are reset: PerstResetsALink, LinksComeAndGo. -/
def Obligations.PortsComeAndGo : Prop := Claims.PerstResetsALink ∧ Claims.LinksComeAndGo

/-- R14, R37, R40, R41, R60, R610, R616: a decoder that fits a range of its logical device commits, and its position is known at once only with one way; one
that does not fit takes an error bit and an EVENT with the cause; ways or a granularity outside the tables leave the field with an EVENT;
the fields of a committed one that is not locked are written as any, and it stays committed; a locked one records the write; a decoder
that is not locked is uncommitted; an unmasked vector takes its pending interrupt. -/
def Obligations.DecodersAndVectors : Prop :=
  ∀ (s : State) (l ld n : Nat) (c : DecoderCfg) (dpid : BitVec 12), s.dev.inRun → s.dev.ldOpen l ld = true →
    (s.dev.link l).misrouted dpid = false →
    let d := s.dev
    let old := mgetD (d.ld l ld).decoders n {}
    let ways := c.ways ∈ [1, 2, 3, 4, 6, 8, 12, 16]
    let gran := c.gran ∈ [256, 512, 1024, 2048, 4096, 8192, 16384]
    let k : Decoder := {
      base := BitVec.ofNat 64 c.base, size := BitVec.ofNat 64 c.size, ways := if ways then c.ways else old.ways,
      gran := if gran then c.gran else old.gran, skip := c.skip, typeDB := c.typeDB, lockOnCommit := c.lock }
    let refused (detail : Nat) : Dev := d.event 0x385 4 (l % 8 * 2 ^ 45 + ld % 16 * 2 ^ 41 + (0x1320 + 0x20 * n) % 2 ^ 32) detail
    let E : Dev := if ways ∧ gran then d else refused 2
    (n < 4 → old.locked = false → old.committed = false →
      (E.decoderCause l ld n k = 0 →
        exec (.decoderCommit l ld n c dpid) s = .next { s with dev :=
          (E.setDecoder l ld n { k with committed := true, locked := c.lock, position := if k.ways ≤ 1 then some 0 else none }) }) ∧
      (E.decoderCause l ld n k ≠ 0 →
        exec (.decoderCommit l ld n c dpid) s = .next { s with dev :=
          ((E.setDecoder l ld n { k with error := true }).event (0x10 + l) 4 (0x1320 + 0x20 * n)
            (ld % 16 + n * 16 + E.decoderCause l ld n k * 256)) })) ∧
    (n < 4 → old.locked = false → old.committed = true →
      exec (.decoderCommit l ld n c dpid) s = .next { s with dev :=
        (E.setDecoder l ld n { k with committed := true, position := old.position }) }) ∧
    (n < 4 → old.locked = false →
      exec (.decoderUncommit l ld n dpid) s = .next { s with dev :=
        (d.setDecoder l ld n { old with committed := false, error := false, position := none }) }) ∧
    (n < 4 → old.locked = true →
      exec (.decoderUncommit l ld n dpid) s = .next { s with dev := refused 1 } ∧
      exec (.decoderCommit l ld n c dpid) s = .next { s with dev := refused 1 }) ∧
    (n < (d.ld l ld).vecCount →
      let y : Ld := { d.ld l ld with
        msixOn := true, unmasked := (d.ld l ld).unmasked.filter (· != n) ++ [n], pendVec := (d.ld l ld).pendVec.filter (· != n) }
      ((d.ld l ld).pendVec.contains n = false → exec (.vectorUnmask l ld n dpid) s = .next { s with dev := d.setLd l ld y }) ∧
      ((d.ld l ld).pendVec.contains n = true → ∃ t, exec (.vectorUnmask l ld n dpid) s = .next { s with dev := t } ∧
        t.out = d.out ++ [{ msg := .msix l ((d.ld l ld).base ld + n), source := (d.link l).pbr }] ∧ t.ld l ld = y ∧ t.mem = d.mem))

/-- R26, R61, R62: every mailbox command that a logical device's free mailbox takes stands in it, and the dispatcher's program for it waits for room in
queue 0 of the port; a command that comes while the mailbox is occupied is not taken. -/
def Sys2Proof.Claims.MailboxTakes : Prop :=
  ∀ (s : State) (l ld log n dpa len : Nat) (policy : BitVec 5) (data : LineData) (es : List (Nat × Nat)) (op : BitVec 16) (p : BitVec 12) (c : Instr),
    c ∈ [.identify l ld p, .backgroundOperationStatus l ld p, .getEventRecords l ld log p, .clearEventRecords l ld log n p,
      .getEventInterruptPolicy l ld p, .setEventInterruptPolicy l ld policy p, .identifyMemoryDevice l ld p, .getPoisonList l ld dpa len p,
      .injectPoison l ld dpa p, .clearPoison l ld dpa data p, .getScanMediaCapabilities l ld dpa len p, .scanMedia l ld dpa len p,
      .getScanMediaResults l ld p, .sanitize l ld p, .secureErase l ld p, .getDynamicCapacityConfiguration l ld p,
      .getDynamicCapacityExtentList l ld log n p, .addDynamicCapacityResponse l ld es p, .releaseDynamicCapacity l ld dpa len p,
      .unsupportedMailboxCommand l ld op p] →
    (s.dev.MailFree l ld p → exec c s = .next { s with dev := s.dev.posted l ld c }) ∧
    (s.dev.inRun → s.dev.ldOpen l ld = true → (s.dev.link l).misrouted p = false →
      ((s.dev.ld l ld).mbox.isSome = true ∨ (s.dev.ld l ld).mboxWait.isSome = true) → exec c s = .next s)

/-- R26, R37, R47, R61, R62, R65, R66, R477: the programs that report or set what a logical device holds give it as their result, which goes to the host with an
interrupt: identity, background status, event logs and their policy, memory, poison list, scan capabilities and results,
dynamic-capacity configuration and extents with their tag and sequence; an opcode that is not in the table is unsupported. -/
def Sys2Proof.Claims.MailboxReports : Prop :=
  ∀ (s : State) (l ld : Nat) (c : Instr) (p : BitVec 12), s.dev.MailRuns l ld c → s.dev.Still → s.dev.outstanding (.mbox l ld) = false →
    let d := s.dev
    let x := d.ld l ld
    let gives (e : Dev) (code : CmdCode) (payload : List Nat) : Prop := exec (.mailboxResult l ld) s = .next { s with dev :=
      (((e.answered l ld c code payload).replied l ld code payload).runBg l ld).after }
    let tells (e : Dev) (payload : List Nat) : Prop := gives e .success payload
    (c = .identify l ld p → tells d [0x1664]) ∧
    (c = .backgroundOperationStatus l ld p →
      (x.background = none → x.bgDone = none → tells d [0, 0, 100, 0]) ∧
      (∀ op code, x.background = none → x.bgDone = some (op, code) → tells d [0, op, 100, if code = .success then 0 else 1]) ∧
      (∀ dpa len k, x.background = some (.scanMedia l ld dpa len k) → tells d [1, 0x4304, x.bgAt * 100 / max 1 x.bgAll, 0]) ∧
      (∀ k, x.background = some (.sanitize l ld k) → tells d [1, 0x4400, x.bgAt * 100 / max 1 x.bgAll, 0])) ∧
    (∀ log, log ≤ 4 → let g := mgetD x.logs log {}
      (c = .getEventRecords l ld log p → tells d
        ([log, g.overflow, g.first, g.last, min g.recs.length 63, if 63 < g.recs.length then 1 else 0] ++ (g.recs.take 63).flatMap LogRec.words)) ∧
      (∀ n, c = .clearEventRecords l ld log n p → n ≤ g.recs.length → tells (d.setLd l ld { x with
        logs := mset x.logs log (if n = g.recs.length then {} else { g with recs := g.recs.drop n }) }) [])) ∧
    (c = .getEventInterruptPolicy l ld p → tells d [x.policy.toNat]) ∧
    (∀ k, c = .setEventInterruptPolicy l ld k p → tells (d.setLd l ld { x with policy := k }) []) ∧
    (let units := ((d.grottos.filter fun e => e.2.ownerLink == l && e.2.ownerLd == ld && !e.2.copy).map fun e => e.2.committed).sum
     c = .identifyMemoryDevice l ld p → tells d [units, units, 0, 0, 256, 64]) ∧
    (∀ dpa len, c = .getPoisonList l ld dpa len p → tells d ((if x.poisonOver then 1 else 0) :: x.poisonTime :: x.poison.flatMap fun r =>
      let a := max (dpa / 64) r.dpaLine
      let b := min (ceilDiv (dpa + len) 64) (r.dpaLine + r.count)
      if a < b then [a * 64, b - a, r.source] else [])) ∧
    (∀ dpa len, c = .getScanMediaCapabilities l ld dpa len p → tells d [ceilDiv (len * 1000) (2 ^ 36)]) ∧
    (c = .getScanMediaResults l ld p → tells d (x.scan.flatMap fun e => [e.1, e.2])) ∧
    (c = .getDynamicCapacityConfiguration l ld p → tells d ((d.regions l ld).flatMap fun e =>
      [e.2.1 + e.2.2.committed * unitBytes, e.2.2.elasticMax * unitBytes, unitBytes])) ∧
    (∀ first n, c = .getDynamicCapacityExtentList l ld first n p → tells d ((d.extents l ld Grotto.accepted).length ::
      (((d.extents l ld Grotto.accepted).drop first).take n).flatMap fun e => [e.1, e.2.1, 0, 0])) ∧
    (∀ op, c = .unsupportedMailboxCommand l ld op p → gives d .unsupported [])

/-- R48, R50, R62 to R65, R110: the programs that act. Inject Poison and Clear Poison write a line that the DPA reaches; Scan Media and Sanitize start in the
background, one at a time; Secure Erase unbacks what is owned once its keys are destroyed; a response accepts the one extent that it
names where the reserve allows it, or declines all; a release takes its extent out and unbacks its pages. A result whose writes are not yet
complete waits in the mailbox. A scan that is at its end, and a sanitize whose frames are zeroed, end with an interrupt. -/
def Sys2Proof.Claims.MailboxActs : Prop :=
  ∀ (s : State) (l ld : Nat) (c : Instr) (p : BitVec 12),
    let d := s.dev
    let x := d.ld l ld
    let acts (e : Dev) (code : CmdCode) : Prop :=
      let E := (e.answered l ld c code []).after
      (E.ld l ld).mbox = some (c, code, []) →
      (E.outstanding (.mbox l ld) = false →
        exec (.mailboxResult l ld) s = .next { s with dev := ((E.replied l ld code []).runBg l ld).after }) ∧
      (E.outstanding (.mbox l ld) = true → exec (.mailboxResult l ld) s = .next { s with dev := (E.runBg l ld).after })
    let starts (n : Nat) : Dev := d.setLd l ld { x with
      background := some c, bgFrames := none, bgAt := 0, bgAll := n, scan := if n = 0 then x.scan else [] }
    let put (g off : Nat) (data : LineData) (bad : Bool) : Dev := d.again 1 {
      who := .mbox l ld, src := 163, g := g, line := off / 64, op := .write fullMask data bad, cls := (d.grotto g).cls }
    let ends (e : Dev) (op : Nat) : Dev :=
      let f := e.forget (.mbox l ld)
      ((f.setLd l ld { f.ld l ld with background := none, bgFrames := none, bgDone := some (op, .success) }).interrupt l ld 0).after
    (d.MailRuns l ld c →
      (∀ dpa, c = .injectPoison l ld dpa p →
        (x.injectOk = false → acts d .unsupported) ∧
        (x.injectOk = true → dpa % 64 = 0 → 64 ≤ x.injected → acts d .injectLimit) ∧
        (∀ g off, x.injectOk = true → dpa % 64 = 0 → x.injected < 64 → d.dpaCase l ld dpa = .ok (g, off) → acts (put g off 0 true) .success)) ∧
      (∀ dpa data, c = .clearPoison l ld dpa data p →
        (dpa % 64 ≠ 0 → acts d .invalidInput) ∧
        (∀ k, dpa % 64 = 0 → d.dpaCase l ld dpa = .error k → acts d .physicalAddress) ∧
        (∀ g off, dpa % 64 = 0 → d.dpaCase l ld dpa = .ok (g, off) → acts (put g off data false) .success)) ∧
      (∀ dpa len, c = .scanMedia l ld dpa len p → dpa % 64 = 0 → len % 64 = 0 → 0 < len →
        (x.background = none → acts (starts (len / 64)) .background) ∧ (x.background.isSome = true → acts d .busy)) ∧
      (c = .sanitize l ld p →
        (x.background = none → acts (starts 0) .background) ∧ (x.background.isSome = true → acts d .busy)) ∧
      (∀ e, c = .secureErase l ld p → (unbackOwned l ld).run (d.eraseOwned l ld) = .ok ((), e) → acts e .success) ∧
      (c = .addDynamicCapacityResponse l ld [] p →
        acts ((d.owned l ld).foldl (fun (h : Dev) e => h.setGrotto e.1 { e.2 with offered := [] }) d) .success) ∧
      (∀ a n g b k y, c = .addDynamicCapacityResponse l ld [(a, n)] p →
        (d.extents l ld Grotto.offered).find? (fun o => o.1 == a && o.2.1 == n) = some (a, n, g, b, k) → d.grotto? g = some y →
        (b, k) ∈ y.offered →
        let f := d.setGrotto g { y with offered := y.offered.erase (b, k), accepted := y.accepted ++ [(b, k)] }
        (f.sumReserve ≤ d.dataFrames ∨ f.sumReserve ≤ d.sumReserve → acts f .success) ∧
        (d.dataFrames < f.sumReserve → d.sumReserve < f.sumReserve → acts d .invalidExtentList)) ∧
      (∀ dpa len g b k y e, c = .releaseDynamicCapacity l ld dpa len p →
        (d.extents l ld Grotto.accepted).find? (fun o => o.1 == dpa && o.2.1 == len) = some (dpa, len, g, b, k) → d.grotto? g = some y →
        let f := d.setGrotto g { y with accepted := y.accepted.erase (b, k), releaseAsked := y.releaseAsked.erase (b, k) }
        f.inUse g (b * 65536) (k * 65536) = false → f.unbackRange g (b * 65536) (k * 65536) = (true, e) → (e.grotto g).mirror = false →
        acts e .success)) ∧
    (d.inRun → d.mailAtHead l ld = false →
      (∀ dpa len e ended, x.background = some (.scanMedia l ld dpa len p) →
        d.scanOn l ld (dpa / 64) (d.scanLines l ld (dpa / 64 + x.bgAt) (ceilDiv (dpa + len) 64)) = (ended, e) →
        exec (.mailboxResult l ld) s = .next { s with dev := if ended then ends e 0x4304 else (e.forget (.mbox l ld)).after }) ∧
      (∀ fs, x.background = some (.sanitize l ld p) → x.bgFrames = some fs → (∀ f ∈ fs, d.unzeroed f = false) →
        d.outstanding (.mbox l ld) = false →
        exec (.mailboxResult l ld) s = .next { s with dev := ends (d.setLd l ld { x with bgFrames := some [], bgAt := x.bgAll }) 0x4400 }))

/-- The mailbox commands: MailboxTakes, MailboxReports, MailboxActs. -/
def Obligations.MailboxCommands : Prop := Claims.MailboxTakes ∧ Claims.MailboxReports ∧ Claims.MailboxActs

/-! ### The fabric manager, SPDM and registers -/

/-- R43, R267, R607: the FM API commands that report answer at once: logical devices, allocations, the doorbell block and the completion records of a queue,
and a device register; Set LD Allocations is unsupported, and a link or queue that does not exist is an invalid input. -/
def Sys2Proof.Claims.FmReports : Prop :=
  ∀ s : State, s.dev.inRun → s.dev.Still →
    let d := s.dev
    let tells (c : Instr) (code : CmdCode) (payload : List Nat) : Prop :=
      exec c s = .next { s with dev := { d with out := d.out ++ [{ msg := .fm code payload }] } }
    (∀ l, d.linkExists l = true → tells (.getLdInfo l) .success [d.ldCount l] ∧
      tells (.getLdAllocations l) .success ((List.range (d.ldCount l)).map fun ld => ((d.grottos.filter fun e =>
        e.2.ownerLink == l && e.2.ownerLd == ld && !e.2.copy).map fun e => e.2.committed).sum)) ∧
    (∀ l, d.linkExists l = false → tells (.getLdInfo l) .invalidInput [] ∧ tells (.getLdAllocations l) .invalidInput []) ∧
    (∀ l, tells (.setLdAllocations l) .unsupported []) ∧
    (∀ q x, 1 ≤ q → q ≤ 15 → d.queue? q = some x → tells (.getQueueStatus q) .success [x.tail.toNat, x.head.toNat, x.commit.toNat,
      x.shown * 2 ^ 60 + x.stopStatus % 65536 * 2 ^ 40 + (if x.crFull then 2 ^ 39 else 0) + (if x.tornWait then 2 ^ 38 else 0) + x.stopPos.toNat,
      if x.run then 1 else 0, x.consumed.toNat, x.written.toNat, 0]) ∧
    (∀ q, 15 < q → tells (.getQueueStatus q) .invalidInput []) ∧
    (∀ q x first n, 1 ≤ q → q ≤ 15 → d.queue? q = some x → 0 < n → n ≤ 32 → x.issued = [] → d.overHold 512 = false →
      ∃ t, exec (.getCompletionRecords q first n) s = .next { s with dev := t } ∧
        t.queue? q = some { x with consumed := first + BitVec.ofNat 32 n, dirty := true, crFull := false } ∧ t.mem = d.mem ∧
        t.out = d.out ++ [{ msg := .fm .success ((List.range n).flatMap fun i => (List.range 4).map fun k =>
          (mgetD d.queues.fmRecs (q * 256 + (first.toNat + i) % x.crSize) 0).toNat / 2 ^ (64 * k) % 2 ^ 64) }]) ∧
    (∀ off, off % 8 = 0 → off < 2 ^ 23 → d.faults.arrays = [] →
      exec (.readDeviceRegister off) s = .next ((s.readBlock off true).2.fmAnswer .success [(s.readBlock off true).1.toNat])) ∧
    (∀ off, off % 8 ≠ 0 → tells (.readDeviceRegister off) .invalidInput [])

/-- R58, R267, R295, R443, R561, R577, R607: what the FM API commands that act leave: LD options that no vector stands against; a pool ID with its times,
recorded as type 7; words in a queue's ring with its new tail; a queue's run bit; bytes of the firmware slot that does not run, and that
slot pending, which the flash is told; the fabric manager's root, once; a device register. -/
def Sys2Proof.Claims.FmActs : Prop :=
  ∀ s : State, s.dev.inRun → s.dev.Still →
    let d := s.dev
    let done (e : Dev) : Dev := { e with out := e.out ++ [{ msg := .fm .success [] }] }
    (∀ l ld base n inject, d.linkExists l = true → ld < d.ldCount l → 0 < n → base + n ≤ d.vectors l →
      (∀ k, k < d.ldCount l → k ≠ ld → base + n ≤ (d.ld l k).base k ∨ (d.ld l k).base k + (d.ld l k).vecCount ≤ base) →
      (d.ld l ld).msixOn = false → d.namesVector l ld n = false →
      exec (.setLdOptions l ld base n inject) s = .next { s with dev := done (d.setLd l ld { d.ld l ld with
        vecBase := some base, vecCount := n, injectOk := inject }) }) ∧
    (∀ id ack credit, 1 ≤ ack → ack ≤ 64 → 10 ≤ credit → credit ≤ 10000 → credit % 10 = 0 → d.ev.rope.state = 0 →
      d.ev.p0.spillOk = false → d.ev.p1.spillOk = false → d.mem.guests = [] → d.fwUp = true → s.trust.waiting = [] →
      exec (.setPoolId id ack credit) s = .next { s with
        dev := done (d.onEv fun e => { e with pool := some id, ackUs := ack, creditUs := credit }),
        trust := s.trust.append 7 0 (bytesOfNat 2 id.toNat ++ bytesOfNat 2 ack ++ bytesOfNat 2 credit) true }) ∧
    (∀ q x ws, 1 ≤ q → q ≤ 15 → d.queue? q = some x → ws ≠ [] → ws.length ≤ 64 → x.tailOk (x.tail + BitVec.ofNat 32 ws.length) = true →
      exec (.submitInstructions q ws (x.tail + BitVec.ofNat 32 ws.length)) s = .next { s with dev :=
        (done ((d.putWords q x x.tail ws).setQueue q
          ({ x with tail := x.tail + BitVec.ofNat 32 ws.length, dirty := true } : Queue).settle).after) }) ∧
    (∀ q x, 1 ≤ q → q ≤ 15 → d.queue? q = some x → x.state = 1 → x.issued = [] → d.overHold 512 = false →
      exec (.setQueueRun q false) s = .next { s with dev := (done (d.setQueue q { x with
        state := 3, run := false, stopStatus := 0, stopping := none, tornWait := false, torn := 0, dirty := true })) }) ∧
    (∀ q x, 1 ≤ q → q ≤ 15 → d.queue? q = some x → x.state = 3 → d.overHold 512 = false →
      exec (.setQueueRun q true) s = .next { s with dev := (done (d.setQueue q { x with
        state := 1, run := true, stopStatus := 0, stopPos := 0, stopping := none, dirty := true })) }) ∧
    (∀ off bs, bs.length ≤ 4096 → off + bs.length ≤ 16777216 → d.fwUp = true → s.trust.waiting = [] →
      exec (.transferFirmware off bs) s = .next { s with dev := done d, trust := s.trust.program (1 - s.trust.running) off bs }) ∧
    (d.fwUp = true → s.trust.waiting = [] → exec (.activateFirmware 0) s = .next { s with
      dev := done { d with out := d.out ++ [{ msg := .flash true 2 0 }] }, trust := s.trust.append 2 0 (bytesOfNat 1 s.trust.selection.1 ++ bytesOfNat 7 (1 - s.trust.running)) true }) ∧
    (∀ hash, s.trust.fmRoot = none →
      exec (.provisionFmRoot hash) s = .next { s with dev := done d, trust := { s.trust with fmRoot := some hash } }) ∧
    (∀ hash, s.trust.fmRoot ≠ none →
      exec (.provisionFmRoot hash) s = .next { s with dev := { d with out := d.out ++ [{ msg := .fm .invalidInput [] }] } }) ∧
    (∀ value, d.tagDone = false → d.faults.arrays = [] →
      exec (.writeDeviceRegister 0x10018 value) s = .next { s with dev := done { d with devTag := value, tagDone := true } })

/-- The FM API commands: FmReports, FmActs. -/
def Obligations.FmCommands : Prop := Claims.FmReports ∧ Claims.FmActs

/-- R561: Provision FM Root writes the hash it is given once in the device's life; where one is written it completes with Invalid Input and changes
nothing, and no step changes what it wrote. -/
def Obligations.FmRootIsWrittenOnce : Prop :=
  (∀ (s : State) (h : BitVec 256), s.dev.inRun → s.trust.fmRoot = none →
    exec (.provisionFmRoot h) s = .next { s with
      dev := { s.dev with out := s.dev.out ++ [{ msg := .fm .success [] }] }, trust := { s.trust with fmRoot := some h } }) ∧
  (∀ (s : State) (h k : BitVec 256), s.dev.inRun → s.trust.fmRoot = some k →
    exec (.provisionFmRoot h) s = .next { s with dev := { s.dev with out := s.dev.out ++ [{ msg := .fm .invalidInput [] }] } }) ∧
  ∀ (s t : State) (k : BitVec 256), step s = .next t → s.trust.fmRoot = some k → t.trust.fmRoot = some k

/-- R31, R589, R590, R595, R596: negotiation on an open channel goes version, capabilities, algorithms; digests, the certificate of slot 0 and unsigned
measurements need it done, and carry the certificate chain of the identity key, or its digest; a challenge, a signed measurement and a key
exchange each take the next reserved leaf of the identity key and carry its signature at that leaf; the public key has 60 bytes and a
signature 4,472. -/
def Obligations.SpdmAnswers : Prop :=
  ∀ (s : State) (ch : Nat), s.dev.inRun → s.dev.spdmOpen ch = true → s.dev.fwUp = true → s.trust.waiting = [] →
    let tells (c : Instr) (t : Trust) (payload : List Nat) (bytes : List Byte := []) : Prop :=
      exec c s = .next { s with dev := { s.dev with out := s.dev.out ++ [{ msg := .spdm ch true payload bytes }] }, trust := t }
    let seed := s.dev.plat.identitySeed
    let chain := Config.identityChain (identityKey seed)
    let sig := identitySign seed s.trust.leaf (Config.transcript s.trust.leaf)
    let at_ (n : Nat) : Trust := { s.trust with negotiated := mset s.trust.negotiated ch n }
    tells (.getVersion ch) (at_ 1) [0x12, 0x13] ∧
    (1 ≤ s.trust.stage ch → tells (.getCapabilities ch) (at_ 2) []) ∧
    (2 ≤ s.trust.stage ch → tells (.negotiateAlgorithms ch true) (at_ 3) []) ∧
    (s.trust.stage ch = 3 →
      tells (.getDigests ch) s.trust [1] (sha256 chain) ∧
      (∀ off len, tells (.getCertificate ch 0 off len) s.trust [0, off, len] ((chain.drop off).take len)) ∧
      (∀ n, 1 ≤ n → n ≤ 8 → tells (.getMeasurements ch n false) s.trust
        [if n = 5 then s.dev.flow.measure.toNat else (mgetD s.trust.mr (n - 1) 0).toNat]) ∧
      (s.trust.leaf < s.trust.leafEnd →
        let t : Trust := { s.trust with leaf := s.trust.leaf + 1, leafTop := max s.trust.leafTop (s.trust.leaf + 1) }
        tells (.challenge ch 0) t [0, s.trust.leaf] sig ∧
        (∀ n, 1 ≤ n → n ≤ 8 → tells (.getMeasurements ch n true) t
          [if n = 5 then s.dev.flow.measure.toNat else (mgetD s.trust.mr (n - 1) 0).toNat, s.trust.leaf] sig) ∧
        (∀ id, (List.range 4).find? (fun k => !s.trust.sessions.any fun x => x.id == k) = some id →
          tells (.keyExchange ch 0) { t with sessions := t.sessions ++ [{ chan := ch, id := id }] } [id, s.trust.leaf] sig)) ∧
      (s.trust.leafEnd ≤ s.trust.leaf → s.trust.exhausted = false →
        exec (.challenge ch 0) s = .next { s with trust := { s.trust with waiting := [.challenge ch 0] } })) ∧
    (identityKey seed).length = 60 ∧ ∀ q msg, (identitySign seed q msg).length = 4472

/-- R52 to R54, R586, R595, R597, R598: inside a session. FINISH brings it up, authenticated where the requester's root is the fabric manager's; HEARTBEAT and
KEY_UPDATE answer; END_SESSION ends it; an authenticated session over I3C sets and erases wrapping keys; over the DOE mailbox of a link a
key is programmed, put to use, in skid or containment mode (log 87), and stopped for a stream of that link. -/
def Obligations.SpdmSessions : Prop :=
  ∀ (s : State) (ch id : Nat) (x : Spdm), s.dev.inRun → s.dev.spdmOpen ch = true → s.dev.fwUp = true → s.trust.waiting = [] →
    s.trust.sessions.find? (fun y => y.chan == ch && y.id == id) = some x →
    let tells (c : Instr) (d : Dev) (t : Trust) (payload : List Nat) : Prop :=
      exec c s = .next { s with dev := { d with out := d.out ++ [{ msg := .spdm ch true payload }] }, trust := t }
    (∀ root, x.up = false → tells (.finish ch id root) s.dev { s.trust with
      sessions := s.trust.sessions.map fun y => if y = x then { y with
        up := true, auth := root.isSome && root == s.trust.fmRoot } else y } [id]) ∧
    (x.up = true →
      tells (.heartbeat ch id) s.dev s.trust [] ∧ tells (.keyUpdate ch id) s.dev s.trust [] ∧
      tells (.endSession ch id) s.dev { s.trust with sessions := s.trust.sessions.filter (· != x) } [] ∧
      (∀ slot key, ch = 0 → x.auth = true → 1 ≤ slot → slot ≤ 15 →
        tells (.setWrappingKey ch id slot false key) s.dev { s.trust with wrap := mset s.trust.wrap slot key } [] ∧
        tells (.setWrappingKey ch id slot true key) s.dev { s.trust with wrap := merase s.trust.wrap slot } []) ∧
      (∀ link key skid, ch ≠ 0 → (ch - 1) % 8 = link → s.dev.linkExists link = true →
        let k := s.dev.link link
        (k.cacheIde.rx.inUse ≠ some 0 →
          tells (.keyProg ch id link 0 false 0 key) (s.dev.setLink link { k with cacheIde := { k.cacheIde with
            rx := { k.cacheIde.rx with set0 := some key } } }) s.trust []) ∧
        (k.cacheIde.rx.set0.isSome = true →
          tells (.kSetGo ch id link 0 false 0 skid) (s.dev.setLink link { k with skid := skid, cacheIde := { k.cacheIde with
            rx := { k.cacheIde.rx with inUse := some 0 }, insecure := false } }) s.trust []) ∧
        tells (.kSetStop ch id link 1) (s.dev.setLink link { k with ioIde := { k.ioIde with rx := {}, tx := {} } }) s.trust []))

/-- R272 to R274, R293, R295, R610: a doorbell write of the logical device that owns a queue records a tail that fits, restarts or stops the queue, and
records what the program consumed; a tail that does not fit changes nothing but an EVENT. -/
def Sys2Proof.Claims.Doorbells : Prop :=
  ∀ (s : State) (l ld q : Nat) (dpid : BitVec 12) (x : Queue), s.dev.inRun → s.dev.Still → s.dev.overHold 512 = false → s.dev.ldOpen l ld = true →
    (s.dev.link l).misrouted dpid = false → 16 ≤ q → q < 8192 →
    s.dev.queue? q = some x → s.dev.ownerOf x = (l, ld) →
    let d := s.dev
    (∀ v : Word, v.setWidth 32 ≠ x.tail → x.tailOk (v.setWidth 32) = true →
      exec (.dbTailWrite l ld (q * 4096) v dpid) s = .next { s with dev := (d.setQueue q
        ({ x with tail := v.setWidth 32, dirty := true } : Queue).settle) }) ∧
    (∀ v : Word, v.setWidth 32 ≠ x.tail → x.tailOk (v.setWidth 32) = false →
      exec (.dbTailWrite l ld (q * 4096) v dpid) s = .next { s with dev := (d.event 0x385 4
        (l % 8 * 2 ^ 45 + ld % 16 * 2 ^ 41 + 2 ^ 39 + q * 4096) 7) }) ∧
    (x.state = 3 → exec (.qRunSet l ld (q * 4096 + 0x20) dpid) s = .next { s with dev := (d.setQueue q { x with
      state := 1, run := true, stopStatus := 0, stopPos := 0, stopping := none, dirty := true }) }) ∧
    (x.state = 1 → x.issued = [] → exec (.qRunClear l ld (q * 4096 + 0x20) dpid) s = .next { s with dev := (d.setQueue q { x with
      state := 3, run := false, stopStatus := 0, stopping := none, tornWait := false, torn := 0, dirty := true }) }) ∧
    (x.state = 1 → x.issued ≠ [] →
      exec (.qRunClear l ld (q * 4096 + 0x20) dpid) s = .next { s with dev := (d.setQueue q { x with run := false }) }) ∧
    (∀ v : Word, x.issued = [] → exec (.crConsumedWrite l ld (q * 4096 + 0x28) v dpid) s = .next { s with dev := (d.setQueue q { x with
      consumed := v.setWidth 32, dirty := true, crFull := false }) })

/-- R12, R154, R463, R492, R509, R522, R559, R604, R606: a read of a register that clears returns its bits, with bit 63 where a cause persists; in the control
view a 64-bit read clears the bits whose cause is gone; other views and 32-bit reads clear nothing. -/
def Sys2Proof.Claims.ClearingReads : Prop :=
  ∀ (s : State) (v : RegView) (wide : Bool), s.dev.inRun → s.dev.faults.armed = [] → s.dev.viewOpen v = true →
    let d := s.dev
    let c := control v && wide
    let value (bits stay : Nat) : Word := BitVec.ofNat 64 (bits + if bits &&& stay = 0 then 0 else 2 ^ 63)
    let tells (i : Instr) (e : Dev) (x : Word) : Prop := exec i s = .next { s with dev := { e with
      out := e.out ++ [{
        msg := .regData v (if wide then x else x &&& 0xFFFFFFFF#64), source := if v.mgmt then none else (d.link v.link).pbr }] } }
    tells (.faultStatusRead v wide)
      (if c then d.onFaults fun f => { f with status := f.status &&& d.faultStay } else d) (value d.faults.status.toNat d.faultStay.toNat) ∧
    (∀ n, let x := d.chan n
      tells (.chFaultRead v n wide) (if c then d.setChan n { x with fault := x.fault &&& x.faultStay } else d)
        (value x.fault.toNat ((if x.over95 then 0x40#8 else 0) ||| 0x30#8).toNat)) ∧
    (∀ n, let x := d.evPort n
      tells (.evFaultRead v n wide) (if c then d.setEv n { x with fault := x.fault &&& (if x.state = 0 then 0x80#8 else 0) } else d)
        (value x.fault.toNat (if x.state = 0 then 0x80 else 0))) ∧
    (∃ e, tells (.classStatusRead v wide) e
        (value ((List.range 16).map fun k => (if (d.class k).missed then 2 ^ k else 0) + if (d.class k).atRisk then 2 ^ (16 + k) else 0).sum
          ((List.range 16).map fun k => if (d.class k).eff < (d.class k).guar then 2 ^ (16 + k) else 0).sum) ∧
      (c = false → e = d) ∧
      (c = true → ∀ k, k < 16 → (e.class k).missed = false ∧
        (e.class k).atRisk = ((d.class k).atRisk && decide ((d.class k).eff < (d.class k).guar)) ∧ (e.class k).guar = (d.class k).guar)) ∧
    (let p := d.power
     let lost := decide (0 < d.lostNow)
     tells (.pwrRetainRead v wide) (if c then d.onPower fun q => { q with
         retPg := false, retTemp := false, retHold := false, retCanary := q.retCanary && lost } else d)
       (value ((if p.retPg then 8 else 0) + (if p.retTemp then 4 else 0) + (if p.retCanary then 2 else 0) + if p.retHold then 1 else 0)
         (if lost then 2 else 0))) ∧
    (∀ j, tells (.cntWrapRead v j wide) (if c then d.onCnt fun k => { k with wrap := k.wrap.filter fun n => n / 64 != j } else d)
      (BitVec.ofNat 64 ((d.cnt.wrap.filter fun n => n / 64 == j).map fun n => 2 ^ (n % 64)).sum))

/-- R492, R603, R614, R616: FAULT_CONSUMED takes a value that is not ahead of the total; DEV_TAG takes its first write and refuses later ones; other views are
refused with an EVENT; a write of a size or alignment that no register takes does nothing but an EVENT. -/
def Sys2Proof.Claims.RegisterWrites : Prop :=
  ∀ (s : State) (v : RegView) (off : Nat) (value : Word), s.dev.inRun → s.dev.Still → s.dev.viewOpen v = true → s.dev.faults.arrays = [] →
    let d := s.dev
    let bar := if v.mgmt then 3 else 2
    let refused (detail : Nat) : Dev := d.event 0x385 4 (v.link % 8 * 2 ^ 45 + v.ld % 16 * 2 ^ 41 + bar * 2 ^ 39 + off % 2 ^ 32) detail
    (control v = true →
      ((d.faults.total - value.setWidth 32).toNat < 2 ^ 31 →
        exec (.faultConsumedWrite v off value) s = .next { s with dev := { d with faults := { d.faults with consumed := value.setWidth 32 } } }) ∧
      (2 ^ 31 ≤ (d.faults.total - value.setWidth 32).toNat → exec (.faultConsumedWrite v off value) s = .next { s with dev := refused 2 }) ∧
      (d.tagDone = false → exec (.devTagWrite v off value) s = .next { s with dev := { d with devTag := value, tagDone := true } }) ∧
      (d.tagDone = true → exec (.devTagWrite v off value) s = .next { s with dev := refused 1 })) ∧
    (control v = false → exec (.faultConsumedWrite v off value) s = .next { s with dev := refused 4 } ∧
      exec (.devTagWrite v off value) s = .next { s with dev := refused 4 }) ∧
    (∀ size (data : LineData), off < 0x800000 → writeFits off size = false →
      exec (.registerWrite v 4 off size data) s = .next { s with dev := refused 5 }) ∧
    (∀ data : LineData, control v = true → d.tagDone = false →
      exec (.registerWrite v 4 0x10018 8 data) s = .next { s with dev := { d with devTag := data.setWidth 64, tagDone := true } }) ∧
    (∀ data : LineData, v.mgmt = false → (d.link v.link).cxl = true →
      exec (.registerWrite v 0 0x1404 4 data) s = .next { s with dev := (d.setLink v.link { d.link v.link with
        biOn := data.getLsbD 1 }) })

/-- Doorbells, clearing reads and register writes: Doorbells, ClearingReads, RegisterWrites. -/
def Obligations.RegisterAccesses : Prop := Claims.Doorbells ∧ Claims.ClearingReads ∧ Claims.RegisterWrites

/-- R511, R512, R514, R515, R517, R519, R520: the counter commands in the control view: clear, of all or a range, chain, unchain, mode, window and survey; the
survey and the bandwidth window as they end. Outside the control view a command is refused with an EVENT. -/
def Obligations.CounterCommands : Prop :=
  ∀ (s : State) (v : RegView), s.dev.inRun → s.dev.viewOpen v = true →
    let d := s.dev
    let c := d.cnt
    (control v = true →
      (∃ e, exec (.cntClearAll v) s = .next { s with dev := { d with cnt := e } } ∧ e.cnt = [] ∧ e.wrap = [] ∧ e.chain = c.chain ∧
        e.sat = c.sat ∧ e.hold = c.hold ∧ e.seq = c.seq) ∧
      (∀ a b, a ≤ b → b < 1536 →
        ∃ e, exec (.cntClearRange v a b) s = .next { s with dev := { d with cnt := e } } ∧
          (∀ n, mgetD e.cnt n 0 = if a ≤ n ∧ n ≤ b then 0 else mgetD c.cnt n 0) ∧
          (∀ n, n ∈ e.wrap ↔ n ∈ c.wrap ∧ ¬ (a ≤ n ∧ n ≤ b)) ∧ e.chain = c.chain ∧ e.hold = c.hold) ∧
      (∀ a b, a ≤ b → b < 1536 →
        (∃ e, exec (.cntChain v a b) s = .next { s with dev := { d with cnt := { c with chain := e } } } ∧
          ∀ p, p ∈ e ↔ p ∈ c.chain ∨ (p < 768 ∧ a ≤ 2 * p ∧ 2 * p + 1 ≤ b)) ∧
        (∃ e, exec (.cntUnchain v a b) s = .next { s with dev := { d with cnt := { c with chain := e } } } ∧
          ∀ p, p ∈ e ↔ p ∈ c.chain ∧ ¬ (p < 768 ∧ a ≤ 2 * p ∧ 2 * p + 1 ≤ b))) ∧
      (∀ m, exec (.cntSetMode v m) s = .next { s with dev := { d with cnt := { c with sat := m } } }) ∧
      (∀ us, 1 ≤ us → us ≤ 1000000 →
        exec (.cntSetBandwidthWindow v us) s = .next { s with dev := { d with cnt := { c with nextWindow := us } } }) ∧
      (c.pendingSurvey = false →
        exec (.cntSurvey v) s = .next { s with dev := { d with cnt := { c with
          hold := c.cnt, surveyAt := d.timeNs, pendingSurvey := true } } }) ∧
      (c.pendingSurvey = true → exec (.cntSurvey v) s = .next { s with dev := { d with cnt := { c with merged := true } } })) ∧
    (control v = false → exec (.cntClearAll v) s = .next { s with dev := (d.event 0x385 4
      (v.link % 8 * 2 ^ 45 + v.ld % 16 * 2 ^ 41 + 2 * 2 ^ 39 + 0x46000) 8) }) ∧
    (c.pendingSurvey = true → c.merged = false →
      ∃ e, exec .surveyComplete s = .next { s with dev := { d with cnt := e } } ∧ e.seq = c.seq + 1 ∧ e.time = c.surveyAt ∧
        e.pendingSurvey = false ∧ e.hold = c.hold ∧ e.chain = c.chain) ∧
    (∃ e, exec .bandwidthWindowEnd s = .next { s with dev := { d with cnt := e } } ∧ e.bwSeq = c.bwSeq + 1 ∧ e.window = c.nextWindow ∧
      e.cnt = c.cnt ∧ e.hold = c.hold ∧
      ∀ p, p < 2 → mgetD e.bw (24 + p) (0, 0) = (min (2 ^ 20 - 1) (256 * mgetD c.evOut p 0 / (10 * max 1 c.window)),
        min (2 ^ 20 - 1) (256 * mgetD c.evIn p 0 / (10 * max 1 c.window))))

/-! ### Pages and channels -/

/-- R87, R123, R125, R469, R479, R480, R22: a line returns from DRAM to the host that reads it, once the scheduler has picked the read: a good line with its
data, as it stood before younger writes, which the near cache keeps where it has room; a line that is uncorrectable twice is poisoned in place and reaches the host
with the poison mark. A read that is not picked stays. -/
def Sys2Proof.Claims.LinesReturn : Prop :=
  ∀ (s : State) (chan frame line : Nat) (o : LineObs) (ready : Option (List Nat)) (x : DRead), s.dev.inRun → s.dev.Still →
    let d := s.dev
    let f := mkFrame chan frame
    let r := x.req
    d.pages.dreads.find? (fun y => y.frame == f && y.line == line) = some x →
    (d.readLeaves x ready = none → exec (.dramLineReturn chan frame line o ready) s = .next s) ∧
    ∀ (h : MemHdr) (k : BitVec 512) (data : LineData) (e : Dev), d.readLeaves x ready = some e → r.who = .host h → d.linkLive h.link = true →
    d.rankUp f = true → d.inLostBank f line = false → d.pageKey? r.g (pageOf r.line) = some k →
    x.seen.getD (d.dline f line) = { kind := .data, key := k, tweak := lineTweak r.g (pageOf r.line) line, data := data } →
    d.ncGet r.g r.line = none → (d.ncWays r.g r.line).length < 16 →
    let answer (y : LineData) (p : Bool) : Out := { msg := .memData h y p (r.op == .readE), source := (d.link h.link).pbr }
    (o.first = .clean →
      ∃ t, exec (.dramLineReturn chan frame line o ready) s = .next { s with dev := t } ∧
        t.out = d.out ++ [answer data false] ∧ t.pages.dreads = e.pages.dreads ∧
        (∀ u, u ≠ dramKey f line → mget t.mem.dram u = mget d.mem.dram u) ∧ (x.seen = none → t.mem = d.mem) ∧
        (x.seen = none → peView (d.entry r.g (pageOf r.line)) = 1 → t.ncGet r.g r.line = some { data := data, cls := r.cls })) ∧
    (o.first = .uncorrectable → o.second = .uncorrectable → o.readBack = .clean → x.seen = none →
      ∃ t y, exec (.dramLineReturn chan frame line o ready) s = .next { s with dev := t } ∧ answer y true ∈ t.out ∧
        t.dline f line = { kind := .poison } ∧ t.faults.total = d.faults.total + 1 ∧
        ∀ u, u ≠ dramKey f line → mget t.mem.dram u = mget d.mem.dram u)

/-- R89, R93, R94, R147, R149, R207, R208, R224: a map line whose entries are sound enters the map cache, and the requests that joined its fill go on in order, or wait for
a way; a sub-block that its unit reads answers the host that waits for one of its lines, and the line enters the near cache; both wait behind a retrain or a repair, a
sub-block without a unit for one. -/
def Sys2Proof.Claims.FillsAndSubBlocks : Prop :=
  ∀ (s : State), s.dev.inRun →
    let d := s.dev
    (∀ idx (o : LineObs), d.mapWaits idx = true → exec (.mapFillReturn idx o) s = .next s) ∧
    (∀ idx (o : LineObs) (f : Fill) (r : Req) (rest : List Req), o.first = .clean → d.mapWaits idx = false → d.mapDead idx = false →
      d.pages.fills.find? (fun y => y.lineIdx == idx) = some f → f.waiting = r :: rest →
      (∀ gp ∈ d.linePages idx, peCorrupt (d.entry gp.1 gp.2) = false ∧ peCommit (d.entry gp.1 gp.2) = true) →
      let e := (d.countMap idx r.cls).onPages fun p => { p with fills := p.fills.filter fun y => y.lineIdx != idx }
      exec (.mapFillReturn idx o) s = .next { s with dev := match e.mapInsert idx r.g with
        | some k => (k.againAll 1 (r :: rest)).after
        | none => (e.onPages fun p => { p with mapWait := p.mapWait ++ r :: rest }).after }) ∧
    (∀ g page sub (o : SubObs), d.pageWaits g page = true ∨ d.subHasUnit (g, page, sub) = false →
      exec (.subBlockDecompressed g page sub o) s = .next s) ∧
    (∀ g page sub (o : SubObs) (r : Req) (h : MemHdr) (x : Header) (ls : List LineData), d.Still → o.firstOk = true → o.header.first = .clean →
      d.pageWaits g page = false → d.subHasUnit (g, page, sub) = true →
      d.pages.sreads.filter (fun y => y.g == g && y.page == page && y.sub == sub) = [⟨g, page, sub, r⟩] → r.who = .host h →
      d.linkLive h.link = true → r.g = g → r.line / 64 = page → r.line % 64 / 16 = sub → peView (d.entry g page) = 2 → d.galleryOf g page = some x →
      (x.desc sub).zero = false → x.poison.getLsbD (r.line % 64) = false → d.subData g page x sub = some ls →
      (∀ e ∈ (locFrame (peLoc (d.entry g page)), locLine (peLoc (d.entry g page))) :: (d.subSectors g page x sub).flatMap sectorLines,
        (d.peek e.1 e.2).isSome = true ∧ (d.dline e.1 e.2).errs = []) →
      d.ncGet g r.line = none → (d.ncWays g r.line).length < 16 →
      let data := ls.getD (r.line % 16) 0
      ∃ t, exec (.subBlockDecompressed g page sub o) s = .next { s with dev := t } ∧
        t.out = d.out ++ [{ msg := .memData h data false (r.op == .readE), source := (d.link h.link).pbr }] ∧ t.mem.dram = d.mem.dram ∧
        t.ncGet g r.line = some { data := data, cls := r.cls } ∧
        t.pages.sreads = d.pages.sreads.filter fun y => !(y.g == g && y.page == page && y.sub == sub))

/-- DRAM lines, map lines and sub-blocks come back: LinesReturn, FillsAndSubBlocks. -/
def Obligations.LinesComeBack : Prop := Claims.LinesReturn ∧ Claims.FillsAndSubBlocks

/-- R31, R149, R150, R212 to R215: the end of a soft repair lets the next one begin, writes its row back and is CORRECTED where it took, and retires the frame where it did
not; a promotion whose gallery reads commits, which makes its page hot in its frame, frees the gallery and lets the held requests go on; a recompression's merged write completes when its record
commits, or is taken up again where the sub-block cannot be read after all; the new header is in its place, and the sectors that the stream no longer uses are free, when its writes are done,
which lie in its own sectors alone. -/
def Sys2Proof.Claims.RepairsAndPromotions : Prop :=
  ∀ (s : State), s.dev.inRun →
    let d := s.dev
    (∀ c r, (d.chan c).repair = some r →
      let k := d.chan c
      let at_ := d.coord r.frame r.line
      let e := ((((d.setChan c { k with
        repair := k.repairNext.head?, repairNext := k.repairNext.drop 1, sub := if k.repairNext.isEmpty then 0 else 4,
        rows := merase k.rows at_.cell, softRun := k.softRun + 1, fault := k.fault ||| 0x02#8 }).owes 4 c).rowBack r).issueOwed c at_.rank)
      exec (.softRepairComplete c true) s = .next ({ s with dev := (e.raise {
        code := 0x1004, cls := 1, unit := 0x100 + c, att := 2, akind := 3, addr := r.frame, detail := dramDetail c at_ (2 ^ r.dev) }).after } : State).payDue ∧
      exec (.softRepairComplete c false) s =
        .next ({ s with dev := (e.retireFrame r.frame r.line (e.pageAt r.frame)).after } : State).payDue) ∧
    (∀ g page p obs x e, d.promoOf g page = some p → d.pageWaits g page = false →
      let cls := ((p.held.head?).map Req.cls).getD 0
      (d.onPages fun q => { q with promos := q.promos.filter fun y => !(y.g == g && y.page == page) }).readGallery g page cls obs = (x, e) →
      (∀ y, x = some y → e.rebuilding g page = false → exec (.promotionCommit g page obs) s = .next { s with dev :=
        (((((e.spreadGallery g page p.frame y cls).turn g page 1 0 p.frame).freeGallery g page p.src).againAll 3 p.held).after) }) ∧
      (x = none → e.covered g = false → exec (.promotionCommit g page obs) s = .next { s with dev :=
        (((((e.headerBad g page).hold g (frameChan p.frame) (-1)).freeFrame p.frame).againAll 3 p.held).after) })) ∧
    (∀ g page rc r m old wp obs ok e, d.recompOf g page = some rc → rc.committed = false → d.pageWaits g page = false → rc.merged = [r] →
      r.op = .write m old wp → d.recompRead rc (obs.getD 0 {}) = (ok, e) →
      let k := e.onPages fun q => { q with recomps := q.recomps.map fun y => if y.g = g ∧ y.page = page then { y with committed := true } else y }
      let data := rc.lines.getD (r.line % 64 % 16) 0
      let poison := rc.header.poison.getLsbD (r.line % 64)
      exec (.mapUpdateRecordCommit g page obs) s = .next { s with dev :=
        if ok then ((((k.ncKeep r (m == fullMask) data poison).settle r (m == fullMask) wp data poison).bump 17).after)
        else (e.dropRecomp g page 3).after }) ∧
    (∀ g page rc key, d.Still → d.recompOf g page = some rc → rc.committed = true → rc.later = [] →
      d.pages.sreads.any (fun y => y.g == g && y.page == page) = false → d.pageKey? g page = some key →
      let gone := rc.old.filter fun u => !rc.sumps.contains u
      ∃ t, exec (.recompressionWritesDone g page) s = .next { s with dev := t } ∧
        t.pages.recomps = d.pages.recomps.filter (fun y => !(y.g == g && y.page == page)) ∧
        t.pages.sump = d.pages.sump.filter (fun u => !gone.contains u) ∧
        t.dline (locFrame rc.loc) (locLine rc.loc) = { kind := .data, key := key, tweak := headerTweak g page, data := rc.header.data } ∧
        ∀ f n, n < 64 → (f, n) ≠ (locFrame rc.loc, locLine rc.loc) →
          (∀ u ∈ (rc.header.desc rc.sub).sectors ++ rc.sumps, (f, n) ∉ sectorLines u) → t.dline f n = d.dline f n)

/-- R48, R97, R107, R109, R132: a write that waits for a frame past its limit is dropped: CONTAINED 0x8003 the first time since its grotto had capacity, an EVENT
after that; the zeroer makes a pending frame zeroed and every line of it the zero mark, and no other frame's, but waits while the channel is in idle self-refresh; an
offered extent lapses. -/
def Sys2Proof.Claims.FramesAndOffers : Prop :=
  ∀ (s : State), s.dev.inRun →
    let d := s.dev
    (∀ n r x, d.pages.frameWait[n]? = some r → r.expires = true → d.grotto? r.g = some x →
      let e := (d.onPages fun p => { p with
        frameWait := p.frameWait.eraseIdx n ++ p.creditWait.take 1, creditWait := p.creditWait.drop 1 }).setGrotto r.g { x with
          discarded := true }
      (x.discarded = false → exec (.frameWaitLimit n) s = .next { s with dev := ((e.bump 15).raise {
        code := 0x8003, cls := 3, unit := 0x380, akind := 1, addr := x.mapBase * 4096 + r.line * 64, grotto := some r.g }) }) ∧
      (x.discarded = true → exec (.frameWaitLimit n) s = .next { s with dev :=
        ((e.bump 15).event 0x380 1 (x.mapBase * 4096 + r.line * 64) 0 (some r.g)) })) ∧
    (∀ c i, (d.chan c).sub = 2 → exec (.zeroerFrameDone c i) s = .next s) ∧
    (∀ c i, ivMem i (d.pool c).pending = true → d.frameOk (mkFrame c i) = true → (d.chan c).sub ≠ 2 → d.frameWaits (mkFrame c i) = false →
      d.trainFrame (mkFrame c i) = false → d.Still →
      ∃ t, exec (.zeroerFrameDone c i) s = .next { s with dev := t } ∧ (t.pool c).zeroed = (d.pool c).zeroed ++ [i] ∧
        (t.pool c).pending = ivErase i (d.pool c).pending ∧ (∀ n, n < 64 → t.dline (mkFrame c i) n = {}) ∧
        (∀ f n, n < 64 → f ≠ mkFrame c i → t.dline f n = d.dline f n) ∧ t.pages = d.pages ∧ t.slices = d.slices ∧ t.queues = d.queues ∧ t.keys = d.keys) ∧
    (∀ g x a b n, d.grotto? g = some x → x.attaches.find? x.owns = some a →
      x.offered.find? (fun e => a.base + e.1 * unitBytes == a.base + b * unitBytes) = some (b, n) →
      exec (.extentOfferLapse g (a.base + b * unitBytes)) s = .next { s with dev :=
        (((d.setGrotto g { x with offered := x.offered.erase (b, n) }).event (0x10 + x.ownerLink) 1
          (x.mapBase * 4096 + b * unitLines * 64) (x.ownerLd % 16 + n * 2 ^ 32) (some g)).dcLog g .capacityReleased (b, n)) })

/-- Repairs, promotions, recompressions, frames and offers: RepairsAndPromotions, FramesAndOffers. -/
def Obligations.PagesChange : Prop := Claims.RepairsAndPromotions ∧ Claims.FramesAndOffers

/-- R96, R125, R259: what these commands do to memory keeps its canonical form: a frame zeroed, a line crawled, a soft repair ended, a channel trained, a
guest line written, and BOOT from OFF and the loss of VDD_LAMP, which empty it. -/
def Obligations.MemoryKeepsItsForm : Prop :=
  ∀ (s t : State) (c i n p : Nat) (o : LineObs) (ok : Bool) (r : TrainReport), s.dev.mem.wf = true →
    (exec (.zeroerFrameDone c i) s = .next t ∨ exec (.crawlLine c i n o) s = .next t ∨ exec (.softRepairComplete c ok) s = .next t ∨
      exec (.trainingComplete c r) s = .next t ∨ exec (.guestLineWrite p) s = .next t ∨ exec (.bootFromOff n) s = .next t ∨
      exec .vddLampLoss s = .next t) → t.dev.mem.wf = true

/-- R128 to R134, R136, R149: a refresh that falls due is done with what is owed when its rank is idle, and closes its rows; it is postponed up to the limit while the rank is
busy or a row of it is repaired, and done at the limit; a hot or cooled channel changes its interval first; the floor forces eight and is DEGRADED 0x100A; an idle channel with nothing queued,
waiting, repaired or retrained does what it owes and enters self-refresh, and leaves it when scrub work owed reaches its bound. -/
def Sys2Proof.Claims.Refreshes : Prop :=
  ∀ (s : State) (c rank : Nat) (busy : Bool), s.dev.inRun → (s.dev.chan c).state = 3 →
    let d := s.dev
    let x := d.chan c
    let count (k : Nat) : Nat := 256 + 16 * c + k
    (x.sub ≠ 1 → x.sub ≠ 2 → x.sub ≠ 3 → rank < x.ranks → x.ranksOut.contains rank = false →
      let e := d.applyHot c
      let y := e.chan c
      let owed := mgetD y.owed rank 0
      let top := min (if y.hot then 4 else 8) ((y.interval - 1) / max 1 y.trfc)
      let held := busy || e.rankBusy c rank || e.rankMends c rank
      (held = false → exec (.refreshDue c rank busy) s = .next { s with dev :=
        ((e.setChan c { y.closeRank rank with owed := mput y.owed 0 rank 0 }).bump (count 5) (owed + 1)) }) ∧
      (held = true → owed < top →
        exec (.refreshDue c rank busy) s = .next { s with dev := ((e.setChan c { y with owed := mput y.owed 0 rank (owed + 1) }).bump (count 6)) }) ∧
      (held = true → top ≤ owed → exec (.refreshDue c rank busy) s = .next { s with dev :=
        (((e.setChan c { y.closeRank rank with owed := mput y.owed 0 rank 1 }).bump (count 5) owed).bump (count 6)) }) ∧
      (x.hotNext = none → e = d) ∧
      ∀ h, x.hotNext = some h → y.hot = h ∧ y.interval = (if h then 975 else 1950) ∧ y.hotNext = none) ∧
    (x.sub ≠ 2 → x.sub ≠ 3 → rank < x.ranks → x.ranksOut.contains rank = false →
      exec (.refreshFloorTrip c rank) s = .next { s with dev :=
        (((d.setChan c { x.closeRank rank with owed := mput x.owed 0 rank 0, fault := x.fault ||| 0x80#8 }).bump (count 5) 8).raise {
          code := 0x100A, cls := 2, unit := 0x100 + c }) }) ∧
    (x.sub = 0 → x.repair = none → x.retrain = [] → d.chanBusy c = false →
      let n := (x.owed.map fun o => o.2).sum
      let e := d.setChan c { x with sub := 2, owed := [], rows := [] }
      exec (.selfRefreshEntry c) s = .next { s with dev := ((if n = 0 then e else e.bump (count 5) n).bump (count 7)) }) ∧
    (x.sub = 0 → x.repair.isSome = true ∨ x.retrain ≠ [] ∨ d.chanBusy c = true → exec (.selfRefreshEntry c) s = .next s) ∧
    (x.sub = 2 → exec (.scrubOwedExit c) s = .next { s with dev := (d.setChan c { x with sub := 0 }) })

/-- R135 to R137, R141, R146 to R148: recalibration counts, or asks for a retrain with CORRECTED 0x1008 where the drift is too great; a retrain succeeds, with new patterns in the training
frames and its record owed to the Cairn store, is tried again once, and then takes its rank out; a temperature above 95 °C is DEGRADED 0x100B once, above 85 °C makes the channel hot at its
next refresh, else cools it: a hot channel cools after two readings of 82 °C or less in succession; a CA parity error that the repeat cures is CORRECTED 0x1007, and one that it does not cure takes
its DIMM out. -/
def Sys2Proof.Claims.ChannelHealth : Prop :=
  ∀ (s : State) (c rank : Nat), s.dev.inRun → (s.dev.chan c).state = 3 →
    let d := s.dev
    let x := d.chan c
    let rest := x.retrain.filter fun e => e.1 != rank
    (x.sub ≠ 2 → x.sub ≠ 3 → rank < x.ranks → x.ranksOut.contains rank = false →
      exec (.recalibration c rank true) s = .next { s with dev := (d.bump (256 + 16 * c + 13)) } ∧
      ((x.retrain.any fun e => e.1 == rank) = false →
        exec (.recalibration c rank false) s = .next { s with dev :=
          (((d.setChan c { x.closeRank rank with retrain := x.retrain ++ [(rank, 0)], fault := x.fault ||| 0x08#8 }).bump (256 + 16 * c + 13)).raise {
            code := 0x1008, cls := 1, unit := 0x100 + c, att := 1, detail := rank * 2 ^ 55 }) })) ∧
    (∀ n, x.retrain.find? (fun e => e.1 == rank) = some (rank, n) →
      exec (.rankRetrainComplete c rank true) s = .next ({ s with dev :=
        ((((d.setChan c { x with retrain := rest }).withPatterns c).owes 5 c).after) } : State).payDue ∧
      exec (.rankRetrainComplete c rank false) s = .next ({ s with dev :=
        (if n = 0 then d.setChan c { x with retrain := rest ++ [(rank, 1)] }
         else (d.setChan c { x with retrain := rest }).loseRanks c [rank]) } : State).payDue) ∧
    (∀ (t : Int) (fast : Bool), x.hot = false → x.hotNext = none →
      (95 < t → x.over95 = false → exec (.temperatureRead c t fast) s = .next { s with dev :=
        ((d.setChan c { x with
          temp := t, cool := 0, hotNext := some true, over95 := true, fault := x.fault ||| 0x40#8 }).raise {
            code := 0x100B, cls := 2, unit := 0x100 + c }) }) ∧
      (t ≤ 95 → 85 < t ∨ fast = true → exec (.temperatureRead c t fast) s = .next { s with dev :=
        (d.setChan c { x with temp := t, cool := 0, hotNext := some true, over95 := false }) }) ∧
      (t ≤ 85 → exec (.temperatureRead c t false) s = .next { s with dev := (d.setChan c { x with temp := t, over95 := false }) })) ∧
    (∀ (t : Int), x.hot = true → t ≤ 85 → exec (.temperatureRead c t false) s = .next { s with dev :=
      (d.setChan c { x with
        temp := t, cool := if t ≤ 82 then x.cool + 1 else 0, over95 := false,
        hotNext := if t ≤ 82 ∧ 1 ≤ x.cool then some false else x.hotNext }) }) ∧
    (∀ slot,
      let e := (d.setChan c { x with fault := x.fault ||| 0x01#8 }).bump (256 + 16 * c + 12)
      exec (.caParityError c slot false) s = .next { s with dev := (e.raise { code := 0x1007, cls := 1, unit := 0x100 + c, att := 2 }) } ∧
      exec (.caParityError c slot true) s = .next { s with dev := (e.loseDimm c slot) })

/-- Refresh, recalibration, retraining and temperature: Refreshes, ChannelHealth. -/
def Obligations.ChannelsAreKept : Prop := Claims.Refreshes ∧ Claims.ChannelHealth

/-- R116 to R119, R141 to R143, R151: in a BOOT from nothing, training of a channel with one supported DIMM, or two alike, and no bad rank puts it into service at the
fastest speed that the DIMMs have, two of them at 6,400 MT/s at most, with every rank and with the soft repairs that its repair map records; its patterns stand in its training frames and firmware owes its record. A
DIMM of another make leaves the channel out with DEGRADED 0x1009; an empty channel stays empty; training that ends with no channel in service is DEGRADED 0x1009 too. -/
def Sys2Proof.Claims.TrainingFindsChannels : Prop :=
  ∀ (s : State) (c : Nat) (a : Dimm), s.dev.power.mode = .boot → s.dev.power.bootKind = 0 ∨ s.dev.power.bootKind = 3 → s.dev.power.trstHigh = false → c < 16 →
    s.dev.fwUp = true → (s.dev.chan c).state = 0 → (s.dev.chan c).checked = false →
    let d := s.dev
    let x : Chan := { d.chan c with checked := true }
    let soft := s.trust.softRepairs c
    let made (u : Dimm) : Prop := u.width = 4 ∧ u.checkDev = 2 ∧ u.density ∈ [16, 24, 32] ∧ u.pkgRanks ∈ [1, 2] ∧ u.stack ∈ [1, 2, 4]
    let fastest (l : List Nat) (top v : Nat) : Prop := v ∈ l ∧ v ≤ top ∧ ∀ u ∈ l, u ≤ top → u ≤ v
    let up (b : Option Dimm) (n v : Nat) : State := ({ s with dev := ((((d.setChan c { x with
        state := 3, sub := 0, recordOk := true, slot0 := some a, slot1 := b, in0 := true, in1 := b.isSome, ranks := n, spd := (some a, b),
        speed := v, trfc := a.trfc, frames := n * (a.density * 2 ^ 19), softBoot := soft.length,
        usedRepair := soft, ranksOut := [], fault := 0 }).withPatterns c).owes 5 c).republish) } : State).payDue
    (∀ v, made a → fastest [8800, 8000, 7200, 6400, 5600, 4800] a.speed v →
      exec (.trainingComplete c { slot0 := some a }) s = .next (up none (a.pkgRanks * a.stack) v)) ∧
    (∀ b v, made a → made b → sameDimm a b = true → fastest [6400, 5600, 4800] (min a.speed b.speed) v →
      exec (.trainingComplete c { slot0 := some a, slot1 := some b }) s = .next (up (some b) (2 * (a.pkgRanks * a.stack)) v)) ∧
    (a.width ≠ 4 → exec (.trainingComplete c { slot0 := some a }) s = .next ({ s with dev :=
      (((d.setChan c { x with state := 1, slot0 := some a, slot1 := none }).raise { code := 0x1009, cls := 2, unit := 0x100 + c }).trainEnd) } : State).payDue) ∧
    exec (.trainingComplete c {}) s = .next ({ s with dev := ((d.setChan c x).trainEnd) } : State).payDue ∧
    ((∀ k, k < 16 → k ≠ c → (d.chan k).checked = true ∧ (d.chan k).state ≠ 2) → (∀ e ∈ d.chans, e.2.state ≠ 3) →
      (d.setChan c x).trainEnd = (d.setChan c x).raise { code := 0x1009, cls := 2, unit := 0 })

/-- R132, R147, R149, R481 to R483: a crawl pass starts when it is due; it reads the lines of its channel in frame order, and ends with the last one; a line of a frame that
holds nothing and that is uncorrectable twice retires the frame with CORRECTED 0x1006. It waits while the channel is in idle self-refresh, and behind a retrain or a repair. -/
def Sys2Proof.Claims.CrawlPasses : Prop :=
  ∀ (s : State) (c i n : Nat) (o : LineObs), s.dev.inRun →
    let d := s.dev
    let x := d.chan c
    let f := mkFrame c i
    x.state = 3 →
    (x.crawling = false → (∀ t, x.crawlStart = some t → t + 86399999 ≤ d.timeMs) ∨ x.owedWork = true →
      exec (.crawlPassStart c) s = .next { s with dev := (d.setChan c { x with
        crawling := true, crawlDone := 0, crawlStart := some d.timeMs, owedWork := false }) }) ∧
    (x.sub = 2 ∨ d.lineWaits f n = true → exec (.crawlLine c i n o) s = .next s) ∧
    (d.Still → x.crawling = true → x.sub ≠ 2 → d.lineWaits f n = false → i < x.frames → x.frames ≤ 2 ^ 28 → n < 64 → x.lostBanks = [] → x.crawlDone ≤ i * 64 + n →
      d.mem.retired.contains f = false → d.pageAt f = none → d.galleryLine f n = none → d.resvFrames ≤ i → (d.dline f n).errs = [] →
      (o.first = .clean →
        ∃ t, exec (.crawlLine c i n o) s = .next { s with dev := t } ∧ t.mem = d.mem ∧ (t.chan c).crawlDone = i * 64 + n + 1 ∧
          (t.chan c).crawling = !(d.passEnds c i n) ∧ t.pages = d.pages ∧ t.faults = d.faults) ∧
      (o.first = .uncorrectable → o.second = .uncorrectable →
        ∃ t, exec (.crawlLine c i n o) s = .next { s with dev := t } ∧ f ∈ t.mem.retired ∧ t.mem.dram = d.mem.dram ∧
          (t.chan c).crawlDone = i * 64 + n + 1 ∧ (t.pool c).zeroed = (d.pool c).zeroed.filter (· != i)))

/-- Training and the crawl: TrainingFindsChannels, CrawlPasses. -/
def Obligations.TrainingAndCrawl : Prop := Claims.TrainingFindsChannels ∧ Claims.CrawlPasses

/-- R209, R249 to R254, R256: a move to a frame. Its copy is repeated while more than 16 lines were written, at most twice, at the cost of the migration budget; a warm source is read and spread over the
frame; then writes are held; the commit names the new
frame in the entry and ends the move; copy and commit wait for lines in D and behind a retrain or a repair; a move that holds writes too long is given up with status 0x0107, and one whose gallery cannot be read too. -/
def Sys2Proof.Claims.MovesEnd : Prop :=
  ∀ (s : State) (n f : Nat) (m : Move) (obs : List SubObs) (lines : List (Nat × LineObs)), s.dev.inRun →
    let d := s.dev
    let w := d.entry m.g m.page
    d.pages.moves.find? (fun x => x.mover == n) = some m → m.dst = .frame f →
    (d.pageLocked m.g m.page = true ∨ d.pageWaits m.g m.page = true →
      exec (.moveCopyDone n obs lines) s = .next s ∧ exec (.moveCommit n) s = .next s) ∧
    (m.phase = 2 → d.pageLocked m.g m.page = false → d.pageWaits m.g m.page = false →
      (peSrc w = 1 → 16 < popCount m.dirty.toNat 64 → m.rounds < 2 →
        exec (.moveCopyDone n obs lines) s =
          .next { s with dev := ((d.setMove { m with dirty := 0, rounds := m.rounds + 1 }).moverBytes (128 * popCount m.dirty.toNat 64)) }) ∧
      (peSrc w ≠ 2 → peSrc w ≠ 1 ∨ popCount m.dirty.toNat 64 ≤ 16 ∨ 2 ≤ m.rounds →
        exec (.moveCopyDone n obs lines) s = .next { s with dev := (d.setMove { m with phase := 3 }) }) ∧
      (peSrc w = 2 → ∀ x e, d.readGallery m.g m.page d.flow.cls obs = (x, e) →
        (∀ y, x = some y → e.rebuilding m.g m.page = false →
          let k := e.moverLines m.g m.page (some y)
          exec (.moveCopyDone n obs lines) s = .next { s with dev := ((k.2.spreadLines m f y k.1).setMove { m with phase := 3 }) }) ∧
        (x = none → exec (.moveCopyDone n obs lines) s = .next { s with dev := (e.sourceBad m false) }))) ∧
    (m.phase = 3 → m.acks = 0 → d.pageLocked m.g m.page = false → d.pageWaits m.g m.page = false →
      exec (.moveCommit n) s =
        .next { s with dev := ((((d.moverBytes 4096).fillFrame m f w).turn m.g m.page 1 0 f).moveDone m (peSrc w) (peLoc w)) }) ∧
    (m.phase ≠ 2 ∨ peSrc w ≠ 1 → exec (.moveHoldDeadline n) s = .next { s with dev := ((((d.revert m).moveResult m 0x0107).bump 1312).againAll 3
      m.held).after })

/-- R239 to R243, R245, R249: the sweep takes the next map line of the active grottos in map order, page by page, while its budget lasts, and no other; an epoch closes its lists for the policy
run and starts new ones; a pressure run is placed again while writes wait for frames; a budget window starts with nothing spent but what movers took beyond their allowance, and a fetch that
waits for its port's allowance goes. -/
def Sys2Proof.Claims.FlowstoneRuns : Prop :=
  ∀ (s : State), s.dev.inRun →
    let d := s.dev
    (∀ idx, d.sweepNext = some idx → d.flow.sweepUsed + 64 ≤ min (d.flow.sweepBud * 250) 16000 →
      (mget d.pages.cache idx).isSome = true ∨ d.mapWaits idx = false →
      let e := d.sweepRead idx
      exec (.sweepLineVisit idx) s = .next { s with dev :=
        ((((e.linePages idx).foldl (fun (e : Dev) gp => e.sweepPage gp.1 gp.2) e).bump 1316 64).onFlow fun k => { k with
          sweepUsed := k.sweepUsed + 64, sweepPos := idx + 1 }) }) ∧
    (∀ idx, d.sweepNext ≠ some idx ∨ min (d.flow.sweepBud * 250) 16000 < d.flow.sweepUsed + 64 → exec (.sweepLineVisit idx) s = .next s) ∧
    (∃ t, exec .epochBoundary s = .next { s with dev := t } ∧ t.flow.epoch = d.flow.epoch + 1 ∧ t.flow.promote = [] ∧ t.flow.demote = [] ∧
      t.flow.spill = [] ∧ t.flow.histo = [] ∧ t.flow.closedP = d.flow.promote ∧ t.flow.closedD = d.flow.demote ∧
      t.flow.closedS = d.flow.spill ∧ t.flow.reason = 0 ∧ t.flow.dropP = 0 ∧ t.flow.dropD = 0 ∧ t.flow.dropS = 0) ∧
    (d.pages.frameWait = [] → exec .pressureRunRepeat s = .next s) ∧
    (d.pages.frameWait ≠ [] →
      let t := d.pressureRun
      exec .pressureRunRepeat s = .next { s with dev := t.after } ∧ t.flow.pressureAt = some d.timeMs ∧ t.flow.reason = 1 ∧
        t.flow.closedP = d.flow.promote ∧ t.pages.frameWait = d.pages.frameWait ∧ d.pages.plans <+: t.pages.plans ∧ t.mem.dram = d.mem.dram) ∧
    (d.Still → d.pages.plans = [] → d.forcedPlans = [] → d.compactable = [] →
      (d.ev.p0.txq = [] → d.ev.p1.txq = [] →
        exec .budgetWindow s = .next { s with dev := (d.onFlow fun k => { k with
          sweepUsed := 0, migUsed := k.migUsed - d.migCeiling, spillUsed0 := 0, spillUsed1 := 0 }) }) ∧
      (∀ tag h n, d.ev.p0.txq = [.guestRead tag h n] → d.ev.p0.maySend = true → d.ev.p0.helloGot = true → d.ev.p1.txq = [] → 1 ≤ d.flow.spillBud →
        ∃ t : Dev, exec .budgetWindow s = .next { s with dev := t } ∧ t.ev.p0.txq = [] ∧ t.flow.spillUsed0 = 64 ∧ t.flow.spillUsed1 = 0 ∧
          t.out = d.out ++ [{ msg := .flit 0 1 d.ev.p0.nextSeq.toNat d.ev.p0.ack d.ev.p0.freed.toNat false [.guestRead tag h n] }]))

/-- R500, R501, R503, R505, R507, R508: at the end of a window every class is charged nothing and takes its effective guarantee for the next one, and one has missed it that was backlogged with budget left or had a late
request above its target; at the end of a period a class is marked as having missed beyond its threshold. -/
def Sys2Proof.Claims.ClassWindows : Prop :=
  ∀ (s : State) (b late : BitVec 16) (many : List Nat), s.dev.inRun →
    let d := s.dev
    (∃ t, exec (.classWindowEnd b late many) s = .next { s with dev := t } ∧ t.qos.windows = d.qos.windows + 1 ∧ t.qos.scrubUsed = [] ∧ t.mem = d.mem ∧
      t.faults = d.faults ∧ ∀ k, k < 16 →
        let x := d.class k
        let miss := (b.getLsbD k && decide (x.charged < 250 * x.cur)) || (late.getLsbD k && decide (x.target ≠ 0))
        t.class k = { x with charged := 0, cur := x.eff, missedN := if miss then x.missedN + 1 else x.missedN }) ∧
    (∃ t, exec .classPeriodEnd s = .next { s with dev := t } ∧ t.qos.windows = 0 ∧ t.mem = d.mem ∧ ∀ k, k < 16 →
      let x := d.class k
      t.class k = { x with missedN := 0, missed := x.missed || decide (x.thresh < x.missedN) })

/-- Moves, sweeps, epochs and class windows: MovesEnd, FlowstoneRuns, ClassWindows. -/
def Obligations.FlowstoneAndClasses : Prop := Claims.MovesEnd ∧ Claims.FlowstoneRuns ∧ Claims.ClassWindows

/-! ### Evoil -/

/-- R432: the receiver sends a NAK that names E for a flit whose CRC fails, and for the first flit out of order since it accepted one or sent a NAK for E; no
further one for a flit out of order until it accepts E or 1 µs has passed. -/
def Obligations.NaksNameTheAwaitedFlit : Prop :=
  ∀ (s : State) (p : Nat), p < 2 → s.dev.evLive = true → (s.dev.evPort p).state = 2 →
    let d := s.dev
    let x := d.evPort p
    let nak : Out := { msg := .flit p 0 0 x.expect.toNat x.freed.toNat true [] }
    let good (f : Flit) : Prop := f.crcOk = true ∧ f.kind = 1 ∧ f.resvOk = true ∧ f.msgs.any EvMsg.bad = false ∧ f.nak = false ∧
      f.ack + 1 = x.unacked ∧ f.credit = x.limit
    (∀ f : Flit, f.crcOk = false →
      ∃ t, exec (.flit p f) s = .next { s with dev := t } ∧ t.out = d.out ++ [nak] ∧ (t.evPort p).nakSent = true) ∧
    (∀ f : Flit, good f → 1024 < (x.expect - f.seq).toNat →
      ∃ t, exec (.flit p f) s = .next { s with dev := t } ∧ (t.evPort p).nakSent = true ∧ (t.evPort p).expect = x.expect ∧
        (t.evPort p).rxq = x.rxq ∧ t.out = if x.nakSent then d.out else d.out ++ [nak]) ∧
    (∀ f : Flit, good f → f.seq = x.expect →
      ∃ t, exec (.flit p f) s = .next { s with dev := t } ∧ (t.evPort p).nakSent = false ∧ (t.evPort p).expect = x.expect + 1) ∧
    exec (.nakIntervalExpiry p) s = .next { s with dev := d.setEv p { x with nakSent := false } }

/-- R424, R425, R428 to R435, R437: a flit is what its 256 bytes say; a good payload flit that is next in its sequence is received, its ack frees the echo buffer and its credit is taken; one whose
CRC does not hold is counted and answered with a NAK that names the flit awaited; a repeated one is passed over; a NAK interval ends; with
no ack in time every flit from U on is sent again in order; a control flit carries ack and credit; a port without credit goes down. -/
def Obligations.EvoilFlits : Prop :=
  ∀ (s : State) (p : Nat), p < 2 → s.dev.evLive = true →
    let d := s.dev
    let x := d.evPort p
    (∀ (f : Flit) raw, raw ≠ [] → exec (.flit p f raw) s = exec (.flit p (readFlit raw)) s) ∧
    (∀ f : Flit, x.state = 2 → f.crcOk = true → f.kind = 1 → f.resvOk = true → f.msgs.any EvMsg.bad = false → f.nak = false →
      (f.ack - x.unacked + 1).toNat ≤ (x.nextSeq - x.unacked).toNat → (f.credit - x.limit).toNat ≤ (x.nextSeq - x.limit).toNat →
      ∃ t, exec (.flit p f) s = .next { s with dev := t } ∧ (t.evPort p).unacked = f.ack + 1 ∧ (t.evPort p).limit = f.credit ∧
        t.mem = d.mem ∧ t.grottos = d.grottos ∧ t.slices = d.slices ∧ t.pages = d.pages ∧
        (f.seq = x.expect → (t.evPort p).expect = x.expect + 1 ∧ (t.evPort p).rxq = x.rxq ++ [f.msgs] ∧ (t.evPort p).nakSent = false) ∧
        (1 ≤ (x.expect - f.seq).toNat → (x.expect - f.seq).toNat ≤ 1024 → (t.evPort p).expect = x.expect ∧ (t.evPort p).rxq = x.rxq)) ∧
    (∀ f : Flit, x.state = 2 → f.crcOk = false →
      ∃ t, exec (.flit p f) s = .next { s with dev := t } ∧ t.evPort p = { x with fault := x.fault ||| 0x01#8, nakSent := true } ∧
        t.out = d.out ++ [{ msg := .flit p 0 0 x.expect.toNat x.freed.toNat true [] }] ∧ t.mem = d.mem ∧ t.slices = d.slices) ∧
    exec (.nakIntervalExpiry p) s = .next { s with dev := d.setEv p { x with nakSent := false } } ∧
    (∀ ms rest, x.state = 2 → x.echo = (ms, 0) :: rest → x.retrainCause ≠ some x.unacked →
      ∃ t, exec (.ackTimeout p) s = .next { s with dev := t } ∧
        t.evPort p = { x with echo := (ms, 1) :: rest, fault := x.fault ||| 0x02#8 } ∧
        t.out = d.out ++ x.echo.zipIdx.map (fun e =>
          ({ msg := .flit p 1 (x.unacked + BitVec.ofNat 12 e.2).toNat x.ack x.freed.toNat false e.1.1 } : Out)) ∧ t.mem = d.mem) ∧
    (x.state = 2 →
      ∃ t, exec (.controlInterval p) s = .next { s with dev := t } ∧ t.out = d.out ++ [{ msg := .flit p 0 0 x.ack x.freed.toNat false [] }] ∧
        t.evPort p = x ∧ t.mem = d.mem ∧ t.slices = d.slices) ∧
    (x.state = 2 → x.txq ≠ [] → 512 ≤ (x.nextSeq - x.limit).toNat →
      exec (.creditTimeout p) s = .next { s with dev := (d.bump (evCnt p 14) d.ev.creditUs).portDown p 0x10#8 true })

/-- R421, R422, R439 to R442: a port retrains at most twice before it goes down; a retrain that completes replays the echo buffer from U on, and one that no flit caused is CORRECTED 0x5002; an idle
line takes the port down, which ends its session; an attempt, and then a link-up, makes it active in a new session that begins with the hello,
DEGRADED 0x5003 at the narrow width. -/
def Obligations.EvoilPorts : Prop :=
  ∀ (s : State) (p : Nat), p < 2 → s.dev.evLive = true →
    let d := s.dev
    let x := d.evPort p
    let quiet := d.Still ∧ d.ev.rope.state = 0 ∧ d.pages.moves = [] ∧ d.pages.fars = [] ∧ d.remotePages p = []
    let hello := EvMsg.hello 8 (BitVec.ofNat 16 d.plat.member) d.ev.pool
      (if d.ev.rope.state ≠ 0 ∧ d.ev.rope.ports.contains p then some d.ev.rope.partner else none) d.ev.rope.epoch x.session
    (x.state = 2 → x.retrains < 2 → exec (.liveness p) s = .next { s with dev := (Dev.bump (d.setEv p { x with
      state := 3, retrains := x.retrains + 1, fault := x.fault ||| 0x08#8 ||| 0x20#8 }) (evCnt p 7)) }) ∧
    (x.state = 3 → x.retrains < 2 → exec (.retrainTimeout p) s = .next { s with dev := (Dev.bump (d.setEv p { x with
      state := 3, retrains := x.retrains + 1, fault := x.fault ||| 0x20#8 }) (evCnt p 7)) }) ∧
    (x.state = 3 → 2 ≤ x.retrains → quiet → exec (.retrainTimeout p) s = .next { s with dev :=
      ((d.setEv p { x.ended with fault := x.fault ||| 0x40#8 ||| 0x80#8 }).raise { code := 0x5003, cls := 2, unit := unitEv p }) }) ∧
    (x.state = 3 → x.retrainCause = none → x.txq = [] → x.echo = [] →
      exec (.retrainComplete p) s = .next { s with dev := ((d.setEv p { x with
        state := 2, retrains := 0 }).raise { code := 0x5002, cls := 1, unit := unitEv p, att := 2 }) }) ∧
    (x.state = 3 →
      let again := x.echo.zipIdx.map fun e => ({ msg := .flit p 1 (x.unacked + BitVec.ofNat 12 e.2).toNat x.ack x.freed.toNat false e.1.1 } : Out)
      ∃ t, exec (.retrainComplete p) s = .next { s with dev := t } ∧ (t.evPort p).state = 2 ∧ d.out ++ again <+: t.out ∧ t.mem = d.mem ∧
        (x.retrainCause.isSome = true → x.txq = [] → t.out = d.out ++ again ∧
          t.evPort p = { x with
            state := 2, echo := x.echo.map fun e => (e.1, 0), fault := if x.echo = [] then x.fault else x.fault ||| 0x02#8 })) ∧
    (x.state = 2 → quiet → exec (.electricalIdleTimeout p) s = .next { s with dev := d.setEv p { x.ended with fault := x.fault ||| 0x80#8 } }) ∧
    (x.state = 0 → exec (.linkUpAttempt p) s = .next { s with dev := d.setEv p { x with state := 1 } }) ∧
    (x.state = 1 → ∀ x4 : Bool, ∃ t, exec (.evoilLinkUp p x4) s = .next { s with dev := t } ∧
      t.evPort p = { x.ended with
        state := 2, narrow := x4, nextSeq := 1, expect := 0, unacked := 0, freed := 0, limit := 0, helloSent := true, echo := [([hello], 0)] } ∧
      ({ msg := .flit p 1 0 4095 0 false [hello] } : Out) ∈ t.out ∧
      t.faults.total = d.faults.total + (if x4 then 1 else 0) ∧ t.mem = d.mem)

/-- R427, R436, R442, R447, R449, R451 to R453, R455, R457, R460: the rope's messages, each the only one of its flit: hello is kept; a mirror line is opened under the key that its page has
here and written into the mirror copy by source 161 + p, or only reported placed where there is no copy or the other port had placed it; a map change unbacks pages of the copy, erases its keys, takes or releases an extent; a placement report completes the
write that waits; a rope read, of a line or a page, is asked of the home slices; its data reaches the reader; rope control ends a rope and marks a copy. -/
def Obligations.RopeMessages : Prop :=
  ∀ (s : State) (p : Nat) (rest : List (List EvMsg)), p < 2 → s.dev.awake = true →
    let d := s.dev
    let x := d.evPort p
    let got (m : EvMsg) : Prop := x.rxq = [m] :: rest ∧ x.cur = []
    let e : Dev := d.setEv p { x with rxq := rest, freed := x.freed + 1 }
    let held (q : BitVec 32) : Dev := d.setEv p { x with rxq := rest, placing := x.placing ++ [(q, false)], held := x.held ++ [[q]], cur := [] }
    (∀ member pool rope epoch, member ∈ [0x0832#16, 0x1664#16] → got (.hello 8 member pool rope epoch x.peerSession) → d.Still →
      ∃ t, exec (.hello p) s = .next { s with dev := t } ∧ (t.evPort p).helloGot = true ∧ (t.evPort p).peerMember = member ∧
        (t.evPort p).peerPool = pool ∧ (t.evPort p).peerRope = rope ∧ (t.evPort p).peerEpoch = epoch ∧ t.mem = d.mem ∧
        t.grottos = d.grottos) ∧
    (∀ n member pool rope epoch session, n ≠ 8 ∨ member ∉ [0x0832#16, 0x1664#16] → got (.hello n member pool rope epoch session) →
      exec (.hello p) s = .next { s with dev := e.portDown p 0 true }) ∧
    (∀ m : LineMsg, got (.mirrorLine m) →
      let h := if m.rebuild then (held m.seq).bump (evCnt p 13) else held m.seq
      ((d.grotto m.grotto).copy = true → d.freshSeq p m.resent m.seq = true →
        exec (.mirrorLine p) s = .next { s with dev := ((h.again 1 {
          who := .rope p m.seq, src := 161 + p, g := m.grotto, line := m.line, cls := (d.grotto m.grotto).cls,
          op := .write fullMask (d.unsealed m) m.poison }).after) }) ∧
      ((d.grotto m.grotto).copy = false ∨ d.freshSeq p m.resent m.seq = false →
        exec (.mirrorLine p) s = .next { s with dev := h.ropePlaced p m.seq })) ∧
    (∀ n g page q,
      let y := d.grotto g
      let fresh := d.freshSeq p (d.crossed p g page) q
      let empty (k : Dev) : State := { s with dev := ((k.again 1 {
        who := .rope p q, src := 161 + p, g := g, line := page * 64, op := .unback n, cls := y.cls }).after) }
      (y.copy = false ∨ fresh = false → ∀ a : Nat, got (.mapChange a n g page q) →
        exec (.mirrorMapChange p) s = .next { s with dev := (((held q).ropePlaced p q).after) }) ∧
      (y.copy = true → fresh = true → got (.mapChange 0 n g page q) → exec (.mirrorMapChange p) s = .next (empty (held q))) ∧
      (y.copy = true → fresh = true → got (.mapChange 3 n g page q) →
        exec (.mirrorMapChange p) s = .next (empty ((held q).modGrotto g fun u => { u with
          accepted := u.accepted.filter fun e => !(decide (page / unitPages ≤ e.1 ∧ e.1 + e.2 ≤ page / unitPages + n / unitPages)) }))) ∧
      (y.copy = true → fresh = true → got (.mapChange 2 n g page q) →
        let u : Grotto := { y with accepted := y.accepted ++ [(page / unitPages, n / unitPages)] }
        exec (.mirrorMapChange p) s = .next { s with dev := ((((
          if (held q).overcommits { held q with grottos := mset d.grottos g u } then held q else (held q).setGrotto g u)).ropePlaced p q).after) }) ∧
      (y.copy = true → fresh = true → got (.mapChange 1 n g page q) → ∃ t, exec (.mirrorMapChange p) s = .next { s with dev := t } ∧
        (risingFrom 0 d.keys = true → mget t.keys (d.grotto g).keyId = none ∧ mget t.keys (d.grotto g).elasticKeyId = none) ∧
        (d.Still → t.grottos = d.grottos ∧ t.mem = d.mem))) ∧
    (∀ (q : BitVec 32) (m : EvMsg) (r : Req) (h : MemHdr), got (.placement q) → d.pages.mirrorWait = [(p, q, r)] → r.who = .host h →
      (∃ mask y np, r.op = .write mask y np) → d.linkLive h.link = true → d.ev.rope.unplaced = [(p, q, m)] → d.ev.rope.rebuilds = [] → d.ev.rope.todo = [] →
      d.slices.slotWait = [] → d.Still →
      ∃ t, exec (.placementReport p) s = .next { s with dev := t } ∧ t.out = d.out ++ [{ msg := .memCmp h, source := (d.link h.link).pbr }] ∧ t.pages.mirrorWait = [] ∧
        t.ev.rope.unplaced = [] ∧ t.mem = d.mem ∧ t.slices = d.slices) ∧
    (∀ whole tag g line, got (.ropeRead whole tag g line) →
      exec (.ropeRead p) s = .next { s with dev := (((if whole then (List.range 64).map fun i => line / 64 * 64 + i else [line]).foldl
        (fun (k : Dev) n => k.again 1 { who := .ropeRead p tag, src := 161 + p, g := g, line := n, op := .readI, cls := (d.grotto g).cls }) e).after) }) ∧
    (∀ (m : LineMsg) (f : FarReq), got (.ropeData m) → d.pages.fars = [f] → f.rope = true → f.port = p →
      f.tag = m.tag → f.req.g = m.grotto → f.req.line = m.line → (f.req.op = .readS ∨ f.req.op = .readE ∨ f.req.op = .readI) →
      let k := e.onPages fun k => { k with fars := [] }
      exec (.ropeReadData p) s = .next { s with dev :=
        (((if m.poison then k.contain 0x1003 (unitEv p) 2 m.grotto m.line 2 else k).answerRead f.req (d.unsealed m) m.poison).after) }) ∧
    (∀ g c n k0 k1, (got (.ropeControl 2 g c n k0 k1) →
        exec (.ropeControl p) s = .next ({ s with dev := (e.onRope fun r => { r with copies := merase r.copies g }) } : State).payDue) ∧
      (got (.ropeControl 3 g c n k0 k1) →
        exec (.ropeControl p) s = .next ({ s with dev := (e.onRope fun r => { r with copies := mset r.copies g r.epoch }) } : State).payDue) ∧
      (got (.ropeControl 1 g c n k0 k1) → (d.ev.rope.state = 1 ∨ d.ev.rope.state = 2) → d.Still → d.slices.slotWait = [] → d.pages.fars = [] →
        ∃ t, exec (.ropeControl p) s = .next (State.payDue { s with dev := t }) ∧ t.ev.rope.state = 3 ∧ t.ev.rope.markEpoch = d.ev.rope.epoch ∧
          t.ev.rope.wasSynced = decide (d.ev.rope.state = 1) ∧ t.ev.rope.unplaced = [] ∧ t.pages.mirrorWait = []))

/-- R259 to R263, R436, R461, R462: the messages of guest frames, each the only one of its flit: a request is granted a zeroed frame within the quota, and
refused beyond it; a release frees its frame; a line write stores the origin's ciphertext and is reported placed; a read is answered; a grant
lets the move's page go, and without a move is given back; data and placement reach what waits for them; a handle list frees what it does not name. -/
def Obligations.GuestMessages : Prop :=
  ∀ (s : State) (p : Nat) (rest : List (List EvMsg)), p < 2 → s.dev.awake = true →
    let d := s.dev
    let x := d.evPort p
    let got (m : EvMsg) : Prop := x.rxq = [m] :: rest ∧ x.cur = []
    let e : Dev := d.setEv p { x with rxq := rest, freed := x.freed + 1 }
    (∀ tag, got (.guestRequest tag) →
      (d.quota p ≤ d.guestsOf p → exec (.guestRequest p) s = .next { s with dev := e.evSend p (.guestGrant true tag 0) }) ∧
      (d.guestsOf p < d.quota p → (∃ c, c < 16 ∧ 0 < d.freeOn c) →
        (∀ c, c < 16 → 0 < d.freeOn c → ∃ i ∈ (d.pool c).zeroed, d.frameOk (mkFrame c i) = true) →
        ∃ c i t, exec (.guestRequest p) s = .next { s with dev := t } ∧ i ∈ (d.pool c).zeroed ∧ mget t.mem.guests (mkFrame c i) = some p ∧
          t.grottos = d.grottos)) ∧
    (∀ h : BitVec 33, got (.guestRelease h) → mget d.mem.guests h.toNat = some p → risingFrom 0 d.mem.guests = true → d.Still →
      ∃ t, exec (.guestRelease p) s = .next { s with dev := t } ∧ mget t.mem.guests h.toNat = none ∧
        ∀ f, f ≠ h.toNat → mget t.mem.guests f = mget d.mem.guests f) ∧
    (∀ poison zero tag h line data key tweak, got (.guestWrite poison zero tag h line data key tweak) →
      (mget d.mem.guests h.toNat = some p → line < 64 → exec (.guestLineWrite p) s = .next { s with dev :=
        ((e.dramWrite h.toNat line (if poison then .poisoned else if zero then {} else { kind := .data, key := key, tweak := tweak, data := data })
          d.flow.cls).evSend p (.guestPlaced tag)) }) ∧
      (mget d.mem.guests h.toNat ≠ some p ∨ 64 ≤ line → exec (.guestLineWrite p) s = .next { s with dev := e.event (unitEv p) })) ∧
    (∀ (tag : Nat) (h : BitVec 33) (line : Nat) (y : DLine) (f : Dev), got (.guestRead tag h line) → mget d.mem.guests h.toNat = some p → line < 64 →
      e.dramRead h.toNat line {} none d.flow.cls = (y, f) →
      exec (.guestLineRead p) s = .next { s with dev :=
        (f.evSend p (.guestData (y.kind == .poison) (y.kind == .zero) tag y.data y.key y.tweak)) }) ∧
    (∀ tag h, d.pages.fars = [] →
      (got (.guestGrant false tag h) → exec (.guestGrant p) s = .next { s with dev := e.evSend p (.guestRelease h) }) ∧
      (got (.guestGrant true tag h) → exec (.guestGrant p) s = .next { s with dev := e })) ∧
    (∀ (tag : Nat) (h : BitVec 33) (f : FarReq) (m : Move), d.pages.fars = [f] → f.rope = false → f.port = p → f.tag = tag → f.page = some (m.g, m.page) →
      d.moveOf m.g m.page = some m → m.dst = .guest p none →
      let e1 := e.onPages fun k => { k with fars := [] }
      (got (.guestGrant true tag h) → exec (.guestGrant p) s = .next { s with dev := e1.endMove m 0x0108 }) ∧
      (got (.guestGrant false tag h) → exec (.guestGrant p) s = .next { s with dev :=
        (e1.shipPage { m with dst := .guest p (some h) } p h) })) ∧
    (∀ (poison zero : Bool) (tag : Nat) (data y : LineData) (key : BitVec 512) (tweak : Nat) (f : FarReq) (bad : Bool) (g : Dev),
      got (.guestData poison zero tag data key tweak) → d.pages.fars = [f] → f.rope = false → f.place = false → f.port = p → f.tag = tag →
      f.page = none → (f.req.op = .readS ∨ f.req.op = .readE ∨ f.req.op = .readI) → f.req.who ≠ .quiet →
      (e.onPages fun k => { k with fars := [] }).deliver f.req.g (pageOf f.req.line) (lineIn f.req.line)
        (if poison then .poisoned else if zero then {} else { kind := .data, key := key, tweak := tweak, data := data }) = (y, bad, g) →
      exec (.guestLineData p) s = .next { s with dev :=
        (((if f.req.allocates then g.ncAlloc f.req.g f.req.line y bad f.req.cls else g).answerRead f.req y bad).after) }) ∧
    (∀ (tag : Nat) (f : FarReq) (m : Move), got (.guestPlaced tag) → d.pages.fars = [f] → f.rope = false → f.place = true → f.port = p → f.tag = tag →
      f.page = some (m.g, m.page) → d.moveOf m.g m.page = some m →
      exec (.guestPlaced p) s = .next { s with dev :=
        ((e.onPages fun k => { k with fars := [] }).setMove { m with acks := m.acks - 1 }) }) ∧
    (∀ hs : List (BitVec 33), (got (.handleList false hs) →
        exec (.handleList p) s = .next { s with dev := d.setEv p { x with rxq := rest, freed := x.freed + 1, handles := x.handles ++ hs } }) ∧
      (∀ f, got (.handleList true hs) →
        (d.mem.guests.filter fun u => u.2 == p && !(x.handles ++ hs).contains (BitVec.ofNat 33 u.1)) = [(f, p)] →
        exec (.handleList p) s = .next { s with dev :=
          (((d.setEv p { x with rxq := rest, freed := x.freed + 1, handles := [] }).guestFree p f).after) }))

/-! ### Power, boot and trust -/

/-- R73, R74, R192, R524 to R530, R536, R537, R539, R540, R550: an idle device in RUN enters DOZE, which narrows the links whose partners take it and leaves the
others, and leaves it at a wake; DEEP is entered with permission from an idle device, its near cache empty, its directory saved, its links in L1
where ASPM allows it and its channels in self-refresh with canaries; a wake during entry is replayed; a wake begins the exit and the exit ends in
RUN with the directory restored, a bank whose canary failed lost. A Lamp alarm, a hot DIMM and a lost power-good are noted. -/
def Obligations.DozeAndDeep : Prop :=
  ∀ s : State,
    let d := s.dev
    (d.inRun → d.idleBut none = true → risingFrom 0 d.links = true →
      ∃ t, exec .dozeEntry s = .next { s with dev := t } ∧ t.power.mode = .doze ∧ t.power.fwdOn = false ∧ t.mem = d.mem ∧
        t.queues = d.queues ∧ (∀ l, (d.link l).narrows = true → (t.link l).narrow = true) ∧
        (∀ l, (d.link l).narrows = false → t.link l = d.link l) ∧
        ∀ c, (d.chan c).state = 3 → (d.chan c).sub = 0 → (t.chan c).sub = 1 ∧ (t.chan c).owed = []) ∧
    (d.power.mode = .doze → d.power.entering = 0 →
      exec .wakeNAssert s = .next { s with dev := { d.endDoze with power := ({ d.power with
        mode := .run, wakeSrc := 4, wakeReplayed := false, wakeDetail := 0, wakeTick := d.lamp } : Power).bias } }) ∧
    (d.power.mode = .deep → d.power.entering = 0 →
      exec .wakeNAssert s = .next { s with dev := { d with power := { d.power with
        entering := 2, wakeSrc := 4, wakeReplayed := false, wakeDetail := 0, wakeTick := d.lamp } } }) ∧
    (d.inRun → exec .wakeNAssert s = .next s) ∧
    ((d.power.mode = .run ∨ d.power.mode = .doze) → d.power.entering = 0 → d.power.deepOk = true → d.idleBut none = true →
      d.dirQuiet = true → d.exitFits = true →
      exec .deepEntry s = .next { s with dev := { d with power := { d.power with entering := 1, latch := none, deepIssuer := none } } }) ∧
    (d.power.entering = 1 → d.power.deepIssuer = none → d.slices.nc = [] → d.pages.cache = [] → d.slices.saved = false → risingFrom 0 d.links = true →
      ∃ t, exec .deepEntryComplete s = .next { s with dev := t } ∧ t.power.mode = .deep ∧ t.power.fwdOn = false ∧ t.mem = d.mem ∧
        t.slices.nc = [] ∧ t.slices.dir = [] ∧ t.slices.saved = true ∧ t.power.entries = d.power.entries + 1 ∧
        (∀ l, (d.link l).up = true → (d.link l).aspm = true → (t.link l).inL1 = true) ∧
        (∀ c, (d.chan c).state = 3 → (t.chan c).sub = 3 ∧ (t.chan c).canaries = some (d.power.entries % 2)) ∧
        (d.power.latch = none → t.power.entering = 0) ∧
        (∀ src detail, d.power.latch = some (src, detail) → t.power.entering = 2 ∧ t.power.wakeSrc = src ∧ t.power.wakeDetail = detail ∧
          t.power.wakeReplayed = true)) ∧
    (d.power.mode = .deep → d.power.entering = 2 → d.late = [] → d.slices.nc = [] → (∀ e ∈ d.links, e.2.cleanup = false) → d.power.pgDropped = [] →
      d.Still →
      (∃ t, exec (.deepExitComplete []) s = .next { s with dev := t } ∧ t.power.mode = .run ∧ t.power.entering = 0 ∧ t.mem = d.mem ∧
        t.slices.dir = d.restoreDir.slices.dir ∧ (∀ l, (t.link l).inL1 = false ∧ (t.link l).narrow = false) ∧
        ∀ c, (d.chan c).sub = 3 → (t.chan c).sub = 0 ∧ (t.chan c).canaries = none) ∧
      (∀ b, d.bankLive b = true → ∃ t, exec (.deepExitComplete [b]) s = .next { s with dev := t } ∧ t.power.mode = .run ∧
        b ∈ (t.chan b.channel).lostBanks ∧ t.power.retCanary = true ∧ t.power.lostWake = 1 ∧ t.mem = d.mem)) ∧
    (∀ n, d.power.lampOn = true → n < 8 → (mgetD d.power.alarms n {}).armed = true → (mgetD d.power.alarms n {}).tick ≤ d.lamp →
      exec (.lampAlarm n) s = .next { s with dev := ((d.onPower fun p => { p with alarms := merase p.alarms n }).wake 6 n) }) ∧
    (∀ c (t : Int), (d.chan c).state = 3 → (d.chan c).sub = 3 → (d.chan c).slot0.isSome = true →
      (95 < t → d.power.mode = .hold → exec (.lampDimmWatch c 0 t) s = .next { s with dev :=
        { d.setChan c { d.chan c with crawlDue := true } with power := { d.power with retTemp := true } } }) ∧
      (t ≤ 95 → exec (.lampDimmWatch c 0 t) s = .next s) ∧
      exec (.dimmPowerGoodDrop c 0) s = .next { s with dev := { d with power := { d.power with
        retPg := true, pgDropped := d.power.pgDropped.filter (· != (c, 0)) ++ [(c, 0)] } } })

/-- R544 to R546: an estimate above the cap first ends forward bias, then withholds one eighth of issue more, with an EVENT at all of it; one at least 5 W below
gives one eighth back. A junction at 125 °C withholds all issue, at 120 °C half, below 115 °C none, each change an EVENT. -/
def Sys2Proof.Claims.PowerLimits : Prop :=
  ∀ s : State, s.dev.inRun →
    let d := s.dev
    let p := d.power
    (∀ w, w ≤ 65535 → p.cap < w →
      (p.fwdOn = true → exec (.powerEstimate w) s = .next { s with dev := { d with power := { p with estimate := w, fwdOn := false } } }) ∧
      (p.fwdOn = false → p.throttle < 7 →
        exec (.powerEstimate w) s = .next { s with dev := { d with power := { p with estimate := w, throttle := p.throttle + 1 } } }) ∧
      (p.fwdOn = false → p.throttle = 7 → exec (.powerEstimate w) s = .next { s with dev :=
        (({ d with power := { p with estimate := w, throttle := 8 } } : Dev).event 0x3A3) }) ∧
      (p.fwdOn = false → p.throttle = 8 → exec (.powerEstimate w) s = .next { s with dev := { d with power := { p with estimate := w } } })) ∧
    (∀ w, w ≤ 65535 → w ≤ p.cap → p.junction ≤ 100 + 64 →
      exec (.powerEstimate w) s = .next { s with dev := { d with power := { p with
        estimate := w, throttle := if w + 5 ≤ p.cap then p.throttle - 1 else p.throttle, biasHot := false,
        fwdOn := p.fwdOk && decide (w < p.cap) } } }) ∧
    (∀ t : Int, 125 ≤ t → t ≤ 191 → p.hotLimit ≠ 8 →
      exec (.junctionSensorRead t) s = .next { s with dev :=
        (({ d with power := { p with junction := (t + 64).toNat, hotLimit := 8, biasHot := true, fwdOn := false } } : Dev).event 0x3A1) }) ∧
    (∀ t : Int, 120 ≤ t → t < 125 → p.hotLimit = 0 →
      exec (.junctionSensorRead t) s = .next { s with dev :=
        (({ d with power := { p with junction := (t + 64).toNat, hotLimit := 4, biasHot := true, fwdOn := false } } : Dev).event 0x3A1) }) ∧
    (∀ t : Int, -64 ≤ t → t ≤ 100 → p.hotLimit = 0 →
      exec (.junctionSensorRead t) s = .next { s with dev := { d with power := { p with
        junction := (t + 64).toNat, biasHot := false, fwdOn := p.fwdOk && decide (p.estimate < p.cap) } } })

/-- R17, R480, R551, R628, R639: a die-to-die CRC failure that its retry cures is CORRECTED 0x6001 and one that it does not is FATAL 0x6002, which in RUN draws the
HOLD cut; a PLL that locks again is CORRECTED 0x7001; in RUN a port's PLL that does not takes its links down, and another draws HOLD. A TAP
instruction that drives outputs acts as BYPASS while DRAM_RESET_N is high. -/
def Sys2Proof.Claims.ClocksAndTap : Prop :=
  ∀ (s : State) (east : Bool), s.dev.inRun →
    let d := s.dev
    let u := if east then 0x31 else 0x30
    exec (.dieToDieCrcFailure east false) s = .next { s with dev := (d.raise { code := 0x6001, cls := 1, unit := u, att := 2 }) } ∧
    (∃ t, exec (.dieToDieCrcFailure east true) s = .next { s with dev := t } ∧ t.power.mode = .hold ∧ t.power.lastTrig = 4 ∧
      t.power.holdSeq = 1 ∧ t.faults.status.getLsbD 7 = true ∧ t.mem = d.mem ∧
      ∃ r ∈ t.power.fatalRecs, r.code = 0x6002 ∧ r.cls = 4 ∧ r.unit = u) ∧
    (∀ p, exec (.pllLossOfLock p false) s = .next { s with dev := (d.raise { code := 0x7001, cls := 1, unit := 0x3A2, att := 2 }) }) ∧
    (∀ n, n < 4 → exec (.pllLossOfLock (.flit n) true) s = .next { s with dev :=
      (((d.raise { code := 0x7001, cls := 2, unit := 0x3A2, att := 2, detail := n }).linkLost n).linkLost (n + 4)) }) ∧
    (∃ t, exec (.pllLossOfLock .core true) s = .next { s with dev := t } ∧ t.power.mode = .hold ∧ t.power.lastTrig = 4 ∧ t.mem = d.mem) ∧
    (∀ code, d.power.rails = true →
      exec (.tapInstruction code false) s = .next { s with dev := { d with power := { d.power with
        trstHigh := true, tap := code, tapDrives := false } } } ∧
      exec (.tapInstruction code true) s = .next { s with dev := { d with power := { d.power with
        trstHigh := true, tap := 255, tapDrives := false } } }) ∧
    exec .trstNRelease s = .next { s with dev := { d with power := { d.power with trstHigh := false, tap := 255, tapDrives := false } } }

/-- Power and junction limits, PLLs, die-to-die links and the TAP: PowerLimits, ClocksAndTap. -/
def Obligations.LimitsClocksAndTap : Prop := Claims.PowerLimits ∧ Claims.ClocksAndTap

/-- R72, R405, R523, R531 to R534, R546, R583, R597: each trigger draws the HOLD cut and is recorded; nothing that was under way stays, every link is down with
its PBR ID kept, and no line of memory changes; the sequence ends with the channels in self-refresh and the retention flag set, unless HOLD came
from BOOT, and the key table and wrapping-key slots wrapped; the backstop and a rail loss end it incomplete with the flag clear. -/
def Obligations.HoldIsEntered : Prop :=
  ∀ s : State,
    let d := s.dev
    let cut (t : Dev) (trig : Nat) : Prop := t.power.mode = .hold ∧ t.power.holdSeq = 1 ∧ t.power.lastTrig = trig ∧ t.power.entering = 0 ∧
      t.mem = d.mem ∧ t.grottos = d.grottos ∧ t.keys = d.keys ∧ t.pages.dreads = [] ∧ t.pages.frameWait = [] ∧ t.slices.snoops = [] ∧
      t.slices.nc = d.slices.nc ∧ ∀ l, (t.link l).up = false ∧ (t.link l).pbr = (d.link l).pbr
    (d.power.mode = .run ∨ d.power.mode = .doze ∨ d.power.mode = .deep ∨ d.power.mode = .boot →
      (∃ t, exec .resetNAssert s = .next { s with dev := t } ∧ cut t 0 ∧ t.power.resetLow = true ∧ t.power.lockout = false ∧
        t.power.fromBoot = (d.power.mode == .boot)) ∧
      (∃ t, exec .holdReqNAssert s = .next { s with dev := t } ∧ cut t 1) ∧
      (∃ t, exec .pwrWarnNAssert s = .next { s with dev := t } ∧ cut t 2) ∧
      (∃ t, exec .thermalTrip s = .next { s with dev := t } ∧ cut t 3)) ∧
    (d.power.mode = .hold → exec .holdReqNAssert s = .next s) ∧
    (d.power.mode = .hold → d.power.holdSeq = 1 →
      (∃ t, exec .holdSequenceComplete s = .next { s with
          dev := t, trust := { s.trust with sessions := [], negotiated := [], waiting := [], wrap := [] } } ∧
        t.fwUp = false ∧ t.power.mode = .hold ∧ t.power.holdSeq = 2 ∧ t.power.incomplete = false ∧ t.power.sramEn = false ∧
        t.power.coreEn = false ∧ t.power.retention = (if d.power.fromBoot then d.power.retention else true) ∧
        (d.slices.nc = [] → d.ev.rope.state = 0 → (t.evPort 0).state = 0 ∧ (t.evPort 1).state = 0 ∧ t.mem.dram = d.mem.dram ∧
          t.grottos = d.grottos ∧ (∀ c, (d.chan c).state = 3 → (t.chan c).sub = 3 ∧ (t.chan c).canaries = some (d.power.entries % 2)) ∧
          (d.power.fromBoot = false → t.keys = [] ∧ t.wrapped = d.keys.map (·.1) ++ s.trust.wrap.map (4096 + ·.1)) ∧
          (d.power.fromBoot = true → t.keys = d.keys ∧ t.wrapped = d.wrapped ∧ t.mem = d.mem))) ∧
      (∃ t, exec .holdBackstop s = .next { s with
          dev := t, trust := { s.trust with sessions := [], negotiated := [], waiting := [] } } ∧
        t.fwUp = false ∧ t.power.holdSeq = 2 ∧ t.power.retention = false ∧ t.power.incomplete = true ∧ t.power.retHold = true ∧
        ∀ c, (d.chan c).state = 3 → (t.chan c).sub = 3)) ∧
    ((d.live = true ∧ d.power.holdSeq ≠ 2) ∨ (d.power.mode = .hold ∧ d.power.holdSeq = 1) →
      ∃ t, exec .mainRailLoss s = .next { s with
          dev := t, trust := { s.trust with sessions := [], negotiated := [], waiting := [] } } ∧
        t.fwUp = false ∧ t.power.mode = .hold ∧ t.power.holdSeq = 2 ∧ t.power.rails = false ∧ t.power.retention = false ∧
        t.power.incomplete = true ∧ ∀ c, (d.chan c).state = 3 → (t.chan c).sub = 3) ∧
    (d.power.mode = .off ∨ (d.power.mode = .hold ∧ d.power.holdSeq = 2) → exec .mainRailLoss s = .next { s with dev := { d with power := { d.power with rails := false } } })

/-- R82, R90, R97, R118, R523, R534, R535, R547, R551, R582, R593, R630, R631: HOLD ends in BOOT, fast when the retention flag is set, with memory and grottos as they
were, and else from nothing but the Lamp time base; it stays while RESET_N is low. BOOT from OFF starts from nothing. A BOOT that is ready ends in RUN,
its memory laid out anew or kept, and with no channel in service it does not end. The loss of VDD_LAMP is OFF. Reconciliation leaves pending the
frames that nothing names. -/
def Obligations.BootAndOff : Prop :=
  ∀ s : State,
    let d := s.dev
    let p := d.power
    (∀ (t : Int) r, p.mode = .hold → p.holdSeq = 2 → p.resetLow = true → exec (.holdExit t r) s = .next s) ∧
    (∀ (t : Int) r, p.mode = .hold → p.holdSeq = 2 → p.resetLow = false → p.coreEn = true → p.rails = true → p.lockout = false →
      (p.lastTrig ≠ 3 ∨ t ≤ 110) → ∃ u, exec (.holdExit t r) s = .next u ∧ u.dev.power.mode = .boot ∧ u.dev.power.ticks = p.ticks ∧
        u.dev.power.refclk = r ∧
        u.dev.power.lampTemp = min 255 (t + 64).toNat ∧ u.pending = s.pending ∧ u.dev.fwUp = false ∧ u.trust.sessions = [] ∧
        u.trust.svn = s.trust.svn ∧ u.trust.cairn = s.trust.cairn ∧ u.trust.leaf = s.trust.leafStart ∧ u.trust.leafEnd = s.trust.leafStart ∧
        (p.retention = true → u.dev.mem = d.mem ∧ (u.dev.power.bootKind = 1 ∨ u.dev.power.bootKind = 2) ∧
          u.dev.grottos = d.grottos.map fun e => (e.1, { e.2 with allocPtr := 0 })) ∧
        (p.retention = false → u.dev.mem = {} ∧ u.dev.grottos = [] ∧ u.dev.keys = [] ∧ u.trust.wrap = [] ∧ u.dev.power.bootKind = 3 ∧
          u.trust.draws = s.trust.draws + 2)) ∧
    (∀ n, n < 4 → p.mode = .off → p.lampOn = true → p.crystal = true → p.coreEn = true → p.rails = true → p.resetLow = false →
      ∃ u, exec (.bootFromOff n) s = .next u ∧ u.dev.power.mode = .boot ∧ u.dev.power.bootKind = 0 ∧ u.dev.power.ticks = 0 ∧
        u.dev.power.refclk = n ∧ u.dev.mem = {} ∧ u.dev.grottos = [] ∧ u.dev.keys = [] ∧ u.dev.queues = {} ∧ u.trust.wrap = [] ∧
        u.dev.key0 = Config.drbg s.trust.draws ∧ u.dev.power.cap = d.plat.powerCeiling) ∧
    (∀ failed fixed, p.mode = .boot → (∀ e ∈ d.chans, e.2.state ≠ 3) → exec (.bootComplete failed fixed) s = .next s) ∧
    (∀ failed fixed, p.mode = .boot → d.fwUp = true → p.bootOk = true → (∀ e ∈ d.chans, e.2.state ≠ 2) → (∃ e ∈ d.chans, e.2.state = 3) →
      (p.bootKind = 1 ∨ p.bootKind = 2 →
        let k := (d.resumeAll failed fixed).onMem fun m => { m with phys := d.physFrames, lost := 0 }
        exec (.bootComplete failed fixed) s = .next (State.unwrapSlots { s with dev :=
          ((k.onPower fun p => { p with mode := .run, retention := false, runTick := k.lamp }).rescale.startDueCrawls).after }) ∧
        k.mem.recon = true) ∧
      (p.bootKind = 0 ∨ p.bootKind = 3 → (∀ c, c < 16 → (d.chan c).checked = true) → d.Still →
        ∃ u, exec (.bootComplete failed fixed) s = .next { s with dev := u } ∧ u.power.mode = .run ∧ u.power.retention = false ∧
        u.mem.resvChans = (d.chans.filter fun e => e.2.state == 3).map (·.1) ∧ u.mem.phys = d.physFrames ∧ u.mem.ceiling = min 131072 (2 * d.physFrames / 65536) ∧ u.mem.dram = d.mem.dram ∧
        ∀ q ∈ u.mem.pools, q.2.zeroed = [] ∧ ∃ n, q.2.pending = [(u.resvFrames, n)])) ∧
    (∃ u, exec .vddLampLoss s = .next u ∧ u.dev.power.mode = .off ∧ u.dev.power.lampOn = false ∧ u.dev.fwUp = false ∧ u.dev.mem = {} ∧
      u.dev.keys = [] ∧ u.trust.wrap = [] ∧ u.trust.index = [] ∧ u.trust.svn = s.trust.svn ∧ u.trust.cairn = s.trust.cairn ∧ u.trust.fmRoot = s.trust.fmRoot) ∧
    (p.mode = .off → p.lampOn = false →
      exec .vddLampPowerOn s = .next { s with dev := { d with power := { p with lampOn := true, crystal := true } } }) ∧
    ((p.mode = .off ∨ (p.mode = .hold ∧ p.holdSeq = 2)) → p.lampOn = true →
      exec .sramEnRaise s = .next { s with dev := { d with power := { p with sramEn := true, resetLow := false } } } ∧
      (p.sramEn = true → exec .coreEnRaise s = .next { s with dev := { d with power := { p with coreEn := true, rails := true } } })) ∧
    (d.mem.recon = false → exec .reconciliationComplete s = .next s) ∧
    (d.awake = true → d.mem.recon = true → d.pages.heaps = [] → risingFrom 0 d.chans = true → (d.evPort 0).state ≠ 2 → (d.evPort 1).state ≠ 2 →
      d.Still →
      ∃ t, exec .reconciliationComplete s = .next { s with dev := t } ∧ t.mem.recon = false ∧ t.mem.unrecon = [] ∧ t.mem.dram = d.mem.dram ∧
        t.pages.area = d.pages.area ∧ t.grottos = d.grottos ∧
        ∀ c, (d.chan c).state = 3 → d.resvFrames < (d.chan c).frames → (t.pool c).zeroed = (d.pool c).zeroed ∧
          (t.pool c).pending = ((d.pool c).zeroed ++ (d.namedFrames c).map frameIdx).foldl (fun ivs i => ivErase i ivs)
            [(d.resvFrames, (d.chan c).frames)])

/-- R31, R32, R143, R150, R490, R557, R563, R564, R567, R574, R576, R591, R592: a Cairn record is appended, in the index, and commits where its read-back agrees;
port widths and training settings take effect, a confirmed slot ends its trial, and firmware writes the records it owes and the fault records the log
does not have; while it is stopped a record waits. A leaf reservation commits its segment's fuse with it and moves the reserved end by 256; the
oldest block's valid records are appended again; the watchdog restarts, and when it expires resets the firmware cores with DEGRADED 0x7003; the SVN
fuses rise to a confirmed image's svn if its flag allows. -/
def Sys2Proof.Claims.FirmwareKeepsRecords : Prop :=
  ∀ s : State, s.dev.live = true →
    let t := s.trust
    let room (u : Trust) : Prop := ((recPlaces 0 0 u.cairn).getLast?.getD (0, 0)).1 + 3 ≤ storeBlocks
    let put (type inst : Nat) (data : List Byte) (ok : Bool) : CairnRec := { type := type, inst := inst, seq := t.cairnSeq, data := data, committed := ok }
    let told (d : Dev) (type inst : Nat) (ok : Bool) : Dev := { d with out := d.out ++ [{ msg := .flash ok type inst }] }
    (∀ type inst data ok, s.dev.fwUp = false → data.length ≤ 65515 →
      exec (.cairnRecordWrite type inst data ok) s = .next { s with trust := { t with waiting := t.waiting ++ [.cairnRecordWrite type inst data ok] } }) ∧
    (s.dev.fwUp = true → t.waiting = [] →
      (∀ type inst data ok, type ≠ 3 → data.length ≤ 65515 → s.dev.due = [] → s.dev.faults.unspilled = [] → room (t.add type inst data ok none) →
        ∃ v : Dev, ∃ u : Trust, exec (.cairnRecordWrite type inst data ok) s = .next { s with dev := v, trust := u } ∧
          u.cairn = t.cairn ++ [put type inst data ok] ∧ u.cairnSeq = (if ok then t.cairnSeq + 1 else t.cairnSeq) ∧
          u.leafEnd = t.leafEnd ∧ u.svn = t.svn ∧ u.erased = t.erased ∧
          (ok = true → type ≠ 8 → t.index.length < 32 → ∃ a, (type, inst, a) ∈ u.index) ∧ (ok = false ∨ type = 8 → u.index = t.index) ∧
          u.trial = (t.trial && !(ok && t.confirms type data)) ∧
          (ok = false ∨ (type ≠ 1 ∧ type ≠ 5) → v = told s.dev type inst ok) ∧
          (type = 1 → ok = true → ∀ p, p < 4 → v.port p = { s.dev.port p with recorded := ((data.head?).getD 0).getLsbD p }) ∧
          (type = 5 → ok = true → inst < 16 →
            v = (told s.dev type inst ok).setChan inst
              { s.dev.chan inst with recordOk := true, spd := ((s.dev.chan inst).slot0, (s.dev.chan inst).slot1) })) ∧
      (∀ c, s.dev.due = [(4, c)] → s.dev.faults.unspilled = [] → room ((t.add 7 0 [] true none).add 4 c (Config.repairRecord s.dev.freeCtr) true none) →
        ∃ u : Trust, exec (.cairnRecordWrite 7 0 [] true) s = .next { s with
            dev := { told (told s.dev 7 0 true) 4 c true with due := [], freeCtr := s.dev.freeCtr + 1 }, trust := u } ∧
          u.cairn = t.cairn ++ [put 7 0 [] true, { put 4 c (Config.repairRecord s.dev.freeCtr) true with
            seq := t.cairnSeq + 1, soft := some (s.dev.chan c).usedRepair }]) ∧
      (s.dev.due = [] → s.dev.faults.unspilled ≠ [] →
        let log := s.dev.faults.unspilled.flatMap FaultRec.bytes
        room ((t.add 7 0 [] true none).add 8 0 log true none) →
        ∃ v : Dev, ∃ u : Trust, exec (.cairnRecordWrite 7 0 [] true) s = .next { s with dev := v, trust := u } ∧
          u.cairn = t.cairn ++ [put 7 0 [] true, { put 8 0 log true with seq := t.cairnSeq + 1 }] ∧ v.faults.spilled = s.dev.faults.total)) ∧
    (s.dev.fwUp = true →
      (∀ inst data, data.length ≤ 65515 → natOfBytes (data.take 4) = t.leafEnd + 256 → t.leafEnd < 2 ^ 30 → t.waiting = [] → s.dev.due = [] →
        s.dev.faults.unspilled = [] → room (t.add 3 0 data true none) →
        ∃ u : Trust, exec (.cairnRecordWrite 3 inst data true) s = .next { s with dev := told s.dev 3 0 true, trust := u } ∧
          u.leafEnd = t.leafEnd + 256 ∧ u.leafMark = max t.leafMark (t.leafEnd / 2 ^ 26 + 1) ∧ u.leaf = t.leaf ∧
          u.record 3 0 = some (put 3 0 data true)) ∧
      (∀ r rest, t.cairn = r :: rest → ((recPlaces 0 0 t.cairn).takeWhile fun p => p.1 == 0).length = 1 → rest ≠ [] → t.keeps r = true →
        exec .cairnBlockErase s = .next { s with trust := { t.add r.type r.inst r.data true r.soft with
          cairn := rest ++ [{ put r.type r.inst r.data true with soft := r.soft }], erased := t.erased + 1 } }) ∧
      (∀ r rest, t.cairn = r :: rest → ((recPlaces 0 0 t.cairn).takeWhile fun p => p.1 == 0).length = 1 → rest ≠ [] → t.keeps r = false →
        exec .cairnBlockErase s = .next { s with trust := { t with cairn := rest, erased := t.erased + 1 } }) ∧
      exec .watchdogRestart s = .next { s with trust := { t with wdAt := s.dev.lamp } } ∧
      (t.wdAt + 32735 ≤ s.dev.lamp → exec .watchdogExpiry s = .next { s with
        dev := (({ s.dev with fwUp := false, fwDown := true } : Dev).raise { code := 0x7003, cls := 2, unit := 0x390 }),
        trust := { t with sessions := [], negotiated := [], leaf := t.leafStart, leafEnd := t.leafStart } }) ∧
      (t.wdAt + 32735 > s.dev.lamp → exec .watchdogExpiry s = .next s) ∧
      (t.onTrial = false → (t.flash t.running 7).getLsbD 0 = true → t.svn < t.svnRun →
        exec .svnRaise s = .next { s with trust := { t with svn := t.svnRun } }))

/-- R31, R118, R144, R569, R571 to R575, R579: the ROM measures the boot and tries the slots in their order: firmware runs from the first that verifies, with its measurements;
a slot that does not is DEGRADED 0x7005; where none does, the firmware stays stopped and the fault is 0x7006. Firmware then reads the SPDs
and writes what it owes. -/
def Sys2Proof.Claims.RomReleasesFirmware : Prop :=
  ∀ (s : State) (t : Trust) (a b : Nat) (spd : List (Nat × Option Dimm × Option Dimm)) (lost : List Nat), s.dev.live = true → s.dev.fwUp = false →
    s.trust.noImage = false → s.trust.waiting = [] →
    let s0 := s.readStore lost
    s0.trust.bootOrder = (t, [a, b]) →
    let m := t.measureBoot s.dev.plat
    let bad (d : Dev) (slot n : Nat) : Dev := d.raise { code := 0x7005, cls := 2, unit := 0x390, detail := slot + 256 * n }
    let runs (d : Dev) (slot root : Nat) (second : Bool) : State := State.payDue { s0 with
      dev := spd.foldl (fun (e : Dev) x => e.spdRead x.1 x.2.1 x.2.2) { d with fwUp := true, fwDown := false },
      trust := { m.release slot root second with wdAt := d.lamp } }
    let none (d : Dev) : State := { s0 with
      dev := { (let h : Hap := { code := 0x7006, cls := 4, unit := 0x390 }
                if d.power.mode = .boot then d.fatal h else d.raise h) with fwDown := true },
      trust := { m with noImage := true } }
    exec (.firmwareRelease spd lost) s = .next (match m.verify s0.dev.plat a with
      | .ok root => runs s0.dev a root false
      | .error n => match m.verify s0.dev.plat b with
        | .ok root => runs (bad s0.dev a n) b root true
        | .error k => none (bad (bad s0.dev a n) b k))

/-- The ROM releases firmware; firmware keeps records: FirmwareKeepsRecords, RomReleasesFirmware. -/
def Obligations.FirmwareAndRecords : Prop := Claims.FirmwareKeepsRecords ∧ Claims.RomReleasesFirmware

/-- R576: a step changes the SVN count only where firmware asks for it, the running image is confirmed and its flags[0] is set: to that image's svn, which is above
it. A slot whose svn is below the count does not verify. -/
def Obligations.SvnRisesOnlyWhenAsked : Prop :=
  (∀ s t : State, step s = .next t → t.trust.svn ≠ s.trust.svn →
    (∃ rest, s.pending = .svnRaise :: rest) ∧ t.trust.svn = s.trust.svnRun ∧ s.trust.svn < t.trust.svn ∧ s.trust.onTrial = false ∧
    (s.trust.flash s.trust.running 7).getLsbD 0 = true) ∧
  (∀ (s : State) (rest : List Instr), s.pending = .svnRaise :: rest → s.dev.live = true → s.dev.fwUp = true → s.trust.onTrial = false →
    (s.trust.flash s.trust.running 7).getLsbD 0 = true → s.trust.svn < s.trust.svnRun →
    step s = .next { s with pending := rest, trust := { s.trust with svn := s.trust.svnRun } }) ∧
  ∀ (t : Trust) (p : Plat) (slot : Nat), t.num slot 8 4 < t.svn → ∃ n, t.verify p slot = .error n

/-- R560, R561, R575, R592: no step clears a fuse: the SVN count, the leaf high-water mark, the revocations and the fabric manager's root only grow. -/
def Obligations.FusesOnlyGrow : Prop :=
  ∀ s t : State, step s = .next t →
    s.trust.svn ≤ t.trust.svn ∧ s.trust.leafMark ≤ t.trust.leafMark ∧ s.trust.rootRevoke &&& t.trust.rootRevoke = s.trust.rootRevoke ∧
    ∀ h, s.trust.fmRoot = some h → t.trust.fmRoot = some h

/-- R590 to R594: every step keeps the conditions under which no leaf of the identity key is used twice, also a BOOT, a loss of power, a reset of the
firmware cores and a store whose records cannot be read; the leaves that have signed only grow, and a signature takes a leaf behind all of them. -/
def Obligations.LeavesAreNeverReused : Prop :=
  (∀ s t : State, s.trust.LeafSafe → step s = .next t → t.trust.LeafSafe ∧ s.trust.leafTop ≤ t.trust.leafTop) ∧
  ∀ (t u : Trust) (q : Nat), t.LeafSafe → t.takeLeaf = some (q, u) → t.leafTop ≤ q ∧ q < u.leafTop ∧ q < 2 ^ 30 ∧ u.LeafSafe

end Statements
end

