-- ==== Sys2Proof/Laws/Maps.lean ====
section
/-!
SUPPORT. The laws of finite maps: what is read after a write, and that every operation keeps the canonical form.
-/
namespace Sys2Proof.Machine

variable {α : Type}

@[simp] theorem mget_nil (n : Nat) : mget ([] : AMap α) n = none := rfl

theorem mget_cons (k : Nat) (v : α) (t : AMap α) (n : Nat) :
    mget ((k, v) :: t) n = if n = k then some v else mget t n := rfl

/-- A key below every key of a map is not in it. -/
theorem mget_none_of_rising : ∀ (m : AMap α) (b n : Nat), risingFrom b m = true → n < b → mget m n = none
  | [], _, _, _, _ => rfl
  | (k, v) :: t, b, n, h, hn => by
    simp only [risingFrom, Bool.and_eq_true, decide_eq_true_eq] at h
    rw [mget_cons, if_neg (by omega)]
    exact mget_none_of_rising t (k + 1) n h.2 (by omega)

/-- A value written is read back. -/
@[simp] theorem mget_mset_self : ∀ (m : AMap α) (n : Nat) (a : α), mget (mset m n a) n = some a
  | [], n, a => by simp [mset, mget_cons]
  | (k, v) :: t, n, a => by
    unfold mset
    split
    · simp [mget_cons]
    · split
      · simp [mget_cons]
      · rename_i h1 h2
        rw [mget_cons, if_neg h2]
        exact mget_mset_self t n a

/-- A write leaves every other key alone. -/
theorem mget_mset_ne : ∀ (m : AMap α) (n k : Nat) (a : α), k ≠ n → mget (mset m n a) k = mget m k
  | [], n, k, a, h => by simp [mset, mget_cons, h]
  | (j, v) :: t, n, k, a, h => by
    unfold mset
    split
    · simp [mget_cons, h]
    · split
      · rename_i h2
        subst h2
        simp [mget_cons, h]
      · rw [mget_cons, mget_cons, mget_mset_ne t n k a h]

theorem mget_mset (m : AMap α) (n k : Nat) (a : α) : mget (mset m n a) k = if k = n then some a else mget m k := by
  split
  · rename_i h; subst h; simp
  · rename_i h; exact mget_mset_ne m n k a h

theorem risingFrom_le : ∀ (m : AMap α) (a b : Nat), risingFrom b m = true → a ≤ b → risingFrom a m = true
  | [], _, _, _, _ => rfl
  | (k, v) :: t, a, b, h, hab => by
    simp only [risingFrom, Bool.and_eq_true, decide_eq_true_eq] at h ⊢
    exact ⟨by omega, h.2⟩

/-- Erasing a key removes it, where keys rise strictly. -/
theorem mget_merase : ∀ (m : AMap α) (b n k : Nat), risingFrom b m = true →
    mget (merase m n) k = if k = n then none else mget m k
  | [], _, n, k, _ => by simp [merase]
  | (j, v) :: t, b, n, k, h => by
    simp only [risingFrom, Bool.and_eq_true, decide_eq_true_eq] at h
    unfold merase
    split
    · rename_i hj
      subst hj
      split
      · rename_i hk
        subst hk
        exact mget_none_of_rising t (k + 1) k h.2 (by omega)
      · rename_i hk
        rw [mget_cons, if_neg hk]
    · rename_i hj
      rw [mget_cons, mget_cons, mget_merase t (j + 1) n k h.2]
      by_cases hk : k = j
      · subst hk
        rw [if_pos rfl, if_pos rfl, if_neg (by omega)]
      · rw [if_neg hk, if_neg hk]

theorem mset_rising : ∀ (m : AMap α) (b n : Nat) (a : α), risingFrom b m = true → b ≤ n → risingFrom b (mset m n a) = true
  | [], b, n, a, _, hn => by simp [mset, risingFrom, hn]
  | (k, v) :: t, b, n, a, h, hn => by
    simp only [risingFrom, Bool.and_eq_true, decide_eq_true_eq] at h
    unfold mset
    split
    · rename_i hk
      simp only [risingFrom, Bool.and_eq_true, decide_eq_true_eq]
      exact ⟨hn, by omega, h.2⟩
    · split
      · rename_i hk
        subst hk
        simp only [risingFrom, Bool.and_eq_true, decide_eq_true_eq]
        exact ⟨hn, h.2⟩
      · simp only [risingFrom, Bool.and_eq_true, decide_eq_true_eq]
        exact ⟨h.1, mset_rising t (k + 1) n a h.2 (by omega)⟩

theorem merase_rising : ∀ (m : AMap α) (b n : Nat), risingFrom b m = true → risingFrom b (merase m n) = true
  | [], _, _, _ => rfl
  | (k, v) :: t, b, n, h => by
    simp only [risingFrom, Bool.and_eq_true, decide_eq_true_eq] at h
    unfold merase
    split
    · exact risingFrom_le t b (k + 1) h.2 (by omega)
    · simp only [risingFrom, Bool.and_eq_true, decide_eq_true_eq]
      exact ⟨h.1, merase_rising t (k + 1) n h.2⟩

theorem filter_rising (p : Nat × α → Bool) : ∀ (m : AMap α) (b : Nat), risingFrom b m = true → risingFrom b (m.filter p) = true
  | [], _, _ => rfl
  | (k, v) :: t, b, h => by
    simp only [risingFrom, Bool.and_eq_true, decide_eq_true_eq] at h
    have ih := filter_rising p t (k + 1) h.2
    rw [List.filter_cons]
    split
    · simp only [risingFrom, Bool.and_eq_true, decide_eq_true_eq]
      exact ⟨h.1, ih⟩
    · exact risingFrom_le _ b (k + 1) ih (by omega)

theorem mset_mem (m : AMap α) (n : Nat) (a : α) (e : Nat × α) (h : e ∈ mset m n a) : e = (n, a) ∨ e ∈ m := by
  induction m with
  | nil => simpa [mset] using h
  | cons x t ih =>
    obtain ⟨k, v⟩ := x
    unfold mset at h
    split at h
    · simpa using h
    · split at h
      · simp only [List.mem_cons] at h ⊢
        exact h.elim .inl (fun h => .inr (.inr h))
      · simp only [List.mem_cons] at h ⊢
        rcases h with h | h
        · exact .inr (.inl h)
        · rcases ih h with h | h
          · exact .inl h
          · exact .inr (.inr h)

theorem merase_mem (m : AMap α) (n : Nat) (e : Nat × α) (h : e ∈ merase m n) : e ∈ m := by
  induction m with
  | nil => exact h
  | cons x t ih =>
    obtain ⟨k, v⟩ := x
    unfold merase at h
    split at h
    · exact List.mem_cons_of_mem _ h
    · simp only [List.mem_cons] at h ⊢
      rcases h with h | h
      · exact .inl h
      · exact .inr (ih h)

variable [DecidableEq α]

theorem canonical_iff (d : α) (m : AMap α) :
    canonical d m = true ↔ risingFrom 0 m = true ∧ ∀ e ∈ m, e.2 ≠ d := by
  simp [canonical, List.all_eq_true]

/-- Writing keeps the canonical form: the default removes the entry. -/
theorem mput_canonical (m : AMap α) (d : α) (n : Nat) (a : α) (h : canonical d m = true) : canonical d (mput m d n a) = true := by
  rw [canonical_iff] at h ⊢
  unfold mput
  split
  · exact ⟨merase_rising m 0 n h.1, fun e he => h.2 e (merase_mem m n e he)⟩
  · rename_i ha
    refine ⟨mset_rising m 0 n a h.1 (by omega), fun e he => ?_⟩
    rcases mset_mem m n a e he with rfl | he
    · exact ha
    · exact h.2 e he

theorem mkeep_canonical (m : AMap α) (d : α) (p : Nat → Bool) (h : canonical d m = true) : canonical d (mkeep m p) = true := by
  rw [canonical_iff] at h ⊢
  exact ⟨filter_rising _ m 0 h.1, fun e he => h.2 e (List.mem_filter.mp he).1⟩

/-- What reads after a write: the value at its key, the rest as before. -/
theorem mgetD_mput (m : AMap α) (d : α) (n k : Nat) (a : α) (h : canonical d m = true) :
    mgetD (mput m d n a) k d = if k = n then a else mgetD m k d := by
  rw [canonical_iff] at h
  unfold mput mgetD
  split
  · rename_i ha
    rw [mget_merase m 0 n k h.1]
    split
    · simp [ha]
    · rfl
  · rw [mget_mset]
    split <;> rfl

@[simp] theorem mgetD_mset_self {β : Type} (m : AMap β) (d : β) (n : Nat) (a : β) : mgetD (mset m n a) n d = a := by
  simp [mgetD]

end Sys2Proof.Machine
end

