-- ==== Sys2Proof/Laws/State.lean ====
section
/-!
SUPPORT. One lemma for each field after each update of the device, true by unfolding, and what a part reads as after it is set.
-/
namespace Sys2Proof.Machine

@[simp] theorem Dev.onPower_plat (d : Dev) (f : Power → Power) : (d.onPower f).plat = d.plat := rfl
@[simp] theorem Dev.onPower_power (d : Dev) (f : Power → Power) : (d.onPower f).power = f d.power := rfl
@[simp] theorem Dev.onPower_faults (d : Dev) (f : Power → Power) : (d.onPower f).faults = d.faults := rfl
@[simp] theorem Dev.onPower_cnt (d : Dev) (f : Power → Power) : (d.onPower f).cnt = d.cnt := rfl
@[simp] theorem Dev.onPower_qos (d : Dev) (f : Power → Power) : (d.onPower f).qos = d.qos := rfl
@[simp] theorem Dev.onPower_ports (d : Dev) (f : Power → Power) : (d.onPower f).ports = d.ports := rfl
@[simp] theorem Dev.onPower_links (d : Dev) (f : Power → Power) : (d.onPower f).links = d.links := rfl
@[simp] theorem Dev.onPower_lds (d : Dev) (f : Power → Power) : (d.onPower f).lds = d.lds := rfl
@[simp] theorem Dev.onPower_grottos (d : Dev) (f : Power → Power) : (d.onPower f).grottos = d.grottos := rfl
@[simp] theorem Dev.onPower_pages (d : Dev) (f : Power → Power) : (d.onPower f).pages = d.pages := rfl
@[simp] theorem Dev.onPower_mem (d : Dev) (f : Power → Power) : (d.onPower f).mem = d.mem := rfl
@[simp] theorem Dev.onPower_slices (d : Dev) (f : Power → Power) : (d.onPower f).slices = d.slices := rfl
@[simp] theorem Dev.onPower_chans (d : Dev) (f : Power → Power) : (d.onPower f).chans = d.chans := rfl
@[simp] theorem Dev.onPower_flow (d : Dev) (f : Power → Power) : (d.onPower f).flow = d.flow := rfl
@[simp] theorem Dev.onPower_queues (d : Dev) (f : Power → Power) : (d.onPower f).queues = d.queues := rfl
@[simp] theorem Dev.onPower_ev (d : Dev) (f : Power → Power) : (d.onPower f).ev = d.ev := rfl
@[simp] theorem Dev.onPower_keys (d : Dev) (f : Power → Power) : (d.onPower f).keys = d.keys := rfl
@[simp] theorem Dev.onPower_key0 (d : Dev) (f : Power → Power) : (d.onPower f).key0 = d.key0 := rfl
@[simp] theorem Dev.onPower_holdKey (d : Dev) (f : Power → Power) : (d.onPower f).holdKey = d.holdKey := rfl
@[simp] theorem Dev.onPower_devTag (d : Dev) (f : Power → Power) : (d.onPower f).devTag = d.devTag := rfl
@[simp] theorem Dev.onPower_tagDone (d : Dev) (f : Power → Power) : (d.onPower f).tagDone = d.tagDone := rfl
@[simp] theorem Dev.onPower_fwUp (d : Dev) (f : Power → Power) : (d.onPower f).fwUp = d.fwUp := rfl
@[simp] theorem Dev.onPower_wrapped (d : Dev) (f : Power → Power) : (d.onPower f).wrapped = d.wrapped := rfl
@[simp] theorem Dev.onPower_fwDown (d : Dev) (f : Power → Power) : (d.onPower f).fwDown = d.fwDown := rfl
@[simp] theorem Dev.onPower_due (d : Dev) (f : Power → Power) : (d.onPower f).due = d.due := rfl
@[simp] theorem Dev.onPower_late (d : Dev) (f : Power → Power) : (d.onPower f).late = d.late := rfl
@[simp] theorem Dev.onPower_unsent (d : Dev) (f : Power → Power) : (d.onPower f).unsent = d.unsent := rfl
@[simp] theorem Dev.onPower_regPtr (d : Dev) (f : Power → Power) : (d.onPower f).regPtr = d.regPtr := rfl
@[simp] theorem Dev.onPower_freeCtr (d : Dev) (f : Power → Power) : (d.onPower f).freeCtr = d.freeCtr := rfl
@[simp] theorem Dev.onPower_out (d : Dev) (f : Power → Power) : (d.onPower f).out = d.out := rfl

@[simp] theorem Dev.onFaults_plat (d : Dev) (f : Faults → Faults) : (d.onFaults f).plat = d.plat := rfl
@[simp] theorem Dev.onFaults_power (d : Dev) (f : Faults → Faults) : (d.onFaults f).power = d.power := rfl
@[simp] theorem Dev.onFaults_faults (d : Dev) (f : Faults → Faults) : (d.onFaults f).faults = f d.faults := rfl
@[simp] theorem Dev.onFaults_cnt (d : Dev) (f : Faults → Faults) : (d.onFaults f).cnt = d.cnt := rfl
@[simp] theorem Dev.onFaults_qos (d : Dev) (f : Faults → Faults) : (d.onFaults f).qos = d.qos := rfl
@[simp] theorem Dev.onFaults_ports (d : Dev) (f : Faults → Faults) : (d.onFaults f).ports = d.ports := rfl
@[simp] theorem Dev.onFaults_links (d : Dev) (f : Faults → Faults) : (d.onFaults f).links = d.links := rfl
@[simp] theorem Dev.onFaults_lds (d : Dev) (f : Faults → Faults) : (d.onFaults f).lds = d.lds := rfl
@[simp] theorem Dev.onFaults_grottos (d : Dev) (f : Faults → Faults) : (d.onFaults f).grottos = d.grottos := rfl
@[simp] theorem Dev.onFaults_pages (d : Dev) (f : Faults → Faults) : (d.onFaults f).pages = d.pages := rfl
@[simp] theorem Dev.onFaults_mem (d : Dev) (f : Faults → Faults) : (d.onFaults f).mem = d.mem := rfl
@[simp] theorem Dev.onFaults_slices (d : Dev) (f : Faults → Faults) : (d.onFaults f).slices = d.slices := rfl
@[simp] theorem Dev.onFaults_chans (d : Dev) (f : Faults → Faults) : (d.onFaults f).chans = d.chans := rfl
@[simp] theorem Dev.onFaults_flow (d : Dev) (f : Faults → Faults) : (d.onFaults f).flow = d.flow := rfl
@[simp] theorem Dev.onFaults_queues (d : Dev) (f : Faults → Faults) : (d.onFaults f).queues = d.queues := rfl
@[simp] theorem Dev.onFaults_ev (d : Dev) (f : Faults → Faults) : (d.onFaults f).ev = d.ev := rfl
@[simp] theorem Dev.onFaults_keys (d : Dev) (f : Faults → Faults) : (d.onFaults f).keys = d.keys := rfl
@[simp] theorem Dev.onFaults_key0 (d : Dev) (f : Faults → Faults) : (d.onFaults f).key0 = d.key0 := rfl
@[simp] theorem Dev.onFaults_holdKey (d : Dev) (f : Faults → Faults) : (d.onFaults f).holdKey = d.holdKey := rfl
@[simp] theorem Dev.onFaults_devTag (d : Dev) (f : Faults → Faults) : (d.onFaults f).devTag = d.devTag := rfl
@[simp] theorem Dev.onFaults_tagDone (d : Dev) (f : Faults → Faults) : (d.onFaults f).tagDone = d.tagDone := rfl
@[simp] theorem Dev.onFaults_fwUp (d : Dev) (f : Faults → Faults) : (d.onFaults f).fwUp = d.fwUp := rfl
@[simp] theorem Dev.onFaults_wrapped (d : Dev) (f : Faults → Faults) : (d.onFaults f).wrapped = d.wrapped := rfl
@[simp] theorem Dev.onFaults_fwDown (d : Dev) (f : Faults → Faults) : (d.onFaults f).fwDown = d.fwDown := rfl
@[simp] theorem Dev.onFaults_due (d : Dev) (f : Faults → Faults) : (d.onFaults f).due = d.due := rfl
@[simp] theorem Dev.onFaults_late (d : Dev) (f : Faults → Faults) : (d.onFaults f).late = d.late := rfl
@[simp] theorem Dev.onFaults_unsent (d : Dev) (f : Faults → Faults) : (d.onFaults f).unsent = d.unsent := rfl
@[simp] theorem Dev.onFaults_regPtr (d : Dev) (f : Faults → Faults) : (d.onFaults f).regPtr = d.regPtr := rfl
@[simp] theorem Dev.onFaults_freeCtr (d : Dev) (f : Faults → Faults) : (d.onFaults f).freeCtr = d.freeCtr := rfl
@[simp] theorem Dev.onFaults_out (d : Dev) (f : Faults → Faults) : (d.onFaults f).out = d.out := rfl

@[simp] theorem Dev.onCnt_plat (d : Dev) (f : Counters → Counters) : (d.onCnt f).plat = d.plat := rfl
@[simp] theorem Dev.onCnt_power (d : Dev) (f : Counters → Counters) : (d.onCnt f).power = d.power := rfl
@[simp] theorem Dev.onCnt_faults (d : Dev) (f : Counters → Counters) : (d.onCnt f).faults = d.faults := rfl
@[simp] theorem Dev.onCnt_cnt (d : Dev) (f : Counters → Counters) : (d.onCnt f).cnt = f d.cnt := rfl
@[simp] theorem Dev.onCnt_qos (d : Dev) (f : Counters → Counters) : (d.onCnt f).qos = d.qos := rfl
@[simp] theorem Dev.onCnt_ports (d : Dev) (f : Counters → Counters) : (d.onCnt f).ports = d.ports := rfl
@[simp] theorem Dev.onCnt_links (d : Dev) (f : Counters → Counters) : (d.onCnt f).links = d.links := rfl
@[simp] theorem Dev.onCnt_lds (d : Dev) (f : Counters → Counters) : (d.onCnt f).lds = d.lds := rfl
@[simp] theorem Dev.onCnt_grottos (d : Dev) (f : Counters → Counters) : (d.onCnt f).grottos = d.grottos := rfl
@[simp] theorem Dev.onCnt_pages (d : Dev) (f : Counters → Counters) : (d.onCnt f).pages = d.pages := rfl
@[simp] theorem Dev.onCnt_mem (d : Dev) (f : Counters → Counters) : (d.onCnt f).mem = d.mem := rfl
@[simp] theorem Dev.onCnt_slices (d : Dev) (f : Counters → Counters) : (d.onCnt f).slices = d.slices := rfl
@[simp] theorem Dev.onCnt_chans (d : Dev) (f : Counters → Counters) : (d.onCnt f).chans = d.chans := rfl
@[simp] theorem Dev.onCnt_flow (d : Dev) (f : Counters → Counters) : (d.onCnt f).flow = d.flow := rfl
@[simp] theorem Dev.onCnt_queues (d : Dev) (f : Counters → Counters) : (d.onCnt f).queues = d.queues := rfl
@[simp] theorem Dev.onCnt_ev (d : Dev) (f : Counters → Counters) : (d.onCnt f).ev = d.ev := rfl
@[simp] theorem Dev.onCnt_keys (d : Dev) (f : Counters → Counters) : (d.onCnt f).keys = d.keys := rfl
@[simp] theorem Dev.onCnt_key0 (d : Dev) (f : Counters → Counters) : (d.onCnt f).key0 = d.key0 := rfl
@[simp] theorem Dev.onCnt_holdKey (d : Dev) (f : Counters → Counters) : (d.onCnt f).holdKey = d.holdKey := rfl
@[simp] theorem Dev.onCnt_devTag (d : Dev) (f : Counters → Counters) : (d.onCnt f).devTag = d.devTag := rfl
@[simp] theorem Dev.onCnt_tagDone (d : Dev) (f : Counters → Counters) : (d.onCnt f).tagDone = d.tagDone := rfl
@[simp] theorem Dev.onCnt_fwUp (d : Dev) (f : Counters → Counters) : (d.onCnt f).fwUp = d.fwUp := rfl
@[simp] theorem Dev.onCnt_wrapped (d : Dev) (f : Counters → Counters) : (d.onCnt f).wrapped = d.wrapped := rfl
@[simp] theorem Dev.onCnt_fwDown (d : Dev) (f : Counters → Counters) : (d.onCnt f).fwDown = d.fwDown := rfl
@[simp] theorem Dev.onCnt_due (d : Dev) (f : Counters → Counters) : (d.onCnt f).due = d.due := rfl
@[simp] theorem Dev.onCnt_late (d : Dev) (f : Counters → Counters) : (d.onCnt f).late = d.late := rfl
@[simp] theorem Dev.onCnt_unsent (d : Dev) (f : Counters → Counters) : (d.onCnt f).unsent = d.unsent := rfl
@[simp] theorem Dev.onCnt_regPtr (d : Dev) (f : Counters → Counters) : (d.onCnt f).regPtr = d.regPtr := rfl
@[simp] theorem Dev.onCnt_freeCtr (d : Dev) (f : Counters → Counters) : (d.onCnt f).freeCtr = d.freeCtr := rfl
@[simp] theorem Dev.onCnt_out (d : Dev) (f : Counters → Counters) : (d.onCnt f).out = d.out := rfl

@[simp] theorem Dev.onQos_plat (d : Dev) (f : Qos → Qos) : (d.onQos f).plat = d.plat := rfl
@[simp] theorem Dev.onQos_power (d : Dev) (f : Qos → Qos) : (d.onQos f).power = d.power := rfl
@[simp] theorem Dev.onQos_faults (d : Dev) (f : Qos → Qos) : (d.onQos f).faults = d.faults := rfl
@[simp] theorem Dev.onQos_cnt (d : Dev) (f : Qos → Qos) : (d.onQos f).cnt = d.cnt := rfl
@[simp] theorem Dev.onQos_qos (d : Dev) (f : Qos → Qos) : (d.onQos f).qos = f d.qos := rfl
@[simp] theorem Dev.onQos_ports (d : Dev) (f : Qos → Qos) : (d.onQos f).ports = d.ports := rfl
@[simp] theorem Dev.onQos_links (d : Dev) (f : Qos → Qos) : (d.onQos f).links = d.links := rfl
@[simp] theorem Dev.onQos_lds (d : Dev) (f : Qos → Qos) : (d.onQos f).lds = d.lds := rfl
@[simp] theorem Dev.onQos_grottos (d : Dev) (f : Qos → Qos) : (d.onQos f).grottos = d.grottos := rfl
@[simp] theorem Dev.onQos_pages (d : Dev) (f : Qos → Qos) : (d.onQos f).pages = d.pages := rfl
@[simp] theorem Dev.onQos_mem (d : Dev) (f : Qos → Qos) : (d.onQos f).mem = d.mem := rfl
@[simp] theorem Dev.onQos_slices (d : Dev) (f : Qos → Qos) : (d.onQos f).slices = d.slices := rfl
@[simp] theorem Dev.onQos_chans (d : Dev) (f : Qos → Qos) : (d.onQos f).chans = d.chans := rfl
@[simp] theorem Dev.onQos_flow (d : Dev) (f : Qos → Qos) : (d.onQos f).flow = d.flow := rfl
@[simp] theorem Dev.onQos_queues (d : Dev) (f : Qos → Qos) : (d.onQos f).queues = d.queues := rfl
@[simp] theorem Dev.onQos_ev (d : Dev) (f : Qos → Qos) : (d.onQos f).ev = d.ev := rfl
@[simp] theorem Dev.onQos_keys (d : Dev) (f : Qos → Qos) : (d.onQos f).keys = d.keys := rfl
@[simp] theorem Dev.onQos_key0 (d : Dev) (f : Qos → Qos) : (d.onQos f).key0 = d.key0 := rfl
@[simp] theorem Dev.onQos_holdKey (d : Dev) (f : Qos → Qos) : (d.onQos f).holdKey = d.holdKey := rfl
@[simp] theorem Dev.onQos_devTag (d : Dev) (f : Qos → Qos) : (d.onQos f).devTag = d.devTag := rfl
@[simp] theorem Dev.onQos_tagDone (d : Dev) (f : Qos → Qos) : (d.onQos f).tagDone = d.tagDone := rfl
@[simp] theorem Dev.onQos_fwUp (d : Dev) (f : Qos → Qos) : (d.onQos f).fwUp = d.fwUp := rfl
@[simp] theorem Dev.onQos_wrapped (d : Dev) (f : Qos → Qos) : (d.onQos f).wrapped = d.wrapped := rfl
@[simp] theorem Dev.onQos_fwDown (d : Dev) (f : Qos → Qos) : (d.onQos f).fwDown = d.fwDown := rfl
@[simp] theorem Dev.onQos_due (d : Dev) (f : Qos → Qos) : (d.onQos f).due = d.due := rfl
@[simp] theorem Dev.onQos_late (d : Dev) (f : Qos → Qos) : (d.onQos f).late = d.late := rfl
@[simp] theorem Dev.onQos_unsent (d : Dev) (f : Qos → Qos) : (d.onQos f).unsent = d.unsent := rfl
@[simp] theorem Dev.onQos_regPtr (d : Dev) (f : Qos → Qos) : (d.onQos f).regPtr = d.regPtr := rfl
@[simp] theorem Dev.onQos_freeCtr (d : Dev) (f : Qos → Qos) : (d.onQos f).freeCtr = d.freeCtr := rfl
@[simp] theorem Dev.onQos_out (d : Dev) (f : Qos → Qos) : (d.onQos f).out = d.out := rfl

@[simp] theorem Dev.onPages_plat (d : Dev) (f : Pages → Pages) : (d.onPages f).plat = d.plat := rfl
@[simp] theorem Dev.onPages_power (d : Dev) (f : Pages → Pages) : (d.onPages f).power = d.power := rfl
@[simp] theorem Dev.onPages_faults (d : Dev) (f : Pages → Pages) : (d.onPages f).faults = d.faults := rfl
@[simp] theorem Dev.onPages_cnt (d : Dev) (f : Pages → Pages) : (d.onPages f).cnt = d.cnt := rfl
@[simp] theorem Dev.onPages_qos (d : Dev) (f : Pages → Pages) : (d.onPages f).qos = d.qos := rfl
@[simp] theorem Dev.onPages_ports (d : Dev) (f : Pages → Pages) : (d.onPages f).ports = d.ports := rfl
@[simp] theorem Dev.onPages_links (d : Dev) (f : Pages → Pages) : (d.onPages f).links = d.links := rfl
@[simp] theorem Dev.onPages_lds (d : Dev) (f : Pages → Pages) : (d.onPages f).lds = d.lds := rfl
@[simp] theorem Dev.onPages_grottos (d : Dev) (f : Pages → Pages) : (d.onPages f).grottos = d.grottos := rfl
@[simp] theorem Dev.onPages_pages (d : Dev) (f : Pages → Pages) : (d.onPages f).pages = f d.pages := rfl
@[simp] theorem Dev.onPages_mem (d : Dev) (f : Pages → Pages) : (d.onPages f).mem = d.mem := rfl
@[simp] theorem Dev.onPages_slices (d : Dev) (f : Pages → Pages) : (d.onPages f).slices = d.slices := rfl
@[simp] theorem Dev.onPages_chans (d : Dev) (f : Pages → Pages) : (d.onPages f).chans = d.chans := rfl
@[simp] theorem Dev.onPages_flow (d : Dev) (f : Pages → Pages) : (d.onPages f).flow = d.flow := rfl
@[simp] theorem Dev.onPages_queues (d : Dev) (f : Pages → Pages) : (d.onPages f).queues = d.queues := rfl
@[simp] theorem Dev.onPages_ev (d : Dev) (f : Pages → Pages) : (d.onPages f).ev = d.ev := rfl
@[simp] theorem Dev.onPages_keys (d : Dev) (f : Pages → Pages) : (d.onPages f).keys = d.keys := rfl
@[simp] theorem Dev.onPages_key0 (d : Dev) (f : Pages → Pages) : (d.onPages f).key0 = d.key0 := rfl
@[simp] theorem Dev.onPages_holdKey (d : Dev) (f : Pages → Pages) : (d.onPages f).holdKey = d.holdKey := rfl
@[simp] theorem Dev.onPages_devTag (d : Dev) (f : Pages → Pages) : (d.onPages f).devTag = d.devTag := rfl
@[simp] theorem Dev.onPages_tagDone (d : Dev) (f : Pages → Pages) : (d.onPages f).tagDone = d.tagDone := rfl
@[simp] theorem Dev.onPages_fwUp (d : Dev) (f : Pages → Pages) : (d.onPages f).fwUp = d.fwUp := rfl
@[simp] theorem Dev.onPages_wrapped (d : Dev) (f : Pages → Pages) : (d.onPages f).wrapped = d.wrapped := rfl
@[simp] theorem Dev.onPages_fwDown (d : Dev) (f : Pages → Pages) : (d.onPages f).fwDown = d.fwDown := rfl
@[simp] theorem Dev.onPages_due (d : Dev) (f : Pages → Pages) : (d.onPages f).due = d.due := rfl
@[simp] theorem Dev.onPages_late (d : Dev) (f : Pages → Pages) : (d.onPages f).late = d.late := rfl
@[simp] theorem Dev.onPages_unsent (d : Dev) (f : Pages → Pages) : (d.onPages f).unsent = d.unsent := rfl
@[simp] theorem Dev.onPages_regPtr (d : Dev) (f : Pages → Pages) : (d.onPages f).regPtr = d.regPtr := rfl
@[simp] theorem Dev.onPages_freeCtr (d : Dev) (f : Pages → Pages) : (d.onPages f).freeCtr = d.freeCtr := rfl
@[simp] theorem Dev.onPages_out (d : Dev) (f : Pages → Pages) : (d.onPages f).out = d.out := rfl

@[simp] theorem Dev.onMem_plat (d : Dev) (f : Mem → Mem) : (d.onMem f).plat = d.plat := rfl
@[simp] theorem Dev.onMem_power (d : Dev) (f : Mem → Mem) : (d.onMem f).power = d.power := rfl
@[simp] theorem Dev.onMem_faults (d : Dev) (f : Mem → Mem) : (d.onMem f).faults = d.faults := rfl
@[simp] theorem Dev.onMem_cnt (d : Dev) (f : Mem → Mem) : (d.onMem f).cnt = d.cnt := rfl
@[simp] theorem Dev.onMem_qos (d : Dev) (f : Mem → Mem) : (d.onMem f).qos = d.qos := rfl
@[simp] theorem Dev.onMem_ports (d : Dev) (f : Mem → Mem) : (d.onMem f).ports = d.ports := rfl
@[simp] theorem Dev.onMem_links (d : Dev) (f : Mem → Mem) : (d.onMem f).links = d.links := rfl
@[simp] theorem Dev.onMem_lds (d : Dev) (f : Mem → Mem) : (d.onMem f).lds = d.lds := rfl
@[simp] theorem Dev.onMem_grottos (d : Dev) (f : Mem → Mem) : (d.onMem f).grottos = d.grottos := rfl
@[simp] theorem Dev.onMem_pages (d : Dev) (f : Mem → Mem) : (d.onMem f).pages = d.pages := rfl
@[simp] theorem Dev.onMem_mem (d : Dev) (f : Mem → Mem) : (d.onMem f).mem = f d.mem := rfl
@[simp] theorem Dev.onMem_slices (d : Dev) (f : Mem → Mem) : (d.onMem f).slices = d.slices := rfl
@[simp] theorem Dev.onMem_chans (d : Dev) (f : Mem → Mem) : (d.onMem f).chans = d.chans := rfl
@[simp] theorem Dev.onMem_flow (d : Dev) (f : Mem → Mem) : (d.onMem f).flow = d.flow := rfl
@[simp] theorem Dev.onMem_queues (d : Dev) (f : Mem → Mem) : (d.onMem f).queues = d.queues := rfl
@[simp] theorem Dev.onMem_ev (d : Dev) (f : Mem → Mem) : (d.onMem f).ev = d.ev := rfl
@[simp] theorem Dev.onMem_keys (d : Dev) (f : Mem → Mem) : (d.onMem f).keys = d.keys := rfl
@[simp] theorem Dev.onMem_key0 (d : Dev) (f : Mem → Mem) : (d.onMem f).key0 = d.key0 := rfl
@[simp] theorem Dev.onMem_holdKey (d : Dev) (f : Mem → Mem) : (d.onMem f).holdKey = d.holdKey := rfl
@[simp] theorem Dev.onMem_devTag (d : Dev) (f : Mem → Mem) : (d.onMem f).devTag = d.devTag := rfl
@[simp] theorem Dev.onMem_tagDone (d : Dev) (f : Mem → Mem) : (d.onMem f).tagDone = d.tagDone := rfl
@[simp] theorem Dev.onMem_fwUp (d : Dev) (f : Mem → Mem) : (d.onMem f).fwUp = d.fwUp := rfl
@[simp] theorem Dev.onMem_wrapped (d : Dev) (f : Mem → Mem) : (d.onMem f).wrapped = d.wrapped := rfl
@[simp] theorem Dev.onMem_fwDown (d : Dev) (f : Mem → Mem) : (d.onMem f).fwDown = d.fwDown := rfl
@[simp] theorem Dev.onMem_due (d : Dev) (f : Mem → Mem) : (d.onMem f).due = d.due := rfl
@[simp] theorem Dev.onMem_late (d : Dev) (f : Mem → Mem) : (d.onMem f).late = d.late := rfl
@[simp] theorem Dev.onMem_unsent (d : Dev) (f : Mem → Mem) : (d.onMem f).unsent = d.unsent := rfl
@[simp] theorem Dev.onMem_regPtr (d : Dev) (f : Mem → Mem) : (d.onMem f).regPtr = d.regPtr := rfl
@[simp] theorem Dev.onMem_freeCtr (d : Dev) (f : Mem → Mem) : (d.onMem f).freeCtr = d.freeCtr := rfl
@[simp] theorem Dev.onMem_out (d : Dev) (f : Mem → Mem) : (d.onMem f).out = d.out := rfl

@[simp] theorem Dev.onSlices_plat (d : Dev) (f : Slices → Slices) : (d.onSlices f).plat = d.plat := rfl
@[simp] theorem Dev.onSlices_power (d : Dev) (f : Slices → Slices) : (d.onSlices f).power = d.power := rfl
@[simp] theorem Dev.onSlices_faults (d : Dev) (f : Slices → Slices) : (d.onSlices f).faults = d.faults := rfl
@[simp] theorem Dev.onSlices_cnt (d : Dev) (f : Slices → Slices) : (d.onSlices f).cnt = d.cnt := rfl
@[simp] theorem Dev.onSlices_qos (d : Dev) (f : Slices → Slices) : (d.onSlices f).qos = d.qos := rfl
@[simp] theorem Dev.onSlices_ports (d : Dev) (f : Slices → Slices) : (d.onSlices f).ports = d.ports := rfl
@[simp] theorem Dev.onSlices_links (d : Dev) (f : Slices → Slices) : (d.onSlices f).links = d.links := rfl
@[simp] theorem Dev.onSlices_lds (d : Dev) (f : Slices → Slices) : (d.onSlices f).lds = d.lds := rfl
@[simp] theorem Dev.onSlices_grottos (d : Dev) (f : Slices → Slices) : (d.onSlices f).grottos = d.grottos := rfl
@[simp] theorem Dev.onSlices_pages (d : Dev) (f : Slices → Slices) : (d.onSlices f).pages = d.pages := rfl
@[simp] theorem Dev.onSlices_mem (d : Dev) (f : Slices → Slices) : (d.onSlices f).mem = d.mem := rfl
@[simp] theorem Dev.onSlices_slices (d : Dev) (f : Slices → Slices) : (d.onSlices f).slices = f d.slices := rfl
@[simp] theorem Dev.onSlices_chans (d : Dev) (f : Slices → Slices) : (d.onSlices f).chans = d.chans := rfl
@[simp] theorem Dev.onSlices_flow (d : Dev) (f : Slices → Slices) : (d.onSlices f).flow = d.flow := rfl
@[simp] theorem Dev.onSlices_queues (d : Dev) (f : Slices → Slices) : (d.onSlices f).queues = d.queues := rfl
@[simp] theorem Dev.onSlices_ev (d : Dev) (f : Slices → Slices) : (d.onSlices f).ev = d.ev := rfl
@[simp] theorem Dev.onSlices_keys (d : Dev) (f : Slices → Slices) : (d.onSlices f).keys = d.keys := rfl
@[simp] theorem Dev.onSlices_key0 (d : Dev) (f : Slices → Slices) : (d.onSlices f).key0 = d.key0 := rfl
@[simp] theorem Dev.onSlices_holdKey (d : Dev) (f : Slices → Slices) : (d.onSlices f).holdKey = d.holdKey := rfl
@[simp] theorem Dev.onSlices_devTag (d : Dev) (f : Slices → Slices) : (d.onSlices f).devTag = d.devTag := rfl
@[simp] theorem Dev.onSlices_tagDone (d : Dev) (f : Slices → Slices) : (d.onSlices f).tagDone = d.tagDone := rfl
@[simp] theorem Dev.onSlices_fwUp (d : Dev) (f : Slices → Slices) : (d.onSlices f).fwUp = d.fwUp := rfl
@[simp] theorem Dev.onSlices_wrapped (d : Dev) (f : Slices → Slices) : (d.onSlices f).wrapped = d.wrapped := rfl
@[simp] theorem Dev.onSlices_fwDown (d : Dev) (f : Slices → Slices) : (d.onSlices f).fwDown = d.fwDown := rfl
@[simp] theorem Dev.onSlices_due (d : Dev) (f : Slices → Slices) : (d.onSlices f).due = d.due := rfl
@[simp] theorem Dev.onSlices_late (d : Dev) (f : Slices → Slices) : (d.onSlices f).late = d.late := rfl
@[simp] theorem Dev.onSlices_unsent (d : Dev) (f : Slices → Slices) : (d.onSlices f).unsent = d.unsent := rfl
@[simp] theorem Dev.onSlices_regPtr (d : Dev) (f : Slices → Slices) : (d.onSlices f).regPtr = d.regPtr := rfl
@[simp] theorem Dev.onSlices_freeCtr (d : Dev) (f : Slices → Slices) : (d.onSlices f).freeCtr = d.freeCtr := rfl
@[simp] theorem Dev.onSlices_out (d : Dev) (f : Slices → Slices) : (d.onSlices f).out = d.out := rfl

@[simp] theorem Dev.onFlow_plat (d : Dev) (f : Flow → Flow) : (d.onFlow f).plat = d.plat := rfl
@[simp] theorem Dev.onFlow_power (d : Dev) (f : Flow → Flow) : (d.onFlow f).power = d.power := rfl
@[simp] theorem Dev.onFlow_faults (d : Dev) (f : Flow → Flow) : (d.onFlow f).faults = d.faults := rfl
@[simp] theorem Dev.onFlow_cnt (d : Dev) (f : Flow → Flow) : (d.onFlow f).cnt = d.cnt := rfl
@[simp] theorem Dev.onFlow_qos (d : Dev) (f : Flow → Flow) : (d.onFlow f).qos = d.qos := rfl
@[simp] theorem Dev.onFlow_ports (d : Dev) (f : Flow → Flow) : (d.onFlow f).ports = d.ports := rfl
@[simp] theorem Dev.onFlow_links (d : Dev) (f : Flow → Flow) : (d.onFlow f).links = d.links := rfl
@[simp] theorem Dev.onFlow_lds (d : Dev) (f : Flow → Flow) : (d.onFlow f).lds = d.lds := rfl
@[simp] theorem Dev.onFlow_grottos (d : Dev) (f : Flow → Flow) : (d.onFlow f).grottos = d.grottos := rfl
@[simp] theorem Dev.onFlow_pages (d : Dev) (f : Flow → Flow) : (d.onFlow f).pages = d.pages := rfl
@[simp] theorem Dev.onFlow_mem (d : Dev) (f : Flow → Flow) : (d.onFlow f).mem = d.mem := rfl
@[simp] theorem Dev.onFlow_slices (d : Dev) (f : Flow → Flow) : (d.onFlow f).slices = d.slices := rfl
@[simp] theorem Dev.onFlow_chans (d : Dev) (f : Flow → Flow) : (d.onFlow f).chans = d.chans := rfl
@[simp] theorem Dev.onFlow_flow (d : Dev) (f : Flow → Flow) : (d.onFlow f).flow = f d.flow := rfl
@[simp] theorem Dev.onFlow_queues (d : Dev) (f : Flow → Flow) : (d.onFlow f).queues = d.queues := rfl
@[simp] theorem Dev.onFlow_ev (d : Dev) (f : Flow → Flow) : (d.onFlow f).ev = d.ev := rfl
@[simp] theorem Dev.onFlow_keys (d : Dev) (f : Flow → Flow) : (d.onFlow f).keys = d.keys := rfl
@[simp] theorem Dev.onFlow_key0 (d : Dev) (f : Flow → Flow) : (d.onFlow f).key0 = d.key0 := rfl
@[simp] theorem Dev.onFlow_holdKey (d : Dev) (f : Flow → Flow) : (d.onFlow f).holdKey = d.holdKey := rfl
@[simp] theorem Dev.onFlow_devTag (d : Dev) (f : Flow → Flow) : (d.onFlow f).devTag = d.devTag := rfl
@[simp] theorem Dev.onFlow_tagDone (d : Dev) (f : Flow → Flow) : (d.onFlow f).tagDone = d.tagDone := rfl
@[simp] theorem Dev.onFlow_fwUp (d : Dev) (f : Flow → Flow) : (d.onFlow f).fwUp = d.fwUp := rfl
@[simp] theorem Dev.onFlow_wrapped (d : Dev) (f : Flow → Flow) : (d.onFlow f).wrapped = d.wrapped := rfl
@[simp] theorem Dev.onFlow_fwDown (d : Dev) (f : Flow → Flow) : (d.onFlow f).fwDown = d.fwDown := rfl
@[simp] theorem Dev.onFlow_due (d : Dev) (f : Flow → Flow) : (d.onFlow f).due = d.due := rfl
@[simp] theorem Dev.onFlow_late (d : Dev) (f : Flow → Flow) : (d.onFlow f).late = d.late := rfl
@[simp] theorem Dev.onFlow_unsent (d : Dev) (f : Flow → Flow) : (d.onFlow f).unsent = d.unsent := rfl
@[simp] theorem Dev.onFlow_regPtr (d : Dev) (f : Flow → Flow) : (d.onFlow f).regPtr = d.regPtr := rfl
@[simp] theorem Dev.onFlow_freeCtr (d : Dev) (f : Flow → Flow) : (d.onFlow f).freeCtr = d.freeCtr := rfl
@[simp] theorem Dev.onFlow_out (d : Dev) (f : Flow → Flow) : (d.onFlow f).out = d.out := rfl

@[simp] theorem Dev.onQueues_plat (d : Dev) (f : Queues → Queues) : (d.onQueues f).plat = d.plat := rfl
@[simp] theorem Dev.onQueues_power (d : Dev) (f : Queues → Queues) : (d.onQueues f).power = d.power := rfl
@[simp] theorem Dev.onQueues_faults (d : Dev) (f : Queues → Queues) : (d.onQueues f).faults = d.faults := rfl
@[simp] theorem Dev.onQueues_cnt (d : Dev) (f : Queues → Queues) : (d.onQueues f).cnt = d.cnt := rfl
@[simp] theorem Dev.onQueues_qos (d : Dev) (f : Queues → Queues) : (d.onQueues f).qos = d.qos := rfl
@[simp] theorem Dev.onQueues_ports (d : Dev) (f : Queues → Queues) : (d.onQueues f).ports = d.ports := rfl
@[simp] theorem Dev.onQueues_links (d : Dev) (f : Queues → Queues) : (d.onQueues f).links = d.links := rfl
@[simp] theorem Dev.onQueues_lds (d : Dev) (f : Queues → Queues) : (d.onQueues f).lds = d.lds := rfl
@[simp] theorem Dev.onQueues_grottos (d : Dev) (f : Queues → Queues) : (d.onQueues f).grottos = d.grottos := rfl
@[simp] theorem Dev.onQueues_pages (d : Dev) (f : Queues → Queues) : (d.onQueues f).pages = d.pages := rfl
@[simp] theorem Dev.onQueues_mem (d : Dev) (f : Queues → Queues) : (d.onQueues f).mem = d.mem := rfl
@[simp] theorem Dev.onQueues_slices (d : Dev) (f : Queues → Queues) : (d.onQueues f).slices = d.slices := rfl
@[simp] theorem Dev.onQueues_chans (d : Dev) (f : Queues → Queues) : (d.onQueues f).chans = d.chans := rfl
@[simp] theorem Dev.onQueues_flow (d : Dev) (f : Queues → Queues) : (d.onQueues f).flow = d.flow := rfl
@[simp] theorem Dev.onQueues_queues (d : Dev) (f : Queues → Queues) : (d.onQueues f).queues = f d.queues := rfl
@[simp] theorem Dev.onQueues_ev (d : Dev) (f : Queues → Queues) : (d.onQueues f).ev = d.ev := rfl
@[simp] theorem Dev.onQueues_keys (d : Dev) (f : Queues → Queues) : (d.onQueues f).keys = d.keys := rfl
@[simp] theorem Dev.onQueues_key0 (d : Dev) (f : Queues → Queues) : (d.onQueues f).key0 = d.key0 := rfl
@[simp] theorem Dev.onQueues_holdKey (d : Dev) (f : Queues → Queues) : (d.onQueues f).holdKey = d.holdKey := rfl
@[simp] theorem Dev.onQueues_devTag (d : Dev) (f : Queues → Queues) : (d.onQueues f).devTag = d.devTag := rfl
@[simp] theorem Dev.onQueues_tagDone (d : Dev) (f : Queues → Queues) : (d.onQueues f).tagDone = d.tagDone := rfl
@[simp] theorem Dev.onQueues_fwUp (d : Dev) (f : Queues → Queues) : (d.onQueues f).fwUp = d.fwUp := rfl
@[simp] theorem Dev.onQueues_wrapped (d : Dev) (f : Queues → Queues) : (d.onQueues f).wrapped = d.wrapped := rfl
@[simp] theorem Dev.onQueues_fwDown (d : Dev) (f : Queues → Queues) : (d.onQueues f).fwDown = d.fwDown := rfl
@[simp] theorem Dev.onQueues_due (d : Dev) (f : Queues → Queues) : (d.onQueues f).due = d.due := rfl
@[simp] theorem Dev.onQueues_late (d : Dev) (f : Queues → Queues) : (d.onQueues f).late = d.late := rfl
@[simp] theorem Dev.onQueues_unsent (d : Dev) (f : Queues → Queues) : (d.onQueues f).unsent = d.unsent := rfl
@[simp] theorem Dev.onQueues_regPtr (d : Dev) (f : Queues → Queues) : (d.onQueues f).regPtr = d.regPtr := rfl
@[simp] theorem Dev.onQueues_freeCtr (d : Dev) (f : Queues → Queues) : (d.onQueues f).freeCtr = d.freeCtr := rfl
@[simp] theorem Dev.onQueues_out (d : Dev) (f : Queues → Queues) : (d.onQueues f).out = d.out := rfl

@[simp] theorem Dev.onEv_plat (d : Dev) (f : Evoil → Evoil) : (d.onEv f).plat = d.plat := rfl
@[simp] theorem Dev.onEv_power (d : Dev) (f : Evoil → Evoil) : (d.onEv f).power = d.power := rfl
@[simp] theorem Dev.onEv_faults (d : Dev) (f : Evoil → Evoil) : (d.onEv f).faults = d.faults := rfl
@[simp] theorem Dev.onEv_cnt (d : Dev) (f : Evoil → Evoil) : (d.onEv f).cnt = d.cnt := rfl
@[simp] theorem Dev.onEv_qos (d : Dev) (f : Evoil → Evoil) : (d.onEv f).qos = d.qos := rfl
@[simp] theorem Dev.onEv_ports (d : Dev) (f : Evoil → Evoil) : (d.onEv f).ports = d.ports := rfl
@[simp] theorem Dev.onEv_links (d : Dev) (f : Evoil → Evoil) : (d.onEv f).links = d.links := rfl
@[simp] theorem Dev.onEv_lds (d : Dev) (f : Evoil → Evoil) : (d.onEv f).lds = d.lds := rfl
@[simp] theorem Dev.onEv_grottos (d : Dev) (f : Evoil → Evoil) : (d.onEv f).grottos = d.grottos := rfl
@[simp] theorem Dev.onEv_pages (d : Dev) (f : Evoil → Evoil) : (d.onEv f).pages = d.pages := rfl
@[simp] theorem Dev.onEv_mem (d : Dev) (f : Evoil → Evoil) : (d.onEv f).mem = d.mem := rfl
@[simp] theorem Dev.onEv_slices (d : Dev) (f : Evoil → Evoil) : (d.onEv f).slices = d.slices := rfl
@[simp] theorem Dev.onEv_chans (d : Dev) (f : Evoil → Evoil) : (d.onEv f).chans = d.chans := rfl
@[simp] theorem Dev.onEv_flow (d : Dev) (f : Evoil → Evoil) : (d.onEv f).flow = d.flow := rfl
@[simp] theorem Dev.onEv_queues (d : Dev) (f : Evoil → Evoil) : (d.onEv f).queues = d.queues := rfl
@[simp] theorem Dev.onEv_ev (d : Dev) (f : Evoil → Evoil) : (d.onEv f).ev = f d.ev := rfl
@[simp] theorem Dev.onEv_keys (d : Dev) (f : Evoil → Evoil) : (d.onEv f).keys = d.keys := rfl
@[simp] theorem Dev.onEv_key0 (d : Dev) (f : Evoil → Evoil) : (d.onEv f).key0 = d.key0 := rfl
@[simp] theorem Dev.onEv_holdKey (d : Dev) (f : Evoil → Evoil) : (d.onEv f).holdKey = d.holdKey := rfl
@[simp] theorem Dev.onEv_devTag (d : Dev) (f : Evoil → Evoil) : (d.onEv f).devTag = d.devTag := rfl
@[simp] theorem Dev.onEv_tagDone (d : Dev) (f : Evoil → Evoil) : (d.onEv f).tagDone = d.tagDone := rfl
@[simp] theorem Dev.onEv_fwUp (d : Dev) (f : Evoil → Evoil) : (d.onEv f).fwUp = d.fwUp := rfl
@[simp] theorem Dev.onEv_wrapped (d : Dev) (f : Evoil → Evoil) : (d.onEv f).wrapped = d.wrapped := rfl
@[simp] theorem Dev.onEv_fwDown (d : Dev) (f : Evoil → Evoil) : (d.onEv f).fwDown = d.fwDown := rfl
@[simp] theorem Dev.onEv_due (d : Dev) (f : Evoil → Evoil) : (d.onEv f).due = d.due := rfl
@[simp] theorem Dev.onEv_late (d : Dev) (f : Evoil → Evoil) : (d.onEv f).late = d.late := rfl
@[simp] theorem Dev.onEv_unsent (d : Dev) (f : Evoil → Evoil) : (d.onEv f).unsent = d.unsent := rfl
@[simp] theorem Dev.onEv_regPtr (d : Dev) (f : Evoil → Evoil) : (d.onEv f).regPtr = d.regPtr := rfl
@[simp] theorem Dev.onEv_freeCtr (d : Dev) (f : Evoil → Evoil) : (d.onEv f).freeCtr = d.freeCtr := rfl
@[simp] theorem Dev.onEv_out (d : Dev) (f : Evoil → Evoil) : (d.onEv f).out = d.out := rfl

@[simp] theorem Dev.emit_plat (d : Dev) (m : Msg) : (d.emit m).plat = d.plat := rfl
@[simp] theorem Dev.emit_power (d : Dev) (m : Msg) : (d.emit m).power = d.power := rfl
@[simp] theorem Dev.emit_faults (d : Dev) (m : Msg) : (d.emit m).faults = d.faults := rfl
@[simp] theorem Dev.emit_cnt (d : Dev) (m : Msg) : (d.emit m).cnt = d.cnt := rfl
@[simp] theorem Dev.emit_qos (d : Dev) (m : Msg) : (d.emit m).qos = d.qos := rfl
@[simp] theorem Dev.emit_ports (d : Dev) (m : Msg) : (d.emit m).ports = d.ports := rfl
@[simp] theorem Dev.emit_links (d : Dev) (m : Msg) : (d.emit m).links = d.links := rfl
@[simp] theorem Dev.emit_lds (d : Dev) (m : Msg) : (d.emit m).lds = d.lds := rfl
@[simp] theorem Dev.emit_grottos (d : Dev) (m : Msg) : (d.emit m).grottos = d.grottos := rfl
@[simp] theorem Dev.emit_pages (d : Dev) (m : Msg) : (d.emit m).pages = d.pages := rfl
@[simp] theorem Dev.emit_mem (d : Dev) (m : Msg) : (d.emit m).mem = d.mem := rfl
@[simp] theorem Dev.emit_slices (d : Dev) (m : Msg) : (d.emit m).slices = d.slices := rfl
@[simp] theorem Dev.emit_chans (d : Dev) (m : Msg) : (d.emit m).chans = d.chans := rfl
@[simp] theorem Dev.emit_flow (d : Dev) (m : Msg) : (d.emit m).flow = d.flow := rfl
@[simp] theorem Dev.emit_queues (d : Dev) (m : Msg) : (d.emit m).queues = d.queues := rfl
@[simp] theorem Dev.emit_ev (d : Dev) (m : Msg) : (d.emit m).ev = d.ev := rfl
@[simp] theorem Dev.emit_keys (d : Dev) (m : Msg) : (d.emit m).keys = d.keys := rfl
@[simp] theorem Dev.emit_key0 (d : Dev) (m : Msg) : (d.emit m).key0 = d.key0 := rfl
@[simp] theorem Dev.emit_holdKey (d : Dev) (m : Msg) : (d.emit m).holdKey = d.holdKey := rfl
@[simp] theorem Dev.emit_devTag (d : Dev) (m : Msg) : (d.emit m).devTag = d.devTag := rfl
@[simp] theorem Dev.emit_tagDone (d : Dev) (m : Msg) : (d.emit m).tagDone = d.tagDone := rfl
@[simp] theorem Dev.emit_fwUp (d : Dev) (m : Msg) : (d.emit m).fwUp = d.fwUp := rfl
@[simp] theorem Dev.emit_wrapped (d : Dev) (m : Msg) : (d.emit m).wrapped = d.wrapped := rfl
@[simp] theorem Dev.emit_fwDown (d : Dev) (m : Msg) : (d.emit m).fwDown = d.fwDown := rfl
@[simp] theorem Dev.emit_due (d : Dev) (m : Msg) : (d.emit m).due = d.due := rfl
@[simp] theorem Dev.emit_late (d : Dev) (m : Msg) : (d.emit m).late = d.late := rfl
@[simp] theorem Dev.emit_unsent (d : Dev) (m : Msg) : (d.emit m).unsent = d.unsent := rfl
@[simp] theorem Dev.emit_regPtr (d : Dev) (m : Msg) : (d.emit m).regPtr = d.regPtr := rfl
@[simp] theorem Dev.emit_freeCtr (d : Dev) (m : Msg) : (d.emit m).freeCtr = d.freeCtr := rfl
@[simp] theorem Dev.emit_out (d : Dev) (m : Msg) : (d.emit m).out = d.out ++ [{ msg := m, source := d.sourceOf m }] := rfl

@[simp] theorem Dev.setLink_plat (d : Dev) (l : Nat) (k : Link) : (d.setLink l k).plat = d.plat := rfl
@[simp] theorem Dev.setLink_power (d : Dev) (l : Nat) (k : Link) : (d.setLink l k).power = d.power := rfl
@[simp] theorem Dev.setLink_faults (d : Dev) (l : Nat) (k : Link) : (d.setLink l k).faults = d.faults := rfl
@[simp] theorem Dev.setLink_cnt (d : Dev) (l : Nat) (k : Link) : (d.setLink l k).cnt = d.cnt := rfl
@[simp] theorem Dev.setLink_qos (d : Dev) (l : Nat) (k : Link) : (d.setLink l k).qos = d.qos := rfl
@[simp] theorem Dev.setLink_ports (d : Dev) (l : Nat) (k : Link) : (d.setLink l k).ports = d.ports := rfl
@[simp] theorem Dev.setLink_links (d : Dev) (l : Nat) (k : Link) : (d.setLink l k).links = mput d.links {} l k := rfl
@[simp] theorem Dev.setLink_lds (d : Dev) (l : Nat) (k : Link) : (d.setLink l k).lds = d.lds := rfl
@[simp] theorem Dev.setLink_grottos (d : Dev) (l : Nat) (k : Link) : (d.setLink l k).grottos = d.grottos := rfl
@[simp] theorem Dev.setLink_pages (d : Dev) (l : Nat) (k : Link) : (d.setLink l k).pages = d.pages := rfl
@[simp] theorem Dev.setLink_mem (d : Dev) (l : Nat) (k : Link) : (d.setLink l k).mem = d.mem := rfl
@[simp] theorem Dev.setLink_slices (d : Dev) (l : Nat) (k : Link) : (d.setLink l k).slices = d.slices := rfl
@[simp] theorem Dev.setLink_chans (d : Dev) (l : Nat) (k : Link) : (d.setLink l k).chans = d.chans := rfl
@[simp] theorem Dev.setLink_flow (d : Dev) (l : Nat) (k : Link) : (d.setLink l k).flow = d.flow := rfl
@[simp] theorem Dev.setLink_queues (d : Dev) (l : Nat) (k : Link) : (d.setLink l k).queues = d.queues := rfl
@[simp] theorem Dev.setLink_ev (d : Dev) (l : Nat) (k : Link) : (d.setLink l k).ev = d.ev := rfl
@[simp] theorem Dev.setLink_keys (d : Dev) (l : Nat) (k : Link) : (d.setLink l k).keys = d.keys := rfl
@[simp] theorem Dev.setLink_key0 (d : Dev) (l : Nat) (k : Link) : (d.setLink l k).key0 = d.key0 := rfl
@[simp] theorem Dev.setLink_holdKey (d : Dev) (l : Nat) (k : Link) : (d.setLink l k).holdKey = d.holdKey := rfl
@[simp] theorem Dev.setLink_devTag (d : Dev) (l : Nat) (k : Link) : (d.setLink l k).devTag = d.devTag := rfl
@[simp] theorem Dev.setLink_tagDone (d : Dev) (l : Nat) (k : Link) : (d.setLink l k).tagDone = d.tagDone := rfl
@[simp] theorem Dev.setLink_fwUp (d : Dev) (l : Nat) (k : Link) : (d.setLink l k).fwUp = d.fwUp := rfl
@[simp] theorem Dev.setLink_wrapped (d : Dev) (l : Nat) (k : Link) : (d.setLink l k).wrapped = d.wrapped := rfl
@[simp] theorem Dev.setLink_fwDown (d : Dev) (l : Nat) (k : Link) : (d.setLink l k).fwDown = d.fwDown := rfl
@[simp] theorem Dev.setLink_due (d : Dev) (l : Nat) (k : Link) : (d.setLink l k).due = d.due := rfl
@[simp] theorem Dev.setLink_late (d : Dev) (l : Nat) (k : Link) : (d.setLink l k).late = d.late := rfl
@[simp] theorem Dev.setLink_unsent (d : Dev) (l : Nat) (k : Link) : (d.setLink l k).unsent = d.unsent := rfl
@[simp] theorem Dev.setLink_regPtr (d : Dev) (l : Nat) (k : Link) : (d.setLink l k).regPtr = d.regPtr := rfl
@[simp] theorem Dev.setLink_freeCtr (d : Dev) (l : Nat) (k : Link) : (d.setLink l k).freeCtr = d.freeCtr := rfl
@[simp] theorem Dev.setLink_out (d : Dev) (l : Nat) (k : Link) : (d.setLink l k).out = d.out := rfl

@[simp] theorem Dev.setLd_plat (d : Dev) (l ld : Nat) (x : Ld) : (d.setLd l ld x).plat = d.plat := rfl
@[simp] theorem Dev.setLd_power (d : Dev) (l ld : Nat) (x : Ld) : (d.setLd l ld x).power = d.power := rfl
@[simp] theorem Dev.setLd_faults (d : Dev) (l ld : Nat) (x : Ld) : (d.setLd l ld x).faults = d.faults := rfl
@[simp] theorem Dev.setLd_cnt (d : Dev) (l ld : Nat) (x : Ld) : (d.setLd l ld x).cnt = d.cnt := rfl
@[simp] theorem Dev.setLd_qos (d : Dev) (l ld : Nat) (x : Ld) : (d.setLd l ld x).qos = d.qos := rfl
@[simp] theorem Dev.setLd_ports (d : Dev) (l ld : Nat) (x : Ld) : (d.setLd l ld x).ports = d.ports := rfl
@[simp] theorem Dev.setLd_links (d : Dev) (l ld : Nat) (x : Ld) : (d.setLd l ld x).links = d.links := rfl
@[simp] theorem Dev.setLd_lds (d : Dev) (l ld : Nat) (x : Ld) : (d.setLd l ld x).lds = mput d.lds {} (ldKey l ld) x := rfl
@[simp] theorem Dev.setLd_grottos (d : Dev) (l ld : Nat) (x : Ld) : (d.setLd l ld x).grottos = d.grottos := rfl
@[simp] theorem Dev.setLd_pages (d : Dev) (l ld : Nat) (x : Ld) : (d.setLd l ld x).pages = d.pages := rfl
@[simp] theorem Dev.setLd_mem (d : Dev) (l ld : Nat) (x : Ld) : (d.setLd l ld x).mem = d.mem := rfl
@[simp] theorem Dev.setLd_slices (d : Dev) (l ld : Nat) (x : Ld) : (d.setLd l ld x).slices = d.slices := rfl
@[simp] theorem Dev.setLd_chans (d : Dev) (l ld : Nat) (x : Ld) : (d.setLd l ld x).chans = d.chans := rfl
@[simp] theorem Dev.setLd_flow (d : Dev) (l ld : Nat) (x : Ld) : (d.setLd l ld x).flow = d.flow := rfl
@[simp] theorem Dev.setLd_queues (d : Dev) (l ld : Nat) (x : Ld) : (d.setLd l ld x).queues = d.queues := rfl
@[simp] theorem Dev.setLd_ev (d : Dev) (l ld : Nat) (x : Ld) : (d.setLd l ld x).ev = d.ev := rfl
@[simp] theorem Dev.setLd_keys (d : Dev) (l ld : Nat) (x : Ld) : (d.setLd l ld x).keys = d.keys := rfl
@[simp] theorem Dev.setLd_key0 (d : Dev) (l ld : Nat) (x : Ld) : (d.setLd l ld x).key0 = d.key0 := rfl
@[simp] theorem Dev.setLd_holdKey (d : Dev) (l ld : Nat) (x : Ld) : (d.setLd l ld x).holdKey = d.holdKey := rfl
@[simp] theorem Dev.setLd_devTag (d : Dev) (l ld : Nat) (x : Ld) : (d.setLd l ld x).devTag = d.devTag := rfl
@[simp] theorem Dev.setLd_tagDone (d : Dev) (l ld : Nat) (x : Ld) : (d.setLd l ld x).tagDone = d.tagDone := rfl
@[simp] theorem Dev.setLd_fwUp (d : Dev) (l ld : Nat) (x : Ld) : (d.setLd l ld x).fwUp = d.fwUp := rfl
@[simp] theorem Dev.setLd_wrapped (d : Dev) (l ld : Nat) (x : Ld) : (d.setLd l ld x).wrapped = d.wrapped := rfl
@[simp] theorem Dev.setLd_fwDown (d : Dev) (l ld : Nat) (x : Ld) : (d.setLd l ld x).fwDown = d.fwDown := rfl
@[simp] theorem Dev.setLd_due (d : Dev) (l ld : Nat) (x : Ld) : (d.setLd l ld x).due = d.due := rfl
@[simp] theorem Dev.setLd_late (d : Dev) (l ld : Nat) (x : Ld) : (d.setLd l ld x).late = d.late := rfl
@[simp] theorem Dev.setLd_unsent (d : Dev) (l ld : Nat) (x : Ld) : (d.setLd l ld x).unsent = d.unsent := rfl
@[simp] theorem Dev.setLd_regPtr (d : Dev) (l ld : Nat) (x : Ld) : (d.setLd l ld x).regPtr = d.regPtr := rfl
@[simp] theorem Dev.setLd_freeCtr (d : Dev) (l ld : Nat) (x : Ld) : (d.setLd l ld x).freeCtr = d.freeCtr := rfl
@[simp] theorem Dev.setLd_out (d : Dev) (l ld : Nat) (x : Ld) : (d.setLd l ld x).out = d.out := rfl

@[simp] theorem Dev.setGrotto_plat (d : Dev) (g : Nat) (x : Grotto) : (d.setGrotto g x).plat = d.plat := rfl
@[simp] theorem Dev.setGrotto_power (d : Dev) (g : Nat) (x : Grotto) : (d.setGrotto g x).power = d.power := rfl
@[simp] theorem Dev.setGrotto_faults (d : Dev) (g : Nat) (x : Grotto) : (d.setGrotto g x).faults = d.faults := rfl
@[simp] theorem Dev.setGrotto_cnt (d : Dev) (g : Nat) (x : Grotto) : (d.setGrotto g x).cnt = d.cnt := rfl
@[simp] theorem Dev.setGrotto_qos (d : Dev) (g : Nat) (x : Grotto) : (d.setGrotto g x).qos = d.qos := rfl
@[simp] theorem Dev.setGrotto_ports (d : Dev) (g : Nat) (x : Grotto) : (d.setGrotto g x).ports = d.ports := rfl
@[simp] theorem Dev.setGrotto_links (d : Dev) (g : Nat) (x : Grotto) : (d.setGrotto g x).links = d.links := rfl
@[simp] theorem Dev.setGrotto_lds (d : Dev) (g : Nat) (x : Grotto) : (d.setGrotto g x).lds = d.lds := rfl
@[simp] theorem Dev.setGrotto_grottos (d : Dev) (g : Nat) (x : Grotto) : (d.setGrotto g x).grottos = mset d.grottos g x := rfl
@[simp] theorem Dev.setGrotto_pages (d : Dev) (g : Nat) (x : Grotto) : (d.setGrotto g x).pages = d.pages := rfl
@[simp] theorem Dev.setGrotto_mem (d : Dev) (g : Nat) (x : Grotto) : (d.setGrotto g x).mem = d.mem := rfl
@[simp] theorem Dev.setGrotto_slices (d : Dev) (g : Nat) (x : Grotto) : (d.setGrotto g x).slices = d.slices := rfl
@[simp] theorem Dev.setGrotto_chans (d : Dev) (g : Nat) (x : Grotto) : (d.setGrotto g x).chans = d.chans := rfl
@[simp] theorem Dev.setGrotto_flow (d : Dev) (g : Nat) (x : Grotto) : (d.setGrotto g x).flow = d.flow := rfl
@[simp] theorem Dev.setGrotto_queues (d : Dev) (g : Nat) (x : Grotto) : (d.setGrotto g x).queues = d.queues := rfl
@[simp] theorem Dev.setGrotto_ev (d : Dev) (g : Nat) (x : Grotto) : (d.setGrotto g x).ev = d.ev := rfl
@[simp] theorem Dev.setGrotto_keys (d : Dev) (g : Nat) (x : Grotto) : (d.setGrotto g x).keys = d.keys := rfl
@[simp] theorem Dev.setGrotto_key0 (d : Dev) (g : Nat) (x : Grotto) : (d.setGrotto g x).key0 = d.key0 := rfl
@[simp] theorem Dev.setGrotto_holdKey (d : Dev) (g : Nat) (x : Grotto) : (d.setGrotto g x).holdKey = d.holdKey := rfl
@[simp] theorem Dev.setGrotto_devTag (d : Dev) (g : Nat) (x : Grotto) : (d.setGrotto g x).devTag = d.devTag := rfl
@[simp] theorem Dev.setGrotto_tagDone (d : Dev) (g : Nat) (x : Grotto) : (d.setGrotto g x).tagDone = d.tagDone := rfl
@[simp] theorem Dev.setGrotto_fwUp (d : Dev) (g : Nat) (x : Grotto) : (d.setGrotto g x).fwUp = d.fwUp := rfl
@[simp] theorem Dev.setGrotto_wrapped (d : Dev) (g : Nat) (x : Grotto) : (d.setGrotto g x).wrapped = d.wrapped := rfl
@[simp] theorem Dev.setGrotto_fwDown (d : Dev) (g : Nat) (x : Grotto) : (d.setGrotto g x).fwDown = d.fwDown := rfl
@[simp] theorem Dev.setGrotto_due (d : Dev) (g : Nat) (x : Grotto) : (d.setGrotto g x).due = d.due := rfl
@[simp] theorem Dev.setGrotto_late (d : Dev) (g : Nat) (x : Grotto) : (d.setGrotto g x).late = d.late := rfl
@[simp] theorem Dev.setGrotto_unsent (d : Dev) (g : Nat) (x : Grotto) : (d.setGrotto g x).unsent = d.unsent := rfl
@[simp] theorem Dev.setGrotto_regPtr (d : Dev) (g : Nat) (x : Grotto) : (d.setGrotto g x).regPtr = d.regPtr := rfl
@[simp] theorem Dev.setGrotto_freeCtr (d : Dev) (g : Nat) (x : Grotto) : (d.setGrotto g x).freeCtr = d.freeCtr := rfl
@[simp] theorem Dev.setGrotto_out (d : Dev) (g : Nat) (x : Grotto) : (d.setGrotto g x).out = d.out := rfl

@[simp] theorem Dev.setChan_plat (d : Dev) (c : Nat) (x : Chan) : (d.setChan c x).plat = d.plat := rfl
@[simp] theorem Dev.setChan_power (d : Dev) (c : Nat) (x : Chan) : (d.setChan c x).power = d.power := rfl
@[simp] theorem Dev.setChan_faults (d : Dev) (c : Nat) (x : Chan) : (d.setChan c x).faults = d.faults := rfl
@[simp] theorem Dev.setChan_cnt (d : Dev) (c : Nat) (x : Chan) : (d.setChan c x).cnt = d.cnt := rfl
@[simp] theorem Dev.setChan_qos (d : Dev) (c : Nat) (x : Chan) : (d.setChan c x).qos = d.qos := rfl
@[simp] theorem Dev.setChan_ports (d : Dev) (c : Nat) (x : Chan) : (d.setChan c x).ports = d.ports := rfl
@[simp] theorem Dev.setChan_links (d : Dev) (c : Nat) (x : Chan) : (d.setChan c x).links = d.links := rfl
@[simp] theorem Dev.setChan_lds (d : Dev) (c : Nat) (x : Chan) : (d.setChan c x).lds = d.lds := rfl
@[simp] theorem Dev.setChan_grottos (d : Dev) (c : Nat) (x : Chan) : (d.setChan c x).grottos = d.grottos := rfl
@[simp] theorem Dev.setChan_pages (d : Dev) (c : Nat) (x : Chan) : (d.setChan c x).pages = d.pages := rfl
@[simp] theorem Dev.setChan_mem (d : Dev) (c : Nat) (x : Chan) : (d.setChan c x).mem = d.mem := rfl
@[simp] theorem Dev.setChan_slices (d : Dev) (c : Nat) (x : Chan) : (d.setChan c x).slices = d.slices := rfl
@[simp] theorem Dev.setChan_chans (d : Dev) (c : Nat) (x : Chan) : (d.setChan c x).chans = mput d.chans {} c x := rfl
@[simp] theorem Dev.setChan_flow (d : Dev) (c : Nat) (x : Chan) : (d.setChan c x).flow = d.flow := rfl
@[simp] theorem Dev.setChan_queues (d : Dev) (c : Nat) (x : Chan) : (d.setChan c x).queues = d.queues := rfl
@[simp] theorem Dev.setChan_ev (d : Dev) (c : Nat) (x : Chan) : (d.setChan c x).ev = d.ev := rfl
@[simp] theorem Dev.setChan_keys (d : Dev) (c : Nat) (x : Chan) : (d.setChan c x).keys = d.keys := rfl
@[simp] theorem Dev.setChan_key0 (d : Dev) (c : Nat) (x : Chan) : (d.setChan c x).key0 = d.key0 := rfl
@[simp] theorem Dev.setChan_holdKey (d : Dev) (c : Nat) (x : Chan) : (d.setChan c x).holdKey = d.holdKey := rfl
@[simp] theorem Dev.setChan_devTag (d : Dev) (c : Nat) (x : Chan) : (d.setChan c x).devTag = d.devTag := rfl
@[simp] theorem Dev.setChan_tagDone (d : Dev) (c : Nat) (x : Chan) : (d.setChan c x).tagDone = d.tagDone := rfl
@[simp] theorem Dev.setChan_fwUp (d : Dev) (c : Nat) (x : Chan) : (d.setChan c x).fwUp = d.fwUp := rfl
@[simp] theorem Dev.setChan_wrapped (d : Dev) (c : Nat) (x : Chan) : (d.setChan c x).wrapped = d.wrapped := rfl
@[simp] theorem Dev.setChan_fwDown (d : Dev) (c : Nat) (x : Chan) : (d.setChan c x).fwDown = d.fwDown := rfl
@[simp] theorem Dev.setChan_due (d : Dev) (c : Nat) (x : Chan) : (d.setChan c x).due = d.due := rfl
@[simp] theorem Dev.setChan_late (d : Dev) (c : Nat) (x : Chan) : (d.setChan c x).late = d.late := rfl
@[simp] theorem Dev.setChan_unsent (d : Dev) (c : Nat) (x : Chan) : (d.setChan c x).unsent = d.unsent := rfl
@[simp] theorem Dev.setChan_regPtr (d : Dev) (c : Nat) (x : Chan) : (d.setChan c x).regPtr = d.regPtr := rfl
@[simp] theorem Dev.setChan_freeCtr (d : Dev) (c : Nat) (x : Chan) : (d.setChan c x).freeCtr = d.freeCtr := rfl
@[simp] theorem Dev.setChan_out (d : Dev) (c : Nat) (x : Chan) : (d.setChan c x).out = d.out := rfl

@[simp] theorem Dev.setQueue_plat (d : Dev) (q : Nat) (x : Queue) : (d.setQueue q x).plat = d.plat := rfl
@[simp] theorem Dev.setQueue_power (d : Dev) (q : Nat) (x : Queue) : (d.setQueue q x).power = d.power := rfl
@[simp] theorem Dev.setQueue_faults (d : Dev) (q : Nat) (x : Queue) : (d.setQueue q x).faults = d.faults := rfl
@[simp] theorem Dev.setQueue_cnt (d : Dev) (q : Nat) (x : Queue) : (d.setQueue q x).cnt = d.cnt := rfl
@[simp] theorem Dev.setQueue_qos (d : Dev) (q : Nat) (x : Queue) : (d.setQueue q x).qos = d.qos := rfl
@[simp] theorem Dev.setQueue_ports (d : Dev) (q : Nat) (x : Queue) : (d.setQueue q x).ports = d.ports := rfl
@[simp] theorem Dev.setQueue_links (d : Dev) (q : Nat) (x : Queue) : (d.setQueue q x).links = d.links := rfl
@[simp] theorem Dev.setQueue_lds (d : Dev) (q : Nat) (x : Queue) : (d.setQueue q x).lds = d.lds := rfl
@[simp] theorem Dev.setQueue_grottos (d : Dev) (q : Nat) (x : Queue) : (d.setQueue q x).grottos = d.grottos := rfl
@[simp] theorem Dev.setQueue_pages (d : Dev) (q : Nat) (x : Queue) : (d.setQueue q x).pages = d.pages := rfl
@[simp] theorem Dev.setQueue_mem (d : Dev) (q : Nat) (x : Queue) : (d.setQueue q x).mem = d.mem := rfl
@[simp] theorem Dev.setQueue_slices (d : Dev) (q : Nat) (x : Queue) : (d.setQueue q x).slices = d.slices := rfl
@[simp] theorem Dev.setQueue_chans (d : Dev) (q : Nat) (x : Queue) : (d.setQueue q x).chans = d.chans := rfl
@[simp] theorem Dev.setQueue_flow (d : Dev) (q : Nat) (x : Queue) : (d.setQueue q x).flow = d.flow := rfl
@[simp] theorem Dev.setQueue_queues (d : Dev) (q : Nat) (x : Queue) : (d.setQueue q x).queues = { d.queues with qs := mset d.queues.qs q x } := rfl
@[simp] theorem Dev.setQueue_ev (d : Dev) (q : Nat) (x : Queue) : (d.setQueue q x).ev = d.ev := rfl
@[simp] theorem Dev.setQueue_keys (d : Dev) (q : Nat) (x : Queue) : (d.setQueue q x).keys = d.keys := rfl
@[simp] theorem Dev.setQueue_key0 (d : Dev) (q : Nat) (x : Queue) : (d.setQueue q x).key0 = d.key0 := rfl
@[simp] theorem Dev.setQueue_holdKey (d : Dev) (q : Nat) (x : Queue) : (d.setQueue q x).holdKey = d.holdKey := rfl
@[simp] theorem Dev.setQueue_devTag (d : Dev) (q : Nat) (x : Queue) : (d.setQueue q x).devTag = d.devTag := rfl
@[simp] theorem Dev.setQueue_tagDone (d : Dev) (q : Nat) (x : Queue) : (d.setQueue q x).tagDone = d.tagDone := rfl
@[simp] theorem Dev.setQueue_fwUp (d : Dev) (q : Nat) (x : Queue) : (d.setQueue q x).fwUp = d.fwUp := rfl
@[simp] theorem Dev.setQueue_wrapped (d : Dev) (q : Nat) (x : Queue) : (d.setQueue q x).wrapped = d.wrapped := rfl
@[simp] theorem Dev.setQueue_fwDown (d : Dev) (q : Nat) (x : Queue) : (d.setQueue q x).fwDown = d.fwDown := rfl
@[simp] theorem Dev.setQueue_due (d : Dev) (q : Nat) (x : Queue) : (d.setQueue q x).due = d.due := rfl
@[simp] theorem Dev.setQueue_late (d : Dev) (q : Nat) (x : Queue) : (d.setQueue q x).late = d.late := rfl
@[simp] theorem Dev.setQueue_unsent (d : Dev) (q : Nat) (x : Queue) : (d.setQueue q x).unsent = d.unsent := rfl
@[simp] theorem Dev.setQueue_regPtr (d : Dev) (q : Nat) (x : Queue) : (d.setQueue q x).regPtr = d.regPtr := rfl
@[simp] theorem Dev.setQueue_freeCtr (d : Dev) (q : Nat) (x : Queue) : (d.setQueue q x).freeCtr = d.freeCtr := rfl
@[simp] theorem Dev.setQueue_out (d : Dev) (q : Nat) (x : Queue) : (d.setQueue q x).out = d.out := rfl

@[simp] theorem Dev.setClass_plat (d : Dev) (c : Nat) (x : QClass) : (d.setClass c x).plat = d.plat := rfl
@[simp] theorem Dev.setClass_power (d : Dev) (c : Nat) (x : QClass) : (d.setClass c x).power = d.power := rfl
@[simp] theorem Dev.setClass_faults (d : Dev) (c : Nat) (x : QClass) : (d.setClass c x).faults = d.faults := rfl
@[simp] theorem Dev.setClass_cnt (d : Dev) (c : Nat) (x : QClass) : (d.setClass c x).cnt = d.cnt := rfl
@[simp] theorem Dev.setClass_qos (d : Dev) (c : Nat) (x : QClass) : (d.setClass c x).qos = { d.qos with classes := mset d.qos.classes c x } := rfl
@[simp] theorem Dev.setClass_ports (d : Dev) (c : Nat) (x : QClass) : (d.setClass c x).ports = d.ports := rfl
@[simp] theorem Dev.setClass_links (d : Dev) (c : Nat) (x : QClass) : (d.setClass c x).links = d.links := rfl
@[simp] theorem Dev.setClass_lds (d : Dev) (c : Nat) (x : QClass) : (d.setClass c x).lds = d.lds := rfl
@[simp] theorem Dev.setClass_grottos (d : Dev) (c : Nat) (x : QClass) : (d.setClass c x).grottos = d.grottos := rfl
@[simp] theorem Dev.setClass_pages (d : Dev) (c : Nat) (x : QClass) : (d.setClass c x).pages = d.pages := rfl
@[simp] theorem Dev.setClass_mem (d : Dev) (c : Nat) (x : QClass) : (d.setClass c x).mem = d.mem := rfl
@[simp] theorem Dev.setClass_slices (d : Dev) (c : Nat) (x : QClass) : (d.setClass c x).slices = d.slices := rfl
@[simp] theorem Dev.setClass_chans (d : Dev) (c : Nat) (x : QClass) : (d.setClass c x).chans = d.chans := rfl
@[simp] theorem Dev.setClass_flow (d : Dev) (c : Nat) (x : QClass) : (d.setClass c x).flow = d.flow := rfl
@[simp] theorem Dev.setClass_queues (d : Dev) (c : Nat) (x : QClass) : (d.setClass c x).queues = d.queues := rfl
@[simp] theorem Dev.setClass_ev (d : Dev) (c : Nat) (x : QClass) : (d.setClass c x).ev = d.ev := rfl
@[simp] theorem Dev.setClass_keys (d : Dev) (c : Nat) (x : QClass) : (d.setClass c x).keys = d.keys := rfl
@[simp] theorem Dev.setClass_key0 (d : Dev) (c : Nat) (x : QClass) : (d.setClass c x).key0 = d.key0 := rfl
@[simp] theorem Dev.setClass_holdKey (d : Dev) (c : Nat) (x : QClass) : (d.setClass c x).holdKey = d.holdKey := rfl
@[simp] theorem Dev.setClass_devTag (d : Dev) (c : Nat) (x : QClass) : (d.setClass c x).devTag = d.devTag := rfl
@[simp] theorem Dev.setClass_tagDone (d : Dev) (c : Nat) (x : QClass) : (d.setClass c x).tagDone = d.tagDone := rfl
@[simp] theorem Dev.setClass_fwUp (d : Dev) (c : Nat) (x : QClass) : (d.setClass c x).fwUp = d.fwUp := rfl
@[simp] theorem Dev.setClass_wrapped (d : Dev) (c : Nat) (x : QClass) : (d.setClass c x).wrapped = d.wrapped := rfl
@[simp] theorem Dev.setClass_fwDown (d : Dev) (c : Nat) (x : QClass) : (d.setClass c x).fwDown = d.fwDown := rfl
@[simp] theorem Dev.setClass_due (d : Dev) (c : Nat) (x : QClass) : (d.setClass c x).due = d.due := rfl
@[simp] theorem Dev.setClass_late (d : Dev) (c : Nat) (x : QClass) : (d.setClass c x).late = d.late := rfl
@[simp] theorem Dev.setClass_unsent (d : Dev) (c : Nat) (x : QClass) : (d.setClass c x).unsent = d.unsent := rfl
@[simp] theorem Dev.setClass_regPtr (d : Dev) (c : Nat) (x : QClass) : (d.setClass c x).regPtr = d.regPtr := rfl
@[simp] theorem Dev.setClass_freeCtr (d : Dev) (c : Nat) (x : QClass) : (d.setClass c x).freeCtr = d.freeCtr := rfl
@[simp] theorem Dev.setClass_out (d : Dev) (c : Nat) (x : QClass) : (d.setClass c x).out = d.out := rfl

@[simp] theorem Dev.again_plat (d : Dev) (m : Nat) (r : Req) : (d.again m r).plat = d.plat := rfl
@[simp] theorem Dev.again_power (d : Dev) (m : Nat) (r : Req) : (d.again m r).power = d.power := rfl
@[simp] theorem Dev.again_faults (d : Dev) (m : Nat) (r : Req) : (d.again m r).faults = d.faults := rfl
@[simp] theorem Dev.again_cnt (d : Dev) (m : Nat) (r : Req) : (d.again m r).cnt = d.cnt := rfl
@[simp] theorem Dev.again_qos (d : Dev) (m : Nat) (r : Req) : (d.again m r).qos = d.qos := rfl
@[simp] theorem Dev.again_ports (d : Dev) (m : Nat) (r : Req) : (d.again m r).ports = d.ports := rfl
@[simp] theorem Dev.again_links (d : Dev) (m : Nat) (r : Req) : (d.again m r).links = d.links := rfl
@[simp] theorem Dev.again_lds (d : Dev) (m : Nat) (r : Req) : (d.again m r).lds = d.lds := rfl
@[simp] theorem Dev.again_grottos (d : Dev) (m : Nat) (r : Req) : (d.again m r).grottos = d.grottos := rfl
@[simp] theorem Dev.again_pages (d : Dev) (m : Nat) (r : Req) : (d.again m r).pages = d.pages := rfl
@[simp] theorem Dev.again_mem (d : Dev) (m : Nat) (r : Req) : (d.again m r).mem = d.mem := rfl
@[simp] theorem Dev.again_slices (d : Dev) (m : Nat) (r : Req) : (d.again m r).slices = { d.slices with resume := d.slices.resume ++ [(m, r)] } := rfl
@[simp] theorem Dev.again_chans (d : Dev) (m : Nat) (r : Req) : (d.again m r).chans = d.chans := rfl
@[simp] theorem Dev.again_flow (d : Dev) (m : Nat) (r : Req) : (d.again m r).flow = d.flow := rfl
@[simp] theorem Dev.again_queues (d : Dev) (m : Nat) (r : Req) : (d.again m r).queues = d.queues := rfl
@[simp] theorem Dev.again_ev (d : Dev) (m : Nat) (r : Req) : (d.again m r).ev = d.ev := rfl
@[simp] theorem Dev.again_keys (d : Dev) (m : Nat) (r : Req) : (d.again m r).keys = d.keys := rfl
@[simp] theorem Dev.again_key0 (d : Dev) (m : Nat) (r : Req) : (d.again m r).key0 = d.key0 := rfl
@[simp] theorem Dev.again_holdKey (d : Dev) (m : Nat) (r : Req) : (d.again m r).holdKey = d.holdKey := rfl
@[simp] theorem Dev.again_devTag (d : Dev) (m : Nat) (r : Req) : (d.again m r).devTag = d.devTag := rfl
@[simp] theorem Dev.again_tagDone (d : Dev) (m : Nat) (r : Req) : (d.again m r).tagDone = d.tagDone := rfl
@[simp] theorem Dev.again_fwUp (d : Dev) (m : Nat) (r : Req) : (d.again m r).fwUp = d.fwUp := rfl
@[simp] theorem Dev.again_wrapped (d : Dev) (m : Nat) (r : Req) : (d.again m r).wrapped = d.wrapped := rfl
@[simp] theorem Dev.again_fwDown (d : Dev) (m : Nat) (r : Req) : (d.again m r).fwDown = d.fwDown := rfl
@[simp] theorem Dev.again_due (d : Dev) (m : Nat) (r : Req) : (d.again m r).due = d.due := rfl
@[simp] theorem Dev.again_late (d : Dev) (m : Nat) (r : Req) : (d.again m r).late = d.late := rfl
@[simp] theorem Dev.again_unsent (d : Dev) (m : Nat) (r : Req) : (d.again m r).unsent = d.unsent := rfl
@[simp] theorem Dev.again_regPtr (d : Dev) (m : Nat) (r : Req) : (d.again m r).regPtr = d.regPtr := rfl
@[simp] theorem Dev.again_freeCtr (d : Dev) (m : Nat) (r : Req) : (d.again m r).freeCtr = d.freeCtr := rfl
@[simp] theorem Dev.again_out (d : Dev) (m : Nat) (r : Req) : (d.again m r).out = d.out := rfl

@[simp] theorem Dev.bump_plat (d : Dev) (n k : Nat) : (d.bump n k).plat = d.plat := rfl
@[simp] theorem Dev.bump_power (d : Dev) (n k : Nat) : (d.bump n k).power = d.power := rfl
@[simp] theorem Dev.bump_faults (d : Dev) (n k : Nat) : (d.bump n k).faults = d.faults := rfl
@[simp] theorem Dev.bump_cnt (d : Dev) (n k : Nat) : (d.bump n k).cnt = if d.power.counts then d.cnt.count n k else d.cnt := rfl
@[simp] theorem Dev.bump_qos (d : Dev) (n k : Nat) : (d.bump n k).qos = d.qos := rfl
@[simp] theorem Dev.bump_ports (d : Dev) (n k : Nat) : (d.bump n k).ports = d.ports := rfl
@[simp] theorem Dev.bump_links (d : Dev) (n k : Nat) : (d.bump n k).links = d.links := rfl
@[simp] theorem Dev.bump_lds (d : Dev) (n k : Nat) : (d.bump n k).lds = d.lds := rfl
@[simp] theorem Dev.bump_grottos (d : Dev) (n k : Nat) : (d.bump n k).grottos = d.grottos := rfl
@[simp] theorem Dev.bump_pages (d : Dev) (n k : Nat) : (d.bump n k).pages = d.pages := rfl
@[simp] theorem Dev.bump_mem (d : Dev) (n k : Nat) : (d.bump n k).mem = d.mem := rfl
@[simp] theorem Dev.bump_slices (d : Dev) (n k : Nat) : (d.bump n k).slices = d.slices := rfl
@[simp] theorem Dev.bump_chans (d : Dev) (n k : Nat) : (d.bump n k).chans = d.chans := rfl
@[simp] theorem Dev.bump_flow (d : Dev) (n k : Nat) : (d.bump n k).flow = d.flow := rfl
@[simp] theorem Dev.bump_queues (d : Dev) (n k : Nat) : (d.bump n k).queues = d.queues := rfl
@[simp] theorem Dev.bump_ev (d : Dev) (n k : Nat) : (d.bump n k).ev = d.ev := rfl
@[simp] theorem Dev.bump_keys (d : Dev) (n k : Nat) : (d.bump n k).keys = d.keys := rfl
@[simp] theorem Dev.bump_key0 (d : Dev) (n k : Nat) : (d.bump n k).key0 = d.key0 := rfl
@[simp] theorem Dev.bump_holdKey (d : Dev) (n k : Nat) : (d.bump n k).holdKey = d.holdKey := rfl
@[simp] theorem Dev.bump_devTag (d : Dev) (n k : Nat) : (d.bump n k).devTag = d.devTag := rfl
@[simp] theorem Dev.bump_tagDone (d : Dev) (n k : Nat) : (d.bump n k).tagDone = d.tagDone := rfl
@[simp] theorem Dev.bump_fwUp (d : Dev) (n k : Nat) : (d.bump n k).fwUp = d.fwUp := rfl
@[simp] theorem Dev.bump_wrapped (d : Dev) (n k : Nat) : (d.bump n k).wrapped = d.wrapped := rfl
@[simp] theorem Dev.bump_fwDown (d : Dev) (n k : Nat) : (d.bump n k).fwDown = d.fwDown := rfl
@[simp] theorem Dev.bump_due (d : Dev) (n k : Nat) : (d.bump n k).due = d.due := rfl
@[simp] theorem Dev.bump_late (d : Dev) (n k : Nat) : (d.bump n k).late = d.late := rfl
@[simp] theorem Dev.bump_unsent (d : Dev) (n k : Nat) : (d.bump n k).unsent = d.unsent := rfl
@[simp] theorem Dev.bump_regPtr (d : Dev) (n k : Nat) : (d.bump n k).regPtr = d.regPtr := rfl
@[simp] theorem Dev.bump_freeCtr (d : Dev) (n k : Nat) : (d.bump n k).freeCtr = d.freeCtr := rfl
@[simp] theorem Dev.bump_out (d : Dev) (n k : Nat) : (d.bump n k).out = d.out := rfl

/-! ### What a part reads as after it is set -/

@[simp] theorem Dev.queue?_setQueue (d : Dev) (q : Nat) (x : Queue) : (d.setQueue q x).queue? q = some x := by
  simp [Dev.queue?]

theorem Dev.queue?_setQueue_ne (d : Dev) (q p : Nat) (x : Queue) (h : p ≠ q) (hp : (mget d.queues.qs p).isSome) :
    (d.setQueue q x).queue? p = d.queue? p := by
  obtain ⟨y, hy⟩ := Option.isSome_iff_exists.mp hp
  simp [Dev.queue?, mget_mset_ne _ _ _ _ h, hy]

@[simp] theorem Dev.class_setClass (d : Dev) (c : Nat) (x : QClass) : (d.setClass c x).class c = x := by
  simp [Dev.class]

@[simp] theorem Dev.grotto?_setGrotto (d : Dev) (g : Nat) (x : Grotto) : (d.setGrotto g x).grotto? g = some x := by
  simp [Dev.grotto?]

@[simp] theorem Dev.grotto_setGrotto (d : Dev) (g : Nat) (x : Grotto) : (d.setGrotto g x).grotto g = x := by
  simp [Dev.grotto]

theorem Dev.grotto?_setGrotto_ne (d : Dev) (g k : Nat) (x : Grotto) (h : k ≠ g) : (d.setGrotto g x).grotto? k = d.grotto? k := by
  simp [Dev.grotto?, mget_mset_ne _ _ _ _ h]

/-- Tables whose keys rise strictly and that hold no default entry: the form that every write of them keeps. -/
def Dev.tablesOk (d : Dev) : Bool := canonical {} d.lds && canonical {} d.links && canonical {} d.chans

theorem Dev.link_setLink (d : Dev) (l n : Nat) (k : Link) (h : canonical {} d.links = true) :
    (d.setLink l k).link n = if n = l then k else d.link n := mgetD_mput _ _ _ _ _ h

theorem Dev.chan_setChan (d : Dev) (c n : Nat) (x : Chan) (h : canonical {} d.chans = true) :
    (d.setChan c x).chan n = if n = c then x else d.chan n := mgetD_mput _ _ _ _ _ h

theorem Dev.ld_setLd (d : Dev) (l ld : Nat) (x : Ld) (h : canonical {} d.lds = true) : (d.setLd l ld x).ld l ld = x := by
  have := mgetD_mput d.lds {} (ldKey l ld) (ldKey l ld) x h
  simpa [Dev.ld, Dev.setLd] using this

theorem Dev.setLink_links_ok (d : Dev) (l : Nat) (k : Link) (h : canonical {} d.links = true) : canonical {} (d.setLink l k).links = true :=
  mput_canonical _ _ _ _ h
theorem Dev.setChan_chans_ok (d : Dev) (c : Nat) (x : Chan) (h : canonical {} d.chans = true) : canonical {} (d.setChan c x).chans = true :=
  mput_canonical _ _ _ _ h
theorem Dev.setLd_lds_ok (d : Dev) (l ld : Nat) (x : Ld) (h : canonical {} d.lds = true) : canonical {} (d.setLd l ld x).lds = true :=
  mput_canonical _ _ _ _ h

end Sys2Proof.Machine
end

