-- ==== Sys2Proof/Laws/Frames.lean ====
section
/-!
SUPPORT. What the shared operations leave alone, said once each: raising a fault, counting, charging, logging; and that every
operation over memory keeps its canonical form.
-/
namespace Sys2Proof.Machine

/-- Two devices that hold the same data, tables and queues: they may differ in fault records, counters, classes' accounts, power,
links, channels, logical devices and messages sent. -/
structure Dev.Keeps (a b : Dev) : Prop where
  plat : b.plat = a.plat
  ports : b.ports = a.ports
  grottos : b.grottos = a.grottos
  pages : b.pages = a.pages
  mem : b.mem = a.mem
  slices : b.slices = a.slices
  flow : b.flow = a.flow
  queues : b.queues = a.queues
  ev : b.ev = a.ev
  keys : b.keys = a.keys
  key0 : b.key0 = a.key0
  holdKey : b.holdKey = a.holdKey
  devTag : b.devTag = a.devTag
  tagDone : b.tagDone = a.tagDone
  fwUp : b.fwUp = a.fwUp
  fwDown : b.fwDown = a.fwDown
  wrapped : b.wrapped = a.wrapped
  due : b.due = a.due
  late : b.late = a.late
  unsent : b.unsent = a.unsent
  regPtr : b.regPtr = a.regPtr
  freeCtr : b.freeCtr = a.freeCtr

theorem Dev.Keeps.refl (d : Dev) : d.Keeps d := by constructor <;> rfl

theorem Dev.Keeps.trans {a b c : Dev} (h : a.Keeps b) (k : b.Keeps c) : a.Keeps c := by
  constructor
  · exact k.plat.trans h.plat
  · exact k.ports.trans h.ports
  · exact k.grottos.trans h.grottos
  · exact k.pages.trans h.pages
  · exact k.mem.trans h.mem
  · exact k.slices.trans h.slices
  · exact k.flow.trans h.flow
  · exact k.queues.trans h.queues
  · exact k.ev.trans h.ev
  · exact k.keys.trans h.keys
  · exact k.key0.trans h.key0
  · exact k.holdKey.trans h.holdKey
  · exact k.devTag.trans h.devTag
  · exact k.tagDone.trans h.tagDone
  · exact k.fwUp.trans h.fwUp
  · exact k.fwDown.trans h.fwDown
  · exact k.wrapped.trans h.wrapped
  · exact k.due.trans h.due
  · exact k.late.trans h.late
  · exact k.unsent.trans h.unsent
  · exact k.regPtr.trans h.regPtr
  · exact k.freeCtr.trans h.freeCtr

/-- A fold of operations that keep the data keeps it. -/
theorem Dev.keeps_foldl {β : Type} (f : Dev → β → Dev) (hf : ∀ (d : Dev) x, d.Keeps (f d x)) :
    ∀ (l : List β) (d : Dev), d.Keeps (l.foldl f d)
  | [], d => .refl d
  | x :: t, d => (hf d x).trans (Dev.keeps_foldl f hf t (f d x))

theorem Dev.bump_keeps (d : Dev) (n k : Nat) : d.Keeps (d.bump n k) := by constructor <;> rfl
theorem Dev.setLd_keeps (d : Dev) (l ld : Nat) (x : Ld) : d.Keeps (d.setLd l ld x) := by constructor <;> rfl
theorem Dev.setLink_keeps (d : Dev) (l : Nat) (k : Link) : d.Keeps (d.setLink l k) := by constructor <;> rfl
theorem Dev.setChan_keeps (d : Dev) (c : Nat) (x : Chan) : d.Keeps (d.setChan c x) := by constructor <;> rfl
theorem Dev.emit_keeps (d : Dev) (m : Msg) : d.Keeps (d.emit m) := by constructor <;> rfl
theorem Dev.onFaults_keeps (d : Dev) (f : Faults → Faults) : d.Keeps (d.onFaults f) := by constructor <;> rfl
theorem Dev.onPower_keeps (d : Dev) (f : Power → Power) : d.Keeps (d.onPower f) := by constructor <;> rfl
theorem Dev.onCnt_keeps (d : Dev) (f : Counters → Counters) : d.Keeps (d.onCnt f) := by constructor <;> rfl
theorem Dev.onQos_keeps (d : Dev) (f : Qos → Qos) : d.Keeps (d.onQos f) := by constructor <;> rfl

theorem Dev.interrupt_keeps (d : Dev) (l ld k : Nat) : d.Keeps (d.interrupt l ld k) := by
  unfold Dev.interrupt
  dsimp only
  split
  · exact (d.emit_keeps _).trans (Dev.bump_keeps _ _ _)
  · exact d.setLd_keeps _ _ _

theorem Dev.logAdd_keeps (d : Dev) (l ld log : Nat) (r : LogRec) : d.Keeps (d.logAdd l ld log r) := by
  unfold Dev.logAdd
  dsimp only
  split
  · exact d.setLd_keeps _ _ _
  · split
    · exact (d.setLd_keeps _ _ _).trans (Dev.interrupt_keeps _ _ _ _)
    · exact d.setLd_keeps _ _ _

theorem Dev.logCopy_keeps (d : Dev) (r : FaultRec) : d.Keeps (d.logCopy r) := by
  unfold Dev.logCopy
  split
  · exact Dev.keeps_foldl _ (fun d t => d.logAdd_keeps _ _ _ _) _ _
  · exact .refl d

theorem Dev.endDoze_keeps (d : Dev) : d.Keeps d.endDoze := by
  have h : d.Keeps (d.links.foldl (fun (d : Dev) e =>
      if e.2.narrow then (d.setLink e.1 { e.2 with narrow := false }).bump (128 + 16 * e.1 + 9) else d) d) :=
    Dev.keeps_foldl _ (fun d e => by
      split
      · exact (d.setLink_keeps _ _).trans (Dev.bump_keeps _ _ _)
      · exact .refl d) _ _
  exact h.trans (by constructor <;> rfl)

theorem Dev.wake_keeps (d : Dev) (src detail : Nat) : d.Keeps (d.wake src detail) := by
  unfold Dev.wake
  dsimp only
  split
  · constructor <;> rfl
  · split
    · exact d.endDoze_keeps.trans (by constructor <;> rfl)
    · split
      · constructor <;> rfl
      · exact .refl d
    · exact .refl d

theorem Dev.number_keeps (d : Dev) (h : Hap) : d.Keeps (d.number h).2 := by constructor <;> rfl

theorem Dev.enter_keeps (d : Dev) (r : FaultRec) (a : Bool) : d.Keeps (d.enter r a) := by
  unfold Dev.enter
  dsimp only
  split
  · split
    · exact Dev.Keeps.trans (b := { d with faults := _ }) (by constructor <;> rfl) (Dev.bump_keeps _ _ _)
    · constructor <;> rfl
  · exact Dev.Keeps.trans (b := { d with faults := _ }) (by constructor <;> rfl) (Dev.bump_keeps _ _ _)

/-- Raising a fault or recording an EVENT leaves all data, tables and queues alone. -/
theorem Dev.raise_keeps (d : Dev) (h : Hap) : d.Keeps (d.raise h) := by
  unfold Dev.raise
  dsimp only
  have h3 (x : Dev) : x.Keeps { x with faults := { x.faults with status := x.faults.status ||| statusBit h.cls } } := by constructor <;> rfl
  have h4 := (((d.number_keeps h).trans (Dev.bump_keeps _ h.cls 1)).trans (h3 _)).trans
    (Dev.enter_keeps _ (d.number h).1 (decide (2 ≤ h.cls) || h.code == 2))
  split
  · split
    · exact (h4.trans (Dev.wake_keeps _ _ _)).trans (by constructor <;> rfl)
    · exact h4.trans (by constructor <;> rfl)
  · split
    · exact (h4.trans (Dev.wake_keeps _ _ _)).trans (Dev.logCopy_keeps _ _)
    · exact h4.trans (Dev.logCopy_keeps _ _)

theorem Dev.event_keeps (d : Dev) (unit akind addr detail : Nat) (g : Option Nat) : d.Keeps (d.event unit akind addr detail g) :=
  d.raise_keeps _

theorem Dev.poisonList_keeps (d : Dev) (g line source : Nat) : d.Keeps (d.poisonList g line source) :=
  Dev.keeps_foldl _ (fun d _ => d.setLd_keeps _ _ _) _ _
theorem Dev.poisonUnlist_keeps (d : Dev) (g line : Nat) : d.Keeps (d.poisonUnlist g line) :=
  Dev.keeps_foldl _ (fun d _ => d.setLd_keeps _ _ _) _ _

theorem Dev.contain_keeps (d : Dev) (code unit att g line source detail : Nat) : d.Keeps (d.contain code unit att g line source detail) :=
  (d.raise_keeps _).trans (Dev.poisonList_keeps _ _ _ _)

theorem Dev.disarm_keeps (d : Dev) (u : Nat) : d.Keeps (d.disarm u) := by constructor <;> rfl

theorem Dev.takeFlip_keeps (d : Dev) (u akind addr : Nat) : d.Keeps (d.takeFlip u akind addr).2 := by
  unfold Dev.takeFlip
  split
  · dsimp only
    exact (d.disarm_keeps u).trans (Dev.raise_keeps _ _)
  · exact .refl d

theorem Dev.takeInvert_keeps (d : Dev) (u akind addr : Nat) : d.Keeps (d.takeInvert u akind addr).2 := by
  unfold Dev.takeInvert
  split
  · dsimp only
    exact (d.disarm_keeps u).trans (Dev.raise_keeps _ _)
  · exact .refl d

theorem Dev.charge_keeps (d : Dev) (c cls n : Nat) : d.Keeps (d.charge c cls n) := by
  unfold Dev.charge
  dsimp only
  split
  · split
    · constructor <;> rfl
    · exact Dev.Keeps.trans (b := { d with qos := _ }) (by constructor <;> rfl) (Dev.bump_keeps _ _ _)
  · exact Dev.Keeps.trans (b := { d with qos := _ }) (by constructor <;> rfl) (Dev.bump_keeps _ _ _)

theorem Dev.rouse_keeps (d : Dev) (c cls : Nat) : d.Keeps (d.rouse c cls) := by
  unfold Dev.rouse
  split
  · exact d.setChan_keeps _ _
  · exact .refl d

/-! ### Memory keeps its canonical form -/

theorem Mem.wf_iff (m : Mem) : m.wf = true ↔ canonical {} m.dram = true ∧ canonical {} m.resv = true := by
  simp [Mem.wf]

theorem State.reset_mem_wf : State.reset.dev.mem.wf = true := by decide

theorem Dev.zeroFrame_wf (d : Dev) (f : Nat) (h : d.mem.wf = true) : (d.zeroFrame f).mem.wf = true := by
  rw [Mem.wf_iff] at h ⊢
  exact ⟨mkeep_canonical d.mem.dram {} (fun k => k / 64 != f) h.1, h.2⟩

theorem Dev.noteWritten_mem (d : Dev) (f n : Nat) : (d.noteWritten f n).mem = d.mem := by
  unfold Dev.noteWritten
  split <;> rfl

/-! The scheduler of a channel moves no content: a line holds what a write brings from its acceptance on. -/

theorem Dev.openRow_mem (d : Dev) (c : Nat) (k : Coord) : (d.openRow c k).mem = d.mem := by
  unfold Dev.openRow
  dsimp only
  split <;> rfl

theorem Dev.picked_mem (d : Dev) (c : Nat) (r : ChanReq) : (d.picked c r).mem = d.mem := by
  unfold Dev.picked
  dsimp only
  split <;> rfl

theorem Dev.drainState_mem (d : Dev) (c : Nat) : (d.drainState c).mem = d.mem := by
  unfold Dev.drainState
  dsimp only
  split
  · rfl
  · split <;> rfl

theorem Dev.issueWrites_mem (d : Dev) (c n : Nat) : (d.issueWrites c n).mem = d.mem := by
  induction n generalizing d with
  | zero => rfl
  | succ n ih =>
    unfold Dev.issueWrites
    dsimp only
    split
    · rw [ih, Dev.openRow_mem, Dev.picked_mem, Dev.drainState_mem]
    · exact d.drainState_mem c

theorem Dev.queueWrite_mem (d : Dev) (f n cls : Nat) : (d.queueWrite f n cls).mem = d.mem := by
  unfold Dev.queueWrite
  dsimp only
  split
  · exact d.openRow_mem _ _
  · exact Dev.issueWrites_mem _ _ _

/-- A write of a line to DRAM: that line holds the new codeword but for the symbols a flip mask struck, and no other line changes. -/
theorem Dev.dramWrite_mem (d : Dev) (f n : Nat) (x : DLine) (cls : Nat) :
    ∃ errs, (d.dramWrite f n x cls).mem = { d.mem with dram := mput d.mem.dram {} (dramKey f n) { x with errs := errs } } := by
  have hm : (((d.rouse (frameChan f) cls).queueWrite f n cls).takeFlip (unitChan (frameChan f)) 3 f).2.mem = d.mem :=
    (Dev.takeFlip_keeps _ _ _ _).mem.trans ((Dev.queueWrite_mem _ _ _ _).trans (Dev.rouse_keeps _ _ _).mem)
  refine ⟨match (((d.rouse (frameChan f) cls).queueWrite f n cls).takeFlip (unitChan (frameChan f)) 3 f).1 with
    | some (w, m, k) => flipSymbols w m k
    | none => [], ?_⟩
  unfold Dev.dramWrite
  dsimp only
  refine (Dev.charge_keeps _ _ _ _).mem.trans ?_
  rw [Dev.bump_mem]
  generalize ((d.rouse (frameChan f) cls).queueWrite f n cls).takeFlip (unitChan (frameChan f)) 3 f = e at hm ⊢
  obtain ⟨fl, d1⟩ := e
  dsimp only at hm ⊢
  rw [← hm]
  cases fl with
  | none => dsimp only; exact Dev.noteWritten_mem _ _ _
  | some t => obtain ⟨w, m, k⟩ := t; dsimp only; exact Dev.noteWritten_mem _ _ _

theorem Dev.dramWrite_wf (d : Dev) (f n : Nat) (x : DLine) (cls : Nat) (h : d.mem.wf = true) : (d.dramWrite f n x cls).mem.wf = true := by
  obtain ⟨errs, he⟩ := d.dramWrite_mem f n x cls
  rw [he]
  rw [Mem.wf_iff] at h ⊢
  exact ⟨mput_canonical _ _ _ _ h.1, h.2⟩

/-- Read after write, for a line of the same address and for every other. -/
theorem Dev.dramWrite_get (d : Dev) (f n : Nat) (x : DLine) (cls : Nat) (h : d.mem.wf = true) :
    ∃ errs, ∀ k, mgetD (d.dramWrite f n x cls).mem.dram k {} = if k = dramKey f n then { x with errs := errs } else mgetD d.mem.dram k {} := by
  obtain ⟨errs, he⟩ := d.dramWrite_mem f n x cls
  rw [Mem.wf_iff] at h
  refine ⟨errs, fun k => ?_⟩
  rw [he]
  exact mgetD_mput _ _ _ _ _ h.1

theorem Dev.retireFrame_wf (d : Dev) (f n : Nat) (o : Option (Nat × Nat)) (h : d.mem.wf = true) : (d.retireFrame f n o).mem.wf = true := by
  rw [Mem.wf_iff] at h ⊢
  unfold Dev.retireFrame
  dsimp only
  generalize hx : Dev.raise _ _ = d1
  have hm : d1.mem = d.mem := by
    rw [← hx]
    exact ((d.setChan_keeps _ _).trans (Dev.raise_keeps _ _)).mem
  cases o with
  | none => exact ⟨by rw [← hm] at h; exact h.1, by rw [← hm] at h; exact h.2⟩
  | some g => exact ⟨by rw [← hm] at h; exact h.1, by rw [← hm] at h; exact h.2⟩

theorem Dev.startRepair_wf (d : Dev) (f n dev : Nat) (o : Option (Nat × Nat)) (h : d.mem.wf = true) : (d.startRepair f n dev o).mem.wf = true := by
  unfold Dev.startRepair
  dsimp only
  split
  · exact d.retireFrame_wf f n o h
  · split <;> exact h

/-- Writing one line into the reserved region. -/
theorem Dev.resvPut_wf (d : Dev) (line : Nat) (x : LineData) (h : d.mem.wf = true) : (d.resvPut line x).mem.wf = true := by
  unfold Dev.resvPut
  rw [Dev.onMem_mem]
  rw [Mem.wf_iff] at h ⊢
  refine ⟨h.1, ?_⟩
  dsimp only
  exact mput_canonical d.mem.resv {} line { kind := .data, key := d.key0, tweak := resvTweak line, data := x } h.2

/-- Read after write in the reserved region: under key ID 0 a line reads as what was written (R84). -/
theorem Dev.resvGet_resvPut (d : Dev) (line n : Nat) (x : LineData) (h : d.mem.wf = true) :
    (d.resvPut line x).resvGet n = if n = line then x else d.resvGet n := by
  rw [Mem.wf_iff] at h
  unfold Dev.resvPut Dev.resvGet
  rw [Dev.onMem_mem, Dev.onMem_key0, mgetD_mput _ _ _ _ _ h.2]
  by_cases hn : n = line
  · simp [hn, DLine.open]
  · simp [hn]

/-- Writing words into the reserved region. -/
theorem Dev.resvWords_wf (d : Dev) (lineNo n : Nat) (ws : List Nat) (h : d.mem.wf = true) : (d.resvWords lineNo n ws).mem.wf = true := by
  induction n generalizing d lineNo ws with
  | zero => exact h
  | succ k ih =>
    cases ws with
    | nil => exact h
    | cons w t =>
      rw [Dev.resvWords]
      · exact ih _ _ _ (Dev.resvPut_wf d lineNo _ h)
      · nofun

/-- A store of an engine into the reserved region. -/
theorem Dev.putLine_resv_wf (d : Dev) (c : Ctx) (a : Area) (line : Nat) (m : ByteMask) (x : LineData) (p : Bool)
    (h : d.mem.wf = true) : (d.putLine c a line m x p).mem.wf = true := by
  unfold Dev.putLine
  split
  · exact Dev.resvPut_wf d line _ h
  · exact h

end Sys2Proof.Machine
end

