-- ==== Sys2Proof/Laws/Issue.lean ====
section
/-!
SUPPORT. What the shared operations of commands and queues do, said once: the end of a command where nothing is left over, and
the issue of an instruction whose body answers.
-/
namespace Sys2Proof.Machine

theorem Dev.drain_nil (d : Dev) (n : Nat) (h : d.slices.resume = []) : d.drain n = d := by
  cases n with
  | zero => rfl
  | succ n => unfold Dev.drain; rw [h]

theorem Dev.pumpSnoops_tagged (d : Dev) (h : ∀ x ∈ d.slices.snoops, x.tag.isSome = true) : d.pumpSnoops = d := by
  have hn : ∀ x ∈ d.slices.snoops, x.tag.isNone = false := fun x hx => by
    have := h x hx
    cases hx : x.tag <;> simp_all
  have h1 (p : Snoop → Bool) : d.slices.snoops.filter (fun s => s.tag.isNone && p s) = [] :=
    List.filter_eq_nil_iff.mpr fun x hx => by simp [hn x hx]
  unfold Dev.pumpSnoops
  dsimp only
  rw [h1, h1]
  simp only [List.isEmpty_nil, if_true, List.foldl_nil]
  generalize d.slices.snoops = l at h
  induction l with
  | nil => rfl
  | cons a t ih =>
    rw [List.foldl_cons, if_pos (h a (List.mem_cons_self ..))]
    exact ih fun x hx => h x (List.mem_cons_of_mem _ hx)

theorem Dev.writeOutLost_none (d : Dev)
    (h : ∀ e ∈ d.slices.nc, e.2.dirty = true → peView (d.entry (keyGrotto e.1) (pageOf (keyLine e.1))) ≠ 4) : d.writeOutLost = d := by
  unfold Dev.writeOutLost
  rw [List.filter_eq_nil_iff.mpr fun e he => by
    have := h e he
    cases hd : e.2.dirty <;> simp_all]
  rfl

theorem Dev.relieve_under (d : Dev) (n : Nat) (h : d.overHold 0 = false) : d.relieve n = d := by
  cases n with
  | zero => rfl
  | succ n => unfold Dev.relieve; rw [h]; rfl

theorem Dev.serveMap_nil (d : Dev) (n : Nat) (h : d.pages.mapWait = []) : d.serveMap n = d := by
  cases n with
  | zero => rfl
  | succ n => unfold Dev.serveMap; rw [h]; rfl

theorem Dev.serveFrames_nil (d : Dev) (n : Nat) (h : d.pages.frameWait = []) : d.serveFrames n = d := by
  cases n with
  | zero => rfl
  | succ n => unfold Dev.serveFrames; rw [h]; rfl

theorem Dev.askRelease_rich (d : Dev) (h : d.flow.asking = false) (hs : (d.flow.watermark : Int) * d.dataFrames ≤ d.surplus * 200) :
    d.askRelease = d := by
  unfold Dev.askRelease
  dsimp only
  rw [h, decide_eq_false (Int.not_lt.mpr hs)]
  rfl

theorem Dev.issueAll_nil (d : Dev) (h : d.pages.dwrites = []) : d.issueAll = d := by
  unfold Dev.issueAll
  rw [h]
  rfl

theorem Dev.catchUp_none (d : Dev) (h : ∀ e ∈ d.chans, e.2.owed = []) : d.catchUp = d := by
  unfold Dev.catchUp
  generalize d.chans = l at h
  induction l with
  | nil => rfl
  | cons a t ih =>
    rw [List.foldl_cons, h a (List.mem_cons_self ..)]
    simp only [List.isEmpty_nil, Bool.true_or, if_true]
    exact ih fun x hx => h x (List.mem_cons_of_mem _ hx)

theorem Dev.reap_nil (d : Dev) (h : d.pages.dying = []) : d.reap = d := by
  unfold Dev.reap
  rw [h]
  show { d with pages := { d.pages with dying := [] } } = d
  rw [← h]

theorem Dev.clearDiscards_none (d : Dev) (h : ∀ e ∈ d.grottos, e.2.discarded = false) : d.clearDiscards = d := by
  unfold Dev.clearDiscards
  have : d.grottos.any (fun e => e.2.discarded) = false := by
    rw [List.any_eq_false]
    intro e he
    rw [h e he]
    exact Bool.false_ne_true
  rw [this]
  rfl

theorem Dev.quiesce_still (d : Dev) (h : d.Still) : d.quiesce = d := by
  have hr : d.resumeRebuilds = d := by unfold Dev.resumeRebuilds; rw [h.rebuilds]; rfl
  have ha : d.sweepArrays = d := by unfold Dev.sweepArrays; rw [h.armed]; rfl
  unfold Dev.quiesce
  dsimp only
  rw [d.drain_nil _ h.resume, d.pumpSnoops_tagged h.snoops, d.writeOutLost_none h.lost, d.relieve_under _ h.hold, d.reap_nil h.dying,
    d.drain_nil _ h.resume, d.serveMap_nil _ h.misses, d.serveFrames_nil _ h.frames, hr, d.clearDiscards_none h.discards,
    d.askRelease_rich h.asking h.surplus, ha, d.issueAll_nil h.writes, d.catchUp_none h.owed]

/-- The end of a command changes nothing where nothing is left over. -/
theorem Dev.after_still (d : Dev) (h : d.Still) : d.after = d := by
  unfold Dev.after
  dsimp only
  rw [d.quiesce_still h, h.unsent]
  rfl

/-- In RUN a wake event changes nothing. -/
theorem Dev.wake_inRun (d : Dev) (src detail : Nat) (h : d.inRun) : d.wake src detail = d := by
  unfold Dev.wake
  dsimp only
  rw [h.1, h.2]
  rfl

theorem mset_mset {α : Type} (m : AMap α) (n : Nat) (a b : α) : mset (mset m n a) n b = mset m n b := by
  induction m with
  | nil => simp [mset]
  | cons e t ih =>
    obtain ⟨k, v⟩ := e
    by_cases h1 : n < k
    · simp [mset, h1]
    · by_cases h2 : n = k
      · simp [mset, h2]
      · simp [mset, h1, h2, ih]

theorem Dev.setQueue_setQueue (d : Dev) (q : Nat) (x y : Queue) : (d.setQueue q x).setQueue q y = d.setQueue q y := by
  simp [Dev.setQueue, Dev.onQueues, mset_mset]

theorem Dev.queue?_setQueue_other (d : Dev) (q p : Nat) (x : Queue) (h : p ≠ q) : (d.setQueue q x).queue? p = d.queue? p := by
  simp only [Dev.queue?, Dev.setQueue_queues, mget_mset_ne _ _ _ _ h]
  rfl

/-- An entry of a list of issued instructions is the one it was set to. -/
theorem issued_find (l : List Issued) (i j : Issued) (h : i.pos = j.pos) :
    ((l ++ [i]).map fun k => if k.pos = j.pos then j else k).find? (fun k => k.pos == j.pos) = some j := by
  induction l with
  | nil => simp [h]
  | cons a t ih =>
    by_cases ha : a.pos = j.pos
    · simp [ha]
    · simpa [ha] using ih

theorem issued_pos (l : List Issued) (j : Issued) : (l.map fun k => if k.pos = j.pos then j else k).map Issued.pos = l.map Issued.pos := by
  rw [List.map_map]
  refine List.map_congr_left fun k _ => ?_
  by_cases h : k.pos = j.pos <;> simp [h]

/-! ### Running an engine's work step by step -/

theorem Eng.run_bind {α β : Type} (m : Eng α) (f : α → Eng β) (d e : Dev) (a : α) (h : m.run d = .ok (a, e)) :
    (m >>= f).run d = (f a).run e := by
  show (StateT.bind m f) d = _
  unfold StateT.bind
  have h1 : m d = .ok (a, e) := h
  rw [h1]
  rfl

theorem Eng.run_bind_error {α β : Type} (m : Eng α) (f : α → Eng β) (d : Dev) (x : Stop) (h : m.run d = .error x) :
    (m >>= f).run d = .error x := by
  show (StateT.bind m f) d = _
  unfold StateT.bind
  have h1 : m d = .error x := h
  rw [h1]
  rfl

theorem Eng.run_ranges (c : Ctx) (x : Queue) (rs : List Rng) (high inPlace : Bool) (d : Dev) (as : List Area)
    (h : d.ranges c.q x rs high inPlace (c.decoded.any (·.passed)) = .ok as) : (Eng.ranges c x rs high inPlace).run d = .ok (as, d) := by
  show Eng.ranges c x rs high inPlace d = _
  unfold Eng.ranges
  rw [h]

theorem Eng.run_ranges_error (c : Ctx) (x : Queue) (rs : List Rng) (high inPlace : Bool) (d : Dev) (st : Nat)
    (h : d.ranges c.q x rs high inPlace (c.decoded.any (·.passed)) = .error st) : (Eng.ranges c x rs high inPlace).run d = .error (.fault st {} d) := by
  show Eng.ranges c x rs high inPlace d = _
  unfold Eng.ranges
  rw [h]

theorem Eng.run_check (ok : Bool) (status : Nat) (r : Result) (d : Dev) (h : ok = true) :
    (Eng.check ok status r).run d = .ok ((), d) := by
  rw [h]
  rfl

theorem Eng.run_check_error (ok : Bool) (status : Nat) (r : Result) (d : Dev) (h : ok = false) :
    (Eng.check ok status r).run d = .error (.fault status r d) := by
  rw [h]
  rfl

theorem Eng.run_dev (d : Dev) : (Eng.dev).run d = .ok (d, d) := rfl
theorem Eng.run_upd (f : Dev → Dev) (d : Dev) : (Eng.upd f).run d = .ok ((), f d) := rfl
theorem Eng.run_pure {α : Type} (a : α) (d : Dev) : (pure a : Eng α).run d = .ok (a, d) := rfl
theorem Eng.run_write (c : Ctx) (a : Area) (off : Nat) (bs : PBytes) (d : Dev) :
    (Eng.write c a off bs).run d = .ok ((), d.writeAt c a off bs) := rfl

/-- The areas that the ranges of an instruction give are those of its windows and offsets. -/
theorem Dev.ranges_areas (d : Dev) (q : Nat) (x : Queue) (rs : List Rng) (high inPlace : Bool) (as : List Area)
    (h : d.ranges q x rs high inPlace = .ok as) : as = rs.map fun r => r.area x := by
  unfold Dev.ranges at h
  dsimp only at h
  split at h
  · cases h
  split at h
  · cases h
  split at h
  · cases h
  split at h
  · cases h
  split at h
  · cases h
  split at h
  · cases h
  · exact (Except.ok.inj h).symm

theorem Dev.faultEvent_keeps (d : Dev) (q : Nat) (p : BitVec 32) (status op : Nat) : d.Keeps (d.faultEvent q p status op) := by
  unfold Dev.faultEvent
  split
  · exact d.event_keeps _ _ _ _ _
  · exact .refl d

theorem Dev.forget_forget (d : Dev) (who : Who) : (d.forget who).forget who = d.forget who := by
  simp [Dev.forget, mkeep, List.filter_filter]

/-- An instruction that needs no unit runs on the device with it entered. -/
theorem Dev.entered_queued (d : Dev) (q : Nat) (x : Queue) (w : PWord) (op : Nat) (h : needsUnit op = false) :
    d.entered q x w op = d.queued q x w op := by
  unfold Dev.entered Dev.takeUnit
  rw [h]
  rfl

/-- What was kept for an instruction before its slot was read is used up when its body starts. -/
theorem Dev.entered_forget (d : Dev) (q : Nat) (x : Queue) (w : PWord) (op : Nat) (who : Who) :
    (d.queued q x w op).forget who = (d.forget who).queued q x w op := rfl

theorem State.issue_shows (s : State) (q : Nat) (w : PWord) (pel : Pel) (x : Queue) (d : Dev) (h : Stands s q w pel x d) :
    s.dev.issue s.trust q w pel = d.issueAt (s.ctx q x w) q x w pel (x.vals w) (journals pel.op w (x.inPlace w)) := by
  obtain ⟨bs, e, hs, hd, hw⟩ := h.slot
  unfold Dev.issue
  rw [h.queue]
  dsimp only
  rw [h.may, h.action, h.mail, hs]
  dsimp only
  rw [hw, h.phase]
  have hr := h.ready
  unfold Queue.inPlace at hr
  simp only [Bool.not_true, Bool.or_self, Bool.false_eq_true, if_false, ne_eq, not_true_eq_false]
  rw [if_pos hr]
  have hwho : (s.dev.ctxOf s.trust q x x.head w).who = .engine q x.head := rfl
  rw [hwho, ← hd]
  rfl

/-- An instruction's body runs on the device with it entered. -/
theorem State.runBody_shows (s : State) (q : Nat) (w : PWord) (pel : Pel) (x : Queue) (d : Dev) (h : Shows s q w pel x d) :
    (d.queued q x w pel.op).takeUnit pel.op q x.head = some (d.entered q x w pel.op) := by
  have := h.unit
  unfold Dev.entered
  cases hu : (d.queued q x w pel.op).takeUnit pel.op q x.head with
  | none => rw [hu] at this; cases this
  | some e => rfl

/-- The body of an instruction, issued for the first time, with its unit at hand. -/
theorem Dev.runBody_takes (d u : Dev) (c : Ctx) (x : Queue) (i : Issued) (v : Vals) (pel : Pel) (hc : c.decoded = none)
    (hi : i.decoded = none) (hu : d.takeUnit i.opcode c.q i.pos = some u) :
    d.runBody c x i v pel = match (pel.body c x i.word v).run u with
      | .ok (r, d1) => ({ i with state := .applied, res := r }, d1.forget c.who)
      | .error (.fault st r d1) =>
        ({ i with state := .applied, res := { r with status := st } }, (d1.forget c.who).faultEvent c.q i.pos st i.opcode)
      | .error (.wait n) => ({ i with state := .waiting, decoded := u.keepDecode c x i true }, u.needs c n) := by
  obtain ⟨q, pos, who, src, cls, stale, alloc, wrap, decoded⟩ := c
  obtain rfl : decoded = none := hc
  unfold Dev.runBody
  dsimp only
  rw [hi]
  dsimp only
  dsimp only at hu
  rw [hu] <;> rfl

theorem Dev.settled_put (e : Dev) (q : Nat) (x : Queue) (w : PWord) (op : Nat) (r : Result) (next : BitVec 32) (i : Issued) :
    i = { pos := x.head, word := w, opcode := op, iter := x.iter, journ := journals op w (x.inPlace w), res := r, since := e.lamp } →
    (let d2 := e.putIssued q i
     let d3 := match d2.queue? q with
       | some y => d2.setQueue q { y with head := next }
       | none => d2
     let d4 := d3.countEngine x 0
     if isFault i.res.status then d4.countEngine x 2 else d4) = e.settled q x w op r next := by
  rintro rfl
  unfold Dev.settled Dev.putIssued
  dsimp only
  cases he : e.queue? q with
  | none => simp only [he]
  | some y =>
    dsimp only
    rw [Dev.queue?_setQueue]
    dsimp only
    rw [Dev.setQueue_setQueue]

/-- The issue of an instruction that the ring shows and whose body answers (R276, R282, R285): it stands in its queue with its
result applied, and the queue goes on where control flow says. -/
theorem State.issue_applies (s : State) (q : Nat) (w : PWord) (pel : Pel) (x : Queue) (d e : Dev) (r : Result)
    (h : Shows s q w pel x d)
    (hb : (pel.body (s.ctx q x w) x w (x.vals w)).run (d.entered q x w pel.op) = .ok (r, e)) :
    s.issue q w pel = .next (s.applied e q x w pel.op r (nextPos pel.op w (x.vals w) r.status x.head)) := by
  have hu := s.runBody_shows q w pel x d h
  unfold State.issue
  rw [s.issue_shows q w pel x d h.stands]
  unfold Dev.issueAt
  dsimp only
  rw [h.stands.fresh, h.early]
  dsimp only
  rw [Dev.runBody_takes _ _ (s.ctx q x w) x _ (x.vals w) pel rfl rfl hu]
  dsimp only
  rw [hb]
  dsimp only
  unfold State.applied Dev.applied
  rw [← Dev.settled_put (e.forget (.engine q x.head)) q x w pel.op r (nextPos pel.op w (x.vals w) r.status x.head) _ rfl]
  rfl

/-- The issue of an instruction whose body faults (R287): it stands in its queue with the fault status, after an EVENT if the program
caused it. -/
theorem State.issue_faults (s : State) (q : Nat) (w : PWord) (pel : Pel) (x : Queue) (d e : Dev) (st : Nat) (r : Result)
    (h : Shows s q w pel x d) (hst : isFault st = true)
    (hb : (pel.body (s.ctx q x w) x w (x.vals w)).run (d.entered q x w pel.op) = .error (.fault st r e)) :
    s.issue q w pel = .next (s.faulted e q x w pel.op st r) := by
  have hu := s.runBody_shows q w pel x d h
  unfold State.issue
  rw [s.issue_shows q w pel x d h.stands]
  unfold Dev.issueAt
  dsimp only
  rw [h.stands.fresh, h.early]
  dsimp only
  rw [Dev.runBody_takes _ _ (s.ctx q x w) x _ (x.vals w) pel rfl rfl hu]
  dsimp only
  rw [hb]
  dsimp only
  have hn : nextPos pel.op w (x.vals w) st x.head = x.head + 1 := by unfold nextPos; rw [hst]; rfl
  rw [hn]
  unfold State.faulted
  rw [← Dev.settled_put ((e.forget (.engine q x.head)).faultEvent q x.head st pel.op) q x w pel.op { r with status := st } (x.head + 1) _ rfl]
  rfl

/-- The issue of an instruction that fails one of decode steps 1 to 3 (R278, R287). -/
theorem State.issue_early (s : State) (q : Nat) (w : PWord) (pel : Pel) (x : Queue) (d : Dev) (st : Nat)
    (h : Stands s q w pel x d) (he : early q x w pel = some st) (hst : isFault st = true) :
    s.issue q w pel = .next (s.faulted (d.queued q x w pel.op) q x w pel.op st) := by
  unfold State.issue
  rw [s.issue_shows q w pel x d h]
  unfold Dev.issueAt
  dsimp only
  rw [h.fresh, he]
  dsimp only
  have hn : nextPos pel.op w (x.vals w) st x.head = x.head + 1 := by unfold nextPos; rw [hst]; rfl
  rw [hn]
  have hf : d.forget (.engine q x.head) = d := by
    obtain ⟨bs, e, _, hd, _⟩ := h.slot
    rw [hd, Dev.forget_forget]
  unfold State.faulted
  rw [Dev.entered_forget, hf]
  rw [← Dev.settled_put ((d.queued q x w pel.op).faultEvent q x.head st pel.op) q x w pel.op { status := st } (x.head + 1) _ rfl]
  rfl

end Sys2Proof.Machine
end

