-- ==== Sys2Proof/Tests/Base.lean ====
section
/-!
SUPPORT. Small states for the tests: a device in RUN, and one instruction at the head of the fabric manager's queue 1, whose ring and
staging window lie in the reserved region.
-/
namespace Sys2Proof.Tests

open Sys2Proof.Machine

set_option Elab.async false

/-- A device in RUN with firmware up. -/
def dev0 : Dev := { power := { mode := .run }, fwUp := true, qos := { bw := 3600 } }

/-- Queue 1 with one instruction submitted: window 1 is the staging area, window 2 a page of grotto 3. -/
def queue1 : Queue := {
  tail := 1, ctx := some 0
  windows := [(1, { kind := 2, read := true, write := true, base := 1024, length := 4096 }),
    (2, { grotto := 3, kind := 1, read := true, write := true, atomic := true, base := 0, length := 4096 })] }

/-- A line of the reserved region as key 0, which is zero here, seals it (R84, R112). -/
def rline (n : Nat) (x : LineData) : DLine := { kind := .data, tweak := resvTweak n, data := x }

/-- The state with an instruction's word in slot 0 of the ring of queue 1. -/
def showing (d : Dev) (x : Queue) (op : Nat) (w : PWord) : State := { dev := { d with
  mem := { d.mem with resv := mset d.mem.resv 0x101000 (rline 0x101000 ((encodePelmic (BitVec.ofNat 8 op) w).setWidth 512)) }
  queues := { d.queues with qs := mset d.queues.qs 1 x } } }

/-- Whether the word at the head of queue 1 stands there, and whether decode passes. -/
def stands (s : State) (w : PWord) (pel : Pel) (x : Queue) : Bool :=
  s.dev.queue? 1 == some x && s.dev.mayIssue x && !(pel.mod.any (fun m => w.mod.toNat != m)) && !s.dev.atMailRun 1 x &&
  (match (Eng.read { s.dev.ctxOf s.trust 1 x x.head w with stale := false, alloc := true } (s.dev.slotArea 1 x x.head) 0 16).run s.dev with
    | .ok (bs, e) => e.forget (.engine 1 x.head) == s.dev && BitVec.ofNat 128 (numOf bs) == encodePelmic (BitVec.ofNat 8 pel.op) w
    | .error _ => false) &&
  (encodePelmic (BitVec.ofNat 8 pel.op) w).getLsbD 15 == phaseOf x.slots x.head &&
  x.ready pel.op w (journals pel.op w (x.inPlace w)) && (x.journaled x.head x.iter).isNone
def shows (s : State) (w : PWord) (pel : Pel) (x : Queue) : Bool :=
  stands s w pel x && (early 1 x w pel).isNone && ((s.dev.queued 1 x w pel.op).takeUnit pel.op 1 x.head).isSome

theorem stands_of {s : State} {w : PWord} {pel : Pel} {x : Queue} (h : stands s w pel x = true) : Stands s 1 w pel x s.dev := by
  simp only [stands, Bool.and_eq_true, beq_iff_eq, Bool.not_eq_true', Option.isNone_iff_eq_none] at h
  obtain ⟨⟨⟨⟨⟨⟨⟨h1, h2⟩, h3⟩, hm⟩, h4⟩, h5⟩, h6⟩, h7⟩ := h
  refine ⟨h1, h2, h3, hm, ?_, h5, h6, h7⟩
  split at h4
  · next bs e he =>
    simp only [Bool.and_eq_true, beq_iff_eq] at h4
    exact ⟨bs, e, he, h4.1.symm, h4.2⟩
  · simp at h4

theorem shows_of {s : State} {w : PWord} {pel : Pel} {x : Queue} (h : shows s w pel x = true) : Shows s 1 w pel x s.dev := by
  simp only [shows, Bool.and_eq_true, Option.isNone_iff_eq_none] at h
  exact ⟨stands_of h.1.1, h.1.2, h.2⟩

/-- What an engine's work answers, and the device it leaves, where it ends well. -/
def done {α : Type} (m : Eng α) (d : Dev) : Option (α × Dev) :=
  match m.run d with
  | .ok r => some r
  | .error _ => none
def valOf {α : Type} [Inhabited α] (m : Eng α) (d : Dev) : α := ((done m d).map Prod.fst).getD default
def devOf {α : Type} (m : Eng α) (d : Dev) : Dev := ((done m d).map Prod.snd).getD d

theorem run_of {α : Type} [Inhabited α] {m : Eng α} {d : Dev} (h : (done m d).isSome = true) : m.run d = .ok (valOf m d, devOf m d) := by
  unfold valOf devOf done at *
  split at h
  · next r hr => simp [hr]
  · simp at h

/-- The device in which a move has started. -/
def began : MoveStart → Option Dev
  | .started d => some d
  | _ => none

theorem began_of {r : MoveStart} {d : Dev} (h : (began r == some d) = true) : r = .started d := by
  cases r <;> simp_all [began]

/-- Whether ranges pass decode and lie where they should. -/
def okIs {α : Type} [DecidableEq α] (r : Except Nat α) (a : α) : Bool :=
  match r with
  | .ok b => b == a
  | .error _ => false

theorem ok_of {α : Type} [DecidableEq α] {r : Except Nat α} {a : α} (h : okIs r a = true) : r = .ok a := by
  unfold okIs at h
  split at h
  · simpa using h
  · simp at h

/-- Whether a command answers a given next state. -/
def gives (a : Answer) (t : State) : Bool :=
  match a with
  | .next u => u == t
  | _ => false

theorem gives_iff {a : Answer} {t : State} : gives a t = true ↔ a = .next t := by
  unfold gives
  split
  · next u => simp
  · next h => simp only [Bool.false_eq_true, false_iff]; intro e; exact h t e

/-- Whether an HPA is located without a change of the device. -/
def located (d : Dev) (l ld hpa g line : Nat) (e : Dev) : Bool :=
  match d.locate l ld hpa with
  | (.ok p, f) => p == (g, line) && f == e
  | _ => false

theorem locate_of {d e : Dev} {l ld hpa g line : Nat} (h : located d l ld hpa g line e = true) : d.locate l ld hpa = (.ok (g, line), e) := by
  unfold located at h
  split at h
  · next p f hp => simp only [Bool.and_eq_true, beq_iff_eq] at h; rw [hp, h.1, h.2]
  · simp at h

theorem pbr_none {x : Option (BitVec 12)} {q : BitVec 12} (h : x = none) : ∀ p, x = some p → p = q := by
  intro p hp; simp [h] at hp

/-- The state that a command leaves, and its device. -/
def nxs (c : Instr) (s : State) : State :=
  match exec c s with
  | .next t => t
  | _ => s
def nx (c : Instr) (s : State) : Dev := (nxs c s).dev

/-- Whether an answer is a next state that differs in the device alone. -/
def stays (a : Answer) (s : State) : Bool :=
  match a with
  | .next u => u.pending == s.pending && u.trust == s.trust
  | _ => false

theorem nx_iff {c : Instr} {s : State} (h : stays (exec c s) s = true) : exec c s = .next { s with dev := nx c s } := by
  unfold nx nxs
  revert h
  generalize exec c s = a
  intro h
  match a with
  | .next u =>
    simp only [stays, Bool.and_eq_true, beq_iff_eq] at h
    obtain ⟨h1, h2⟩ := h
    cases u
    simp_all
  | .fault _ => exact absurd h (by simp [stays])
  | .refused _ => exact absurd h (by simp [stays])

end Sys2Proof.Tests
end

