-- ==== Sys2Proof/Tests/Hosts.lean ====
section
/-!
SUPPORT. Tests of CXL.mem requests, snoops, links, decoders and vectors.
-/
namespace Sys2Proof.Tests

open Sys2Proof.Machine

set_option Elab.async false

/-- Grotto 3 with one unit, HDM-DB, attached at DPA 0 of logical device 2 of link 1, whose decoder 0 maps 256 MiB from 2^40; its page 0 is hot, and
line 5 of it is in the near cache. -/
def d_host : Dev := { dev0 with
  links := [(1, { up := true, cxl := true, biOn := true })]
  lds := [(ldKey 1 2, { vecBase := some 0, decoders := [(0, { base := 0x10000000000, size := 0x10000000, typeDB := true, committed := true, position := some 0 })] })]
  grottos := [(3, { state := 1, db := true, keyId := 1, ownerLink := 1, ownerLd := 2, committed := 1, chanMask := 0xFFFF, mapBase := 0x10000, attaches := [{ link := 1, ld := 2, base := 0 }] })]
  keys := [(1, 5)], pages := { area := [(0x10000, mkEntry true 1 0 0 0 100)], cache := [(0x2000, { grotto := 3, heats := [] })] }
  mem := { pools := [(0, { zeroed := [900], pending := [(1000, 100000)] })] }
  chans := [(0, { state := 3, frames := 100000, ranks := 1 })], slices := { nc := [(lineKey 3 5, { data := 42 })] } }
def h0 : MemHdr := { link := 1, ld := 2, tag := 9 }
def hpa5 : BitVec 64 := 0x10000000140

def s_rds : State := { dev := d_host }
/-- RDS of a near-cache line with no directory entry (R162, R187). -/
theorem witness_rds :
    s_rds.dev.Finds h0 hpa5 3 5 s_rds.dev ∧
    (s_rds.dev.ncGet 3 5 = some { data := 42 } ∧ (s_rds.dev.grotto 3).db = true ∧ s_rds.dev.dirGet 3 5 = none ∧ (s_rds.dev.dirWays 3 5).length < 16) ∧
    exec (.rds h0 hpa5) s_rds = .next { s_rds with dev := nx (.rds h0 hpa5) s_rds } ∧
    ((nx (.rds h0 hpa5) s_rds).out = s_rds.dev.out ++ [{ msg := .memData h0 42 false false }] ∧ (nx (.rds h0 hpa5) s_rds).slices.nc = s_rds.dev.slices.nc ∧ (nx (.rds h0 hpa5) s_rds).mem = s_rds.dev.mem ∧ (nx (.rds h0 hpa5) s_rds).dirGet 3 5 = some { st := .S, sharers := [srcOf 1 2] }) :=
  ⟨⟨⟨by decide +kernel, by decide +kernel, by decide +kernel, ⟨by decide +kernel, by decide +kernel⟩, by constructor <;> decide +kernel, by decide +kernel, by decide +kernel, by decide +kernel⟩, by decide +kernel, locate_of (by decide +kernel), by decide +kernel, by decide +kernel, by decide +kernel, by decide +kernel, by decide +kernel⟩,
   by decide +kernel,
   nx_iff (by decide +kernel),
   by decide +kernel⟩

def s_rde : State := { dev := d_host }
/-- RDE of a near-cache line with no directory entry (R162, R187). -/
theorem witness_rde :
    s_rde.dev.Finds h0 hpa5 3 5 s_rde.dev ∧
    (s_rde.dev.ncGet 3 5 = some { data := 42 } ∧ (s_rde.dev.grotto 3).db = true ∧ s_rde.dev.dirGet 3 5 = none ∧ (s_rde.dev.dirWays 3 5).length < 16) ∧
    exec (.rde h0 hpa5) s_rde = .next { s_rde with dev := nx (.rde h0 hpa5) s_rde } ∧
    ((nx (.rde h0 hpa5) s_rde).out = s_rde.dev.out ++ [{ msg := .memData h0 42 false true }] ∧ (nx (.rde h0 hpa5) s_rde).slices.nc = s_rde.dev.slices.nc ∧ (nx (.rde h0 hpa5) s_rde).mem = s_rde.dev.mem ∧ (nx (.rde h0 hpa5) s_rde).dirGet 3 5 = some { st := .E, sharers := [srcOf 1 2] }) :=
  ⟨⟨⟨by decide +kernel, by decide +kernel, by decide +kernel, ⟨by decide +kernel, by decide +kernel⟩, by constructor <;> decide +kernel, by decide +kernel, by decide +kernel, by decide +kernel⟩, by decide +kernel, locate_of (by decide +kernel), by decide +kernel, by decide +kernel, by decide +kernel, by decide +kernel, by decide +kernel⟩,
   by decide +kernel,
   nx_iff (by decide +kernel),
   by decide +kernel⟩

def s_rdi : State := { dev := d_host }
/-- RDI of a near-cache line with no directory entry (R162, R187). -/
theorem witness_rdi :
    s_rdi.dev.Finds h0 hpa5 3 5 s_rdi.dev ∧
    (s_rdi.dev.ncGet 3 5 = some { data := 42 } ∧ (s_rdi.dev.grotto 3).db = true ∧ s_rdi.dev.dirGet 3 5 = none ∧ (s_rdi.dev.dirWays 3 5).length < 16) ∧
    exec (.rdi h0 hpa5) s_rdi = .next { s_rdi with dev := nx (.rdi h0 hpa5) s_rdi } ∧
    ((nx (.rdi h0 hpa5) s_rdi).out = s_rdi.dev.out ++ [{ msg := .memData h0 42 false false }] ∧ (nx (.rdi h0 hpa5) s_rdi).slices.nc = s_rdi.dev.slices.nc ∧ (nx (.rdi h0 hpa5) s_rdi).mem = s_rdi.dev.mem ∧ (nx (.rdi h0 hpa5) s_rdi).dirGet 3 5 = none) :=
  ⟨⟨⟨by decide +kernel, by decide +kernel, by decide +kernel, ⟨by decide +kernel, by decide +kernel⟩, by constructor <;> decide +kernel, by decide +kernel, by decide +kernel, by decide +kernel⟩, by decide +kernel, locate_of (by decide +kernel), by decide +kernel, by decide +kernel, by decide +kernel, by decide +kernel, by decide +kernel⟩,
   by decide +kernel,
   nx_iff (by decide +kernel),
   by decide +kernel⟩

def s_reads_held : State := { dev := { d_host with slices := { d_host.slices with dir := [(lineKey 3 5, { st := .E, sharers := [srcOf 1 2] })] } } }
/-- Reads of a line that the host holds in E (R162): the entry stays. -/
theorem witness_reads_held :
    s_reads_held.dev.Finds h0 hpa5 3 5 s_reads_held.dev ∧
    exec (.rds h0 hpa5) s_reads_held = .next { s_reads_held with dev := nx (.rds h0 hpa5) s_reads_held } ∧
    ((nx (.rds h0 hpa5) s_reads_held).out = s_reads_held.dev.out ++ [{ msg := .memData h0 42 false false }] ∧ (nx (.rds h0 hpa5) s_reads_held).slices = { s_reads_held.dev.slices with ncAge := (nx (.rds h0 hpa5) s_reads_held).slices.ncAge } ∧ (nx (.rds h0 hpa5) s_reads_held).mem = s_reads_held.dev.mem ∧ (nx (.rds h0 hpa5) s_reads_held).pages.area = s_reads_held.dev.pages.area) ∧
    exec (.rde h0 hpa5) s_reads_held = .next { s_reads_held with dev := nx (.rde h0 hpa5) s_reads_held } ∧
    ((nx (.rde h0 hpa5) s_reads_held).out = s_reads_held.dev.out ++ [{ msg := .memData h0 42 false true }] ∧ (nx (.rde h0 hpa5) s_reads_held).slices = { s_reads_held.dev.slices with ncAge := (nx (.rde h0 hpa5) s_reads_held).slices.ncAge } ∧ (nx (.rde h0 hpa5) s_reads_held).mem = s_reads_held.dev.mem ∧ (nx (.rde h0 hpa5) s_reads_held).pages.area = s_reads_held.dev.pages.area) ∧
    exec (.rdi h0 hpa5) s_reads_held = .next { s_reads_held with dev := nx (.rdi h0 hpa5) s_reads_held } ∧
    ((nx (.rdi h0 hpa5) s_reads_held).out = s_reads_held.dev.out ++ [{ msg := .memData h0 42 false false }] ∧ (nx (.rdi h0 hpa5) s_reads_held).slices = { s_reads_held.dev.slices with ncAge := (nx (.rdi h0 hpa5) s_reads_held).slices.ncAge } ∧ (nx (.rdi h0 hpa5) s_reads_held).mem = s_reads_held.dev.mem ∧ (nx (.rdi h0 hpa5) s_reads_held).pages.area = s_reads_held.dev.pages.area) :=
  ⟨⟨⟨by decide +kernel, by decide +kernel, by decide +kernel, ⟨by decide +kernel, by decide +kernel⟩, by constructor <;> decide +kernel, by decide +kernel, by decide +kernel, by decide +kernel⟩, by decide +kernel, locate_of (by decide +kernel), by decide +kernel, by decide +kernel, by decide +kernel, by decide +kernel, by decide +kernel⟩,
   nx_iff (by decide +kernel),
   by decide +kernel,
   nx_iff (by decide +kernel),
   by decide +kernel,
   nx_iff (by decide +kernel),
   by decide +kernel⟩

def s_reads_hdmh : State := { dev := { d_host with grottos := [(3, { d_host.grotto 3 with db := false })], lds := [(ldKey 1 2, { vecBase := some 0, decoders := [(0, { base := 0x10000000000, size := 0x10000000, committed := true, position := some 0 })] })] } }
/-- Reads of a grotto that is not HDM-DB need no entry (R22). -/
theorem witness_reads_hdmh :
    s_reads_hdmh.dev.Finds h0 hpa5 3 5 s_reads_hdmh.dev ∧
    exec (.rds h0 hpa5) s_reads_hdmh = .next { s_reads_hdmh with dev := nx (.rds h0 hpa5) s_reads_hdmh } ∧
    ((nx (.rds h0 hpa5) s_reads_hdmh).out = s_reads_hdmh.dev.out ++ [{ msg := .memData h0 42 false false }] ∧ (nx (.rds h0 hpa5) s_reads_hdmh).slices = { s_reads_hdmh.dev.slices with ncAge := (nx (.rds h0 hpa5) s_reads_hdmh).slices.ncAge }) ∧
    exec (.rde h0 hpa5) s_reads_hdmh = .next { s_reads_hdmh with dev := nx (.rde h0 hpa5) s_reads_hdmh } ∧
    ((nx (.rde h0 hpa5) s_reads_hdmh).out = s_reads_hdmh.dev.out ++ [{ msg := .memData h0 42 false true }] ∧ (nx (.rde h0 hpa5) s_reads_hdmh).slices = { s_reads_hdmh.dev.slices with ncAge := (nx (.rde h0 hpa5) s_reads_hdmh).slices.ncAge }) ∧
    exec (.rdi h0 hpa5) s_reads_hdmh = .next { s_reads_hdmh with dev := nx (.rdi h0 hpa5) s_reads_hdmh } ∧
    ((nx (.rdi h0 hpa5) s_reads_hdmh).out = s_reads_hdmh.dev.out ++ [{ msg := .memData h0 42 false false }] ∧ (nx (.rdi h0 hpa5) s_reads_hdmh).slices = { s_reads_hdmh.dev.slices with ncAge := (nx (.rdi h0 hpa5) s_reads_hdmh).slices.ncAge }) :=
  ⟨⟨⟨by decide +kernel, by decide +kernel, by decide +kernel, ⟨by decide +kernel, by decide +kernel⟩, by constructor <;> decide +kernel, by decide +kernel, by decide +kernel, by decide +kernel⟩, by decide +kernel, locate_of (by decide +kernel), by decide +kernel, by decide +kernel, by decide +kernel, by decide +kernel, by decide +kernel⟩,
   nx_iff (by decide +kernel),
   by decide +kernel,
   nx_iff (by decide +kernel),
   by decide +kernel,
   nx_iff (by decide +kernel),
   by decide +kernel⟩

def s_wrnc : State := { dev := d_host }
/-- A full-line write of a host (R24). -/
theorem witness_wrnc :
    s_wrnc.dev.Finds h0 hpa5 3 5 s_wrnc.dev ∧
    s_wrnc.dev.HotLine 3 5 ∧
    exec (.wrnc h0 hpa5 fullMask 77 true) s_wrnc = .next { s_wrnc with dev := nx (.wrnc h0 hpa5 fullMask 77 true) s_wrnc } ∧
    ((nx (.wrnc h0 hpa5 fullMask 77 true) s_wrnc).out = s_wrnc.dev.out ++ [{ msg := .memCmp h0 }] ∧ (nx (.wrnc h0 hpa5 fullMask 77 true) s_wrnc).ncGet 3 5 = some { data := 77, dirty := true, poison := true, cls := 0 } ∧ (nx (.wrnc h0 hpa5 fullMask 77 true) s_wrnc).dirGet 3 5 = none ∧ (nx (.wrnc h0 hpa5 fullMask 77 true) s_wrnc).mem = s_wrnc.dev.mem ∧ (nx (.wrnc h0 hpa5 fullMask 77 true) s_wrnc).pages.area = s_wrnc.dev.pages.area) :=
  ⟨⟨⟨by decide +kernel, by decide +kernel, by decide +kernel, ⟨by decide +kernel, by decide +kernel⟩, by constructor <;> decide +kernel, by decide +kernel, by decide +kernel, by decide +kernel⟩, by decide +kernel, locate_of (by decide +kernel), by decide +kernel, by decide +kernel, by decide +kernel, by decide +kernel, by decide +kernel⟩,
   ⟨by decide +kernel, by decide +kernel, by decide +kernel, by decide +kernel, by decide +kernel, by decide +kernel⟩,
   nx_iff (by decide +kernel),
   by decide +kernel⟩

def s_wb : State := { dev := { d_host with slices := { d_host.slices with dir := [(lineKey 3 5, { st := .E, sharers := [srcOf 1 2] })] } } }
/-- A writeback of the host that holds the line in E, and its clean-eviction notice (R162, R168). -/
theorem witness_wb :
    s_wb.dev.Finds h0 hpa5 3 5 s_wb.dev ∧
    s_wb.dev.HotLine 3 5 ∧
    exec (.wb h0 hpa5 77 false true) s_wb = .next { s_wb with dev := nx (.wb h0 hpa5 77 false true) s_wb } ∧
    ((nx (.wb h0 hpa5 77 false true) s_wb).out = s_wb.dev.out ++ [{ msg := .memCmp h0 }] ∧ (nx (.wb h0 hpa5 77 false true) s_wb).ncGet 3 5 = some { data := 77, dirty := true, cls := 0 } ∧ (nx (.wb h0 hpa5 77 false true) s_wb).dirGet 3 5 = some { st := .S, sharers := [srcOf 1 2] }) ∧
    exec (.wb h0 hpa5 77 false false) s_wb = .next { s_wb with dev := nx (.wb h0 hpa5 77 false false) s_wb } ∧
    ((nx (.wb h0 hpa5 77 false false) s_wb).out = s_wb.dev.out ++ [{ msg := .memCmp h0 }] ∧ (nx (.wb h0 hpa5 77 false false) s_wb).ncGet 3 5 = some { data := 77, dirty := true, cls := 0 } ∧ (nx (.wb h0 hpa5 77 false false) s_wb).dirGet 3 5 = none) ∧
    exec (.memclnevct h0 hpa5) s_wb = .next { s_wb with dev := nx (.memclnevct h0 hpa5) s_wb } ∧
    ((nx (.memclnevct h0 hpa5) s_wb).out = s_wb.dev.out ++ [{ msg := .memCmp h0 }] ∧ (nx (.memclnevct h0 hpa5) s_wb).dirGet 3 5 = none ∧ (nx (.memclnevct h0 hpa5) s_wb).slices.nc = s_wb.dev.slices.nc ∧ (nx (.memclnevct h0 hpa5) s_wb).mem = s_wb.dev.mem) :=
  ⟨⟨⟨by decide +kernel, by decide +kernel, by decide +kernel, ⟨by decide +kernel, by decide +kernel⟩, by constructor <;> decide +kernel, by decide +kernel, by decide +kernel, by decide +kernel⟩, by decide +kernel, locate_of (by decide +kernel), by decide +kernel, by decide +kernel, by decide +kernel, by decide +kernel, by decide +kernel⟩,
   ⟨by decide +kernel, by decide +kernel, by decide +kernel, by decide +kernel, by decide +kernel, by decide +kernel⟩,
   nx_iff (by decide +kernel),
   by decide +kernel,
   nx_iff (by decide +kernel),
   by decide +kernel,
   nx_iff (by decide +kernel),
   by decide +kernel⟩

def s_conflict : State := { dev := d_host }
/-- A BIConflict is acknowledged (R46). -/
theorem witness_conflict :
    s_conflict.dev.inRun ∧
    s_conflict.dev.Still ∧
    (s_conflict.dev.linkTakes 1 = true) ∧
    exec (.biconflict h0 hpa5) s_conflict = .next ({ s_conflict with dev := { s_conflict.dev with out := [{ msg := .conflictAck h0 hpa5 }] } }) :=
  ⟨⟨by decide +kernel, by decide +kernel⟩,
   by constructor <;> decide +kernel,
   by decide +kernel,
   gives_iff.1 (by decide +kernel)⟩

def s_birspi : State := { dev := { d_host with slices := { d_host.slices with snoops := [{ link := 1, ld := 2, tag := some 8, g := 3, line := 5, kind := .inv }, { link := 1, ld := 3, tag := some 9, g := 3, line := 5, kind := .inv }], dir := [(lineKey 3 5, { st := .B, sharers := [srcOf 1 2, srcOf 1 3] })] } } }
/-- An answer that keeps nothing (R167). -/
theorem witness_birspi :
    s_birspi.dev.inRun ∧
    s_birspi.dev.Still ∧
    (s_birspi.dev.fencedSrc 3 (srcOf 1 2) = false) ∧
    exec (.birspi 1 2 8) s_birspi = .next ({ s_birspi with dev := { s_birspi.dev with slices := { s_birspi.dev.slices with snoops := [{ link := 1, ld := 3, tag := some 9, g := 3, line := 5, kind := .inv }], dir := [(lineKey 3 5, { st := .B, sharers := [srcOf 1 2, srcOf 1 3] })] } } }) :=
  ⟨⟨by decide +kernel, by decide +kernel⟩,
   by constructor <;> decide +kernel,
   by decide +kernel,
   gives_iff.1 (by decide +kernel)⟩

def s_birsps : State := { dev := { d_host with slices := { d_host.slices with snoops := [{ link := 1, ld := 2, tag := some 8, g := 3, line := 5, kind := .data }, { link := 1, ld := 3, tag := some 9, g := 3, line := 5, kind := .data }], dir := [(lineKey 3 5, { st := .B, sharers := [srcOf 1 2, srcOf 1 3] })] } } }
/-- An answer that keeps the line shared (R167). -/
theorem witness_birsps :
    exec (.birsps 1 2 8) s_birsps = .next ({ s_birsps with dev := { s_birsps.dev with slices := { s_birsps.dev.slices with dirAge := [(lineKey 3 5, { way := 0, used := true })], snoops := [{ link := 1, ld := 3, tag := some 9, g := 3, line := 5, kind := .data }], dir := [(lineKey 3 5, { st := .B, sharers := [srcOf 1 2, srcOf 1 3], track := { leftS := [srcOf 1 2] } })] } } }) :=
  gives_iff.1 (by decide +kernel)

def s_birspe : State := { dev := { d_host with slices := { d_host.slices with snoops := [{ link := 1, ld := 2, tag := some 8, g := 3, line := 5, kind := .cur }, { link := 1, ld := 3, tag := some 9, g := 3, line := 5, kind := .cur }], dir := [(lineKey 3 5, { st := .B, sharers := [srcOf 1 2, srcOf 1 3] })] } } }
/-- An answer that keeps the line exclusive (R167). -/
theorem witness_birspe :
    exec (.birspe 1 2 8) s_birspe = .next ({ s_birspe with dev := { s_birspe.dev with slices := { s_birspe.dev.slices with dirAge := [(lineKey 3 5, { way := 0, used := true })], snoops := [{ link := 1, ld := 3, tag := some 9, g := 3, line := 5, kind := .cur }], dir := [(lineKey 3 5, { st := .B, sharers := [srcOf 1 2, srcOf 1 3], track := { leftE := some (srcOf 1 2) } })] } } }) :=
  gives_iff.1 (by decide +kernel)

def s_snoop_timeout : State := { dev := { d_host with slices := { d_host.slices with snoops := [{ link := 1, ld := 2, tag := some 8, g := 3, line := 5, kind := .inv }, { link := 1, ld := 3, tag := some 9, g := 3, line := 5, kind := .inv }], dir := [(lineKey 3 5, { st := .B, sharers := [srcOf 1 2, srcOf 1 3] })] } } }
/-- A snoop whose timer runs out is sent once more (R183). -/
theorem witness_snoop_timeout :
    (s_snoop_timeout.dev.hpaOf 1 2 3 5 = some 0x10000000140) ∧
    exec (.snoopTimeout 1 8) s_snoop_timeout = .next { s_snoop_timeout with dev := nx (.snoopTimeout 1 8) s_snoop_timeout } ∧
    ((nx (.snoopTimeout 1 8) s_snoop_timeout).out = [{ msg := .snoop 1 2 .inv 0 8 0x10000000140 }] ∧ (nx (.snoopTimeout 1 8) s_snoop_timeout).slices.snoops = [{ link := 1, ld := 2, tag := some 8, g := 3, line := 5, kind := .inv, resent := true }, { link := 1, ld := 3, tag := some 9, g := 3, line := 5, kind := .inv }] ∧ (nx (.snoopTimeout 1 8) s_snoop_timeout).slices.dir = s_snoop_timeout.dev.slices.dir) :=
  ⟨by decide +kernel,
   nx_iff (by decide +kernel),
   by decide +kernel⟩

def s_fence_sweep : State := { dev := { d_host with slices := { sweeps := [(3, srcOf 1 2)] } } }
/-- The sweep of a fence ends with its count in an EVENT (R181). -/
theorem witness_fence_sweep :
    exec (.fenceSweepComplete 3 (srcOf 1 2)) s_fence_sweep = .next ({ s_fence_sweep with dev := (((s_fence_sweep.dev.fenceSweep 3 (srcOf 1 2)).2.onSlices fun k => { k with sweeps := [] }).event (unitLink (srcOf 1 2 / 16)) 0 0 ((s_fence_sweep.dev.fenceSweep 3 (srcOf 1 2)).1 + srcOf 1 2 * 2 ^ 32) (some 3)).after }) :=
  gives_iff.1 (by decide +kernel)

def s_perst : State := { dev := { d_host with links := [(1, { up := true, cxl := true, biOn := true })] } }
/-- PERST_N of port 1, which is not split, resets link 1, and rises on it (R67 to R70). -/
theorem witness_perst :
    s_perst.dev.inRun ∧
    s_perst.dev.Still ∧
    (s_perst.dev.perstLink 1 false = some 1) ∧
    exec (.perstNAssert 1 false) s_perst = .next ({ s_perst with dev := ((List.range 17).foldl (fun (d : Dev) ld => d.setLd 1 ld (d.ld 1 ld).afterPerst) ((s_perst.dev.dropFlight 1).portResetQueues 1)).setLink 1 { perst := true, cleanup := true } }) :=
  ⟨⟨by decide +kernel, by decide +kernel⟩,
   by constructor <;> decide +kernel,
   by decide +kernel,
   gives_iff.1 (by decide +kernel)⟩

def s_perst_done : State := { dev := { d_host with links := [(1, { perst := true, cleanup := true, poisoned := 6 })] } }
/-- The end of the cleanup is an EVENT (R69), and PERST_N rises on both links that the pin resets (R32). -/
theorem witness_perst_done :
    s_perst_done.dev.inRun ∧
    (s_perst_done.dev.perstLink 1 false = some 1 ∧ s_perst_done.dev.split 1 = false) ∧
    exec (.perstCleanupDone 1) s_perst_done = .next ({ s_perst_done with dev := (s_perst_done.dev.setLink 1 { perst := true }).event (unitLink 1) 0 0 6 }) ∧
    exec (.perstNRelease 1 false) s_perst_done = .next ({ s_perst_done with dev := (s_perst_done.dev.setLink 1 { cleanup := true, poisoned := 6 }).setLink 5 {} }) :=
  ⟨⟨by decide +kernel, by decide +kernel⟩,
   by decide +kernel,
   gives_iff.1 (by decide +kernel),
   gives_iff.1 (by decide +kernel)⟩

def s_perst_half : State := { dev := { dev0 with ports := [(1, { split := true, recorded := true })], links := [(5, { up := true, cxl := true, perst := true })] } }
/-- PERST_N of the second half of a split port (R32). -/
theorem witness_perst_half :
    s_perst_half.dev.inRun ∧
    (s_perst_half.dev.perstLink 1 true = some 5 ∧ s_perst_half.dev.split 1 = true) ∧
    exec (.perstNRelease 1 true) s_perst_half = .next ({ s_perst_half with dev := s_perst_half.dev.setLink 5 { up := true, cxl := true } }) :=
  ⟨⟨by decide +kernel, by decide +kernel⟩,
   by decide +kernel,
   gives_iff.1 (by decide +kernel)⟩

def s_perst_half_falls : State := { dev := { d_host with ports := [(1, { split := true, recorded := true })], links := [(5, { up := true, cxl := true }), (1, { up := true, cxl := true })] } }
/-- PERST_N of the second half of a split port falls (R32, R67). -/
theorem witness_perst_half_falls :
    s_perst_half_falls.dev.inRun ∧
    s_perst_half_falls.dev.Still ∧
    (s_perst_half_falls.dev.perstLink 1 true = some 5 ∧ (s_perst_half_falls.dev.port 1).split = (s_perst_half_falls.dev.port 1).recorded ∧ s_perst_half_falls.dev.slices.dir = []) ∧
    exec (.perstNAssert 1 true) s_perst_half_falls = .next ({ s_perst_half_falls with dev := ((List.range 17).foldl (fun (d : Dev) ld => d.setLd 5 ld (d.ld 5 ld).afterPerst) ((s_perst_half_falls.dev.dropFlight 5).portResetQueues 5)).setLink 5 { perst := true, cleanup := true } }) :=
  ⟨⟨by decide +kernel, by decide +kernel⟩,
   by constructor <;> decide +kernel,
   by decide +kernel,
   gives_iff.1 (by decide +kernel)⟩

def s_link_up : State := { dev := dev0 }
/-- A link comes up at 64 GT/s, sixteen lanes wide, with CXL or without (R33, R34). -/
theorem witness_link_up :
    s_link_up.dev.inRun ∧
    exec (.hostLinkUp 2 true 64000 16) s_link_up = .next ({ s_link_up with dev := s_link_up.dev.setLink 2 { up := true, cxl := true, rate := 64000, width := 16 } }) ∧
    exec (.hostLinkUp 2 false 2500 1) s_link_up = .next ({ s_link_up with dev := (s_link_up.dev.setLink 2 { up := true, rate := 2500, width := 1 }).raise { code := 0x8002, cls := 2, unit := 0x12 } }) :=
  ⟨⟨by decide +kernel, by decide +kernel⟩,
   gives_iff.1 (by decide +kernel),
   gives_iff.1 (by decide +kernel)⟩

def s_link_presets : State := { dev := { dev0 with links := [(2, { presets := [(3, 6)] })] } }
/-- A partner asks for preset 4 on lane 2 and for 11, which no preset has, on lane 3; it gives IDs and says what it supports (R36, R44, R51). -/
theorem witness_link_presets :
    s_link_presets.dev.inRun ∧
    (risingFrom 0 (s_link_presets.dev.link 2).presets = true ∧ mgetD ((s_link_presets.dev.link 2).preset [(2, 4)]) 2 0 = 4 ∧ mgetD ((s_link_presets.dev.link 2).preset [(3, 11)]) 3 0 = 6) ∧
    exec (.hostLinkUp 2 true 64000 16 { presets := [(2, 4), (3, 11)], pbr := some 9, biId := some 3, l0p := false }) s_link_presets = .next ({ s_link_presets with dev := s_link_presets.dev.setLink 2 { up := true, cxl := true, rate := 64000, width := 16, presets := [(2, 4), (3, 6)], pbr := some 9, biId := 3, l0p := false } }) :=
  ⟨⟨by decide +kernel, by decide +kernel⟩,
   by decide +kernel,
   gives_iff.1 (by decide +kernel)⟩

def s_link_down : State := { dev := d_host }
/-- A link goes down, by itself or at an IDE failure, and PME_Turn_Off is acknowledged (R35, R55, R75). -/
theorem witness_link_down :
    s_link_down.dev.inRun ∧
    exec (.hostLinkDown 1) s_link_down = .next ({ s_link_down with dev := s_link_down.dev.setLink 1 { biOn := true } }) ∧
    exec (.ideIntegrityFailure 1 0) s_link_down = .next { s_link_down with dev := nx (.ideIntegrityFailure 1 0) s_link_down } ∧
    ((nx (.ideIntegrityFailure 1 0) s_link_down).link 1 = { biOn := true, macError := true, cacheIde := { insecure := true } } ∧ (nx (.ideIntegrityFailure 1 0) s_link_down).faults.total = 1) ∧
    exec (.ideIntegrityFailure 1 1) s_link_down = .next { s_link_down with dev := nx (.ideIntegrityFailure 1 1) s_link_down } ∧
    ((nx (.ideIntegrityFailure 1 1) s_link_down).link 1 = { biOn := true, macError := true, ioIde := { insecure := true } } ∧ (nx (.ideIntegrityFailure 1 1) s_link_down).faults.total = 1) ∧
    exec (.pmeTurnOff 1) s_link_down = .next ({ s_link_down with dev := Dev.setLink { s_link_down.dev with out := [{ msg := .pmeToAck 1 }] } 1 { s_link_down.dev.link 1 with pme := true } }) :=
  ⟨⟨by decide +kernel, by decide +kernel⟩,
   gives_iff.1 (by decide +kernel),
   nx_iff (by decide +kernel),
   by decide +kernel,
   nx_iff (by decide +kernel),
   by decide +kernel,
   gives_iff.1 (by decide +kernel)⟩

def d_dec : Dev := { d_host with lds := [(ldKey 1 2, { vecBase := some 8, vecCount := 4, pendVec := [3] })] }

def s_commit : State := { dev := d_dec }
/-- A decoder that fits commits; one of another size does not (R40). -/
theorem witness_commit :
    s_commit.dev.inRun ∧
    (s_commit.dev.ldOpen 1 2 = true ∧ s_commit.dev.decoderCause 1 2 3 { base := 0x10000000000, size := 0x10000000, typeDB := true } = 0 ∧ s_commit.dev.decoderCause 1 2 3 { base := 0x10000000000, size := 0x20000000, typeDB := true } ≠ 0) ∧
    exec (.decoderCommit 1 2 3 { base := 0x10000000000, size := 0x10000000, typeDB := true, lock := true }) s_commit = .next ({ s_commit with dev := s_commit.dev.setDecoder 1 2 3 { base := 0x10000000000, size := 0x10000000, typeDB := true, lockOnCommit := true, committed := true, locked := true, position := some 0 } }) ∧
    exec (.decoderCommit 1 2 3 { base := 0x10000000000, size := 0x20000000, typeDB := true }) s_commit = .next ({ s_commit with dev := (s_commit.dev.setDecoder 1 2 3 { base := 0x10000000000, size := 0x20000000, typeDB := true, error := true }).event 0x11 4 (0x1320 + 0x60) (2 + 48 + s_commit.dev.decoderCause 1 2 3 { base := 0x10000000000, size := 0x20000000, typeDB := true } * 256) }) :=
  ⟨⟨by decide +kernel, by decide +kernel⟩,
   by decide +kernel,
   gives_iff.1 (by decide +kernel),
   gives_iff.1 (by decide +kernel)⟩

def s_commit_undefined : State := { dev := d_dec }
/-- Ways and a granularity that the tables do not have leave their fields, with an EVENT (R14). -/
theorem witness_commit_undefined :
    s_commit_undefined.dev.inRun ∧
    ((s_commit_undefined.dev.event 0x385 4 (1 * 2 ^ 45 + 2 * 2 ^ 41 + 0x1380) 2).decoderCause 1 2 3 { base := 0x10000000000, size := 0x10000000, typeDB := true } = 0) ∧
    exec (.decoderCommit 1 2 3 { base := 0x10000000000, size := 0x10000000, typeDB := true, ways := 5, gran := 300 }) s_commit_undefined = .next ({ s_commit_undefined with dev := (s_commit_undefined.dev.event 0x385 4 (1 * 2 ^ 45 + 2 * 2 ^ 41 + 0x1380) 2).setDecoder 1 2 3 { base := 0x10000000000, size := 0x10000000, typeDB := true, committed := true, position := some 0 } }) :=
  ⟨⟨by decide +kernel, by decide +kernel⟩,
   by decide +kernel,
   gives_iff.1 (by decide +kernel)⟩

def s_recommit : State := { dev := d_host }
/-- The fields of a committed decoder that is not locked are written (R610). -/
theorem witness_recommit :
    s_recommit.dev.inRun ∧
    ((mgetD (s_recommit.dev.ld 1 2).decoders 0 {}).committed = true ∧ (mgetD (s_recommit.dev.ld 1 2).decoders 0 {}).locked = false) ∧
    exec (.decoderCommit 1 2 0 { base := 0x20000000000, size := 0x10000000 }) s_recommit = .next ({ s_recommit with dev := s_recommit.dev.setDecoder 1 2 0 { base := 0x20000000000, size := 0x10000000, committed := true, position := some 0 } }) :=
  ⟨⟨by decide +kernel, by decide +kernel⟩,
   by decide +kernel,
   gives_iff.1 (by decide +kernel)⟩

def s_uncommit : State := { dev := d_host }
/-- A decoder is uncommitted (R40). -/
theorem witness_uncommit :
    s_uncommit.dev.inRun ∧
    exec (.decoderUncommit 1 2 0) s_uncommit = .next ({ s_uncommit with dev := s_uncommit.dev.setDecoder 1 2 0 { base := 0x10000000000, size := 0x10000000, typeDB := true } }) :=
  ⟨⟨by decide +kernel, by decide +kernel⟩,
   gives_iff.1 (by decide +kernel)⟩

def s_uncommit_locked : State := { dev := { d_host with lds := [(ldKey 1 2, { decoders := [(0, { base := 0x10000000000, size := 0x10000000, typeDB := true, locked := true, committed := true })] })] } }
/-- A locked decoder stays, with an EVENT (R40). -/
theorem witness_uncommit_locked :
    s_uncommit_locked.dev.inRun ∧
    exec (.decoderUncommit 1 2 0) s_uncommit_locked = .next ({ s_uncommit_locked with dev := s_uncommit_locked.dev.event 0x385 4 (1 * 2 ^ 45 + 2 * 2 ^ 41 + 0x1320) 1 }) ∧
    exec (.decoderCommit 1 2 0 { base := 0, size := 0 }) s_uncommit_locked = .next ({ s_uncommit_locked with dev := s_uncommit_locked.dev.event 0x385 4 (1 * 2 ^ 45 + 2 * 2 ^ 41 + 0x1320) 1 }) :=
  ⟨⟨by decide +kernel, by decide +kernel⟩,
   gives_iff.1 (by decide +kernel),
   gives_iff.1 (by decide +kernel)⟩

def s_unmask : State := { dev := d_dec }
/-- A vector without and one with a pending interrupt is unmasked (R60). -/
theorem witness_unmask :
    s_unmask.dev.inRun ∧
    exec (.vectorUnmask 1 2 0) s_unmask = .next ({ s_unmask with dev := s_unmask.dev.setLd 1 2 { s_unmask.dev.ld 1 2 with msixOn := true, unmasked := [0] } }) ∧
    exec (.vectorUnmask 1 2 3) s_unmask = .next { s_unmask with dev := nx (.vectorUnmask 1 2 3) s_unmask } ∧
    ((nx (.vectorUnmask 1 2 3) s_unmask).out = [{ msg := .msix 1 11 }] ∧ (nx (.vectorUnmask 1 2 3) s_unmask).ld 1 2 = { s_unmask.dev.ld 1 2 with msixOn := true, unmasked := [3], pendVec := [] }) :=
  ⟨⟨by decide +kernel, by decide +kernel⟩,
   gives_iff.1 (by decide +kernel),
   nx_iff (by decide +kernel),
   by decide +kernel⟩

end Sys2Proof.Tests
end

