-- ==== Sys2Proof/Tests/Links.lean ====
section
/-!
SUPPORT. Tests of Evoil flits, ports, the rope and guest frames.
-/
namespace Sys2Proof.Tests

open Sys2Proof.Machine

set_option Elab.async false

def s_naks : State := { dev := { dev0 with ev := { p1 := { state := 2, expect := 5, nextSeq := 9, unacked := 7, freed := 3, limit := 2 } } } }
/-- A flit whose CRC fails, one out of order, and the next one (R432); a NAK interval ends. -/
theorem witness_naks :
    s_naks.dev.inRun ∧
    (s_naks.dev.evLive = true) ∧
    exec (.flit 1 { crcOk := false }) s_naks = .next { s_naks with dev := nx (.flit 1 { crcOk := false }) s_naks } ∧
    ((nx (.flit 1 { crcOk := false }) s_naks).out = [{ msg := .flit 1 0 0 5 3 true [] }] ∧ (nx (.flit 1 { crcOk := false }) s_naks).evPort 1 = { s_naks.dev.evPort 1 with fault := 1, nakSent := true }) ∧
    (exec (.flit 1 {} [0]) s_naks = exec (.flit 1 (readFlit [0])) s_naks) ∧
    (1024 < ((5 : BitVec 12) - 8).toNat) ∧
    exec (.flit 1 { kind := 1, ack := 6, credit := 2, seq := 8 }) s_naks = .next { s_naks with dev := nx (.flit 1 { kind := 1, ack := 6, credit := 2, seq := 8 }) s_naks } ∧
    ((nx (.flit 1 { kind := 1, ack := 6, credit := 2, seq := 8 }) s_naks).out = [{ msg := .flit 1 0 0 5 3 true [] }] ∧ ((nx (.flit 1 { kind := 1, ack := 6, credit := 2, seq := 8 }) s_naks).evPort 1).nakSent = true ∧ ((nx (.flit 1 { kind := 1, ack := 6, credit := 2, seq := 8 }) s_naks).evPort 1).expect = 5) ∧
    exec (.flit 1 { kind := 1, ack := 6, credit := 2, seq := 5, msgs := [.ropeRead false 1 3 4] }) s_naks = .next { s_naks with dev := nx (.flit 1 { kind := 1, ack := 6, credit := 2, seq := 5, msgs := [.ropeRead false 1 3 4] }) s_naks } ∧
    (((nx (.flit 1 { kind := 1, ack := 6, credit := 2, seq := 5, msgs := [.ropeRead false 1 3 4] }) s_naks).evPort 1).nakSent = false ∧ ((nx (.flit 1 { kind := 1, ack := 6, credit := 2, seq := 5, msgs := [.ropeRead false 1 3 4] }) s_naks).evPort 1).expect = 6 ∧ ((nx (.flit 1 { kind := 1, ack := 6, credit := 2, seq := 5, msgs := [.ropeRead false 1 3 4] }) s_naks).evPort 1).rxq = [[.ropeRead false 1 3 4]]) ∧
    exec (.flit 1 { kind := 1, ack := 7, credit := 4, seq := 4, msgs := [.ropeRead false 1 3 4] }) s_naks = .next { s_naks with dev := nx (.flit 1 { kind := 1, ack := 7, credit := 4, seq := 4, msgs := [.ropeRead false 1 3 4] }) s_naks } ∧
    (((nx (.flit 1 { kind := 1, ack := 7, credit := 4, seq := 4, msgs := [.ropeRead false 1 3 4] }) s_naks).evPort 1).expect = 5 ∧ ((nx (.flit 1 { kind := 1, ack := 7, credit := 4, seq := 4, msgs := [.ropeRead false 1 3 4] }) s_naks).evPort 1).rxq = [] ∧ ((nx (.flit 1 { kind := 1, ack := 7, credit := 4, seq := 4, msgs := [.ropeRead false 1 3 4] }) s_naks).evPort 1).unacked = 8 ∧ ((nx (.flit 1 { kind := 1, ack := 7, credit := 4, seq := 4, msgs := [.ropeRead false 1 3 4] }) s_naks).evPort 1).limit = 4) :=
  ⟨⟨by decide +kernel, by decide +kernel⟩,
   by decide +kernel,
   nx_iff (by decide +kernel),
   by decide +kernel,
   rfl,
   by decide +kernel,
   nx_iff (by decide +kernel),
   by decide +kernel,
   nx_iff (by decide +kernel),
   by decide +kernel,
   nx_iff (by decide +kernel),
   by decide +kernel⟩

def s_nak_again : State := { dev := { dev0 with ev := { p1 := { state := 2, expect := 5, nextSeq := 9, unacked := 7, nakSent := true, limit := 2 } } } }
/-- A second flit out of order draws no NAK until the interval ends (R432). -/
theorem witness_nak_again :
    exec (.flit 1 { kind := 1, ack := 6, credit := 2, seq := 8 }) s_nak_again = .next { s_nak_again with dev := nx (.flit 1 { kind := 1, ack := 6, credit := 2, seq := 8 }) s_nak_again } ∧
    ((nx (.flit 1 { kind := 1, ack := 6, credit := 2, seq := 8 }) s_nak_again).out = []) ∧
    exec (.nakIntervalExpiry 1) s_nak_again = .next ({ s_nak_again with dev := s_nak_again.dev.setEv 1 { s_nak_again.dev.evPort 1 with nakSent := false } }) :=
  ⟨nx_iff (by decide +kernel),
   by decide +kernel,
   gives_iff.1 (by decide +kernel)⟩

def s_replay : State := { dev := { dev0 with ev := { p1 := { state := 2, expect := 5, nextSeq := 9, unacked := 7, freed := 3, limit := 2, echo := [([.guestPlaced 1], 0), ([.guestPlaced 2], 0)] } } } }
/-- With no ack in time the flits are sent again in order; a control flit (R433, R434). -/
theorem witness_replay :
    exec (.ackTimeout 1) s_replay = .next { s_replay with dev := nx (.ackTimeout 1) s_replay } ∧
    ((nx (.ackTimeout 1) s_replay).evPort 1 = { s_replay.dev.evPort 1 with echo := [([.guestPlaced 1], 1), ([.guestPlaced 2], 0)], fault := 2 } ∧ (nx (.ackTimeout 1) s_replay).out = [{ msg := .flit 1 1 7 4 3 false [.guestPlaced 1] }, { msg := .flit 1 1 8 4 3 false [.guestPlaced 2] }]) ∧
    exec (.controlInterval 1) s_replay = .next { s_replay with dev := nx (.controlInterval 1) s_replay } ∧
    ((nx (.controlInterval 1) s_replay).out = [{ msg := .flit 1 0 0 4 3 false [] }] ∧ (nx (.controlInterval 1) s_replay).evPort 1 = s_replay.dev.evPort 1) ∧
    exec (.liveness 1) s_replay = .next ({ s_replay with dev := Dev.bump (s_replay.dev.setEv 1 { s_replay.dev.evPort 1 with state := 3, retrains := 1, fault := 0x28 }) (evCnt 1 7) }) :=
  ⟨nx_iff (by decide +kernel),
   by decide +kernel,
   nx_iff (by decide +kernel),
   by decide +kernel,
   gives_iff.1 (by decide +kernel)⟩

def s_no_credit : State := { dev := { dev0 with ev := { p1 := { state := 2, nextSeq := 513, limit := 1, txq := [.guestPlaced 3] } } } }
/-- A port without credit goes down (R437). -/
theorem witness_no_credit :
    exec (.creditTimeout 1) s_no_credit = .next ({ s_no_credit with dev := (s_no_credit.dev.bump (evCnt 1 14) s_no_credit.dev.ev.creditUs).portDown 1 0x10 true }) :=
  gives_iff.1 (by decide +kernel)

def s_retrain_time : State := { dev := { dev0 with ev := { p1 := { state := 3, retrains := 1 } } } }
/-- A port retrains once more (R440); one that no flit made retrain is CORRECTED 0x5002 when it is done (R441). -/
theorem witness_retrain_time :
    exec (.retrainTimeout 1) s_retrain_time = .next ({ s_retrain_time with dev := Dev.bump (s_retrain_time.dev.setEv 1 { s_retrain_time.dev.evPort 1 with state := 3, retrains := 2, fault := 0x20 }) (evCnt 1 7) }) ∧
    exec (.retrainComplete 1) s_retrain_time = .next ({ s_retrain_time with dev := (s_retrain_time.dev.setEv 1 { s_retrain_time.dev.evPort 1 with state := 2, retrains := 0 }).raise { code := 0x5002, cls := 1, unit := unitEv 1, att := 2 } }) :=
  ⟨gives_iff.1 (by decide +kernel),
   gives_iff.1 (by decide +kernel)⟩

def s_retrain_out : State := { dev := { dev0 with ev := { p1 := { state := 3, retrains := 2, session := 4 } } } }
/-- After two it goes down (R441). -/
theorem witness_retrain_out :
    s_retrain_out.dev.Still ∧
    (s_retrain_out.dev.ev.rope.state = 0 ∧ s_retrain_out.dev.pages.moves = [] ∧ s_retrain_out.dev.pages.fars = [] ∧ s_retrain_out.dev.remotePages 1 = []) ∧
    exec (.retrainTimeout 1) s_retrain_out = .next ({ s_retrain_out with dev := (s_retrain_out.dev.setEv 1 { (s_retrain_out.dev.evPort 1).ended with fault := 0xC0 }).raise { code := 0x5003, cls := 2, unit := unitEv 1 } }) :=
  ⟨by constructor <;> decide +kernel,
   by decide +kernel,
   gives_iff.1 (by decide +kernel)⟩

def s_retrain_flit : State := { dev := { dev0 with ev := { p1 := { state := 3, retrains := 1, retrainCause := some 7, unacked := 7, nextSeq := 9, echo := [([.guestPlaced 1], 0), ([.guestPlaced 2], 4)] } } } }
/-- After a retrain that a flit caused the flits are sent again (R440). -/
theorem witness_retrain_flit :
    exec (.retrainComplete 1) s_retrain_flit = .next { s_retrain_flit with dev := nx (.retrainComplete 1) s_retrain_flit } ∧
    ((nx (.retrainComplete 1) s_retrain_flit).evPort 1 = { s_retrain_flit.dev.evPort 1 with state := 2, echo := [([.guestPlaced 1], 0), ([.guestPlaced 2], 0)], fault := 2 } ∧ (nx (.retrainComplete 1) s_retrain_flit).out = [{ msg := .flit 1 1 7 4095 0 false [.guestPlaced 1] }, { msg := .flit 1 1 8 4095 0 false [.guestPlaced 2] }]) :=
  ⟨nx_iff (by decide +kernel),
   by decide +kernel⟩

def s_ev_idle : State := { dev := { dev0 with ev := { p1 := { state := 2, session := 4 } } } }
/-- An idle line takes the port down (R439). -/
theorem witness_ev_idle :
    s_ev_idle.dev.Still ∧
    (s_ev_idle.dev.ev.rope.state = 0 ∧ s_ev_idle.dev.pages.moves = [] ∧ s_ev_idle.dev.pages.fars = [] ∧ s_ev_idle.dev.remotePages 1 = []) ∧
    exec (.electricalIdleTimeout 1) s_ev_idle = .next ({ s_ev_idle with dev := s_ev_idle.dev.setEv 1 { (s_ev_idle.dev.evPort 1).ended with fault := 0x80 } }) :=
  ⟨by constructor <;> decide +kernel,
   by decide +kernel,
   gives_iff.1 (by decide +kernel)⟩

def s_ev_attempt : State := { dev := { dev0 with ev := { p1 := { state := 0 } } } }
/-- A link-up is attempted (R421). -/
theorem witness_ev_attempt :
    exec (.linkUpAttempt 1) s_ev_attempt = .next ({ s_ev_attempt with dev := s_ev_attempt.dev.setEv 1 { s_ev_attempt.dev.evPort 1 with state := 1 } }) :=
  gives_iff.1 (by decide +kernel)

def s_ev_up : State := { dev := { dev0 with ev := { pool := some 6, p1 := { state := 1, session := 4 } } } }
/-- A port comes up at either width with a hello (R422, R442). -/
theorem witness_ev_up :
    exec (.evoilLinkUp 1 true) s_ev_up = .next { s_ev_up with dev := nx (.evoilLinkUp 1 true) s_ev_up } ∧
    ((nx (.evoilLinkUp 1 true) s_ev_up).evPort 1 = { (s_ev_up.dev.evPort 1).ended with state := 2, narrow := true, nextSeq := 1, helloSent := true, echo := [([.hello 8 0x1664 (some 6) none 0 4], 0)] } ∧ ({ msg := .flit 1 1 0 4095 0 false [.hello 8 0x1664 (some 6) none 0 4] } : Out) ∈ (nx (.evoilLinkUp 1 true) s_ev_up).out ∧ (nx (.evoilLinkUp 1 true) s_ev_up).faults.total = 1) ∧
    exec (.evoilLinkUp 1 false) s_ev_up = .next { s_ev_up with dev := nx (.evoilLinkUp 1 false) s_ev_up } ∧
    (((nx (.evoilLinkUp 1 false) s_ev_up).evPort 1).narrow = false ∧ (nx (.evoilLinkUp 1 false) s_ev_up).faults.total = 0) :=
  ⟨nx_iff (by decide +kernel),
   by decide +kernel,
   nx_iff (by decide +kernel),
   by decide +kernel⟩

/-- Port 1 up in session 4 of the far end, with one message received and another flit behind it; grotto 3 is a mirror copy. -/
def d_got (m : EvMsg) : Dev := { d_host with
  grottos := [(3, { d_host.grotto 3 with copy := true })], keys := [(1, 5), (2, 6)]
  ev := { pool := some 6, p1 := { state := 2, helloSent := true, helloGot := true, peerPool := some 7, peerSession := 4, freed := 2, rxq := [[m], [.guestPlaced 1]] } } }
def p_got : EvPort := { state := 2, helloSent := true, helloGot := true, peerPool := some 7, peerSession := 4, freed := 3, rxq := [[.guestPlaced 1]] }

def s_hello : State := { dev := (d_got (.hello 8 0x0832 (some 7) (some 6) 9 4)) }
/-- The far end's hello is kept (R442). -/
theorem witness_hello :
    (s_hello.dev.evLive = true ∧ (s_hello.dev.evPort 1).rxq = [[.hello 8 0x0832 (some 7) (some 6) 9 4], [.guestPlaced 1]]) ∧
    s_hello.dev.Still ∧
    exec (.hello 1) s_hello = .next { s_hello with dev := nx (.hello 1) s_hello } ∧
    (((nx (.hello 1) s_hello).evPort 1).helloGot = true ∧ ((nx (.hello 1) s_hello).evPort 1).peerMember = 0x0832 ∧ ((nx (.hello 1) s_hello).evPort 1).peerPool = some 7 ∧ ((nx (.hello 1) s_hello).evPort 1).peerRope = some 6 ∧ ((nx (.hello 1) s_hello).evPort 1).peerEpoch = 9 ∧ (nx (.hello 1) s_hello).mem = s_hello.dev.mem ∧ (nx (.hello 1) s_hello).grottos = s_hello.dev.grottos) :=
  ⟨by decide +kernel,
   by constructor <;> decide +kernel,
   nx_iff (by decide +kernel),
   by decide +kernel⟩

def s_hello_slots : State := { dev := (d_got (.hello 7 0x0832 (some 7) none 0 4)) }
/-- A hello with another slot count takes the port down (R442). -/
theorem witness_hello_slots :
    (s_hello_slots.dev.evLive = true ∧ (s_hello_slots.dev.evPort 1).rxq = [[.hello 7 0x0832 (some 7) none 0 4], [.guestPlaced 1]]) ∧
    exec (.hello 1) s_hello_slots = .next ({ s_hello_slots with dev := (s_hello_slots.dev.setEv 1 p_got).portDown 1 0 true }) :=
  ⟨by decide +kernel,
   gives_iff.1 (by decide +kernel)⟩

def s_hello_member : State := { dev := (d_got (.hello 8 0x1000 (some 7) none 0 4)) }
/-- As does one of no member of the family (R442). -/
theorem witness_hello_member :
    (s_hello_member.dev.evLive = true ∧ (s_hello_member.dev.evPort 1).rxq = [[.hello 8 0x1000 (some 7) none 0 4], [.guestPlaced 1]]) ∧
    exec (.hello 1) s_hello_member = .next ({ s_hello_member with dev := (s_hello_member.dev.setEv 1 p_got).portDown 1 0 true }) :=
  ⟨by decide +kernel,
   gives_iff.1 (by decide +kernel)⟩

def s_mirror_line : State := { dev := (d_got (.mirrorLine { grotto := 3, line := 5, seq := 8, data := 77, key := 5 })) }
/-- A mirror line is opened and written into the copy (R427, R449). -/
theorem witness_mirror_line :
    (s_mirror_line.dev.evLive = true ∧ (s_mirror_line.dev.evPort 1).rxq = [[.mirrorLine { grotto := 3, line := 5, seq := 8, data := 77, key := 5 }], [.guestPlaced 1]]) ∧
    (s_mirror_line.dev.freshSeq 1 false 8 = true ∧ s_mirror_line.dev.unsealed { grotto := 3, line := 5, seq := 8, data := 77, key := 5 } = 77) ∧
    exec (.mirrorLine 1) s_mirror_line = .next ({ s_mirror_line with dev := ((s_mirror_line.dev.setEv 1 { p_got with freed := 2, placing := [(8, false)], held := [[8]] }).again 1 { who := .rope 1 8, src := 162, g := 3, line := 5, op := .write fullMask 77 false }).after }) :=
  ⟨by decide +kernel,
   by decide +kernel,
   gives_iff.1 (by decide +kernel)⟩

def s_mirror_rebuild : State := { dev := { (d_got (.mirrorLine { grotto := 3, line := 5, seq := 8, data := 77, rebuild := true, key := 5 })) with grottos := d_host.grottos } }
/-- A line of a rebuild is counted; where there is no copy it is only reported (R447, R451). -/
theorem witness_mirror_rebuild :
    (s_mirror_rebuild.dev.evLive = true ∧ (s_mirror_rebuild.dev.evPort 1).rxq = [[.mirrorLine { grotto := 3, line := 5, seq := 8, data := 77, rebuild := true, key := 5 }], [.guestPlaced 1]]) ∧
    ((s_mirror_rebuild.dev.grotto 3).copy = false) ∧
    exec (.mirrorLine 1) s_mirror_rebuild = .next ({ s_mirror_rebuild with dev := (((s_mirror_rebuild.dev.setEv 1 { p_got with freed := 2, placing := [(8, false)], held := [[8]] }).bump (evCnt 1 13)).ropePlaced 1 8) }) :=
  ⟨by decide +kernel,
   by decide +kernel,
   gives_iff.1 (by decide +kernel)⟩

def s_map_change : State := { dev := (d_got (.mapChange 0 1 3 0 8)) }
/-- A map change unbacks a page of the copy (R449). -/
theorem witness_map_change :
    (s_map_change.dev.evLive = true ∧ (s_map_change.dev.evPort 1).rxq = [[.mapChange 0 1 3 0 8], [.guestPlaced 1]]) ∧
    (s_map_change.dev.freshSeq 1 (s_map_change.dev.crossed 1 3 0) 8 = true) ∧
    exec (.mirrorMapChange 1) s_map_change = .next ({ s_map_change with dev := ((s_map_change.dev.setEv 1 { p_got with freed := 2, placing := [(8, false)], held := [[8]] }).again 1 { who := .rope 1 8, src := 162, g := 3, line := 0, op := .unback 1 }).after }) :=
  ⟨by decide +kernel,
   by decide +kernel,
   gives_iff.1 (by decide +kernel)⟩

def s_map_again : State := { dev := { d_got (.mapChange 0 1 3 0 8) with ev := { (d_got (.mapChange 0 1 3 0 8)).ev with rope := { both := true, rx0 := some 8 } } } }
/-- One that the other port had placed is not applied again (R453). -/
theorem witness_map_again :
    (s_map_again.dev.evLive = true ∧ (s_map_again.dev.evPort 1).rxq = [[.mapChange 0 1 3 0 8], [.guestPlaced 1]]) ∧
    (s_map_again.dev.freshSeq 1 (s_map_again.dev.crossed 1 3 0) 8 = false) ∧
    exec (.mirrorMapChange 1) s_map_again = .next ({ s_map_again with dev := ((s_map_again.dev.setEv 1 { p_got with freed := 2, placing := [(8, false)], held := [[8]] }).ropePlaced 1 8).after }) :=
  ⟨by decide +kernel,
   by decide +kernel,
   gives_iff.1 (by decide +kernel)⟩

def s_map_take : State := { dev := { d_got (.mapChange 2 65536 3 65536 8) with mem := { phys := 600000, pools := [(0, { zeroed := [900], pending := [(1000, 500000)] })] }, chans := [(0, { state := 3, frames := 500000, ranks := 1 })] } }
def u_map_take : Grotto := { s_map_take.dev.grotto 3 with accepted := [(1, 1)] }
/-- A map change 2 takes an extent (R449). -/
theorem witness_map_take :
    (s_map_take.dev.evLive = true ∧ (s_map_take.dev.evPort 1).rxq = [[.mapChange 2 65536 3 65536 8], [.guestPlaced 1]]) ∧
    ((s_map_take.dev.grotto 3).copy = true ∧ s_map_take.dev.freshSeq 1 (s_map_take.dev.crossed 1 3 65536) 8 = true) ∧
    (((s_map_take.dev.setEv 1 { p_got with freed := 2, placing := [(8, false)], held := [[8]] })).overcommits { (s_map_take.dev.setEv 1 { p_got with freed := 2, placing := [(8, false)], held := [[8]] }) with grottos := mset s_map_take.dev.grottos 3 u_map_take } = false) ∧
    exec (.mirrorMapChange 1) s_map_take = .next ({ s_map_take with dev := ((((s_map_take.dev.setEv 1 { p_got with freed := 2, placing := [(8, false)], held := [[8]] }).setGrotto 3 u_map_take).ropePlaced 1 8).after) }) :=
  ⟨by decide +kernel,
   by decide +kernel,
   by decide +kernel,
   gives_iff.1 (by decide +kernel)⟩

def s_map_give : State := { dev := { d_got (.mapChange 3 65536 3 65536 8) with grottos := [(3, { d_host.grotto 3 with copy := true, accepted := [(1, 1)] })] } }
/-- A map change 3 takes an extent out and unbacks its pages (R449). -/
theorem witness_map_give :
    (s_map_give.dev.evLive = true ∧ (s_map_give.dev.evPort 1).rxq = [[.mapChange 3 65536 3 65536 8], [.guestPlaced 1]]) ∧
    ((s_map_give.dev.grotto 3).copy = true ∧ s_map_give.dev.freshSeq 1 (s_map_give.dev.crossed 1 3 65536) 8 = true) ∧
    exec (.mirrorMapChange 1) s_map_give = .next ({ s_map_give with dev := (((s_map_give.dev.setEv 1 { p_got with freed := 2, placing := [(8, false)], held := [[8]] }).setGrotto 3 { s_map_give.dev.grotto 3 with accepted := [] }).again 1 { who := .rope 1 8, src := 162, g := 3, line := 65536 * 64, op := .unback 65536 }).after }) :=
  ⟨by decide +kernel,
   by decide +kernel,
   gives_iff.1 (by decide +kernel)⟩

def s_map_erase : State := { dev := (d_got (.mapChange 1 0 3 0 8)) }
/-- Another erases the keys of the copy (R449). -/
theorem witness_map_erase :
    (s_map_erase.dev.evLive = true ∧ (s_map_erase.dev.evPort 1).rxq = [[.mapChange 1 0 3 0 8], [.guestPlaced 1]]) ∧
    s_map_erase.dev.Still ∧
    (s_map_erase.dev.freshSeq 1 (s_map_erase.dev.crossed 1 3 0) 8 = true) ∧
    exec (.mirrorMapChange 1) s_map_erase = .next { s_map_erase with dev := nx (.mirrorMapChange 1) s_map_erase } ∧
    (mget (nx (.mirrorMapChange 1) s_map_erase).keys 1 = none ∧ (nx (.mirrorMapChange 1) s_map_erase).grottos = s_map_erase.dev.grottos ∧ (nx (.mirrorMapChange 1) s_map_erase).mem = s_map_erase.dev.mem) :=
  ⟨by decide +kernel,
   by constructor <;> decide +kernel,
   by decide +kernel,
   nx_iff (by decide +kernel),
   by decide +kernel⟩

def s_placement : State := { dev := { d_got (.placement 8) with pages := { (d_got (.placement 8)).pages with mirrorWait := [(1, 8, { who := .host h0, src := srcOf 1 2, g := 3, line := 5, op := .write fullMask 1 false })] }, ev := { (d_got (.placement 8)).ev with rope := { unplaced := [(1, 8, .mirrorLine { grotto := 3, line := 5, seq := 8 })] } } } }
/-- A placement report completes the write that waits (R451). -/
theorem witness_placement :
    (s_placement.dev.evLive = true ∧ (s_placement.dev.evPort 1).rxq = [[.placement 8], [.guestPlaced 1]]) ∧
    s_placement.dev.Still ∧
    (s_placement.dev.linkLive 1 = true) ∧
    exec (.placementReport 1) s_placement = .next { s_placement with dev := nx (.placementReport 1) s_placement } ∧
    ((nx (.placementReport 1) s_placement).out = [{ msg := .memCmp h0 }] ∧ (nx (.placementReport 1) s_placement).pages.mirrorWait = [] ∧ (nx (.placementReport 1) s_placement).ev.rope.unplaced = [] ∧ (nx (.placementReport 1) s_placement).slices = s_placement.dev.slices) :=
  ⟨by decide +kernel,
   by constructor <;> decide +kernel,
   by decide +kernel,
   nx_iff (by decide +kernel),
   by decide +kernel⟩

def s_rope_read : State := { dev := (d_got (.ropeRead false 9 3 5)) }
/-- A rope read is asked of the home slice (R457). -/
theorem witness_rope_read :
    (s_rope_read.dev.evLive = true ∧ (s_rope_read.dev.evPort 1).rxq = [[.ropeRead false 9 3 5], [.guestPlaced 1]]) ∧
    exec (.ropeRead 1) s_rope_read = .next ({ s_rope_read with dev := ((s_rope_read.dev.setEv 1 p_got).again 1 { who := .ropeRead 1 9, src := 162, g := 3, line := 5, op := .readI }).after }) :=
  ⟨by decide +kernel,
   gives_iff.1 (by decide +kernel)⟩

def s_rope_read_page : State := { dev := (d_got (.ropeRead true 9 3 64)) }
/-- A whole page is asked line by line (R457). -/
theorem witness_rope_read_page :
    (s_rope_read_page.dev.evLive = true ∧ (s_rope_read_page.dev.evPort 1).rxq = [[.ropeRead true 9 3 64], [.guestPlaced 1]]) ∧
    (((List.range 64).map fun i => 64 / 64 * 64 + i) = (List.range 64).map (64 + ·)) :=
  ⟨by decide +kernel,
   by decide +kernel⟩

def s_rope_data : State := { dev := { d_got (.ropeData { tag := 9, grotto := 3, line := 5, data := 77, key := 5 }) with pages := { (d_got (.placement 8)).pages with fars := [{ port := 1, tag := 9, rope := true, req := { who := .host h0, src := srcOf 1 2, g := 3, line := 5, op := .readS } }] } } }
/-- Its data reaches the reader (R457). -/
theorem witness_rope_data :
    (s_rope_data.dev.evLive = true ∧ (s_rope_data.dev.evPort 1).rxq = [[.ropeData { tag := 9, grotto := 3, line := 5, data := 77, key := 5 }], [.guestPlaced 1]]) ∧
    exec (.ropeReadData 1) s_rope_data = .next ({ s_rope_data with dev := ((((s_rope_data.dev.setEv 1 p_got).onPages fun k => { k with fars := [] }).answerRead { who := .host h0, src := srcOf 1 2, g := 3, line := 5, op := .readS } 77 false).after) }) :=
  ⟨by decide +kernel,
   gives_iff.1 (by decide +kernel)⟩

def s_control_forget : State := { dev := { d_got (.ropeControl 2 3 0 0 0 0) with fwUp := false, ev := { (d_got (.ropeControl 2 3 0 0 0 0)).ev with rope := { state := 1, port := 1, partner := 7, epoch := 10, copies := [(3, 9)] } } } }
/-- Rope control 2 forgets a copy (R460). -/
theorem witness_control_forget :
    (s_control_forget.dev.evLive = true ∧ (s_control_forget.dev.evPort 1).rxq = [[.ropeControl 2 3 0 0 0 0], [.guestPlaced 1]]) ∧
    exec (.ropeControl 1) s_control_forget = .next ({ s_control_forget with dev := ((s_control_forget.dev.setEv 1 p_got).onRope fun r => { r with copies := [] }) }) :=
  ⟨by decide +kernel,
   gives_iff.1 (by decide +kernel)⟩

def s_control_mark : State := { dev := { d_got (.ropeControl 3 3 0 0 0 0) with fwUp := false, ev := { (d_got (.ropeControl 3 3 0 0 0 0)).ev with rope := { state := 1, port := 1, partner := 7, epoch := 10, copies := [(3, 9)] } } } }
/-- Rope control 3 marks a copy complete (R460). -/
theorem witness_control_mark :
    (s_control_mark.dev.evLive = true ∧ (s_control_mark.dev.evPort 1).rxq = [[.ropeControl 3 3 0 0 0 0], [.guestPlaced 1]]) ∧
    exec (.ropeControl 1) s_control_mark = .next ({ s_control_mark with dev := ((s_control_mark.dev.setEv 1 p_got).onRope fun r => { r with copies := [(3, 10)] }) }) :=
  ⟨by decide +kernel,
   gives_iff.1 (by decide +kernel)⟩

def s_control_end : State := { dev := { d_got (.ropeControl 1 3 0 0 0 0) with fwUp := false, ev := { (d_got (.ropeControl 1 3 0 0 0 0)).ev with rope := { state := 1, port := 1, partner := 7, epoch := 10, copies := [(3, 9)] } } } }
/-- Rope control 1 ends the rope (R448). -/
theorem witness_control_end :
    (s_control_end.dev.evLive = true ∧ (s_control_end.dev.evPort 1).rxq = [[.ropeControl 1 3 0 0 0 0], [.guestPlaced 1]]) ∧
    s_control_end.dev.Still ∧
    exec (.ropeControl 1) s_control_end = .next { s_control_end with dev := nx (.ropeControl 1) s_control_end } ∧
    ((nx (.ropeControl 1) s_control_end).ev.rope.state = 3 ∧ (nx (.ropeControl 1) s_control_end).ev.rope.markEpoch = 10 ∧ (nx (.ropeControl 1) s_control_end).ev.rope.wasSynced = true ∧ (nx (.ropeControl 1) s_control_end).ev.rope.unplaced = [] ∧ (nx (.ropeControl 1) s_control_end).pages.mirrorWait = []) :=
  ⟨by decide +kernel,
   by constructor <;> decide +kernel,
   nx_iff (by decide +kernel),
   by decide +kernel⟩

def s_guest_refused : State := { dev := (d_got (.guestRequest 9)) }
/-- A request beyond the quota is refused (R259). -/
theorem witness_guest_refused :
    (s_guest_refused.dev.evLive = true ∧ (s_guest_refused.dev.evPort 1).rxq = [[.guestRequest 9], [.guestPlaced 1]]) ∧
    (s_guest_refused.dev.quota 1 ≤ s_guest_refused.dev.guestsOf 1) ∧
    exec (.guestRequest 1) s_guest_refused = .next ({ s_guest_refused with dev := (s_guest_refused.dev.setEv 1 p_got).evSend 1 (.guestGrant true 9 0) }) :=
  ⟨by decide +kernel,
   by decide +kernel,
   gives_iff.1 (by decide +kernel)⟩

def s_guest_granted : State := { dev := { d_got (.guestRequest 9) with flow := { quota1 := 5 }, mem := { pools := [(0, { zeroed := [300] })] } } }
/-- One within the quota gets a zeroed frame (R259). -/
theorem witness_guest_granted :
    (s_guest_granted.dev.evLive = true ∧ (s_guest_granted.dev.evPort 1).rxq = [[.guestRequest 9], [.guestPlaced 1]]) ∧
    (s_guest_granted.dev.guestsOf 1 < s_guest_granted.dev.quota 1 ∧ 0 < s_guest_granted.dev.freeOn 0 ∧ s_guest_granted.dev.frameOk (mkFrame 0 300) = true ∧ ∀ c, c < 16 → 0 < s_guest_granted.dev.freeOn c → c = 0) ∧
    exec (.guestRequest 1) s_guest_granted = .next { s_guest_granted with dev := nx (.guestRequest 1) s_guest_granted } ∧
    (mget (nx (.guestRequest 1) s_guest_granted).mem.guests (mkFrame 0 300) = some 1 ∧ (nx (.guestRequest 1) s_guest_granted).grottos = s_guest_granted.dev.grottos) :=
  ⟨by decide +kernel,
   by decide +kernel,
   nx_iff (by decide +kernel),
   by decide +kernel⟩

def s_guest_release : State := { dev := { d_got (.guestRelease 300) with mem := { d_host.mem with guests := [(300, 1), (301, 1)] } } }
/-- A release frees its frame (R262). -/
theorem witness_guest_release :
    (s_guest_release.dev.evLive = true ∧ (s_guest_release.dev.evPort 1).rxq = [[.guestRelease 300], [.guestPlaced 1]]) ∧
    s_guest_release.dev.Still ∧
    exec (.guestRelease 1) s_guest_release = .next { s_guest_release with dev := nx (.guestRelease 1) s_guest_release } ∧
    (mget (nx (.guestRelease 1) s_guest_release).mem.guests 300 = none ∧ mget (nx (.guestRelease 1) s_guest_release).mem.guests 301 = some 1) :=
  ⟨by decide +kernel,
   by constructor <;> decide +kernel,
   nx_iff (by decide +kernel),
   by decide +kernel⟩

def s_guest_write : State := { dev := { d_got (.guestWrite false false 9 300 63 77 5 6) with mem := { guests := [(300, 1)] } } }
/-- A line write stores the ciphertext, the poison mark or the zero mark, and is reported placed (R260). -/
theorem witness_guest_write :
    (s_guest_write.dev.evLive = true ∧ (s_guest_write.dev.evPort 1).rxq = [[.guestWrite false false 9 300 63 77 5 6], [.guestPlaced 1]]) ∧
    exec (.guestLineWrite 1) s_guest_write = .next ({ s_guest_write with dev := ((s_guest_write.dev.setEv 1 p_got).dramWrite 300 63 { kind := .data, key := 5, tweak := 6, data := 77 } 0).evSend 1 (.guestPlaced 9) }) :=
  ⟨by decide +kernel,
   gives_iff.1 (by decide +kernel)⟩

def s_guest_poison : State := { dev := { d_got (.guestWrite true false 9 300 63 77 5 6) with mem := { guests := [(300, 1)] } } }
/-- A line write stores the ciphertext, the poison mark or the zero mark, and is reported placed (R260). -/
theorem witness_guest_poison :
    (s_guest_poison.dev.evLive = true ∧ (s_guest_poison.dev.evPort 1).rxq = [[.guestWrite true false 9 300 63 77 5 6], [.guestPlaced 1]]) ∧
    exec (.guestLineWrite 1) s_guest_poison = .next ({ s_guest_poison with dev := ((s_guest_poison.dev.setEv 1 p_got).dramWrite 300 63 .poisoned 0).evSend 1 (.guestPlaced 9) }) :=
  ⟨by decide +kernel,
   gives_iff.1 (by decide +kernel)⟩

def s_guest_zero : State := { dev := { d_got (.guestWrite false true 9 300 63 77 5 6) with mem := { guests := [(300, 1)] } } }
/-- A line write stores the ciphertext, the poison mark or the zero mark, and is reported placed (R260). -/
theorem witness_guest_zero :
    (s_guest_zero.dev.evLive = true ∧ (s_guest_zero.dev.evPort 1).rxq = [[.guestWrite false true 9 300 63 77 5 6], [.guestPlaced 1]]) ∧
    exec (.guestLineWrite 1) s_guest_zero = .next ({ s_guest_zero with dev := ((s_guest_zero.dev.setEv 1 p_got).dramWrite 300 63 {} 0).evSend 1 (.guestPlaced 9) }) :=
  ⟨by decide +kernel,
   gives_iff.1 (by decide +kernel)⟩

def s_guest_stray : State := { dev := (d_got (.guestWrite false false 9 300 3 77 5 6)) }
/-- A line write to a frame that is not the neighbour's is an EVENT (R262). -/
theorem witness_guest_stray :
    (s_guest_stray.dev.evLive = true ∧ (s_guest_stray.dev.evPort 1).rxq = [[.guestWrite false false 9 300 3 77 5 6], [.guestPlaced 1]]) ∧
    exec (.guestLineWrite 1) s_guest_stray = .next ({ s_guest_stray with dev := (s_guest_stray.dev.setEv 1 p_got).event (unitEv 1) }) :=
  ⟨by decide +kernel,
   gives_iff.1 (by decide +kernel)⟩

def s_guest_read : State := { dev := { d_got (.guestRead 9 300 3) with mem := { guests := [(300, 1)], dram := [(dramKey 300 3, { kind := .data, key := 5, tweak := 6, data := 77 })] } } }
def y_guest_read : DLine := ((s_guest_read.dev.setEv 1 p_got).dramRead 300 3 {} none 0).1
def f_guest_read : Dev := ((s_guest_read.dev.setEv 1 p_got).dramRead 300 3 {} none 0).2
/-- A read is answered with the ciphertext (R260). -/
theorem witness_guest_read :
    (s_guest_read.dev.evLive = true ∧ (s_guest_read.dev.evPort 1).rxq = [[.guestRead 9 300 3], [.guestPlaced 1]]) ∧
    (y_guest_read = { kind := .data, key := 5, tweak := 6, data := 77 }) ∧
    exec (.guestLineRead 1) s_guest_read = .next ({ s_guest_read with dev := f_guest_read.evSend 1 (.guestData false false 9 77 5 6) }) :=
  ⟨by decide +kernel,
   by decide +kernel,
   gives_iff.1 (by decide +kernel)⟩

def s_grant_stray : State := { dev := (d_got (.guestGrant false 9 300)) }
/-- A grant without a move is given back; a refusal is passed over (R261). -/
theorem witness_grant_stray :
    (s_grant_stray.dev.evLive = true ∧ (s_grant_stray.dev.evPort 1).rxq = [[.guestGrant false 9 300], [.guestPlaced 1]]) ∧
    exec (.guestGrant 1) s_grant_stray = .next ({ s_grant_stray with dev := (s_grant_stray.dev.setEv 1 p_got).evSend 1 (.guestRelease 300) }) :=
  ⟨by decide +kernel,
   gives_iff.1 (by decide +kernel)⟩

def s_refusal_stray : State := { dev := (d_got (.guestGrant true 9 0)) }
/-- A refusal without a move is passed over (R261). -/
theorem witness_refusal_stray :
    (s_refusal_stray.dev.evLive = true ∧ (s_refusal_stray.dev.evPort 1).rxq = [[.guestGrant true 9 0], [.guestPlaced 1]]) ∧
    exec (.guestGrant 1) s_refusal_stray = .next ({ s_refusal_stray with dev := (s_refusal_stray.dev.setEv 1 p_got) }) :=
  ⟨by decide +kernel,
   gives_iff.1 (by decide +kernel)⟩

def s_grant_refused : State := { dev := { d_got (.guestGrant true 9 0) with pages := { (d_got (.guestGrant true 9 0)).pages with area := [(0x10000, mkEntry true 5 0 0 1 100)], moves := [{ mover := 2, issuer := none, kind := .spill, g := 3, page := 0, dst := .guest 1 none, acks := 0 }], fars := [{ port := 1, tag := 9, place := false, page := some (3, 0), req := { who := .quiet, src := 0, g := 3, line := 0, op := .readI } }] } } }
/-- A refusal ends the move with status 0x0108 (R261). -/
theorem witness_grant_refused :
    (s_grant_refused.dev.evLive = true ∧ (s_grant_refused.dev.evPort 1).rxq = [[.guestGrant true 9 0], [.guestPlaced 1]]) ∧
    exec (.guestGrant 1) s_grant_refused = .next ({ s_grant_refused with dev := ((s_grant_refused.dev.setEv 1 p_got).onPages fun k => { k with fars := [] }).endMove { mover := 2, issuer := none, kind := .spill, g := 3, page := 0, dst := .guest 1 none, acks := 0 } 0x0108 }) :=
  ⟨by decide +kernel,
   gives_iff.1 (by decide +kernel)⟩

def s_grant : State := { dev := { d_got (.guestGrant false 9 300) with pages := { (d_got (.guestGrant false 9 300)).pages with area := [(0x10000, mkEntry true 5 0 0 1 100)], moves := [{ mover := 2, issuer := none, kind := .spill, g := 3, page := 0, dst := .guest 1 none, acks := 0 }], fars := [{ port := 1, tag := 9, place := false, page := some (3, 0), req := { who := .quiet, src := 0, g := 3, line := 0, op := .readI } }] } } }
def e1_grant : Dev := (s_grant.dev.setEv 1 p_got).onPages fun k => { k with fars := [] }
/-- A grant has the lines sent (R261). -/
theorem witness_grant :
    (s_grant.dev.evLive = true ∧ (s_grant.dev.evPort 1).rxq = [[.guestGrant false 9 300], [.guestPlaced 1]]) ∧
    exec (.guestGrant 1) s_grant = .next ({ s_grant with dev := e1_grant.shipPage { mover := 2, issuer := none, kind := .spill, g := 3, page := 0, dst := .guest 1 (some 300), acks := 0 } 1 300 }) :=
  ⟨by decide +kernel,
   gives_iff.1 (by decide +kernel)⟩

def s_guest_placed : State := { dev := { d_got (.guestPlaced 9) with pages := { (d_got (.guestPlaced 9)).pages with area := [(0x10000, mkEntry true 5 0 0 1 100)], moves := [{ mover := 2, issuer := none, kind := .spill, g := 3, page := 0, dst := .guest 1 (some 300), acks := 4 }], fars := [{ port := 1, tag := 9, place := true, page := some (3, 0), req := { who := .quiet, src := 0, g := 3, line := 0, op := .readI } }] } } }
/-- A line that is placed is counted (R261). -/
theorem witness_guest_placed :
    (s_guest_placed.dev.evLive = true ∧ (s_guest_placed.dev.evPort 1).rxq = [[.guestPlaced 9], [.guestPlaced 1]]) ∧
    exec (.guestPlaced 1) s_guest_placed = .next ({ s_guest_placed with dev := (((s_guest_placed.dev.setEv 1 p_got).onPages fun k => { k with fars := [] }).setMove { mover := 2, issuer := none, kind := .spill, g := 3, page := 0, dst := .guest 1 (some 300), acks := 3 }) }) :=
  ⟨by decide +kernel,
   gives_iff.1 (by decide +kernel)⟩

def s_guest_data : State := { dev := { d_got (.guestData false false 9 77 5 (lineTweak 3 0 5)) with pages := { (d_got (.guestData false false 9 77 5 (lineTweak 3 0 5))).pages with area := [(0x10000, mkEntry true 4 0 0 0 (2 ^ 33 + 300))], fars := [{ port := 1, tag := 9, req := { who := .host h0, src := srcOf 1 2, g := 3, line := 5, op := .readS } }] }, slices := {} } }
def e1_guest_data : Dev := (s_guest_data.dev.setEv 1 p_got).onPages fun k => { k with fars := [] }
def u_guest_data : LineData × Bool × Dev := e1_guest_data.deliver 3 0 5 { kind := .data, key := 5, tweak := lineTweak 3 0 5, data := 77 }
/-- Data from a guest frame reaches the host that waits (R260). -/
theorem witness_guest_data :
    (s_guest_data.dev.evLive = true ∧ (s_guest_data.dev.evPort 1).rxq = [[.guestData false false 9 77 5 (lineTweak 3 0 5)], [.guestPlaced 1]]) ∧
    (u_guest_data.1 = 77 ∧ u_guest_data.2.1 = false ∧ ({ who := .host h0, src := srcOf 1 2, g := 3, line := 5, op := .readS } : Req).allocates = true) ∧
    exec (.guestLineData 1) s_guest_data = .next ({ s_guest_data with dev := (((u_guest_data.2.2.ncAlloc 3 5 77 false 0).answerRead { who := .host h0, src := srcOf 1 2, g := 3, line := 5, op := .readS } 77 false).after) }) :=
  ⟨by decide +kernel,
   by decide +kernel,
   gives_iff.1 (by decide +kernel)⟩

def s_handles : State := { dev := (d_got (.handleList false [300])) }
/-- A handle list that goes on is kept (R263). -/
theorem witness_handles :
    (s_handles.dev.evLive = true ∧ (s_handles.dev.evPort 1).rxq = [[.handleList false [300]], [.guestPlaced 1]]) ∧
    exec (.handleList 1) s_handles = .next ({ s_handles with dev := s_handles.dev.setEv 1 { p_got with handles := [300] } }) :=
  ⟨by decide +kernel,
   gives_iff.1 (by decide +kernel)⟩

def s_handles_end : State := { dev := { d_got (.handleList true [300]) with mem := { guests := [(300, 1), (301, 1)] } } }
/-- The last one frees the guest frame that it does not name (R263). -/
theorem witness_handles_end :
    (s_handles_end.dev.evLive = true ∧ (s_handles_end.dev.evPort 1).rxq = [[.handleList true [300]], [.guestPlaced 1]]) ∧
    exec (.handleList 1) s_handles_end = .next ({ s_handles_end with dev := ((s_handles_end.dev.setEv 1 p_got).guestFree 1 301).after }) :=
  ⟨by decide +kernel,
   gives_iff.1 (by decide +kernel)⟩

end Sys2Proof.Tests
end

