-- ==== Sys2Proof/Tests/Machine.lean ====
section
/-!
SUPPORT. Tests of power, boot, firmware and trust.
-/
namespace Sys2Proof.Tests

open Sys2Proof.Machine

set_option Elab.async false

def s_doze : State := { dev := { dev0 with power := { dev0.power with deepOk := true, fwdOn := true }, links := [(1, { up := true, cxl := true, width := 16, l0p := true }), (2, { up := true, cxl := true, width := 16, l0p := false })], chans := [(0, { state := 3, frames := 1000, ranks := 1 })] } }
/-- An idle device enters DOZE; WAKE_N does nothing in RUN; DEEP is entered with permission (R524 to R527, R536). -/
theorem witness_doze :
    s_doze.dev.inRun ∧
    (s_doze.dev.idleBut none = true ∧ risingFrom 0 s_doze.dev.links = true ∧ s_doze.dev.dirQuiet = true ∧ s_doze.dev.exitFits = true) ∧
    exec (.dozeEntry) s_doze = .next { s_doze with dev := nx (.dozeEntry) s_doze } ∧
    ((nx (.dozeEntry) s_doze).power.mode = .doze ∧ (nx (.dozeEntry) s_doze).power.fwdOn = false ∧ ((nx (.dozeEntry) s_doze).link 1).narrow = true ∧ (nx (.dozeEntry) s_doze).link 2 = s_doze.dev.link 2 ∧ ((nx (.dozeEntry) s_doze).chan 0).sub = 1 ∧ ((nx (.dozeEntry) s_doze).chan 0).owed = [] ∧ (nx (.dozeEntry) s_doze).mem = s_doze.dev.mem) ∧
    exec (.wakeNAssert) s_doze = .next s_doze ∧
    exec (.deepEntry) s_doze = .next ({ s_doze with dev := { s_doze.dev with power := { s_doze.dev.power with entering := 1, latch := none, deepIssuer := none } } }) :=
  ⟨⟨by decide +kernel, by decide +kernel⟩,
   by decide +kernel,
   nx_iff (by decide +kernel),
   by decide +kernel,
   gives_iff.1 (by decide +kernel),
   gives_iff.1 (by decide +kernel)⟩

def s_doze_wake : State := { dev := { dev0 with power := { dev0.power with mode := .doze, ticks := 9 }, chans := [(0, { state := 3, frames := 1000, ranks := 1, sub := 1 })] } }
/-- WAKE_N ends DOZE (R536). -/
theorem witness_doze_wake :
    exec (.wakeNAssert) s_doze_wake = .next ({ s_doze_wake with dev := { s_doze_wake.dev.endDoze with power := { s_doze_wake.dev.power with mode := .run, wakeSrc := 4, wakeReplayed := false, wakeDetail := 0, wakeTick := s_doze_wake.dev.lamp } } }) :=
  gives_iff.1 (by decide +kernel)

def s_deep_wake : State := { dev := { dev0 with power := { dev0.power with mode := .deep, ticks := 9 } } }
/-- WAKE_N begins the exit from DEEP (R537). -/
theorem witness_deep_wake :
    exec (.wakeNAssert) s_deep_wake = .next ({ s_deep_wake with dev := { s_deep_wake.dev with power := { s_deep_wake.dev.power with entering := 2, wakeSrc := 4, wakeReplayed := false, wakeDetail := 0, wakeTick := s_deep_wake.dev.lamp } } }) :=
  gives_iff.1 (by decide +kernel)

def s_deep_entered : State := { dev := { dev0 with power := { dev0.power with entering := 1, entries := 3, fwdOn := true }, chans := [(0, { state := 3, frames := 1000, ranks := 1 })], links := [(1, { up := true, cxl := true, aspm := true })] } }
/-- The entry to DEEP ends (R528, R529). -/
theorem witness_deep_entered :
    (s_deep_entered.dev.slices.nc = [] ∧ s_deep_entered.dev.pages.cache = [] ∧ s_deep_entered.dev.slices.saved = false ∧ risingFrom 0 s_deep_entered.dev.links = true) ∧
    exec (.deepEntryComplete) s_deep_entered = .next { s_deep_entered with dev := nx (.deepEntryComplete) s_deep_entered } ∧
    (((nx (.deepEntryComplete) s_deep_entered).link 1).inL1 = true ∧ (nx (.deepEntryComplete) s_deep_entered).slices.saved = true ∧ (nx (.deepEntryComplete) s_deep_entered).slices.dir = [] ∧ (nx (.deepEntryComplete) s_deep_entered).power.mode = .deep ∧ (nx (.deepEntryComplete) s_deep_entered).power.fwdOn = false ∧ (nx (.deepEntryComplete) s_deep_entered).mem = s_deep_entered.dev.mem ∧ (nx (.deepEntryComplete) s_deep_entered).power.entries = 4 ∧ ((nx (.deepEntryComplete) s_deep_entered).chan 0).sub = 3 ∧ ((nx (.deepEntryComplete) s_deep_entered).chan 0).canaries = some 1 ∧ (nx (.deepEntryComplete) s_deep_entered).power.entering = 0) :=
  ⟨by decide +kernel,
   nx_iff (by decide +kernel),
   by decide +kernel⟩

def s_deep_replayed : State := { dev := { dev0 with power := { dev0.power with entering := 1, entries := 3, fwdOn := true, latch := some (3, 5) }, chans := [(0, { state := 3, frames := 1000, ranks := 1 })], links := [(1, { up := true, cxl := true, aspm := true })] } }
/-- The entry to DEEP ends; a wake during it is replayed (R528, R529). -/
theorem witness_deep_replayed :
    (s_deep_replayed.dev.slices.nc = [] ∧ s_deep_replayed.dev.pages.cache = [] ∧ s_deep_replayed.dev.slices.saved = false ∧ risingFrom 0 s_deep_replayed.dev.links = true) ∧
    exec (.deepEntryComplete) s_deep_replayed = .next { s_deep_replayed with dev := nx (.deepEntryComplete) s_deep_replayed } ∧
    (((nx (.deepEntryComplete) s_deep_replayed).link 1).inL1 = true ∧ (nx (.deepEntryComplete) s_deep_replayed).slices.saved = true ∧ (nx (.deepEntryComplete) s_deep_replayed).slices.dir = [] ∧ (nx (.deepEntryComplete) s_deep_replayed).power.mode = .deep ∧ (nx (.deepEntryComplete) s_deep_replayed).power.fwdOn = false ∧ (nx (.deepEntryComplete) s_deep_replayed).mem = s_deep_replayed.dev.mem ∧ (nx (.deepEntryComplete) s_deep_replayed).power.entries = 4 ∧ ((nx (.deepEntryComplete) s_deep_replayed).chan 0).sub = 3 ∧ ((nx (.deepEntryComplete) s_deep_replayed).chan 0).canaries = some 1 ∧ (nx (.deepEntryComplete) s_deep_replayed).power.entering = 2 ∧ (nx (.deepEntryComplete) s_deep_replayed).power.wakeSrc = 3 ∧ (nx (.deepEntryComplete) s_deep_replayed).power.wakeDetail = 5 ∧ (nx (.deepEntryComplete) s_deep_replayed).power.wakeReplayed = true) :=
  ⟨by decide +kernel,
   nx_iff (by decide +kernel),
   by decide +kernel⟩

def s_deep_exit : State := { dev := { dev0 with power := { dev0.power with mode := .deep, entering := 2 }, chans := [(0, { state := 3, frames := 1000, ranks := 1, sub := 3, canaries := some 1 })], links := [(1, { up := true, cxl := true, aspm := true, inL1 := true })], slices := { saved := true } } }
/-- The exit from DEEP ends in RUN, with a bank lost whose canary failed (R530, R539). -/
theorem witness_deep_exit :
    s_deep_exit.dev.Still ∧
    (s_deep_exit.dev.bankLive { channel := 0, sub := 0, rank := 0, bg := 1, bank := 2 } = true) ∧
    exec (.deepExitComplete []) s_deep_exit = .next { s_deep_exit with dev := nx (.deepExitComplete []) s_deep_exit } ∧
    ((nx (.deepExitComplete []) s_deep_exit).slices.dir = s_deep_exit.dev.restoreDir.slices.dir ∧ ((nx (.deepExitComplete []) s_deep_exit).link 1).inL1 = false ∧ (nx (.deepExitComplete []) s_deep_exit).power.mode = .run ∧ (nx (.deepExitComplete []) s_deep_exit).power.entering = 0 ∧ ((nx (.deepExitComplete []) s_deep_exit).chan 0).sub = 0 ∧ ((nx (.deepExitComplete []) s_deep_exit).chan 0).canaries = none ∧ (nx (.deepExitComplete []) s_deep_exit).mem = s_deep_exit.dev.mem) ∧
    exec (.deepExitComplete [{ channel := 0, sub := 0, rank := 0, bg := 1, bank := 2 }]) s_deep_exit = .next { s_deep_exit with dev := nx (.deepExitComplete [{ channel := 0, sub := 0, rank := 0, bg := 1, bank := 2 }]) s_deep_exit } ∧
    ((nx (.deepExitComplete [{ channel := 0, sub := 0, rank := 0, bg := 1, bank := 2 }]) s_deep_exit).power.mode = .run ∧ { channel := 0, sub := 0, rank := 0, bg := 1, bank := 2 } ∈ ((nx (.deepExitComplete [{ channel := 0, sub := 0, rank := 0, bg := 1, bank := 2 }]) s_deep_exit).chan 0).lostBanks ∧ (nx (.deepExitComplete [{ channel := 0, sub := 0, rank := 0, bg := 1, bank := 2 }]) s_deep_exit).power.retCanary = true ∧ (nx (.deepExitComplete [{ channel := 0, sub := 0, rank := 0, bg := 1, bank := 2 }]) s_deep_exit).power.lostWake = 1 ∧ (nx (.deepExitComplete [{ channel := 0, sub := 0, rank := 0, bg := 1, bank := 2 }]) s_deep_exit).mem = s_deep_exit.dev.mem) :=
  ⟨by constructor <;> decide +kernel,
   by decide +kernel,
   nx_iff (by decide +kernel),
   by decide +kernel,
   nx_iff (by decide +kernel),
   by decide +kernel⟩

def s_alarm : State := { dev := { dev0 with power := { dev0.power with mode := .doze, ticks := 9, alarms := [(7, { armed := true, tick := 9 })] } } }
/-- A Lamp alarm whose time has come (R550). -/
theorem witness_alarm :
    ((mgetD s_alarm.dev.power.alarms 7 {}).tick ≤ s_alarm.dev.lamp) ∧
    exec (.lampAlarm 7) s_alarm = .next ({ s_alarm with dev := (s_alarm.dev.onPower fun p => { p with alarms := [] }).wake 6 7 }) :=
  ⟨by decide +kernel,
   gives_iff.1 (by decide +kernel)⟩

def s_dimm_watch : State := { dev := { dev0 with power := { dev0.power with mode := .hold, holdSeq := 2 }, chans := [(0, { state := 3, frames := 1000, ranks := 1, sub := 3, slot0 := some {} })] } }
/-- A hot DIMM and a lost power-good in HOLD (R540). -/
theorem witness_dimm_watch :
    exec (.lampDimmWatch 0 0 96) s_dimm_watch = .next ({ s_dimm_watch with dev := { s_dimm_watch.dev.setChan 0 { s_dimm_watch.dev.chan 0 with crawlDue := true } with power := { s_dimm_watch.dev.power with retTemp := true } } }) ∧
    exec (.lampDimmWatch 0 0 95) s_dimm_watch = .next s_dimm_watch ∧
    exec (.dimmPowerGoodDrop 0 0) s_dimm_watch = .next ({ s_dimm_watch with dev := { s_dimm_watch.dev with power := { s_dimm_watch.dev.power with retPg := true, pgDropped := [(0, 0)] } } }) :=
  ⟨gives_iff.1 (by decide +kernel),
   gives_iff.1 (by decide +kernel),
   gives_iff.1 (by decide +kernel)⟩

def s_estimate : State := { dev := { dev0 with power := { dev0.power with cap := 200, throttle := 3, fwdOk := true } } }
/-- An estimate above the cap, at it, 4 W and 5 W below (R545). -/
theorem witness_estimate :
    s_estimate.dev.inRun ∧
    exec (.powerEstimate 201) s_estimate = .next ({ s_estimate with dev := { s_estimate.dev with power := { s_estimate.dev.power with estimate := 201, throttle := 4 } } }) ∧
    exec (.powerEstimate 200) s_estimate = .next ({ s_estimate with dev := { s_estimate.dev with power := { s_estimate.dev.power with estimate := 200, biasHot := false, fwdOn := false } } }) ∧
    exec (.powerEstimate 196) s_estimate = .next ({ s_estimate with dev := { s_estimate.dev with power := { s_estimate.dev.power with estimate := 196, fwdOn := true } } }) ∧
    exec (.powerEstimate 195) s_estimate = .next ({ s_estimate with dev := { s_estimate.dev with power := { s_estimate.dev.power with estimate := 195, throttle := 2, fwdOn := true } } }) :=
  ⟨⟨by decide +kernel, by decide +kernel⟩,
   gives_iff.1 (by decide +kernel),
   gives_iff.1 (by decide +kernel),
   gives_iff.1 (by decide +kernel),
   gives_iff.1 (by decide +kernel)⟩

def s_estimate_bias : State := { dev := { dev0 with power := { dev0.power with cap := 200, throttle := 3, fwdOk := true, fwdOn := true } } }
/-- Above the cap forward bias ends first (R544). -/
theorem witness_estimate_bias :
    exec (.powerEstimate 201) s_estimate_bias = .next ({ s_estimate_bias with dev := { s_estimate_bias.dev with power := { s_estimate_bias.dev.power with estimate := 201, fwdOn := false } } }) :=
  gives_iff.1 (by decide +kernel)

def s_estimate_all : State := { dev := { dev0 with power := { dev0.power with cap := 200, throttle := 7 } } }
/-- All issue withheld is an EVENT (R545). -/
theorem witness_estimate_all :
    exec (.powerEstimate 65535) s_estimate_all = .next ({ s_estimate_all with dev := ({ s_estimate_all.dev with power := { s_estimate_all.dev.power with estimate := 65535, throttle := 8 } } : Dev).event 0x3A3 }) :=
  gives_iff.1 (by decide +kernel)

def s_junction : State := { dev := { dev0 with power := { dev0.power with fwdOk := true, fwdOn := true } } }
/-- Junctions of 125, 124, 120 and 100 °C (R546). -/
theorem witness_junction :
    s_junction.dev.inRun ∧
    exec (.junctionSensorRead 125) s_junction = .next ({ s_junction with dev := ({ s_junction.dev with power := { s_junction.dev.power with junction := 189, hotLimit := 8, biasHot := true, fwdOn := false } } : Dev).event 0x3A1 }) ∧
    exec (.junctionSensorRead 124) s_junction = .next ({ s_junction with dev := ({ s_junction.dev with power := { s_junction.dev.power with junction := 188, hotLimit := 4, biasHot := true, fwdOn := false } } : Dev).event 0x3A1 }) ∧
    exec (.junctionSensorRead 120) s_junction = .next ({ s_junction with dev := ({ s_junction.dev with power := { s_junction.dev.power with junction := 184, hotLimit := 4, biasHot := true, fwdOn := false } } : Dev).event 0x3A1 }) ∧
    exec (.junctionSensorRead 100) s_junction = .next ({ s_junction with dev := { s_junction.dev with power := { s_junction.dev.power with junction := 164, biasHot := false } } }) ∧
    exec (.junctionSensorRead (-64)) s_junction = .next ({ s_junction with dev := { s_junction.dev with power := { s_junction.dev.power with junction := 0, biasHot := false } } }) :=
  ⟨⟨by decide +kernel, by decide +kernel⟩,
   gives_iff.1 (by decide +kernel),
   gives_iff.1 (by decide +kernel),
   gives_iff.1 (by decide +kernel),
   gives_iff.1 (by decide +kernel),
   gives_iff.1 (by decide +kernel)⟩

def s_clocks : State := { dev := { dev0 with power := { dev0.power with trstHigh := true }, links := [(3, { up := true, cxl := true })] } }
/-- Die-to-die links, PLLs and the TAP (R17, R551, R628, R639). -/
theorem witness_clocks :
    s_clocks.dev.inRun ∧
    exec (.dieToDieCrcFailure true false) s_clocks = .next ({ s_clocks with dev := s_clocks.dev.raise { code := 0x6001, cls := 1, unit := 0x31, att := 2 } }) ∧
    exec (.dieToDieCrcFailure false true) s_clocks = .next { s_clocks with dev := nx (.dieToDieCrcFailure false true) s_clocks } ∧
    ((nx (.dieToDieCrcFailure false true) s_clocks).power.mode = .hold ∧ (nx (.dieToDieCrcFailure false true) s_clocks).power.lastTrig = 4 ∧ (nx (.dieToDieCrcFailure false true) s_clocks).power.holdSeq = 1 ∧ (nx (.dieToDieCrcFailure false true) s_clocks).faults.status.getLsbD 7 = true ∧ ∃ r ∈ (nx (.dieToDieCrcFailure false true) s_clocks).power.fatalRecs, r.code = 0x6002 ∧ r.cls = 4 ∧ r.unit = 0x30) ∧
    exec (.pllLossOfLock .core false) s_clocks = .next ({ s_clocks with dev := s_clocks.dev.raise { code := 0x7001, cls := 1, unit := 0x3A2, att := 2 } }) ∧
    exec (.pllLossOfLock (.flit 3) true) s_clocks = .next ({ s_clocks with dev := (((s_clocks.dev.raise { code := 0x7001, cls := 2, unit := 0x3A2, att := 2, detail := 3 }).linkLost 3).linkLost 7) }) ∧
    exec (.pllLossOfLock .core true) s_clocks = .next { s_clocks with dev := nx (.pllLossOfLock .core true) s_clocks } ∧
    ((nx (.pllLossOfLock .core true) s_clocks).power.mode = .hold ∧ (nx (.pllLossOfLock .core true) s_clocks).power.lastTrig = 4 ∧ (nx (.pllLossOfLock .core true) s_clocks).mem = s_clocks.dev.mem) ∧
    exec (.tapInstruction 5 false) s_clocks = .next ({ s_clocks with dev := { s_clocks.dev with power := { s_clocks.dev.power with trstHigh := true, tap := 5, tapDrives := false } } }) ∧
    exec (.tapInstruction 5 true) s_clocks = .next ({ s_clocks with dev := { s_clocks.dev with power := { s_clocks.dev.power with trstHigh := true, tap := 255, tapDrives := false } } }) ∧
    exec (.trstNRelease) s_clocks = .next ({ s_clocks with dev := { s_clocks.dev with power := { s_clocks.dev.power with trstHigh := false, tap := 255, tapDrives := false } } }) :=
  ⟨⟨by decide +kernel, by decide +kernel⟩,
   gives_iff.1 (by decide +kernel),
   nx_iff (by decide +kernel),
   by decide +kernel,
   gives_iff.1 (by decide +kernel),
   gives_iff.1 (by decide +kernel),
   nx_iff (by decide +kernel),
   by decide +kernel,
   gives_iff.1 (by decide +kernel),
   gives_iff.1 (by decide +kernel),
   gives_iff.1 (by decide +kernel)⟩

def s_hold_run : State := { dev := { dev0 with power := { dev0.power with mode := .run, lockout := true }, chans := [(0, { state := 3, frames := 1000, ranks := 1 })], mem := { retired := [5] }, links := [(1, { up := true, cxl := true, rate := 64000, pbr := some 7 })] } }
/-- Each trigger draws the HOLD cut in RUN (R531, R532). -/
theorem witness_hold_run :
    exec (.resetNAssert) s_hold_run = .next { s_hold_run with dev := nx (.resetNAssert) s_hold_run } ∧
    ((nx (.resetNAssert) s_hold_run).power.mode = .hold ∧ (nx (.resetNAssert) s_hold_run).power.holdSeq = 1 ∧ (nx (.resetNAssert) s_hold_run).power.lastTrig = 0 ∧ (nx (.resetNAssert) s_hold_run).power.entering = 0 ∧ (nx (.resetNAssert) s_hold_run).mem = s_hold_run.dev.mem ∧ (nx (.resetNAssert) s_hold_run).power.resetLow = true ∧ (nx (.resetNAssert) s_hold_run).power.lockout = false ∧ (nx (.resetNAssert) s_hold_run).power.fromBoot = false) ∧
    exec (.holdReqNAssert) s_hold_run = .next { s_hold_run with dev := nx (.holdReqNAssert) s_hold_run } ∧
    ((nx (.holdReqNAssert) s_hold_run).power.mode = .hold ∧ (nx (.holdReqNAssert) s_hold_run).power.holdSeq = 1 ∧ (nx (.holdReqNAssert) s_hold_run).power.lastTrig = 1 ∧ (nx (.holdReqNAssert) s_hold_run).mem = s_hold_run.dev.mem ∧ ((nx (.holdReqNAssert) s_hold_run).link 1).up = false ∧ ((nx (.holdReqNAssert) s_hold_run).link 1).pbr = some 7) ∧
    exec (.pwrWarnNAssert) s_hold_run = .next { s_hold_run with dev := nx (.pwrWarnNAssert) s_hold_run } ∧
    ((nx (.pwrWarnNAssert) s_hold_run).power.mode = .hold ∧ (nx (.pwrWarnNAssert) s_hold_run).power.holdSeq = 1 ∧ (nx (.pwrWarnNAssert) s_hold_run).power.lastTrig = 2 ∧ (nx (.pwrWarnNAssert) s_hold_run).mem = s_hold_run.dev.mem ∧ ((nx (.pwrWarnNAssert) s_hold_run).link 1).up = false ∧ ((nx (.pwrWarnNAssert) s_hold_run).link 1).pbr = some 7) ∧
    exec (.thermalTrip) s_hold_run = .next { s_hold_run with dev := nx (.thermalTrip) s_hold_run } ∧
    ((nx (.thermalTrip) s_hold_run).power.mode = .hold ∧ (nx (.thermalTrip) s_hold_run).power.holdSeq = 1 ∧ (nx (.thermalTrip) s_hold_run).power.lastTrig = 3 ∧ (nx (.thermalTrip) s_hold_run).mem = s_hold_run.dev.mem ∧ ((nx (.thermalTrip) s_hold_run).link 1).up = false ∧ ((nx (.thermalTrip) s_hold_run).link 1).pbr = some 7) :=
  ⟨nx_iff (by decide +kernel),
   by decide +kernel,
   nx_iff (by decide +kernel),
   by decide +kernel,
   nx_iff (by decide +kernel),
   by decide +kernel,
   nx_iff (by decide +kernel),
   by decide +kernel⟩

def s_hold_boot : State := { dev := { dev0 with power := { dev0.power with mode := .boot, lockout := true }, chans := [(0, { state := 3, frames := 1000, ranks := 1 })], mem := { retired := [5] }, links := [(1, { up := true, cxl := true, rate := 64000, pbr := some 7 })] } }
/-- Each trigger draws the HOLD cut in BOOT (R531, R532). -/
theorem witness_hold_boot :
    exec (.resetNAssert) s_hold_boot = .next { s_hold_boot with dev := nx (.resetNAssert) s_hold_boot } ∧
    ((nx (.resetNAssert) s_hold_boot).power.mode = .hold ∧ (nx (.resetNAssert) s_hold_boot).power.holdSeq = 1 ∧ (nx (.resetNAssert) s_hold_boot).power.lastTrig = 0 ∧ (nx (.resetNAssert) s_hold_boot).power.entering = 0 ∧ (nx (.resetNAssert) s_hold_boot).mem = s_hold_boot.dev.mem ∧ (nx (.resetNAssert) s_hold_boot).power.resetLow = true ∧ (nx (.resetNAssert) s_hold_boot).power.lockout = false ∧ (nx (.resetNAssert) s_hold_boot).power.fromBoot = true) ∧
    exec (.holdReqNAssert) s_hold_boot = .next { s_hold_boot with dev := nx (.holdReqNAssert) s_hold_boot } ∧
    ((nx (.holdReqNAssert) s_hold_boot).power.mode = .hold ∧ (nx (.holdReqNAssert) s_hold_boot).power.holdSeq = 1 ∧ (nx (.holdReqNAssert) s_hold_boot).power.lastTrig = 1 ∧ (nx (.holdReqNAssert) s_hold_boot).mem = s_hold_boot.dev.mem ∧ ((nx (.holdReqNAssert) s_hold_boot).link 1).up = false ∧ ((nx (.holdReqNAssert) s_hold_boot).link 1).pbr = some 7) ∧
    exec (.pwrWarnNAssert) s_hold_boot = .next { s_hold_boot with dev := nx (.pwrWarnNAssert) s_hold_boot } ∧
    ((nx (.pwrWarnNAssert) s_hold_boot).power.mode = .hold ∧ (nx (.pwrWarnNAssert) s_hold_boot).power.holdSeq = 1 ∧ (nx (.pwrWarnNAssert) s_hold_boot).power.lastTrig = 2 ∧ (nx (.pwrWarnNAssert) s_hold_boot).mem = s_hold_boot.dev.mem ∧ ((nx (.pwrWarnNAssert) s_hold_boot).link 1).up = false ∧ ((nx (.pwrWarnNAssert) s_hold_boot).link 1).pbr = some 7) ∧
    exec (.thermalTrip) s_hold_boot = .next { s_hold_boot with dev := nx (.thermalTrip) s_hold_boot } ∧
    ((nx (.thermalTrip) s_hold_boot).power.mode = .hold ∧ (nx (.thermalTrip) s_hold_boot).power.holdSeq = 1 ∧ (nx (.thermalTrip) s_hold_boot).power.lastTrig = 3 ∧ (nx (.thermalTrip) s_hold_boot).mem = s_hold_boot.dev.mem ∧ ((nx (.thermalTrip) s_hold_boot).link 1).up = false ∧ ((nx (.thermalTrip) s_hold_boot).link 1).pbr = some 7) :=
  ⟨nx_iff (by decide +kernel),
   by decide +kernel,
   nx_iff (by decide +kernel),
   by decide +kernel,
   nx_iff (by decide +kernel),
   by decide +kernel,
   nx_iff (by decide +kernel),
   by decide +kernel⟩

def s_hold_deep : State := { dev := { dev0 with power := { dev0.power with mode := .deep, lockout := true }, chans := [(0, { state := 3, frames := 1000, ranks := 1 })], mem := { retired := [5] }, links := [(1, { up := true, cxl := true, rate := 64000, pbr := some 7 })] } }
/-- Each trigger draws the HOLD cut in DEEP (R531, R532). -/
theorem witness_hold_deep :
    exec (.resetNAssert) s_hold_deep = .next { s_hold_deep with dev := nx (.resetNAssert) s_hold_deep } ∧
    ((nx (.resetNAssert) s_hold_deep).power.mode = .hold ∧ (nx (.resetNAssert) s_hold_deep).power.holdSeq = 1 ∧ (nx (.resetNAssert) s_hold_deep).power.lastTrig = 0 ∧ (nx (.resetNAssert) s_hold_deep).power.entering = 0 ∧ (nx (.resetNAssert) s_hold_deep).mem = s_hold_deep.dev.mem ∧ (nx (.resetNAssert) s_hold_deep).power.resetLow = true ∧ (nx (.resetNAssert) s_hold_deep).power.lockout = false ∧ (nx (.resetNAssert) s_hold_deep).power.fromBoot = false) ∧
    exec (.holdReqNAssert) s_hold_deep = .next { s_hold_deep with dev := nx (.holdReqNAssert) s_hold_deep } ∧
    ((nx (.holdReqNAssert) s_hold_deep).power.mode = .hold ∧ (nx (.holdReqNAssert) s_hold_deep).power.holdSeq = 1 ∧ (nx (.holdReqNAssert) s_hold_deep).power.lastTrig = 1 ∧ (nx (.holdReqNAssert) s_hold_deep).mem = s_hold_deep.dev.mem ∧ ((nx (.holdReqNAssert) s_hold_deep).link 1).up = false ∧ ((nx (.holdReqNAssert) s_hold_deep).link 1).pbr = some 7) ∧
    exec (.pwrWarnNAssert) s_hold_deep = .next { s_hold_deep with dev := nx (.pwrWarnNAssert) s_hold_deep } ∧
    ((nx (.pwrWarnNAssert) s_hold_deep).power.mode = .hold ∧ (nx (.pwrWarnNAssert) s_hold_deep).power.holdSeq = 1 ∧ (nx (.pwrWarnNAssert) s_hold_deep).power.lastTrig = 2 ∧ (nx (.pwrWarnNAssert) s_hold_deep).mem = s_hold_deep.dev.mem ∧ ((nx (.pwrWarnNAssert) s_hold_deep).link 1).up = false ∧ ((nx (.pwrWarnNAssert) s_hold_deep).link 1).pbr = some 7) ∧
    exec (.thermalTrip) s_hold_deep = .next { s_hold_deep with dev := nx (.thermalTrip) s_hold_deep } ∧
    ((nx (.thermalTrip) s_hold_deep).power.mode = .hold ∧ (nx (.thermalTrip) s_hold_deep).power.holdSeq = 1 ∧ (nx (.thermalTrip) s_hold_deep).power.lastTrig = 3 ∧ (nx (.thermalTrip) s_hold_deep).mem = s_hold_deep.dev.mem ∧ ((nx (.thermalTrip) s_hold_deep).link 1).up = false ∧ ((nx (.thermalTrip) s_hold_deep).link 1).pbr = some 7) :=
  ⟨nx_iff (by decide +kernel),
   by decide +kernel,
   nx_iff (by decide +kernel),
   by decide +kernel,
   nx_iff (by decide +kernel),
   by decide +kernel,
   nx_iff (by decide +kernel),
   by decide +kernel⟩

def s_hold_done : State := { dev := { dev0 with power := { dev0.power with mode := .hold, holdSeq := 1, entries := 5 }, chans := [(0, { state := 3, frames := 1000, ranks := 1 })], mem := { retired := [5] } }, trust := { sessions := [{ chan := 0, id := 1 }], negotiated := [(0, 3)] } }
/-- The sequence ends with retention; another trigger does nothing; the backstop ends it without (R533, R534). -/
theorem witness_hold_done :
    exec (.holdReqNAssert) s_hold_done = .next s_hold_done ∧
    exec (.holdSequenceComplete) s_hold_done = .next (nxs (.holdSequenceComplete) s_hold_done) ∧
    ((nxs (.holdSequenceComplete) s_hold_done).trust = {} ∧ (nxs (.holdSequenceComplete) s_hold_done).dev.fwUp = false ∧ (nxs (.holdSequenceComplete) s_hold_done).dev.power.holdSeq = 2 ∧ (nxs (.holdSequenceComplete) s_hold_done).dev.power.incomplete = false ∧ (nxs (.holdSequenceComplete) s_hold_done).dev.power.retention = true ∧ (nxs (.holdSequenceComplete) s_hold_done).dev.power.coreEn = false ∧ (nxs (.holdSequenceComplete) s_hold_done).dev.power.sramEn = false ∧ (nxs (.holdSequenceComplete) s_hold_done).dev.mem = s_hold_done.dev.mem ∧ ((nxs (.holdSequenceComplete) s_hold_done).dev.chan 0).sub = 3 ∧ ((nxs (.holdSequenceComplete) s_hold_done).dev.chan 0).canaries = some 1) ∧
    exec (.holdBackstop) s_hold_done = .next (nxs (.holdBackstop) s_hold_done) ∧
    ((nxs (.holdBackstop) s_hold_done).trust = {} ∧ (nxs (.holdBackstop) s_hold_done).dev.fwUp = false ∧ (nxs (.holdBackstop) s_hold_done).dev.power.holdSeq = 2 ∧ (nxs (.holdBackstop) s_hold_done).dev.power.retention = false ∧ (nxs (.holdBackstop) s_hold_done).dev.power.incomplete = true ∧ (nxs (.holdBackstop) s_hold_done).dev.power.retHold = true ∧ ((nxs (.holdBackstop) s_hold_done).dev.chan 0).sub = 3) :=
  ⟨gives_iff.1 (by decide +kernel),
   gives_iff.1 (by decide +kernel),
   by decide +kernel,
   gives_iff.1 (by decide +kernel),
   by decide +kernel⟩

def s_rail_loss : State := { dev := { dev0 with power := { dev0.power with retention := true }, chans := [(0, { state := 3, frames := 1000, ranks := 1 })] } }
/-- A rail is lost in RUN (R534). -/
theorem witness_rail_loss :
    exec (.mainRailLoss) s_rail_loss = .next (nxs (.mainRailLoss) s_rail_loss) ∧
    ((nxs (.mainRailLoss) s_rail_loss).trust = {} ∧ (nxs (.mainRailLoss) s_rail_loss).dev.power.mode = .hold ∧ (nxs (.mainRailLoss) s_rail_loss).dev.power.holdSeq = 2 ∧ (nxs (.mainRailLoss) s_rail_loss).dev.power.rails = false ∧ (nxs (.mainRailLoss) s_rail_loss).dev.power.retention = false ∧ (nxs (.mainRailLoss) s_rail_loss).dev.power.incomplete = true ∧ ((nxs (.mainRailLoss) s_rail_loss).dev.chan 0).sub = 3) :=
  ⟨gives_iff.1 (by decide +kernel),
   by decide +kernel⟩

def s_hold_from_boot : State := { dev := { dev0 with power := { dev0.power with mode := .hold, holdSeq := 1, fromBoot := true }, chans := [(0, { state := 3, frames := 1000, ranks := 1 })], mem := { retired := [5] }, keys := [(1, 5)], wrapped := [1] } }
/-- HOLD that came from BOOT leaves the keys and the flag as they were (R534, R597). -/
theorem witness_hold_from_boot :
    (s_hold_from_boot.dev.slices.nc = [] ∧ s_hold_from_boot.dev.ev.rope.state = 0) ∧
    exec (.holdSequenceComplete) s_hold_from_boot = .next (nxs (.holdSequenceComplete) s_hold_from_boot) ∧
    ((nxs (.holdSequenceComplete) s_hold_from_boot).trust = {} ∧ (nxs (.holdSequenceComplete) s_hold_from_boot).dev.power.retention = false ∧ (nxs (.holdSequenceComplete) s_hold_from_boot).dev.keys = [(1, 5)] ∧ (nxs (.holdSequenceComplete) s_hold_from_boot).dev.wrapped = [1] ∧ (nxs (.holdSequenceComplete) s_hold_from_boot).dev.mem = s_hold_from_boot.dev.mem) :=
  ⟨by decide +kernel,
   gives_iff.1 (by decide +kernel),
   by decide +kernel⟩

def s_rail_hold : State := { dev := { dev0 with power := { dev0.power with mode := .hold, holdSeq := 1 }, chans := [(0, { state := 3, frames := 1000, ranks := 1 })] } }
/-- A rail is lost while the HOLD sequence runs (R534). -/
theorem witness_rail_hold :
    exec (.mainRailLoss) s_rail_hold = .next (nxs (.mainRailLoss) s_rail_hold) ∧
    ((nxs (.mainRailLoss) s_rail_hold).trust = {} ∧ (nxs (.mainRailLoss) s_rail_hold).dev.power.holdSeq = 2 ∧ (nxs (.mainRailLoss) s_rail_hold).dev.power.rails = false ∧ (nxs (.mainRailLoss) s_rail_hold).dev.power.incomplete = true ∧ ((nxs (.mainRailLoss) s_rail_hold).dev.chan 0).sub = 3) :=
  ⟨gives_iff.1 (by decide +kernel),
   by decide +kernel⟩

def s_rail_off : State := { dev := { dev0 with power := { dev0.power with mode := .off } } }
/-- A rail is lost in OFF (R534). -/
theorem witness_rail_off :
    exec (.mainRailLoss) s_rail_off = .next ({ s_rail_off with dev := { s_rail_off.dev with power := { s_rail_off.dev.power with rails := false } } }) :=
  gives_iff.1 (by decide +kernel)

def s_hold_low : State := { dev := { dev0 with power := { dev0.power with mode := .hold, holdSeq := 2, resetLow := true } } }
/-- HOLD stays while RESET_N is low (R535). -/
theorem witness_hold_low :
    exec (.holdExit 30) s_hold_low = .next s_hold_low :=
  gives_iff.1 (by decide +kernel)

def s_hold_exit : State := { dev := { dev0 with power := { dev0.power with mode := .hold, holdSeq := 2, retention := true, ticks := 50, lastTrig := 3 }, chans := [(0, { state := 3, frames := 1000, ranks := 1 })], mem := { retired := [5] }, grottos := [(3, { state := 1, allocPtr := 5 })] }, trust := { svn := 3, leaf := 7, leafEnd := 256, leafMark := 1, cairn := [{ type := 3, inst := 0, seq := 0, data := bytesOfNat 4 256 }] } }
/-- HOLD ends in a fast BOOT (R535, R593). -/
theorem witness_hold_exit :
    exec (.holdExit 110) s_hold_exit = .next (nxs (.holdExit 110) s_hold_exit) ∧
    ((nxs (.holdExit 110) s_hold_exit).dev.power.mode = .boot ∧ (nxs (.holdExit 110) s_hold_exit).dev.power.ticks = 50 ∧ (nxs (.holdExit 110) s_hold_exit).dev.power.lampTemp = 174 ∧ (nxs (.holdExit 110) s_hold_exit).dev.mem = s_hold_exit.dev.mem ∧ ((nxs (.holdExit 110) s_hold_exit).dev.power.bootKind = 1 ∨ (nxs (.holdExit 110) s_hold_exit).dev.power.bootKind = 2) ∧ (nxs (.holdExit 110) s_hold_exit).dev.grottos = [(3, { state := 1 })] ∧ (nxs (.holdExit 110) s_hold_exit).trust.leaf = s_hold_exit.trust.leafStart ∧ (nxs (.holdExit 110) s_hold_exit).trust.leafEnd = s_hold_exit.trust.leafStart ∧ (nxs (.holdExit 110) s_hold_exit).trust.svn = 3 ∧ (nxs (.holdExit 110) s_hold_exit).trust.cairn = s_hold_exit.trust.cairn) :=
  ⟨gives_iff.1 (by decide +kernel),
   by decide +kernel⟩

def s_hold_bare : State := { dev := { dev0 with power := { dev0.power with mode := .hold, holdSeq := 2, ticks := 50 }, mem := { retired := [5] } }, trust := { svn := 3, leaf := 7, leafEnd := 256, leafMark := 1, cairn := [{ type := 3, inst := 0, seq := 0, data := bytesOfNat 4 256 }] } }
/-- Without retention HOLD ends in a BOOT from nothing (R535, R582); its new keys are drawn (log 5). -/
theorem witness_hold_bare :
    (s_hold_bare.dev.power.retention = false ∧ s_hold_bare.dev.power.coreEn = true ∧ s_hold_bare.dev.power.rails = true ∧ s_hold_bare.dev.power.lockout = false ∧ s_hold_bare.dev.power.lastTrig ≠ 3) ∧
    ((nxs (.holdExit 30) s_hold_bare).dev.mem = {} ∧ (nxs (.holdExit 30) s_hold_bare).dev.power.bootKind = 3 ∧ (nxs (.holdExit 30) s_hold_bare).trust.draws = 2) :=
  ⟨by decide +kernel,
   by decide +kernel⟩

def s_off_boot : State := { dev := { dev0 with power := { dev0.power with mode := .off, ticks := 0 }, mem := { retired := [5] } } }
/-- BOOT from OFF starts from nothing (R523); its new keys are drawn (log 5). -/
theorem witness_off_boot :
    (s_off_boot.dev.power.lampOn = true ∧ s_off_boot.dev.power.crystal = true ∧ s_off_boot.dev.power.coreEn = true ∧ s_off_boot.dev.power.rails = true ∧ s_off_boot.dev.power.resetLow = false) ∧
    ((nxs (.bootFromOff 3) s_off_boot).dev.power.mode = .boot ∧ (nxs (.bootFromOff 3) s_off_boot).dev.power.refclk = 3 ∧ (nxs (.bootFromOff 3) s_off_boot).dev.mem = {} ∧ (nxs (.bootFromOff 3) s_off_boot).dev.power.cap = 300) :=
  ⟨by decide +kernel,
   by decide +kernel⟩

def s_boot_fast : State := { dev := { dev0 with power := { dev0.power with mode := .boot, bootKind := 2, retention := true }, chans := [(0, { state := 3, frames := 1000, ranks := 1 })] } }
/-- A fast BOOT ends in RUN with its memory kept (R535). -/
theorem witness_boot_fast :
    exec (.bootComplete []) s_boot_fast = .next { s_boot_fast with dev := nx (.bootComplete []) s_boot_fast } ∧
    ((nx (.bootComplete []) s_boot_fast).power.mode = .run ∧ (nx (.bootComplete []) s_boot_fast).power.retention = false ∧ (nx (.bootComplete []) s_boot_fast).mem.recon = true ∧ (nx (.bootComplete []) s_boot_fast).mem.lost = 0 ∧ (nx (.bootComplete []) s_boot_fast).mem.phys = s_boot_fast.dev.physFrames) :=
  ⟨nx_iff (by decide +kernel),
   by decide +kernel⟩

def s_boot_cold : State := { dev := { dev0 with power := { dev0.power with mode := .boot, bootKind := 0 }, chans := (List.range 16).map fun c => (c, { state := if c = 0 then 3 else 0, frames := if c = 0 then 8388608 else 0, ranks := 1, checked := true }) } }
/-- A BOOT from nothing ends in RUN with its memory laid out (R82, R97). -/
theorem witness_boot_cold :
    s_boot_cold.dev.Still ∧
    ((∀ e ∈ s_boot_cold.dev.chans, e.2.state ≠ 2) ∧ ∀ c, c < 16 → (s_boot_cold.dev.chan c).checked = true) ∧
    exec (.bootComplete []) s_boot_cold = .next { s_boot_cold with dev := nx (.bootComplete []) s_boot_cold } ∧
    ((nx (.bootComplete []) s_boot_cold).power.mode = .run ∧ (nx (.bootComplete []) s_boot_cold).mem.phys = s_boot_cold.dev.physFrames ∧ (nx (.bootComplete []) s_boot_cold).mem.ceiling = min 131072 (2 * s_boot_cold.dev.physFrames / 65536) ∧ ∀ q ∈ (nx (.bootComplete []) s_boot_cold).mem.pools, q.2.zeroed = [] ∧ (q.2.pending.map Prod.fst) = [(nx (.bootComplete []) s_boot_cold).resvFrames]) :=
  ⟨by constructor <;> decide +kernel,
   by decide +kernel,
   nx_iff (by decide +kernel),
   by decide +kernel⟩

def s_lamp_off : State := { dev := { dev0 with power := { dev0.power with ticks := 9 }, mem := { retired := [5] }, keys := [(1, 5)] }, trust := { svn := 3, fmRoot := some 7, wrap := [(1, 2)] } }
/-- The loss of VDD_LAMP is OFF (R523). -/
theorem witness_lamp_off :
    exec (.vddLampLoss) s_lamp_off = .next (nxs (.vddLampLoss) s_lamp_off) ∧
    ((nxs (.vddLampLoss) s_lamp_off).dev.power.mode = .off ∧ (nxs (.vddLampLoss) s_lamp_off).dev.power.lampOn = false ∧ (nxs (.vddLampLoss) s_lamp_off).dev.fwUp = false ∧ (nxs (.vddLampLoss) s_lamp_off).dev.mem = {} ∧ (nxs (.vddLampLoss) s_lamp_off).dev.keys = [] ∧ (nxs (.vddLampLoss) s_lamp_off).trust.wrap = [] ∧ (nxs (.vddLampLoss) s_lamp_off).trust.svn = 3 ∧ (nxs (.vddLampLoss) s_lamp_off).trust.fmRoot = some 7) :=
  ⟨gives_iff.1 (by decide +kernel),
   by decide +kernel⟩

def s_lamp_on : State := { dev := { dev0 with power := { dev0.power with mode := .off, lampOn := false, crystal := false } } }
/-- VDD_LAMP comes up (R547). -/
theorem witness_lamp_on :
    exec (.vddLampPowerOn) s_lamp_on = .next ({ s_lamp_on with dev := { s_lamp_on.dev with power := { s_lamp_on.dev.power with lampOn := true, crystal := true } } }) :=
  gives_iff.1 (by decide +kernel)

def s_rails_up : State := { dev := { dev0 with power := { dev0.power with mode := .off, coreEn := false, rails := false } } }
/-- The enables rise in OFF (R630, R631). -/
theorem witness_rails_up :
    exec (.sramEnRaise) s_rails_up = .next ({ s_rails_up with dev := { s_rails_up.dev with power := { s_rails_up.dev.power with sramEn := true, resetLow := false } } }) ∧
    exec (.coreEnRaise) s_rails_up = .next ({ s_rails_up with dev := { s_rails_up.dev with power := { s_rails_up.dev.power with coreEn := true, rails := true } } }) :=
  ⟨gives_iff.1 (by decide +kernel),
   gives_iff.1 (by decide +kernel)⟩

def s_reconciled : State := { dev := { d_host with mem := { recon := true, pools := [(0, { zeroed := [900], pending := [(1000, 200000)] })] }, chans := [(0, { state := 3, frames := 200000, ranks := 1 })] } }
/-- Reconciliation leaves pending the frames that nothing names (R90, R97). -/
theorem witness_reconciled :
    s_reconciled.dev.Still ∧
    (s_reconciled.dev.awake = true ∧ s_reconciled.dev.pages.heaps = [] ∧ risingFrom 0 s_reconciled.dev.chans = true ∧ (s_reconciled.dev.evPort 0).state ≠ 2 ∧ (s_reconciled.dev.evPort 1).state ≠ 2 ∧ s_reconciled.dev.namedFrames 0 = [100]) ∧
    exec (.reconciliationComplete) s_reconciled = .next { s_reconciled with dev := nx (.reconciliationComplete) s_reconciled } ∧
    ((nx (.reconciliationComplete) s_reconciled).mem.recon = false ∧ (nx (.reconciliationComplete) s_reconciled).mem.unrecon = [] ∧ (nx (.reconciliationComplete) s_reconciled).mem.dram = s_reconciled.dev.mem.dram ∧ (nx (.reconciliationComplete) s_reconciled).pages.area = s_reconciled.dev.pages.area ∧ (nx (.reconciliationComplete) s_reconciled).grottos = s_reconciled.dev.grottos ∧ ((nx (.reconciliationComplete) s_reconciled).pool 0).zeroed = [900] ∧ ((nx (.reconciliationComplete) s_reconciled).pool 0).pending = [(0, 100), (101, 900), (901, 200000)]) :=
  ⟨by constructor <;> decide +kernel,
   by decide +kernel,
   nx_iff (by decide +kernel),
   by decide +kernel⟩

def s_reconciled_not : State := { dev := d_host }
/-- Without a reconciliation under way nothing happens (R97). -/
theorem witness_reconciled_not :
    exec (.reconciliationComplete) s_reconciled_not = .next s_reconciled_not :=
  gives_iff.1 (by decide +kernel)

def s_boot_none : State := { dev := { power := { mode := .boot } } }
/-- With no channel in service BOOT does not end (R118). -/
theorem witness_boot_none :
    exec (.bootComplete []) s_boot_none = .next s_boot_none :=
  gives_iff.1 (by decide +kernel)

def s_cairn : State := { dev := dev0, trust := { cairnSeq := 5, cairn := [{ type := 7, inst := 0, seq := 4, data := [1] }, { type := 8, inst := 0, seq := 3, data := [] }], trial := true } }
/-- A record is appended, and indexed; it commits where its read-back agrees; port widths and training settings take effect (R32, R143, R563, R564). -/
theorem witness_cairn :
    (s_cairn.dev.live = true ∧ s_cairn.dev.fwUp = true ∧ s_cairn.dev.due = [] ∧ s_cairn.dev.faults.unspilled = [] ∧ ((recPlaces 0 0 (s_cairn.trust.add 7 0 [9] true none).cairn).getLast?.getD (0, 0)).1 + 3 ≤ storeBlocks) ∧
    exec (.cairnRecordWrite 7 0 [9] true) s_cairn = .next (nxs (.cairnRecordWrite 7 0 [9] true) s_cairn) ∧
    ((nxs (.cairnRecordWrite 7 0 [9] true) s_cairn).trust.cairn = s_cairn.trust.cairn ++ [{ type := 7, inst := 0, seq := 5, data := [9] }] ∧ (nxs (.cairnRecordWrite 7 0 [9] true) s_cairn).trust.cairnSeq = 6 ∧ ((nxs (.cairnRecordWrite 7 0 [9] true) s_cairn).trust.index.any fun e => e.1 == 7 && e.2.1 == 0) = true ∧ (nxs (.cairnRecordWrite 7 0 [9] true) s_cairn).trust.trial = true ∧ (nxs (.cairnRecordWrite 7 0 [9] true) s_cairn).dev = { s_cairn.dev with out := [{ msg := .flash true 7 0 }] }) ∧
    exec (.cairnRecordWrite 7 0 [9] false) s_cairn = .next (nxs (.cairnRecordWrite 7 0 [9] false) s_cairn) ∧
    ((nxs (.cairnRecordWrite 7 0 [9] false) s_cairn).trust.cairn = s_cairn.trust.cairn ++ [{ type := 7, inst := 0, seq := 5, data := [9], committed := false }] ∧ (nxs (.cairnRecordWrite 7 0 [9] false) s_cairn).trust.cairnSeq = 5 ∧ (nxs (.cairnRecordWrite 7 0 [9] false) s_cairn).trust.index = [] ∧ (nxs (.cairnRecordWrite 7 0 [9] false) s_cairn).dev = { s_cairn.dev with out := [{ msg := .flash false 7 0 }] }) ∧
    exec (.cairnRecordWrite 1 0 [5] true) s_cairn = .next (nxs (.cairnRecordWrite 1 0 [5] true) s_cairn) ∧
    (((nxs (.cairnRecordWrite 1 0 [5] true) s_cairn).dev.port 0).recorded = true ∧ ((nxs (.cairnRecordWrite 1 0 [5] true) s_cairn).dev.port 1).recorded = false ∧ ((nxs (.cairnRecordWrite 1 0 [5] true) s_cairn).dev.port 2).recorded = true) ∧
    exec (.cairnRecordWrite 5 15 [5] true) s_cairn = .next (nxs (.cairnRecordWrite 5 15 [5] true) s_cairn) ∧
    (((nxs (.cairnRecordWrite 5 15 [5] true) s_cairn).dev.chan 15).recordOk = true) :=
  ⟨by decide +kernel,
   gives_iff.1 (by decide +kernel),
   by decide +kernel,
   gives_iff.1 (by decide +kernel),
   by decide +kernel,
   gives_iff.1 (by decide +kernel),
   by decide +kernel,
   gives_iff.1 (by decide +kernel),
   by decide +kernel⟩

def s_cairn_waits : State := { dev := { dev0 with fwUp := false } }
/-- While firmware is stopped a record waits (R31). -/
theorem witness_cairn_waits :
    exec (.cairnRecordWrite 7 0 [9] true) s_cairn_waits = .next ({ s_cairn_waits with trust := { s_cairn_waits.trust with waiting := [.cairnRecordWrite 7 0 [9] true] } }) :=
  gives_iff.1 (by decide +kernel)

theorem places_of (r u : CairnRec) : ((recPlaces 0 0 [r, u]).getLast?.getD (0, 0)).1 ≤ 2 := by
  simp only [recPlaces]; split <;> split <;> simp
theorem room_of (t : Trust) (data : List Byte) (h : t.cairn.length = 1 := by decide) : ((recPlaces 0 0 (t.add 4 2 data true none).cairn).getLast?.getD (0, 0)).1 + 3 ≤ storeBlocks := by
  match hc : t.cairn, h with
  | [r], _ =>
    have e : (t.add 4 2 data true none).cairn = [r, { type := 4, inst := 2, seq := t.cairnSeq, data := data }] := by
      simp only [Trust.add, if_true, Trust.indexed]; split <;> (try split) <;> simp [hc] <;> split <;> simp
    have p := places_of r { type := 4, inst := 2, seq := t.cairnSeq, data := data }
    rw [e, storeBlocks]; omega

def s_cairn_due : State := { dev := { dev0 with due := [(4, 2)] }, trust := { cairnSeq := 5 } }
/-- What firmware needs to write the repair map that it owes behind a record; the map's bytes are free (R150, log 4). -/
theorem witness_cairn_due :
    (s_cairn_due.dev.live = true ∧ s_cairn_due.dev.fwUp = true ∧ s_cairn_due.dev.faults.unspilled = []) ∧
    (((recPlaces 0 0 ((s_cairn_due.trust.add 7 0 [] true none).add 4 2 (Config.repairRecord s_cairn_due.dev.freeCtr) true none).cairn).getLast?.getD (0, 0)).1 + 3 ≤ storeBlocks) :=
  ⟨by decide +kernel,
   room_of _ _⟩

def s_cairn_log : State := { dev := dev0.raise { code := 0x5002, cls := 1, unit := 0x300 }, trust := { cairnSeq := 5 } }
/-- Firmware writes the fault records that the log does not have yet (R31, R490). -/
theorem witness_cairn_log :
    (s_cairn_log.dev.live = true ∧ s_cairn_log.dev.fwUp = true ∧ s_cairn_log.dev.due = [] ∧ s_cairn_log.dev.faults.unspilled ≠ [] ∧ ((recPlaces 0 0 ((s_cairn_log.trust.add 7 0 [] true none).add 8 0 (s_cairn_log.dev.faults.unspilled.flatMap FaultRec.bytes) true none).cairn).getLast?.getD (0, 0)).1 + 3 ≤ storeBlocks) ∧
    exec (.cairnRecordWrite 7 0 [] true) s_cairn_log = .next (nxs (.cairnRecordWrite 7 0 [] true) s_cairn_log) ∧
    ((nxs (.cairnRecordWrite 7 0 [] true) s_cairn_log).trust.cairn = [{ type := 7, inst := 0, seq := 5, data := [] }, { type := 8, inst := 0, seq := 6, data := s_cairn_log.dev.faults.unspilled.flatMap FaultRec.bytes }] ∧ (nxs (.cairnRecordWrite 7 0 [] true) s_cairn_log).dev.faults.spilled = s_cairn_log.dev.faults.total) :=
  ⟨by decide +kernel,
   gives_iff.1 (by decide +kernel),
   by decide +kernel⟩

def s_leaves : State := { dev := dev0, trust := { leaf := 2 ^ 26, leafEnd := 2 ^ 26, leafMark := 1 } }
/-- A leaf reservation commits its segment's fuse with it (R591, R592): here the first of the second segment. -/
theorem witness_leaves :
    exec (.cairnRecordWrite 3 0 (bytesOfNat 4 (2 ^ 26 + 256)) true) s_leaves = .next (nxs (.cairnRecordWrite 3 0 (bytesOfNat 4 (2 ^ 26 + 256)) true) s_leaves) ∧
    ((nxs (.cairnRecordWrite 3 0 (bytesOfNat 4 (2 ^ 26 + 256)) true) s_leaves).trust.leafEnd = 2 ^ 26 + 256 ∧ (nxs (.cairnRecordWrite 3 0 (bytesOfNat 4 (2 ^ 26 + 256)) true) s_leaves).trust.leafMark = 2 ∧ (nxs (.cairnRecordWrite 3 0 (bytesOfNat 4 (2 ^ 26 + 256)) true) s_leaves).trust.leaf = 2 ^ 26 ∧ (nxs (.cairnRecordWrite 3 0 (bytesOfNat 4 (2 ^ 26 + 256)) true) s_leaves).trust.record 3 0 = some { type := 3, inst := 0, seq := 0, data := bytesOfNat 4 (2 ^ 26 + 256) } ∧ (nxs (.cairnRecordWrite 3 0 (bytesOfNat 4 (2 ^ 26 + 256)) true) s_leaves).dev = { s_leaves.dev with out := [{ msg := .flash true 3 0 }] }) :=
  ⟨gives_iff.1 (by decide +kernel),
   by decide +kernel⟩

/-- A record that fills its block, and the block behind it. -/
def big (type : Nat) : CairnRec := { type := type, inst := 0, seq := 4, data := List.replicate 65515 1 }
def t_block (type : Nat) : Trust := { cairnSeq := 9, cairn := [big type, { type := 8, inst := 0, seq := 5, data := [] }] }
theorem big_size (type : Nat) : (big type).size = 65536 := by
  have h : (big type).bytes.length = 65536 := by
    simp [CairnRec.bytes, bytesOfNat, show (big type).data.length = 65515 from List.length_replicate]
  simp [CairnRec.size, ceilDiv, h]
theorem small_size (r : CairnRec) : 16 ≤ r.size := by
  have h : 1 ≤ r.bytes.length := by simp [CairnRec.bytes]
  simp only [CairnRec.size, ceilDiv]; omega
theorem block_first (type : Nat) : ((recPlaces 0 0 (t_block type).cairn).takeWhile fun p => p.1 == 0).length = 1 := by
  have h := small_size { type := 8, inst := 0, seq := 5, data := [] }
  have h2 : ¬ 65536 + ({ type := 8, inst := 0, seq := 5, data := [] } : CairnRec).size ≤ 65536 := by omega
  simp [t_block, recPlaces, big_size, h2]
/-- The erasure of the oldest block: its record is appended again where it is the valid one of its type, and not where it never committed (R567). -/
theorem witness_block : (dev0.live = true ∧ dev0.fwUp = true) ∧ (t_block 7).keeps (big 7) = true ∧
    (∀ type, ((recPlaces 0 0 (t_block type).cairn).takeWhile fun p => p.1 == 0).length = 1) ∧ (t_block 8).keeps { big 8 with committed := false } = false := by
  refine ⟨by decide +kernel, ?_, block_first, rfl⟩
  have h : (big 7).type = 7 ∧ (big 7).inst = 0 ∧ (big 7).committed = true ∧ (big 7).hidden = false := ⟨rfl, rfl, rfl, rfl⟩
  simp [Trust.keeps, Trust.record, t_block, h]

def s_watchdog : State := { dev := { dev0 with power := { dev0.power with ticks := 40000 } }, trust := { wdAt := 40000 - 32735, sessions := [{ chan := 0, id := 1 }], leaf := 3, leafEnd := 256 } }
/-- The watchdog restarts, and expires at 999 ms (R557). -/
theorem witness_watchdog :
    (s_watchdog.trust.wdAt + 32735 ≤ s_watchdog.dev.lamp) ∧
    exec (.watchdogRestart) s_watchdog = .next ({ s_watchdog with dev := s_watchdog.dev, trust := { s_watchdog.trust with wdAt := s_watchdog.dev.lamp } }) ∧
    exec (.watchdogExpiry) s_watchdog = .next ({ s_watchdog with dev := ({ s_watchdog.dev with fwUp := false, fwDown := true } : Dev).raise { code := 0x7003, cls := 2, unit := 0x390 }, trust := { s_watchdog.trust with sessions := [], leaf := s_watchdog.trust.leafStart, leafEnd := s_watchdog.trust.leafStart } }) :=
  ⟨by decide +kernel,
   gives_iff.1 (by decide +kernel),
   gives_iff.1 (by decide +kernel)⟩

def s_watchdog_runs : State := { dev := { dev0 with power := { dev0.power with ticks := 40000 } }, trust := { wdAt := 40001 - 32735 } }
/-- It does not expire a tick earlier (R557). -/
theorem witness_watchdog_runs :
    (s_watchdog_runs.trust.wdAt + 32735 > s_watchdog_runs.dev.lamp) ∧
    exec (.watchdogExpiry) s_watchdog_runs = .next s_watchdog_runs :=
  ⟨by decide +kernel,
   gives_iff.1 (by decide +kernel)⟩

def s_svn : State := { dev := dev0, trust := { svn := 3, svnRun := 5, slotA := [(7, 1)] }, pending := [.svnRaise] }
/-- The SVN fuses rise to a confirmed image's svn if its flag allows (R576). -/
theorem witness_svn :
    (s_svn.trust.onTrial = false ∧ (s_svn.trust.flash s_svn.trust.running 7).getLsbD 0 = true) ∧
    exec (.svnRaise) s_svn = .next ({ s_svn with trust := { s_svn.trust with svn := 5 } }) ∧
    (gives (step s_svn) { s_svn with pending := [], trust := { s_svn.trust with svn := 5 } } = true) :=
  ⟨by decide +kernel,
   gives_iff.1 (by decide +kernel),
   by decide +kernel⟩

def s_verify_slot : State := { trust := { svn := 3, slotA := [(8, 2), (9, 0), (10, 0), (11, 0)] } }
/-- A slot whose svn is below the fuses does not verify (R576). -/
theorem witness_verify_slot :
    (s_verify_slot.trust.num 0 8 4 = 2) :=
  by decide +kernel

end Sys2Proof.Tests
end

