-- ==== Sys2Proof/Tests/Management.lean ====
section
/-!
SUPPORT. Tests of the management instructions: for each, a small state that meets all the hypotheses of its statement, and what the
instruction leaves there.
-/
namespace Sys2Proof.Tests

open Sys2Proof.Machine

set_option Elab.async false

def q_man : Queue := { queue1 with regs := [(1, 64), (2, 256), (3, 0)] }

/-- The record of an active grotto: key 5, channel 0, one unit (R76). -/
def d_rec0 : Dev := { dev0 with mem := { resv := [(20, rline 20 0x64000000000000004000500000100001)] } }

/-- The same record where memory has room for one unit. -/
def d_rec : Dev := { d_rec0 with mem := { d_rec0.mem with ceiling := 1, phys := 1000000 }, chans := [(0, { state := 3, frames := 1000000, ranks := 1 })] }

def w_grotto_write : PWord := { phase := true, fmt := 7, ra := 2, swin := 1, imm := 3 }
def s_grotto_write : State := showing d_rec q_man 0xC0 w_grotto_write
def bs_grotto_write : List Byte := valOf (Eng.operand (s_grotto_write.ctx 1 q_man w_grotto_write) q_man w_grotto_write ((q_man).vals w_grotto_write) 32) (s_grotto_write.dev.entered 1 q_man w_grotto_write 0xC0)
def e_grotto_write : Dev := devOf (Eng.operand (s_grotto_write.ctx 1 q_man w_grotto_write) q_man w_grotto_write ((q_man).vals w_grotto_write) 32) (s_grotto_write.dev.entered 1 q_man w_grotto_write 0xC0)
def f_grotto_write : Dev := e_grotto_write
/-- GROTTO write of a new record (R348). -/
theorem witness_grotto_write :
    Shows s_grotto_write 1 w_grotto_write grottoWritePel q_man s_grotto_write.dev ∧
    (s_grotto_write.dev.faults.armed = []) ∧
    (Eng.operand (s_grotto_write.ctx 1 q_man w_grotto_write) q_man w_grotto_write ((q_man).vals w_grotto_write) 32).run (s_grotto_write.dev.entered 1 q_man w_grotto_write 0xC0) = .ok (valOf (Eng.operand (s_grotto_write.ctx 1 q_man w_grotto_write) q_man w_grotto_write ((q_man).vals w_grotto_write) 32) (s_grotto_write.dev.entered 1 q_man w_grotto_write 0xC0), devOf (Eng.operand (s_grotto_write.ctx 1 q_man w_grotto_write) q_man w_grotto_write ((q_man).vals w_grotto_write) 32) (s_grotto_write.dev.entered 1 q_man w_grotto_write 0xC0)) ∧
    (e_grotto_write.faults.armed = []) ∧
    (e_grotto_write.checkRecord 3 (e_grotto_write.grotto? 3) bs_grotto_write) = .ok (0, f_grotto_write) ∧
    ((f_grotto_write.putRecord 3 none bs_grotto_write 0).grotto? 3 = some { state := 1, keyId := 5, chanMask := 1, committed := 1, coverage := 100 }) ∧
    exec (.grottoWrite 1 w_grotto_write) s_grotto_write = .next (s_grotto_write.applied (f_grotto_write.putRecord 3 none bs_grotto_write 0) 1 q_man w_grotto_write 0xC0 {} (q_man.head + 1)) :=
  ⟨shows_of (by decide +kernel),
   by decide +kernel,
   run_of (by decide +kernel),
   by decide +kernel,
   ok_of (by decide +kernel),
   by decide +kernel,
   gives_iff.1 (by decide +kernel)⟩

def gr3 : Grotto := { keyId := 5, chanMask := 1, committed := 1, elasticMax := 2, mapBase := 0x10000, attaches := [{ link := 1, ld := 0, base := 0, fenced := true }] }
def d_gr : Dev := { dev0 with grottos := [(3, gr3)], mem := { ceiling := 3 } }

def w_grotto_read : PWord := { phase := true, fmt := 7, mod := 1, ra := 2, dwin := 1, imm := 3 }
def s_grotto_read : State := showing d_gr q_man 0xC0 w_grotto_read
def a_grotto_read : Area := { resv := true, g := 0, base := 1280, len := 32 }
/-- GROTTO read writes the record out (R76). -/
theorem witness_grotto_read :
    Shows s_grotto_read 1 w_grotto_read grottoReadPel q_man s_grotto_read.dev ∧
    (s_grotto_read.dev.entered 1 q_man w_grotto_read 0xC0).ranges 1 q_man [{ win := w_grotto_read.dwin.toNat, off := ((q_man).vals w_grotto_read).a.1.toNat, len := 32, right := 1 }] false false = .ok [a_grotto_read] ∧
    exec (.grottoRead 1 w_grotto_read) s_grotto_read = .next (s_grotto_read.applied ((s_grotto_read.dev.entered 1 q_man w_grotto_read 0xC0).writeAt (s_grotto_read.ctx 1 q_man w_grotto_read) a_grotto_read 0 (clean (bytesOfNat 8 0x0000500000100001 ++ bytesOfNat 8 0x6400000800010000 ++ List.replicate 16 0))) 1 q_man w_grotto_read 0xC0 {} (q_man.head + 1)) :=
  ⟨shows_of (by decide +kernel),
   ok_of (by decide +kernel),
   gives_iff.1 (by decide +kernel)⟩

def w_grotto_read_none : PWord := { phase := true, fmt := 7, mod := 1, ra := 2, dwin := 1, imm := 4 }
def s_grotto_read_none : State := showing d_gr q_man 0xC0 w_grotto_read_none
def a_grotto_read_none : Area := { resv := true, g := 0, base := 1280, len := 32 }
/-- GROTTO read of a grotto that is not there writes zeros (R348). -/
theorem witness_grotto_read_none :
    Shows s_grotto_read_none 1 w_grotto_read_none grottoReadPel q_man s_grotto_read_none.dev ∧
    (s_grotto_read_none.dev.entered 1 q_man w_grotto_read_none 0xC0).ranges 1 q_man [{ win := w_grotto_read_none.dwin.toNat, off := ((q_man).vals w_grotto_read_none).a.1.toNat, len := 32, right := 1 }] false false = .ok [a_grotto_read_none] ∧
    exec (.grottoRead 1 w_grotto_read_none) s_grotto_read_none = .next (s_grotto_read_none.applied ((s_grotto_read_none.dev.entered 1 q_man w_grotto_read_none 0xC0).writeAt (s_grotto_read_none.ctx 1 q_man w_grotto_read_none) a_grotto_read_none 0 (clean (List.replicate 32 0))) 1 q_man w_grotto_read_none 0xC0 {} (q_man.head + 1)) :=
  ⟨shows_of (by decide +kernel),
   ok_of (by decide +kernel),
   gives_iff.1 (by decide +kernel)⟩

def q_att : Queue := { queue1 with regs := [(1, 64), (2, 256), (3, 0)] }

def w_grotto_attach : PWord := { phase := true, fmt := 7, mod := 2, rb := 5, imm := 131 }
def s_grotto_attach : State := showing d_gr q_man 0xC0 w_grotto_attach
/-- GROTTO attach to link 2 (R38). -/
theorem witness_grotto_attach :
    Shows s_grotto_attach 1 w_grotto_attach grottoAttachPel q_man s_grotto_attach.dev ∧
    (s_grotto_attach.dev.grotto? 3 = some gr3 ∧ s_grotto_attach.dev.faults.armed = [] ∧ s_grotto_attach.dev.linkExists 2 = true ∧ 0 < s_grotto_attach.dev.ldCount 2) ∧
    exec (.grottoAttach 1 w_grotto_attach) s_grotto_attach = .next (s_grotto_attach.applied ((s_grotto_attach.dev.entered 1 q_man w_grotto_attach 0xC0).setGrotto 3 { gr3 with attaches := gr3.attaches ++ [{ link := 2, ld := 0, base := 0 }] }) 1 q_man w_grotto_attach 0xC0 {} (q_man.head + 1)) :=
  ⟨shows_of (by decide +kernel),
   by decide +kernel,
   gives_iff.1 (by decide +kernel)⟩

def w_grotto_detach : PWord := { phase := true, fmt := 7, mod := 3, imm := 67 }
def s_grotto_detach : State := showing d_gr q_man 0xC0 w_grotto_detach
/-- GROTTO detach (R348). -/
theorem witness_grotto_detach :
    Shows s_grotto_detach 1 w_grotto_detach grottoDetachPel q_man s_grotto_detach.dev ∧
    ((gr3.attaches.find? fun b => b.link == 1 && b.ld == 0).any (s_grotto_detach.dev.decoded gr3) = false) ∧
    exec (.grottoDetach 1 w_grotto_detach) s_grotto_detach = .next (s_grotto_detach.applied ((s_grotto_detach.dev.entered 1 q_man w_grotto_detach 0xC0).setGrotto 3 { gr3 with attaches := [] }) 1 q_man w_grotto_detach 0xC0 {} (q_man.head + 1)) :=
  ⟨shows_of (by decide +kernel),
   by decide +kernel,
   gives_iff.1 (by decide +kernel)⟩

def w_grotto_return : PWord := { phase := true, fmt := 7, mod := 4, imm := 67 }
def s_grotto_return : State := showing d_gr q_man 0xC0 w_grotto_return
/-- GROTTO return to service ends the fence (R185). -/
theorem witness_grotto_return :
    Shows s_grotto_return 1 w_grotto_return grottoReturnToServicePel q_man s_grotto_return.dev ∧
    exec (.grottoReturnToService 1 w_grotto_return) s_grotto_return = .next (s_grotto_return.applied ((s_grotto_return.dev.entered 1 q_man w_grotto_return 0xC0).setGrotto 3 { gr3 with attaches := [{ link := 1, ld := 0, base := 0 }] }) 1 q_man w_grotto_return 0xC0 {} (q_man.head + 1)) :=
  ⟨shows_of (by decide +kernel),
   gives_iff.1 (by decide +kernel)⟩

/-- The fenced attachment, and another, are recorded as holders of lines of the grotto. -/
def d_copies : Dev := { d_gr with slices := { dir := [(lineKey 3 5, { st := .S, sharers := [srcOf 1 0, srcOf 2 0] }), (lineKey 3 6, { st := .E, sharers := [srcOf 1 0] }),
  (lineKey 3 7, { st := .S, bcast := true })] } }

def w_grotto_return_copies : PWord := { phase := true, fmt := 7, mod := 4, imm := 67 }
def s_grotto_return_copies : State := showing d_copies q_man 0xC0 w_grotto_return_copies
def h_grotto_return_copies : Dev := (s_grotto_return_copies.dev.entered 1 q_man w_grotto_return_copies 0xC0).dropCopies 3 (srcOf 1 0)
/-- A fenced attachment returns with no copy recorded but in broadcast entries (R185). -/
theorem witness_grotto_return_copies :
    Shows s_grotto_return_copies 1 w_grotto_return_copies grottoReturnToServicePel q_man s_grotto_return_copies.dev ∧
    (risingFrom 0 s_grotto_return_copies.dev.slices.dir = true ∧ (∀ e ∈ s_grotto_return_copies.dev.slices.dir, e.2.st = .S ∨ e.2.st = .E) ∧ gr3.attaches.any (fun b => b.link == 1 && b.ld == 0 && b.fenced) = true) ∧
    (∀ e ∈ h_grotto_return_copies.slices.dir, e.2.bcast = true ∨ srcOf 1 0 ∉ e.2.sharers) ∧
    exec (.grottoReturnToService 1 w_grotto_return_copies) s_grotto_return_copies = .next (s_grotto_return_copies.applied (h_grotto_return_copies.setGrotto 3 { gr3 with attaches := [{ link := 1, ld := 0, base := 0 }] }) 1 q_man w_grotto_return_copies 0xC0 {} (q_man.head + 1)) :=
  ⟨shows_of (by decide +kernel),
   by decide +kernel,
   by decide +kernel,
   gives_iff.1 (by decide +kernel)⟩

def w_grotto_delete : PWord := { phase := true, fmt := 7, mod := 6, imm := 3 }
def s_grotto_delete : State := showing d_gr q_man 0xC0 w_grotto_delete
/-- GROTTO delete of an inactive grotto (R348). -/
theorem witness_grotto_delete :
    Shows s_grotto_delete 1 w_grotto_delete grottoDeletePel q_man s_grotto_delete.dev ∧
    ((s_grotto_delete.dev.entered 1 q_man w_grotto_delete 0xC0).mayLeave 3 gr3 = true) ∧
    exec (.grottoDelete 1 w_grotto_delete) s_grotto_delete = .next (s_grotto_delete.applied { (s_grotto_delete.dev.entered 1 q_man w_grotto_delete 0xC0) with grottos := [] } 1 q_man w_grotto_delete 0xC0 {} (q_man.head + 1)) :=
  ⟨shows_of (by decide +kernel),
   by decide +kernel,
   gives_iff.1 (by decide +kernel)⟩

def gr4 : Grotto := { gr3 with attaches := [{ link := 0, ld := 0, base := 0 }] }
def d_offer : Dev := { d_gr with grottos := [(3, gr4)] }
def q_offer : Queue := { queue1 with regs := [(1, BitVec.ofNat 64 unitBytes), (2, 2)] }

def w_grotto_offer : PWord := { phase := true, fmt := 7, mod := 5, rb := 1, rc := 2, imm := 3 }
def s_grotto_offer : State := showing d_offer q_offer 0xC0 w_grotto_offer
/-- GROTTO offers an extent of two units (R48). -/
theorem witness_grotto_offer :
    Shows s_grotto_offer 1 w_grotto_offer grottoOfferExtentPel q_offer s_grotto_offer.dev ∧
    (gr4.attaches.find? gr4.owns = some { link := 0, ld := 0, base := 0 } ∧ (s_grotto_offer.dev.offerConds 3 unitBytes 2).all (fun e => !e.1) = true ∧ s_grotto_offer.dev.roped 3 = false) ∧
    exec (.grottoOfferExtent 1 w_grotto_offer) s_grotto_offer = .next (s_grotto_offer.applied (((s_grotto_offer.dev.entered 1 q_offer w_grotto_offer 0xC0).setGrotto 3 { gr4 with offered := [(1, 2)] }).dcLog 3 .addCapacity (1, 2)) 1 q_offer w_grotto_offer 0xC0 {} (q_offer.head + 1)) :=
  ⟨shows_of (by decide +kernel),
   by decide +kernel,
   gives_iff.1 (by decide +kernel)⟩

/-- The record of a queue of grotto 3 whose completion ring lies in host memory (R268). -/
def d_qrec0 : Dev := { dev0 with mem := { resv := [(20, rline 20 0x100000000000000000000000000001000C302000000000000)] } }

def d_qrec : Dev := { d_qrec0 with
  grottos := [(3, { state := 1, keyId := 1, committed := 1, chanMask := 0xFFFF, mapBase := 0x10000 })], keys := [(1, 5)]
  lds := [(ldKey 0 0, { vecBase := some 0, vecCount := 1 })] }
def d_qold : Dev := { d_qrec with queues := { qs := [(20, {})] } }
def r_queue : QRec := { crHost := true, grotto := 3, ringOrder := 2, crOrder := 0, ringBase := 4096, classMask := 1 }

def w_queue_write : PWord := { phase := true, fmt := 7, ra := 2, swin := 1, imm := 20 }
def s_queue_write : State := showing d_qold q_man 0xC1 w_queue_write
def bs_queue_write : List Byte := valOf (Eng.operand (s_queue_write.ctx 1 q_man w_queue_write) q_man w_queue_write ((q_man).vals w_queue_write) 32) (s_queue_write.dev.entered 1 q_man w_queue_write 0xC1)
def e_queue_write : Dev := devOf (Eng.operand (s_queue_write.ctx 1 q_man w_queue_write) q_man w_queue_write ((q_man).vals w_queue_write) 32) (s_queue_write.dev.entered 1 q_man w_queue_write 0xC1)
/-- QUEUE write over a queue (R270). -/
theorem witness_queue_write :
    Shows s_queue_write 1 w_queue_write queueWritePel q_man s_queue_write.dev ∧
    (Eng.operand (s_queue_write.ctx 1 q_man w_queue_write) q_man w_queue_write ((q_man).vals w_queue_write) 32).run (s_queue_write.dev.entered 1 q_man w_queue_write 0xC1) = .ok (valOf (Eng.operand (s_queue_write.ctx 1 q_man w_queue_write) q_man w_queue_write ((q_man).vals w_queue_write) 32) (s_queue_write.dev.entered 1 q_man w_queue_write 0xC1), devOf (Eng.operand (s_queue_write.ctx 1 q_man w_queue_write) q_man w_queue_write ((q_man).vals w_queue_write) 32) (s_queue_write.dev.entered 1 q_man w_queue_write 0xC1)) ∧
    (e_queue_write.faults.armed = []) ∧
    ((e_queue_write.queueConds 20 bs_queue_write).all (fun k => !k.1) = true ∧ e_queue_write.queue? 20 = some {}) ∧
    exec (.queueWrite 1 w_queue_write) s_queue_write = .next (s_queue_write.applied (e_queue_write.setQueue 20 { recd := r_queue, dirty := true }) 1 q_man w_queue_write 0xC1 {} (q_man.head + 1)) :=
  ⟨shows_of (by decide +kernel),
   run_of (by decide +kernel),
   by decide +kernel,
   by decide +kernel,
   gives_iff.1 (by decide +kernel)⟩

def w_queue_new : PWord := { phase := true, fmt := 7, ra := 2, swin := 1, imm := 20 }
def s_queue_new : State := showing d_qrec q_man 0xC1 w_queue_new
def bs_queue_new : List Byte := valOf (Eng.operand (s_queue_new.ctx 1 q_man w_queue_new) q_man w_queue_new ((q_man).vals w_queue_new) 32) (s_queue_new.dev.entered 1 q_man w_queue_new 0xC1)
def e_queue_new : Dev := devOf (Eng.operand (s_queue_new.ctx 1 q_man w_queue_new) q_man w_queue_new ((q_man).vals w_queue_new) 32) (s_queue_new.dev.entered 1 q_man w_queue_new 0xC1)
def f_queue_new : Dev := devOf (do Eng.zeroArea (s_queue_new.ctx 1 q_man w_queue_new) { resv := false, g := r_queue.grotto, base := r_queue.ringBase, len := r_queue.ringBytes }; if !r_queue.crHost then Eng.zeroArea (s_queue_new.ctx 1 q_man w_queue_new) { resv := false, g := r_queue.grotto, base := r_queue.crBase, len := r_queue.crBytes } : Eng Unit) e_queue_new
/-- QUEUE write of a new queue zeroes its ring (R269). -/
theorem witness_queue_new :
    Shows s_queue_new 1 w_queue_new queueWritePel q_man s_queue_new.dev ∧
    (Eng.operand (s_queue_new.ctx 1 q_man w_queue_new) q_man w_queue_new ((q_man).vals w_queue_new) 32).run (s_queue_new.dev.entered 1 q_man w_queue_new 0xC1) = .ok (valOf (Eng.operand (s_queue_new.ctx 1 q_man w_queue_new) q_man w_queue_new ((q_man).vals w_queue_new) 32) (s_queue_new.dev.entered 1 q_man w_queue_new 0xC1), devOf (Eng.operand (s_queue_new.ctx 1 q_man w_queue_new) q_man w_queue_new ((q_man).vals w_queue_new) 32) (s_queue_new.dev.entered 1 q_man w_queue_new 0xC1)) ∧
    (qrecOf bs_queue_new = r_queue) ∧
    ((e_queue_new.queueConds 20 bs_queue_new).all (fun k => !k.1) = true ∧ e_queue_new.queue? 20 = none) ∧
    ((do Eng.zeroArea (s_queue_new.ctx 1 q_man w_queue_new) { resv := false, g := r_queue.grotto, base := r_queue.ringBase, len := r_queue.ringBytes }; if !r_queue.crHost then Eng.zeroArea (s_queue_new.ctx 1 q_man w_queue_new) { resv := false, g := r_queue.grotto, base := r_queue.crBase, len := r_queue.crBytes } : Eng Unit)).run e_queue_new = .ok (valOf ((do Eng.zeroArea (s_queue_new.ctx 1 q_man w_queue_new) { resv := false, g := r_queue.grotto, base := r_queue.ringBase, len := r_queue.ringBytes }; if !r_queue.crHost then Eng.zeroArea (s_queue_new.ctx 1 q_man w_queue_new) { resv := false, g := r_queue.grotto, base := r_queue.crBase, len := r_queue.crBytes } : Eng Unit)) e_queue_new, devOf ((do Eng.zeroArea (s_queue_new.ctx 1 q_man w_queue_new) { resv := false, g := r_queue.grotto, base := r_queue.ringBase, len := r_queue.ringBytes }; if !r_queue.crHost then Eng.zeroArea (s_queue_new.ctx 1 q_man w_queue_new) { resv := false, g := r_queue.grotto, base := r_queue.crBase, len := r_queue.crBytes } : Eng Unit)) e_queue_new) ∧
    (f_queue_new.faults.armed = []) ∧
    exec (.queueWrite 1 w_queue_new) s_queue_new = .next (s_queue_new.applied (f_queue_new.setQueue 20 { recd := r_queue }) 1 q_man w_queue_new 0xC1 {} (q_man.head + 1)) :=
  ⟨shows_of (by decide +kernel),
   run_of (by decide +kernel),
   by decide +kernel,
   by decide +kernel,
   run_of (by decide +kernel),
   by decide +kernel,
   gives_iff.1 (by decide +kernel)⟩

def w_queue_delete : PWord := { phase := true, fmt := 7, mod := 1, imm := 20 }
def s_queue_delete : State := showing d_qold q_man 0xC1 w_queue_delete
/-- QUEUE delete (R349). -/
theorem witness_queue_delete :
    Shows s_queue_delete 1 w_queue_delete queueDeletePel q_man s_queue_delete.dev ∧
    (((s_queue_delete.dev.entered 1 q_man w_queue_delete 0xC1).queue? 20).any Queue.busy = false) ∧
    exec (.queueDelete 1 w_queue_delete) s_queue_delete = .next (s_queue_delete.applied ((s_queue_delete.dev.entered 1 q_man w_queue_delete 0xC1).onQueues fun k => { k with qs := merase k.qs 20 }) 1 q_man w_queue_delete 0xC1 {} (q_man.head + 1)) :=
  ⟨shows_of (by decide +kernel),
   by decide +kernel,
   gives_iff.1 (by decide +kernel)⟩

def d_qkept : Dev := { d_qrec with queues := { qs := [(20, { recd := r_queue })] } }

def w_queue_read : PWord := { phase := true, fmt := 7, mod := 2, ra := 2, dwin := 1, imm := 20 }
def s_queue_read : State := showing d_qkept q_man 0xC1 w_queue_read
def a_queue_read : Area := { resv := true, g := 0, base := 1280, len := 32 }
/-- QUEUE read (R349). -/
theorem witness_queue_read :
    Shows s_queue_read 1 w_queue_read queueReadPel q_man s_queue_read.dev ∧
    (s_queue_read.dev.entered 1 q_man w_queue_read 0xC1).ranges 1 q_man [{ win := w_queue_read.dwin.toNat, off := ((q_man).vals w_queue_read).a.1.toNat, len := 32, right := 1 }] false false = .ok [a_queue_read] ∧
    exec (.queueRead 1 w_queue_read) s_queue_read = .next (s_queue_read.applied ((s_queue_read.dev.entered 1 q_man w_queue_read 0xC1).writeAt (s_queue_read.ctx 1 q_man w_queue_read) a_queue_read 0 (clean (bytesOfNat 8 0xC302000000000000 ++ bytesOfNat 8 4096 ++ bytesOfNat 8 0 ++ bytesOfNat 8 1))) 1 q_man w_queue_read 0xC1 {} (q_man.head + 1)) :=
  ⟨shows_of (by decide +kernel),
   ok_of (by decide +kernel),
   gives_iff.1 (by decide +kernel)⟩

def w_queue_read_none : PWord := { phase := true, fmt := 7, mod := 2, ra := 2, dwin := 1, imm := 21 }
def s_queue_read_none : State := showing d_qkept q_man 0xC1 w_queue_read_none
def a_queue_read_none : Area := { resv := true, g := 0, base := 1280, len := 32 }
/-- QUEUE read of a queue that is not there writes zeros (R349). -/
theorem witness_queue_read_none :
    Shows s_queue_read_none 1 w_queue_read_none queueReadPel q_man s_queue_read_none.dev ∧
    (s_queue_read_none.dev.entered 1 q_man w_queue_read_none 0xC1).ranges 1 q_man [{ win := w_queue_read_none.dwin.toNat, off := ((q_man).vals w_queue_read_none).a.1.toNat, len := 32, right := 1 }] false false = .ok [a_queue_read_none] ∧
    exec (.queueRead 1 w_queue_read_none) s_queue_read_none = .next (s_queue_read_none.applied ((s_queue_read_none.dev.entered 1 q_man w_queue_read_none 0xC1).writeAt (s_queue_read_none.ctx 1 q_man w_queue_read_none) a_queue_read_none 0 (clean (List.replicate 32 0))) 1 q_man w_queue_read_none 0xC1 {} (q_man.head + 1)) :=
  ⟨shows_of (by decide +kernel),
   ok_of (by decide +kernel),
   gives_iff.1 (by decide +kernel)⟩

def q_win : Queue := { queue1 with regs := [(1, BitVec.ofNat 64 (3 * 2 ^ 58 + 2 ^ 56 + 2 ^ 55 + 2 ^ 54 + 4096)), (4, 8192), (2, 256)] }
def q_w20 : Queue := { windows := [(5, { grotto := 3, kind := 1, read := true, base := 64, length := 128 })] }
def d_win : Dev := { d_qrec with queues := { qs := [(20, q_w20)] } }

def w_window_write : PWord := { phase := true, fmt := 7, rb := 1, rc := 4, imm := 40980 }
def s_window_write : State := showing d_win q_win 0xC2 w_window_write
/-- WINDOW write of window 5 of queue 20 (R350). -/
theorem witness_window_write :
    Shows s_window_write 1 w_window_write windowWritePel q_win s_window_write.dev ∧
    ((s_window_write.dev.entered 1 q_win w_window_write 0xC2).queue? 20 = some q_w20 ∧ s_window_write.dev.faults.armed = []) ∧
    ((s_window_write.dev.entered 1 q_win w_window_write 0xC2).winFits (s_window_write.ctx 1 q_win w_window_write) (windowOf ((q_win).vals w_window_write).b.1.toNat ((q_win).vals w_window_write).c.1.toNat) = true ∧ bitsOf ((q_win).vals w_window_write).b.1.toNat 57 56 = 1 ∧ bitsOf ((q_win).vals w_window_write).b.1.toNat 52 45 = 0 ∧ bitsOf ((q_win).vals w_window_write).c.1.toNat 63 45 = 0) ∧
    exec (.windowWrite 1 w_window_write) s_window_write = .next (s_window_write.applied ((s_window_write.dev.entered 1 q_win w_window_write 0xC2).setQueue 20 { q_w20 with windows := [(5, { grotto := 3, kind := 1, read := true, write := true, base := 4096, length := 8192 })] }) 1 q_win w_window_write 0xC2 {} (q_win.head + 1)) :=
  ⟨shows_of (by decide +kernel),
   by decide +kernel,
   by decide +kernel,
   gives_iff.1 (by decide +kernel)⟩

def w_window_invalidate : PWord := { phase := true, fmt := 7, mod := 1, imm := 40980 }
def s_window_invalidate : State := showing d_win q_win 0xC2 w_window_invalidate
/-- WINDOW invalidation (R350). -/
theorem witness_window_invalidate :
    Shows s_window_invalidate 1 w_window_invalidate windowInvalidatePel q_win s_window_invalidate.dev ∧
    exec (.windowInvalidate 1 w_window_invalidate) s_window_invalidate = .next (s_window_invalidate.applied ((s_window_invalidate.dev.entered 1 q_win w_window_invalidate 0xC2).setQueue 20 { q_w20 with windows := [(5, { grotto := 3, kind := 0, read := true, base := 64, length := 128 })] }) 1 q_win w_window_invalidate 0xC2 {} (q_win.head + 1)) :=
  ⟨shows_of (by decide +kernel),
   gives_iff.1 (by decide +kernel)⟩

def w_window_read : PWord := { phase := true, fmt := 7, mod := 2, ra := 2, dwin := 1, imm := 40980 }
def s_window_read : State := showing d_win q_win 0xC2 w_window_read
def a_window_read : Area := { resv := true, g := 0, base := 1280, len := 16 }
/-- WINDOW read (R350). -/
theorem witness_window_read :
    Shows s_window_read 1 w_window_read windowReadPel q_win s_window_read.dev ∧
    (s_window_read.dev.entered 1 q_win w_window_read 0xC2).ranges 1 q_win [{ win := w_window_read.dwin.toNat, off := ((q_win).vals w_window_read).a.1.toNat, len := 16, right := 1 }] false false = .ok [a_window_read] ∧
    exec (.windowRead 1 w_window_read) s_window_read = .next (s_window_read.applied ((s_window_read.dev.entered 1 q_win w_window_read 0xC2).writeAt (s_window_read.ctx 1 q_win w_window_read) a_window_read 0 (clean (bytesOfNat 8 0x0D80000000000040 ++ bytesOfNat 8 128))) 1 q_win w_window_read 0xC2 {} (q_win.head + 1)) :=
  ⟨shows_of (by decide +kernel),
   ok_of (by decide +kernel),
   gives_iff.1 (by decide +kernel)⟩

/-- A wrapped key. -/
def d_key0 : Dev := { dev0 with mem := { resv := [(20, rline 20 0x3F3E3D3C3B3A393837363534333231302F2E2D2C2B2A292827262524232221201F1E1D1C1B1A191817161514131211100F0E0D0C0B0A09080706050403020100), (21, rline 21 0x4746454443424140)] } }

def d_key : Dev := { d_key0 with grottos := [(3, { state := 1, keyId := 5, committed := 1, chanMask := 1 })], keys := [(5, 9), (6, 10)], slices := { nc := [(lineKey 3 0, { data := 1 })] } }
def s_keyload : State := { showing d_key q_man 0xC3 { phase := true, fmt := 7, ra := 2, swin := 1, imm := 4103 } with trust := { wrap := [(1, 77)] } }
def w_keyload : PWord := { phase := true, fmt := 7, ra := 2, swin := 1, imm := 4103 }
def run_keyload : Eng (List Byte) := Eng.operand (s_keyload.ctx 1 q_man w_keyload) q_man w_keyload (q_man.vals w_keyload) 72
/-- What KEYLOAD of entry 7 under wrapping key 1 needs (R351): whether the blob is good is free (log 3). -/
theorem witness_keyload_load :
    Shows s_keyload 1 w_keyload keyloadLoadPel q_man s_keyload.dev ∧
    run_keyload.run (s_keyload.dev.entered 1 q_man w_keyload 0xC3) =
      .ok (valOf run_keyload (s_keyload.dev.entered 1 q_man w_keyload 0xC3), devOf run_keyload (s_keyload.dev.entered 1 q_man w_keyload 0xC3)) ∧
    ((devOf run_keyload (s_keyload.dev.entered 1 q_man w_keyload 0xC3)).faults.armed = [] ∧
      mget (devOf run_keyload (s_keyload.dev.entered 1 q_man w_keyload 0xC3)).keys 7 = none ∧
      (devOf run_keyload (s_keyload.dev.entered 1 q_man w_keyload 0xC3)).pages.farBuf = []) ∧ mget s_keyload.trust.wrap 1 = some 77 :=
  ⟨shows_of (by decide +kernel), run_of (by decide +kernel), by decide +kernel, by decide +kernel⟩

def w_keyload_erase : PWord := { phase := true, fmt := 7, mod := 1, imm := 5 }
def s_keyload_erase : State := showing d_key q_man 0xC3 w_keyload_erase
/-- KEYLOAD erase of entry 5 drops the line that it encrypts (R351, R100). -/
theorem witness_keyload_erase :
    Shows s_keyload_erase 1 w_keyload_erase keyloadErasePel q_man s_keyload_erase.dev ∧
    (risingFrom 0 s_keyload_erase.dev.keys = true) ∧
    exec (.keyloadErase 1 w_keyload_erase) s_keyload_erase = .next (s_keyload_erase.applied { (s_keyload_erase.dev.entered 1 q_man w_keyload_erase 0xC3) with keys := [(6, 10)], slices := { ((s_keyload_erase.dev.entered 1 q_man w_keyload_erase 0xC3)).slices with nc := [] } } 1 q_man w_keyload_erase 0xC3 {} (q_man.head + 1)) :=
  ⟨shows_of (by decide +kernel),
   by decide +kernel,
   gives_iff.1 (by decide +kernel)⟩

/-- A class descriptor: guarantee 100, priority 3, target 500, threshold 10, limit 1000 (R499). -/
def d_cls0 : Dev := { dev0 with mem := { resv := [(20, rline 20 0x3E8000A01F400030064)] } }

def d_cls : Dev := { d_cls0 with chans := [(0, { state := 3, speed := 8800, trfc := 410, frames := 1000000, ranks := 1 })] }

def w_setclass_write : PWord := { phase := true, fmt := 7, ra := 2, swin := 1, imm := 2 }
def s_setclass_write : State := showing d_cls q_man 0xC4 w_setclass_write
def bs_setclass_write : List Byte := valOf (Eng.operand (s_setclass_write.ctx 1 q_man w_setclass_write) q_man w_setclass_write ((q_man).vals w_setclass_write) 32) (s_setclass_write.dev.entered 1 q_man w_setclass_write 0xC4)
def e_setclass_write : Dev := devOf (Eng.operand (s_setclass_write.ctx 1 q_man w_setclass_write) q_man w_setclass_write ((q_man).vals w_setclass_write) 32) (s_setclass_write.dev.entered 1 q_man w_setclass_write 0xC4)
def h_setclass_write : Dev := (e_setclass_write.setClass 2 ((e_setclass_write.class 2).described bs_setclass_write)).rescale
/-- SETCLASS sets class 2 (R352). -/
theorem witness_setclass_write :
    Shows s_setclass_write 1 w_setclass_write setclassWritePel q_man s_setclass_write.dev ∧
    (Eng.operand (s_setclass_write.ctx 1 q_man w_setclass_write) q_man w_setclass_write ((q_man).vals w_setclass_write) 32).run (s_setclass_write.dev.entered 1 q_man w_setclass_write 0xC4) = .ok (valOf (Eng.operand (s_setclass_write.ctx 1 q_man w_setclass_write) q_man w_setclass_write ((q_man).vals w_setclass_write) 32) (s_setclass_write.dev.entered 1 q_man w_setclass_write 0xC4), devOf (Eng.operand (s_setclass_write.ctx 1 q_man w_setclass_write) q_man w_setclass_write ((q_man).vals w_setclass_write) 32) (s_setclass_write.dev.entered 1 q_man w_setclass_write 0xC4)) ∧
    (e_setclass_write.classFits ((e_setclass_write.class 2).described bs_setclass_write) bs_setclass_write = true ∧ e_setclass_write.sumWith 2 100 ≤ e_setclass_write.deliverable) ∧
    ((h_setclass_write.class 2).guar = 100 ∧ (h_setclass_write.class 2).prio = 3 ∧ (h_setclass_write.class 2).target = 500 ∧ (h_setclass_write.class 2).thresh = 10 ∧ (h_setclass_write.class 2).limit = 1000 ∧ (h_setclass_write.class 1).guar = 0 ∧ h_setclass_write.mem = e_setclass_write.mem) ∧
    exec (.setclassWrite 1 w_setclass_write) s_setclass_write = .next (s_setclass_write.applied h_setclass_write 1 q_man w_setclass_write 0xC4 {} (q_man.head + 1)) :=
  ⟨shows_of (by decide +kernel),
   run_of (by decide +kernel),
   by decide +kernel,
   by decide +kernel,
   gives_iff.1 (by decide +kernel)⟩

def w_setclass_scrub : PWord := { phase := true, fmt := 7, mod := 1, imm := 0x100001 }
def s_setclass_scrub : State := showing d_cls q_man 0xC4 w_setclass_scrub
/-- SETCLASS sets a scrub reserve of 16 on channel 0 (R139). -/
theorem witness_setclass_scrub :
    Shows s_setclass_scrub 1 w_setclass_scrub setclassScrubReservePel q_man s_setclass_scrub.dev ∧
    ((s_setclass_scrub.dev.chan 0).state ≠ 0 ∧ s_setclass_scrub.dev.sumGuar ≤ s_setclass_scrub.dev.deliverableWith 1 16) ∧
    (((((s_setclass_scrub.dev.entered 1 q_man w_setclass_scrub 0xC4).setChan 0 { (s_setclass_scrub.dev.entered 1 q_man w_setclass_scrub 0xC4).chan 0 with scrub := 16 }).republish).chan 0).scrub = 16) ∧
    exec (.setclassScrubReserve 1 w_setclass_scrub) s_setclass_scrub = .next (s_setclass_scrub.applied (((s_setclass_scrub.dev.entered 1 q_man w_setclass_scrub 0xC4).setChan 0 { (s_setclass_scrub.dev.entered 1 q_man w_setclass_scrub 0xC4).chan 0 with scrub := 16 }).republish) 1 q_man w_setclass_scrub 0xC4 {} (q_man.head + 1)) :=
  ⟨shows_of (by decide +kernel),
   by decide +kernel,
   by decide +kernel,
   gives_iff.1 (by decide +kernel)⟩

def w_setclass_read : PWord := { phase := true, fmt := 7, mod := 2, ra := 2, dwin := 1, imm := 2 }
def s_setclass_read : State := showing dev0 q_man 0xC4 w_setclass_read
def a_setclass_read : Area := { resv := true, g := 0, base := 1280, len := 32 }
/-- SETCLASS reads a class with its default descriptor (R352). -/
theorem witness_setclass_read :
    Shows s_setclass_read 1 w_setclass_read setclassReadPel q_man s_setclass_read.dev ∧
    (s_setclass_read.dev.entered 1 q_man w_setclass_read 0xC4).ranges 1 q_man [{ win := w_setclass_read.dwin.toNat, off := ((q_man).vals w_setclass_read).a.1.toNat, len := 32, right := 1 }] false false = .ok [a_setclass_read] ∧
    exec (.setclassRead 1 w_setclass_read) s_setclass_read = .next (s_setclass_read.applied ((s_setclass_read.dev.entered 1 q_man w_setclass_read 0xC4).writeAt (s_setclass_read.ctx 1 q_man w_setclass_read) a_setclass_read 0 (clean ((s_setclass_read.dev.class 2).words))) 1 q_man w_setclass_read 0xC4 {} (q_man.head + 1)) :=
  ⟨shows_of (by decide +kernel),
   ok_of (by decide +kernel),
   gives_iff.1 (by decide +kernel)⟩

/-- A policy descriptor with its least values (R244). -/
def d_desc0 : Dev := { dev0 with mem := { resv := [(20, rline 20 0x100010001000000010000000A)] } }

def d_desc : Dev := { d_desc0 with chans := d_cls.chans }

def w_policy_descriptor : PWord := { phase := true, fmt := 7, ra := 2, swin := 1 }
def s_policy_descriptor : State := showing d_desc q_man 0xC6 w_policy_descriptor
def bs_policy_descriptor : List Byte := valOf (Eng.operand (s_policy_descriptor.ctx 1 q_man w_policy_descriptor) q_man w_policy_descriptor ((q_man).vals w_policy_descriptor) 64) (s_policy_descriptor.dev.entered 1 q_man w_policy_descriptor 0xC6)
def e_policy_descriptor : Dev := devOf (Eng.operand (s_policy_descriptor.ctx 1 q_man w_policy_descriptor) q_man w_policy_descriptor ((q_man).vals w_policy_descriptor) 64) (s_policy_descriptor.dev.entered 1 q_man w_policy_descriptor 0xC6)
/-- POLICY sets the descriptor (R244). -/
theorem witness_policy_descriptor :
    Shows s_policy_descriptor 1 w_policy_descriptor policyDescriptorPel q_man s_policy_descriptor.dev ∧
    (Eng.operand (s_policy_descriptor.ctx 1 q_man w_policy_descriptor) q_man w_policy_descriptor ((q_man).vals w_policy_descriptor) 64).run (s_policy_descriptor.dev.entered 1 q_man w_policy_descriptor 0xC6) = .ok (valOf (Eng.operand (s_policy_descriptor.ctx 1 q_man w_policy_descriptor) q_man w_policy_descriptor ((q_man).vals w_policy_descriptor) 64) (s_policy_descriptor.dev.entered 1 q_man w_policy_descriptor 0xC6), devOf (Eng.operand (s_policy_descriptor.ctx 1 q_man w_policy_descriptor) q_man w_policy_descriptor ((q_man).vals w_policy_descriptor) 64) (s_policy_descriptor.dev.entered 1 q_man w_policy_descriptor 0xC6)) ∧
    ((∀ r ∈ descRanges, r.2.2.1 ≤ fieldAt bs_policy_descriptor r.1 r.2.1 ∧ fieldAt bs_policy_descriptor r.1 r.2.1 ≤ r.2.2.2) ∧ fieldAt bs_policy_descriptor 10 2 ≤ e_policy_descriptor.deliverable / 8) ∧
    exec (.policyDescriptor 1 w_policy_descriptor) s_policy_descriptor = .next (s_policy_descriptor.applied (e_policy_descriptor.onFlow fun f => { f with epochMs := 10, shift := 1, readW := 0, writeW := 0, cls := 0, sweepBud := 1, migBud := 1, spillBud := 1, quota0 := 0, quota1 := 0 }) 1 q_man w_policy_descriptor 0xC6 {} (q_man.head + 1)) :=
  ⟨shows_of (by decide +kernel),
   run_of (by decide +kernel),
   by decide +kernel,
   gives_iff.1 (by decide +kernel)⟩

/-- Level 9, spill mode 2, marks 4, 2 and 32. -/
def q_entry9 : Queue := { queue1 with regs := [(1, BitVec.ofNat 64 (9 * 2 ^ 60 + 2 * 2 ^ 58 + 4 * 2 ^ 50 + 2 * 2 ^ 42 + 32 * 2 ^ 34))] }

def w_policy_entry : PWord := { phase := true, fmt := 7, mod := 1, rb := 1, imm := 3 }
def s_policy_entry : State := showing d_gr q_entry9 0xC6 w_policy_entry
/-- POLICY sets the entry of a grotto (R245). -/
theorem witness_policy_entry :
    Shows s_policy_entry 1 w_policy_entry policyGrottoEntryPel q_entry9 s_policy_entry.dev ∧
    exec (.policyGrottoEntry 1 w_policy_entry) s_policy_entry = .next (s_policy_entry.applied (((s_policy_entry.dev.entered 1 q_entry9 w_policy_entry 0xC6).onFlow fun f => { f with entries := [(3, ((q_entry9).vals w_policy_entry).b.1)] }).setGrotto 3 { gr3 with level := 9, spillMode := 2, coldMark := 4, farMark := 2, hotMark := 32 }) 1 q_entry9 w_policy_entry 0xC6 {} (q_entry9.head + 1)) :=
  ⟨shows_of (by decide +kernel),
   gives_iff.1 (by decide +kernel)⟩

/-- A program of two words. -/
def d_prog : Dev := { dev0 with mem := { resv := [(20, rline 20 0x1000000000000000000000000000A2108)] } }

def q_prog : Queue := { queue1 with regs := [(1, 64), (2, 256), (3, 2)] }

def w_policy_program : PWord := { phase := true, fmt := 7, mod := 2, ra := 2, swin := 1, rc := 3 }
def s_policy_program : State := showing d_prog q_prog 0xC6 w_policy_program
def a_policy_program : Area := { resv := true, g := 0, base := 1280, len := 32 }
def ps_policy_program : PBytes := valOf (Eng.read (s_policy_program.ctx 1 q_prog w_policy_program) a_policy_program 0 32) (s_policy_program.dev.entered 1 q_prog w_policy_program 0xC6)
def e_policy_program : Dev := devOf (Eng.read (s_policy_program.ctx 1 q_prog w_policy_program) a_policy_program 0 32) (s_policy_program.dev.entered 1 q_prog w_policy_program 0xC6)
def h_policy_program : Dev := e_policy_program.onFlow fun f => ({ f with builtin := false, program := [0x0A2108, 1], progFault := false } : Flow).extend (sha256 (ps_policy_program.map Prod.fst))
/-- POLICY loads a program of two words (R354, R579). -/
theorem witness_policy_program :
    Shows s_policy_program 1 w_policy_program policyLoadProgramPel q_prog s_policy_program.dev ∧
    (s_policy_program.dev.entered 1 q_prog w_policy_program 0xC6).ranges 1 q_prog [{ win := w_policy_program.swin.toNat, off := ((q_prog).vals w_policy_program).a.1.toNat, len := 32 }] false false = .ok [a_policy_program] ∧
    (Eng.read (s_policy_program.ctx 1 q_prog w_policy_program) a_policy_program 0 32).run (s_policy_program.dev.entered 1 q_prog w_policy_program 0xC6) = .ok (valOf (Eng.read (s_policy_program.ctx 1 q_prog w_policy_program) a_policy_program 0 32) (s_policy_program.dev.entered 1 q_prog w_policy_program 0xC6), devOf (Eng.read (s_policy_program.ctx 1 q_prog w_policy_program) a_policy_program 0 32) (s_policy_program.dev.entered 1 q_prog w_policy_program 0xC6)) ∧
    (ps_policy_program.all (fun u => !u.2) = true) ∧
    exec (.policyLoadProgram 1 w_policy_program) s_policy_program = .next (s_policy_program.applied h_policy_program 1 q_prog w_policy_program 0xC6 {} (q_prog.head + 1)) :=
  ⟨shows_of (by decide +kernel),
   ok_of (by decide +kernel),
   run_of (by decide +kernel),
   by decide +kernel,
   gives_iff.1 (by decide +kernel)⟩

/-- Timeout 500, frame limit 0 (kept), watermark 20; idle time 1,000. -/
def q_limits : Queue := { queue1 with regs := [(1, 0x14000001F4), (3, 1000)] }

def w_policy_limits : PWord := { phase := true, fmt := 7, mod := 3, rb := 1, rc := 3 }
def s_policy_limits : State := showing dev0 q_limits 0xC6 w_policy_limits
/-- POLICY sets limits; 0 keeps one (R354). -/
theorem witness_policy_limits :
    Shows s_policy_limits 1 w_policy_limits policySetLimitsPel q_limits s_policy_limits.dev ∧
    exec (.policySetLimits 1 w_policy_limits) s_policy_limits = .next (s_policy_limits.applied ((s_policy_limits.dev.entered 1 q_limits w_policy_limits 0xC6).onFlow fun f => { f with biTimeout := 500, watermark := 20, idleTime := 1000 }) 1 q_limits w_policy_limits 0xC6 {} (q_limits.head + 1)) :=
  ⟨shows_of (by decide +kernel),
   gives_iff.1 (by decide +kernel)⟩

def w_policy_read : PWord := { phase := true, fmt := 7, mod := 4, ra := 2, dwin := 1 }
def s_policy_read : State := showing dev0 q_man 0xC6 w_policy_read
def a_policy_read : Area := { resv := true, g := 0, base := 1280, len := 16 }
/-- POLICY reads the limits (R354). -/
theorem witness_policy_read :
    Shows s_policy_read 1 w_policy_read policyReadLimitsPel q_man s_policy_read.dev ∧
    (s_policy_read.dev.entered 1 q_man w_policy_read 0xC6).ranges 1 q_man [{ win := w_policy_read.dwin.toNat, off := ((q_man).vals w_policy_read).a.1.toNat, len := 16, right := 1 }] false false = .ok [a_policy_read] ∧
    exec (.policyReadLimits 1 w_policy_read) s_policy_read = .next (s_policy_read.applied ((s_policy_read.dev.entered 1 q_man w_policy_read 0xC6).writeAt (s_policy_read.ctx 1 q_man w_policy_read) a_policy_read 0 (clean (bytesOfNat 8 (s_policy_read.dev.flow.biTimeout + s_policy_read.dev.flow.frameLimit * 65536 + s_policy_read.dev.flow.watermark * 2 ^ 32) ++ bytesOfNat 8 s_policy_read.dev.flow.idleTime))) 1 q_man w_policy_read 0xC6 {} (q_man.head + 1)) :=
  ⟨shows_of (by decide +kernel),
   ok_of (by decide +kernel),
   gives_iff.1 (by decide +kernel)⟩

/-- Port 1 up, with pool 7 at the far end, whose epoch is 9; our own epoch is 4. -/
def d_far : Dev := { dev0 with ev := { pool := some 6, p1 := { state := 2, helloGot := true, peerPool := some 7, peerEpoch := 9 }, rope := { epoch := 4 } } }
def d_mirror : Dev := { d_far with grottos := [(3, { gr3 with mirror := true })] }
def d_roped : Dev := { d_far with ev := { d_far.ev with rope := { state := 1, port := 1, partner := 7, epoch := 10 } } }

def w_rope_form : PWord := { phase := true, fmt := 7, imm := 0x1007 }
def s_rope_form : State := showing d_far q_man 0xC5 w_rope_form
def h_rope_form : Dev := ((((s_rope_form.dev.entered 1 q_man w_rope_form 0xC5).newRope 1 7).onRope fun r => { r with forming := none }).settleRope)
/-- ROPE forms with no grotto to mirror: synced at epoch 10 (R445, R446). -/
theorem witness_rope_form :
    Shows s_rope_form 1 w_rope_form ropeFormPel q_man s_rope_form.dev ∧
    (s_rope_form.dev.evOn 1 = true ∧ h_rope_form.ev.rope.state = 1 ∧ h_rope_form.ev.rope.port = 1 ∧ h_rope_form.ev.rope.partner = 7 ∧ h_rope_form.ev.rope.epoch = 10 ∧ h_rope_form.ev.rope.paired = [] ∧ h_rope_form.grottos = s_rope_form.dev.grottos) ∧
    exec (.ropeForm 1 w_rope_form) s_rope_form = .next (s_rope_form.applied h_rope_form 1 q_man w_rope_form 0xC5 { r1 := some 10 } (q_man.head + 1)) :=
  ⟨shows_of (by decide +kernel),
   by decide +kernel,
   gives_iff.1 (by decide +kernel)⟩

def w_rope_form_pairs : PWord := { phase := true, fmt := 7, imm := 0x1007 }
def s_rope_form_pairs : State := showing d_mirror q_man 0xC5 w_rope_form_pairs
/-- ROPE forms with a mirrored grotto: it sends a pair message (R445). -/
theorem witness_rope_form_pairs :
    Shows s_rope_form_pairs 1 w_rope_form_pairs ropeFormPel q_man s_rope_form_pairs.dev ∧
    exec (.ropeForm 1 w_rope_form_pairs) s_rope_form_pairs = .next (s_rope_form_pairs.applied ((((s_rope_form_pairs.dev.entered 1 q_man w_rope_form_pairs 0xC5).newRope 1 7).onRope fun k => { k with forming := some (1, 1, 0) }).evSend 1 ((((s_rope_form_pairs.dev.entered 1 q_man w_rope_form_pairs 0xC5).newRope 1 7).onRope fun k => { k with forming := some (1, 1, 0) }).pairMsg 3)) 1 q_man w_rope_form_pairs 0xC5 {} (q_man.head + 1)) :=
  ⟨shows_of (by decide +kernel),
   gives_iff.1 (by decide +kernel)⟩

def w_rope_remove_none : PWord := { phase := true, fmt := 7, mod := 1, imm := 0x1000 }
def s_rope_remove_none : State := showing d_far q_man 0xC5 w_rope_remove_none
/-- ROPE remove with no rope (R353). -/
theorem witness_rope_remove_none :
    Shows s_rope_remove_none 1 w_rope_remove_none ropeRemovePel q_man s_rope_remove_none.dev ∧
    exec (.ropeRemove 1 w_rope_remove_none) s_rope_remove_none = .next (s_rope_remove_none.applied (s_rope_remove_none.dev.entered 1 q_man w_rope_remove_none 0xC5) 1 q_man w_rope_remove_none 0xC5 {} (q_man.head + 1)) :=
  ⟨shows_of (by decide +kernel),
   gives_iff.1 (by decide +kernel)⟩

def w_rope_remove : PWord := { phase := true, fmt := 7, mod := 1, imm := 0x1000 }
def s_rope_remove : State := showing d_roped q_man 0xC5 w_rope_remove
/-- ROPE remove ends the rope and keeps its epoch (R448). -/
theorem witness_rope_remove :
    Shows s_rope_remove 1 w_rope_remove ropeRemovePel q_man s_rope_remove.dev ∧
    (s_rope_remove.dev.evOn 1 = true ∧ s_rope_remove.dev.pages.mirrorWait = [] ∧ s_rope_remove.dev.ev.rope.pages = [] ∧ s_rope_remove.dev.pages.fars = [] ∧ s_rope_remove.dev.slices.slotWait = []) ∧
    exec (.ropeRemove 1 w_rope_remove) s_rope_remove = .next (s_rope_remove.applied ((((s_rope_remove.dev.entered 1 q_man w_rope_remove 0xC5).evSend 1 (.ropeControl 1 0 0 0 0 0)).owes 6 0).onRope fun k => { epoch := k.epoch, next := k.next, marks := k.marks }) 1 q_man w_rope_remove 0xC5 {} (q_man.head + 1)) :=
  ⟨shows_of (by decide +kernel),
   by decide +kernel,
   gives_iff.1 (by decide +kernel)⟩

def w_rope_permit : PWord := { phase := true, fmt := 7, mod := 2, imm := 0x1007 }
def s_rope_permit : State := showing d_far q_man 0xC5 w_rope_permit
/-- ROPE permits spill (R258). -/
theorem witness_rope_permit :
    Shows s_rope_permit 1 w_rope_permit ropePermitSpillPel q_man s_rope_permit.dev ∧
    exec (.ropePermitSpill 1 w_rope_permit) s_rope_permit = .next (s_rope_permit.applied ((s_rope_permit.dev.entered 1 q_man w_rope_permit 0xC5).modEv 1 fun k => { k with spillOk := true, spillPool := 7 }) 1 q_man w_rope_permit 0xC5 {} (q_man.head + 1)) :=
  ⟨shows_of (by decide +kernel),
   gives_iff.1 (by decide +kernel)⟩

def w_rope_withdraw : PWord := { phase := true, fmt := 7, mod := 3, imm := 0x1000 }
def s_rope_withdraw : State := showing d_far q_man 0xC5 w_rope_withdraw
/-- ROPE withdraws spill (R353). -/
theorem witness_rope_withdraw :
    Shows s_rope_withdraw 1 w_rope_withdraw ropeWithdrawSpillPel q_man s_rope_withdraw.dev ∧
    (s_rope_withdraw.dev.remotePages 1 = []) ∧
    exec (.ropeWithdrawSpill 1 w_rope_withdraw) s_rope_withdraw = .next (s_rope_withdraw.applied ((s_rope_withdraw.dev.entered 1 q_man w_rope_withdraw 0xC5).modEv 1 fun k => { k with spillOk := false }) 1 q_man w_rope_withdraw 0xC5 {} (q_man.head + 1)) :=
  ⟨shows_of (by decide +kernel),
   by decide +kernel,
   gives_iff.1 (by decide +kernel)⟩

def w_rope_rebuild : PWord := { phase := true, fmt := 7, mod := 4, imm := 0x1000 }
def s_rope_rebuild : State := showing d_roped q_man 0xC5 w_rope_rebuild
/-- ROPE starts a rebuild of a rope that pairs nothing (R458). -/
theorem witness_rope_rebuild :
    Shows s_rope_rebuild 1 w_rope_rebuild ropeStartRebuildPel q_man s_rope_rebuild.dev ∧
    exec (.ropeStartRebuild 1 w_rope_rebuild) s_rope_rebuild = .next (s_rope_rebuild.applied (((s_rope_rebuild.dev.entered 1 q_man w_rope_rebuild 0xC5).onRope fun k => { k with state := 2 }).checkRebuilds) 1 q_man w_rope_rebuild 0xC5 {} (q_man.head + 1)) :=
  ⟨shows_of (by decide +kernel),
   gives_iff.1 (by decide +kernel)⟩

def w_power_permission : PWord := { phase := true, fmt := 7, imm := 1 }
def s_power_permission : State := showing dev0 q_man 0xC7 w_power_permission
/-- POWER permits DEEP (R355). -/
theorem witness_power_permission :
    Shows s_power_permission 1 w_power_permission powerDeepPermissionPel q_man s_power_permission.dev ∧
    exec (.powerDeepPermission 1 w_power_permission) s_power_permission = .next (s_power_permission.applied ((s_power_permission.dev.entered 1 q_man w_power_permission 0xC7).onPower fun p => { p with deepOk := true }) 1 q_man w_power_permission 0xC7 {} (q_man.head + 1)) :=
  ⟨shows_of (by decide +kernel),
   gives_iff.1 (by decide +kernel)⟩

def d_deep : Dev := { dev0 with power := { dev0.power with deepOk := true } }

def w_power_deep : PWord := { phase := true, fmt := 7, mod := 1 }
def s_power_deep : State := showing d_deep q_man 0xC7 w_power_deep
/-- POWER starts the entry to DEEP (R527). -/
theorem witness_power_deep :
    Shows s_power_deep 1 w_power_deep powerEnterDeepPel q_man s_power_deep.dev ∧
    (s_power_deep.dev.power.mode = .run ∧ s_power_deep.dev.power.deepOk = true ∧ (s_power_deep.dev.entered 1 q_man w_power_deep 0xC7).idleBut (some 1) = true ∧ (s_power_deep.dev.entered 1 q_man w_power_deep 0xC7).dirQuiet = true ∧ (s_power_deep.dev.entered 1 q_man w_power_deep 0xC7).exitFits = true) ∧
    exec (.powerEnterDeep 1 w_power_deep) s_power_deep = .next (s_power_deep.applied ((s_power_deep.dev.entered 1 q_man w_power_deep 0xC7).onPower fun p => { p with entering := 1, latch := none, deepIssuer := some (1, 0) }) 1 q_man w_power_deep 0xC7 {} (q_man.head + 1)) :=
  ⟨shows_of (by decide +kernel),
   by decide +kernel,
   gives_iff.1 (by decide +kernel)⟩

def w_power_cap : PWord := { phase := true, fmt := 7, mod := 2, imm := 80 }
def s_power_cap : State := showing dev0 q_man 0xC7 w_power_cap
/-- POWER sets a cap of 80 W, the least (R545). -/
theorem witness_power_cap :
    Shows s_power_cap 1 w_power_cap powerCapPel q_man s_power_cap.dev ∧
    exec (.powerCap 1 w_power_cap) s_power_cap = .next (s_power_cap.applied ((s_power_cap.dev.entered 1 q_man w_power_cap 0xC7).onPower fun p => { p with cap := 80 }) 1 q_man w_power_cap 0xC7 {} (q_man.head + 1)) :=
  ⟨shows_of (by decide +kernel),
   gives_iff.1 (by decide +kernel)⟩

def w_power_bias : PWord := { phase := true, fmt := 7, mod := 3, imm := 1 }
def s_power_bias : State := showing dev0 q_man 0xC7 w_power_bias
/-- POWER grants forward bias (R544). -/
theorem witness_power_bias :
    Shows s_power_bias 1 w_power_bias powerForwardBiasPel q_man s_power_bias.dev ∧
    (s_power_bias.dev.power.mode = .run ∧ s_power_bias.dev.power.junction ≤ 164 ∧ s_power_bias.dev.power.estimate < s_power_bias.dev.power.cap) ∧
    exec (.powerForwardBias 1 w_power_bias) s_power_bias = .next (s_power_bias.applied ((s_power_bias.dev.entered 1 q_man w_power_bias 0xC7).onPower fun p => { p with fwdOk := true, biasHot := false, fwdOn := true }) 1 q_man w_power_bias 0xC7 {} (q_man.head + 1)) :=
  ⟨shows_of (by decide +kernel),
   by decide +kernel,
   gives_iff.1 (by decide +kernel)⟩

def q_flip : Queue := { queue1 with regs := [(1, 3), (3, 5)] }
def d_armed : Dev := { dev0 with faults := { dev0.faults with armed := [{ unit := 0x386, word := 1, flip := none }] } }

def w_inject_flip : PWord := { phase := true, fmt := 7, rb := 1, rc := 3, imm := 0x2022F }
def s_inject_flip : State := showing dev0 q_flip 0xC8 w_inject_flip
/-- INJECT arms a flip mask on the last mover or slice unit (R356, R486). -/
theorem witness_inject_flip :
    Shows s_inject_flip 1 w_inject_flip injectFlipMaskPel q_flip s_inject_flip.dev ∧
    (s_inject_flip.dev.armedOn 0x22F = none) ∧
    exec (.injectFlipMask 1 w_inject_flip) s_inject_flip = .next (s_inject_flip.applied ((s_inject_flip.dev.entered 1 q_flip w_inject_flip 0xC8).onFaults fun f => { f with armed := [{ unit := 0x22F, word := 2, flip := some (3, 5) }] }) 1 q_flip w_inject_flip 0xC8 {} (q_flip.head + 1)) :=
  ⟨shows_of (by decide +kernel),
   by decide +kernel,
   gives_iff.1 (by decide +kernel)⟩

def w_inject_invert : PWord := { phase := true, fmt := 7, mod := 1, imm := 0x100 }
def s_inject_invert : State := showing dev0 q_man 0xC8 w_inject_invert
/-- INJECT arms inverted check bits on the first injectable unit (R356). -/
theorem witness_inject_invert :
    Shows s_inject_invert 1 w_inject_invert injectInvertedCheckBitsPel q_man s_inject_invert.dev ∧
    exec (.injectInvertedCheckBits 1 w_inject_invert) s_inject_invert = .next (s_inject_invert.applied ((s_inject_invert.dev.entered 1 q_man w_inject_invert 0xC8).onFaults fun f => { f with armed := [{ unit := 0x100, word := 0, flip := none }] }) 1 q_man w_inject_invert 0xC8 {} (q_man.head + 1)) :=
  ⟨shows_of (by decide +kernel),
   gives_iff.1 (by decide +kernel)⟩

def w_inject_disarm : PWord := { phase := true, fmt := 7, mod := 2, imm := 0x386 }
def s_inject_disarm : State := showing d_armed q_man 0xC8 w_inject_disarm
/-- INJECT disarms (R356). -/
theorem witness_inject_disarm :
    Shows s_inject_disarm 1 w_inject_disarm injectDisarmPel q_man s_inject_disarm.dev ∧
    exec (.injectDisarm 1 w_inject_disarm) s_inject_disarm = .next (s_inject_disarm.applied ((s_inject_disarm.dev.entered 1 q_man w_inject_disarm 0xC8).onFaults fun f => { f with armed := [] }) 1 q_man w_inject_disarm 0xC8 {} (q_man.head + 1)) :=
  ⟨shows_of (by decide +kernel),
   gives_iff.1 (by decide +kernel)⟩

def d_second : Dev := { dev0 with power := { dev0.power with ticks := 32768 } }
def d_count : Dev := { d_second with cnt := { cnt := [(7, 3)], seq := 4 } }

def w_survey : PWord := { phase := true, fmt := 7 }
def s_survey : State := showing d_count q_man 0xC9 w_survey
/-- SURVEY latches the counters; it is survey 5, at one second (R519). -/
theorem witness_survey :
    Shows s_survey 1 w_survey surveyPel q_man s_survey.dev ∧
    (mget s_survey.dev.pages.farBuf (surveyKey 1 q_man.head) = none) ∧
    exec (.survey 1 w_survey) s_survey = .next (s_survey.applied ((s_survey.dev.entered 1 q_man w_survey 0xC9).onCnt fun c => { c with hold := c.cnt, surveyAt := 1000000000, pendingSurvey := true }) 1 q_man w_survey 0xC9 { r0 := some 5, r1 := some 1000000000 } (q_man.head + 1)) :=
  ⟨shows_of (by decide +kernel),
   by decide +kernel,
   gives_iff.1 (by decide +kernel)⟩

def dimm1 : Dimm := { density := 16, width := 4, pkgRanks := 1, stack := 1, speed := 8800 }
def d_spare : Dev := { dev0 with chans := [(0, { state := 3, slot0 := some dimm1, in0 := true, ranks := 1, frames := 8388608 })] }

def w_spare : PWord := { phase := true, fmt := 7, imm := BitVec.ofNat 64 (9 * 2 ^ 32 + 5 * 2 ^ 14) }
def s_spare : State := showing d_spare q_man 0xCA w_spare
/-- SPARE notes a hard repair of row 5 of device 9 (R152). -/
theorem witness_spare :
    Shows s_spare 1 w_spare sparePel q_man s_spare.dev ∧
    (s_spare.dev.fwUp = true ∧ (s_spare.dev.chan 0).state = 3 ∧ (s_spare.dev.chan 0).hardUsed = [] ∧ s_spare.dev.rankBacked 0 (spareRank (s_spare.dev.chan 0) w_spare) = false ∧ spareInside (s_spare.dev.chan 0) w_spare = true) ∧
    exec (.spare 1 w_spare) s_spare = .next (s_spare.applied (((s_spare.dev.entered 1 q_man w_spare 0xCA).setChan 0 { s_spare.dev.chan 0 with hardMade := 1, hardUsed := [spareKey (s_spare.dev.chan 0) w_spare] }).owes 4 0) 1 q_man w_spare 0xCA {} (q_man.head + 1)) :=
  ⟨shows_of (by decide +kernel),
   by decide +kernel,
   gives_iff.1 (by decide +kernel)⟩

def w_record : PWord := { phase := true, fmt := 7, mod := 1, imm := 3 }
def s_record : State := showing dev0 q_man 0xCB w_record
/-- RECORD of the port widths is accepted (R359). -/
theorem witness_record :
    Shows s_record 1 w_record recordPel q_man s_record.dev ∧
    (s_record.dev.fwUp = true) ∧
    exec (.record 1 w_record) s_record = .next (s_record.applied (s_record.dev.entered 1 q_man w_record 0xCB) 1 q_man w_record 0xCB {} (q_man.head + 1)) :=
  ⟨shows_of (by decide +kernel),
   by decide +kernel,
   gives_iff.1 (by decide +kernel)⟩

end Sys2Proof.Tests
end

