-- ==== Sys2Proof/Tests/Manager.lean ====
section
/-!
SUPPORT. Tests of the mailbox and of the FM API commands.
-/
namespace Sys2Proof.Tests

open Sys2Proof.Machine

set_option Elab.async false

/-- A capacity grotto: one committed unit and four elastic ones, of which 2 and 3 are accepted and 1 is offered. -/
def d_mail : Dev := { d_host with
  grottos := [(3, { state := 1, db := true, keyId := 1, elasticKeyId := 2, ownerLink := 1, ownerLd := 2, committed := 1, elasticMax := 4, chanMask := 0xFFFF, mapBase := 0x10000, attaches := [{ link := 1, ld := 2, base := 0 }], offered := [(1, 1)], accepted := [(2, 2)] })]
  mem := { phys := 600000, pools := [(0, { zeroed := [900], pending := [(1000, 500000)] })] }, chans := [(0, { state := 3, frames := 500000, ranks := 1 })] }
def rec1 : FaultRec := { fine := 0, lamp := 1, code := 0x1003, cls := 1, att := 0, akind := 0, grotto := none, seq := 0, unit := 0, addr := 0, detail := 0 }
def log1 : LogRec := { kind := .dramEvent, fault := rec1, dpa := some 320 }
def d_logs : Dev := { d_mail with lds := [(ldKey 1 2, { vecBase := some 0, policy := 3, logs := [(1, { recs := [log1, log1], overflow := 4, first := 5, last := 6 })], bgDone := some (0x4304, .success), poison := [{ dpaLine := 8, count := 4, source := 2 }], scan := [(64, 1)] })] }
def d_poison : Dev := { d_mail with lds := [(ldKey 1 2, { vecBase := some 0, injectOk := true })] }
/-- The program of a command stands at the head of queue 0 of port 1. -/
def withMail (d : Dev) (c : Instr) : Dev := { d with
  lds := mmod d.lds (ldKey 1 2) {} fun x => { x with mboxWait := some (c, false) }
  queues := { d.queues with
    qs := mset d.queues.qs 8193 { ctx := some 0, tail := 1 }
    q0Runs := [(1, [{ writer := .dispatcher 1 2, words := [encodePelmic 3 {}], start := 0 }])] } }
/-- A program that answers at once: what it does, its code and its payload. -/
abbrev reports (d : Dev) (c : Instr) (f : Dev → Dev) (code : CmdCode) (payload : List Nat) : Prop :=
  (withMail d c).MailRuns 1 2 c ∧ (withMail d c).Still ∧ (withMail d c).outstanding (.mbox 1 2) = false ∧
  exec (.mailboxResult 1 2) { dev := withMail d c } = .next { dev :=
    ((((f (withMail d c)).answered 1 2 c code payload).replied 1 2 code payload).runBg 1 2).after }
/-- A program that acts, and whose writes, if any, are complete at once or not. -/
abbrev acts (d : Dev) (c : Instr) (f : Dev → Dev) (code : CmdCode) (late : Bool) : Prop :=
  (withMail d c).MailRuns 1 2 c ∧ (((f (withMail d c)).answered 1 2 c code []).after.ld 1 2).mbox = some (c, code, []) ∧
  ((f (withMail d c)).answered 1 2 c code []).after.outstanding (.mbox 1 2) = late ∧
  exec (.mailboxResult 1 2) { dev := withMail d c } = .next { dev := ((if late then ((f (withMail d c)).answered 1 2 c code []).after
    else ((f (withMail d c)).answered 1 2 c code []).after.replied 1 2 code []).runBg 1 2).after }

def s_mail_takes : State := { dev := d_mail }
/-- Every command is taken by a free mailbox, and waits for queue 0 (R26, R62). -/
theorem witness_mail_takes :
    s_mail_takes.dev.MailFree 1 2 0 ∧
    exec (.identify 1 2) s_mail_takes = .next ({ s_mail_takes with dev := s_mail_takes.dev.posted 1 2 (.identify 1 2) }) ∧
    exec (.backgroundOperationStatus 1 2) s_mail_takes = .next ({ s_mail_takes with dev := s_mail_takes.dev.posted 1 2 (.backgroundOperationStatus 1 2) }) ∧
    exec (.getEventRecords 1 2 1) s_mail_takes = .next ({ s_mail_takes with dev := s_mail_takes.dev.posted 1 2 (.getEventRecords 1 2 1) }) ∧
    exec (.clearEventRecords 1 2 1 2) s_mail_takes = .next ({ s_mail_takes with dev := s_mail_takes.dev.posted 1 2 (.clearEventRecords 1 2 1 2) }) ∧
    exec (.getEventInterruptPolicy 1 2) s_mail_takes = .next ({ s_mail_takes with dev := s_mail_takes.dev.posted 1 2 (.getEventInterruptPolicy 1 2) }) ∧
    exec (.setEventInterruptPolicy 1 2 9) s_mail_takes = .next ({ s_mail_takes with dev := s_mail_takes.dev.posted 1 2 (.setEventInterruptPolicy 1 2 9) }) ∧
    exec (.identifyMemoryDevice 1 2) s_mail_takes = .next ({ s_mail_takes with dev := s_mail_takes.dev.posted 1 2 (.identifyMemoryDevice 1 2) }) ∧
    exec (.getPoisonList 1 2 640 64) s_mail_takes = .next ({ s_mail_takes with dev := s_mail_takes.dev.posted 1 2 (.getPoisonList 1 2 640 64) }) ∧
    exec (.injectPoison 1 2 320) s_mail_takes = .next ({ s_mail_takes with dev := s_mail_takes.dev.posted 1 2 (.injectPoison 1 2 320) }) ∧
    exec (.clearPoison 1 2 320 7) s_mail_takes = .next ({ s_mail_takes with dev := s_mail_takes.dev.posted 1 2 (.clearPoison 1 2 320 7) }) ∧
    exec (.getScanMediaCapabilities 1 2 0 64) s_mail_takes = .next ({ s_mail_takes with dev := s_mail_takes.dev.posted 1 2 (.getScanMediaCapabilities 1 2 0 64) }) ∧
    exec (.scanMedia 1 2 0 64) s_mail_takes = .next ({ s_mail_takes with dev := s_mail_takes.dev.posted 1 2 (.scanMedia 1 2 0 64) }) ∧
    exec (.getScanMediaResults 1 2) s_mail_takes = .next ({ s_mail_takes with dev := s_mail_takes.dev.posted 1 2 (.getScanMediaResults 1 2) }) ∧
    exec (.sanitize 1 2) s_mail_takes = .next ({ s_mail_takes with dev := s_mail_takes.dev.posted 1 2 (.sanitize 1 2) }) ∧
    exec (.secureErase 1 2) s_mail_takes = .next ({ s_mail_takes with dev := s_mail_takes.dev.posted 1 2 (.secureErase 1 2) }) ∧
    exec (.getDynamicCapacityConfiguration 1 2) s_mail_takes = .next ({ s_mail_takes with dev := s_mail_takes.dev.posted 1 2 (.getDynamicCapacityConfiguration 1 2) }) ∧
    exec (.getDynamicCapacityExtentList 1 2 0 5) s_mail_takes = .next ({ s_mail_takes with dev := s_mail_takes.dev.posted 1 2 (.getDynamicCapacityExtentList 1 2 0 5) }) ∧
    exec (.addDynamicCapacityResponse 1 2 []) s_mail_takes = .next ({ s_mail_takes with dev := s_mail_takes.dev.posted 1 2 (.addDynamicCapacityResponse 1 2 []) }) ∧
    exec (.releaseDynamicCapacity 1 2 0 64) s_mail_takes = .next ({ s_mail_takes with dev := s_mail_takes.dev.posted 1 2 (.releaseDynamicCapacity 1 2 0 64) }) ∧
    exec (.unsupportedMailboxCommand 1 2 0x9999) s_mail_takes = .next ({ s_mail_takes with dev := s_mail_takes.dev.posted 1 2 (.unsupportedMailboxCommand 1 2 0x9999) }) :=
  ⟨⟨⟨by decide +kernel, by decide +kernel⟩, by decide +kernel, by decide +kernel, by decide +kernel, by decide +kernel⟩,
   gives_iff.1 (by decide +kernel),
   gives_iff.1 (by decide +kernel),
   gives_iff.1 (by decide +kernel),
   gives_iff.1 (by decide +kernel),
   gives_iff.1 (by decide +kernel),
   gives_iff.1 (by decide +kernel),
   gives_iff.1 (by decide +kernel),
   gives_iff.1 (by decide +kernel),
   gives_iff.1 (by decide +kernel),
   gives_iff.1 (by decide +kernel),
   gives_iff.1 (by decide +kernel),
   gives_iff.1 (by decide +kernel),
   gives_iff.1 (by decide +kernel),
   gives_iff.1 (by decide +kernel),
   gives_iff.1 (by decide +kernel),
   gives_iff.1 (by decide +kernel),
   gives_iff.1 (by decide +kernel),
   gives_iff.1 (by decide +kernel),
   gives_iff.1 (by decide +kernel),
   gives_iff.1 (by decide +kernel)⟩

def s_mail_full : State := { dev := { d_mail with lds := [(ldKey 1 2, { vecBase := some 0, mboxWait := some (.identify 1 2, false) })] } }
/-- A command is not taken while one waits, or a result stands (R62). -/
theorem witness_mail_full :
    s_mail_full.dev.inRun ∧
    (s_mail_full.dev.ldOpen 1 2 = true ∧ (s_mail_full.dev.link 1).misrouted 0 = false) ∧
    exec (.identify 1 2) s_mail_full = .next s_mail_full ∧
    exec (.backgroundOperationStatus 1 2) s_mail_full = .next s_mail_full ∧
    exec (.getEventRecords 1 2 1) s_mail_full = .next s_mail_full ∧
    exec (.clearEventRecords 1 2 1 2) s_mail_full = .next s_mail_full ∧
    exec (.getEventInterruptPolicy 1 2) s_mail_full = .next s_mail_full ∧
    exec (.setEventInterruptPolicy 1 2 9) s_mail_full = .next s_mail_full ∧
    exec (.identifyMemoryDevice 1 2) s_mail_full = .next s_mail_full ∧
    exec (.getPoisonList 1 2 640 64) s_mail_full = .next s_mail_full ∧
    exec (.injectPoison 1 2 320) s_mail_full = .next s_mail_full ∧
    exec (.clearPoison 1 2 320 7) s_mail_full = .next s_mail_full ∧
    exec (.getScanMediaCapabilities 1 2 0 64) s_mail_full = .next s_mail_full ∧
    exec (.scanMedia 1 2 0 64) s_mail_full = .next s_mail_full ∧
    exec (.getScanMediaResults 1 2) s_mail_full = .next s_mail_full ∧
    exec (.sanitize 1 2) s_mail_full = .next s_mail_full ∧
    exec (.secureErase 1 2) s_mail_full = .next s_mail_full ∧
    exec (.getDynamicCapacityConfiguration 1 2) s_mail_full = .next s_mail_full ∧
    exec (.getDynamicCapacityExtentList 1 2 0 5) s_mail_full = .next s_mail_full ∧
    exec (.addDynamicCapacityResponse 1 2 []) s_mail_full = .next s_mail_full ∧
    exec (.releaseDynamicCapacity 1 2 0 64) s_mail_full = .next s_mail_full ∧
    exec (.unsupportedMailboxCommand 1 2 0x9999) s_mail_full = .next s_mail_full :=
  ⟨⟨by decide +kernel, by decide +kernel⟩,
   by decide +kernel,
   gives_iff.1 (by decide +kernel),
   gives_iff.1 (by decide +kernel),
   gives_iff.1 (by decide +kernel),
   gives_iff.1 (by decide +kernel),
   gives_iff.1 (by decide +kernel),
   gives_iff.1 (by decide +kernel),
   gives_iff.1 (by decide +kernel),
   gives_iff.1 (by decide +kernel),
   gives_iff.1 (by decide +kernel),
   gives_iff.1 (by decide +kernel),
   gives_iff.1 (by decide +kernel),
   gives_iff.1 (by decide +kernel),
   gives_iff.1 (by decide +kernel),
   gives_iff.1 (by decide +kernel),
   gives_iff.1 (by decide +kernel),
   gives_iff.1 (by decide +kernel),
   gives_iff.1 (by decide +kernel),
   gives_iff.1 (by decide +kernel),
   gives_iff.1 (by decide +kernel),
   gives_iff.1 (by decide +kernel)⟩

def s_mail_result_stands : State := { dev := { d_mail with lds := [(ldKey 1 2, { vecBase := some 0, mbox := some (.identify 1 2, .success, [5]) })] } }
/-- A command is not taken while a result stands (R62). -/
theorem witness_mail_result_stands :
    s_mail_result_stands.dev.inRun ∧
    (s_mail_result_stands.dev.ldOpen 1 2 = true ∧ (s_mail_result_stands.dev.link 1).misrouted 0 = false) ∧
    exec (.identify 1 2) s_mail_result_stands = .next s_mail_result_stands :=
  ⟨⟨by decide +kernel, by decide +kernel⟩,
   by decide +kernel,
   gives_iff.1 (by decide +kernel)⟩

/-- Identity, event logs and their policy (R62, R65, R66). -/
theorem witness_mail_logs :
    reports d_logs (.identify 1 2) (id) .success [0x1664] ∧
    reports d_logs (.getEventRecords 1 2 1) (id) .success ([1, 4, 5, 6, 2, 0] ++ [log1, log1].flatMap LogRec.words) ∧
    reports d_logs (.getEventRecords 1 2 4) (id) .success [4, 0, 0, 0, 0, 0] ∧
    reports d_logs (.clearEventRecords 1 2 1 1) (fun d => d.setLd 1 2 { d.ld 1 2 with logs := [(1, { recs := [log1], overflow := 4, first := 5, last := 6 })] }) .success [] ∧
    reports d_logs (.clearEventRecords 1 2 1 2) (fun d => d.setLd 1 2 { d.ld 1 2 with logs := [(1, {})] }) .success [] ∧
    reports d_logs (.getEventInterruptPolicy 1 2) (id) .success [3] ∧
    reports d_logs (.setEventInterruptPolicy 1 2 9) (fun d => d.setLd 1 2 { d.ld 1 2 with policy := 9 }) .success [] ∧
    reports d_logs (.unsupportedMailboxCommand 1 2 0x9999) (id) .unsupported [] :=
  ⟨⟨⟨⟨by decide +kernel, by decide +kernel⟩, by decide +kernel, by decide +kernel⟩, by constructor <;> decide +kernel, by decide +kernel, gives_iff.1 (by decide +kernel)⟩,
   ⟨⟨⟨by decide +kernel, by decide +kernel⟩, by decide +kernel, by decide +kernel⟩, by constructor <;> decide +kernel, by decide +kernel, gives_iff.1 (by decide +kernel)⟩,
   ⟨⟨⟨by decide +kernel, by decide +kernel⟩, by decide +kernel, by decide +kernel⟩, by constructor <;> decide +kernel, by decide +kernel, gives_iff.1 (by decide +kernel)⟩,
   ⟨⟨⟨by decide +kernel, by decide +kernel⟩, by decide +kernel, by decide +kernel⟩, by constructor <;> decide +kernel, by decide +kernel, gives_iff.1 (by decide +kernel)⟩,
   ⟨⟨⟨by decide +kernel, by decide +kernel⟩, by decide +kernel, by decide +kernel⟩, by constructor <;> decide +kernel, by decide +kernel, gives_iff.1 (by decide +kernel)⟩,
   ⟨⟨⟨by decide +kernel, by decide +kernel⟩, by decide +kernel, by decide +kernel⟩, by constructor <;> decide +kernel, by decide +kernel, gives_iff.1 (by decide +kernel)⟩,
   ⟨⟨⟨by decide +kernel, by decide +kernel⟩, by decide +kernel, by decide +kernel⟩, by constructor <;> decide +kernel, by decide +kernel, gives_iff.1 (by decide +kernel)⟩,
   ⟨⟨⟨by decide +kernel, by decide +kernel⟩, by decide +kernel, by decide +kernel⟩, by constructor <;> decide +kernel, by decide +kernel, gives_iff.1 (by decide +kernel)⟩⟩

/-- Memory, poison list, scan capabilities and results, capacity and extents (R47, R62, R477). -/
theorem witness_mail_media :
    reports d_logs (.identifyMemoryDevice 1 2) (id) .success [1, 1, 0, 0, 256, 64] ∧
    reports d_logs (.getPoisonList 1 2 640 64) (id) .success [0, 0, 640, 1, 2] ∧
    reports d_logs (.getScanMediaCapabilities 1 2 0 (2 ^ 36)) (id) .success [1000] ∧
    reports d_logs (.getScanMediaResults 1 2) (id) .success [64, 1] ∧
    reports d_logs (.getDynamicCapacityConfiguration 1 2) (id) .success [unitBytes, 4 * unitBytes, unitBytes] ∧
    reports d_logs (.getDynamicCapacityExtentList 1 2 0 5) (id) .success [1, 2 * unitBytes, 2 * unitBytes, 0, 0] :=
  ⟨⟨⟨⟨by decide +kernel, by decide +kernel⟩, by decide +kernel, by decide +kernel⟩, by constructor <;> decide +kernel, by decide +kernel, gives_iff.1 (by decide +kernel)⟩,
   ⟨⟨⟨by decide +kernel, by decide +kernel⟩, by decide +kernel, by decide +kernel⟩, by constructor <;> decide +kernel, by decide +kernel, gives_iff.1 (by decide +kernel)⟩,
   ⟨⟨⟨by decide +kernel, by decide +kernel⟩, by decide +kernel, by decide +kernel⟩, by constructor <;> decide +kernel, by decide +kernel, gives_iff.1 (by decide +kernel)⟩,
   ⟨⟨⟨by decide +kernel, by decide +kernel⟩, by decide +kernel, by decide +kernel⟩, by constructor <;> decide +kernel, by decide +kernel, gives_iff.1 (by decide +kernel)⟩,
   ⟨⟨⟨by decide +kernel, by decide +kernel⟩, by decide +kernel, by decide +kernel⟩, by constructor <;> decide +kernel, by decide +kernel, gives_iff.1 (by decide +kernel)⟩,
   ⟨⟨⟨by decide +kernel, by decide +kernel⟩, by decide +kernel, by decide +kernel⟩, by constructor <;> decide +kernel, by decide +kernel, gives_iff.1 (by decide +kernel)⟩⟩

/-- A scan of line 5, of which half is done, is under way; a page is not at hand, so that it waits. -/
def d_scan : Dev := { d_mail with lds := [(ldKey 1 2, { vecBase := some 0, background := some (.scanMedia 1 2 0 128), bgAt := 1, bgAll := 2 })] }
/-- A sanitize whose one frame is zeroed. -/
def d_clean : Dev := { d_mail with lds := [(ldKey 1 2, { vecBase := some 0, background := some (.sanitize 1 2), bgFrames := some [900], bgAt := 3, bgAll := 4 })] }

/-- Background status: none so far, one that ended, and a scan and a sanitize under way (R62, R65). -/
theorem witness_mail_status :
    reports d_mail (.backgroundOperationStatus 1 2) (id) .success [0, 0, 100, 0] ∧
    reports d_logs (.backgroundOperationStatus 1 2) (id) .success [0, 0x4304, 100, 0] ∧
    reports d_scan (.backgroundOperationStatus 1 2) (id) .success [1, 0x4304, 50, 0] ∧
    reports d_clean (.backgroundOperationStatus 1 2) (id) .success [1, 0x4400, 75, 0] :=
  ⟨⟨⟨⟨by decide +kernel, by decide +kernel⟩, by decide +kernel, by decide +kernel⟩, by constructor <;> decide +kernel, by decide +kernel, gives_iff.1 (by decide +kernel)⟩,
   ⟨⟨⟨by decide +kernel, by decide +kernel⟩, by decide +kernel, by decide +kernel⟩, by constructor <;> decide +kernel, by decide +kernel, gives_iff.1 (by decide +kernel)⟩,
   ⟨⟨⟨by decide +kernel, by decide +kernel⟩, by decide +kernel, by decide +kernel⟩, by constructor <;> decide +kernel, by decide +kernel, gives_iff.1 (by decide +kernel)⟩,
   ⟨⟨⟨by decide +kernel, by decide +kernel⟩, by decide +kernel, by decide +kernel⟩, by constructor <;> decide +kernel, by decide +kernel, gives_iff.1 (by decide +kernel)⟩⟩

/-- Poison of a line: not enabled, past 64 lines, injected; cleared, of a line that does not exist, of no line (R63). -/
theorem witness_mail_poison :
    (d_poison.dpaCase 1 2 320 = .ok (3, 320)) ∧
    acts d_mail (.injectPoison 1 2 320) (id) .unsupported false ∧
    acts { d_poison with lds := [(ldKey 1 2, { vecBase := some 0, injectOk := true, poison := [{ dpaLine := 8, count := 64, source := 3 }] })] } (.injectPoison 1 2 320) (id) .injectLimit false ∧
    acts d_poison (.injectPoison 1 2 320) (fun d => d.again 1 { who := .mbox 1 2, src := 163, g := 3, line := 5, op := .write fullMask 0 true, cls := 0 }) .success false ∧
    acts d_poison (.clearPoison 1 2 320 7) (fun d => d.again 1 { who := .mbox 1 2, src := 163, g := 3, line := 5, op := .write fullMask 7 false, cls := 0 }) .success false ∧
    acts d_poison (.clearPoison 1 2 321 7) (id) .invalidInput false ∧
    acts d_poison (.clearPoison 1 2 0x10000000 7) (id) .physicalAddress false :=
  ⟨ok_of (by decide +kernel),
   ⟨⟨⟨by decide +kernel, by decide +kernel⟩, by decide +kernel, by decide +kernel⟩, by decide +kernel, by decide +kernel, gives_iff.1 (by decide +kernel)⟩,
   ⟨⟨⟨by decide +kernel, by decide +kernel⟩, by decide +kernel, by decide +kernel⟩, by decide +kernel, by decide +kernel, gives_iff.1 (by decide +kernel)⟩,
   ⟨⟨⟨by decide +kernel, by decide +kernel⟩, by decide +kernel, by decide +kernel⟩, by decide +kernel, by decide +kernel, gives_iff.1 (by decide +kernel)⟩,
   ⟨⟨⟨by decide +kernel, by decide +kernel⟩, by decide +kernel, by decide +kernel⟩, by decide +kernel, by decide +kernel, gives_iff.1 (by decide +kernel)⟩,
   ⟨⟨⟨by decide +kernel, by decide +kernel⟩, by decide +kernel, by decide +kernel⟩, by decide +kernel, by decide +kernel, gives_iff.1 (by decide +kernel)⟩,
   ⟨⟨⟨by decide +kernel, by decide +kernel⟩, by decide +kernel, by decide +kernel⟩, by decide +kernel, by decide +kernel, gives_iff.1 (by decide +kernel)⟩⟩

/-- Scan Media and Sanitize start, or find another under way (R62 to R64). -/
theorem witness_mail_background :
    acts d_poison (.scanMedia 1 2 0 64) (fun d => d.setLd 1 2 { d.ld 1 2 with background := some (.scanMedia 1 2 0 64), bgFrames := none, bgAt := 0, bgAll := 1, scan := [] }) .background false ∧
    acts d_clean (.scanMedia 1 2 0 64) (id) .busy false ∧
    acts d_poison (.sanitize 1 2) (fun d => d.setLd 1 2 { d.ld 1 2 with background := some (.sanitize 1 2), bgFrames := none, bgAt := 0, bgAll := 0 }) .background false ∧
    acts d_clean (.sanitize 1 2) (id) .busy false :=
  ⟨⟨⟨⟨by decide +kernel, by decide +kernel⟩, by decide +kernel, by decide +kernel⟩, by decide +kernel, by decide +kernel, gives_iff.1 (by decide +kernel)⟩,
   ⟨⟨⟨by decide +kernel, by decide +kernel⟩, by decide +kernel, by decide +kernel⟩, by decide +kernel, by decide +kernel, gives_iff.1 (by decide +kernel)⟩,
   ⟨⟨⟨by decide +kernel, by decide +kernel⟩, by decide +kernel, by decide +kernel⟩, by decide +kernel, by decide +kernel, gives_iff.1 (by decide +kernel)⟩,
   ⟨⟨⟨by decide +kernel, by decide +kernel⟩, by decide +kernel, by decide +kernel⟩, by decide +kernel, by decide +kernel, gives_iff.1 (by decide +kernel)⟩⟩

/-- A response declines all, or accepts one extent; a release (R48, R50). -/
theorem witness_mail_capacity :
    acts d_poison (.addDynamicCapacityResponse 1 2 []) (fun d => d.setGrotto 3 { d.grotto 3 with offered := [] }) .success false ∧
    ((d_poison.extents 1 2 Grotto.offered).find? (fun o => o.1 == unitBytes && o.2.1 == unitBytes) = some (unitBytes, unitBytes, 3, 1, 1)) ∧
    acts d_poison (.addDynamicCapacityResponse 1 2 [(unitBytes, unitBytes)]) (fun d => d.setGrotto 3 { d.grotto 3 with offered := [], accepted := [(2, 2), (1, 1)] }) .success false ∧
    acts { d_poison with mem := { d_poison.mem with phys := 220000 } } (.addDynamicCapacityResponse 1 2 [(unitBytes, unitBytes)]) (id) .invalidExtentList false ∧
    acts d_poison (.releaseDynamicCapacity 1 2 (2 * unitBytes) (2 * unitBytes)) (fun d => ((d.setGrotto 3 { d.grotto 3 with accepted := [] }).unbackRange 3 (2 * 65536) (2 * 65536)).2) .success false :=
  ⟨⟨⟨⟨by decide +kernel, by decide +kernel⟩, by decide +kernel, by decide +kernel⟩, by decide +kernel, by decide +kernel, gives_iff.1 (by decide +kernel)⟩,
   by decide +kernel,
   ⟨⟨⟨by decide +kernel, by decide +kernel⟩, by decide +kernel, by decide +kernel⟩, by decide +kernel, by decide +kernel, gives_iff.1 (by decide +kernel)⟩,
   ⟨⟨⟨by decide +kernel, by decide +kernel⟩, by decide +kernel, by decide +kernel⟩, by decide +kernel, by decide +kernel, gives_iff.1 (by decide +kernel)⟩,
   ⟨⟨⟨by decide +kernel, by decide +kernel⟩, by decide +kernel, by decide +kernel⟩, by decide +kernel, by decide +kernel, gives_iff.1 (by decide +kernel)⟩⟩

def s_mail_erase : State := { dev := withMail d_mail (.secureErase 1 2) }
def e_mail_erase : Dev := ((devOf (unbackOwned 1 2) (s_mail_erase.dev.eraseOwned 1 2)).answered 1 2 (.secureErase 1 2) .success []).after
/-- Secure Erase (R64). -/
theorem witness_mail_erase :
    s_mail_erase.dev.MailRuns 1 2 (.secureErase 1 2) ∧
    (unbackOwned 1 2).run (s_mail_erase.dev.eraseOwned 1 2) = .ok (valOf (unbackOwned 1 2) (s_mail_erase.dev.eraseOwned 1 2), devOf (unbackOwned 1 2) (s_mail_erase.dev.eraseOwned 1 2)) ∧
    ((e_mail_erase.ld 1 2).mbox = some (.secureErase 1 2, .success, []) ∧ e_mail_erase.outstanding (.mbox 1 2) = false) ∧
    exec (.mailboxResult 1 2) s_mail_erase = .next ({ s_mail_erase with dev := ((e_mail_erase.replied 1 2 .success []).runBg 1 2).after }) :=
  ⟨⟨⟨by decide +kernel, by decide +kernel⟩, by decide +kernel, by decide +kernel⟩,
   run_of (by decide +kernel),
   by decide +kernel,
   gives_iff.1 (by decide +kernel)⟩

def s_scan_ends : State := { dev := { d_mail with lds := [(ldKey 1 2, { vecBase := some 0, background := some (.scanMedia 1 2 0 384), bgAll := 6, bgAt := 5 })], slices := { nc := [(lineKey 3 5, { data := 0, poison := true })] } } }
def e_scan_ends : Bool × Dev := s_scan_ends.dev.scanOn 1 2 0 (s_scan_ends.dev.scanLines 1 2 5 6)
/-- A scan at its end has found the poisoned line 5 (R62, R65). -/
theorem witness_scan_ends :
    s_scan_ends.dev.inRun ∧
    (s_scan_ends.dev.mailAtHead 1 2 = false) ∧
    (e_scan_ends.1 = true ∧ (e_scan_ends.2.ld 1 2).scan = [(320, 64)]) ∧
    exec (.mailboxResult 1 2) s_scan_ends = .next ({ s_scan_ends with dev := ((((e_scan_ends.2).forget (.mbox 1 2)).setLd 1 2 { ((e_scan_ends.2).forget (.mbox 1 2)).ld 1 2 with background := none, bgFrames := none, bgDone := some (0x4304, .success) }).interrupt 1 2 0).after }) :=
  ⟨⟨by decide +kernel, by decide +kernel⟩,
   by decide +kernel,
   by decide +kernel,
   gives_iff.1 (by decide +kernel)⟩

def s_sanitize_ends : State := { dev := d_clean }
/-- A sanitize whose frames are zeroed ends (R64). -/
theorem witness_sanitize_ends :
    s_sanitize_ends.dev.inRun ∧
    (s_sanitize_ends.dev.mailAtHead 1 2 = false ∧ (∀ f ∈ [900], s_sanitize_ends.dev.unzeroed f = false) ∧ s_sanitize_ends.dev.outstanding (.mbox 1 2) = false) ∧
    exec (.mailboxResult 1 2) s_sanitize_ends = .next ({ s_sanitize_ends with dev := ((((s_sanitize_ends.dev.setLd 1 2 { s_sanitize_ends.dev.ld 1 2 with bgFrames := some [], bgAt := 4 }).forget (.mbox 1 2)).setLd 1 2 { ((s_sanitize_ends.dev.setLd 1 2 { s_sanitize_ends.dev.ld 1 2 with bgFrames := some [], bgAt := 4 }).forget (.mbox 1 2)).ld 1 2 with background := none, bgFrames := none, bgDone := some (0x4400, .success) }).interrupt 1 2 0).after }) :=
  ⟨⟨by decide +kernel, by decide +kernel⟩,
   by decide +kernel,
   gives_iff.1 (by decide +kernel)⟩

def qf : Queue := { tail := 9, head := 7, commit := 5, consumed := 2, written := 3, crFull := true }
def d_fm : Dev := { d_mail with queues := { qs := [(1, qf)], fmRecs := [(256 + 2, 77)] } }

def s_fm_reports : State := { dev := d_fm }
/-- Logical devices, allocations, the doorbell block, completion records and a register (R43, R267, R607). -/
theorem witness_fm_reports :
    s_fm_reports.dev.inRun ∧
    s_fm_reports.dev.Still ∧
    exec (.getLdInfo 1) s_fm_reports = .next ({ s_fm_reports with dev := { s_fm_reports.dev with out := [{ msg := .fm .success [16] }] } }) ∧
    exec (.getLdAllocations 1) s_fm_reports = .next ({ s_fm_reports with dev := { s_fm_reports.dev with out := [{ msg := .fm .success [0, 0, 1, 0, 0, 0, 0, 0, 0, 0, 0, 0, 0, 0, 0, 0] }] } }) ∧
    exec (.getLdInfo 4) s_fm_reports = .next ({ s_fm_reports with dev := { s_fm_reports.dev with out := [{ msg := .fm .invalidInput [] }] } }) ∧
    exec (.getLdAllocations 4) s_fm_reports = .next ({ s_fm_reports with dev := { s_fm_reports.dev with out := [{ msg := .fm .invalidInput [] }] } }) ∧
    exec (.setLdAllocations 1) s_fm_reports = .next ({ s_fm_reports with dev := { s_fm_reports.dev with out := [{ msg := .fm .unsupported [] }] } }) ∧
    exec (.getQueueStatus 1) s_fm_reports = .next ({ s_fm_reports with dev := { s_fm_reports.dev with out := [{ msg := .fm .success [9, 7, 5, 2 * 2 ^ 60 + 2 ^ 39, 1, 2, 3, 0] }] } }) ∧
    exec (.getQueueStatus 16) s_fm_reports = .next ({ s_fm_reports with dev := { s_fm_reports.dev with out := [{ msg := .fm .invalidInput [] }] } }) ∧
    exec (.getCompletionRecords 1 2 1) s_fm_reports = .next { s_fm_reports with dev := nx (.getCompletionRecords 1 2 1) s_fm_reports } ∧
    ((nx (.getCompletionRecords 1 2 1) s_fm_reports).queue? 1 = some { qf with consumed := 3, dirty := true, crFull := false } ∧ (nx (.getCompletionRecords 1 2 1) s_fm_reports).out = [{ msg := .fm .success [77, 0, 0, 0] }] ∧ (nx (.getCompletionRecords 1 2 1) s_fm_reports).mem = s_fm_reports.dev.mem) ∧
    exec (.readDeviceRegister 0x10018) s_fm_reports = .next ((s_fm_reports.readBlock 0x10018 true).2.fmAnswer .success [(s_fm_reports.readBlock 0x10018 true).1.toNat]) ∧
    exec (.readDeviceRegister 0x10019) s_fm_reports = .next ({ s_fm_reports with dev := { s_fm_reports.dev with out := [{ msg := .fm .invalidInput [] }] } }) :=
  ⟨⟨by decide +kernel, by decide +kernel⟩,
   by constructor <;> decide +kernel,
   gives_iff.1 (by decide +kernel),
   gives_iff.1 (by decide +kernel),
   gives_iff.1 (by decide +kernel),
   gives_iff.1 (by decide +kernel),
   gives_iff.1 (by decide +kernel),
   gives_iff.1 (by decide +kernel),
   gives_iff.1 (by decide +kernel),
   nx_iff (by decide +kernel),
   by decide +kernel,
   gives_iff.1 (by decide +kernel),
   gives_iff.1 (by decide +kernel)⟩

def s_fm_acts : State := { dev := d_fm, trust := { running := 0 } }
/-- LD options, pool ID, submission, run, DEV_TAG and firmware (R58, R267, R295, R443, R577, R607). -/
theorem witness_fm_acts :
    s_fm_acts.dev.inRun ∧
    s_fm_acts.dev.Still ∧
    (s_fm_acts.dev.linkExists 1 = true ∧ 5 < s_fm_acts.dev.ldCount 1 ∧ 128 + 64 ≤ s_fm_acts.dev.vectors 1 ∧ (s_fm_acts.dev.ld 1 0).base 0 + (s_fm_acts.dev.ld 1 0).vecCount ≤ 2048 ∧ s_fm_acts.dev.namesVector 1 15 64 = false) ∧
    (qf.tailOk 11 = true ∧ qf.state = 1 ∧ qf.issued = []) ∧
    exec (.submitInstructions 1 [5, 6] 11) s_fm_acts = .next ({ s_fm_acts with dev := (Dev.after { (s_fm_acts.dev.putWords 1 qf 9 [5, 6]).setQueue 1 ({ qf with tail := 11, dirty := true } : Queue).settle with out := [{ msg := .fm .success [] }] }) }) ∧
    exec (.setQueueRun 1 false) s_fm_acts = .next ({ s_fm_acts with dev := { (s_fm_acts.dev.setQueue 1 { qf with state := 3, run := false, dirty := true }) with out := [{ msg := .fm .success [] }] } }) ∧
    exec (.writeDeviceRegister 0x10018 5) s_fm_acts = .next ({ s_fm_acts with dev := { s_fm_acts.dev with devTag := 5, tagDone := true, out := [{ msg := .fm .success [] }] } }) ∧
    exec (.setPoolId 7 4 200) s_fm_acts = .next (nxs (.setPoolId 7 4 200) s_fm_acts) ∧
    ((nxs (.setPoolId 7 4 200) s_fm_acts).dev = { (s_fm_acts.dev.onEv fun e => { e with pool := some 7, ackUs := 4, creditUs := 200 }) with out := [{ msg := .fm .success [] }] } ∧ (nxs (.setPoolId 7 4 200) s_fm_acts).trust = s_fm_acts.trust.append 7 0 [7, 0, 4, 0, 200, 0] true) ∧
    exec (.transferFirmware 16 [1, 2]) s_fm_acts = .next (nxs (.transferFirmware 16 [1, 2]) s_fm_acts) ∧
    ((nxs (.transferFirmware 16 [1, 2]) s_fm_acts).dev = { s_fm_acts.dev with out := [{ msg := .fm .success [] }] } ∧ (nxs (.transferFirmware 16 [1, 2]) s_fm_acts).trust = s_fm_acts.trust.program 1 16 [1, 2]) ∧
    exec (.activateFirmware 0) s_fm_acts = .next (nxs (.activateFirmware 0) s_fm_acts) ∧
    ((nxs (.activateFirmware 0) s_fm_acts).dev = { s_fm_acts.dev with out := [{ msg := .flash true 2 0 }, { msg := .fm .success [] }] } ∧ (nxs (.activateFirmware 0) s_fm_acts).trust = s_fm_acts.trust.append 2 0 (bytesOfNat 1 s_fm_acts.trust.selection.1 ++ bytesOfNat 7 1) true) ∧
    exec (.provisionFmRoot 99) s_fm_acts = .next (nxs (.provisionFmRoot 99) s_fm_acts) ∧
    ((nxs (.provisionFmRoot 99) s_fm_acts).dev = { s_fm_acts.dev with out := [{ msg := .fm .success [] }] } ∧ (nxs (.provisionFmRoot 99) s_fm_acts).trust = { s_fm_acts.trust with fmRoot := some 99 }) :=
  ⟨⟨by decide +kernel, by decide +kernel⟩,
   by constructor <;> decide +kernel,
   by decide +kernel,
   by decide +kernel,
   gives_iff.1 (by decide +kernel),
   gives_iff.1 (by decide +kernel),
   gives_iff.1 (by decide +kernel),
   gives_iff.1 (by decide +kernel),
   by decide +kernel,
   gives_iff.1 (by decide +kernel),
   by decide +kernel,
   gives_iff.1 (by decide +kernel),
   by decide +kernel,
   gives_iff.1 (by decide +kernel),
   by decide +kernel⟩

def s_fm_options : State := { dev := { dev0 with lds := (List.range 16).map fun k => (ldKey 1 k, { vecBase := some (if k < 8 then 8 * k else 1024 + 8 * k), vecCount := 8 }) } }
/-- LD options of a logical device whose vectors 128 to 191 no other uses (R58). -/
theorem witness_fm_options :
    s_fm_options.dev.inRun ∧
    s_fm_options.dev.Still ∧
    (∀ k, k < s_fm_options.dev.ldCount 1 → k ≠ 5 → 128 + 64 ≤ (s_fm_options.dev.ld 1 k).base k ∨ (s_fm_options.dev.ld 1 k).base k + (s_fm_options.dev.ld 1 k).vecCount ≤ 128) ∧
    ((s_fm_options.dev.ld 1 5).msixOn = false ∧ s_fm_options.dev.namesVector 1 5 64 = false) ∧
    exec (.setLdOptions 1 5 128 64 true) s_fm_options = .next ({ s_fm_options with dev := { (s_fm_options.dev.setLd 1 5 { s_fm_options.dev.ld 1 5 with vecBase := some 128, vecCount := 64, injectOk := true }) with out := [{ msg := .fm .success [] }] } }) :=
  ⟨⟨by decide +kernel, by decide +kernel⟩,
   by constructor <;> decide +kernel,
   by decide +kernel,
   by decide +kernel,
   gives_iff.1 (by decide +kernel)⟩

def s_fm_run : State := { dev := { dev0 with queues := { qs := [(1, { qf with state := 3, run := false, stopStatus := 5, stopPos := 6 })] } } }
/-- A stopped queue of the fabric manager runs again (R295). -/
theorem witness_fm_run :
    s_fm_run.dev.inRun ∧
    s_fm_run.dev.Still ∧
    exec (.setQueueRun 1 true) s_fm_run = .next ({ s_fm_run with dev := { (s_fm_run.dev.setQueue 1 { qf with dirty := true }) with out := [{ msg := .fm .success [] }] } }) :=
  ⟨⟨by decide +kernel, by decide +kernel⟩,
   by constructor <;> decide +kernel,
   gives_iff.1 (by decide +kernel)⟩

def s_fm_root_set : State := { dev := dev0, trust := { fmRoot := some 5 }, pending := [.provisionFmRoot 6] }
/-- The fabric manager's root is written once (R561), and stays through a step. -/
theorem witness_fm_root_set :
    s_fm_root_set.dev.inRun ∧
    exec (.provisionFmRoot 6) s_fm_root_set = .next ({ s_fm_root_set with dev := { s_fm_root_set.dev with out := [{ msg := .fm .invalidInput [] }] } }) ∧
    (gives (step s_fm_root_set) (nxs (.provisionFmRoot 6) { s_fm_root_set with pending := [] }) = true) :=
  ⟨⟨by decide +kernel, by decide +kernel⟩,
   gives_iff.1 (by decide +kernel),
   by decide +kernel⟩

end Sys2Proof.Tests
end

