-- ==== Sys2Proof/Tests/Memory.lean ====
section
/-!
SUPPORT. Tests of lines, pages, frames, channels, the crawl, moves and Flowstone.
-/
namespace Sys2Proof.Tests

open Sys2Proof.Machine

set_option Elab.async false

/-- A host's read of line 6 of the hot page of d_host is out at frame 100. -/
def r6 (op : Op) : Req := { who := .host h0, src := srcOf 1 2, g := 3, line := 6, op := op }
def d_read (t : DLine) : Dev := { d_host with
  pages := { d_host.pages with dreads := [{ frame := 100, line := 6, req := r6 .readS }] }
  mem := { d_host.mem with dram := [(dramKey 100 6, t)] } }
def good6 : DLine := { kind := .data, key := 5, tweak := lineTweak 3 0 6, data := 99 }

def s_line_good : State := { dev := d_read good6 }
/-- A good line of DRAM reaches the host and the near cache (R22, R469). -/
theorem witness_line_good :
    s_line_good.dev.inRun ∧
    s_line_good.dev.Still ∧
    ((s_line_good.dev.readLeaves { frame := 100, line := 6, req := r6 .readS } none).isSome = true ∧ s_line_good.dev.rankUp 100 = true ∧ s_line_good.dev.inLostBank 100 6 = false ∧ s_line_good.dev.pageKey? 3 0 = some 5 ∧ s_line_good.dev.dline 100 6 = good6 ∧ s_line_good.dev.linkLive 1 = true ∧ s_line_good.dev.ncGet 3 6 = none ∧ ((s_line_good.dev.ncWays 3 6).length < 16)) ∧
    (peView (s_line_good.dev.entry 3 0) = 1) ∧
    exec (.dramLineReturn 0 100 6 {}) s_line_good = .next { s_line_good with dev := nx (.dramLineReturn 0 100 6 {}) s_line_good } ∧
    ((nx (.dramLineReturn 0 100 6 {}) s_line_good).out = [{ msg := .memData h0 99 false false }] ∧ (nx (.dramLineReturn 0 100 6 {}) s_line_good).pages.dreads = [] ∧ (nx (.dramLineReturn 0 100 6 {}) s_line_good).mem = s_line_good.dev.mem ∧ (nx (.dramLineReturn 0 100 6 {}) s_line_good).ncGet 3 6 = some { data := 99 }) :=
  ⟨⟨by decide +kernel, by decide +kernel⟩,
   by constructor <;> decide +kernel,
   by decide +kernel,
   by decide +kernel,
   nx_iff (by decide +kernel),
   by decide +kernel⟩

def s_line_queued : State := { dev := { d_read good6 with pages := { d_host.pages with dreads := [{ frame := 100, line := 6, req := r6 .readS }] } } }
/-- A read that is not picked stays (R123). -/
theorem witness_line_queued :
    s_line_queued.dev.inRun ∧
    s_line_queued.dev.Still ∧
    (s_line_queued.dev.readLeaves { frame := 100, line := 6, req := r6 .readS } (some []) = none) ∧
    exec (.dramLineReturn 0 100 6 {} (some [])) s_line_queued = .next s_line_queued :=
  ⟨⟨by decide +kernel, by decide +kernel⟩,
   by constructor <;> decide +kernel,
   by decide +kernel,
   gives_iff.1 (by decide +kernel)⟩

def s_line_bad : State := { dev := d_read good6 }
/-- What the return of a line that is uncorrectable twice needs; the data given with the poison mark is free (log 3). -/
theorem witness_line_bad :
    s_line_bad.dev.inRun ∧
    s_line_bad.dev.Still ∧
    ((s_line_bad.dev.readLeaves { frame := 100, line := 6, req := r6 .readS } none).isSome = true ∧ s_line_bad.dev.rankUp 100 = true ∧ s_line_bad.dev.inLostBank 100 6 = false ∧ s_line_bad.dev.pageKey? 3 0 = some 5 ∧ s_line_bad.dev.dline 100 6 = good6 ∧ s_line_bad.dev.linkLive 1 = true ∧ s_line_bad.dev.ncGet 3 6 = none ∧ ((s_line_bad.dev.ncWays 3 6).length < 16)) ∧
    (({ first := .uncorrectable, second := .uncorrectable } : LineObs).readBack = .clean) :=
  ⟨⟨by decide +kernel, by decide +kernel⟩,
   by constructor <;> decide +kernel,
   by decide +kernel,
   by decide +kernel⟩

def s_map_fill : State := { dev := { d_read good6 with pages := { d_host.pages with cache := [], fills := [{ lineIdx := 0x2000, waiting := [r6 .readS] }] } } }
def e_map_fill : Dev := (s_map_fill.dev.countMap 0x2000 0).onPages fun p => { p with fills := [] }
/-- A map line enters the map cache and its request goes on (R94). -/
theorem witness_map_fill :
    s_map_fill.dev.inRun ∧
    (s_map_fill.dev.mapWaits 0x2000 = false ∧ s_map_fill.dev.mapDead 0x2000 = false ∧ (e_map_fill.mapInsert 0x2000 3).isSome = true ∧ ∀ gp ∈ s_map_fill.dev.linePages 0x2000, peCorrupt (s_map_fill.dev.entry gp.1 gp.2) = false ∧ peCommit (s_map_fill.dev.entry gp.1 gp.2) = true) ∧
    exec (.mapFillReturn 0x2000 {}) s_map_fill = .next ({ s_map_fill with dev := (((e_map_fill.mapInsert 0x2000 3).getD e_map_fill).againAll 1 [r6 .readS]).after }) :=
  ⟨⟨by decide +kernel, by decide +kernel⟩,
   by decide +kernel,
   gives_iff.1 (by decide +kernel)⟩

def s_map_full : State := { dev := { d_read good6 with pages := { d_host.pages with cache := (List.range 16).map fun k => (0x2000 + 512 * (k + 1), { grotto := 3, heats := [] }), fills := [{ lineIdx := 0x2000, waiting := [r6 .readS] }], area := (0x10000, mkEntry true 1 0 0 0 100) :: (List.range 16).map fun k => (8 * (0x2000 + 512 * (k + 1)), mkEntry true 5 0 0 1 7) } } }
def e_map_full : Dev := (s_map_full.dev.countMap 0x2000 0).onPages fun p => { p with fills := [] }
/-- Where every way of its set holds a pinned line, the requests of a fill wait (R93). -/
theorem witness_map_full :
    s_map_full.dev.inRun ∧
    (s_map_full.dev.mapWaits 0x2000 = false ∧ s_map_full.dev.mapDead 0x2000 = false ∧ e_map_full.mapInsert 0x2000 3 = none ∧ ∀ gp ∈ s_map_full.dev.linePages 0x2000, peCorrupt (s_map_full.dev.entry gp.1 gp.2) = false ∧ peCommit (s_map_full.dev.entry gp.1 gp.2) = true) ∧
    exec (.mapFillReturn 0x2000 {}) s_map_full = .next ({ s_map_full with dev := (e_map_full.onPages fun p => { p with mapWait := [r6 .readS] }).after }) :=
  ⟨⟨by decide +kernel, by decide +kernel⟩,
   by decide +kernel,
   gives_iff.1 (by decide +kernel)⟩

def s_map_waits : State := { dev := { d_host with mem := { d_host.mem with resvChans := [0] }, chans := [(0, { state := 3, frames := 600000, ranks := 1, retrain := [(0, 0)] })] } }
/-- A map line behind a retrain waits, and a sub-block without a unit (R147, R207, R224). -/
theorem witness_map_waits :
    s_map_waits.dev.inRun ∧
    (s_map_waits.dev.mapWaits 0x2000 = true ∧ s_map_waits.dev.subHasUnit (3, 0, 0) = false) ∧
    exec (.mapFillReturn 0x2000 {}) s_map_waits = .next s_map_waits ∧
    exec (.subBlockDecompressed 3 0 0 {}) s_map_waits = .next s_map_waits :=
  ⟨⟨by decide +kernel, by decide +kernel⟩,
   by decide +kernel,
   gives_iff.1 (by decide +kernel),
   gives_iff.1 (by decide +kernel)⟩

/-- The same page warm: its gallery's header in slot 0 of frame 200, and its first sub-block, sixteen lines with content 7, as a stream of 14 bytes in the
frame's second sector (R198, R199, R203). -/
def gal : Header := { gen := 0, level := 3, primary := 1, page := 0, descs := [{ mode := 0, count := 1, length := 14, first := 1601 }, {}, {}, {}] }
def stream7 : List Byte := [0x01, 7, 0, 0xB3, 0, 0, 0xB5, 0x3F, 0x38, 0xC0, 0xD5, 0xE3, 0xD6, 0x4F]
def warmLines : AMap DLine := (dramKey 200 0, { kind := .data, key := 5, tweak := headerTweak 3 0, data := gal.data }) ::
  (List.range 8).map fun i => (dramKey 200 (8 + i), { kind := .data, key := 5, tweak := sectorTweak 3 0 0 0 i, data := if i = 0 then lineOfBytes stream7 else 0 })
def d_warm : Dev := { d_host with
  mem := { d_host.mem with dram := warmLines }
  pages := { d_host.pages with area := [(0x10000, mkEntry true 2 0 0 0 12800)], heaps := [(200, { grotto := 3, data := 2, heads := [(0, 1)] })] } }
def seven : List LineData := List.replicate 16 7

/-- One line with content 7, and so many of them. -/
def line7 : List Byte := 7 :: List.replicate 63 0
def lines7 : Nat → List Byte
  | 0 => []
  | n + 1 => line7 ++ lines7 n
/-- The fold of a Nat, each value of which the kernel computes before the next. -/
def foldNow (f : Nat → Byte → Nat) : Nat → List Byte → Nat
  | s, [] => s
  | 0, b :: t => foldNow f (f 0 b) t
  | n + 1, b :: t => foldNow f (f (n + 1) b) t
theorem foldNow_eq (f : Nat → Byte → Nat) : ∀ (bs : List Byte) s, bs.foldl f s = foldNow f s bs
  | [], s => by cases s <;> rfl
  | b :: t, 0 => foldNow_eq f t _
  | b :: t, n + 1 => foldNow_eq f t _
theorem reg7 : foldNow (crcByte (crc32cDesc 0xFFFFFFFF)) 0xFFFFFFFF (lines7 16) = 1412994061 := by decide +kernel
theorem crc7 : crc32c (lines7 16) = 0x4FD6E3D5 := by
  have h : (lines7 16).foldl (crcByte (crc32cDesc 0xFFFFFFFF)) 0xFFFFFFFF = 1412994061 := by rw [foldNow_eq, reg7]
  unfold crc32c checkValue
  rw [show (crc32cDesc 0xFFFFFFFF).init % 2 ^ (crc32cDesc 0xFFFFFFFF).width = 0xFFFFFFFF from by decide, h]
  decide +kernel
theorem matchCopy_add : ∀ m n off out, matchCopy (m + n) off out = matchCopy n off (matchCopy m off out)
  | 0, n, off, out => by simp [matchCopy]
  | m + 1, n, off, out => by rw [Nat.succ_add, matchCopy, matchCopy, matchCopy_add m n]
theorem copy7 (out : List Byte) : matchCopy 64 64 (line7.reverse ++ out) = line7.reverse ++ (line7.reverse ++ out) := rfl
theorem lines7_reverse : ∀ n, line7.reverse ++ (lines7 n).reverse = (lines7 n).reverse ++ line7.reverse
  | 0 => by simp [lines7]
  | n + 1 => by simp only [lines7, List.reverse_append, ← List.append_assoc, lines7_reverse n]
theorem copies7 : ∀ n m, matchCopy (n * 64) 64 (lines7 (m + 1)).reverse = (lines7 (m + 1 + n)).reverse
  | 0, m => by simp [matchCopy]
  | n + 1, m => by
    rw [show (n + 1) * 64 = 64 + n * 64 by omega, matchCopy_add, show m + 1 + (n + 1) = (m + 1) + 1 + n by omega, ← copies7 n (m + 1)]
    congr 1
    simp only [lines7, List.reverse_append]
    rw [← lines7_reverse m, copy7, List.append_assoc, ← lines7_reverse m]
theorem first7 : matchCopy 62 1 [0#8, 7#8] = (lines7 1).reverse := by decide +kernel
theorem first7_length : (matchCopy 62 1 [0#8, 7#8]).length = 64 := by rw [first7]; decide +kernel
theorem all7 : matchCopy 960 64 (matchCopy 62 1 [0#8, 7#8]) = (lines7 16).reverse := by rw [first7]; exact copies7 15 0
theorem decode7 : decodeBlock 1024 stream7 = .ok (lines7 16) 14 none := by
  simp [decodeBlock, stream7, blockTokens, natOfBytes, first7_length, all7, crc7]
theorem lines7_length : ∀ n, (lines7 n).length = 64 * n
  | 0 => rfl
  | n + 1 => by rw [lines7, List.length_append, lines7_length n]; simp [line7]; omega
theorem seven_of : linesOf 16 (lines7 16) = seven := by decide +kernel
theorem subData_of {d : Dev} {g page k : Nat} {x : Header} {bs out : List Byte} (h : (x.desc k).zero = false) (hs : d.subStream g page x k = some bs)
    (hd : decodeBlock 1024 bs = .ok out bs.length none) (hl : out.length = 1024) : d.subData g page x k = some (linesOf 16 out) := by
  simp [Dev.subData, h, hs, hd, hl]
theorem sub7 {d : Dev} {x : Header} (h : (x.desc 0).zero = false) (hs : d.subStream 3 0 x 0 = some stream7) : d.subData 3 0 x 0 = some seven :=
  seven_of ▸ subData_of h hs decode7 (lines7_length 16)

def s_sub_block : State := { dev := { d_warm with pages := { d_warm.pages with sreads := [{ g := 3, page := 0, sub := 0, req := r6 .readS }] } } }
/-- What a sub-block that its unit reads needs: it answers the host (R207). -/
theorem witness_sub_block :
    s_sub_block.dev.inRun ∧
    s_sub_block.dev.Still ∧
    (s_sub_block.dev.pageWaits 3 0 = false ∧ s_sub_block.dev.subHasUnit (3, 0, 0) = true ∧ peView (s_sub_block.dev.entry 3 0) = 2 ∧ s_sub_block.dev.galleryOf 3 0 = some gal ∧ (gal.desc 0).zero = false ∧ gal.poison.getLsbD 6 = false ∧ s_sub_block.dev.ncGet 3 6 = none ∧ (s_sub_block.dev.ncWays 3 6).length < 16 ∧ s_sub_block.dev.linkLive 1 = true) ∧
    (s_sub_block.dev.subData 3 0 gal 0 = some seven) ∧
    (∀ e ∈ (locFrame (peLoc (s_sub_block.dev.entry 3 0)), locLine (peLoc (s_sub_block.dev.entry 3 0))) :: (s_sub_block.dev.subSectors 3 0 gal 0).flatMap sectorLines, (s_sub_block.dev.peek e.1 e.2).isSome = true ∧ (s_sub_block.dev.dline e.1 e.2).errs = []) :=
  ⟨⟨by decide +kernel, by decide +kernel⟩,
   by constructor <;> decide +kernel,
   by decide +kernel,
   sub7 (by decide +kernel) (by decide +kernel),
   by decide +kernel⟩

def s_soft_repair : State := { dev := { d_host with fwUp := false, chans := [(0, { state := 3, frames := 1000, ranks := 1, sub := 4, repair := some { frame := 100, line := 6, dev := 3 }, repairNext := [{ frame := 101, line := 7, dev := 4 }] })] } }
def e_soft_repair : Dev := (((s_soft_repair.dev.setChan 0 { s_soft_repair.dev.chan 0 with repair := some { frame := 101, line := 7, dev := 4 }, repairNext := [], sub := 4, rows := merase (s_soft_repair.dev.chan 0).rows (s_soft_repair.dev.coord 100 6).cell, softRun := 1, fault := 2 }).owes 4 0).rowBack { frame := 100, line := 6, dev := 3 }).issueOwed 0 (s_soft_repair.dev.coord 100 6).rank
/-- A soft repair ends, cured or not (R149, R150). -/
theorem witness_soft_repair :
    s_soft_repair.dev.inRun ∧
    exec (.softRepairComplete 0 true) s_soft_repair = .next ({ s_soft_repair with dev := (e_soft_repair.raise { code := 0x1004, cls := 1, unit := 0x100, att := 2, akind := 3, addr := 100, detail := dramDetail 0 (s_soft_repair.dev.coord 100 6) 8 }).after }) ∧
    exec (.softRepairComplete 0 false) s_soft_repair = .next ({ s_soft_repair with dev := (e_soft_repair.retireFrame 100 6 (e_soft_repair.pageAt 100)).after }) :=
  ⟨⟨by decide +kernel, by decide +kernel⟩,
   gives_iff.1 (by decide +kernel),
   gives_iff.1 (by decide +kernel)⟩

/-- A warm page of zero lines: a gallery whose four sub-blocks are in zero mode. -/
def galz : Header := { gen := 0, level := 3, primary := 0, page := 0, descs := [{}, {}, {}, {}] }
def d_zero : Dev := { d_warm with
  mem := { d_host.mem with dram := [(dramKey 200 0, { kind := .data, key := 5, tweak := headerTweak 3 0, data := galz.data })] }
  pages := { d_warm.pages with heaps := [(200, { grotto := 3, heads := [(0, 1)] })] } }
def zeros : Contents := { header := galz, subs := List.replicate 4 (some (List.replicate 16 0)) }

def s_promotion : State := { dev := { (d_zero : Dev) with pages := { d_zero.pages with promos := [{ g := 3, page := 0, frame := 300, src := 12800, held := [r6 .readS] }] } } }
def e_promotion : Option Contents × Dev := (s_promotion.dev.onPages fun q => { q with promos := [] }).readGallery 3 0 0 []
/-- A promotion that commits makes its page hot (R212). -/
theorem witness_promotion :
    s_promotion.dev.inRun ∧
    (s_promotion.dev.promoOf 3 0 = some { g := 3, page := 0, frame := 300, src := 12800, held := [r6 .readS] } ∧ s_promotion.dev.pageWaits 3 0 = false ∧ e_promotion.1 = some zeros ∧ e_promotion.2.rebuilding 3 0 = false) ∧
    exec (.promotionCommit 3 0) s_promotion = .next ({ s_promotion with dev := (((((e_promotion.2.spreadGallery 3 0 300 zeros 0).turn 3 0 1 0 300).freeGallery 3 0 12800).againAll 3 [r6 .readS]).after) }) ∧
    exec (.promotionCommit 3 0) s_promotion = .next { s_promotion with dev := nx (.promotionCommit 3 0) s_promotion } ∧
    (peState ((nx (.promotionCommit 3 0) s_promotion).entry 3 0) = 1 ∧ peLoc ((nx (.promotionCommit 3 0) s_promotion).entry 3 0) = 300) :=
  ⟨⟨by decide +kernel, by decide +kernel⟩,
   by decide +kernel,
   gives_iff.1 (by decide +kernel),
   nx_iff (by decide +kernel),
   by decide +kernel⟩

def s_promotion_bad : State := { dev := { ({ d_zero with mem := { d_host.mem with dram := [(dramKey 200 0, { kind := .poison })] } } : Dev) with pages := { d_zero.pages with promos := [{ g := 3, page := 0, frame := 300, src := 12800, held := [] }] } } }
def e_promotion_bad : Option Contents × Dev := (s_promotion_bad.dev.onPages fun q => { q with promos := [] }).readGallery 3 0 0 []
/-- A promotion whose gallery has a lost header ends without effect (R210, R212). -/
theorem witness_promotion_bad :
    s_promotion_bad.dev.inRun ∧
    (s_promotion_bad.dev.promoOf 3 0 = some { g := 3, page := 0, frame := 300, src := 12800, held := [] } ∧ s_promotion_bad.dev.pageWaits 3 0 = false ∧ e_promotion_bad.1 = none ∧ e_promotion_bad.2.covered 3 = false) ∧
    exec (.promotionCommit 3 0) s_promotion_bad = .next ({ s_promotion_bad with dev := (((((e_promotion_bad.2.headerBad 3 0).hold 3 (frameChan 300) (-1)).freeFrame 300).againAll 3 []).after) }) :=
  ⟨⟨by decide +kernel, by decide +kernel⟩,
   by decide +kernel,
   gives_iff.1 (by decide +kernel)⟩

/-- A recompression with one merged write of 8 to line 6 of the page: its new stream gives the lines one by one. -/
def stream8 : List Byte := [0x01, 7, 0, 0xB3, 0, 0, 0xA5, 0x3F, 0x14, 0x00, 8, 0xA4, 0x00, 0x0C, 0xC0, 0x92, 0x24, 0xF7, 0xC9]
def rc6 : Recomp := { g := 3, page := 0, loc := 12800, sub := 0, header := { gal with level := 1, descs := [{ mode := 0, count := 1, length := 19, first := 1601 }, {}, {}, {}] }, stream := stream8, lines := seven.set 6 8, merged := [r6 (.write fullMask 8 false)] }

def s_map_update : State := { dev := { d_warm with pages := { d_warm.pages with recomps := [rc6] } } }
def r_map_update : Bool × Dev := s_map_update.dev.recompRead rc6 {}
def b_map_update : Bool × Dev := s_map_update.dev.recompRead rc6 { firstOk := false, secondOk := false }
def e_map_update : Dev := r_map_update.2.onPages fun q => { q with recomps := [{ rc6 with committed := true }] }
/-- The merged write completes when the record commits, or is taken up again where the sub-block is unreadable (R214). -/
theorem witness_map_update :
    s_map_update.dev.inRun ∧
    (s_map_update.dev.recompOf 3 0 = some rc6 ∧ s_map_update.dev.pageWaits 3 0 = false) ∧
    (r_map_update.1 = true ∧ b_map_update.1 = false) ∧
    exec (.mapUpdateRecordCommit 3 0) s_map_update = .next ({ s_map_update with dev := (((e_map_update.ncKeep (r6 (.write fullMask 8 false)) true 8 false).settle (r6 (.write fullMask 8 false)) true false 8 false).bump 17).after }) ∧
    exec (.mapUpdateRecordCommit 3 0 [{ firstOk := false, secondOk := false }]) s_map_update = .next ({ s_map_update with dev := (b_map_update.2.dropRecomp 3 0 3).after }) :=
  ⟨⟨by decide +kernel, by decide +kernel⟩,
   by decide +kernel,
   by decide +kernel,
   gives_iff.1 (by decide +kernel),
   gives_iff.1 (by decide +kernel)⟩

def s_recompressed : State := { dev := { d_warm with pages := { d_warm.pages with recomps := [{ rc6 with committed := true }] } } }
/-- The gallery is the new one when its writes are done (R215). -/
theorem witness_recompressed :
    s_recompressed.dev.inRun ∧
    s_recompressed.dev.Still ∧
    (s_recompressed.dev.pageKey? 3 0 = some 5 ∧ s_recompressed.dev.recompOf 3 0 = some { rc6 with committed := true }) ∧
    exec (.recompressionWritesDone 3 0) s_recompressed = .next { s_recompressed with dev := nx (.recompressionWritesDone 3 0) s_recompressed } ∧
    ((nx (.recompressionWritesDone 3 0) s_recompressed).pages.recomps = [] ∧ (nx (.recompressionWritesDone 3 0) s_recompressed).pages.sump = [] ∧ (nx (.recompressionWritesDone 3 0) s_recompressed).dline 200 0 = { kind := .data, key := 5, tweak := headerTweak 3 0, data := rc6.header.data } ∧ (nx (.recompressionWritesDone 3 0) s_recompressed).galleryOf 3 0 = some rc6.header ∧ ((nx (.recompressionWritesDone 3 0) s_recompressed).dline 200 8).data = lineOfBytes stream8 ∧ (nx (.recompressionWritesDone 3 0) s_recompressed).dline 200 16 = s_recompressed.dev.dline 200 16) :=
  ⟨⟨by decide +kernel, by decide +kernel⟩,
   by constructor <;> decide +kernel,
   by decide +kernel,
   nx_iff (by decide +kernel),
   by decide +kernel⟩

def r_wait : Req := { who := .host h0, src := srcOf 1 2, g := 3, line := 70, op := .write fullMask 1 false }

def s_frame_limit : State := { dev := { d_host with pages := { d_host.pages with frameWait := [r_wait], creditWait := [r6 .readS] } } }
/-- A write that waits too long for a frame is dropped: CONTAINED 0x8003 (R107, R109). -/
theorem witness_frame_limit :
    s_frame_limit.dev.inRun ∧
    (r_wait.expires = true) ∧
    exec (.frameWaitLimit 0) s_frame_limit = .next ({ s_frame_limit with dev := ((((s_frame_limit.dev.onPages fun p => { p with frameWait := [r6 .readS], creditWait := [] }).setGrotto 3 { s_frame_limit.dev.grotto 3 with discarded := true }).bump 15).raise { code := 0x8003, cls := 3, unit := 0x380, akind := 1, addr := 0x10000 * 4096 + 70 * 64, grotto := some 3 }) }) :=
  ⟨⟨by decide +kernel, by decide +kernel⟩,
   by decide +kernel,
   gives_iff.1 (by decide +kernel)⟩

def s_frame_limit_again : State := { dev := { d_host with grottos := [(3, { d_host.grotto 3 with discarded := true })], pages := { d_host.pages with frameWait := [r_wait] } } }
/-- The next one is an EVENT (R109). -/
theorem witness_frame_limit_again :
    s_frame_limit_again.dev.inRun ∧
    exec (.frameWaitLimit 0) s_frame_limit_again = .next ({ s_frame_limit_again with dev := ((s_frame_limit_again.dev.onPages fun p => { p with frameWait := [] }).bump 15).event 0x380 1 (0x10000 * 4096 + 70 * 64) 0 (some 3) }) :=
  ⟨⟨by decide +kernel, by decide +kernel⟩,
   gives_iff.1 (by decide +kernel)⟩

def s_zeroer : State := { dev := { d_host with mem := { pools := [(0, { zeroed := [7], pending := [(200, 203), (1000, 100000)] })], dram := [(dramKey 201 3, { errs := [1] })] } } }
/-- The zeroer makes a pending frame zeroed (R97). -/
theorem witness_zeroer :
    s_zeroer.dev.inRun ∧
    s_zeroer.dev.Still ∧
    ((s_zeroer.dev.chan 0).sub ≠ 2 ∧ s_zeroer.dev.frameWaits (mkFrame 0 201) = false ∧ s_zeroer.dev.trainFrame (mkFrame 0 201) = false ∧ ivMem 201 (s_zeroer.dev.pool 0).pending = true ∧ s_zeroer.dev.frameOk (mkFrame 0 201) = true ∧ s_zeroer.dev.mem.wf = true) ∧
    exec (.zeroerFrameDone 0 201) s_zeroer = .next { s_zeroer with dev := nx (.zeroerFrameDone 0 201) s_zeroer } ∧
    (((nx (.zeroerFrameDone 0 201) s_zeroer).pool 0).zeroed = [7, 201] ∧ ((nx (.zeroerFrameDone 0 201) s_zeroer).pool 0).pending = [(200, 201), (202, 203), (1000, 100000)] ∧ (nx (.zeroerFrameDone 0 201) s_zeroer).mem.dram = [] ∧ (nx (.zeroerFrameDone 0 201) s_zeroer).pages = s_zeroer.dev.pages ∧ (nx (.zeroerFrameDone 0 201) s_zeroer).mem.wf = true) :=
  ⟨⟨by decide +kernel, by decide +kernel⟩,
   by constructor <;> decide +kernel,
   by decide +kernel,
   nx_iff (by decide +kernel),
   by decide +kernel⟩

def s_zeroer_waits : State := { dev := { d_host with chans := [(0, { state := 3, frames := 100000, ranks := 1, sub := 2 })] } }
/-- The zeroer waits in idle self-refresh (R132). -/
theorem witness_zeroer_waits :
    s_zeroer_waits.dev.inRun ∧
    exec (.zeroerFrameDone 0 1000) s_zeroer_waits = .next s_zeroer_waits :=
  ⟨⟨by decide +kernel, by decide +kernel⟩,
   gives_iff.1 (by decide +kernel)⟩

def s_offer_lapse : State := { dev := d_mail }
/-- An offered extent lapses (R48). -/
theorem witness_offer_lapse :
    s_offer_lapse.dev.inRun ∧
    exec (.extentOfferLapse 3 unitBytes) s_offer_lapse = .next ({ s_offer_lapse with dev := ((s_offer_lapse.dev.setGrotto 3 { s_offer_lapse.dev.grotto 3 with offered := [] }).event 0x11 1 (0x10000 * 4096 + unitLines * 64) (2 + 2 ^ 32) (some 3)).dcLog 3 .capacityReleased (1, 1) }) :=
  ⟨⟨by decide +kernel, by decide +kernel⟩,
   gives_iff.1 (by decide +kernel)⟩

def s_refresh : State := { dev := { dev0 with chans := [(0, { state := 3, frames := 1000, ranks := 2, owed := [(1, 7)], trfc := 160 })] } }
/-- A refresh that falls due is done when its rank is idle, and postponed when it is busy; the floor forces eight (R128 to R132). -/
theorem witness_refresh :
    s_refresh.dev.inRun ∧
    exec (.refreshDue 0 1 false) s_refresh = .next ({ s_refresh with dev := (s_refresh.dev.setChan 0 { s_refresh.dev.chan 0 with owed := mput [(1, 7)] 0 1 0 }).bump (256 + 5) 8 }) ∧
    exec (.refreshDue 0 1 true) s_refresh = .next ({ s_refresh with dev := (s_refresh.dev.setChan 0 { s_refresh.dev.chan 0 with owed := [(1, 8)] }).bump (256 + 6) }) ∧
    exec (.refreshDue 0 0 true) s_refresh = .next ({ s_refresh with dev := (s_refresh.dev.setChan 0 { s_refresh.dev.chan 0 with owed := mput [(1, 7)] 0 0 1 }).bump (256 + 6) }) ∧
    exec (.refreshFloorTrip 0 1) s_refresh = .next ({ s_refresh with dev := ((s_refresh.dev.setChan 0 { s_refresh.dev.chan 0 with owed := mput [(1, 7)] 0 1 0, fault := 0x80 }).bump (256 + 5) 8).raise { code := 0x100A, cls := 2, unit := 0x100 } }) ∧
    exec (.selfRefreshEntry 0) s_refresh = .next ({ s_refresh with dev := ((s_refresh.dev.setChan 0 { s_refresh.dev.chan 0 with sub := 2, owed := [] }).bump (256 + 5) 7).bump (256 + 7) }) :=
  ⟨⟨by decide +kernel, by decide +kernel⟩,
   gives_iff.1 (by decide +kernel),
   gives_iff.1 (by decide +kernel),
   gives_iff.1 (by decide +kernel),
   gives_iff.1 (by decide +kernel),
   gives_iff.1 (by decide +kernel)⟩

def s_refresh_limit : State := { dev := { dev0 with chans := [(0, { state := 3, frames := 1000, ranks := 2, owed := [(1, 8)], trfc := 160 })] } }
/-- At the limit of eight the refreshes are done (R129). -/
theorem witness_refresh_limit :
    s_refresh_limit.dev.inRun ∧
    exec (.refreshDue 0 1 true) s_refresh_limit = .next ({ s_refresh_limit with dev := ((s_refresh_limit.dev.setChan 0 { s_refresh_limit.dev.chan 0 with owed := [(1, 1)] }).bump (256 + 5) 8).bump (256 + 6) }) :=
  ⟨⟨by decide +kernel, by decide +kernel⟩,
   gives_iff.1 (by decide +kernel)⟩

def s_refresh_hot : State := { dev := { dev0 with chans := [(0, { state := 3, frames := 1000, ranks := 2, owed := [(1, 4)], hot := true, interval := 975, trfc := 160 })] } }
/-- A hot channel postpones four at most (R129). -/
theorem witness_refresh_hot :
    s_refresh_hot.dev.inRun ∧
    exec (.refreshDue 0 1 true) s_refresh_hot = .next ({ s_refresh_hot with dev := ((s_refresh_hot.dev.setChan 0 { s_refresh_hot.dev.chan 0 with owed := [(1, 1)] }).bump (256 + 5) 4).bump (256 + 6) }) :=
  ⟨⟨by decide +kernel, by decide +kernel⟩,
   gives_iff.1 (by decide +kernel)⟩

def s_refresh_cools : State := { dev := { dev0 with chans := [(0, { state := 3, frames := 1000, ranks := 2, owed := [(1, 4)], hot := true, hotNext := some false, interval := 975, trfc := 160, repair := some { frame := 100, line := 6, dev := 3 } })] } }
def e_refresh_cools : Dev := s_refresh_cools.dev.applyHot 0
/-- A channel that is to cool does so at its next refresh (R146); a rank with a row under repair postpones (R149). -/
theorem witness_refresh_cools :
    s_refresh_cools.dev.inRun ∧
    ((e_refresh_cools.chan 0).hot = false ∧ (e_refresh_cools.chan 0).interval = 1950 ∧ (e_refresh_cools.chan 0).hotNext = none ∧ e_refresh_cools.rankMends 0 (s_refresh_cools.dev.coord 100 6).rank = true ∧ e_refresh_cools.rankMends 0 1 = false) ∧
    exec (.refreshDue 0 0 false) s_refresh_cools = .next ({ s_refresh_cools with dev := (e_refresh_cools.setChan 0 { e_refresh_cools.chan 0 with owed := mput [(1, 4)] 0 0 1 }).bump (256 + 6) }) ∧
    exec (.selfRefreshEntry 0) s_refresh_cools = .next s_refresh_cools :=
  ⟨⟨by decide +kernel, by decide +kernel⟩,
   by decide +kernel,
   gives_iff.1 (by decide +kernel),
   gives_iff.1 (by decide +kernel)⟩

def s_busy_stays : State := { dev := d_read good6 }
/-- A channel with a queued read does not enter self-refresh (R131). -/
theorem witness_busy_stays :
    s_busy_stays.dev.inRun ∧
    ((s_busy_stays.dev.chan 0).state = 3 ∧ (s_busy_stays.dev.chan 0).sub = 0 ∧ s_busy_stays.dev.chanBusy 0 = true) ∧
    exec (.selfRefreshEntry 0) s_busy_stays = .next s_busy_stays :=
  ⟨⟨by decide +kernel, by decide +kernel⟩,
   by decide +kernel,
   gives_iff.1 (by decide +kernel)⟩

def s_scrub_exit : State := { dev := { dev0 with chans := [(0, { state := 3, frames := 1000, ranks := 2, sub := 2 })] } }
/-- Scrub work owed ends self-refresh (R134). -/
theorem witness_scrub_exit :
    s_scrub_exit.dev.inRun ∧
    exec (.scrubOwedExit 0) s_scrub_exit = .next ({ s_scrub_exit with dev := s_scrub_exit.dev.setChan 0 { s_scrub_exit.dev.chan 0 with sub := 0 } }) :=
  ⟨⟨by decide +kernel, by decide +kernel⟩,
   gives_iff.1 (by decide +kernel)⟩

def s_recalibration : State := { dev := { dev0 with chans := [(0, { state := 3, frames := 1000, ranks := 2 })] } }
/-- Recalibration counts, or asks for a retrain (R135, R136). -/
theorem witness_recalibration :
    s_recalibration.dev.inRun ∧
    exec (.recalibration 0 1 true) s_recalibration = .next ({ s_recalibration with dev := s_recalibration.dev.bump (256 + 13) }) ∧
    exec (.recalibration 0 1 false) s_recalibration = .next ({ s_recalibration with dev := ((s_recalibration.dev.setChan 0 { s_recalibration.dev.chan 0 with retrain := [(1, 0)], fault := 8 }).bump (256 + 13)).raise { code := 0x1008, cls := 1, unit := 0x100, att := 1, detail := 2 ^ 55 } }) :=
  ⟨⟨by decide +kernel, by decide +kernel⟩,
   gives_iff.1 (by decide +kernel),
   gives_iff.1 (by decide +kernel)⟩

def s_retrain : State := { dev := { dev0 with fwUp := false, chans := [(0, { state := 3, frames := 1000, ranks := 2, retrain := [(1, 0)] })] } }
/-- A retrain succeeds, with new patterns, or is tried again once (R136, R137, R141). -/
theorem witness_retrain :
    s_retrain.dev.inRun ∧
    exec (.rankRetrainComplete 0 1 true) s_retrain = .next ({ s_retrain with dev := ((((s_retrain.dev.setChan 0 { s_retrain.dev.chan 0 with retrain := [] }).withPatterns 0).owes 5 0).after) }) ∧
    exec (.rankRetrainComplete 0 1 false) s_retrain = .next ({ s_retrain with dev := s_retrain.dev.setChan 0 { s_retrain.dev.chan 0 with retrain := [(1, 1)] } }) :=
  ⟨⟨by decide +kernel, by decide +kernel⟩,
   gives_iff.1 (by decide +kernel),
   gives_iff.1 (by decide +kernel)⟩

def s_retrain_fails : State := { dev := { dev0 with fwUp := false, chans := [(0, { state := 3, frames := 1000, ranks := 2, retrain := [(1, 1)] })] } }
/-- A second failure takes the rank out (R137). -/
theorem witness_retrain_fails :
    s_retrain_fails.dev.inRun ∧
    exec (.rankRetrainComplete 0 1 false) s_retrain_fails = .next ({ s_retrain_fails with dev := (s_retrain_fails.dev.setChan 0 { s_retrain_fails.dev.chan 0 with retrain := [] }).loseRanks 0 [1] }) :=
  ⟨⟨by decide +kernel, by decide +kernel⟩,
   gives_iff.1 (by decide +kernel)⟩

def s_temperature : State := { dev := { dev0 with chans := [(0, { state := 3, frames := 1000, ranks := 2, cool := 3 })] } }
/-- Temperatures of 96, 95, 86 and 85 °C (R146, R147), and a CA parity error that the repeat cures (R148). -/
theorem witness_temperature :
    s_temperature.dev.inRun ∧
    exec (.temperatureRead 0 96 false) s_temperature = .next ({ s_temperature with dev := (s_temperature.dev.setChan 0 { s_temperature.dev.chan 0 with temp := 96, cool := 0, hotNext := some true, over95 := true, fault := 0x40 }).raise { code := 0x100B, cls := 2, unit := 0x100 } }) ∧
    exec (.temperatureRead 0 95 true) s_temperature = .next ({ s_temperature with dev := s_temperature.dev.setChan 0 { s_temperature.dev.chan 0 with temp := 95, cool := 0, hotNext := some true } }) ∧
    exec (.temperatureRead 0 86 false) s_temperature = .next ({ s_temperature with dev := s_temperature.dev.setChan 0 { s_temperature.dev.chan 0 with temp := 86, cool := 0, hotNext := some true } }) ∧
    exec (.temperatureRead 0 85 false) s_temperature = .next ({ s_temperature with dev := s_temperature.dev.setChan 0 { s_temperature.dev.chan 0 with temp := 85 } }) ∧
    exec (.caParityError 0 1 false) s_temperature = .next ({ s_temperature with dev := ((s_temperature.dev.setChan 0 { s_temperature.dev.chan 0 with fault := 1 }).bump (256 + 12)).raise { code := 0x1007, cls := 1, unit := 0x100, att := 2 } }) :=
  ⟨⟨by decide +kernel, by decide +kernel⟩,
   gives_iff.1 (by decide +kernel),
   gives_iff.1 (by decide +kernel),
   gives_iff.1 (by decide +kernel),
   gives_iff.1 (by decide +kernel),
   gives_iff.1 (by decide +kernel)⟩

def s_cooling : State := { dev := { dev0 with chans := [(0, { state := 3, frames := 1000, ranks := 2, hot := true, cool := 1 })] } }
/-- A hot channel cools after two readings of 82 °C or less (R146). -/
theorem witness_cooling :
    s_cooling.dev.inRun ∧
    exec (.temperatureRead 0 82 false) s_cooling = .next ({ s_cooling with dev := s_cooling.dev.setChan 0 { s_cooling.dev.chan 0 with temp := 82, cool := 2, hotNext := some false } }) ∧
    exec (.temperatureRead 0 83 false) s_cooling = .next ({ s_cooling with dev := s_cooling.dev.setChan 0 { s_cooling.dev.chan 0 with temp := 83, cool := 0 } }) :=
  ⟨⟨by decide +kernel, by decide +kernel⟩,
   gives_iff.1 (by decide +kernel),
   gives_iff.1 (by decide +kernel)⟩

def s_ca_parity : State := { dev := { dev0 with chans := [(0, { state := 3, frames := 1000, ranks := 2, slot0 := some {}, slot1 := some {}, in0 := true, in1 := true })] } }
/-- A CA parity error that the repeat does not cure takes its DIMM out (R148). -/
theorem witness_ca_parity :
    s_ca_parity.dev.inRun ∧
    exec (.caParityError 0 1 true) s_ca_parity = .next ({ s_ca_parity with dev := ((s_ca_parity.dev.setChan 0 { s_ca_parity.dev.chan 0 with fault := 1 }).bump (256 + 12)).loseDimm 0 1 }) :=
  ⟨⟨by decide +kernel, by decide +kernel⟩,
   gives_iff.1 (by decide +kernel)⟩

def s_training : State := { dev := { fwUp := true } }
/-- Training of one supported DIMM, of one with another width, and of an empty channel (R116, R117, R140 to R143). -/
theorem witness_training :
    (s_training.dev.power.mode = .boot ∧ s_training.dev.power.bootKind = 0 ∧ s_training.dev.power.trstHigh = false ∧ (s_training.dev.chan 15).state = 0) ∧
    ((nxs (.trainingComplete 15 { slot0 := some { density := 32, pkgRanks := 2, stack := 4, speed := 7000 } }) s_training).dev.chan 15 = { checked := true, state := 3, recordOk := true, slot0 := some { density := 32, pkgRanks := 2, stack := 4, speed := 7000 }, spd := (some { density := 32, pkgRanks := 2, stack := 4, speed := 7000 }, none), in0 := true, ranks := 8, speed := 6400, trfc := 160, frames := 8 * (32 * 2 ^ 19), patterns := some 0 }) ∧
    ((nxs (.trainingComplete 15 { slot0 := some { speed := 6500 }, slot1 := some { speed := 8000 } }) s_training).dev.chan 15 = { checked := true, state := 3, recordOk := true, slot0 := some { speed := 6500 }, slot1 := some { speed := 8000 }, spd := (some { speed := 6500 }, some { speed := 8000 }), in0 := true, in1 := true, ranks := 2, speed := 6400, trfc := 160, frames := 2 * (16 * 2 ^ 19), patterns := some 0 }) ∧
    ((nxs (.trainingComplete 15 { slot0 := some { width := 8 } }) s_training).dev.chan 15 = { checked := true, state := 1, slot0 := some { width := 8 } } ∧ (nxs (.trainingComplete 15 {}) s_training).dev.chan 15 = { checked := true }) :=
  ⟨by decide +kernel,
   by decide +kernel,
   by decide +kernel,
   by decide +kernel⟩

def s_training_none : State := { dev := { fwUp := true, chans := (List.range 15).map fun c => (c, { checked := true }) } }
/-- Training that ends with no channel in service is DEGRADED (R118). -/
theorem witness_training_none :
    (s_training_none.dev.power.mode = .boot ∧ s_training_none.dev.power.bootKind = 0 ∧ s_training_none.dev.power.trstHigh = false ∧ (s_training_none.dev.chan 15).state = 0 ∧ (s_training_none.dev.chan 15).checked = false ∧ (∀ k, k < 16 → k ≠ 15 → (s_training_none.dev.chan k).checked = true ∧ (s_training_none.dev.chan k).state ≠ 2) ∧ (∀ e ∈ s_training_none.dev.chans, e.2.state ≠ 3)) ∧
    ((s_training_none.dev.setChan 15 { checked := true }).trainEnd = (s_training_none.dev.setChan 15 { checked := true }).raise { code := 0x1009, cls := 2, unit := 0 }) :=
  ⟨by decide +kernel,
   by decide +kernel⟩

def s_crawl_start : State := { dev := { dev0 with chans := [(0, { state := 3, frames := 1000, ranks := 2 })] } }
/-- A crawl pass starts (R481). -/
theorem witness_crawl_start :
    s_crawl_start.dev.inRun ∧
    exec (.crawlPassStart 0) s_crawl_start = .next ({ s_crawl_start with dev := s_crawl_start.dev.setChan 0 { s_crawl_start.dev.chan 0 with crawling := true, crawlStart := some s_crawl_start.dev.timeMs } }) :=
  ⟨⟨by decide +kernel, by decide +kernel⟩,
   gives_iff.1 (by decide +kernel)⟩

def s_crawl : State := { dev := { dev0 with chans := [(0, { state := 3, frames := 300001, ranks := 1, crawling := true, crawlDone := 100 })], mem := { pools := [(0, { zeroed := [9, 299000, 299001] })] } } }
/-- A crawl reads a good line, and the last one ends the pass; a free frame with an uncorrectable line is retired (R482, R483). -/
theorem witness_crawl :
    s_crawl.dev.inRun ∧
    s_crawl.dev.Still ∧
    (s_crawl.dev.mem.retired.contains (mkFrame 0 299000) = false ∧ s_crawl.dev.pageAt (mkFrame 0 299000) = none ∧ s_crawl.dev.resvFrames ≤ 299000 ∧ (s_crawl.dev.dline (mkFrame 0 299000) 63).errs = []) ∧
    exec (.crawlLine 0 299000 63 {}) s_crawl = .next { s_crawl with dev := nx (.crawlLine 0 299000 63 {}) s_crawl } ∧
    ((nx (.crawlLine 0 299000 63 {}) s_crawl).mem = s_crawl.dev.mem ∧ ((nx (.crawlLine 0 299000 63 {}) s_crawl).chan 0).crawlDone = 299000 * 64 + 64 ∧ ((nx (.crawlLine 0 299000 63 {}) s_crawl).chan 0).crawling = true ∧ (nx (.crawlLine 0 299000 63 {}) s_crawl).faults = s_crawl.dev.faults) ∧
    exec (.crawlLine 0 300000 63 {}) s_crawl = .next { s_crawl with dev := nx (.crawlLine 0 300000 63 {}) s_crawl } ∧
    ((nx (.crawlLine 0 300000 63 {}) s_crawl).mem = s_crawl.dev.mem ∧ ((nx (.crawlLine 0 300000 63 {}) s_crawl).chan 0).crawling = false) ∧
    exec (.crawlLine 0 299000 63 { first := .uncorrectable, second := .uncorrectable }) s_crawl = .next { s_crawl with dev := nx (.crawlLine 0 299000 63 { first := .uncorrectable, second := .uncorrectable }) s_crawl } ∧
    (mkFrame 0 299000 ∈ (nx (.crawlLine 0 299000 63 { first := .uncorrectable, second := .uncorrectable }) s_crawl).mem.retired ∧ (nx (.crawlLine 0 299000 63 { first := .uncorrectable, second := .uncorrectable }) s_crawl).mem.dram = [] ∧ ((nx (.crawlLine 0 299000 63 { first := .uncorrectable, second := .uncorrectable }) s_crawl).pool 0).zeroed = [9, 299001]) :=
  ⟨⟨by decide +kernel, by decide +kernel⟩,
   by constructor <;> decide +kernel,
   by decide +kernel,
   nx_iff (by decide +kernel),
   by decide +kernel,
   nx_iff (by decide +kernel),
   by decide +kernel,
   nx_iff (by decide +kernel),
   by decide +kernel⟩

def s_crawl_waits : State := { dev := { dev0 with chans := [(0, { state := 3, frames := 1000, ranks := 2, sub := 2, crawling := true })] } }
/-- The crawl waits in idle self-refresh, and behind a retrain (R132, R147). -/
theorem witness_crawl_waits :
    s_crawl_waits.dev.inRun ∧
    exec (.crawlLine 0 5 0 {}) s_crawl_waits = .next s_crawl_waits :=
  ⟨⟨by decide +kernel, by decide +kernel⟩,
   gives_iff.1 (by decide +kernel)⟩

def s_crawl_retrain : State := { dev := { dev0 with chans := [(0, { state := 3, frames := 1000, ranks := 2, retrain := [(0, 0), (1, 0)], crawling := true })] } }
/-- The crawl waits behind a retrain (R147). -/
theorem witness_crawl_retrain :
    s_crawl_retrain.dev.inRun ∧
    (s_crawl_retrain.dev.lineWaits (mkFrame 0 5) 0 = true) ∧
    exec (.crawlLine 0 5 0 {}) s_crawl_retrain = .next s_crawl_retrain :=
  ⟨⟨by decide +kernel, by decide +kernel⟩,
   by decide +kernel,
   gives_iff.1 (by decide +kernel)⟩

def s_move_again : State := { dev := { d_host with pages := { d_host.pages with area := [(0x10000, mkEntry true 5 0 0 1 100)], moves := [{ mover := 2, issuer := none, kind := .relocate, g := 3, page := 0, dst := .frame 300, dirty := 0x1FFFF }] } } }
/-- A copy with more than 16 lines written meanwhile is repeated (R251). -/
theorem witness_move_again :
    s_move_again.dev.inRun ∧
    (peSrc (s_move_again.dev.entry 3 0) = 1) ∧
    exec (.moveCopyDone 2) s_move_again = .next ({ s_move_again with dev := (s_move_again.dev.setMove { mover := 2, issuer := none, kind := .relocate, g := 3, page := 0, dst := .frame 300, rounds := 1 }).moverBytes (128 * 17) }) :=
  ⟨⟨by decide +kernel, by decide +kernel⟩,
   by decide +kernel,
   gives_iff.1 (by decide +kernel)⟩

def s_move_holds : State := { dev := { d_host with pages := { d_host.pages with area := [(0x10000, mkEntry true 5 0 0 1 100)], moves := [{ mover := 2, issuer := none, kind := .relocate, g := 3, page := 0, dst := .frame 300, dirty := 0xFFFF }] } } }
/-- With 16, writes are held (R251); a hold past its limit gives the move up with 0x0107 (R253). -/
theorem witness_move_holds :
    s_move_holds.dev.inRun ∧
    exec (.moveCopyDone 2) s_move_holds = .next ({ s_move_holds with dev := s_move_holds.dev.setMove { mover := 2, issuer := none, kind := .relocate, g := 3, page := 0, dst := .frame 300, dirty := 0xFFFF, phase := 3 } }) :=
  ⟨⟨by decide +kernel, by decide +kernel⟩,
   gives_iff.1 (by decide +kernel)⟩

def s_move_third : State := { dev := { d_host with pages := { d_host.pages with area := [(0x10000, mkEntry true 5 0 0 1 100)], moves := [{ mover := 2, issuer := none, kind := .relocate, g := 3, page := 0, dst := .frame 300, dirty := 0x1FFFF, rounds := 2 }] } } }
/-- After two more rounds writes are held however many lines were written (R251). -/
theorem witness_move_third :
    s_move_third.dev.inRun ∧
    exec (.moveCopyDone 2) s_move_third = .next ({ s_move_third with dev := s_move_third.dev.setMove { mover := 2, issuer := none, kind := .relocate, g := 3, page := 0, dst := .frame 300, dirty := 0x1FFFF, rounds := 2, phase := 3 } }) :=
  ⟨⟨by decide +kernel, by decide +kernel⟩,
   gives_iff.1 (by decide +kernel)⟩

def s_move_commit : State := { dev := { d_host with pages := { d_host.pages with area := [(0x10000, mkEntry true 5 0 0 1 100)], moves := [{ mover := 2, issuer := none, kind := .relocate, g := 3, page := 0, dst := .frame 300, phase := 3 }] } } }
/-- The commit names the new frame (R252), and a hold past its limit gives the move up (R253). -/
theorem witness_move_commit :
    s_move_commit.dev.inRun ∧
    exec (.moveCommit 2) s_move_commit = .next ({ s_move_commit with dev := (((((s_move_commit.dev.moverBytes 4096).fillFrame { mover := 2, issuer := none, kind := .relocate, g := 3, page := 0, dst := .frame 300, phase := 3 } 300 (s_move_commit.dev.entry 3 0)).turn 3 0 1 0 300).moveDone { mover := 2, issuer := none, kind := .relocate, g := 3, page := 0, dst := .frame 300, phase := 3 } 1 100)) }) ∧
    exec (.moveCommit 2) s_move_commit = .next { s_move_commit with dev := nx (.moveCommit 2) s_move_commit } ∧
    (peState ((nx (.moveCommit 2) s_move_commit).entry 3 0) = 1 ∧ peLoc ((nx (.moveCommit 2) s_move_commit).entry 3 0) = 300 ∧ (nx (.moveCommit 2) s_move_commit).pages.moves = []) ∧
    exec (.moveHoldDeadline 2) s_move_commit = .next ({ s_move_commit with dev := ((((s_move_commit.dev.revert { mover := 2, issuer := none, kind := .relocate, g := 3, page := 0, dst := .frame 300, phase := 3 }).moveResult { mover := 2, issuer := none, kind := .relocate, g := 3, page := 0, dst := .frame 300, phase := 3 } 0x0107).bump 1312).againAll 3 []).after }) :=
  ⟨⟨by decide +kernel, by decide +kernel⟩,
   gives_iff.1 (by decide +kernel),
   nx_iff (by decide +kernel),
   by decide +kernel,
   gives_iff.1 (by decide +kernel)⟩

def s_move_waits : State := { dev := { ({ d_host with pages := { d_host.pages with area := [(0x10000, mkEntry true 5 0 0 1 100)], moves := [{ mover := 2, issuer := none, kind := .relocate, g := 3, page := 0, dst := .frame 300, phase := 3 }] } } : Dev) with slices := { d_host.slices with dir := [(lineKey 3 5, { st := .D })] } } }
/-- Copy and commit wait for a line in D (R254). -/
theorem witness_move_waits :
    s_move_waits.dev.inRun ∧
    (s_move_waits.dev.pageLocked 3 0 = true) ∧
    exec (.moveCopyDone 2) s_move_waits = .next s_move_waits ∧
    exec (.moveCommit 2) s_move_waits = .next s_move_waits :=
  ⟨⟨by decide +kernel, by decide +kernel⟩,
   by decide +kernel,
   gives_iff.1 (by decide +kernel),
   gives_iff.1 (by decide +kernel)⟩

def s_move_warm : State := { dev := { d_zero with mem := { d_zero.mem with dram := d_zero.mem.dram }, pages := { d_zero.pages with area := [(0x10000, mkEntry true 5 0 1 2 12800)], moves := [{ mover := 2, issuer := none, kind := .relocate, g := 3, page := 0, dst := .frame 300 }] } } }
def e_move_warm : Option Contents × Dev := s_move_warm.dev.readGallery 3 0 s_move_warm.dev.flow.cls []
def k_move_warm : List (LineData × Bool) × Dev := e_move_warm.2.moverLines 3 0 (some zeros)
/-- A warm source is read, and its lines are spread over the frame (R256). -/
theorem witness_move_warm :
    s_move_warm.dev.inRun ∧
    (peSrc (s_move_warm.dev.entry 3 0) = 2 ∧ s_move_warm.dev.pageLocked 3 0 = false ∧ s_move_warm.dev.pageWaits 3 0 = false) ∧
    (e_move_warm.1 = some zeros ∧ e_move_warm.2.rebuilding 3 0 = false) ∧
    exec (.moveCopyDone 2) s_move_warm = .next ({ s_move_warm with dev := (k_move_warm.2.spreadLines { mover := 2, issuer := none, kind := .relocate, g := 3, page := 0, dst := .frame 300 } 300 zeros k_move_warm.1).setMove { mover := 2, issuer := none, kind := .relocate, g := 3, page := 0, dst := .frame 300, phase := 3 } }) :=
  ⟨⟨by decide +kernel, by decide +kernel⟩,
   by decide +kernel,
   by decide +kernel,
   gives_iff.1 (by decide +kernel)⟩

def s_move_bad : State := { dev := { d_zero with mem := { d_zero.mem with dram := [(dramKey 200 0, { kind := .poison })] }, pages := { d_zero.pages with area := [(0x10000, mkEntry true 5 0 1 2 12800)], moves := [{ mover := 2, issuer := none, kind := .relocate, g := 3, page := 0, dst := .frame 300 }] } } }
def e_move_bad : Option Contents × Dev := s_move_bad.dev.readGallery 3 0 s_move_bad.dev.flow.cls []
/-- A move whose gallery has a lost header is given up (R209). -/
theorem witness_move_bad :
    s_move_bad.dev.inRun ∧
    (e_move_bad.1 = none) ∧
    exec (.moveCopyDone 2) s_move_bad = .next ({ s_move_bad with dev := e_move_bad.2.sourceBad { mover := 2, issuer := none, kind := .relocate, g := 3, page := 0, dst := .frame 300 } false }) :=
  ⟨⟨by decide +kernel, by decide +kernel⟩,
   by decide +kernel,
   gives_iff.1 (by decide +kernel)⟩

def s_sweep : State := { dev := d_host }
/-- The sweep visits the next map line and no other (R239). -/
theorem witness_sweep :
    s_sweep.dev.inRun ∧
    (s_sweep.dev.sweepNext = some 0x2000 ∧ (mget s_sweep.dev.pages.cache 0x2000).isSome = true) ∧
    exec (.sweepLineVisit 0x2001) s_sweep = .next s_sweep ∧
    exec (.sweepLineVisit 0x2000) s_sweep = .next ({ s_sweep with dev := (((s_sweep.dev.linePages 0x2000).foldl (fun (e : Dev) gp => e.sweepPage gp.1 gp.2) s_sweep.dev).bump 1316 64).onFlow fun k => { k with sweepUsed := k.sweepUsed + 64, sweepPos := 0x2001 } }) :=
  ⟨⟨by decide +kernel, by decide +kernel⟩,
   by decide +kernel,
   gives_iff.1 (by decide +kernel),
   gives_iff.1 (by decide +kernel)⟩

def s_epoch : State := { dev := { d_host with flow := { promote := [1, 2], demote := [3], epoch := 6, dropP := 4, sweepUsed := 64, migUsed := 5 } } }
/-- An epoch closes its lists; a pressure run is placed again; a budget window starts (R240 to R249). -/
theorem witness_epoch :
    s_epoch.dev.inRun ∧
    s_epoch.dev.Still ∧
    exec (.epochBoundary) s_epoch = .next { s_epoch with dev := nx (.epochBoundary) s_epoch } ∧
    ((nx (.epochBoundary) s_epoch).flow.epoch = 7 ∧ (nx (.epochBoundary) s_epoch).flow.promote = [] ∧ (nx (.epochBoundary) s_epoch).flow.closedP = [1, 2] ∧ (nx (.epochBoundary) s_epoch).flow.closedD = [3] ∧ (nx (.epochBoundary) s_epoch).flow.dropP = 0 ∧ (nx (.epochBoundary) s_epoch).flow.reason = 0) ∧
    (s_epoch.dev.pages.plans = [] ∧ s_epoch.dev.forcedPlans = [] ∧ s_epoch.dev.compactable = []) ∧
    exec (.pressureRunRepeat) s_epoch = .next s_epoch ∧
    exec (.budgetWindow) s_epoch = .next ({ s_epoch with dev := s_epoch.dev.onFlow fun k => { k with sweepUsed := 0, migUsed := 5 - s_epoch.dev.migCeiling, spillUsed0 := 0, spillUsed1 := 0 } }) :=
  ⟨⟨by decide +kernel, by decide +kernel⟩,
   by constructor <;> decide +kernel,
   nx_iff (by decide +kernel),
   by decide +kernel,
   by decide +kernel,
   gives_iff.1 (by decide +kernel),
   gives_iff.1 (by decide +kernel)⟩

def s_pressure : State := { dev := { d_host with mem := { pools := [(0, { pending := [(1000, 100000)] })] }, flow := { promote := [1, 2] }, pages := { d_host.pages with frameWait := [r_wait] } } }
def t_pressure : Dev := s_pressure.dev.pressureRun
/-- A pressure run while a write waits for a frame (R245). -/
theorem witness_pressure :
    s_pressure.dev.inRun ∧
    (t_pressure.flow.pressureAt = some s_pressure.dev.timeMs ∧ t_pressure.flow.reason = 1 ∧ t_pressure.flow.closedP = [1, 2] ∧ t_pressure.pages.frameWait = s_pressure.dev.pages.frameWait ∧ t_pressure.mem.dram = s_pressure.dev.mem.dram) :=
  ⟨⟨by decide +kernel, by decide +kernel⟩,
   by decide +kernel⟩

def s_budget_fetch : State := { dev := { d_host with flow := { spillUsed0 := 8000 }, ev := { p0 := { state := 2, helloGot := true, txq := [.guestRead 9 300 5] } } } }
/-- A fetch that waited for its port's allowance goes when the next window begins (R249); while the allowance is spent it waits behind what may go. -/
theorem witness_budget_fetch :
    s_budget_fetch.dev.inRun ∧
    s_budget_fetch.dev.Still ∧
    (s_budget_fetch.dev.ev.p0.maySend = true ∧ s_budget_fetch.dev.evReady 0 = false ∧ spillSplit 0 [.guestRead 9 300 5, .guestPlaced 3, .reserved 9] = ([.reserved 9], [.guestRead 9 300 5, .guestPlaced 3])) ∧
    exec (.budgetWindow) s_budget_fetch = .next { s_budget_fetch with dev := nx (.budgetWindow) s_budget_fetch } ∧
    ((nx (.budgetWindow) s_budget_fetch).ev.p0.txq = [] ∧ (nx (.budgetWindow) s_budget_fetch).flow.spillUsed0 = 64 ∧ (nx (.budgetWindow) s_budget_fetch).flow.spillUsed1 = 0 ∧ (nx (.budgetWindow) s_budget_fetch).out = s_budget_fetch.dev.out ++ [{ msg := .flit 0 1 0 0xFFF 0 false [.guestRead 9 300 5] }]) :=
  ⟨⟨by decide +kernel, by decide +kernel⟩,
   by constructor <;> decide +kernel,
   by decide +kernel,
   nx_iff (by decide +kernel),
   by decide +kernel⟩

end Sys2Proof.Tests
end

