-- ==== Sys2Proof/Tests/Pelmic.lean ====
section
/-!
SUPPORT. Tests of the Pelmic instructions: for each, a small state that meets all the hypotheses of its statement, and what the
instruction leaves there.
-/
namespace Sys2Proof.Tests

open Sys2Proof.Machine

set_option Elab.async false

def w_nop : PWord := { phase := true, fmt := 0 }
def s_nop : State := showing dev0 queue1 0x00 w_nop
/-- NOP has no effect (R316). -/
theorem witness_nop :
    Shows s_nop 1 w_nop nopPel queue1 s_nop.dev ∧
    exec (.nop 1 w_nop) s_nop = .next (s_nop.applied (s_nop.dev.entered 1 queue1 w_nop 0x00) 1 queue1 w_nop 0x00 {} (queue1.head + 1)) :=
  ⟨shows_of (by decide +kernel),
   gives_iff.1 (by decide +kernel)⟩

def w_halt : PWord := { phase := true, fmt := 0 }
def s_halt : State := showing dev0 queue1 0x01 w_halt
/-- HALT issues; it stops its queue as it completes (R317). -/
theorem witness_halt :
    Shows s_halt 1 w_halt haltPel queue1 s_halt.dev ∧
    exec (.halt 1 w_halt) s_halt = .next (s_halt.applied (s_halt.dev.entered 1 queue1 w_halt 0x01) 1 queue1 w_halt 0x01 {} (queue1.head + 1)) :=
  ⟨shows_of (by decide +kernel),
   gives_iff.1 (by decide +kernel)⟩

def w_fence : PWord := { phase := true, fmt := 0 }
def s_fence : State := showing dev0 queue1 0x02 w_fence
/-- FENCE has no effect of its own (R316). -/
theorem witness_fence :
    Shows s_fence 1 w_fence fencePel queue1 s_fence.dev ∧
    exec (.fence 1 w_fence) s_fence = .next (s_fence.applied (s_fence.dev.entered 1 queue1 w_fence 0x02) 1 queue1 w_fence 0x02 {} (queue1.head + 1)) :=
  ⟨shows_of (by decide +kernel),
   gives_iff.1 (by decide +kernel)⟩

def q_two : Queue := { queue1 with regs := [(1, 7), (2, 9)] }

def w_signal : PWord := { phase := true, fmt := 1, rb := 1, rc := 2, imm := 5 }
def s_signal : State := showing dev0 q_two 0x03 w_signal
/-- SIGNAL reports imm, rb and rc (R319). -/
theorem witness_signal :
    Shows s_signal 1 w_signal signalPel q_two s_signal.dev ∧
    exec (.signal 1 w_signal) s_signal = .next (s_signal.applied (s_signal.dev.entered 1 q_two w_signal 0x03) 1 q_two w_signal 0x03 { r0 := some 5, r1 := some 7, r2 := some 9 } (q_two.head + 1)) :=
  ⟨shows_of (by decide +kernel),
   gives_iff.1 (by decide +kernel)⟩

def w_seti : PWord := { phase := true, fmt := 1, ra := 3, imm := 10 }
def s_seti : State := showing dev0 queue1 0x08 w_seti
/-- SETI writes its immediate (R323). -/
theorem witness_seti :
    Shows s_seti 1 w_seti setiPel queue1 s_seti.dev ∧
    exec (.seti 1 w_seti) s_seti = .next (s_seti.applied (s_seti.dev.entered 1 queue1 w_seti 0x08) 1 queue1 w_seti 0x08 { regs := [(3, 10, false)] } (queue1.head + 1)) :=
  ⟨shows_of (by decide +kernel),
   gives_iff.1 (by decide +kernel)⟩

def w_seti_r0 : PWord := { phase := true, fmt := 1, ra := 0, imm := 10 }
def s_seti_r0 : State := showing dev0 queue1 0x08 w_seti_r0
/-- SETI to register 0, which discards writes (R306). -/
theorem witness_seti_r0 :
    Shows s_seti_r0 1 w_seti_r0 setiPel queue1 s_seti_r0.dev ∧
    exec (.seti 1 w_seti_r0) s_seti_r0 = .next (s_seti_r0.applied (s_seti_r0.dev.entered 1 queue1 w_seti_r0 0x08) 1 queue1 w_seti_r0 0x08 { regs := [(rn w_seti_r0.ra, w_seti_r0.imm, false)] } (queue1.head + 1)) :=
  ⟨shows_of (by decide +kernel),
   gives_iff.1 (by decide +kernel)⟩

def d_ticks : Dev := { dev0 with power := { dev0.power with ticks := 32768 } }

def w_timer : PWord := { phase := true, fmt := 1, ra := 3, rb := 1, imm := 5 }
def s_timer : State := showing d_ticks q_two 0x07 w_timer
/-- TIMER: one second of Lamp time, rb and imm (R326). -/
theorem witness_timer :
    Shows s_timer 1 w_timer timerPel q_two s_timer.dev ∧
    exec (.timer 1 w_timer) s_timer = .next (s_timer.applied (s_timer.dev.entered 1 q_two w_timer 0x07) 1 q_two w_timer 0x07 { regs := [(3, 1000000012, false)] } (q_two.head + 1)) :=
  ⟨shows_of (by decide +kernel),
   gives_iff.1 (by decide +kernel)⟩

def q_alu : Queue := { queue1 with regs := [(1, 0x8000000000000000), (2, 3)] }

/-- Every operation of ALU (R323), with results worked out by hand; rc + imm is 4. -/
theorem witness_alu_all :
    ((List.range 11).zip [0x8000000000000004#64, 0x7FFFFFFFFFFFFFFC#64, 0#64, 0x8000000000000004#64, 0x8000000000000004#64, 0#64,
      0x0800000000000000#64, 0xF800000000000000#64, 0#64, 4#64, 0x8000000000000000#64]).all (fun e =>
      let w : PWord := { phase := true, fmt := 1, ra := 3, rb := 1, rc := 2, imm := 1, mod := BitVec.ofNat 4 e.1 }
      let s := showing dev0 q_alu 0x09 w
      shows s w aluPel q_alu && gives (exec (.alu 1 w) s) (s.applied (s.dev.entered 1 q_alu w 0x09) 1 q_alu w 0x09
        { regs := [(3, e.2, false)] } 1)) = true := by decide +kernel

def q_mark : Queue := { queue1 with regs := [(1, 7)], marks := 2 }

def w_alu_mark : PWord := { phase := true, fmt := 1, ra := 3, rb := 1, rc := 2 }
def s_alu_mark : State := showing dev0 q_mark 0x09 w_alu_mark
/-- A marked operand faults ALU with 0x020A (R325). -/
theorem witness_alu_mark :
    Shows s_alu_mark 1 w_alu_mark aluPel q_mark s_alu_mark.dev ∧
    (((q_mark).vals w_alu_mark).b.2 = true) ∧
    exec (.alu 1 w_alu_mark) s_alu_mark = .next (s_alu_mark.faulted (s_alu_mark.dev.entered 1 q_mark w_alu_mark 0x09) 1 q_mark w_alu_mark 0x09 0x020A) :=
  ⟨shows_of (by decide +kernel),
   by decide +kernel,
   gives_iff.1 (by decide +kernel)⟩

def w_alu : PWord := { phase := true, fmt := 1, ra := 3, rb := 1, rc := 2, imm := 1 }
def s_alu : State := showing dev0 q_two 0x09 w_alu
/-- ALU adds (R323). -/
theorem witness_alu :
    Shows s_alu 1 w_alu aluPel q_two s_alu.dev ∧
    (((q_two).vals w_alu).b.2 = false ∧ ((q_two).vals w_alu).c.2 = false) ∧
    exec (.alu 1 w_alu) s_alu = .next (s_alu.applied (s_alu.dev.entered 1 q_two w_alu 0x09) 1 q_two w_alu 0x09 { regs := [(3, 17, false)] } (q_two.head + 1)) :=
  ⟨shows_of (by decide +kernel),
   by decide +kernel,
   gives_iff.1 (by decide +kernel)⟩

def w_branch : PWord := { phase := true, fmt := 1, rb := 1, rc := 2, imm := 63, mod := 2 }
def s_branch : State := showing dev0 q_two 0x04 w_branch
/-- BRANCH on unsigned less than, taken (R320). -/
theorem witness_branch :
    Shows s_branch 1 w_branch branchPel q_two s_branch.dev ∧
    (((q_two).vals w_branch).b.2 = false ∧ ((q_two).vals w_branch).c.2 = false) ∧
    exec (.branch 1 w_branch) s_branch = .next (s_branch.applied (s_branch.dev.entered 1 q_two w_branch 0x04) 1 q_two w_branch 0x04 {} 63) :=
  ⟨shows_of (by decide +kernel),
   by decide +kernel,
   gives_iff.1 (by decide +kernel)⟩

def w_branch_falls : PWord := { phase := true, fmt := 1, rb := 1, rc := 2, imm := 63, mod := 0 }
def s_branch_falls : State := showing dev0 q_two 0x04 w_branch_falls
/-- BRANCH on equal, not taken (R320). -/
theorem witness_branch_falls :
    Shows s_branch_falls 1 w_branch_falls branchPel q_two s_branch_falls.dev ∧
    (((q_two).vals w_branch_falls).b.2 = false ∧ ((q_two).vals w_branch_falls).c.2 = false) ∧
    exec (.branch 1 w_branch_falls) s_branch_falls = .next (s_branch_falls.applied (s_branch_falls.dev.entered 1 q_two w_branch_falls 0x04) 1 q_two w_branch_falls 0x04 {} 1) :=
  ⟨shows_of (by decide +kernel),
   by decide +kernel,
   gives_iff.1 (by decide +kernel)⟩

def w_branch_always : PWord := { phase := true, fmt := 1, rb := 1, rc := 2, imm := 1, mod := 6 }
def s_branch_always : State := showing dev0 q_mark 0x04 w_branch_always
/-- BRANCH always, on marked registers (R320, R325). -/
theorem witness_branch_always :
    Shows s_branch_always 1 w_branch_always branchPel q_mark s_branch_always.dev ∧
    (w_branch_always.mod.toNat = 6) ∧
    exec (.branch 1 w_branch_always) s_branch_always = .next (s_branch_always.applied (s_branch_always.dev.entered 1 q_mark w_branch_always 0x04) 1 q_mark w_branch_always 0x04 {} 1) :=
  ⟨shows_of (by decide +kernel),
   by decide +kernel,
   gives_iff.1 (by decide +kernel)⟩

def w_loop_back : PWord := { phase := true, fmt := 1, ra := 1, imm := 1 }
def s_loop_back : State := showing dev0 q_two 0x05 w_loop_back
/-- LOOP goes back (R321). -/
theorem witness_loop_back :
    Shows s_loop_back 1 w_loop_back loopPel q_two s_loop_back.dev ∧
    (q_two.loop = none) ∧
    exec (.loop 1 w_loop_back) s_loop_back = .next (s_loop_back.applied (s_loop_back.dev.entered 1 q_two w_loop_back 0x05) 1 q_two w_loop_back 0x05 { regs := [(1, 6, false)] } 0xFFFFFFFF) :=
  ⟨shows_of (by decide +kernel),
   by decide +kernel,
   gives_iff.1 (by decide +kernel)⟩

def q_last : Queue := { queue1 with regs := [(1, 1)], loop := some (0xFFFFFFFF, 1) }

def w_loop_ends : PWord := { phase := true, fmt := 1, ra := 1, imm := 1 }
def s_loop_ends : State := showing dev0 q_last 0x05 w_loop_ends
/-- The active LOOP ends when its counter is 1 (R321). -/
theorem witness_loop_ends :
    Shows s_loop_ends 1 w_loop_ends loopPel q_last s_loop_ends.dev ∧
    (q_last.loop = some (q_last.head - w_loop_ends.imm.setWidth 32, w_loop_ends.imm.toNat)) ∧
    exec (.loop 1 w_loop_ends) s_loop_ends = .next (s_loop_ends.applied (s_loop_ends.dev.entered 1 q_last w_loop_ends 0x05) 1 q_last w_loop_ends 0x05 { regs := [(1, 0, false)] } 1) :=
  ⟨shows_of (by decide +kernel),
   by decide +kernel,
   gives_iff.1 (by decide +kernel)⟩

def q_other : Queue := { queue1 with regs := [(1, 1)], loop := some (5, 9) }

def w_loop_nested : PWord := { phase := true, fmt := 1, ra := 1, imm := 1 }
def s_loop_nested : State := showing dev0 q_other 0x05 w_loop_nested
/-- A LOOP inside another active loop faults with 0x0215 (R321). -/
theorem witness_loop_nested :
    Shows s_loop_nested 1 w_loop_nested loopPel q_other s_loop_nested.dev ∧
    (q_other.loop = some (5, 9)) ∧
    exec (.loop 1 w_loop_nested) s_loop_nested = .next (s_loop_nested.faulted (s_loop_nested.dev.entered 1 q_other w_loop_nested 0x05) 1 q_other w_loop_nested 0x05 0x0215) :=
  ⟨shows_of (by decide +kernel),
   by decide +kernel,
   gives_iff.1 (by decide +kernel)⟩

def s_illegal : State := showing dev0 queue1 0x0C { phase := true }
/-- An opcode that the map leaves out faults with 0x0201 (R314, R278). -/
theorem witness_illegal : pelmicOf 1 0x800C = .illegalInstruction 1 0x800C ∧
    Stands s_illegal 1 (fieldsOf 0x800C) (illegalPel (opOf 0x800C).toNat) queue1 s_illegal.dev ∧ s_illegal.dev.pages.farBuf = [] ∧
    exec (.illegalInstruction 1 0x800C) s_illegal = .next (s_illegal.applied
      ((s_illegal.dev.entered 1 queue1 (fieldsOf 0x800C) 0x0C).faultEvent 1 0 0x0201 0x0C) 1 queue1 (fieldsOf 0x800C) 0x0C { status := 0x0201 } 1) :=
  ⟨by decide +kernel, stands_of (by decide +kernel), by decide +kernel, gives_iff.1 (by decide +kernel)⟩

/-- The staging area, from byte 1,024 on: 16 words 0x0101010101010101 × i. -/
def d_mem : Dev := { dev0 with mem := { resv := [(16, rline 16 0x0807060504030201), (17, rline 17 0x1111)] } }
def q_off : Queue := { queue1 with regs := [(1, 64), (2, 0xABCD), (3, 8), (4, 100)] }

def w_load : PWord := { phase := true, fmt := 2, ra := 3, rb := 1, swin := 1 }
def s_load : State := showing d_mem q_off 0x0A w_load
def a_load : Area := { resv := true, g := 0, base := 1088, len := 8 }
def e_load : Dev := devOf (Eng.read { (s_load.ctx 1 q_off w_load) with alloc := true } a_load 0 8) (s_load.dev.entered 1 q_off w_load 0x0A)
/-- LOAD of 8 bytes (R324). -/
theorem witness_load :
    Shows s_load 1 w_load loadPel q_off s_load.dev ∧
    (s_load.dev.entered 1 q_off w_load 0x0A).ranges 1 q_off [{ win := w_load.swin.toNat, off := ((q_off).vals w_load).b.1.toNat + w_load.imm.toNat, len := 8, align := 8 }] false false = .ok [a_load] ∧
    (Eng.read { (s_load.ctx 1 q_off w_load) with alloc := true } a_load 0 8).run (s_load.dev.entered 1 q_off w_load 0x0A) = .ok (valOf (Eng.read { (s_load.ctx 1 q_off w_load) with alloc := true } a_load 0 8) (s_load.dev.entered 1 q_off w_load 0x0A), devOf (Eng.read { (s_load.ctx 1 q_off w_load) with alloc := true } a_load 0 8) (s_load.dev.entered 1 q_off w_load 0x0A)) ∧
    exec (.load 1 w_load) s_load = .next (s_load.applied e_load 1 q_off w_load 0x0A { regs := [(3, 0x1111, false)] } (q_off.head + 1)) :=
  ⟨shows_of (by decide +kernel),
   ok_of (by decide +kernel),
   run_of (by decide +kernel),
   gives_iff.1 (by decide +kernel)⟩

def w_store : PWord := { phase := true, fmt := 3, rb := 1, rc := 2, dwin := 1 }
def s_store : State := showing d_mem q_off 0x0B w_store
def a_store : Area := { resv := true, g := 0, base := 1088, len := 8 }
/-- STORE of 8 bytes (R324). -/
theorem witness_store :
    Shows s_store 1 w_store storePel q_off s_store.dev ∧
    (s_store.dev.entered 1 q_off w_store 0x0B).ranges 1 q_off [{ win := w_store.dwin.toNat, off := ((q_off).vals w_store).b.1.toNat + w_store.imm.toNat, len := 8, right := 1, align := 8 }] false false = .ok [a_store] ∧
    exec (.store 1 w_store) s_store = .next (s_store.applied ((s_store.dev.entered 1 q_off w_store 0x0B).writeAt (s_store.ctx 1 q_off w_store) a_store 0 ((bytesOfNat 8 ((q_off).vals w_store).c.1.toNat).map fun b => (b, ((q_off).vals w_store).c.2))) 1 q_off w_store 0x0B {} (q_off.head + 1)) :=
  ⟨shows_of (by decide +kernel),
   ok_of (by decide +kernel),
   gives_iff.1 (by decide +kernel)⟩

def w_wait_time : PWord := { phase := true, fmt := 2, ra := 3, rb := 1 }
def s_wait_time : State := showing d_ticks q_two 0x06 w_wait_time
/-- WAIT for a device time that has come (R327). -/
theorem witness_wait_time :
    Shows s_wait_time 1 w_wait_time waitPel q_two s_wait_time.dev ∧
    (w_wait_time.mod.getLsbD 0 = false ∧ ((q_two).vals w_wait_time).b.1.toNat ≤ s_wait_time.dev.timeNs) ∧
    exec (.wait 1 w_wait_time) s_wait_time = .next (s_wait_time.applied (s_wait_time.dev.entered 1 q_two w_wait_time 0x06) 1 q_two w_wait_time 0x06 { regs := [(3, 1000000000, false)] } (q_two.head + 1)) :=
  ⟨shows_of (by decide +kernel),
   by decide +kernel,
   gives_iff.1 (by decide +kernel)⟩

def w_wait_word : PWord := { phase := true, fmt := 2, ra := 3, rb := 1, rc := 2, swin := 1, mod := 3, imm := 100 }
def s_wait_word : State := showing d_mem q_off 0x06 w_wait_word
def a_wait_word : Area := { resv := true, g := 0, base := 1088, len := 8 }
def e_wait_word : Dev := devOf (Eng.read { (s_wait_word.ctx 1 q_off w_wait_word) with alloc := true } a_wait_word 0 8) (s_wait_word.dev.entered 1 q_off w_wait_word 0x06)
/-- WAIT on a word that already holds (R327): 0x1111 differs from 0xABCD. -/
theorem witness_wait_word :
    Shows s_wait_word 1 w_wait_word waitPel q_off s_wait_word.dev ∧
    (s_wait_word.dev.entered 1 q_off w_wait_word 0x06).ranges 1 q_off [{ win := w_wait_word.swin.toNat, off := ((q_off).vals w_wait_word).b.1.toNat, len := 8, align := 8 }] false false = .ok [a_wait_word] ∧
    (Eng.read { (s_wait_word.ctx 1 q_off w_wait_word) with alloc := true } a_wait_word 0 8).run (s_wait_word.dev.entered 1 q_off w_wait_word 0x06) = .ok (valOf (Eng.read { (s_wait_word.ctx 1 q_off w_wait_word) with alloc := true } a_wait_word 0 8) (s_wait_word.dev.entered 1 q_off w_wait_word 0x06), devOf (Eng.read { (s_wait_word.ctx 1 q_off w_wait_word) with alloc := true } a_wait_word 0 8) (s_wait_word.dev.entered 1 q_off w_wait_word 0x06)) ∧
    (w_wait_word.mod.getLsbD 0 = true ∧ ((q_off).vals w_wait_word).c.2 = false ∧ (valOf (Eng.read { (s_wait_word.ctx 1 q_off w_wait_word) with alloc := true } a_wait_word 0 8) (s_wait_word.dev.entered 1 q_off w_wait_word 0x06)).any Prod.snd = false) ∧
    exec (.wait 1 w_wait_word) s_wait_word = .next (s_wait_word.applied e_wait_word 1 q_off w_wait_word 0x06 { regs := [(3, 0x1111, false)] } (q_off.head + 1)) :=
  ⟨shows_of (by decide +kernel),
   ok_of (by decide +kernel),
   run_of (by decide +kernel),
   by decide +kernel,
   gives_iff.1 (by decide +kernel)⟩

def w_wait_polls : PWord := { phase := true, fmt := 2, ra := 3, rb := 1, rc := 2, swin := 1, mod := 1 }
def s_wait_polls : State := showing d_mem q_off 0x06 w_wait_polls
def a_wait_polls : Area := { resv := true, g := 0, base := 1088, len := 8 }
def e_wait_polls : Dev := devOf (Eng.read { (s_wait_polls.ctx 1 q_off w_wait_polls) with alloc := true } a_wait_polls 0 8) (s_wait_polls.dev.entered 1 q_off w_wait_polls 0x06)
/-- WAIT on a word with timeout 0 ends with 0x0101 (R327). -/
theorem witness_wait_polls :
    Shows s_wait_polls 1 w_wait_polls waitPel q_off s_wait_polls.dev ∧
    (s_wait_polls.dev.entered 1 q_off w_wait_polls 0x06).ranges 1 q_off [{ win := w_wait_polls.swin.toNat, off := ((q_off).vals w_wait_polls).b.1.toNat, len := 8, align := 8 }] false false = .ok [a_wait_polls] ∧
    (Eng.read { (s_wait_polls.ctx 1 q_off w_wait_polls) with alloc := true } a_wait_polls 0 8).run (s_wait_polls.dev.entered 1 q_off w_wait_polls 0x06) = .ok (valOf (Eng.read { (s_wait_polls.ctx 1 q_off w_wait_polls) with alloc := true } a_wait_polls 0 8) (s_wait_polls.dev.entered 1 q_off w_wait_polls 0x06), devOf (Eng.read { (s_wait_polls.ctx 1 q_off w_wait_polls) with alloc := true } a_wait_polls 0 8) (s_wait_polls.dev.entered 1 q_off w_wait_polls 0x06)) ∧
    (w_wait_polls.mod.getLsbD 0 = true ∧ ((q_off).vals w_wait_polls).c.2 = false ∧ (valOf (Eng.read { (s_wait_polls.ctx 1 q_off w_wait_polls) with alloc := true } a_wait_polls 0 8) (s_wait_polls.dev.entered 1 q_off w_wait_polls 0x06)).any Prod.snd = false) ∧
    (w_wait_polls.imm = 0) ∧
    exec (.wait 1 w_wait_polls) s_wait_polls = .next (s_wait_polls.applied e_wait_polls 1 q_off w_wait_polls 0x06 { status := 0x0101, regs := [(3, 0x1111, false)] } (q_off.head + 1)) :=
  ⟨shows_of (by decide +kernel),
   ok_of (by decide +kernel),
   run_of (by decide +kernel),
   by decide +kernel,
   by decide +kernel,
   gives_iff.1 (by decide +kernel)⟩

/-- Grotto 3 in service: one unit committed under key 1, its page 0 hot, and line 0 of that page in the near cache. -/
def d_page : Dev := { dev0 with
  grottos := [(3, { state := 1, keyId := 1, committed := 1, chanMask := 0xFFFF, mapBase := 0x10000 })], keys := [(1, 5)],
  pages := { area := [(0x10000, mkEntry true 1 0 0 0 100)] }, chans := [(0, { state := 3, frames := 1000, ranks := 1 })],
  slices := { nc := [(lineKey 3 0, { data := 0x0000000000000014FFFFFFFFFFFFFFF6 })] } }
def q_atom : Queue := { queue1 with regs := [(1, 5), (3, 0), (4, 0xFFFFFFFFFFFFFFF6), (5, 0x14), (8, 5)] }

def w_add : PWord := { phase := true, fmt := 3, ra := 6, rb := 1, rc := 3, dwin := 2 }
def s_add : State := showing d_page q_atom 0x80 w_add
def a_add : Area := { resv := false, g := 3, base := 0, len := 8 }
def y_add : LineData := (valOf (Eng.line { (s_add.ctx 1 q_atom w_add) with alloc := true } 3 0) (devOf (Eng.own (s_add.ctx 1 q_atom w_add) 3 0) (s_add.dev.entered 1 q_atom w_add 0x80))).1
def e_add : Dev := devOf (Eng.own (s_add.ctx 1 q_atom w_add) 3 0) (s_add.dev.entered 1 q_atom w_add 0x80)
def f_add : Dev := devOf (Eng.line { (s_add.ctx 1 q_atom w_add) with alloc := true } 3 0) e_add
/-- ADD on 8 bytes (R343, R344). -/
theorem witness_add :
    Shows s_add 1 w_add (atomicPel 0x80) q_atom s_add.dev ∧
    (((q_atom).vals w_add).b.2 = false ∧ ((q_atom).vals w_add).b1.2 = false ∧ ((q_atom).vals w_add).a.2 = false ∧ ((q_atom).vals w_add).a1.2 = false) ∧
    (s_add.dev.entered 1 q_atom w_add 0x80).ranges 1 q_atom [{ win := w_add.dwin.toNat, off := ((q_atom).vals w_add).c.1.toNat + w_add.imm.toNat, len := 8, right := 2, align := 8 }] false false = .ok [a_add] ∧
    (Eng.own (s_add.ctx 1 q_atom w_add) 3 0).run (s_add.dev.entered 1 q_atom w_add 0x80) = .ok (valOf (Eng.own (s_add.ctx 1 q_atom w_add) 3 0) (s_add.dev.entered 1 q_atom w_add 0x80), devOf (Eng.own (s_add.ctx 1 q_atom w_add) 3 0) (s_add.dev.entered 1 q_atom w_add 0x80)) ∧
    (Eng.line { (s_add.ctx 1 q_atom w_add) with alloc := true } 3 0).run e_add = .ok (valOf (Eng.line { (s_add.ctx 1 q_atom w_add) with alloc := true } 3 0) e_add, devOf (Eng.line { (s_add.ctx 1 q_atom w_add) with alloc := true } 3 0) e_add) ∧
    (Eng.roomFor 3 0).run f_add = .ok (valOf (Eng.roomFor 3 0) f_add, devOf (Eng.roomFor 3 0) f_add) ∧
    (valOf (Eng.line { (s_add.ctx 1 q_atom w_add) with alloc := true } 3 0) e_add = (y_add, false) ∧ devOf (Eng.roomFor 3 0) f_add = f_add) ∧
    exec (.add 1 w_add) s_add = .next (s_add.applied (f_add.applyWrite ((s_add.ctx 1 q_atom w_add).req 3 0 (.write fullMask (mergeLine y_add (BitVec.ofNat 512 0xFFFFFFFFFFFFFFFB) (maskRange 0 8)) false)) fullMask (mergeLine y_add (BitVec.ofNat 512 0xFFFFFFFFFFFFFFFB) (maskRange 0 8)) false) 1 q_atom w_add 0x80 { r0 := some 0xFFFFFFFFFFFFFFF6, regs := [(6, 0xFFFFFFFFFFFFFFF6, false)], work := [homeSlice 3 0] } (q_atom.head + 1)) :=
  ⟨shows_of (by decide +kernel),
   by decide +kernel,
   ok_of (by decide +kernel),
   run_of (by decide +kernel),
   run_of (by decide +kernel),
   run_of (by decide +kernel),
   by decide +kernel,
   gives_iff.1 (by decide +kernel)⟩

def w_cas : PWord := { phase := true, fmt := 3, ra := 4, rb := 1, rc := 3, dwin := 2 }
def s_cas : State := showing d_page q_atom 0x81 w_cas
def a_cas : Area := { resv := false, g := 3, base := 0, len := 8 }
def y_cas : LineData := (valOf (Eng.line { (s_cas.ctx 1 q_atom w_cas) with alloc := true } 3 0) (devOf (Eng.own (s_cas.ctx 1 q_atom w_cas) 3 0) (s_cas.dev.entered 1 q_atom w_cas 0x81))).1
def e_cas : Dev := devOf (Eng.own (s_cas.ctx 1 q_atom w_cas) 3 0) (s_cas.dev.entered 1 q_atom w_cas 0x81)
def f_cas : Dev := devOf (Eng.line { (s_cas.ctx 1 q_atom w_cas) with alloc := true } 3 0) e_cas
/-- CAS on 8 bytes (R343, R344). -/
theorem witness_cas :
    Shows s_cas 1 w_cas (atomicPel 0x81) q_atom s_cas.dev ∧
    (((q_atom).vals w_cas).b.2 = false ∧ ((q_atom).vals w_cas).b1.2 = false ∧ ((q_atom).vals w_cas).a.2 = false ∧ ((q_atom).vals w_cas).a1.2 = false) ∧
    (s_cas.dev.entered 1 q_atom w_cas 0x81).ranges 1 q_atom [{ win := w_cas.dwin.toNat, off := ((q_atom).vals w_cas).c.1.toNat + w_cas.imm.toNat, len := 8, right := 2, align := 8 }] false false = .ok [a_cas] ∧
    (Eng.own (s_cas.ctx 1 q_atom w_cas) 3 0).run (s_cas.dev.entered 1 q_atom w_cas 0x81) = .ok (valOf (Eng.own (s_cas.ctx 1 q_atom w_cas) 3 0) (s_cas.dev.entered 1 q_atom w_cas 0x81), devOf (Eng.own (s_cas.ctx 1 q_atom w_cas) 3 0) (s_cas.dev.entered 1 q_atom w_cas 0x81)) ∧
    (Eng.line { (s_cas.ctx 1 q_atom w_cas) with alloc := true } 3 0).run e_cas = .ok (valOf (Eng.line { (s_cas.ctx 1 q_atom w_cas) with alloc := true } 3 0) e_cas, devOf (Eng.line { (s_cas.ctx 1 q_atom w_cas) with alloc := true } 3 0) e_cas) ∧
    (Eng.roomFor 3 0).run f_cas = .ok (valOf (Eng.roomFor 3 0) f_cas, devOf (Eng.roomFor 3 0) f_cas) ∧
    (valOf (Eng.line { (s_cas.ctx 1 q_atom w_cas) with alloc := true } 3 0) e_cas = (y_cas, false) ∧ devOf (Eng.roomFor 3 0) f_cas = f_cas) ∧
    exec (.cas 1 w_cas) s_cas = .next (s_cas.applied (f_cas.applyWrite ((s_cas.ctx 1 q_atom w_cas).req 3 0 (.write fullMask (mergeLine y_cas (BitVec.ofNat 512 5) (maskRange 0 8)) false)) fullMask (mergeLine y_cas (BitVec.ofNat 512 5) (maskRange 0 8)) false) 1 q_atom w_cas 0x81 { r0 := some 0xFFFFFFFFFFFFFFF6, regs := [(4, 0xFFFFFFFFFFFFFFF6, false)], work := [homeSlice 3 0] } (q_atom.head + 1)) :=
  ⟨shows_of (by decide +kernel),
   by decide +kernel,
   ok_of (by decide +kernel),
   run_of (by decide +kernel),
   run_of (by decide +kernel),
   run_of (by decide +kernel),
   by decide +kernel,
   gives_iff.1 (by decide +kernel)⟩

def w_swap : PWord := { phase := true, fmt := 3, ra := 6, rb := 1, rc := 3, dwin := 2 }
def s_swap : State := showing d_page q_atom 0x82 w_swap
def a_swap : Area := { resv := false, g := 3, base := 0, len := 8 }
def y_swap : LineData := (valOf (Eng.line { (s_swap.ctx 1 q_atom w_swap) with alloc := true } 3 0) (devOf (Eng.own (s_swap.ctx 1 q_atom w_swap) 3 0) (s_swap.dev.entered 1 q_atom w_swap 0x82))).1
def e_swap : Dev := devOf (Eng.own (s_swap.ctx 1 q_atom w_swap) 3 0) (s_swap.dev.entered 1 q_atom w_swap 0x82)
def f_swap : Dev := devOf (Eng.line { (s_swap.ctx 1 q_atom w_swap) with alloc := true } 3 0) e_swap
/-- SWAP on 8 bytes (R343, R344). -/
theorem witness_swap :
    Shows s_swap 1 w_swap (atomicPel 0x82) q_atom s_swap.dev ∧
    (((q_atom).vals w_swap).b.2 = false ∧ ((q_atom).vals w_swap).b1.2 = false ∧ ((q_atom).vals w_swap).a.2 = false ∧ ((q_atom).vals w_swap).a1.2 = false) ∧
    (s_swap.dev.entered 1 q_atom w_swap 0x82).ranges 1 q_atom [{ win := w_swap.dwin.toNat, off := ((q_atom).vals w_swap).c.1.toNat + w_swap.imm.toNat, len := 8, right := 2, align := 8 }] false false = .ok [a_swap] ∧
    (Eng.own (s_swap.ctx 1 q_atom w_swap) 3 0).run (s_swap.dev.entered 1 q_atom w_swap 0x82) = .ok (valOf (Eng.own (s_swap.ctx 1 q_atom w_swap) 3 0) (s_swap.dev.entered 1 q_atom w_swap 0x82), devOf (Eng.own (s_swap.ctx 1 q_atom w_swap) 3 0) (s_swap.dev.entered 1 q_atom w_swap 0x82)) ∧
    (Eng.line { (s_swap.ctx 1 q_atom w_swap) with alloc := true } 3 0).run e_swap = .ok (valOf (Eng.line { (s_swap.ctx 1 q_atom w_swap) with alloc := true } 3 0) e_swap, devOf (Eng.line { (s_swap.ctx 1 q_atom w_swap) with alloc := true } 3 0) e_swap) ∧
    (Eng.roomFor 3 0).run f_swap = .ok (valOf (Eng.roomFor 3 0) f_swap, devOf (Eng.roomFor 3 0) f_swap) ∧
    (valOf (Eng.line { (s_swap.ctx 1 q_atom w_swap) with alloc := true } 3 0) e_swap = (y_swap, false) ∧ devOf (Eng.roomFor 3 0) f_swap = f_swap) ∧
    exec (.swap 1 w_swap) s_swap = .next (s_swap.applied (f_swap.applyWrite ((s_swap.ctx 1 q_atom w_swap).req 3 0 (.write fullMask (mergeLine y_swap (BitVec.ofNat 512 5) (maskRange 0 8)) false)) fullMask (mergeLine y_swap (BitVec.ofNat 512 5) (maskRange 0 8)) false) 1 q_atom w_swap 0x82 { r0 := some 0xFFFFFFFFFFFFFFF6, regs := [(6, 0xFFFFFFFFFFFFFFF6, false)], work := [homeSlice 3 0] } (q_atom.head + 1)) :=
  ⟨shows_of (by decide +kernel),
   by decide +kernel,
   ok_of (by decide +kernel),
   run_of (by decide +kernel),
   run_of (by decide +kernel),
   run_of (by decide +kernel),
   by decide +kernel,
   gives_iff.1 (by decide +kernel)⟩

def w_smin : PWord := { phase := true, fmt := 3, ra := 6, rb := 1, rc := 3, dwin := 2 }
def s_smin : State := showing d_page q_atom 0x83 w_smin
def a_smin : Area := { resv := false, g := 3, base := 0, len := 8 }
def y_smin : LineData := (valOf (Eng.line { (s_smin.ctx 1 q_atom w_smin) with alloc := true } 3 0) (devOf (Eng.own (s_smin.ctx 1 q_atom w_smin) 3 0) (s_smin.dev.entered 1 q_atom w_smin 0x83))).1
def e_smin : Dev := devOf (Eng.own (s_smin.ctx 1 q_atom w_smin) 3 0) (s_smin.dev.entered 1 q_atom w_smin 0x83)
def f_smin : Dev := devOf (Eng.line { (s_smin.ctx 1 q_atom w_smin) with alloc := true } 3 0) e_smin
/-- SMIN: -10 is below 5 (R343). -/
theorem witness_smin :
    Shows s_smin 1 w_smin (atomicPel 0x83) q_atom s_smin.dev ∧
    (((q_atom).vals w_smin).b.2 = false ∧ ((q_atom).vals w_smin).b1.2 = false ∧ ((q_atom).vals w_smin).a.2 = false ∧ ((q_atom).vals w_smin).a1.2 = false) ∧
    (s_smin.dev.entered 1 q_atom w_smin 0x83).ranges 1 q_atom [{ win := w_smin.dwin.toNat, off := ((q_atom).vals w_smin).c.1.toNat + w_smin.imm.toNat, len := 8, right := 2, align := 8 }] false false = .ok [a_smin] ∧
    (Eng.own (s_smin.ctx 1 q_atom w_smin) 3 0).run (s_smin.dev.entered 1 q_atom w_smin 0x83) = .ok (valOf (Eng.own (s_smin.ctx 1 q_atom w_smin) 3 0) (s_smin.dev.entered 1 q_atom w_smin 0x83), devOf (Eng.own (s_smin.ctx 1 q_atom w_smin) 3 0) (s_smin.dev.entered 1 q_atom w_smin 0x83)) ∧
    (Eng.line { (s_smin.ctx 1 q_atom w_smin) with alloc := true } 3 0).run e_smin = .ok (valOf (Eng.line { (s_smin.ctx 1 q_atom w_smin) with alloc := true } 3 0) e_smin, devOf (Eng.line { (s_smin.ctx 1 q_atom w_smin) with alloc := true } 3 0) e_smin) ∧
    (Eng.roomFor 3 0).run f_smin = .ok (valOf (Eng.roomFor 3 0) f_smin, devOf (Eng.roomFor 3 0) f_smin) ∧
    (valOf (Eng.line { (s_smin.ctx 1 q_atom w_smin) with alloc := true } 3 0) e_smin = (y_smin, false) ∧ devOf (Eng.roomFor 3 0) f_smin = f_smin) ∧
    exec (.smin 1 w_smin) s_smin = .next (s_smin.applied (f_smin.applyWrite ((s_smin.ctx 1 q_atom w_smin).req 3 0 (.write fullMask (mergeLine y_smin (BitVec.ofNat 512 0xFFFFFFFFFFFFFFF6) (maskRange 0 8)) false)) fullMask (mergeLine y_smin (BitVec.ofNat 512 0xFFFFFFFFFFFFFFF6) (maskRange 0 8)) false) 1 q_atom w_smin 0x83 { r0 := some 0xFFFFFFFFFFFFFFF6, regs := [(6, 0xFFFFFFFFFFFFFFF6, false)], work := [homeSlice 3 0] } (q_atom.head + 1)) :=
  ⟨shows_of (by decide +kernel),
   by decide +kernel,
   ok_of (by decide +kernel),
   run_of (by decide +kernel),
   run_of (by decide +kernel),
   run_of (by decide +kernel),
   by decide +kernel,
   gives_iff.1 (by decide +kernel)⟩

def w_umin : PWord := { phase := true, fmt := 3, ra := 6, rb := 1, rc := 3, dwin := 2 }
def s_umin : State := showing d_page q_atom 0x84 w_umin
def a_umin : Area := { resv := false, g := 3, base := 0, len := 8 }
def y_umin : LineData := (valOf (Eng.line { (s_umin.ctx 1 q_atom w_umin) with alloc := true } 3 0) (devOf (Eng.own (s_umin.ctx 1 q_atom w_umin) 3 0) (s_umin.dev.entered 1 q_atom w_umin 0x84))).1
def e_umin : Dev := devOf (Eng.own (s_umin.ctx 1 q_atom w_umin) 3 0) (s_umin.dev.entered 1 q_atom w_umin 0x84)
def f_umin : Dev := devOf (Eng.line { (s_umin.ctx 1 q_atom w_umin) with alloc := true } 3 0) e_umin
/-- UMIN on 8 bytes (R343, R344). -/
theorem witness_umin :
    Shows s_umin 1 w_umin (atomicPel 0x84) q_atom s_umin.dev ∧
    (((q_atom).vals w_umin).b.2 = false ∧ ((q_atom).vals w_umin).b1.2 = false ∧ ((q_atom).vals w_umin).a.2 = false ∧ ((q_atom).vals w_umin).a1.2 = false) ∧
    (s_umin.dev.entered 1 q_atom w_umin 0x84).ranges 1 q_atom [{ win := w_umin.dwin.toNat, off := ((q_atom).vals w_umin).c.1.toNat + w_umin.imm.toNat, len := 8, right := 2, align := 8 }] false false = .ok [a_umin] ∧
    (Eng.own (s_umin.ctx 1 q_atom w_umin) 3 0).run (s_umin.dev.entered 1 q_atom w_umin 0x84) = .ok (valOf (Eng.own (s_umin.ctx 1 q_atom w_umin) 3 0) (s_umin.dev.entered 1 q_atom w_umin 0x84), devOf (Eng.own (s_umin.ctx 1 q_atom w_umin) 3 0) (s_umin.dev.entered 1 q_atom w_umin 0x84)) ∧
    (Eng.line { (s_umin.ctx 1 q_atom w_umin) with alloc := true } 3 0).run e_umin = .ok (valOf (Eng.line { (s_umin.ctx 1 q_atom w_umin) with alloc := true } 3 0) e_umin, devOf (Eng.line { (s_umin.ctx 1 q_atom w_umin) with alloc := true } 3 0) e_umin) ∧
    (Eng.roomFor 3 0).run f_umin = .ok (valOf (Eng.roomFor 3 0) f_umin, devOf (Eng.roomFor 3 0) f_umin) ∧
    (valOf (Eng.line { (s_umin.ctx 1 q_atom w_umin) with alloc := true } 3 0) e_umin = (y_umin, false) ∧ devOf (Eng.roomFor 3 0) f_umin = f_umin) ∧
    exec (.umin 1 w_umin) s_umin = .next (s_umin.applied (f_umin.applyWrite ((s_umin.ctx 1 q_atom w_umin).req 3 0 (.write fullMask (mergeLine y_umin (BitVec.ofNat 512 5) (maskRange 0 8)) false)) fullMask (mergeLine y_umin (BitVec.ofNat 512 5) (maskRange 0 8)) false) 1 q_atom w_umin 0x84 { r0 := some 0xFFFFFFFFFFFFFFF6, regs := [(6, 0xFFFFFFFFFFFFFFF6, false)], work := [homeSlice 3 0] } (q_atom.head + 1)) :=
  ⟨shows_of (by decide +kernel),
   by decide +kernel,
   ok_of (by decide +kernel),
   run_of (by decide +kernel),
   run_of (by decide +kernel),
   run_of (by decide +kernel),
   by decide +kernel,
   gives_iff.1 (by decide +kernel)⟩

def w_smax : PWord := { phase := true, fmt := 3, ra := 6, rb := 1, rc := 3, dwin := 2 }
def s_smax : State := showing d_page q_atom 0x85 w_smax
def a_smax : Area := { resv := false, g := 3, base := 0, len := 8 }
def y_smax : LineData := (valOf (Eng.line { (s_smax.ctx 1 q_atom w_smax) with alloc := true } 3 0) (devOf (Eng.own (s_smax.ctx 1 q_atom w_smax) 3 0) (s_smax.dev.entered 1 q_atom w_smax 0x85))).1
def e_smax : Dev := devOf (Eng.own (s_smax.ctx 1 q_atom w_smax) 3 0) (s_smax.dev.entered 1 q_atom w_smax 0x85)
def f_smax : Dev := devOf (Eng.line { (s_smax.ctx 1 q_atom w_smax) with alloc := true } 3 0) e_smax
/-- SMAX on 8 bytes (R343, R344). -/
theorem witness_smax :
    Shows s_smax 1 w_smax (atomicPel 0x85) q_atom s_smax.dev ∧
    (((q_atom).vals w_smax).b.2 = false ∧ ((q_atom).vals w_smax).b1.2 = false ∧ ((q_atom).vals w_smax).a.2 = false ∧ ((q_atom).vals w_smax).a1.2 = false) ∧
    (s_smax.dev.entered 1 q_atom w_smax 0x85).ranges 1 q_atom [{ win := w_smax.dwin.toNat, off := ((q_atom).vals w_smax).c.1.toNat + w_smax.imm.toNat, len := 8, right := 2, align := 8 }] false false = .ok [a_smax] ∧
    (Eng.own (s_smax.ctx 1 q_atom w_smax) 3 0).run (s_smax.dev.entered 1 q_atom w_smax 0x85) = .ok (valOf (Eng.own (s_smax.ctx 1 q_atom w_smax) 3 0) (s_smax.dev.entered 1 q_atom w_smax 0x85), devOf (Eng.own (s_smax.ctx 1 q_atom w_smax) 3 0) (s_smax.dev.entered 1 q_atom w_smax 0x85)) ∧
    (Eng.line { (s_smax.ctx 1 q_atom w_smax) with alloc := true } 3 0).run e_smax = .ok (valOf (Eng.line { (s_smax.ctx 1 q_atom w_smax) with alloc := true } 3 0) e_smax, devOf (Eng.line { (s_smax.ctx 1 q_atom w_smax) with alloc := true } 3 0) e_smax) ∧
    (Eng.roomFor 3 0).run f_smax = .ok (valOf (Eng.roomFor 3 0) f_smax, devOf (Eng.roomFor 3 0) f_smax) ∧
    (valOf (Eng.line { (s_smax.ctx 1 q_atom w_smax) with alloc := true } 3 0) e_smax = (y_smax, false) ∧ devOf (Eng.roomFor 3 0) f_smax = f_smax) ∧
    exec (.smax 1 w_smax) s_smax = .next (s_smax.applied (f_smax.applyWrite ((s_smax.ctx 1 q_atom w_smax).req 3 0 (.write fullMask (mergeLine y_smax (BitVec.ofNat 512 5) (maskRange 0 8)) false)) fullMask (mergeLine y_smax (BitVec.ofNat 512 5) (maskRange 0 8)) false) 1 q_atom w_smax 0x85 { r0 := some 0xFFFFFFFFFFFFFFF6, regs := [(6, 0xFFFFFFFFFFFFFFF6, false)], work := [homeSlice 3 0] } (q_atom.head + 1)) :=
  ⟨shows_of (by decide +kernel),
   by decide +kernel,
   ok_of (by decide +kernel),
   run_of (by decide +kernel),
   run_of (by decide +kernel),
   run_of (by decide +kernel),
   by decide +kernel,
   gives_iff.1 (by decide +kernel)⟩

def w_umax : PWord := { phase := true, fmt := 3, ra := 6, rb := 1, rc := 3, dwin := 2 }
def s_umax : State := showing d_page q_atom 0x86 w_umax
def a_umax : Area := { resv := false, g := 3, base := 0, len := 8 }
def y_umax : LineData := (valOf (Eng.line { (s_umax.ctx 1 q_atom w_umax) with alloc := true } 3 0) (devOf (Eng.own (s_umax.ctx 1 q_atom w_umax) 3 0) (s_umax.dev.entered 1 q_atom w_umax 0x86))).1
def e_umax : Dev := devOf (Eng.own (s_umax.ctx 1 q_atom w_umax) 3 0) (s_umax.dev.entered 1 q_atom w_umax 0x86)
def f_umax : Dev := devOf (Eng.line { (s_umax.ctx 1 q_atom w_umax) with alloc := true } 3 0) e_umax
/-- UMAX on 8 bytes (R343, R344). -/
theorem witness_umax :
    Shows s_umax 1 w_umax (atomicPel 0x86) q_atom s_umax.dev ∧
    (((q_atom).vals w_umax).b.2 = false ∧ ((q_atom).vals w_umax).b1.2 = false ∧ ((q_atom).vals w_umax).a.2 = false ∧ ((q_atom).vals w_umax).a1.2 = false) ∧
    (s_umax.dev.entered 1 q_atom w_umax 0x86).ranges 1 q_atom [{ win := w_umax.dwin.toNat, off := ((q_atom).vals w_umax).c.1.toNat + w_umax.imm.toNat, len := 8, right := 2, align := 8 }] false false = .ok [a_umax] ∧
    (Eng.own (s_umax.ctx 1 q_atom w_umax) 3 0).run (s_umax.dev.entered 1 q_atom w_umax 0x86) = .ok (valOf (Eng.own (s_umax.ctx 1 q_atom w_umax) 3 0) (s_umax.dev.entered 1 q_atom w_umax 0x86), devOf (Eng.own (s_umax.ctx 1 q_atom w_umax) 3 0) (s_umax.dev.entered 1 q_atom w_umax 0x86)) ∧
    (Eng.line { (s_umax.ctx 1 q_atom w_umax) with alloc := true } 3 0).run e_umax = .ok (valOf (Eng.line { (s_umax.ctx 1 q_atom w_umax) with alloc := true } 3 0) e_umax, devOf (Eng.line { (s_umax.ctx 1 q_atom w_umax) with alloc := true } 3 0) e_umax) ∧
    (Eng.roomFor 3 0).run f_umax = .ok (valOf (Eng.roomFor 3 0) f_umax, devOf (Eng.roomFor 3 0) f_umax) ∧
    (valOf (Eng.line { (s_umax.ctx 1 q_atom w_umax) with alloc := true } 3 0) e_umax = (y_umax, false) ∧ devOf (Eng.roomFor 3 0) f_umax = f_umax) ∧
    exec (.umax 1 w_umax) s_umax = .next (s_umax.applied (f_umax.applyWrite ((s_umax.ctx 1 q_atom w_umax).req 3 0 (.write fullMask (mergeLine y_umax (BitVec.ofNat 512 0xFFFFFFFFFFFFFFF6) (maskRange 0 8)) false)) fullMask (mergeLine y_umax (BitVec.ofNat 512 0xFFFFFFFFFFFFFFF6) (maskRange 0 8)) false) 1 q_atom w_umax 0x86 { r0 := some 0xFFFFFFFFFFFFFFF6, regs := [(6, 0xFFFFFFFFFFFFFFF6, false)], work := [homeSlice 3 0] } (q_atom.head + 1)) :=
  ⟨shows_of (by decide +kernel),
   by decide +kernel,
   ok_of (by decide +kernel),
   run_of (by decide +kernel),
   run_of (by decide +kernel),
   run_of (by decide +kernel),
   by decide +kernel,
   gives_iff.1 (by decide +kernel)⟩

def w_add_wide : PWord := { phase := true, fmt := 3, ra := 6, rb := 8, rc := 3, dwin := 2, mod := 1 }
def s_add_wide : State := showing d_page q_atom 0x80 w_add_wide
def a_add_wide : Area := { resv := false, g := 3, base := 0, len := 16 }
def y_add_wide : LineData := (valOf (Eng.line { (s_add_wide.ctx 1 q_atom w_add_wide) with alloc := true } 3 0) (devOf (Eng.own (s_add_wide.ctx 1 q_atom w_add_wide) 3 0) (s_add_wide.dev.entered 1 q_atom w_add_wide 0x80))).1
def e_add_wide : Dev := devOf (Eng.own (s_add_wide.ctx 1 q_atom w_add_wide) 3 0) (s_add_wide.dev.entered 1 q_atom w_add_wide 0x80)
def f_add_wide : Dev := devOf (Eng.line { (s_add_wide.ctx 1 q_atom w_add_wide) with alloc := true } 3 0) e_add_wide
/-- ADD on 16 bytes (R344): rb and rb + 1. -/
theorem witness_add_wide :
    Shows s_add_wide 1 w_add_wide (atomicPel 0x80) q_atom s_add_wide.dev ∧
    (((q_atom).vals w_add_wide).b.2 = false ∧ ((q_atom).vals w_add_wide).b1.2 = false ∧ ((q_atom).vals w_add_wide).a.2 = false ∧ ((q_atom).vals w_add_wide).a1.2 = false) ∧
    (s_add_wide.dev.entered 1 q_atom w_add_wide 0x80).ranges 1 q_atom [{ win := w_add_wide.dwin.toNat, off := ((q_atom).vals w_add_wide).c.1.toNat + w_add_wide.imm.toNat, len := 16, right := 2, align := 16 }] false false = .ok [a_add_wide] ∧
    (Eng.own (s_add_wide.ctx 1 q_atom w_add_wide) 3 0).run (s_add_wide.dev.entered 1 q_atom w_add_wide 0x80) = .ok (valOf (Eng.own (s_add_wide.ctx 1 q_atom w_add_wide) 3 0) (s_add_wide.dev.entered 1 q_atom w_add_wide 0x80), devOf (Eng.own (s_add_wide.ctx 1 q_atom w_add_wide) 3 0) (s_add_wide.dev.entered 1 q_atom w_add_wide 0x80)) ∧
    (Eng.line { (s_add_wide.ctx 1 q_atom w_add_wide) with alloc := true } 3 0).run e_add_wide = .ok (valOf (Eng.line { (s_add_wide.ctx 1 q_atom w_add_wide) with alloc := true } 3 0) e_add_wide, devOf (Eng.line { (s_add_wide.ctx 1 q_atom w_add_wide) with alloc := true } 3 0) e_add_wide) ∧
    (Eng.roomFor 3 0).run f_add_wide = .ok (valOf (Eng.roomFor 3 0) f_add_wide, devOf (Eng.roomFor 3 0) f_add_wide) ∧
    (valOf (Eng.line { (s_add_wide.ctx 1 q_atom w_add_wide) with alloc := true } 3 0) e_add_wide = (y_add_wide, false) ∧ devOf (Eng.roomFor 3 0) f_add_wide = f_add_wide) ∧
    exec (.add 1 w_add_wide) s_add_wide = .next (s_add_wide.applied (f_add_wide.applyWrite ((s_add_wide.ctx 1 q_atom w_add_wide).req 3 0 (.write fullMask (mergeLine y_add_wide (BitVec.ofNat 512 0x0000000000000014FFFFFFFFFFFFFFFB) (maskRange 0 16)) false)) fullMask (mergeLine y_add_wide (BitVec.ofNat 512 0x0000000000000014FFFFFFFFFFFFFFFB) (maskRange 0 16)) false) 1 q_atom w_add_wide 0x80 { r0 := some 0xFFFFFFFFFFFFFFF6, r1 := some 0x14, regs := [(6, 0xFFFFFFFFFFFFFFF6, false), (7, 0x14, false)], work := [homeSlice 3 0] } (q_atom.head + 1)) :=
  ⟨shows_of (by decide +kernel),
   by decide +kernel,
   ok_of (by decide +kernel),
   run_of (by decide +kernel),
   run_of (by decide +kernel),
   run_of (by decide +kernel),
   by decide +kernel,
   gives_iff.1 (by decide +kernel)⟩

def q_move : Queue := { queue1 with regs := [(1, 64), (2, 256), (3, 9)] }

def w_copy : PWord := { phase := true, fmt := 4, ra := 2, rb := 1, rc := 3, swin := 1, dwin := 1 }
def s_copy : State := showing d_mem q_move 0x20 w_copy
def a_copy : Area := { resv := true, g := 0, base := 1088, len := 9 }
def b_copy : Area := { resv := true, g := 0, base := 1280, len := 9 }
def e_copy : Dev := devOf (Eng.read (s_copy.ctx 1 q_move w_copy) a_copy 0 9) (s_copy.dev.entered 1 q_move w_copy 0x20)
def y_copy : PBytes := valOf (Eng.read (s_copy.ctx 1 q_move w_copy) a_copy 0 9) (s_copy.dev.entered 1 q_move w_copy 0x20)
/-- COPY of 9 bytes (R328). -/
theorem witness_copy :
    Shows s_copy 1 w_copy copyPel q_move s_copy.dev ∧
    (0 < ((q_move).vals w_copy).c.1.toNat ∧ ((q_move).vals w_copy).c.1.toNat < 2 ^ 32) ∧
    (s_copy.dev.entered 1 q_move w_copy 0x20).ranges 1 q_move [{ win := w_copy.swin.toNat, off := ((q_move).vals w_copy).b.1.toNat, len := 9 }, { win := w_copy.dwin.toNat, off := ((q_move).vals w_copy).a.1.toNat, len := 9, right := 1 }] false false = .ok [a_copy, b_copy] ∧
    (Eng.read (s_copy.ctx 1 q_move w_copy) a_copy 0 9).run (s_copy.dev.entered 1 q_move w_copy 0x20) = .ok (valOf (Eng.read (s_copy.ctx 1 q_move w_copy) a_copy 0 9) (s_copy.dev.entered 1 q_move w_copy 0x20), devOf (Eng.read (s_copy.ctx 1 q_move w_copy) a_copy 0 9) (s_copy.dev.entered 1 q_move w_copy 0x20)) ∧
    exec (.copy 1 w_copy) s_copy = .next (s_copy.applied (e_copy.writeAt (s_copy.ctx 1 q_move w_copy) b_copy 0 y_copy) 1 q_move w_copy 0x20 {} (q_move.head + 1)) :=
  ⟨shows_of (by decide +kernel),
   by decide +kernel,
   ok_of (by decide +kernel),
   run_of (by decide +kernel),
   gives_iff.1 (by decide +kernel)⟩

def w_fill : PWord := { phase := true, fmt := 3, ra := 2, rb := 1, rc := 3, dwin := 1 }
def s_fill : State := showing d_mem q_move 0x21 w_fill
def b_fill : Area := { resv := true, g := 0, base := 1280, len := 9 }
/-- FILL of 9 bytes with rb (R329). -/
theorem witness_fill :
    Shows s_fill 1 w_fill fillPel q_move s_fill.dev ∧
    (0 < ((q_move).vals w_fill).c.1.toNat ∧ ((q_move).vals w_fill).c.1.toNat < 2 ^ 32) ∧
    (s_fill.dev.entered 1 q_move w_fill 0x21).ranges 1 q_move [{ win := w_fill.dwin.toNat, off := ((q_move).vals w_fill).a.1.toNat, len := 9, right := 1 }] false false = .ok [b_fill] ∧
    exec (.fill 1 w_fill) s_fill = .next (s_fill.applied ((s_fill.dev.entered 1 q_move w_fill 0x21).writeAt (s_fill.ctx 1 q_move w_fill) b_fill 0 [(64, false), (0, false), (0, false), (0, false), (0, false), (0, false), (0, false), (0, false), (64, false)]) 1 q_move w_fill 0x21 {} (q_move.head + 1)) :=
  ⟨shows_of (by decide +kernel),
   by decide +kernel,
   ok_of (by decide +kernel),
   gives_iff.1 (by decide +kernel)⟩

def w_prefetch : PWord := { phase := true, fmt := 2, rb := 1, rc := 3, swin := 1 }
def s_prefetch : State := showing d_mem q_move 0x23 w_prefetch
def a_prefetch : Area := { resv := true, g := 0, base := 1088, len := 9 }
def e_prefetch : Dev := devOf (Eng.read { (s_prefetch.ctx 1 q_move w_prefetch) with stale := true, alloc := true } a_prefetch 0 9) (s_prefetch.dev.entered 1 q_move w_prefetch 0x23)
/-- PREFETCH writes nothing (R330). -/
theorem witness_prefetch :
    Shows s_prefetch 1 w_prefetch prefetchPel q_move s_prefetch.dev ∧
    (0 < ((q_move).vals w_prefetch).c.1.toNat ∧ ((q_move).vals w_prefetch).c.1.toNat < 2 ^ 32) ∧
    (s_prefetch.dev.entered 1 q_move w_prefetch 0x23).ranges 1 q_move [{ win := w_prefetch.swin.toNat, off := ((q_move).vals w_prefetch).b.1.toNat, len := 9 }] false false = .ok [a_prefetch] ∧
    (Eng.read { (s_prefetch.ctx 1 q_move w_prefetch) with stale := true, alloc := true } a_prefetch 0 9).run (s_prefetch.dev.entered 1 q_move w_prefetch 0x23) = .ok (valOf (Eng.read { (s_prefetch.ctx 1 q_move w_prefetch) with stale := true, alloc := true } a_prefetch 0 9) (s_prefetch.dev.entered 1 q_move w_prefetch 0x23), devOf (Eng.read { (s_prefetch.ctx 1 q_move w_prefetch) with stale := true, alloc := true } a_prefetch 0 9) (s_prefetch.dev.entered 1 q_move w_prefetch 0x23)) ∧
    exec (.prefetch 1 w_prefetch) s_prefetch = .next (s_prefetch.applied e_prefetch 1 q_move w_prefetch 0x23 {} (q_move.head + 1)) :=
  ⟨shows_of (by decide +kernel),
   by decide +kernel,
   ok_of (by decide +kernel),
   run_of (by decide +kernel),
   gives_iff.1 (by decide +kernel)⟩

def w_zero : PWord := { phase := true, fmt := 3, ra := 2, rc := 3, dwin := 1 }
def s_zero : State := showing d_mem q_move 0x22 w_zero
def b_zero : Area := { resv := true, g := 0, base := 1280, len := 9 }
/-- ZERO of 9 bytes of the reserved region (R329). -/
theorem witness_zero :
    Shows s_zero 1 w_zero zeroPel q_move s_zero.dev ∧
    (0 < ((q_move).vals w_zero).c.1.toNat ∧ ((q_move).vals w_zero).c.1.toNat < 2 ^ 32 ∧ b_zero.resv = true) ∧
    (s_zero.dev.entered 1 q_move w_zero 0x22).ranges 1 q_move [{ win := w_zero.dwin.toNat, off := ((q_move).vals w_zero).a.1.toNat, len := 9, right := 1 }] false false = .ok [b_zero] ∧
    exec (.zero 1 w_zero) s_zero = .next (s_zero.applied ((s_zero.dev.entered 1 q_move w_zero 0x22).writeAt (s_zero.ctx 1 q_move w_zero) b_zero 0 (List.replicate 9 (0, false))) 1 q_move w_zero 0x22 {} (q_move.head + 1)) :=
  ⟨shows_of (by decide +kernel),
   by decide +kernel,
   ok_of (by decide +kernel),
   gives_iff.1 (by decide +kernel)⟩

def q_page : Queue := { queue1 with regs := [(2, 0), (3, 4096)] }

def w_zero_page : PWord := { phase := true, fmt := 3, ra := 2, rc := 3, dwin := 2 }
def s_zero_page : State := showing d_page q_page 0x22 w_zero_page
def b_zero_page : Area := { resv := false, g := 3, base := 0, len := 4096 }
def e_zero_page : Dev := ((s_zero_page.dev.entered 1 q_page w_zero_page 0x22).unbackPages (s_zero_page.ctx 1 q_page w_zero_page) 3 0 1).getD (s_zero_page.dev.entered 1 q_page w_zero_page 0x22)
/-- ZERO of a whole page unbacks it (R329, R100). -/
theorem witness_zero_page :
    Shows s_zero_page 1 w_zero_page zeroPel q_page s_zero_page.dev ∧
    (s_zero_page.dev.entered 1 q_page w_zero_page 0x22).ranges 1 q_page [{ win := w_zero_page.dwin.toNat, off := ((q_page).vals w_zero_page).a.1.toNat, len := 4096, right := 1 }] false false = .ok [b_zero_page] ∧
    ((s_zero_page.dev.entered 1 q_page w_zero_page 0x22).unbackPages (s_zero_page.ctx 1 q_page w_zero_page) 3 0 1 = some e_zero_page) ∧
    exec (.zero 1 w_zero_page) s_zero_page = .next (s_zero_page.applied ((e_zero_page.writeAt (s_zero_page.ctx 1 q_page w_zero_page) b_zero_page 0 []).writeAt (s_zero_page.ctx 1 q_page w_zero_page) b_zero_page 4096 []) 1 q_page w_zero_page 0x22 {} (q_page.head + 1)) :=
  ⟨shows_of (by decide +kernel),
   ok_of (by decide +kernel),
   by decide +kernel,
   gives_iff.1 (by decide +kernel)⟩

/-- Page 0 of grotto 3 hot, page 1 warm; one zeroed frame on channel 0, and budget for moves. -/
def d_moves : Dev := { d_page with
  pages := {
    area := [(0x10000, mkEntry true 1 0 0 0 100), (0x10001, mkEntry true 2 0 0 0 12800)], heaps := [(200, { grotto := 3, heads := [(0, 1)] })]
  }
  mem := { pools := [(0, { zeroed := [300] })], dram := [(dramKey 200 0, {
    kind := .data, key := 5, tweak := headerTweak 3 1, data := ({ gen := 0, level := 3, primary := 0, page := 1, descs := [{}, {}, {}, {}] } : Header).data })] }
  qos := { bw := 4000 } }
/-- rb of MIGRATE and SPILL: grotto 3, page 0 (register 1) or page 1 (register 2), generation 0. -/
def q_entry : Queue := { queue1 with regs := [(1, BitVec.ofNat 64 (3 * 2 ^ 58)), (2, BitVec.ofNat 64 (3 * 2 ^ 58 + 2 ^ 25))] }

def w_promote : PWord := { phase := true, fmt := 6, rb := 2 }
def s_promote : State := showing d_moves q_entry 0x24 w_promote
def e_promote : Dev := (began ((s_promote.dev.entered 1 q_entry w_promote 0x24).startMove { kind := .promote, g := 3, page := 1, gen := 0 } (some (1, 0)))).getD (s_promote.dev.entered 1 q_entry w_promote 0x24)
/-- MIGRATE promotes a warm page (R331). -/
theorem witness_promote :
    Shows s_promote 1 w_promote migratePel q_entry s_promote.dev ∧
    (privQ 1 = true ∧ 1 < ((s_promote.dev.grotto 3).committed + (s_promote.dev.grotto 3).elasticMax) * unitPages) ∧
    (s_promote.dev.entered 1 q_entry w_promote 0x24).startMove { kind := .promote, g := 3, page := 1, gen := 0 } (some (1, 0)) = .started e_promote ∧
    exec (.migrate 1 w_promote) s_promote = .next (s_promote.applied e_promote 1 q_entry w_promote 0x24 {} (q_entry.head + 1)) :=
  ⟨shows_of (by decide +kernel),
   by decide +kernel,
   began_of (by decide +kernel),
   gives_iff.1 (by decide +kernel)⟩

/-- The same with one way only to place a gallery: sectors 1 to 4 of frame 200, 0 to 2 of frame 201, and the last header slot. -/
def d_demote : Dev := { d_moves with pages := { d_moves.pages with
  heaps := [(200, { grotto := 3, data := 0xE0, heads := [(0, 0x7F)] }), (201, { grotto := 3, data := 0xF8 })] } }

def w_demote : PWord := { phase := true, fmt := 6, rb := 1, mod := 1 }
def s_demote : State := showing d_demote q_entry 0x24 w_demote
def e_demote : Dev := (began ((s_demote.dev.entered 1 q_entry w_demote 0x24).startMove { kind := .demote, g := 3, page := 0, gen := 0 } (some (1, 0)))).getD (s_demote.dev.entered 1 q_entry w_demote 0x24)
/-- MIGRATE demotes a hot page (R331). -/
theorem witness_demote :
    Shows s_demote 1 w_demote migratePel q_entry s_demote.dev ∧
    (privQ 1 = true ∧ 0 < ((s_demote.dev.grotto 3).committed + (s_demote.dev.grotto 3).elasticMax) * unitPages) ∧
    (s_demote.dev.entered 1 q_entry w_demote 0x24).startMove { kind := .demote, g := 3, page := 0, gen := 0 } (some (1, 0)) = .started e_demote ∧
    exec (.migrate 1 w_demote) s_demote = .next (s_demote.applied e_demote 1 q_entry w_demote 0x24 {} (q_entry.head + 1)) :=
  ⟨shows_of (by decide +kernel),
   by decide +kernel,
   began_of (by decide +kernel),
   gives_iff.1 (by decide +kernel)⟩

def w_relocate : PWord := { phase := true, fmt := 6, rb := 1, mod := 2, imm := 16 }
def s_relocate : State := showing d_moves q_entry 0x24 w_relocate
def e_relocate : Dev := (began ((s_relocate.dev.entered 1 q_entry w_relocate 0x24).startMove { kind := .relocate, chan := some 0, g := 3, page := 0, gen := 0 } (some (1, 0)))).getD (s_relocate.dev.entered 1 q_entry w_relocate 0x24)
/-- MIGRATE relocates a page to channel 0 (R332). -/
theorem witness_relocate :
    Shows s_relocate 1 w_relocate migratePel q_entry s_relocate.dev ∧
    (privQ 1 = true ∧ 0 < ((s_relocate.dev.grotto 3).committed + (s_relocate.dev.grotto 3).elasticMax) * unitPages) ∧
    (s_relocate.dev.entered 1 q_entry w_relocate 0x24).startMove { kind := .relocate, chan := some 0, g := 3, page := 0, gen := 0 } (some (1, 0)) = .started e_relocate ∧
    exec (.migrate 1 w_relocate) s_relocate = .next (s_relocate.applied e_relocate 1 q_entry w_relocate 0x24 {} (q_entry.head + 1)) :=
  ⟨shows_of (by decide +kernel),
   by decide +kernel,
   began_of (by decide +kernel),
   gives_iff.1 (by decide +kernel)⟩

def d_spill : Dev := { d_moves with
  grottos := [(3, { state := 1, keyId := 1, committed := 1, chanMask := 0xFFFF, mapBase := 0x10000, spillMode := 2 })]
  ev := { p0 := { state := 2, helloGot := true, peerPool := some 7, spillOk := true, spillPool := 7 } } }

def w_spill : PWord := { phase := true, fmt := 6, rb := 1 }
def s_spill : State := showing d_spill q_entry 0x25 w_spill
def e_spill : Dev := (began ((s_spill.dev.entered 1 q_entry w_spill 0x25).startMove { kind := .spill, g := 3, page := 0, gen := 0 } (some (1, 0)))).getD (s_spill.dev.entered 1 q_entry w_spill 0x25)
/-- SPILL asks the neighbour for a guest frame (R333). -/
theorem witness_spill :
    Shows s_spill 1 w_spill spillPel q_entry s_spill.dev ∧
    (privQ 1 = true ∧ 0 < ((s_spill.dev.grotto 3).committed + (s_spill.dev.grotto 3).elasticMax) * unitPages) ∧
    (s_spill.dev.entered 1 q_entry w_spill 0x25).startMove { kind := .spill, g := 3, page := 0, gen := 0 } (some (1, 0)) = .started e_spill ∧
    exec (.spill 1 w_spill) s_spill = .next (s_spill.applied e_spill 1 q_entry w_spill 0x25 {} (q_entry.head + 1)) :=
  ⟨shows_of (by decide +kernel),
   by decide +kernel,
   began_of (by decide +kernel),
   gives_iff.1 (by decide +kernel)⟩

/-- A native stream of the nine bytes 123456789 (R206), as one run of literals, and a job descriptor with 64 bytes of output. -/
def d_unpack : Dev := { dev0 with mem := { resv := [(17, rline 17 0xE3069283E3069283C039383736353433323108000000000000000900000000014E4B5A), (24, rline 24 0x40)] } }

/-- The nine bytes 123456789, and a job descriptor of level 1. -/
def d_pack : Dev := { dev0 with mem := { resv := [(17, rline 17 0x393837363534333231), (24, rline 24 0x100000040)] } }

def q_unpack : Queue := { queue1 with regs := [(1, 64), (2, 256), (3, 35)] }

def q_pack : Queue := { queue1 with regs := [(1, 64), (2, 256), (3, 9)] }

def w_decompress : PWord := { phase := true, fmt := 5, ra := 2, rb := 1, rc := 3, swin := 1, dwin := 1, imm := BitVec.ofNat 64 (2 ^ 58 + 512) }
def s_decompress : State := showing d_unpack q_unpack 0x41 w_decompress
def a_decompress : Area := { resv := true, g := 0, base := 1088, len := 35 }
def b_decompress : Area := { resv := true, g := 0, base := 1280, len := 64 }
def t_decompress : Area := { resv := true, g := 0, base := 1536, len := 64 }
def j_decompress : Job := { dlen := 64, level := 0, resume := false, chain := none, saveIn := none, saveOut := none, dict := none }
def desc_decompress : List Byte := valOf (Eng.third (s_decompress.ctx 1 q_unpack w_decompress) q_unpack w_decompress 64 [{ win := w_decompress.swin.toNat, off := ((q_unpack).vals w_decompress).b.1.toNat, len := 35 }, { win := w_decompress.dwin.toNat, off := ((q_unpack).vals w_decompress).a.1.toNat, len := 0, right := 1 }] false) (s_decompress.dev.entered 1 q_unpack w_decompress 0x41)
def e_decompress : Dev := devOf (Eng.third (s_decompress.ctx 1 q_unpack w_decompress) q_unpack w_decompress 64 [{ win := w_decompress.swin.toNat, off := ((q_unpack).vals w_decompress).b.1.toNat, len := 35 }, { win := w_decompress.dwin.toNat, off := ((q_unpack).vals w_decompress).a.1.toNat, len := 0, right := 1 }] false) (s_decompress.dev.entered 1 q_unpack w_decompress 0x41)
def y_decompress : PBytes := valOf (Eng.read (s_decompress.ctx 1 q_unpack w_decompress) a_decompress 0 35) e_decompress
def f_decompress : Dev := devOf (Eng.read (s_decompress.ctx 1 q_unpack w_decompress) a_decompress 0 35) e_decompress
/-- DECOMPRESS of a native stream (R206, R225): nine bytes, CRC-32C checked. -/
theorem witness_decompress :
    Shows s_decompress 1 w_decompress decompressPel q_unpack s_decompress.dev ∧
    (0 < ((q_unpack).vals w_decompress).c.1.toNat ∧ ((q_unpack).vals w_decompress).c.1.toNat < 2 ^ 32) ∧
    (w_decompress.mod.toNat % 8 = 0) ∧
    (Eng.third (s_decompress.ctx 1 q_unpack w_decompress) q_unpack w_decompress 64 [{ win := w_decompress.swin.toNat, off := ((q_unpack).vals w_decompress).b.1.toNat, len := 35 }, { win := w_decompress.dwin.toNat, off := ((q_unpack).vals w_decompress).a.1.toNat, len := 0, right := 1 }] false).run (s_decompress.dev.entered 1 q_unpack w_decompress 0x41) = .ok (valOf (Eng.third (s_decompress.ctx 1 q_unpack w_decompress) q_unpack w_decompress 64 [{ win := w_decompress.swin.toNat, off := ((q_unpack).vals w_decompress).b.1.toNat, len := 35 }, { win := w_decompress.dwin.toNat, off := ((q_unpack).vals w_decompress).a.1.toNat, len := 0, right := 1 }] false) (s_decompress.dev.entered 1 q_unpack w_decompress 0x41), devOf (Eng.third (s_decompress.ctx 1 q_unpack w_decompress) q_unpack w_decompress 64 [{ win := w_decompress.swin.toNat, off := ((q_unpack).vals w_decompress).b.1.toNat, len := 35 }, { win := w_decompress.dwin.toNat, off := ((q_unpack).vals w_decompress).a.1.toNat, len := 0, right := 1 }] false) (s_decompress.dev.entered 1 q_unpack w_decompress 0x41)) ∧
    (jobOf desc_decompress 0 true = some j_decompress) ∧
    e_decompress.ranges 1 q_unpack [{ win := w_decompress.swin.toNat, off := ((q_unpack).vals w_decompress).b.1.toNat, len := 35 }, { win := w_decompress.dwin.toNat, off := ((q_unpack).vals w_decompress).a.1.toNat, len := 64, right := 1 }, thirdRng w_decompress 64] false false = .ok [a_decompress, b_decompress, t_decompress] ∧
    (Eng.read (s_decompress.ctx 1 q_unpack w_decompress) a_decompress 0 35).run e_decompress = .ok (valOf (Eng.read (s_decompress.ctx 1 q_unpack w_decompress) a_decompress 0 35) e_decompress, devOf (Eng.read (s_decompress.ctx 1 q_unpack w_decompress) a_decompress 0 35) e_decompress) ∧
    (y_decompress.all (fun u => !u.2) = true) ∧
    exec (.decompress 1 w_decompress) s_decompress = .next (s_decompress.applied (f_decompress.writeAt (s_decompress.ctx 1 q_unpack w_decompress) b_decompress 0 (clean [49, 50, 51, 52, 53, 54, 55, 56, 57])) 1 q_unpack w_decompress 0x41 { r0 := some 35, r1 := some 9, r2 := some 0xFFFFFFFF00000009, work := [0, 1, 9] } (q_unpack.head + 1)) :=
  ⟨shows_of (by decide +kernel),
   by decide +kernel,
   by decide +kernel,
   run_of (by decide +kernel),
   by decide +kernel,
   ok_of (by decide +kernel),
   run_of (by decide +kernel),
   by decide +kernel,
   gives_iff.1 (by decide +kernel)⟩

def w_compress : PWord := { phase := true, fmt := 5, ra := 2, rb := 1, rc := 3, swin := 1, dwin := 1, imm := BitVec.ofNat 64 (2 ^ 58 + 512) }
def s_compress : State := showing d_pack q_pack 0x40 w_compress
def a_compress : Area := { resv := true, g := 0, base := 1088, len := 9 }
def b_compress : Area := { resv := true, g := 0, base := 1280, len := 64 }
def t_compress : Area := { resv := true, g := 0, base := 1536, len := 64 }
def j_compress : Job := { dlen := 64, level := 1, resume := false, chain := none, saveIn := none, saveOut := none, dict := none }
def desc_compress : List Byte := valOf (Eng.third (s_compress.ctx 1 q_pack w_compress) q_pack w_compress 64 [{ win := w_compress.swin.toNat, off := ((q_pack).vals w_compress).b.1.toNat, len := 9 }, { win := w_compress.dwin.toNat, off := ((q_pack).vals w_compress).a.1.toNat, len := 0, right := 1 }] false) (s_compress.dev.entered 1 q_pack w_compress 0x40)
def e_compress : Dev := devOf (Eng.third (s_compress.ctx 1 q_pack w_compress) q_pack w_compress 64 [{ win := w_compress.swin.toNat, off := ((q_pack).vals w_compress).b.1.toNat, len := 9 }, { win := w_compress.dwin.toNat, off := ((q_pack).vals w_compress).a.1.toNat, len := 0, right := 1 }] false) (s_compress.dev.entered 1 q_pack w_compress 0x40)
def y_compress : PBytes := valOf (Eng.read (s_compress.ctx 1 q_pack w_compress) a_compress 0 9) e_compress
def f_compress : Dev := devOf (Eng.read (s_compress.ctx 1 q_pack w_compress) a_compress 0 9) e_compress
/-- What COMPRESS needs: the compressor itself is free (log 33). -/
theorem witness_compress :
    Shows s_compress 1 w_compress compressPel q_pack s_compress.dev ∧
    (0 < ((q_pack).vals w_compress).c.1.toNat ∧ ((q_pack).vals w_compress).c.1.toNat < 2 ^ 32) ∧
    (w_compress.mod.toNat % 8 = 0) ∧
    (Eng.third (s_compress.ctx 1 q_pack w_compress) q_pack w_compress 64 [{ win := w_compress.swin.toNat, off := ((q_pack).vals w_compress).b.1.toNat, len := 9 }, { win := w_compress.dwin.toNat, off := ((q_pack).vals w_compress).a.1.toNat, len := 0, right := 1 }] false).run (s_compress.dev.entered 1 q_pack w_compress 0x40) = .ok (valOf (Eng.third (s_compress.ctx 1 q_pack w_compress) q_pack w_compress 64 [{ win := w_compress.swin.toNat, off := ((q_pack).vals w_compress).b.1.toNat, len := 9 }, { win := w_compress.dwin.toNat, off := ((q_pack).vals w_compress).a.1.toNat, len := 0, right := 1 }] false) (s_compress.dev.entered 1 q_pack w_compress 0x40), devOf (Eng.third (s_compress.ctx 1 q_pack w_compress) q_pack w_compress 64 [{ win := w_compress.swin.toNat, off := ((q_pack).vals w_compress).b.1.toNat, len := 9 }, { win := w_compress.dwin.toNat, off := ((q_pack).vals w_compress).a.1.toNat, len := 0, right := 1 }] false) (s_compress.dev.entered 1 q_pack w_compress 0x40)) ∧
    (jobOf desc_compress 0 false = some j_compress) ∧
    e_compress.ranges 1 q_pack [{ win := w_compress.swin.toNat, off := ((q_pack).vals w_compress).b.1.toNat, len := 9 }, { win := w_compress.dwin.toNat, off := ((q_pack).vals w_compress).a.1.toNat, len := 64, right := 1 }, thirdRng w_compress 64] false false = .ok [a_compress, b_compress, t_compress] ∧
    (Eng.read (s_compress.ctx 1 q_pack w_compress) a_compress 0 9).run e_compress = .ok (valOf (Eng.read (s_compress.ctx 1 q_pack w_compress) a_compress 0 9) e_compress, devOf (Eng.read (s_compress.ctx 1 q_pack w_compress) a_compress 0 9) e_compress) ∧
    (y_compress.all (fun u => !u.2) = true) :=
  ⟨shows_of (by decide +kernel),
   by decide +kernel,
   by decide +kernel,
   run_of (by decide +kernel),
   by decide +kernel,
   ok_of (by decide +kernel),
   run_of (by decide +kernel),
   by decide +kernel⟩

/-- 123456789 and its CRC-16/CCITT-FALSE 0x29B1, and the descriptor of that check (R234). -/
def d_check : Dev := { dev0 with mem := { resv := [(17, rline 17 0x29B1393837363534333231), (24, rline 24 0x10000000000000FFFF0000000000001021)] } }

def q_check : Queue := { queue1 with regs := [(1, 64), (2, 256), (3, 9)] }

def q_verify : Queue := { queue1 with regs := [(1, 64), (2, 256), (3, 11)] }

def w_check : PWord := { phase := true, fmt := 5, ra := 2, rb := 1, rc := 3, swin := 1, imm := BitVec.ofNat 64 (2 ^ 58 + 512) }
def s_check : State := showing d_check q_check 0x42 w_check
def a_check : Area := { resv := true, g := 0, base := 1088, len := 9 }
def b_check : Area := { resv := true, g := 0, base := 1280, len := 1 }
def t_check : Area := { resv := true, g := 0, base := 1536, len := 32 }
def k_check : CheckDesc := { poly := 0x1021, init := 0xFFFF, width := 16, refin := false, refout := false, invert := false, big := false }
def desc_check : List Byte := valOf (Eng.third (s_check.ctx 1 q_check w_check) q_check w_check 32 [{ win := w_check.swin.toNat, off := ((q_check).vals w_check).b.1.toNat, len := 9 }] false) (s_check.dev.entered 1 q_check w_check 0x42)
def e_check : Dev := devOf (Eng.third (s_check.ctx 1 q_check w_check) q_check w_check 32 [{ win := w_check.swin.toNat, off := ((q_check).vals w_check).b.1.toNat, len := 9 }] false) (s_check.dev.entered 1 q_check w_check 0x42)
def y_check : PBytes := valOf (Eng.read (s_check.ctx 1 q_check w_check) a_check 0 9) e_check
def f_check : Dev := devOf (Eng.read (s_check.ctx 1 q_check w_check) a_check 0 9) e_check
/-- CHECK computes 0x29B1 for 123456789, as the table of R234 has it. -/
theorem witness_check :
    Shows s_check 1 w_check checkPel q_check s_check.dev ∧
    (0 < ((q_check).vals w_check).c.1.toNat ∧ ((q_check).vals w_check).c.1.toNat < 2 ^ 32) ∧
    (Eng.third (s_check.ctx 1 q_check w_check) q_check w_check 32 [{ win := w_check.swin.toNat, off := ((q_check).vals w_check).b.1.toNat, len := 9 }] false).run (s_check.dev.entered 1 q_check w_check 0x42) = .ok (valOf (Eng.third (s_check.ctx 1 q_check w_check) q_check w_check 32 [{ win := w_check.swin.toNat, off := ((q_check).vals w_check).b.1.toNat, len := 9 }] false) (s_check.dev.entered 1 q_check w_check 0x42), devOf (Eng.third (s_check.ctx 1 q_check w_check) q_check w_check 32 [{ win := w_check.swin.toNat, off := ((q_check).vals w_check).b.1.toNat, len := 9 }] false) (s_check.dev.entered 1 q_check w_check 0x42)) ∧
    (checkDescOf desc_check = some k_check) ∧
    e_check.ranges 1 q_check [{ win := w_check.swin.toNat, off := ((q_check).vals w_check).b.1.toNat, len := 9 }, thirdRng w_check 32] false false = .ok [a_check, t_check] ∧
    (Eng.read (s_check.ctx 1 q_check w_check) a_check 0 9).run e_check = .ok (valOf (Eng.read (s_check.ctx 1 q_check w_check) a_check 0 9) e_check, devOf (Eng.read (s_check.ctx 1 q_check w_check) a_check 0 9) e_check) ∧
    (y_check.all (fun u => !u.2) = true) ∧
    exec (.check 1 w_check) s_check = .next (s_check.applied f_check 1 q_check w_check 0x42 { r0 := some 0x29B1, regs := [(2, 0x29B1, false)], work := [9] } (q_check.head + 1)) :=
  ⟨shows_of (by decide +kernel),
   by decide +kernel,
   run_of (by decide +kernel),
   by decide +kernel,
   ok_of (by decide +kernel),
   run_of (by decide +kernel),
   by decide +kernel,
   gives_iff.1 (by decide +kernel)⟩

def w_append : PWord := { phase := true, fmt := 5, ra := 2, rb := 1, rc := 3, swin := 1, dwin := 1, imm := BitVec.ofNat 64 (2 ^ 58 + 512), mod := 1 }
def s_append : State := showing d_check q_check 0x42 w_append
def a_append : Area := { resv := true, g := 0, base := 1088, len := 9 }
def b_append : Area := { resv := true, g := 0, base := 1280, len := 11 }
def t_append : Area := { resv := true, g := 0, base := 1536, len := 32 }
def k_append : CheckDesc := { poly := 0x1021, init := 0xFFFF, width := 16, refin := false, refout := false, invert := false, big := false }
def desc_append : List Byte := valOf (Eng.third (s_append.ctx 1 q_check w_append) q_check w_append 32 [{ win := w_append.swin.toNat, off := ((q_check).vals w_append).b.1.toNat, len := 9 }, { win := w_append.dwin.toNat, off := ((q_check).vals w_append).a.1.toNat, len := 0, right := 1 }] false) (s_append.dev.entered 1 q_check w_append 0x42)
def e_append : Dev := devOf (Eng.third (s_append.ctx 1 q_check w_append) q_check w_append 32 [{ win := w_append.swin.toNat, off := ((q_check).vals w_append).b.1.toNat, len := 9 }, { win := w_append.dwin.toNat, off := ((q_check).vals w_append).a.1.toNat, len := 0, right := 1 }] false) (s_append.dev.entered 1 q_check w_append 0x42)
def y_append : PBytes := valOf (Eng.read (s_append.ctx 1 q_check w_append) a_append 0 9) e_append
def f_append : Dev := devOf (Eng.read (s_append.ctx 1 q_check w_append) a_append 0 9) e_append
/-- CHECK appends its value (R236). -/
theorem witness_append :
    Shows s_append 1 w_append checkPel q_check s_append.dev ∧
    (0 < ((q_check).vals w_append).c.1.toNat ∧ ((q_check).vals w_append).c.1.toNat < 2 ^ 32) ∧
    (Eng.third (s_append.ctx 1 q_check w_append) q_check w_append 32 [{ win := w_append.swin.toNat, off := ((q_check).vals w_append).b.1.toNat, len := 9 }, { win := w_append.dwin.toNat, off := ((q_check).vals w_append).a.1.toNat, len := 0, right := 1 }] false).run (s_append.dev.entered 1 q_check w_append 0x42) = .ok (valOf (Eng.third (s_append.ctx 1 q_check w_append) q_check w_append 32 [{ win := w_append.swin.toNat, off := ((q_check).vals w_append).b.1.toNat, len := 9 }, { win := w_append.dwin.toNat, off := ((q_check).vals w_append).a.1.toNat, len := 0, right := 1 }] false) (s_append.dev.entered 1 q_check w_append 0x42), devOf (Eng.third (s_append.ctx 1 q_check w_append) q_check w_append 32 [{ win := w_append.swin.toNat, off := ((q_check).vals w_append).b.1.toNat, len := 9 }, { win := w_append.dwin.toNat, off := ((q_check).vals w_append).a.1.toNat, len := 0, right := 1 }] false) (s_append.dev.entered 1 q_check w_append 0x42)) ∧
    (checkDescOf desc_append = some k_append) ∧
    e_append.ranges 1 q_check [{ win := w_append.swin.toNat, off := ((q_check).vals w_append).b.1.toNat, len := 9 }, thirdRng w_append 32, { win := w_append.dwin.toNat, off := ((q_check).vals w_append).a.1.toNat, len := 11, right := 1 }] false false = .ok [a_append, t_append, b_append] ∧
    (Eng.read (s_append.ctx 1 q_check w_append) a_append 0 9).run e_append = .ok (valOf (Eng.read (s_append.ctx 1 q_check w_append) a_append 0 9) e_append, devOf (Eng.read (s_append.ctx 1 q_check w_append) a_append 0 9) e_append) ∧
    (y_append.all (fun u => !u.2) = true) ∧
    exec (.check 1 w_append) s_append = .next (s_append.applied (f_append.writeAt (s_append.ctx 1 q_check w_append) b_append 0 (clean [49, 50, 51, 52, 53, 54, 55, 56, 57, 0xB1, 0x29])) 1 q_check w_append 0x42 { r0 := some 0x29B1, work := [9] } (q_check.head + 1)) :=
  ⟨shows_of (by decide +kernel),
   by decide +kernel,
   run_of (by decide +kernel),
   by decide +kernel,
   ok_of (by decide +kernel),
   run_of (by decide +kernel),
   by decide +kernel,
   gives_iff.1 (by decide +kernel)⟩

def w_verify : PWord := { phase := true, fmt := 5, ra := 2, rb := 1, rc := 3, swin := 1, dwin := 1, imm := BitVec.ofNat 64 (2 ^ 58 + 512), mod := 2 }
def s_verify : State := showing d_check q_verify 0x42 w_verify
def a_verify : Area := { resv := true, g := 0, base := 1088, len := 11 }
def b_verify : Area := { resv := true, g := 0, base := 1280, len := 9 }
def t_verify : Area := { resv := true, g := 0, base := 1536, len := 32 }
def k_verify : CheckDesc := { poly := 0x1021, init := 0xFFFF, width := 16, refin := false, refout := false, invert := false, big := false }
def desc_verify : List Byte := valOf (Eng.third (s_verify.ctx 1 q_verify w_verify) q_verify w_verify 32 [{ win := w_verify.swin.toNat, off := ((q_verify).vals w_verify).b.1.toNat, len := 11 }, { win := w_verify.dwin.toNat, off := ((q_verify).vals w_verify).a.1.toNat, len := 0, right := 1 }] false) (s_verify.dev.entered 1 q_verify w_verify 0x42)
def e_verify : Dev := devOf (Eng.third (s_verify.ctx 1 q_verify w_verify) q_verify w_verify 32 [{ win := w_verify.swin.toNat, off := ((q_verify).vals w_verify).b.1.toNat, len := 11 }, { win := w_verify.dwin.toNat, off := ((q_verify).vals w_verify).a.1.toNat, len := 0, right := 1 }] false) (s_verify.dev.entered 1 q_verify w_verify 0x42)
def y_verify : PBytes := valOf (Eng.read (s_verify.ctx 1 q_verify w_verify) a_verify 0 11) e_verify
def f_verify : Dev := devOf (Eng.read (s_verify.ctx 1 q_verify w_verify) a_verify 0 11) e_verify
/-- CHECK verifies a value and writes the input without it (R236). -/
theorem witness_verify :
    Shows s_verify 1 w_verify checkPel q_verify s_verify.dev ∧
    (0 < ((q_verify).vals w_verify).c.1.toNat ∧ ((q_verify).vals w_verify).c.1.toNat < 2 ^ 32) ∧
    (Eng.third (s_verify.ctx 1 q_verify w_verify) q_verify w_verify 32 [{ win := w_verify.swin.toNat, off := ((q_verify).vals w_verify).b.1.toNat, len := 11 }, { win := w_verify.dwin.toNat, off := ((q_verify).vals w_verify).a.1.toNat, len := 0, right := 1 }] false).run (s_verify.dev.entered 1 q_verify w_verify 0x42) = .ok (valOf (Eng.third (s_verify.ctx 1 q_verify w_verify) q_verify w_verify 32 [{ win := w_verify.swin.toNat, off := ((q_verify).vals w_verify).b.1.toNat, len := 11 }, { win := w_verify.dwin.toNat, off := ((q_verify).vals w_verify).a.1.toNat, len := 0, right := 1 }] false) (s_verify.dev.entered 1 q_verify w_verify 0x42), devOf (Eng.third (s_verify.ctx 1 q_verify w_verify) q_verify w_verify 32 [{ win := w_verify.swin.toNat, off := ((q_verify).vals w_verify).b.1.toNat, len := 11 }, { win := w_verify.dwin.toNat, off := ((q_verify).vals w_verify).a.1.toNat, len := 0, right := 1 }] false) (s_verify.dev.entered 1 q_verify w_verify 0x42)) ∧
    (checkDescOf desc_verify = some k_verify) ∧
    e_verify.ranges 1 q_verify [{ win := w_verify.swin.toNat, off := ((q_verify).vals w_verify).b.1.toNat, len := 11 }, thirdRng w_verify 32, { win := w_verify.dwin.toNat, off := ((q_verify).vals w_verify).a.1.toNat, len := 9, right := 1 }] false false = .ok [a_verify, t_verify, b_verify] ∧
    (Eng.read (s_verify.ctx 1 q_verify w_verify) a_verify 0 11).run e_verify = .ok (valOf (Eng.read (s_verify.ctx 1 q_verify w_verify) a_verify 0 11) e_verify, devOf (Eng.read (s_verify.ctx 1 q_verify w_verify) a_verify 0 11) e_verify) ∧
    (y_verify.all (fun u => !u.2) = true) ∧
    exec (.check 1 w_verify) s_verify = .next (s_verify.applied (f_verify.writeAt (s_verify.ctx 1 q_verify w_verify) b_verify 0 (clean [49, 50, 51, 52, 53, 54, 55, 56, 57])) 1 q_verify w_verify 0x42 { r0 := some 0x29B1, work := [9] } (q_verify.head + 1)) :=
  ⟨shows_of (by decide +kernel),
   by decide +kernel,
   run_of (by decide +kernel),
   by decide +kernel,
   ok_of (by decide +kernel),
   run_of (by decide +kernel),
   by decide +kernel,
   gives_iff.1 (by decide +kernel)⟩

/-- The same with a value that is one too large. -/
def d_wrong : Dev := { dev0 with mem := { resv := [(17, rline 17 0x29B2393837363534333231), (24, rline 24 0x10000000000000FFFF0000000000001021)] } }

def w_mismatch : PWord := { phase := true, fmt := 5, ra := 2, rb := 1, rc := 3, swin := 1, dwin := 1, imm := BitVec.ofNat 64 (2 ^ 58 + 512), mod := 2 }
def s_mismatch : State := showing d_wrong q_verify 0x42 w_mismatch
def a_mismatch : Area := { resv := true, g := 0, base := 1088, len := 11 }
def b_mismatch : Area := { resv := true, g := 0, base := 1280, len := 9 }
def t_mismatch : Area := { resv := true, g := 0, base := 1536, len := 32 }
def k_mismatch : CheckDesc := { poly := 0x1021, init := 0xFFFF, width := 16, refin := false, refout := false, invert := false, big := false }
def desc_mismatch : List Byte := valOf (Eng.third (s_mismatch.ctx 1 q_verify w_mismatch) q_verify w_mismatch 32 [{ win := w_mismatch.swin.toNat, off := ((q_verify).vals w_mismatch).b.1.toNat, len := 11 }, { win := w_mismatch.dwin.toNat, off := ((q_verify).vals w_mismatch).a.1.toNat, len := 0, right := 1 }] false) (s_mismatch.dev.entered 1 q_verify w_mismatch 0x42)
def e_mismatch : Dev := devOf (Eng.third (s_mismatch.ctx 1 q_verify w_mismatch) q_verify w_mismatch 32 [{ win := w_mismatch.swin.toNat, off := ((q_verify).vals w_mismatch).b.1.toNat, len := 11 }, { win := w_mismatch.dwin.toNat, off := ((q_verify).vals w_mismatch).a.1.toNat, len := 0, right := 1 }] false) (s_mismatch.dev.entered 1 q_verify w_mismatch 0x42)
def y_mismatch : PBytes := valOf (Eng.read (s_mismatch.ctx 1 q_verify w_mismatch) a_mismatch 0 11) e_mismatch
def f_mismatch : Dev := devOf (Eng.read (s_mismatch.ctx 1 q_verify w_mismatch) a_mismatch 0 11) e_mismatch
/-- CHECK of a stored value that differs faults with 0x0212, its bytes written (R236). -/
theorem witness_mismatch :
    Shows s_mismatch 1 w_mismatch checkPel q_verify s_mismatch.dev ∧
    (0 < ((q_verify).vals w_mismatch).c.1.toNat ∧ ((q_verify).vals w_mismatch).c.1.toNat < 2 ^ 32) ∧
    (Eng.third (s_mismatch.ctx 1 q_verify w_mismatch) q_verify w_mismatch 32 [{ win := w_mismatch.swin.toNat, off := ((q_verify).vals w_mismatch).b.1.toNat, len := 11 }, { win := w_mismatch.dwin.toNat, off := ((q_verify).vals w_mismatch).a.1.toNat, len := 0, right := 1 }] false).run (s_mismatch.dev.entered 1 q_verify w_mismatch 0x42) = .ok (valOf (Eng.third (s_mismatch.ctx 1 q_verify w_mismatch) q_verify w_mismatch 32 [{ win := w_mismatch.swin.toNat, off := ((q_verify).vals w_mismatch).b.1.toNat, len := 11 }, { win := w_mismatch.dwin.toNat, off := ((q_verify).vals w_mismatch).a.1.toNat, len := 0, right := 1 }] false) (s_mismatch.dev.entered 1 q_verify w_mismatch 0x42), devOf (Eng.third (s_mismatch.ctx 1 q_verify w_mismatch) q_verify w_mismatch 32 [{ win := w_mismatch.swin.toNat, off := ((q_verify).vals w_mismatch).b.1.toNat, len := 11 }, { win := w_mismatch.dwin.toNat, off := ((q_verify).vals w_mismatch).a.1.toNat, len := 0, right := 1 }] false) (s_mismatch.dev.entered 1 q_verify w_mismatch 0x42)) ∧
    (checkDescOf desc_mismatch = some k_mismatch) ∧
    e_mismatch.ranges 1 q_verify [{ win := w_mismatch.swin.toNat, off := ((q_verify).vals w_mismatch).b.1.toNat, len := 11 }, thirdRng w_mismatch 32, { win := w_mismatch.dwin.toNat, off := ((q_verify).vals w_mismatch).a.1.toNat, len := 9, right := 1 }] false false = .ok [a_mismatch, t_mismatch, b_mismatch] ∧
    (Eng.read (s_mismatch.ctx 1 q_verify w_mismatch) a_mismatch 0 11).run e_mismatch = .ok (valOf (Eng.read (s_mismatch.ctx 1 q_verify w_mismatch) a_mismatch 0 11) e_mismatch, devOf (Eng.read (s_mismatch.ctx 1 q_verify w_mismatch) a_mismatch 0 11) e_mismatch) ∧
    (y_mismatch.all (fun u => !u.2) = true) ∧
    exec (.check 1 w_mismatch) s_mismatch = .next (s_mismatch.faulted (f_mismatch.writeAt (s_mismatch.ctx 1 q_verify w_mismatch) b_mismatch 0 (clean [49, 50, 51, 52, 53, 54, 55, 56, 57])) 1 q_verify w_mismatch 0x42 0x0212 { r0 := some 0x29B1, r1 := some 0x29B2, work := [9] }) :=
  ⟨shows_of (by decide +kernel),
   by decide +kernel,
   run_of (by decide +kernel),
   by decide +kernel,
   ok_of (by decide +kernel),
   run_of (by decide +kernel),
   by decide +kernel,
   gives_iff.1 (by decide +kernel)⟩

def w_hash : PWord := { phase := true, fmt := 5, ra := 2, rb := 1, rc := 3, swin := 1, dwin := 1, mod := 2 }
def s_hash : State := showing d_check q_check 0x43 w_hash
def a_hash : Area := { resv := true, g := 0, base := 1088, len := 9 }
def b_hash : Area := { resv := true, g := 0, base := 1280, len := 32 }
def y_hash : PBytes := valOf (Eng.read (s_hash.ctx 1 q_check w_hash) a_hash 0 9) (s_hash.dev.entered 1 q_check w_hash 0x43)
def f_hash : Dev := devOf (Eng.read (s_hash.ctx 1 q_check w_hash) a_hash 0 9) (s_hash.dev.entered 1 q_check w_hash 0x43)
/-- HASH of 123456789: its SHA-256 digest (R339). -/
theorem witness_hash :
    Shows s_hash 1 w_hash hashPel q_check s_hash.dev ∧
    (0 < ((q_check).vals w_hash).c.1.toNat ∧ ((q_check).vals w_hash).c.1.toNat < 2 ^ 32) ∧
    (w_hash.mod.getLsbD 0 = false ∧ w_hash.mod.getLsbD 1 = true) ∧
    (s_hash.dev.entered 1 q_check w_hash 0x43).ranges 1 q_check [{ win := w_hash.swin.toNat, off := ((q_check).vals w_hash).b.1.toNat, len := 9 }, { win := w_hash.dwin.toNat, off := ((q_check).vals w_hash).a.1.toNat, len := 32, right := 1 }] false false = .ok [a_hash, b_hash] ∧
    (Eng.read (s_hash.ctx 1 q_check w_hash) a_hash 0 9).run (s_hash.dev.entered 1 q_check w_hash 0x43) = .ok (valOf (Eng.read (s_hash.ctx 1 q_check w_hash) a_hash 0 9) (s_hash.dev.entered 1 q_check w_hash 0x43), devOf (Eng.read (s_hash.ctx 1 q_check w_hash) a_hash 0 9) (s_hash.dev.entered 1 q_check w_hash 0x43)) ∧
    (y_hash.all (fun u => !u.2) = true) ∧
    exec (.hash 1 w_hash) s_hash = .next (s_hash.applied (f_hash.writeAt (s_hash.ctx 1 q_check w_hash) b_hash 0 (clean [0x15, 0xE2, 0xB0, 0xD3, 0xC3, 0x38, 0x91, 0xEB, 0xB0, 0xF1, 0xEF, 0x60, 0x9E, 0xC4, 0x19, 0x42, 0x0C, 0x20, 0xE3, 0x20, 0xCE, 0x94, 0xC6, 0x5F, 0xBC, 0x8C, 0x33, 0x12, 0x44, 0x8E, 0xB2, 0x25])) 1 q_check w_hash 0x43 { work := [1, 1] } (q_check.head + 1)) :=
  ⟨shows_of (by decide +kernel),
   by decide +kernel,
   by decide +kernel,
   ok_of (by decide +kernel),
   run_of (by decide +kernel),
   by decide +kernel,
   gives_iff.1 (by decide +kernel)⟩

def q_swap : Queue := { queue1 with regs := [(1, 64), (2, 256), (3, 2)] }

def w_byteswap : PWord := { phase := true, fmt := 4, ra := 2, rb := 1, rc := 3, swin := 1, dwin := 1, mod := 1 }
def s_byteswap : State := showing d_check q_swap 0x44 w_byteswap
def a_byteswap : Area := { resv := true, g := 0, base := 1088, len := 8 }
def b_byteswap : Area := { resv := true, g := 0, base := 1280, len := 8 }
def y_byteswap : PBytes := valOf (Eng.read (s_byteswap.ctx 1 q_swap w_byteswap) a_byteswap 0 8) (s_byteswap.dev.entered 1 q_swap w_byteswap 0x44)
def f_byteswap : Dev := devOf (Eng.read (s_byteswap.ctx 1 q_swap w_byteswap) a_byteswap 0 8) (s_byteswap.dev.entered 1 q_swap w_byteswap 0x44)
/-- BYTESWAP of two elements of four bytes (R340). -/
theorem witness_byteswap :
    Shows s_byteswap 1 w_byteswap byteswapPel q_swap s_byteswap.dev ∧
    (0 < ((q_swap).vals w_byteswap).c.1.toNat ∧ ((q_swap).vals w_byteswap).c.1.toNat < 2 ^ 32) ∧
    (s_byteswap.dev.entered 1 q_swap w_byteswap 0x44).ranges 1 q_swap [{ win := w_byteswap.swin.toNat, off := ((q_swap).vals w_byteswap).b.1.toNat, len := 8, align := 4 }, { win := w_byteswap.dwin.toNat, off := ((q_swap).vals w_byteswap).a.1.toNat, len := 8, right := 1, align := 4 }] false true = .ok [a_byteswap, b_byteswap] ∧
    (Eng.read (s_byteswap.ctx 1 q_swap w_byteswap) a_byteswap 0 8).run (s_byteswap.dev.entered 1 q_swap w_byteswap 0x44) = .ok (valOf (Eng.read (s_byteswap.ctx 1 q_swap w_byteswap) a_byteswap 0 8) (s_byteswap.dev.entered 1 q_swap w_byteswap 0x44), devOf (Eng.read (s_byteswap.ctx 1 q_swap w_byteswap) a_byteswap 0 8) (s_byteswap.dev.entered 1 q_swap w_byteswap 0x44)) ∧
    (y_byteswap.all (fun u => !u.2) = true) ∧
    exec (.byteswap 1 w_byteswap) s_byteswap = .next (s_byteswap.applied (f_byteswap.writeAt (s_byteswap.ctx 1 q_swap w_byteswap) b_byteswap 0 (clean [52, 51, 50, 49, 56, 55, 54, 53])) 1 q_swap w_byteswap 0x44 {} (q_swap.head + 1)) :=
  ⟨shows_of (by decide +kernel),
   by decide +kernel,
   ok_of (by decide +kernel),
   run_of (by decide +kernel),
   by decide +kernel,
   gives_iff.1 (by decide +kernel)⟩

def q_scan : Queue := { queue1 with regs := [(1, 64), (2, 256), (3, 5)] }

/-- Five one-byte elements and the descriptor of a scan for those below 8. -/
def d_scan_bits : Dev := { dev0 with mem := { resv := [(17, rline 17 0x801070903), (24, rline 24 0x3E80000000000000000000000000000000000000000000000000000000201010000000000000000000000000000000000000000006000000040), (25, rline 25 0x8)] } }

def w_scan_bits : PWord := { phase := true, fmt := 5, ra := 2, rb := 1, rc := 3, swin := 1, dwin := 1, imm := BitVec.ofNat 64 (2 ^ 58 + 512) }
def s_scan_bits : State := showing d_scan_bits q_scan 0x60 w_scan_bits
def a_scan_bits : Area := { resv := true, g := 0, base := 1088, len := 5 }
def b_scan_bits : Area := { resv := true, g := 0, base := 1280, len := 64 }
def t_scan_bits : Area := { resv := true, g := 0, base := 1536, len := 160 }
def k_scan_bits : ScanDesc := { head := { dlen := 64, chain := none }, width := 1, type := 0, form := 0, invert := false, nulls := false, cmp := true, range := false, set := false, bitmap := false, mode := 0, slots := [some (2, 8), none, none, none], incLo := false, incHi := false, nullAt := (0, 0, 0), setAt := (0, 0, 0), rowBase := 1000, lo := 0, hi := 0 }
def desc_scan_bits : List Byte := valOf (Eng.third (s_scan_bits.ctx 1 q_scan w_scan_bits) q_scan w_scan_bits 160 [{ win := w_scan_bits.swin.toNat, off := ((q_scan).vals w_scan_bits).b.1.toNat, len := 0 }, { win := w_scan_bits.dwin.toNat, off := ((q_scan).vals w_scan_bits).a.1.toNat, len := 0, right := 1 }] false) (s_scan_bits.dev.entered 1 q_scan w_scan_bits 0x60)
def e_scan_bits : Dev := devOf (Eng.third (s_scan_bits.ctx 1 q_scan w_scan_bits) q_scan w_scan_bits 160 [{ win := w_scan_bits.swin.toNat, off := ((q_scan).vals w_scan_bits).b.1.toNat, len := 0 }, { win := w_scan_bits.dwin.toNat, off := ((q_scan).vals w_scan_bits).a.1.toNat, len := 0, right := 1 }] false) (s_scan_bits.dev.entered 1 q_scan w_scan_bits 0x60)
def y_scan_bits : PBytes := valOf (Eng.read (s_scan_bits.ctx 1 q_scan w_scan_bits) a_scan_bits 0 5) e_scan_bits
def f_scan_bits : Dev := devOf (Eng.read (s_scan_bits.ctx 1 q_scan w_scan_bits) a_scan_bits 0 5) e_scan_bits
/-- SCAN as a bitmap: rows 0, 2 and 3 (R372). -/
theorem witness_scan_bits :
    Shows s_scan_bits 1 w_scan_bits scanPel q_scan s_scan_bits.dev ∧
    (0 < ((q_scan).vals w_scan_bits).c.1.toNat ∧ ((q_scan).vals w_scan_bits).c.1.toNat < 2 ^ 32) ∧
    (Eng.third (s_scan_bits.ctx 1 q_scan w_scan_bits) q_scan w_scan_bits 160 [{ win := w_scan_bits.swin.toNat, off := ((q_scan).vals w_scan_bits).b.1.toNat, len := 0 }, { win := w_scan_bits.dwin.toNat, off := ((q_scan).vals w_scan_bits).a.1.toNat, len := 0, right := 1 }] false).run (s_scan_bits.dev.entered 1 q_scan w_scan_bits 0x60) = .ok (valOf (Eng.third (s_scan_bits.ctx 1 q_scan w_scan_bits) q_scan w_scan_bits 160 [{ win := w_scan_bits.swin.toNat, off := ((q_scan).vals w_scan_bits).b.1.toNat, len := 0 }, { win := w_scan_bits.dwin.toNat, off := ((q_scan).vals w_scan_bits).a.1.toNat, len := 0, right := 1 }] false) (s_scan_bits.dev.entered 1 q_scan w_scan_bits 0x60), devOf (Eng.third (s_scan_bits.ctx 1 q_scan w_scan_bits) q_scan w_scan_bits 160 [{ win := w_scan_bits.swin.toNat, off := ((q_scan).vals w_scan_bits).b.1.toNat, len := 0 }, { win := w_scan_bits.dwin.toNat, off := ((q_scan).vals w_scan_bits).a.1.toNat, len := 0, right := 1 }] false) (s_scan_bits.dev.entered 1 q_scan w_scan_bits 0x60)) ∧
    (scanDesc desc_scan_bits = some k_scan_bits) ∧
    e_scan_bits.ranges 1 q_scan [{ win := w_scan_bits.swin.toNat, off := ((q_scan).vals w_scan_bits).b.1.toNat, len := 5 }, { win := w_scan_bits.dwin.toNat, off := ((q_scan).vals w_scan_bits).a.1.toNat, len := 64, right := 1 }, thirdRng w_scan_bits 160] false false = .ok [a_scan_bits, b_scan_bits, t_scan_bits] ∧
    (Eng.read (s_scan_bits.ctx 1 q_scan w_scan_bits) a_scan_bits 0 5).run e_scan_bits = .ok (valOf (Eng.read (s_scan_bits.ctx 1 q_scan w_scan_bits) a_scan_bits 0 5) e_scan_bits, devOf (Eng.read (s_scan_bits.ctx 1 q_scan w_scan_bits) a_scan_bits 0 5) e_scan_bits) ∧
    (y_scan_bits.length = 5 ∧ y_scan_bits.all (fun u => !u.2) = true) ∧
    exec (.scan 1 w_scan_bits) s_scan_bits = .next (s_scan_bits.applied (f_scan_bits.writeAt (s_scan_bits.ctx 1 q_scan w_scan_bits) b_scan_bits 0 (clean [13])) 1 q_scan w_scan_bits 0x60 { r0 := some 5, r1 := some 5, r2 := some 0xFFFFFFFF00000001, work := [1, 5, 5, 5] } (q_scan.head + 1)) :=
  ⟨shows_of (by decide +kernel),
   by decide +kernel,
   run_of (by decide +kernel),
   by decide +kernel,
   ok_of (by decide +kernel),
   run_of (by decide +kernel),
   by decide +kernel,
   gives_iff.1 (by decide +kernel)⟩

/-- Five one-byte elements and the descriptor of a scan for those below 8. -/
def d_scan_ids : Dev := { dev0 with mem := { resv := [(17, rline 17 0x801070903), (24, rline 24 0x3E80000000000000000000000000000000000000000000000000000000201010100000000000000000000000000000000000000006000000040), (25, rline 25 0x8)] } }

def w_scan_ids : PWord := { phase := true, fmt := 5, ra := 2, rb := 1, rc := 3, swin := 1, dwin := 1, imm := BitVec.ofNat 64 (2 ^ 58 + 512) }
def s_scan_ids : State := showing d_scan_ids q_scan 0x60 w_scan_ids
def a_scan_ids : Area := { resv := true, g := 0, base := 1088, len := 5 }
def b_scan_ids : Area := { resv := true, g := 0, base := 1280, len := 64 }
def t_scan_ids : Area := { resv := true, g := 0, base := 1536, len := 160 }
def k_scan_ids : ScanDesc := { head := { dlen := 64, chain := none }, width := 1, type := 0, form := 1, invert := false, nulls := false, cmp := true, range := false, set := false, bitmap := false, mode := 0, slots := [some (2, 8), none, none, none], incLo := false, incHi := false, nullAt := (0, 0, 0), setAt := (0, 0, 0), rowBase := 1000, lo := 0, hi := 0 }
def desc_scan_ids : List Byte := valOf (Eng.third (s_scan_ids.ctx 1 q_scan w_scan_ids) q_scan w_scan_ids 160 [{ win := w_scan_ids.swin.toNat, off := ((q_scan).vals w_scan_ids).b.1.toNat, len := 0 }, { win := w_scan_ids.dwin.toNat, off := ((q_scan).vals w_scan_ids).a.1.toNat, len := 0, right := 1 }] false) (s_scan_ids.dev.entered 1 q_scan w_scan_ids 0x60)
def e_scan_ids : Dev := devOf (Eng.third (s_scan_ids.ctx 1 q_scan w_scan_ids) q_scan w_scan_ids 160 [{ win := w_scan_ids.swin.toNat, off := ((q_scan).vals w_scan_ids).b.1.toNat, len := 0 }, { win := w_scan_ids.dwin.toNat, off := ((q_scan).vals w_scan_ids).a.1.toNat, len := 0, right := 1 }] false) (s_scan_ids.dev.entered 1 q_scan w_scan_ids 0x60)
def y_scan_ids : PBytes := valOf (Eng.read (s_scan_ids.ctx 1 q_scan w_scan_ids) a_scan_ids 0 5) e_scan_ids
def f_scan_ids : Dev := devOf (Eng.read (s_scan_ids.ctx 1 q_scan w_scan_ids) a_scan_ids 0 5) e_scan_ids
/-- SCAN as row numbers from 1,000 (R372). -/
theorem witness_scan_ids :
    Shows s_scan_ids 1 w_scan_ids scanPel q_scan s_scan_ids.dev ∧
    (0 < ((q_scan).vals w_scan_ids).c.1.toNat ∧ ((q_scan).vals w_scan_ids).c.1.toNat < 2 ^ 32) ∧
    (Eng.third (s_scan_ids.ctx 1 q_scan w_scan_ids) q_scan w_scan_ids 160 [{ win := w_scan_ids.swin.toNat, off := ((q_scan).vals w_scan_ids).b.1.toNat, len := 0 }, { win := w_scan_ids.dwin.toNat, off := ((q_scan).vals w_scan_ids).a.1.toNat, len := 0, right := 1 }] false).run (s_scan_ids.dev.entered 1 q_scan w_scan_ids 0x60) = .ok (valOf (Eng.third (s_scan_ids.ctx 1 q_scan w_scan_ids) q_scan w_scan_ids 160 [{ win := w_scan_ids.swin.toNat, off := ((q_scan).vals w_scan_ids).b.1.toNat, len := 0 }, { win := w_scan_ids.dwin.toNat, off := ((q_scan).vals w_scan_ids).a.1.toNat, len := 0, right := 1 }] false) (s_scan_ids.dev.entered 1 q_scan w_scan_ids 0x60), devOf (Eng.third (s_scan_ids.ctx 1 q_scan w_scan_ids) q_scan w_scan_ids 160 [{ win := w_scan_ids.swin.toNat, off := ((q_scan).vals w_scan_ids).b.1.toNat, len := 0 }, { win := w_scan_ids.dwin.toNat, off := ((q_scan).vals w_scan_ids).a.1.toNat, len := 0, right := 1 }] false) (s_scan_ids.dev.entered 1 q_scan w_scan_ids 0x60)) ∧
    (scanDesc desc_scan_ids = some k_scan_ids) ∧
    e_scan_ids.ranges 1 q_scan [{ win := w_scan_ids.swin.toNat, off := ((q_scan).vals w_scan_ids).b.1.toNat, len := 5 }, { win := w_scan_ids.dwin.toNat, off := ((q_scan).vals w_scan_ids).a.1.toNat, len := 64, right := 1 }, thirdRng w_scan_ids 160] false false = .ok [a_scan_ids, b_scan_ids, t_scan_ids] ∧
    (Eng.read (s_scan_ids.ctx 1 q_scan w_scan_ids) a_scan_ids 0 5).run e_scan_ids = .ok (valOf (Eng.read (s_scan_ids.ctx 1 q_scan w_scan_ids) a_scan_ids 0 5) e_scan_ids, devOf (Eng.read (s_scan_ids.ctx 1 q_scan w_scan_ids) a_scan_ids 0 5) e_scan_ids) ∧
    (y_scan_ids.length = 5 ∧ y_scan_ids.all (fun u => !u.2) = true) ∧
    exec (.scan 1 w_scan_ids) s_scan_ids = .next (s_scan_ids.applied (f_scan_ids.writeAt (s_scan_ids.ctx 1 q_scan w_scan_ids) b_scan_ids 0 (clean [232, 3, 0, 0, 0, 0, 0, 0, 234, 3, 0, 0, 0, 0, 0, 0, 235, 3, 0, 0, 0, 0, 0, 0])) 1 q_scan w_scan_ids 0x60 { r0 := some 5, r1 := some 3, r2 := some 0xFFFFFFFF00000018, work := [1, 5, 3, 5] } (q_scan.head + 1)) :=
  ⟨shows_of (by decide +kernel),
   by decide +kernel,
   run_of (by decide +kernel),
   by decide +kernel,
   ok_of (by decide +kernel),
   run_of (by decide +kernel),
   by decide +kernel,
   gives_iff.1 (by decide +kernel)⟩

/-- Five one-byte elements and the descriptor of a scan for those below 8. -/
def d_scan_values : Dev := { dev0 with mem := { resv := [(17, rline 17 0x801070903), (24, rline 24 0x3E80000000000000000000000000000000000000000000000000000000201010200000000000000000000000000000000000000006000000040), (25, rline 25 0x8)] } }

def w_scan_values : PWord := { phase := true, fmt := 5, ra := 2, rb := 1, rc := 3, swin := 1, dwin := 1, imm := BitVec.ofNat 64 (2 ^ 58 + 512) }
def s_scan_values : State := showing d_scan_values q_scan 0x60 w_scan_values
def a_scan_values : Area := { resv := true, g := 0, base := 1088, len := 5 }
def b_scan_values : Area := { resv := true, g := 0, base := 1280, len := 64 }
def t_scan_values : Area := { resv := true, g := 0, base := 1536, len := 160 }
def k_scan_values : ScanDesc := { head := { dlen := 64, chain := none }, width := 1, type := 0, form := 2, invert := false, nulls := false, cmp := true, range := false, set := false, bitmap := false, mode := 0, slots := [some (2, 8), none, none, none], incLo := false, incHi := false, nullAt := (0, 0, 0), setAt := (0, 0, 0), rowBase := 1000, lo := 0, hi := 0 }
def desc_scan_values : List Byte := valOf (Eng.third (s_scan_values.ctx 1 q_scan w_scan_values) q_scan w_scan_values 160 [{ win := w_scan_values.swin.toNat, off := ((q_scan).vals w_scan_values).b.1.toNat, len := 0 }, { win := w_scan_values.dwin.toNat, off := ((q_scan).vals w_scan_values).a.1.toNat, len := 0, right := 1 }] false) (s_scan_values.dev.entered 1 q_scan w_scan_values 0x60)
def e_scan_values : Dev := devOf (Eng.third (s_scan_values.ctx 1 q_scan w_scan_values) q_scan w_scan_values 160 [{ win := w_scan_values.swin.toNat, off := ((q_scan).vals w_scan_values).b.1.toNat, len := 0 }, { win := w_scan_values.dwin.toNat, off := ((q_scan).vals w_scan_values).a.1.toNat, len := 0, right := 1 }] false) (s_scan_values.dev.entered 1 q_scan w_scan_values 0x60)
def y_scan_values : PBytes := valOf (Eng.read (s_scan_values.ctx 1 q_scan w_scan_values) a_scan_values 0 5) e_scan_values
def f_scan_values : Dev := devOf (Eng.read (s_scan_values.ctx 1 q_scan w_scan_values) a_scan_values 0 5) e_scan_values
/-- SCAN as compacted values (R372). -/
theorem witness_scan_values :
    Shows s_scan_values 1 w_scan_values scanPel q_scan s_scan_values.dev ∧
    (0 < ((q_scan).vals w_scan_values).c.1.toNat ∧ ((q_scan).vals w_scan_values).c.1.toNat < 2 ^ 32) ∧
    (Eng.third (s_scan_values.ctx 1 q_scan w_scan_values) q_scan w_scan_values 160 [{ win := w_scan_values.swin.toNat, off := ((q_scan).vals w_scan_values).b.1.toNat, len := 0 }, { win := w_scan_values.dwin.toNat, off := ((q_scan).vals w_scan_values).a.1.toNat, len := 0, right := 1 }] false).run (s_scan_values.dev.entered 1 q_scan w_scan_values 0x60) = .ok (valOf (Eng.third (s_scan_values.ctx 1 q_scan w_scan_values) q_scan w_scan_values 160 [{ win := w_scan_values.swin.toNat, off := ((q_scan).vals w_scan_values).b.1.toNat, len := 0 }, { win := w_scan_values.dwin.toNat, off := ((q_scan).vals w_scan_values).a.1.toNat, len := 0, right := 1 }] false) (s_scan_values.dev.entered 1 q_scan w_scan_values 0x60), devOf (Eng.third (s_scan_values.ctx 1 q_scan w_scan_values) q_scan w_scan_values 160 [{ win := w_scan_values.swin.toNat, off := ((q_scan).vals w_scan_values).b.1.toNat, len := 0 }, { win := w_scan_values.dwin.toNat, off := ((q_scan).vals w_scan_values).a.1.toNat, len := 0, right := 1 }] false) (s_scan_values.dev.entered 1 q_scan w_scan_values 0x60)) ∧
    (scanDesc desc_scan_values = some k_scan_values) ∧
    e_scan_values.ranges 1 q_scan [{ win := w_scan_values.swin.toNat, off := ((q_scan).vals w_scan_values).b.1.toNat, len := 5 }, { win := w_scan_values.dwin.toNat, off := ((q_scan).vals w_scan_values).a.1.toNat, len := 64, right := 1 }, thirdRng w_scan_values 160] false false = .ok [a_scan_values, b_scan_values, t_scan_values] ∧
    (Eng.read (s_scan_values.ctx 1 q_scan w_scan_values) a_scan_values 0 5).run e_scan_values = .ok (valOf (Eng.read (s_scan_values.ctx 1 q_scan w_scan_values) a_scan_values 0 5) e_scan_values, devOf (Eng.read (s_scan_values.ctx 1 q_scan w_scan_values) a_scan_values 0 5) e_scan_values) ∧
    (y_scan_values.length = 5 ∧ y_scan_values.all (fun u => !u.2) = true) ∧
    exec (.scan 1 w_scan_values) s_scan_values = .next (s_scan_values.applied (f_scan_values.writeAt (s_scan_values.ctx 1 q_scan w_scan_values) b_scan_values 0 (clean [3, 7, 1])) 1 q_scan w_scan_values 0x60 { r0 := some 5, r1 := some 3, r2 := some 0xFFFFFFFF00000003, work := [1, 5, 3, 5] } (q_scan.head + 1)) :=
  ⟨shows_of (by decide +kernel),
   by decide +kernel,
   run_of (by decide +kernel),
   by decide +kernel,
   ok_of (by decide +kernel),
   run_of (by decide +kernel),
   by decide +kernel,
   gives_iff.1 (by decide +kernel)⟩

def q_list : Queue := { queue1 with regs := [(1, 64), (2, 256), (3, 2)] }

/-- Indices 2 and 0, a table of three 2-byte elements, and the descriptor of a gather. -/
def d_gather : Dev := { dev0 with mem := { resv := [(17, rline 17 0x2), (24, rline 24 0x300000000000003000000000000010001000000000000000000000000000000000000006100000040), (28, rline 28 0x60504030201)] } }

def w_gather : PWord := { phase := true, fmt := 5, ra := 2, rb := 1, rc := 3, swin := 1, dwin := 1, imm := BitVec.ofNat 64 (2 ^ 58 + 512) }
def s_gather : State := showing d_gather q_list 0x61 w_gather
def a_gather : Area := { resv := true, g := 0, base := 1088, len := 8 }
def b_gather : Area := { resv := true, g := 0, base := 1280, len := 64 }
def t_gather : Area := { resv := true, g := 0, base := 1536, len := 64 }
def m_gather : Area := { resv := true, g := 0, base := 1792, len := 6 }
def k_gather : ListDesc := { head := { dlen := 64, chain := none }, width := 2, idx := 4, win := 1, off := 768, count := 3 }
def desc_gather : List Byte := valOf (Eng.third (s_gather.ctx 1 q_list w_gather) q_list w_gather 64 [{ win := w_gather.swin.toNat, off := ((q_list).vals w_gather).b.1.toNat, len := 0 }, { win := w_gather.dwin.toNat, off := ((q_list).vals w_gather).a.1.toNat, len := 0, right := 1 }] false) (s_gather.dev.entered 1 q_list w_gather 0x61)
def e_gather : Dev := devOf (Eng.third (s_gather.ctx 1 q_list w_gather) q_list w_gather 64 [{ win := w_gather.swin.toNat, off := ((q_list).vals w_gather).b.1.toNat, len := 0 }, { win := w_gather.dwin.toNat, off := ((q_list).vals w_gather).a.1.toNat, len := 0, right := 1 }] false) (s_gather.dev.entered 1 q_list w_gather 0x61)
def ib_gather : PBytes := valOf (Eng.read (s_gather.ctx 1 q_list w_gather) a_gather 0 8) e_gather
def f_gather : Dev := devOf (Eng.read (s_gather.ctx 1 q_list w_gather) a_gather 0 8) e_gather
def vs_gather : List PBytes := valOf ([2, 0].mapM fun i => Eng.read (s_gather.ctx 1 q_list w_gather) m_gather (i * 2) 2) f_gather
def g_gather : Dev := devOf ([2, 0].mapM fun i => Eng.read (s_gather.ctx 1 q_list w_gather) m_gather (i * 2) 2) f_gather
/-- GATHER of elements 2 and 0 (R374). -/
theorem witness_gather :
    Shows s_gather 1 w_gather gatherPel q_list s_gather.dev ∧
    (0 < ((q_list).vals w_gather).c.1.toNat ∧ ((q_list).vals w_gather).c.1.toNat < 2 ^ 32) ∧
    (Eng.third (s_gather.ctx 1 q_list w_gather) q_list w_gather 64 [{ win := w_gather.swin.toNat, off := ((q_list).vals w_gather).b.1.toNat, len := 0 }, { win := w_gather.dwin.toNat, off := ((q_list).vals w_gather).a.1.toNat, len := 0, right := 1 }] false).run (s_gather.dev.entered 1 q_list w_gather 0x61) = .ok (valOf (Eng.third (s_gather.ctx 1 q_list w_gather) q_list w_gather 64 [{ win := w_gather.swin.toNat, off := ((q_list).vals w_gather).b.1.toNat, len := 0 }, { win := w_gather.dwin.toNat, off := ((q_list).vals w_gather).a.1.toNat, len := 0, right := 1 }] false) (s_gather.dev.entered 1 q_list w_gather 0x61), devOf (Eng.third (s_gather.ctx 1 q_list w_gather) q_list w_gather 64 [{ win := w_gather.swin.toNat, off := ((q_list).vals w_gather).b.1.toNat, len := 0 }, { win := w_gather.dwin.toNat, off := ((q_list).vals w_gather).a.1.toNat, len := 0, right := 1 }] false) (s_gather.dev.entered 1 q_list w_gather 0x61)) ∧
    (listDesc desc_gather 0x61 = some k_gather) ∧
    e_gather.ranges 1 q_list [{ win := w_gather.swin.toNat, off := ((q_list).vals w_gather).b.1.toNat, len := 8 }, { win := w_gather.dwin.toNat, off := ((q_list).vals w_gather).a.1.toNat, len := 64, right := 1 }, thirdRng w_gather 64, { win := 1, off := 768, len := 6 }] false false = .ok [a_gather, b_gather, t_gather, m_gather] ∧
    (Eng.read (s_gather.ctx 1 q_list w_gather) a_gather 0 8).run e_gather = .ok (valOf (Eng.read (s_gather.ctx 1 q_list w_gather) a_gather 0 8) e_gather, devOf (Eng.read (s_gather.ctx 1 q_list w_gather) a_gather 0 8) e_gather) ∧
    (ib_gather = clean [2, 0, 0, 0, 0, 0, 0, 0]) ∧
    ([2, 0].mapM fun i => Eng.read (s_gather.ctx 1 q_list w_gather) m_gather (i * 2) 2).run f_gather = .ok (valOf ([2, 0].mapM fun i => Eng.read (s_gather.ctx 1 q_list w_gather) m_gather (i * 2) 2) f_gather, devOf ([2, 0].mapM fun i => Eng.read (s_gather.ctx 1 q_list w_gather) m_gather (i * 2) 2) f_gather) ∧
    (vs_gather = [clean [5, 6], clean [1, 2]]) ∧
    exec (.gather 1 w_gather) s_gather = .next (s_gather.applied (g_gather.writeAt (s_gather.ctx 1 q_list w_gather) b_gather 0 (clean [5, 6, 1, 2])) 1 q_list w_gather 0x61 { r0 := some 2, r1 := some 2, r2 := some 0xFFFFFFFF00000004, work := [1, 8, 2, 2] } (q_list.head + 1)) :=
  ⟨shows_of (by decide +kernel),
   by decide +kernel,
   run_of (by decide +kernel),
   by decide +kernel,
   ok_of (by decide +kernel),
   run_of (by decide +kernel),
   by decide +kernel,
   run_of (by decide +kernel),
   by decide +kernel,
   gives_iff.1 (by decide +kernel)⟩

/-- Two 2-byte elements, their indices 2 and 0, and the descriptor of a scatter. -/
def d_scatter : Dev := { dev0 with mem := { resv := [(17, rline 17 0x4030201), (24, rline 24 0x300000000000003400000000000010001000000000000000000000000000000000000006200000000), (29, rline 29 0x2)] } }

def w_scatter : PWord := { phase := true, fmt := 5, ra := 2, rb := 1, rc := 3, swin := 1, dwin := 1, imm := BitVec.ofNat 64 (2 ^ 58 + 512) }
def s_scatter : State := showing d_scatter q_list 0x62 w_scatter
def a_scatter : Area := { resv := true, g := 0, base := 1088, len := 4 }
def b_scatter : Area := { resv := true, g := 0, base := 1280, len := 6 }
def t_scatter : Area := { resv := true, g := 0, base := 1536, len := 64 }
def m_scatter : Area := { resv := true, g := 0, base := 1856, len := 8 }
def k_scatter : ListDesc := { head := { dlen := 0, chain := none }, width := 2, idx := 4, win := 1, off := 832, count := 3 }
def desc_scatter : List Byte := valOf (Eng.third (s_scatter.ctx 1 q_list w_scatter) q_list w_scatter 64 [{ win := w_scatter.swin.toNat, off := ((q_list).vals w_scatter).b.1.toNat, len := 0 }, { win := w_scatter.dwin.toNat, off := ((q_list).vals w_scatter).a.1.toNat, len := 0, right := 1 }] false) (s_scatter.dev.entered 1 q_list w_scatter 0x62)
def e_scatter : Dev := devOf (Eng.third (s_scatter.ctx 1 q_list w_scatter) q_list w_scatter 64 [{ win := w_scatter.swin.toNat, off := ((q_list).vals w_scatter).b.1.toNat, len := 0 }, { win := w_scatter.dwin.toNat, off := ((q_list).vals w_scatter).a.1.toNat, len := 0, right := 1 }] false) (s_scatter.dev.entered 1 q_list w_scatter 0x62)
def ib_scatter : PBytes := valOf (Eng.read (s_scatter.ctx 1 q_list w_scatter) m_scatter 0 8) e_scatter
def f_scatter : Dev := devOf (Eng.read (s_scatter.ctx 1 q_list w_scatter) m_scatter 0 8) e_scatter
def vb_scatter : PBytes := valOf (Eng.read (s_scatter.ctx 1 q_list w_scatter) a_scatter 0 4) f_scatter
def g_scatter : Dev := devOf (Eng.read (s_scatter.ctx 1 q_list w_scatter) a_scatter 0 4) f_scatter
/-- SCATTER to elements 2 and 0 (R374, R376). -/
theorem witness_scatter :
    Shows s_scatter 1 w_scatter scatterPel q_list s_scatter.dev ∧
    (0 < ((q_list).vals w_scatter).c.1.toNat ∧ ((q_list).vals w_scatter).c.1.toNat < 2 ^ 32) ∧
    (Eng.third (s_scatter.ctx 1 q_list w_scatter) q_list w_scatter 64 [{ win := w_scatter.swin.toNat, off := ((q_list).vals w_scatter).b.1.toNat, len := 0 }, { win := w_scatter.dwin.toNat, off := ((q_list).vals w_scatter).a.1.toNat, len := 0, right := 1 }] false).run (s_scatter.dev.entered 1 q_list w_scatter 0x62) = .ok (valOf (Eng.third (s_scatter.ctx 1 q_list w_scatter) q_list w_scatter 64 [{ win := w_scatter.swin.toNat, off := ((q_list).vals w_scatter).b.1.toNat, len := 0 }, { win := w_scatter.dwin.toNat, off := ((q_list).vals w_scatter).a.1.toNat, len := 0, right := 1 }] false) (s_scatter.dev.entered 1 q_list w_scatter 0x62), devOf (Eng.third (s_scatter.ctx 1 q_list w_scatter) q_list w_scatter 64 [{ win := w_scatter.swin.toNat, off := ((q_list).vals w_scatter).b.1.toNat, len := 0 }, { win := w_scatter.dwin.toNat, off := ((q_list).vals w_scatter).a.1.toNat, len := 0, right := 1 }] false) (s_scatter.dev.entered 1 q_list w_scatter 0x62)) ∧
    (listDesc desc_scatter 0x62 = some k_scatter) ∧
    e_scatter.ranges 1 q_list [{ win := w_scatter.swin.toNat, off := ((q_list).vals w_scatter).b.1.toNat, len := 4 }, { win := w_scatter.dwin.toNat, off := ((q_list).vals w_scatter).a.1.toNat, len := 6, right := 1 }, thirdRng w_scatter 64, { win := 1, off := 832, len := 8 }] false false = .ok [a_scatter, b_scatter, t_scatter, m_scatter] ∧
    (Eng.read (s_scatter.ctx 1 q_list w_scatter) m_scatter 0 8).run e_scatter = .ok (valOf (Eng.read (s_scatter.ctx 1 q_list w_scatter) m_scatter 0 8) e_scatter, devOf (Eng.read (s_scatter.ctx 1 q_list w_scatter) m_scatter 0 8) e_scatter) ∧
    (ib_scatter = clean [2, 0, 0, 0, 0, 0, 0, 0]) ∧
    (Eng.read (s_scatter.ctx 1 q_list w_scatter) a_scatter 0 4).run f_scatter = .ok (valOf (Eng.read (s_scatter.ctx 1 q_list w_scatter) a_scatter 0 4) f_scatter, devOf (Eng.read (s_scatter.ctx 1 q_list w_scatter) a_scatter 0 4) f_scatter) ∧
    (vb_scatter = clean [1, 2, 3, 4]) ∧
    exec (.scatter 1 w_scatter) s_scatter = .next (s_scatter.applied ((([2, 0].zip (List.range 2)).foldl (fun z u => mergeBytes z (b_scatter.base + u.1 * 2) ((vb_scatter.drop (u.2 * 2)).take 2)) []).foldl (fun dv u => dv.putLine (s_scatter.ctx 1 q_list w_scatter) b_scatter u.1 u.2.1 u.2.2.1 u.2.2.2) g_scatter) 1 q_list w_scatter 0x62 { r0 := some 2, r1 := some 2, r2 := some 0, work := [1, 4, 2, 2] } (q_list.head + 1)) :=
  ⟨shows_of (by decide +kernel),
   by decide +kernel,
   run_of (by decide +kernel),
   by decide +kernel,
   ok_of (by decide +kernel),
   run_of (by decide +kernel),
   by decide +kernel,
   run_of (by decide +kernel),
   by decide +kernel,
   gives_iff.1 (by decide +kernel)⟩

/-- Two keys, a table of two buckets that holds the first (R377, R379), and the descriptor of a probe. -/
def d_probe_bits : Dev := { dev0 with mem := { resv := [(17, rline 17 0x5A5A5A5A41414141), (24, rline 24 0x700000000000004000000000000000100000000000000000000000000000000000000006300000040), (32, rline 32 0x100000000FFFFFFFF0101000154484B5A), (35, rline 35 0x53525150414141410000000000000001)] } }

def w_probe_bits : PWord := { phase := true, fmt := 5, ra := 2, rb := 1, rc := 3, swin := 1, dwin := 1, imm := BitVec.ofNat 64 (2 ^ 58 + 512) }
def s_probe_bits : State := showing d_probe_bits q_list 0x63 w_probe_bits
def a_probe_bits : Area := { resv := true, g := 0, base := 1088, len := 8 }
def b_probe_bits : Area := { resv := true, g := 0, base := 1280, len := 64 }
def t_probe_bits : Area := { resv := true, g := 0, base := 1536, len := 64 }
def h_probe_bits : Area := { resv := true, g := 0, base := 2048, len := 64 }
def m_probe_bits : Area := { resv := true, g := 0, base := 2048, len := 320 }
def k_probe_bits : ProbeDesc := { head := { dlen := 64, chain := none }, form := 0, win := 1, off := 1024, base := 7, miss := [0, 0, 0, 0, 0, 0, 0, 0, 0, 0, 0, 0, 0, 0, 0, 0] }
def y_probe_bits : HashTable := { key := 4, pay := 4, log := 1, seed1 := 0xFFFFFFFF, seed2 := 0 }
def as_probe_bits : List Area := [{ resv := true, g := 0, base := 1088, len := 0 }, { resv := true, g := 0, base := 1280, len := 0 }, { resv := true, g := 0, base := 1536, len := 64 }, { resv := true, g := 0, base := 1024, len := 0 }]
def desc_probe_bits : List Byte := valOf (Eng.third (s_probe_bits.ctx 1 q_list w_probe_bits) q_list w_probe_bits 64 [{ win := w_probe_bits.swin.toNat, off := ((q_list).vals w_probe_bits).b.1.toNat, len := 0 }, { win := w_probe_bits.dwin.toNat, off := ((q_list).vals w_probe_bits).a.1.toNat, len := 0, right := 1 }] false) (s_probe_bits.dev.entered 1 q_list w_probe_bits 0x63)
def e_probe_bits : Dev := devOf (Eng.third (s_probe_bits.ctx 1 q_list w_probe_bits) q_list w_probe_bits 64 [{ win := w_probe_bits.swin.toNat, off := ((q_list).vals w_probe_bits).b.1.toNat, len := 0 }, { win := w_probe_bits.dwin.toNat, off := ((q_list).vals w_probe_bits).a.1.toNat, len := 0, right := 1 }] false) (s_probe_bits.dev.entered 1 q_list w_probe_bits 0x63)
def hb_probe_bits : PBytes := valOf (Eng.read (s_probe_bits.ctx 1 q_list w_probe_bits) h_probe_bits 0 64) e_probe_bits
def g_probe_bits : Dev := devOf (Eng.read (s_probe_bits.ctx 1 q_list w_probe_bits) h_probe_bits 0 64) e_probe_bits
def keys_probe_bits : PBytes := valOf (Eng.read (s_probe_bits.ctx 1 q_list w_probe_bits) a_probe_bits 0 8) g_probe_bits
def i_probe_bits : Dev := devOf (Eng.read (s_probe_bits.ctx 1 q_list w_probe_bits) a_probe_bits 0 8) g_probe_bits
def f_probe_bits : Dev := devOf (probeKeys (s_probe_bits.ctx 1 q_list w_probe_bits) y_probe_bits m_probe_bits keys_probe_bits (List.range 2) []) i_probe_bits
/-- PROBE as a bitmap (R380). -/
theorem witness_probe_bits :
    Shows s_probe_bits 1 w_probe_bits probePel q_list s_probe_bits.dev ∧
    (0 < ((q_list).vals w_probe_bits).c.1.toNat ∧ ((q_list).vals w_probe_bits).c.1.toNat < 2 ^ 32) ∧
    (Eng.third (s_probe_bits.ctx 1 q_list w_probe_bits) q_list w_probe_bits 64 [{ win := w_probe_bits.swin.toNat, off := ((q_list).vals w_probe_bits).b.1.toNat, len := 0 }, { win := w_probe_bits.dwin.toNat, off := ((q_list).vals w_probe_bits).a.1.toNat, len := 0, right := 1 }] false).run (s_probe_bits.dev.entered 1 q_list w_probe_bits 0x63) = .ok (valOf (Eng.third (s_probe_bits.ctx 1 q_list w_probe_bits) q_list w_probe_bits 64 [{ win := w_probe_bits.swin.toNat, off := ((q_list).vals w_probe_bits).b.1.toNat, len := 0 }, { win := w_probe_bits.dwin.toNat, off := ((q_list).vals w_probe_bits).a.1.toNat, len := 0, right := 1 }] false) (s_probe_bits.dev.entered 1 q_list w_probe_bits 0x63), devOf (Eng.third (s_probe_bits.ctx 1 q_list w_probe_bits) q_list w_probe_bits 64 [{ win := w_probe_bits.swin.toNat, off := ((q_list).vals w_probe_bits).b.1.toNat, len := 0 }, { win := w_probe_bits.dwin.toNat, off := ((q_list).vals w_probe_bits).a.1.toNat, len := 0, right := 1 }] false) (s_probe_bits.dev.entered 1 q_list w_probe_bits 0x63)) ∧
    (probeDesc desc_probe_bits = some k_probe_bits) ∧
    e_probe_bits.ranges 1 q_list [{ win := w_probe_bits.swin.toNat, off := ((q_list).vals w_probe_bits).b.1.toNat, len := 0 }, { win := w_probe_bits.dwin.toNat, off := ((q_list).vals w_probe_bits).a.1.toNat, len := 0, right := 1 }, thirdRng w_probe_bits 64, { win := k_probe_bits.win, off := 0, len := 0 }] false false = .ok as_probe_bits ∧
    (k_probe_bits.off % 64 = 0 ∧ k_probe_bits.off + 64 ≤ (q_list.window k_probe_bits.win).length) ∧
    e_probe_bits.ranges 1 q_list [{ win := k_probe_bits.win, off := k_probe_bits.off, len := 64 }] false false = .ok [h_probe_bits] ∧
    (Eng.read (s_probe_bits.ctx 1 q_list w_probe_bits) h_probe_bits 0 64).run e_probe_bits = .ok (valOf (Eng.read (s_probe_bits.ctx 1 q_list w_probe_bits) h_probe_bits 0 64) e_probe_bits, devOf (Eng.read (s_probe_bits.ctx 1 q_list w_probe_bits) h_probe_bits 0 64) e_probe_bits) ∧
    (hb_probe_bits.all (fun u => !u.2) = true ∧ hashTable (hb_probe_bits.map Prod.fst) = some y_probe_bits ∧ k_probe_bits.off + 64 + 128 * 2 ^ y_probe_bits.log ≤ (q_list.window k_probe_bits.win).length) ∧
    g_probe_bits.ranges 1 q_list [{ win := w_probe_bits.swin.toNat, off := ((q_list).vals w_probe_bits).b.1.toNat, len := 8 }, { win := w_probe_bits.dwin.toNat, off := ((q_list).vals w_probe_bits).a.1.toNat, len := 64, right := 1 }, thirdRng w_probe_bits 64, { win := k_probe_bits.win, off := k_probe_bits.off, len := 320 }] false false = .ok [a_probe_bits, b_probe_bits, t_probe_bits, m_probe_bits] ∧
    (Eng.read (s_probe_bits.ctx 1 q_list w_probe_bits) a_probe_bits 0 8).run g_probe_bits = .ok (valOf (Eng.read (s_probe_bits.ctx 1 q_list w_probe_bits) a_probe_bits 0 8) g_probe_bits, devOf (Eng.read (s_probe_bits.ctx 1 q_list w_probe_bits) a_probe_bits 0 8) g_probe_bits) ∧
    (probeKeys (s_probe_bits.ctx 1 q_list w_probe_bits) y_probe_bits m_probe_bits keys_probe_bits (List.range 2) []).run i_probe_bits = .ok (valOf (probeKeys (s_probe_bits.ctx 1 q_list w_probe_bits) y_probe_bits m_probe_bits keys_probe_bits (List.range 2) []) i_probe_bits, devOf (probeKeys (s_probe_bits.ctx 1 q_list w_probe_bits) y_probe_bits m_probe_bits keys_probe_bits (List.range 2) []) i_probe_bits) ∧
    (valOf (probeKeys (s_probe_bits.ctx 1 q_list w_probe_bits) y_probe_bits m_probe_bits keys_probe_bits (List.range 2) []) i_probe_bits = ([(0, some [80, 81, 82, 83]), (1, none)], none)) ∧
    exec (.probe 1 w_probe_bits) s_probe_bits = .next (s_probe_bits.applied (f_probe_bits.writeAt (s_probe_bits.ctx 1 q_list w_probe_bits) b_probe_bits 0 (clean [1])) 1 q_list w_probe_bits 0x63 { r0 := some 2, r1 := some 2, r2 := some 0xFFFFFFFF00000001, work := [1, 8, 2, 2] } (q_list.head + 1)) :=
  ⟨shows_of (by decide +kernel),
   by decide +kernel,
   run_of (by decide +kernel),
   by decide +kernel,
   ok_of (by decide +kernel),
   by decide +kernel,
   ok_of (by decide +kernel),
   run_of (by decide +kernel),
   by decide +kernel,
   ok_of (by decide +kernel),
   run_of (by decide +kernel),
   run_of (by decide +kernel),
   by decide +kernel,
   gives_iff.1 (by decide +kernel)⟩

/-- Two keys, a table of two buckets that holds the first (R377, R379), and the descriptor of a probe. -/
def d_probe_ids : Dev := { dev0 with mem := { resv := [(17, rline 17 0x5A5A5A5A41414141), (24, rline 24 0x700000000000004000000000000000101000000000000000000000000000000000000006300000040), (32, rline 32 0x100000000FFFFFFFF0101000154484B5A), (35, rline 35 0x53525150414141410000000000000001)] } }

def w_probe_ids : PWord := { phase := true, fmt := 5, ra := 2, rb := 1, rc := 3, swin := 1, dwin := 1, imm := BitVec.ofNat 64 (2 ^ 58 + 512) }
def s_probe_ids : State := showing d_probe_ids q_list 0x63 w_probe_ids
def a_probe_ids : Area := { resv := true, g := 0, base := 1088, len := 8 }
def b_probe_ids : Area := { resv := true, g := 0, base := 1280, len := 64 }
def t_probe_ids : Area := { resv := true, g := 0, base := 1536, len := 64 }
def h_probe_ids : Area := { resv := true, g := 0, base := 2048, len := 64 }
def m_probe_ids : Area := { resv := true, g := 0, base := 2048, len := 320 }
def k_probe_ids : ProbeDesc := { head := { dlen := 64, chain := none }, form := 1, win := 1, off := 1024, base := 7, miss := [0, 0, 0, 0, 0, 0, 0, 0, 0, 0, 0, 0, 0, 0, 0, 0] }
def y_probe_ids : HashTable := { key := 4, pay := 4, log := 1, seed1 := 0xFFFFFFFF, seed2 := 0 }
def as_probe_ids : List Area := [{ resv := true, g := 0, base := 1088, len := 0 }, { resv := true, g := 0, base := 1280, len := 0 }, { resv := true, g := 0, base := 1536, len := 64 }, { resv := true, g := 0, base := 1024, len := 0 }]
def desc_probe_ids : List Byte := valOf (Eng.third (s_probe_ids.ctx 1 q_list w_probe_ids) q_list w_probe_ids 64 [{ win := w_probe_ids.swin.toNat, off := ((q_list).vals w_probe_ids).b.1.toNat, len := 0 }, { win := w_probe_ids.dwin.toNat, off := ((q_list).vals w_probe_ids).a.1.toNat, len := 0, right := 1 }] false) (s_probe_ids.dev.entered 1 q_list w_probe_ids 0x63)
def e_probe_ids : Dev := devOf (Eng.third (s_probe_ids.ctx 1 q_list w_probe_ids) q_list w_probe_ids 64 [{ win := w_probe_ids.swin.toNat, off := ((q_list).vals w_probe_ids).b.1.toNat, len := 0 }, { win := w_probe_ids.dwin.toNat, off := ((q_list).vals w_probe_ids).a.1.toNat, len := 0, right := 1 }] false) (s_probe_ids.dev.entered 1 q_list w_probe_ids 0x63)
def hb_probe_ids : PBytes := valOf (Eng.read (s_probe_ids.ctx 1 q_list w_probe_ids) h_probe_ids 0 64) e_probe_ids
def g_probe_ids : Dev := devOf (Eng.read (s_probe_ids.ctx 1 q_list w_probe_ids) h_probe_ids 0 64) e_probe_ids
def keys_probe_ids : PBytes := valOf (Eng.read (s_probe_ids.ctx 1 q_list w_probe_ids) a_probe_ids 0 8) g_probe_ids
def i_probe_ids : Dev := devOf (Eng.read (s_probe_ids.ctx 1 q_list w_probe_ids) a_probe_ids 0 8) g_probe_ids
def f_probe_ids : Dev := devOf (probeKeys (s_probe_ids.ctx 1 q_list w_probe_ids) y_probe_ids m_probe_ids keys_probe_ids (List.range 2) []) i_probe_ids
/-- PROBE as row numbers from 7 (R380). -/
theorem witness_probe_ids :
    Shows s_probe_ids 1 w_probe_ids probePel q_list s_probe_ids.dev ∧
    (0 < ((q_list).vals w_probe_ids).c.1.toNat ∧ ((q_list).vals w_probe_ids).c.1.toNat < 2 ^ 32) ∧
    (Eng.third (s_probe_ids.ctx 1 q_list w_probe_ids) q_list w_probe_ids 64 [{ win := w_probe_ids.swin.toNat, off := ((q_list).vals w_probe_ids).b.1.toNat, len := 0 }, { win := w_probe_ids.dwin.toNat, off := ((q_list).vals w_probe_ids).a.1.toNat, len := 0, right := 1 }] false).run (s_probe_ids.dev.entered 1 q_list w_probe_ids 0x63) = .ok (valOf (Eng.third (s_probe_ids.ctx 1 q_list w_probe_ids) q_list w_probe_ids 64 [{ win := w_probe_ids.swin.toNat, off := ((q_list).vals w_probe_ids).b.1.toNat, len := 0 }, { win := w_probe_ids.dwin.toNat, off := ((q_list).vals w_probe_ids).a.1.toNat, len := 0, right := 1 }] false) (s_probe_ids.dev.entered 1 q_list w_probe_ids 0x63), devOf (Eng.third (s_probe_ids.ctx 1 q_list w_probe_ids) q_list w_probe_ids 64 [{ win := w_probe_ids.swin.toNat, off := ((q_list).vals w_probe_ids).b.1.toNat, len := 0 }, { win := w_probe_ids.dwin.toNat, off := ((q_list).vals w_probe_ids).a.1.toNat, len := 0, right := 1 }] false) (s_probe_ids.dev.entered 1 q_list w_probe_ids 0x63)) ∧
    (probeDesc desc_probe_ids = some k_probe_ids) ∧
    e_probe_ids.ranges 1 q_list [{ win := w_probe_ids.swin.toNat, off := ((q_list).vals w_probe_ids).b.1.toNat, len := 0 }, { win := w_probe_ids.dwin.toNat, off := ((q_list).vals w_probe_ids).a.1.toNat, len := 0, right := 1 }, thirdRng w_probe_ids 64, { win := k_probe_ids.win, off := 0, len := 0 }] false false = .ok as_probe_ids ∧
    (k_probe_ids.off % 64 = 0 ∧ k_probe_ids.off + 64 ≤ (q_list.window k_probe_ids.win).length) ∧
    e_probe_ids.ranges 1 q_list [{ win := k_probe_ids.win, off := k_probe_ids.off, len := 64 }] false false = .ok [h_probe_ids] ∧
    (Eng.read (s_probe_ids.ctx 1 q_list w_probe_ids) h_probe_ids 0 64).run e_probe_ids = .ok (valOf (Eng.read (s_probe_ids.ctx 1 q_list w_probe_ids) h_probe_ids 0 64) e_probe_ids, devOf (Eng.read (s_probe_ids.ctx 1 q_list w_probe_ids) h_probe_ids 0 64) e_probe_ids) ∧
    (hb_probe_ids.all (fun u => !u.2) = true ∧ hashTable (hb_probe_ids.map Prod.fst) = some y_probe_ids ∧ k_probe_ids.off + 64 + 128 * 2 ^ y_probe_ids.log ≤ (q_list.window k_probe_ids.win).length) ∧
    g_probe_ids.ranges 1 q_list [{ win := w_probe_ids.swin.toNat, off := ((q_list).vals w_probe_ids).b.1.toNat, len := 8 }, { win := w_probe_ids.dwin.toNat, off := ((q_list).vals w_probe_ids).a.1.toNat, len := 64, right := 1 }, thirdRng w_probe_ids 64, { win := k_probe_ids.win, off := k_probe_ids.off, len := 320 }] false false = .ok [a_probe_ids, b_probe_ids, t_probe_ids, m_probe_ids] ∧
    (Eng.read (s_probe_ids.ctx 1 q_list w_probe_ids) a_probe_ids 0 8).run g_probe_ids = .ok (valOf (Eng.read (s_probe_ids.ctx 1 q_list w_probe_ids) a_probe_ids 0 8) g_probe_ids, devOf (Eng.read (s_probe_ids.ctx 1 q_list w_probe_ids) a_probe_ids 0 8) g_probe_ids) ∧
    (probeKeys (s_probe_ids.ctx 1 q_list w_probe_ids) y_probe_ids m_probe_ids keys_probe_ids (List.range 2) []).run i_probe_ids = .ok (valOf (probeKeys (s_probe_ids.ctx 1 q_list w_probe_ids) y_probe_ids m_probe_ids keys_probe_ids (List.range 2) []) i_probe_ids, devOf (probeKeys (s_probe_ids.ctx 1 q_list w_probe_ids) y_probe_ids m_probe_ids keys_probe_ids (List.range 2) []) i_probe_ids) ∧
    (valOf (probeKeys (s_probe_ids.ctx 1 q_list w_probe_ids) y_probe_ids m_probe_ids keys_probe_ids (List.range 2) []) i_probe_ids = ([(0, some [80, 81, 82, 83]), (1, none)], none)) ∧
    exec (.probe 1 w_probe_ids) s_probe_ids = .next (s_probe_ids.applied (f_probe_ids.writeAt (s_probe_ids.ctx 1 q_list w_probe_ids) b_probe_ids 0 (clean [7, 0, 0, 0, 0, 0, 0, 0])) 1 q_list w_probe_ids 0x63 { r0 := some 2, r1 := some 1, r2 := some 0xFFFFFFFF00000008, work := [1, 8, 1, 2] } (q_list.head + 1)) :=
  ⟨shows_of (by decide +kernel),
   by decide +kernel,
   run_of (by decide +kernel),
   by decide +kernel,
   ok_of (by decide +kernel),
   by decide +kernel,
   ok_of (by decide +kernel),
   run_of (by decide +kernel),
   by decide +kernel,
   ok_of (by decide +kernel),
   run_of (by decide +kernel),
   run_of (by decide +kernel),
   by decide +kernel,
   gives_iff.1 (by decide +kernel)⟩

/-- Two keys, a table of two buckets that holds the first (R377, R379), and the descriptor of a probe. -/
def d_probe_pairs : Dev := { dev0 with mem := { resv := [(17, rline 17 0x5A5A5A5A41414141), (24, rline 24 0x700000000000004000000000000000102000000000000000000000000000000000000006300000040), (32, rline 32 0x100000000FFFFFFFF0101000154484B5A), (35, rline 35 0x53525150414141410000000000000001)] } }

def w_probe_pairs : PWord := { phase := true, fmt := 5, ra := 2, rb := 1, rc := 3, swin := 1, dwin := 1, imm := BitVec.ofNat 64 (2 ^ 58 + 512) }
def s_probe_pairs : State := showing d_probe_pairs q_list 0x63 w_probe_pairs
def a_probe_pairs : Area := { resv := true, g := 0, base := 1088, len := 8 }
def b_probe_pairs : Area := { resv := true, g := 0, base := 1280, len := 64 }
def t_probe_pairs : Area := { resv := true, g := 0, base := 1536, len := 64 }
def h_probe_pairs : Area := { resv := true, g := 0, base := 2048, len := 64 }
def m_probe_pairs : Area := { resv := true, g := 0, base := 2048, len := 320 }
def k_probe_pairs : ProbeDesc := { head := { dlen := 64, chain := none }, form := 2, win := 1, off := 1024, base := 7, miss := [0, 0, 0, 0, 0, 0, 0, 0, 0, 0, 0, 0, 0, 0, 0, 0] }
def y_probe_pairs : HashTable := { key := 4, pay := 4, log := 1, seed1 := 0xFFFFFFFF, seed2 := 0 }
def as_probe_pairs : List Area := [{ resv := true, g := 0, base := 1088, len := 0 }, { resv := true, g := 0, base := 1280, len := 0 }, { resv := true, g := 0, base := 1536, len := 64 }, { resv := true, g := 0, base := 1024, len := 0 }]
def desc_probe_pairs : List Byte := valOf (Eng.third (s_probe_pairs.ctx 1 q_list w_probe_pairs) q_list w_probe_pairs 64 [{ win := w_probe_pairs.swin.toNat, off := ((q_list).vals w_probe_pairs).b.1.toNat, len := 0 }, { win := w_probe_pairs.dwin.toNat, off := ((q_list).vals w_probe_pairs).a.1.toNat, len := 0, right := 1 }] false) (s_probe_pairs.dev.entered 1 q_list w_probe_pairs 0x63)
def e_probe_pairs : Dev := devOf (Eng.third (s_probe_pairs.ctx 1 q_list w_probe_pairs) q_list w_probe_pairs 64 [{ win := w_probe_pairs.swin.toNat, off := ((q_list).vals w_probe_pairs).b.1.toNat, len := 0 }, { win := w_probe_pairs.dwin.toNat, off := ((q_list).vals w_probe_pairs).a.1.toNat, len := 0, right := 1 }] false) (s_probe_pairs.dev.entered 1 q_list w_probe_pairs 0x63)
def hb_probe_pairs : PBytes := valOf (Eng.read (s_probe_pairs.ctx 1 q_list w_probe_pairs) h_probe_pairs 0 64) e_probe_pairs
def g_probe_pairs : Dev := devOf (Eng.read (s_probe_pairs.ctx 1 q_list w_probe_pairs) h_probe_pairs 0 64) e_probe_pairs
def keys_probe_pairs : PBytes := valOf (Eng.read (s_probe_pairs.ctx 1 q_list w_probe_pairs) a_probe_pairs 0 8) g_probe_pairs
def i_probe_pairs : Dev := devOf (Eng.read (s_probe_pairs.ctx 1 q_list w_probe_pairs) a_probe_pairs 0 8) g_probe_pairs
def f_probe_pairs : Dev := devOf (probeKeys (s_probe_pairs.ctx 1 q_list w_probe_pairs) y_probe_pairs m_probe_pairs keys_probe_pairs (List.range 2) []) i_probe_pairs
/-- PROBE as row numbers with payloads (R380). -/
theorem witness_probe_pairs :
    Shows s_probe_pairs 1 w_probe_pairs probePel q_list s_probe_pairs.dev ∧
    (0 < ((q_list).vals w_probe_pairs).c.1.toNat ∧ ((q_list).vals w_probe_pairs).c.1.toNat < 2 ^ 32) ∧
    (Eng.third (s_probe_pairs.ctx 1 q_list w_probe_pairs) q_list w_probe_pairs 64 [{ win := w_probe_pairs.swin.toNat, off := ((q_list).vals w_probe_pairs).b.1.toNat, len := 0 }, { win := w_probe_pairs.dwin.toNat, off := ((q_list).vals w_probe_pairs).a.1.toNat, len := 0, right := 1 }] false).run (s_probe_pairs.dev.entered 1 q_list w_probe_pairs 0x63) = .ok (valOf (Eng.third (s_probe_pairs.ctx 1 q_list w_probe_pairs) q_list w_probe_pairs 64 [{ win := w_probe_pairs.swin.toNat, off := ((q_list).vals w_probe_pairs).b.1.toNat, len := 0 }, { win := w_probe_pairs.dwin.toNat, off := ((q_list).vals w_probe_pairs).a.1.toNat, len := 0, right := 1 }] false) (s_probe_pairs.dev.entered 1 q_list w_probe_pairs 0x63), devOf (Eng.third (s_probe_pairs.ctx 1 q_list w_probe_pairs) q_list w_probe_pairs 64 [{ win := w_probe_pairs.swin.toNat, off := ((q_list).vals w_probe_pairs).b.1.toNat, len := 0 }, { win := w_probe_pairs.dwin.toNat, off := ((q_list).vals w_probe_pairs).a.1.toNat, len := 0, right := 1 }] false) (s_probe_pairs.dev.entered 1 q_list w_probe_pairs 0x63)) ∧
    (probeDesc desc_probe_pairs = some k_probe_pairs) ∧
    e_probe_pairs.ranges 1 q_list [{ win := w_probe_pairs.swin.toNat, off := ((q_list).vals w_probe_pairs).b.1.toNat, len := 0 }, { win := w_probe_pairs.dwin.toNat, off := ((q_list).vals w_probe_pairs).a.1.toNat, len := 0, right := 1 }, thirdRng w_probe_pairs 64, { win := k_probe_pairs.win, off := 0, len := 0 }] false false = .ok as_probe_pairs ∧
    (k_probe_pairs.off % 64 = 0 ∧ k_probe_pairs.off + 64 ≤ (q_list.window k_probe_pairs.win).length) ∧
    e_probe_pairs.ranges 1 q_list [{ win := k_probe_pairs.win, off := k_probe_pairs.off, len := 64 }] false false = .ok [h_probe_pairs] ∧
    (Eng.read (s_probe_pairs.ctx 1 q_list w_probe_pairs) h_probe_pairs 0 64).run e_probe_pairs = .ok (valOf (Eng.read (s_probe_pairs.ctx 1 q_list w_probe_pairs) h_probe_pairs 0 64) e_probe_pairs, devOf (Eng.read (s_probe_pairs.ctx 1 q_list w_probe_pairs) h_probe_pairs 0 64) e_probe_pairs) ∧
    (hb_probe_pairs.all (fun u => !u.2) = true ∧ hashTable (hb_probe_pairs.map Prod.fst) = some y_probe_pairs ∧ k_probe_pairs.off + 64 + 128 * 2 ^ y_probe_pairs.log ≤ (q_list.window k_probe_pairs.win).length) ∧
    g_probe_pairs.ranges 1 q_list [{ win := w_probe_pairs.swin.toNat, off := ((q_list).vals w_probe_pairs).b.1.toNat, len := 8 }, { win := w_probe_pairs.dwin.toNat, off := ((q_list).vals w_probe_pairs).a.1.toNat, len := 64, right := 1 }, thirdRng w_probe_pairs 64, { win := k_probe_pairs.win, off := k_probe_pairs.off, len := 320 }] false false = .ok [a_probe_pairs, b_probe_pairs, t_probe_pairs, m_probe_pairs] ∧
    (Eng.read (s_probe_pairs.ctx 1 q_list w_probe_pairs) a_probe_pairs 0 8).run g_probe_pairs = .ok (valOf (Eng.read (s_probe_pairs.ctx 1 q_list w_probe_pairs) a_probe_pairs 0 8) g_probe_pairs, devOf (Eng.read (s_probe_pairs.ctx 1 q_list w_probe_pairs) a_probe_pairs 0 8) g_probe_pairs) ∧
    (probeKeys (s_probe_pairs.ctx 1 q_list w_probe_pairs) y_probe_pairs m_probe_pairs keys_probe_pairs (List.range 2) []).run i_probe_pairs = .ok (valOf (probeKeys (s_probe_pairs.ctx 1 q_list w_probe_pairs) y_probe_pairs m_probe_pairs keys_probe_pairs (List.range 2) []) i_probe_pairs, devOf (probeKeys (s_probe_pairs.ctx 1 q_list w_probe_pairs) y_probe_pairs m_probe_pairs keys_probe_pairs (List.range 2) []) i_probe_pairs) ∧
    (valOf (probeKeys (s_probe_pairs.ctx 1 q_list w_probe_pairs) y_probe_pairs m_probe_pairs keys_probe_pairs (List.range 2) []) i_probe_pairs = ([(0, some [80, 81, 82, 83]), (1, none)], none)) ∧
    exec (.probe 1 w_probe_pairs) s_probe_pairs = .next (s_probe_pairs.applied (f_probe_pairs.writeAt (s_probe_pairs.ctx 1 q_list w_probe_pairs) b_probe_pairs 0 (clean [7, 0, 0, 0, 0, 0, 0, 0, 80, 81, 82, 83])) 1 q_list w_probe_pairs 0x63 { r0 := some 2, r1 := some 1, r2 := some 0xFFFFFFFF0000000C, work := [1, 8, 1, 2] } (q_list.head + 1)) :=
  ⟨shows_of (by decide +kernel),
   by decide +kernel,
   run_of (by decide +kernel),
   by decide +kernel,
   ok_of (by decide +kernel),
   by decide +kernel,
   ok_of (by decide +kernel),
   run_of (by decide +kernel),
   by decide +kernel,
   ok_of (by decide +kernel),
   run_of (by decide +kernel),
   run_of (by decide +kernel),
   by decide +kernel,
   gives_iff.1 (by decide +kernel)⟩

/-- Two keys, a table of two buckets that holds the first (R377, R379), and the descriptor of a probe. -/
def d_probe_all : Dev := { dev0 with mem := { resv := [(17, rline 17 0x5A5A5A5A41414141), (24, rline 24 0x55000000000000000700000000000004000000000000000103000000000000000000000000000000000000006300000040), (32, rline 32 0x100000000FFFFFFFF0101000154484B5A), (35, rline 35 0x53525150414141410000000000000001)] } }

def w_probe_all : PWord := { phase := true, fmt := 5, ra := 2, rb := 1, rc := 3, swin := 1, dwin := 1, imm := BitVec.ofNat 64 (2 ^ 58 + 512) }
def s_probe_all : State := showing d_probe_all q_list 0x63 w_probe_all
def a_probe_all : Area := { resv := true, g := 0, base := 1088, len := 8 }
def b_probe_all : Area := { resv := true, g := 0, base := 1280, len := 64 }
def t_probe_all : Area := { resv := true, g := 0, base := 1536, len := 64 }
def h_probe_all : Area := { resv := true, g := 0, base := 2048, len := 64 }
def m_probe_all : Area := { resv := true, g := 0, base := 2048, len := 320 }
def k_probe_all : ProbeDesc := { head := { dlen := 64, chain := none }, form := 3, win := 1, off := 1024, base := 7, miss := [85, 0, 0, 0, 0, 0, 0, 0, 0, 0, 0, 0, 0, 0, 0, 0] }
def y_probe_all : HashTable := { key := 4, pay := 4, log := 1, seed1 := 0xFFFFFFFF, seed2 := 0 }
def as_probe_all : List Area := [{ resv := true, g := 0, base := 1088, len := 0 }, { resv := true, g := 0, base := 1280, len := 0 }, { resv := true, g := 0, base := 1536, len := 64 }, { resv := true, g := 0, base := 1024, len := 0 }]
def desc_probe_all : List Byte := valOf (Eng.third (s_probe_all.ctx 1 q_list w_probe_all) q_list w_probe_all 64 [{ win := w_probe_all.swin.toNat, off := ((q_list).vals w_probe_all).b.1.toNat, len := 0 }, { win := w_probe_all.dwin.toNat, off := ((q_list).vals w_probe_all).a.1.toNat, len := 0, right := 1 }] false) (s_probe_all.dev.entered 1 q_list w_probe_all 0x63)
def e_probe_all : Dev := devOf (Eng.third (s_probe_all.ctx 1 q_list w_probe_all) q_list w_probe_all 64 [{ win := w_probe_all.swin.toNat, off := ((q_list).vals w_probe_all).b.1.toNat, len := 0 }, { win := w_probe_all.dwin.toNat, off := ((q_list).vals w_probe_all).a.1.toNat, len := 0, right := 1 }] false) (s_probe_all.dev.entered 1 q_list w_probe_all 0x63)
def hb_probe_all : PBytes := valOf (Eng.read (s_probe_all.ctx 1 q_list w_probe_all) h_probe_all 0 64) e_probe_all
def g_probe_all : Dev := devOf (Eng.read (s_probe_all.ctx 1 q_list w_probe_all) h_probe_all 0 64) e_probe_all
def keys_probe_all : PBytes := valOf (Eng.read (s_probe_all.ctx 1 q_list w_probe_all) a_probe_all 0 8) g_probe_all
def i_probe_all : Dev := devOf (Eng.read (s_probe_all.ctx 1 q_list w_probe_all) a_probe_all 0 8) g_probe_all
def f_probe_all : Dev := devOf (probeKeys (s_probe_all.ctx 1 q_list w_probe_all) y_probe_all m_probe_all keys_probe_all (List.range 2) []) i_probe_all
/-- PROBE as payloads, 0x55 for a miss (R380). -/
theorem witness_probe_all :
    Shows s_probe_all 1 w_probe_all probePel q_list s_probe_all.dev ∧
    (0 < ((q_list).vals w_probe_all).c.1.toNat ∧ ((q_list).vals w_probe_all).c.1.toNat < 2 ^ 32) ∧
    (Eng.third (s_probe_all.ctx 1 q_list w_probe_all) q_list w_probe_all 64 [{ win := w_probe_all.swin.toNat, off := ((q_list).vals w_probe_all).b.1.toNat, len := 0 }, { win := w_probe_all.dwin.toNat, off := ((q_list).vals w_probe_all).a.1.toNat, len := 0, right := 1 }] false).run (s_probe_all.dev.entered 1 q_list w_probe_all 0x63) = .ok (valOf (Eng.third (s_probe_all.ctx 1 q_list w_probe_all) q_list w_probe_all 64 [{ win := w_probe_all.swin.toNat, off := ((q_list).vals w_probe_all).b.1.toNat, len := 0 }, { win := w_probe_all.dwin.toNat, off := ((q_list).vals w_probe_all).a.1.toNat, len := 0, right := 1 }] false) (s_probe_all.dev.entered 1 q_list w_probe_all 0x63), devOf (Eng.third (s_probe_all.ctx 1 q_list w_probe_all) q_list w_probe_all 64 [{ win := w_probe_all.swin.toNat, off := ((q_list).vals w_probe_all).b.1.toNat, len := 0 }, { win := w_probe_all.dwin.toNat, off := ((q_list).vals w_probe_all).a.1.toNat, len := 0, right := 1 }] false) (s_probe_all.dev.entered 1 q_list w_probe_all 0x63)) ∧
    (probeDesc desc_probe_all = some k_probe_all) ∧
    e_probe_all.ranges 1 q_list [{ win := w_probe_all.swin.toNat, off := ((q_list).vals w_probe_all).b.1.toNat, len := 0 }, { win := w_probe_all.dwin.toNat, off := ((q_list).vals w_probe_all).a.1.toNat, len := 0, right := 1 }, thirdRng w_probe_all 64, { win := k_probe_all.win, off := 0, len := 0 }] false false = .ok as_probe_all ∧
    (k_probe_all.off % 64 = 0 ∧ k_probe_all.off + 64 ≤ (q_list.window k_probe_all.win).length) ∧
    e_probe_all.ranges 1 q_list [{ win := k_probe_all.win, off := k_probe_all.off, len := 64 }] false false = .ok [h_probe_all] ∧
    (Eng.read (s_probe_all.ctx 1 q_list w_probe_all) h_probe_all 0 64).run e_probe_all = .ok (valOf (Eng.read (s_probe_all.ctx 1 q_list w_probe_all) h_probe_all 0 64) e_probe_all, devOf (Eng.read (s_probe_all.ctx 1 q_list w_probe_all) h_probe_all 0 64) e_probe_all) ∧
    (hb_probe_all.all (fun u => !u.2) = true ∧ hashTable (hb_probe_all.map Prod.fst) = some y_probe_all ∧ k_probe_all.off + 64 + 128 * 2 ^ y_probe_all.log ≤ (q_list.window k_probe_all.win).length) ∧
    g_probe_all.ranges 1 q_list [{ win := w_probe_all.swin.toNat, off := ((q_list).vals w_probe_all).b.1.toNat, len := 8 }, { win := w_probe_all.dwin.toNat, off := ((q_list).vals w_probe_all).a.1.toNat, len := 64, right := 1 }, thirdRng w_probe_all 64, { win := k_probe_all.win, off := k_probe_all.off, len := 320 }] false false = .ok [a_probe_all, b_probe_all, t_probe_all, m_probe_all] ∧
    (Eng.read (s_probe_all.ctx 1 q_list w_probe_all) a_probe_all 0 8).run g_probe_all = .ok (valOf (Eng.read (s_probe_all.ctx 1 q_list w_probe_all) a_probe_all 0 8) g_probe_all, devOf (Eng.read (s_probe_all.ctx 1 q_list w_probe_all) a_probe_all 0 8) g_probe_all) ∧
    (probeKeys (s_probe_all.ctx 1 q_list w_probe_all) y_probe_all m_probe_all keys_probe_all (List.range 2) []).run i_probe_all = .ok (valOf (probeKeys (s_probe_all.ctx 1 q_list w_probe_all) y_probe_all m_probe_all keys_probe_all (List.range 2) []) i_probe_all, devOf (probeKeys (s_probe_all.ctx 1 q_list w_probe_all) y_probe_all m_probe_all keys_probe_all (List.range 2) []) i_probe_all) ∧
    (valOf (probeKeys (s_probe_all.ctx 1 q_list w_probe_all) y_probe_all m_probe_all keys_probe_all (List.range 2) []) i_probe_all = ([(0, some [80, 81, 82, 83]), (1, none)], none)) ∧
    exec (.probe 1 w_probe_all) s_probe_all = .next (s_probe_all.applied (f_probe_all.writeAt (s_probe_all.ctx 1 q_list w_probe_all) b_probe_all 0 (clean [80, 81, 82, 83, 85, 0, 0, 0])) 1 q_list w_probe_all 0x63 { r0 := some 2, r1 := some 2, r2 := some 0xFFFFFFFF00000008, work := [1, 8, 2, 2] } (q_list.head + 1)) :=
  ⟨shows_of (by decide +kernel),
   by decide +kernel,
   run_of (by decide +kernel),
   by decide +kernel,
   ok_of (by decide +kernel),
   by decide +kernel,
   ok_of (by decide +kernel),
   run_of (by decide +kernel),
   by decide +kernel,
   ok_of (by decide +kernel),
   run_of (by decide +kernel),
   run_of (by decide +kernel),
   by decide +kernel,
   gives_iff.1 (by decide +kernel)⟩

/-- Five one-byte elements and the descriptor of a reduction to one group. -/
def d_reduce : Dev := { dev0 with mem := { resv := [(17, rline 17 0x801070903), (24, rline 24 0x1000000000000000000000000000000000000000000000000006400000040)] } }

def w_reduce : PWord := { phase := true, fmt := 5, ra := 2, rb := 1, rc := 3, swin := 1, dwin := 1, imm := BitVec.ofNat 64 (2 ^ 58 + 512) }
def s_reduce : State := showing d_reduce q_scan 0x64 w_reduce
def a_reduce : Area := { resv := true, g := 0, base := 1088, len := 5 }
def b_reduce : Area := { resv := true, g := 0, base := 1280, len := 64 }
def t_reduce : Area := { resv := true, g := 0, base := 1536, len := 64 }
def k_reduce : ReduceDesc := { head := { dlen := 64, chain := none }, width := 1, type := 0, gw := 0, gwin := 0, sel := none, prior := none, selBit := 0, groups := 1, goff := 0, soff := 0, poff := 0 }
def desc_reduce : List Byte := valOf (Eng.third (s_reduce.ctx 1 q_scan w_reduce) q_scan w_reduce 64 [{ win := w_reduce.swin.toNat, off := ((q_scan).vals w_reduce).b.1.toNat, len := 0 }, { win := w_reduce.dwin.toNat, off := ((q_scan).vals w_reduce).a.1.toNat, len := 0, right := 1 }] false) (s_reduce.dev.entered 1 q_scan w_reduce 0x64)
def e_reduce : Dev := devOf (Eng.third (s_reduce.ctx 1 q_scan w_reduce) q_scan w_reduce 64 [{ win := w_reduce.swin.toNat, off := ((q_scan).vals w_reduce).b.1.toNat, len := 0 }, { win := w_reduce.dwin.toNat, off := ((q_scan).vals w_reduce).a.1.toNat, len := 0, right := 1 }] false) (s_reduce.dev.entered 1 q_scan w_reduce 0x64)
def y_reduce : PBytes := valOf (Eng.read (s_reduce.ctx 1 q_scan w_reduce) a_reduce 0 5) e_reduce
def f_reduce : Dev := devOf (Eng.read (s_reduce.ctx 1 q_scan w_reduce) a_reduce 0 5) e_reduce
/-- REDUCE: count 5, sum 28, least 1, greatest 9 (R383). -/
theorem witness_reduce :
    Shows s_reduce 1 w_reduce reducePel q_scan s_reduce.dev ∧
    (0 < ((q_scan).vals w_reduce).c.1.toNat ∧ ((q_scan).vals w_reduce).c.1.toNat < 2 ^ 32) ∧
    (Eng.third (s_reduce.ctx 1 q_scan w_reduce) q_scan w_reduce 64 [{ win := w_reduce.swin.toNat, off := ((q_scan).vals w_reduce).b.1.toNat, len := 0 }, { win := w_reduce.dwin.toNat, off := ((q_scan).vals w_reduce).a.1.toNat, len := 0, right := 1 }] false).run (s_reduce.dev.entered 1 q_scan w_reduce 0x64) = .ok (valOf (Eng.third (s_reduce.ctx 1 q_scan w_reduce) q_scan w_reduce 64 [{ win := w_reduce.swin.toNat, off := ((q_scan).vals w_reduce).b.1.toNat, len := 0 }, { win := w_reduce.dwin.toNat, off := ((q_scan).vals w_reduce).a.1.toNat, len := 0, right := 1 }] false) (s_reduce.dev.entered 1 q_scan w_reduce 0x64), devOf (Eng.third (s_reduce.ctx 1 q_scan w_reduce) q_scan w_reduce 64 [{ win := w_reduce.swin.toNat, off := ((q_scan).vals w_reduce).b.1.toNat, len := 0 }, { win := w_reduce.dwin.toNat, off := ((q_scan).vals w_reduce).a.1.toNat, len := 0, right := 1 }] false) (s_reduce.dev.entered 1 q_scan w_reduce 0x64)) ∧
    (reduceDesc desc_reduce = some k_reduce) ∧
    e_reduce.ranges 1 q_scan [{ win := w_reduce.swin.toNat, off := ((q_scan).vals w_reduce).b.1.toNat, len := 5 }, { win := w_reduce.dwin.toNat, off := ((q_scan).vals w_reduce).a.1.toNat, len := 64, right := 1 }, thirdRng w_reduce 64] false false = .ok [a_reduce, b_reduce, t_reduce] ∧
    (Eng.read (s_reduce.ctx 1 q_scan w_reduce) a_reduce 0 5).run e_reduce = .ok (valOf (Eng.read (s_reduce.ctx 1 q_scan w_reduce) a_reduce 0 5) e_reduce, devOf (Eng.read (s_reduce.ctx 1 q_scan w_reduce) a_reduce 0 5) e_reduce) ∧
    (y_reduce.all (fun u => !u.2) = true) ∧
    exec (.reduce 1 w_reduce) s_reduce = .next (s_reduce.applied (f_reduce.writeAt (s_reduce.ctx 1 q_scan w_reduce) b_reduce 0 (clean [5, 0, 0, 0, 0, 0, 0, 0, 28, 0, 0, 0, 0, 0, 0, 0, 0, 0, 0, 0, 0, 0, 0, 0, 1, 0, 0, 0, 0, 0, 0, 0, 9, 0, 0, 0, 0, 0, 0, 0, 0, 0, 0, 0, 0, 0, 0, 0, 0, 0, 0, 0, 0, 0, 0, 0, 0, 0, 0, 0, 0, 0, 0, 0])) 1 q_scan w_reduce 0x64 { r0 := some 5, r1 := some 1, r2 := some 0xFFFFFFFF00000040, work := [1, 5, 1, 5] } (q_scan.head + 1)) :=
  ⟨shows_of (by decide +kernel),
   by decide +kernel,
   run_of (by decide +kernel),
   by decide +kernel,
   ok_of (by decide +kernel),
   run_of (by decide +kernel),
   by decide +kernel,
   gives_iff.1 (by decide +kernel)⟩

end Sys2Proof.Tests
end

