-- ==== Sys2Proof/Tests/Queues.lean ====
section
/-!
SUPPORT. Tests of the queue of commands, of contexts, progress, runs, the end of instructions, and doorbells.
-/
namespace Sys2Proof.Tests

open Sys2Proof.Machine

set_option Elab.async false

def s_step : State := { dev := dev0, pending := [.watchdogRestart, .budgetWindow] }
/-- A step runs the command at the front of the queue. -/
theorem witness_step :
    (gives (step s_step) (nxs .watchdogRestart { s_step with pending := [.budgetWindow] }) = true) ∧
    ((nxs .watchdogRestart { s_step with pending := [.budgetWindow] }).pending = [.budgetWindow]) :=
  ⟨by decide +kernel,
   by decide +kernel⟩

def s_idle : State := { dev := dev0 }
/-- On an empty queue one tick of LAMPCLK passes (log 1); none without the crystal. -/
theorem witness_idle :
    (s_idle.pending = [] ∧ gives (step s_idle) { s_idle with dev := { dev0 with power := { dev0.power with ticks := 1 } } } = true) ∧
    (gives (step { dev := { dev0 with power := { dev0.power with crystal := false } } }) { dev := { dev0 with power := { dev0.power with crystal := false } } } = true) :=
  ⟨by decide +kernel,
   by decide +kernel⟩

def s_bind : State := { dev := { dev0 with queues := { qs := [(20, { tail := 1 })] } } }
/-- The one queue with work is bound to context 0 (R289). -/
theorem witness_bind :
    (s_bind.dev.queue? 20 = some { tail := 1 } ∧ s_bind.dev.awake = true ∧ s_bind.dev.nextBound = some 20) ∧
    exec (.contextBind 20) s_bind = .next ({ s_bind with dev := ((s_bind.dev.setQueue 20 { tail := 1, ctx := some 0 }).onQueues fun k => { k with ctxPtr := 24 }).bump 835 }) :=
  ⟨by decide +kernel,
   gives_iff.1 (by decide +kernel)⟩

def s_yield : State := { dev := { dev0 with queues := { qs := [(20, { ctx := some 7 })] } } }
/-- A queue with nothing to issue gives up its context (R289). -/
theorem witness_yield :
    exec (.contextYield 20) s_yield = .next ({ s_yield with dev := s_yield.dev.setQueue 20 {} }) :=
  gives_iff.1 (by decide +kernel)

def s_torn_good : State := { dev := (showing dev0 { queue1 with tornWait := true, torn := 3 } 0x00 { phase := true }).dev }
/-- A torn slot of queue 1 is read again and has its phase (R276). -/
theorem witness_torn_good :
    (Eng.read { q := 1, pos := 0, who := .engine 1 0, src := 128, cls := 0, alloc := true } (s_torn_good.dev.slotArea 1 { queue1 with tornWait := true, torn := 3 } 0) 0 16).run s_torn_good.dev = .ok (valOf (Eng.read { q := 1, pos := 0, who := .engine 1 0, src := 128, cls := 0, alloc := true } (s_torn_good.dev.slotArea 1 { queue1 with tornWait := true, torn := 3 } 0) 0 16) s_torn_good.dev, devOf (Eng.read { q := 1, pos := 0, who := .engine 1 0, src := 128, cls := 0, alloc := true } (s_torn_good.dev.slotArea 1 { queue1 with tornWait := true, torn := 3 } 0) 0 16) s_torn_good.dev) ∧
    ((BitVec.ofNat 128 (numOf (valOf (Eng.read { q := 1, pos := 0, who := .engine 1 0, src := 128, cls := 0, alloc := true } (s_torn_good.dev.slotArea 1 { queue1 with tornWait := true, torn := 3 } 0) 0 16) s_torn_good.dev))).getLsbD 15 = phaseOf queue1.slots 0) ∧
    exec (.tornReread 1) s_torn_good = .next ({ s_torn_good with dev := (s_torn_good.dev.setQueue 1 queue1).after }) :=
  ⟨run_of (by decide +kernel),
   by decide +kernel,
   gives_iff.1 (by decide +kernel)⟩

def s_torn_again : State := { dev := (showing dev0 { queue1 with tornWait := true, torn := 6 } 0x00 {}).dev }
/-- A torn slot that still lacks its phase on the seventh reread is read once more (R276). -/
theorem witness_torn_again :
    (Eng.read { q := 1, pos := 0, who := .engine 1 0, src := 128, cls := 0, alloc := true } (s_torn_again.dev.slotArea 1 { queue1 with tornWait := true, torn := 6 } 0) 0 16).run s_torn_again.dev = .ok (valOf (Eng.read { q := 1, pos := 0, who := .engine 1 0, src := 128, cls := 0, alloc := true } (s_torn_again.dev.slotArea 1 { queue1 with tornWait := true, torn := 6 } 0) 0 16) s_torn_again.dev, devOf (Eng.read { q := 1, pos := 0, who := .engine 1 0, src := 128, cls := 0, alloc := true } (s_torn_again.dev.slotArea 1 { queue1 with tornWait := true, torn := 6 } 0) 0 16) s_torn_again.dev) ∧
    exec (.tornReread 1) s_torn_again = .next ({ s_torn_again with dev := (s_torn_again.dev.setQueue 1 { queue1 with tornWait := true, torn := 7 }).after }) :=
  ⟨run_of (by decide +kernel),
   gives_iff.1 (by decide +kernel)⟩

def s_progress : State := { dev := { dev0 with queues := { qs := [(20, { tail := 9, retired := 5, head := 5, dirty := true, progA := { seq := 7, committed := true } })] } } }
/-- A commit of the progress record writes the copy that is not valid (R297). -/
theorem witness_progress :
    exec (.progressRecordCommit 20) s_progress = .next { s_progress with dev := nx (.progressRecordCommit 20) s_progress } ∧
    ((((nx (.progressRecordCommit 20) s_progress).queue? 20).getD {}).commit = 5 ∧ (((nx (.progressRecordCommit 20) s_progress).queue? 20).getD {}).valid.seq = 8 ∧ (((nx (.progressRecordCommit 20) s_progress).queue? 20).getD {}).valid.retire = 5 ∧ (((nx (.progressRecordCommit 20) s_progress).queue? 20).getD {}).valid.tail = 9 ∧ (((nx (.progressRecordCommit 20) s_progress).queue? 20).getD {}).dirty = false) :=
  ⟨nx_iff (by decide +kernel),
   by decide +kernel⟩

def s_submit : State := { dev := dev0 }
/-- Firmware's run joins those that wait for queue 0 of its port (R266). -/
theorem witness_submit :
    exec (.firmwareSubmission 2 [5, 6]) s_submit = .next { s_submit with dev := nx (.firmwareSubmission 2 [5, 6]) s_submit } ∧
    (mgetD (nx (.firmwareSubmission 2 [5, 6]) s_submit).queues.q0Wait 2 [] = [{ writer := .firmware, words := [5, 6] }] ∧ { (nx (.firmwareSubmission 2 [5, 6]) s_submit) with queues := s_submit.dev.queues } = s_submit.dev) :=
  ⟨nx_iff (by decide +kernel),
   by decide +kernel⟩

def s_place : State := { dev := { dev0 with queues := { qs := [(8194, { ctx := some 0 })], q0Wait := [(2, [{ writer := .firmware, words := [5] }])] } } }
/-- The one run that waits is laid into the ring of queue 0 (R266). -/
theorem witness_place :
    (mgetD s_place.dev.queues.q0Wait 2 [] = [{ writer := .firmware, words := [5] }] ∧ s_place.dev.queue? 8194 = some { ctx := some 0 }) ∧
    exec (.runPlacement 2) s_place = .next ({ s_place with dev := ((s_place.dev.layWords 8194 { ctx := some 0 } 0 [5]).setQueue 8194 ({ ctx := some 0, tail := 1, dirty := true } : Queue).settle).onQueues fun k => { k with q0Wait := mset k.q0Wait 2 [], q0Ptr := mset k.q0Ptr 2 (((({ writer := .firmware, words := [5] } : Run).writer.turn) + 1) % 3), q0Runs := mmod k.q0Runs 2 [] (· ++ [{ writer := .firmware, words := [5], start := 0 }]) } }) :=
  ⟨by decide +kernel,
   gives_iff.1 (by decide +kernel)⟩

def s_done : State := { dev := { dev0 with queues := { qs := [(20, { tail := 5, head := 5, retired := 4, ctx := some 0, issued := [{ pos := 4, word := {}, opcode := 0, res := { regs := [(3, 8, false)] } }] })] } } }
/-- NOP that stands alone completes (R285). -/
theorem witness_done :
    s_done.dev.Still ∧
    (s_done.dev.outstanding (.engine 20 4) = false ∧ s_done.dev.toldLater 20 4 = false ∧ ({ pos := 4, word := {}, opcode := 0 } : Issued).records = false) ∧
    exec (.instructionComplete 20 4 .ok) s_done = .next ({ s_done with dev := ((s_done.dev.setQueue 20 (applyRegs { tail := 5, head := 5, retired := 4, ctx := some 0, dirty := true } [(3, 8, false)]).settle).bump 833).after }) :=
  ⟨by constructor <;> decide +kernel,
   by decide +kernel,
   gives_iff.1 (by decide +kernel)⟩

def s_halted : State := { dev := { dev0 with queues := { qs := [(20, { tail := 5, head := 5, retired := 4, ctx := some 0, issued := [{ pos := 4, word := {}, opcode := 1 }] })] } } }
/-- HALT stops its queue with status 0 (R317). -/
theorem witness_halted :
    exec (.instructionComplete 20 4 .ok) s_halted = .next ({ s_halted with dev := ((s_halted.dev.setQueue 20 (Queue.settle { tail := 5, head := 5, retired := 4, ctx := some 0, state := 3, run := false, stopPos := 4, dirty := true })).bump 833).after }) :=
  gives_iff.1 (by decide +kernel)

def s_recorded : State := { dev := { dev0 with queues := { qs := [(1, { tail := 5, head := 5, retired := 4, written := 63, ctx := some 0, issued := [{ pos := 4, word := { sig := true }, opcode := 0, res := { r0 := some 9, r1 := some 0, r2 := some 0 } }] })] } } }
/-- NOP of the fabric manager's queue 1 writes the record it asked for (R292). -/
theorem witness_recorded :
    (({ pos := 4, word := { sig := true }, opcode := 0, res := { r0 := some 9 } } : Issued).records = true) ∧
    exec (.instructionComplete 1 4 .ok) s_recorded = .next { s_recorded with dev := nx (.instructionComplete 1 4 .ok) s_recorded } ∧
    ((((nx (.instructionComplete 1 4 .ok) s_recorded).queue? 1).getD {}).issued = [] ∧ (((nx (.instructionComplete 1 4 .ok) s_recorded).queue? 1).getD {}).written = 64 ∧ mget (nx (.instructionComplete 1 4 .ok) s_recorded).queues.fmRecs (256 + 63) = some (0#64 ++ 0#64 ++ 9#64 ++ 0#8 ++ 1#8 ++ 0#16 ++ 4#32)) :=
  ⟨by decide +kernel,
   nx_iff (by decide +kernel),
   by decide +kernel⟩

def s_limit : State := { dev := { dev0 with queues := { qs := [(20, { tail := 5, head := 5, retired := 4, ctx := some 0, issued := [{ pos := 4, word := {}, opcode := 0x20, state := .waiting }] })] } } }
/-- An instruction that waits too long faults with 0x0209 (R286). -/
theorem witness_limit :
    s_limit.dev.inRun ∧
    exec (.timeLimit 20 4) s_limit = .next ({ s_limit with dev := (((s_limit.dev.withdraw (.engine 20 4)).putIssued 20 { pos := 4, word := {}, opcode := 0x20, res := { status := 0x0209 } }).bump 834).after }) :=
  ⟨⟨by decide +kernel, by decide +kernel⟩,
   gives_iff.1 (by decide +kernel)⟩

def s_limit_unit : State := { dev := { dev0 with queues := { qs := [(20, { tail := 5, head := 5, retired := 4, ctx := some 0, issued := [{ pos := 4, word := {}, opcode := 0x60, state := .waiting }] })] } } }
/-- A SCAN that waits for its elements is stopped with none taken (R286, R390). -/
theorem witness_limit_unit :
    s_limit_unit.dev.inRun ∧
    (needsUnit 0x60 = true ∧ s_limit_unit.dev.pages.moves = []) ∧
    ((haltBody 0x60 (s_limit_unit.dev.ctxOf s_limit_unit.trust 20 ((s_limit_unit.dev.queue? 20).getD {}) 4 {}) ((s_limit_unit.dev.queue? 20).getD {}) {} (valsOf ((s_limit_unit.dev.queue? 20).getD {}) [] {})).run s_limit_unit.dev = .ok (nothingDone, s_limit_unit.dev)) ∧
    exec (.timeLimit 20 4) s_limit_unit = .next ({ s_limit_unit with dev := ((s_limit_unit.dev.putIssued 20 { pos := 4, word := {}, opcode := 0x60, res := { nothingDone with status := 0x0209 } }).bump 834).after }) :=
  ⟨⟨by decide +kernel, by decide +kernel⟩,
   by decide +kernel,
   rfl,
   gives_iff.1 (by decide +kernel)⟩

def s_wait_deadline : State := { dev := { dev0 with power := { dev0.power with ticks := 32768 }, queues := { qs := [(20, { tail := 1, head := 1, ctx := some 0, regs := [(1, 1000000000)], issued := [{ pos := 0, word := { ra := 3, rb := 1 }, opcode := 0x06, state := .waiting }] })] } } }
/-- A WAIT for device time ends at its deadline (R327). -/
theorem witness_wait_deadline :
    exec (.waitDeadline 20 0) s_wait_deadline = .next ({ s_wait_deadline with dev := ((s_wait_deadline.dev.onPages fun p => { p with farBuf := [] }).putIssued 20 { pos := 0, word := { ra := 3, rb := 1 }, opcode := 0x06, res := { regs := [(3, 1000000000, false)] } }).after }) :=
  gives_iff.1 (by decide +kernel)

def s_wait_reread : State := { dev := { dev0 with mem := { resv := [(17, rline 17 5)] }, queues := { qs := [(1, { queue1 with head := 1, regs := [(1, 64), (2, 5)], issued := [{ pos := 0, word := { ra := 3, rb := 1, rc := 2, swin := 1, mod := 1, imm := 100 }, opcode := 0x06, state := .waiting }] })] } } }
/-- A WAIT on a word ends when a reread finds it equal (R327). -/
theorem witness_wait_reread :
    s_wait_reread.dev.ranges 1 { queue1 with head := 1, regs := [(1, 64), (2, 5)], issued := [{ pos := 0, word := { ra := 3, rb := 1, rc := 2, swin := 1, mod := 1, imm := 100 }, opcode := 0x06, state := .waiting }] } [{ win := 1, off := 64, len := 8, align := 8 }] false false = .ok [{ resv := true, g := 0, base := 1088, len := 8 }] ∧
    exec (.waitReread 1 0) s_wait_reread = .next ({ s_wait_reread with dev := ((s_wait_reread.dev.onPages fun p => { p with farBuf := [] }).putIssued 1 { pos := 0, word := { ra := 3, rb := 1, rc := 2, swin := 1, mod := 1, imm := 100 }, opcode := 0x06, res := { regs := [(3, 5, false)] } }).after }) :=
  ⟨ok_of (by decide +kernel),
   gives_iff.1 (by decide +kernel)⟩

def s_wait_timeout : State := { dev := { dev0 with mem := { resv := [(17, rline 17 6)] }, queues := { qs := [(1, { queue1 with head := 1, regs := [(1, 64), (2, 5)], issued := [{ pos := 0, word := { ra := 3, rb := 1, rc := 2, swin := 1, mod := 1, imm := 100 }, opcode := 0x06, state := .waiting }] })] } } }
/-- A WAIT on a word ends at its timeout (R327). -/
theorem witness_wait_timeout :
    (s_wait_timeout.dev.putIssued 1 { pos := 0, word := { ra := 3, rb := 1, rc := 2, swin := 1, mod := 1, imm := 0 }, opcode := 0x06, state := .waiting }).ranges 1 { queue1 with head := 1, regs := [(1, 64), (2, 5)], issued := [{ pos := 0, word := { ra := 3, rb := 1, rc := 2, swin := 1, mod := 1, imm := 100 }, opcode := 0x06, state := .waiting }] } [{ win := 1, off := 64, len := 8, align := 8 }] false false = .ok [{ resv := true, g := 0, base := 1088, len := 8 }] ∧
    exec (.waitTimeout 1 0) s_wait_timeout = .next ({ s_wait_timeout with dev := ((s_wait_timeout.dev.onPages fun p => { p with farBuf := [] }).putIssued 1 { pos := 0, word := { ra := 3, rb := 1, rc := 2, swin := 1, mod := 1, imm := 0 }, opcode := 0x06, res := { status := 0x0101, regs := [(3, 6, false)] } }).after }) :=
  ⟨ok_of (by decide +kernel),
   gives_iff.1 (by decide +kernel)⟩

def s_doorbell : State := { dev := { dev0 with grottos := [(3, { state := 1, ownerLink := 1, ownerLd := 2 })], links := [(1, { up := true, cxl := true })], queues := { qs := [(20, { recd := { grotto := 3, ringOrder := 0 }, tail := 70, commit := 30 })] } } }
/-- DB_TAIL takes a tail 1 to 64 past the current one and at most 64 past the committed retire pointer: here 71 to 94; the same tail has no effect and others are refused (R273). -/
theorem witness_doorbell :
    s_doorbell.dev.inRun ∧
    s_doorbell.dev.Still ∧
    (s_doorbell.dev.ldOpen 1 2 = true ∧ s_doorbell.dev.queue? 20 = some { recd := { grotto := 3, ringOrder := 0 }, tail := 70, commit := 30 } ∧ s_doorbell.dev.ownerOf { recd := { grotto := 3, ringOrder := 0 }, tail := 70, commit := 30 } = (1, 2) ∧ ({ recd := { grotto := 3, ringOrder := 0 }, tail := 70, commit := 30 } : Queue).slots = 64) ∧
    exec (.dbTailWrite 1 2 (20 * 4096) 71) s_doorbell = .next ({ s_doorbell with dev := (s_doorbell.dev.setQueue 20 ({ recd := { grotto := 3, ringOrder := 0 }, tail := 71, commit := 30, dirty := true } : Queue).settle) }) ∧
    exec (.dbTailWrite 1 2 (20 * 4096) 94) s_doorbell = .next ({ s_doorbell with dev := (s_doorbell.dev.setQueue 20 ({ recd := { grotto := 3, ringOrder := 0 }, tail := 94, commit := 30, dirty := true } : Queue).settle) }) ∧
    exec (.dbTailWrite 1 2 (20 * 4096) 70) s_doorbell = .next s_doorbell ∧
    exec (.dbTailWrite 1 2 (20 * 4096) 95) s_doorbell = .next ({ s_doorbell with dev := s_doorbell.dev.event 0x385 4 (1 * 2 ^ 45 + 2 * 2 ^ 41 + 2 ^ 39 + 20 * 4096) 7 }) ∧
    exec (.dbTailWrite 1 2 (20 * 4096) 69) s_doorbell = .next ({ s_doorbell with dev := s_doorbell.dev.event 0x385 4 (1 * 2 ^ 45 + 2 * 2 ^ 41 + 2 ^ 39 + 20 * 4096) 7 }) :=
  ⟨⟨by decide +kernel, by decide +kernel⟩,
   by constructor <;> decide +kernel,
   by decide +kernel,
   gives_iff.1 (by decide +kernel),
   gives_iff.1 (by decide +kernel),
   gives_iff.1 (by decide +kernel),
   gives_iff.1 (by decide +kernel),
   gives_iff.1 (by decide +kernel)⟩

def s_run_set : State := { dev := { dev0 with grottos := [(3, { state := 1, ownerLink := 1, ownerLd := 2 })], links := [(1, { up := true, cxl := true })], queues := { qs := [(20, { recd := { grotto := 3, ringOrder := 0 }, state := 3, run := false, stopStatus := 0x0209, stopPos := 4 })] } } }
/-- Q_RUN starts a stopped queue (R295). -/
theorem witness_run_set :
    exec (.qRunSet 1 2 (20 * 4096 + 0x20)) s_run_set = .next ({ s_run_set with dev := s_run_set.dev.setQueue 20 { recd := { grotto := 3, ringOrder := 0 }, dirty := true } }) :=
  gives_iff.1 (by decide +kernel)

def s_run_clear : State := { dev := { dev0 with grottos := [(3, { state := 1, ownerLink := 1, ownerLd := 2 })], links := [(1, { up := true, cxl := true })], queues := { qs := [(20, { recd := { grotto := 3, ringOrder := 0 }, tail := 4 })] } } }
/-- Q_RUN stops a queue at once where nothing is issued (R295). -/
theorem witness_run_clear :
    exec (.qRunClear 1 2 (20 * 4096 + 0x20)) s_run_clear = .next ({ s_run_clear with dev := s_run_clear.dev.setQueue 20 { recd := { grotto := 3, ringOrder := 0 }, tail := 4, state := 3, run := false, dirty := true } }) :=
  gives_iff.1 (by decide +kernel)

def s_run_drain : State := { dev := { dev0 with grottos := [(3, { state := 1, ownerLink := 1, ownerLd := 2 })], links := [(1, { up := true, cxl := true })], queues := { qs := [(20, { recd := { grotto := 3, ringOrder := 0 }, tail := 4, head := 1, issued := [{ pos := 4, word := {}, opcode := 0 }] })] } } }
/-- Q_RUN stops a queue once what is issued has retired (R295). -/
theorem witness_run_drain :
    exec (.qRunClear 1 2 (20 * 4096 + 0x20)) s_run_drain = .next ({ s_run_drain with dev := s_run_drain.dev.setQueue 20 { recd := { grotto := 3, ringOrder := 0 }, tail := 4, head := 1, run := false, issued := [{ pos := 4, word := {}, opcode := 0 }] } }) :=
  gives_iff.1 (by decide +kernel)

def s_consumed : State := { dev := { dev0 with grottos := [(3, { state := 1, ownerLink := 1, ownerLd := 2 })], links := [(1, { up := true, cxl := true })], queues := { qs := [(20, { recd := { grotto := 3, ringOrder := 0 }, written := 9, crFull := true })] } } }
/-- CR_CONSUMED records what the program consumed (R293). -/
theorem witness_consumed :
    exec (.crConsumedWrite 1 2 (20 * 4096 + 0x28) 9) s_consumed = .next ({ s_consumed with dev := s_consumed.dev.setQueue 20 { recd := { grotto := 3, ringOrder := 0 }, written := 9, consumed := 9, dirty := true } }) :=
  gives_iff.1 (by decide +kernel)

end Sys2Proof.Tests
end

