-- ==== Sys2Proof/Tests/Registers.lean ====
section
/-!
SUPPORT. Tests of SPDM requests, register reads and writes, counters and class windows.
-/
namespace Sys2Proof.Tests

open Sys2Proof.Machine

set_option Elab.async false

def s_spdm_fresh : State := { dev := dev0 }
/-- Negotiation begins with the version (R596). -/
theorem witness_spdm_fresh :
    s_spdm_fresh.dev.inRun ∧
    (s_spdm_fresh.dev.spdmOpen 0 = true ∧ s_spdm_fresh.dev.fwUp = true ∧ s_spdm_fresh.trust.waiting = []) ∧
    exec (.getVersion 0) s_spdm_fresh = .next ({ s_spdm_fresh with dev := { s_spdm_fresh.dev with out := [{ msg := .spdm 0 true [0x12, 0x13] }] }, trust := { s_spdm_fresh.trust with negotiated := [(0, 1)] } }) :=
  ⟨⟨by decide +kernel, by decide +kernel⟩,
   by decide +kernel,
   gives_iff.1 (by decide +kernel)⟩

def s_spdm_caps : State := { dev := dev0, trust := { negotiated := [(0, 2)] } }
/-- Capabilities follow it, and algorithms these (R596). -/
theorem witness_spdm_caps :
    (s_spdm_caps.trust.stage 0 = 2) ∧
    exec (.getCapabilities 0) s_spdm_caps = .next ({ s_spdm_caps with dev := { s_spdm_caps.dev with out := [{ msg := .spdm 0 true [] }] }, trust := s_spdm_caps.trust }) ∧
    exec (.negotiateAlgorithms 0 true) s_spdm_caps = .next ({ s_spdm_caps with dev := { s_spdm_caps.dev with out := [{ msg := .spdm 0 true [] }] }, trust := { s_spdm_caps.trust with negotiated := [(0, 3)] } }) :=
  ⟨by decide +kernel,
   gives_iff.1 (by decide +kernel),
   gives_iff.1 (by decide +kernel)⟩

def t_spdm : Trust := { negotiated := [(0, 3)], leaf := 7, leafEnd := 8, leafMark := 1, mr := [(0, 55)], sessions := [{ chan := 2, id := 0 }] }

def s_spdm_answers : State := { dev := dev0, trust := t_spdm }
/-- Digests, a certificate, measurements, and signatures that each take leaf 7, the last one reserved (R590, R595). -/
theorem witness_spdm_answers :
    exec (.getDigests 0) s_spdm_answers = .next ({ s_spdm_answers with dev := { s_spdm_answers.dev with out := [{ msg := .spdm 0 true [1] (sha256 (Config.identityChain (identityKey s_spdm_answers.dev.plat.identitySeed))) }] }, trust := s_spdm_answers.trust }) ∧
    exec (.getCertificate 0 0 16 32) s_spdm_answers = .next ({ s_spdm_answers with dev := { s_spdm_answers.dev with out := [{ msg := .spdm 0 true [0, 16, 32] (((Config.identityChain (identityKey s_spdm_answers.dev.plat.identitySeed)).drop 16).take 32) }] }, trust := s_spdm_answers.trust }) ∧
    exec (.getMeasurements 0 1 false) s_spdm_answers = .next ({ s_spdm_answers with dev := { s_spdm_answers.dev with out := [{ msg := .spdm 0 true [55] }] }, trust := s_spdm_answers.trust }) ∧
    exec (.getMeasurements 0 5 false) s_spdm_answers = .next ({ s_spdm_answers with dev := { s_spdm_answers.dev with out := [{ msg := .spdm 0 true [s_spdm_answers.dev.flow.measure.toNat] }] }, trust := s_spdm_answers.trust }) ∧
    exec (.getMeasurements 0 8 false) s_spdm_answers = .next ({ s_spdm_answers with dev := { s_spdm_answers.dev with out := [{ msg := .spdm 0 true [0] }] }, trust := s_spdm_answers.trust }) ∧
    exec (.challenge 0 0) s_spdm_answers = .next ({ s_spdm_answers with dev := { s_spdm_answers.dev with out := [{ msg := .spdm 0 true [0, 7] (identitySign s_spdm_answers.dev.plat.identitySeed 7 (Config.transcript 7)) }] }, trust := { t_spdm with leaf := 8, leafTop := 8 } }) ∧
    exec (.getMeasurements 0 1 true) s_spdm_answers = .next ({ s_spdm_answers with dev := { s_spdm_answers.dev with out := [{ msg := .spdm 0 true [55, 7] (identitySign s_spdm_answers.dev.plat.identitySeed 7 (Config.transcript 7)) }] }, trust := { t_spdm with leaf := 8, leafTop := 8 } }) ∧
    exec (.keyExchange 0 0) s_spdm_answers = .next ({ s_spdm_answers with dev := { s_spdm_answers.dev with out := [{ msg := .spdm 0 true [1, 7] (identitySign s_spdm_answers.dev.plat.identitySeed 7 (Config.transcript 7)) }] }, trust := { t_spdm with leaf := 8, leafTop := 8, sessions := [{ chan := 2, id := 0 }, { chan := 0, id := 1 }] } }) :=
  ⟨rfl,
   rfl,
   gives_iff.1 (by decide +kernel),
   gives_iff.1 (by decide +kernel),
   gives_iff.1 (by decide +kernel),
   rfl,
   rfl,
   rfl⟩

def s_spdm_waits : State := { dev := dev0, trust := { t_spdm with leaf := 8 } }
/-- With no leaf reserved a challenge waits (R592). -/
theorem witness_spdm_waits :
    exec (.challenge 0 0) s_spdm_waits = .next ({ s_spdm_waits with trust := { s_spdm_waits.trust with waiting := [.challenge 0 0] } }) :=
  gives_iff.1 (by decide +kernel)

def s_spdm_finish : State := { dev := dev0, trust := { fmRoot := some 9, sessions := [{ chan := 0, id := 1 }] } }
/-- FINISH brings a session up; it is authenticated where the requester's root is the fabric manager's (R586). -/
theorem witness_spdm_finish :
    exec (.finish 0 1 (some 9)) s_spdm_finish = .next ({ s_spdm_finish with dev := { s_spdm_finish.dev with out := [{ msg := .spdm 0 true [1] }] }, trust := { s_spdm_finish.trust with sessions := [{ chan := 0, id := 1, up := true, auth := true }] } }) ∧
    exec (.finish 0 1 (some 8)) s_spdm_finish = .next ({ s_spdm_finish with dev := { s_spdm_finish.dev with out := [{ msg := .spdm 0 true [1] }] }, trust := { s_spdm_finish.trust with sessions := [{ chan := 0, id := 1, up := true }] } }) ∧
    exec (.finish 0 1 none) s_spdm_finish = .next ({ s_spdm_finish with dev := { s_spdm_finish.dev with out := [{ msg := .spdm 0 true [1] }] }, trust := { s_spdm_finish.trust with sessions := [{ chan := 0, id := 1, up := true }] } }) :=
  ⟨gives_iff.1 (by decide +kernel),
   gives_iff.1 (by decide +kernel),
   gives_iff.1 (by decide +kernel)⟩

def s_spdm_session : State := { dev := dev0, trust := { wrap := [(15, 3)], sessions := [{ chan := 0, id := 1, up := true, auth := true }] } }
/-- Inside an authenticated session over I3C (R586, R595, R597). -/
theorem witness_spdm_session :
    exec (.heartbeat 0 1) s_spdm_session = .next ({ s_spdm_session with dev := { s_spdm_session.dev with out := [{ msg := .spdm 0 true [] }] }, trust := s_spdm_session.trust }) ∧
    exec (.keyUpdate 0 1) s_spdm_session = .next ({ s_spdm_session with dev := { s_spdm_session.dev with out := [{ msg := .spdm 0 true [] }] }, trust := s_spdm_session.trust }) ∧
    exec (.endSession 0 1) s_spdm_session = .next ({ s_spdm_session with dev := { s_spdm_session.dev with out := [{ msg := .spdm 0 true [] }] }, trust := { s_spdm_session.trust with sessions := [] } }) ∧
    exec (.setWrappingKey 0 1 1 false 77) s_spdm_session = .next ({ s_spdm_session with dev := { s_spdm_session.dev with out := [{ msg := .spdm 0 true [] }] }, trust := { s_spdm_session.trust with wrap := [(1, 77), (15, 3)] } }) ∧
    exec (.setWrappingKey 0 1 15 true 0) s_spdm_session = .next ({ s_spdm_session with dev := { s_spdm_session.dev with out := [{ msg := .spdm 0 true [] }] }, trust := { s_spdm_session.trust with wrap := [] } }) :=
  ⟨gives_iff.1 (by decide +kernel),
   gives_iff.1 (by decide +kernel),
   gives_iff.1 (by decide +kernel),
   gives_iff.1 (by decide +kernel),
   gives_iff.1 (by decide +kernel)⟩

def s_spdm_ide : State := { dev := { d_host with links := [(1, { up := true, cxl := true, cacheIde := { rx := { set0 := some 4 }, insecure := true } })] }, trust := { sessions := [{ chan := 2, id := 1, up := true }] } }
/-- Keys of an IDE stream of link 1 (R52, R598). -/
theorem witness_spdm_ide :
    (s_spdm_ide.dev.spdmOpen 2 = true ∧ s_spdm_ide.dev.linkExists 1 = true) ∧
    exec (.keyProg 2 1 1 0 false 0 77) s_spdm_ide = .next ({ s_spdm_ide with dev := { (s_spdm_ide.dev.setLink 1 { s_spdm_ide.dev.link 1 with cacheIde := { rx := { set0 := some 77 }, insecure := true } }) with out := [{ msg := .spdm 2 true [] }] } }) ∧
    exec (.kSetGo 2 1 1 0 false 0) s_spdm_ide = .next ({ s_spdm_ide with dev := { (s_spdm_ide.dev.setLink 1 { s_spdm_ide.dev.link 1 with cacheIde := { rx := { set0 := some 4, inUse := some 0 } } }) with out := [{ msg := .spdm 2 true [] }] } }) ∧
    exec (.kSetStop 2 1 1 1) s_spdm_ide = .next ({ s_spdm_ide with dev := { (s_spdm_ide.dev.setLink 1 { s_spdm_ide.dev.link 1 with ioIde := {} }) with out := [{ msg := .spdm 2 true [] }] } }) :=
  ⟨by decide +kernel,
   gives_iff.1 (by decide +kernel),
   gives_iff.1 (by decide +kernel),
   gives_iff.1 (by decide +kernel)⟩

def ctl : RegView := { mgmt := true }
/-- A view of logical device 2 of link 1, which does not command the device. -/
def seen : RegView := { link := 1, ld := 2 }
def d_regs : Dev := { d_host with
  faults := { status := 0x81, total := 9, consumed := 4 }
  chans := [(0, { state := 3, fault := 0xC1, over95 := true, ranks := 1 })], ev := { p1 := { state := 0, fault := 0x81 } }
  qos := { classes := [(2, { guar := 10, eff := 5, missed := true, atRisk := true })] }
  power := { d_host.power with retPg := true, retHold := true, retCanary := true }, cnt := { wrap := [64, 70, 3] } }

def s_clearing : State := { dev := d_regs }
/-- Reads of the registers that clear, in a view that commands the device, and with 32 bits (R492, R604). -/
theorem witness_clearing :
    s_clearing.dev.inRun ∧
    (s_clearing.dev.viewOpen ctl = true ∧ control ctl = true) ∧
    exec (.faultStatusRead ctl true) s_clearing = .next ({ s_clearing with dev := { (s_clearing.dev.onFaults fun f => { f with status := f.status &&& s_clearing.dev.faultStay }) with out := [{ msg := .regData ctl (if s_clearing.dev.faults.status &&& s_clearing.dev.faultStay = 0 then 0x81 else 0x8000000000000081) }] } }) ∧
    exec (.faultStatusRead ctl false) s_clearing = .next ({ s_clearing with dev := { (s_clearing.dev) with out := [{ msg := .regData ctl 0x81 }] } }) ∧
    exec (.chFaultRead ctl 0 true) s_clearing = .next ({ s_clearing with dev := { (s_clearing.dev.setChan 0 { s_clearing.dev.chan 0 with fault := 0x40 }) with out := [{ msg := .regData ctl 0x80000000000000C1 }] } }) ∧
    exec (.chFaultRead ctl 0 false) s_clearing = .next ({ s_clearing with dev := { (s_clearing.dev) with out := [{ msg := .regData ctl 0xC1 }] } }) ∧
    exec (.evFaultRead ctl 1 true) s_clearing = .next ({ s_clearing with dev := { (s_clearing.dev.setEv 1 { s_clearing.dev.evPort 1 with fault := 0x80 }) with out := [{ msg := .regData ctl 0x8000000000000081 }] } }) ∧
    exec (.classStatusRead ctl true) s_clearing = .next { s_clearing with dev := nx (.classStatusRead ctl true) s_clearing } ∧
    ((nx (.classStatusRead ctl true) s_clearing).out = [{ msg := .regData ctl 0x8000000000040004 }] ∧ ((nx (.classStatusRead ctl true) s_clearing).class 2).missed = false ∧ ((nx (.classStatusRead ctl true) s_clearing).class 2).atRisk = true ∧ ((nx (.classStatusRead ctl true) s_clearing).class 2).guar = 10) ∧
    exec (.pwrRetainRead ctl true) s_clearing = .next ({ s_clearing with dev := { (s_clearing.dev.onPower fun q => { q with retPg := false, retHold := false, retCanary := false }) with out := [{ msg := .regData ctl 11 }] } }) ∧
    exec (.cntWrapRead ctl 1 true) s_clearing = .next ({ s_clearing with dev := { (s_clearing.dev.onCnt fun k => { k with wrap := [3] }) with out := [{ msg := .regData ctl 0x41 }] } }) ∧
    exec (.cntWrapRead ctl 0 true) s_clearing = .next ({ s_clearing with dev := { (s_clearing.dev.onCnt fun k => { k with wrap := [64, 70] }) with out := [{ msg := .regData ctl 8 }] } }) :=
  ⟨⟨by decide +kernel, by decide +kernel⟩,
   by decide +kernel,
   gives_iff.1 (by decide +kernel),
   gives_iff.1 (by decide +kernel),
   gives_iff.1 (by decide +kernel),
   gives_iff.1 (by decide +kernel),
   gives_iff.1 (by decide +kernel),
   nx_iff (by decide +kernel),
   by decide +kernel,
   gives_iff.1 (by decide +kernel),
   gives_iff.1 (by decide +kernel),
   gives_iff.1 (by decide +kernel)⟩

def s_seeing : State := { dev := d_regs }
/-- The same reads in a view that does not command the device clear nothing (R604). -/
theorem witness_seeing :
    (s_seeing.dev.viewOpen seen = true ∧ control seen = false) ∧
    exec (.chFaultRead seen 0 true) s_seeing = .next ({ s_seeing with dev := { (s_seeing.dev) with out := [{ msg := .regData seen 0x80000000000000C1 }] } }) ∧
    exec (.cntWrapRead seen 1 true) s_seeing = .next ({ s_seeing with dev := { (s_seeing.dev) with out := [{ msg := .regData seen 0x41 }] } }) ∧
    exec (.classStatusRead seen true) s_seeing = .next { s_seeing with dev := nx (.classStatusRead seen true) s_seeing } ∧
    ((nx (.classStatusRead seen true) s_seeing) = { s_seeing.dev with out := (nx (.classStatusRead seen true) s_seeing).out }) :=
  ⟨by decide +kernel,
   gives_iff.1 (by decide +kernel),
   gives_iff.1 (by decide +kernel),
   nx_iff (by decide +kernel),
   by decide +kernel⟩

def s_reg_writes : State := { dev := d_regs }
/-- FAULT_CONSUMED, DEV_TAG and other writes (R492, R603, R614, R616). -/
theorem witness_reg_writes :
    s_reg_writes.dev.inRun ∧
    s_reg_writes.dev.Still ∧
    (s_reg_writes.dev.viewOpen ctl = true ∧ s_reg_writes.dev.viewOpen seen = true ∧ s_reg_writes.dev.faults.arrays = []) ∧
    exec (.faultConsumedWrite ctl 0x20018 9) s_reg_writes = .next ({ s_reg_writes with dev := { s_reg_writes.dev with faults := { s_reg_writes.dev.faults with consumed := 9 } } }) ∧
    exec (.faultConsumedWrite ctl 0x20018 10) s_reg_writes = .next ({ s_reg_writes with dev := s_reg_writes.dev.event 0x385 4 (0 * 2 ^ 45 + 0 * 2 ^ 41 + 3 * 2 ^ 39 + 0x20018) 2 }) ∧
    exec (.faultConsumedWrite ctl 0x20018 0x8000000A) s_reg_writes = .next ({ s_reg_writes with dev := { s_reg_writes.dev with faults := { s_reg_writes.dev.faults with consumed := 0x8000000A } } }) ∧
    exec (.faultConsumedWrite seen 0x20018 9) s_reg_writes = .next ({ s_reg_writes with dev := s_reg_writes.dev.event 0x385 4 (1 * 2 ^ 45 + 2 * 2 ^ 41 + 2 * 2 ^ 39 + 0x20018) 4 }) ∧
    exec (.devTagWrite ctl 0x10018 5) s_reg_writes = .next ({ s_reg_writes with dev := { s_reg_writes.dev with devTag := 5, tagDone := true } }) ∧
    exec (.devTagWrite seen 0x10018 5) s_reg_writes = .next ({ s_reg_writes with dev := s_reg_writes.dev.event 0x385 4 (1 * 2 ^ 45 + 2 * 2 ^ 41 + 2 * 2 ^ 39 + 0x10018) 4 }) ∧
    (writeFits 0x10018 3 = false) ∧
    exec (.registerWrite ctl 4 0x10018 3 5) s_reg_writes = .next ({ s_reg_writes with dev := s_reg_writes.dev.event 0x385 4 (0 * 2 ^ 45 + 0 * 2 ^ 41 + 3 * 2 ^ 39 + 0x10018) 5 }) ∧
    exec (.registerWrite ctl 4 0x10018 8 5) s_reg_writes = .next ({ s_reg_writes with dev := { s_reg_writes.dev with devTag := 5, tagDone := true } }) ∧
    exec (.registerWrite seen 0 0x1404 4 0) s_reg_writes = .next ({ s_reg_writes with dev := s_reg_writes.dev.setLink 1 { up := true, cxl := true } }) :=
  ⟨⟨by decide +kernel, by decide +kernel⟩,
   by constructor <;> decide +kernel,
   by decide +kernel,
   gives_iff.1 (by decide +kernel),
   gives_iff.1 (by decide +kernel),
   gives_iff.1 (by decide +kernel),
   gives_iff.1 (by decide +kernel),
   gives_iff.1 (by decide +kernel),
   gives_iff.1 (by decide +kernel),
   by decide +kernel,
   gives_iff.1 (by decide +kernel),
   gives_iff.1 (by decide +kernel),
   gives_iff.1 (by decide +kernel)⟩

def s_reg_tag : State := { dev := { d_regs with devTag := 4, tagDone := true } }
/-- DEV_TAG takes one write (R614). -/
theorem witness_reg_tag :
    s_reg_tag.dev.Still ∧
    exec (.devTagWrite ctl 0x10018 5) s_reg_tag = .next ({ s_reg_tag with dev := s_reg_tag.dev.event 0x385 4 (0 * 2 ^ 45 + 0 * 2 ^ 41 + 3 * 2 ^ 39 + 0x10018) 1 }) :=
  ⟨by constructor <;> decide +kernel,
   gives_iff.1 (by decide +kernel)⟩

def d_cnt : Dev := { d_host with cnt := { cnt := [(0, 5), (2, 6), (1535, 7)], wrap := [2, 1535], chain := [1, 4], hold := [(9, 9)], evOut := [(0, 1000)], evIn := [(1, 5)] } }

def s_counters : State := { dev := d_cnt }
/-- The counter commands (R511 to R520). -/
theorem witness_counters :
    s_counters.dev.inRun ∧
    exec (.cntClearAll ctl) s_counters = .next { s_counters with dev := nx (.cntClearAll ctl) s_counters } ∧
    ((nx (.cntClearAll ctl) s_counters).cnt.cnt = [] ∧ (nx (.cntClearAll ctl) s_counters).cnt.wrap = [] ∧ (nx (.cntClearAll ctl) s_counters).cnt.chain = [1, 4] ∧ (nx (.cntClearAll ctl) s_counters).cnt.hold = [(9, 9)] ∧ { (nx (.cntClearAll ctl) s_counters) with cnt := s_counters.dev.cnt } = s_counters.dev) ∧
    exec (.cntClearRange ctl 1 1535) s_counters = .next { s_counters with dev := nx (.cntClearRange ctl 1 1535) s_counters } ∧
    ((nx (.cntClearRange ctl 1 1535) s_counters).cnt.cnt = [(0, 5)] ∧ (nx (.cntClearRange ctl 1 1535) s_counters).cnt.wrap = [] ∧ (nx (.cntClearRange ctl 1 1535) s_counters).cnt.chain = [1, 4] ∧ { (nx (.cntClearRange ctl 1 1535) s_counters) with cnt := s_counters.dev.cnt } = s_counters.dev) ∧
    exec (.cntChain ctl 3 7) s_counters = .next { s_counters with dev := nx (.cntChain ctl 3 7) s_counters } ∧
    ((∀ p ∈ [1, 2, 3, 4], p ∈ (nx (.cntChain ctl 3 7) s_counters).cnt.chain) ∧ 0 ∉ (nx (.cntChain ctl 3 7) s_counters).cnt.chain ∧ 5 ∉ (nx (.cntChain ctl 3 7) s_counters).cnt.chain ∧ { (nx (.cntChain ctl 3 7) s_counters) with cnt := { (nx (.cntChain ctl 3 7) s_counters).cnt with chain := [1, 4] } } = s_counters.dev) ∧
    exec (.cntUnchain ctl 3 9) s_counters = .next { s_counters with dev := nx (.cntUnchain ctl 3 9) s_counters } ∧
    (1 ∈ (nx (.cntUnchain ctl 3 9) s_counters).cnt.chain ∧ 4 ∉ (nx (.cntUnchain ctl 3 9) s_counters).cnt.chain ∧ { (nx (.cntUnchain ctl 3 9) s_counters) with cnt := { (nx (.cntUnchain ctl 3 9) s_counters).cnt with chain := [1, 4] } } = s_counters.dev) ∧
    exec (.cntSetMode ctl true) s_counters = .next ({ s_counters with dev := { s_counters.dev with cnt := { s_counters.dev.cnt with sat := true } } }) ∧
    exec (.cntSetBandwidthWindow ctl 1000000) s_counters = .next ({ s_counters with dev := { s_counters.dev with cnt := { s_counters.dev.cnt with nextWindow := 1000000 } } }) ∧
    exec (.cntSetBandwidthWindow ctl 1) s_counters = .next ({ s_counters with dev := { s_counters.dev with cnt := { s_counters.dev.cnt with nextWindow := 1 } } }) ∧
    exec (.cntSurvey ctl) s_counters = .next ({ s_counters with dev := { s_counters.dev with cnt := { s_counters.dev.cnt with hold := s_counters.dev.cnt.cnt, surveyAt := s_counters.dev.timeNs, pendingSurvey := true } } }) ∧
    exec (.cntClearAll seen) s_counters = .next ({ s_counters with dev := s_counters.dev.event 0x385 4 (1 * 2 ^ 45 + 2 * 2 ^ 41 + 2 * 2 ^ 39 + 0x46000) 8 }) ∧
    exec (.bandwidthWindowEnd) s_counters = .next { s_counters with dev := nx (.bandwidthWindowEnd) s_counters } ∧
    ((nx (.bandwidthWindowEnd) s_counters).cnt.bwSeq = 1 ∧ (nx (.bandwidthWindowEnd) s_counters).cnt.window = 1000 ∧ mgetD (nx (.bandwidthWindowEnd) s_counters).cnt.bw 24 (0, 0) = (25, 0) ∧ (nx (.bandwidthWindowEnd) s_counters).cnt.cnt = s_counters.dev.cnt.cnt ∧ { (nx (.bandwidthWindowEnd) s_counters) with cnt := s_counters.dev.cnt } = s_counters.dev) :=
  ⟨⟨by decide +kernel, by decide +kernel⟩,
   nx_iff (by decide +kernel),
   by decide +kernel,
   nx_iff (by decide +kernel),
   by decide +kernel,
   nx_iff (by decide +kernel),
   by decide +kernel,
   nx_iff (by decide +kernel),
   by decide +kernel,
   gives_iff.1 (by decide +kernel),
   gives_iff.1 (by decide +kernel),
   gives_iff.1 (by decide +kernel),
   gives_iff.1 (by decide +kernel),
   gives_iff.1 (by decide +kernel),
   nx_iff (by decide +kernel),
   by decide +kernel⟩

def s_survey_end : State := { dev := { d_cnt with cnt := { d_cnt.cnt with pendingSurvey := true, surveyAt := 8 } } }
/-- A survey under way takes in another, and ends (R519, R520). -/
theorem witness_survey_end :
    exec (.cntSurvey ctl) s_survey_end = .next ({ s_survey_end with dev := { s_survey_end.dev with cnt := { s_survey_end.dev.cnt with merged := true } } }) ∧
    exec (.surveyComplete) s_survey_end = .next { s_survey_end with dev := nx (.surveyComplete) s_survey_end } ∧
    ((nx (.surveyComplete) s_survey_end).cnt.seq = 1 ∧ (nx (.surveyComplete) s_survey_end).cnt.time = 8 ∧ (nx (.surveyComplete) s_survey_end).cnt.pendingSurvey = false ∧ (nx (.surveyComplete) s_survey_end).cnt.hold = s_survey_end.dev.cnt.hold ∧ { (nx (.surveyComplete) s_survey_end) with cnt := s_survey_end.dev.cnt } = s_survey_end.dev) :=
  ⟨gives_iff.1 (by decide +kernel),
   nx_iff (by decide +kernel),
   by decide +kernel⟩

def s_class_windows : State := { dev := { dev0 with qos := { classes := [(2, { eff := 12, cur := 10, charged := 2499 }), (3, { eff := 10, cur := 10, charged := 2500, target := 5, missedN := 1023 }), (4, { missedN := 1024 })], windows := 3 } } }
/-- The end of a window and of a period (R500 to R508). -/
theorem witness_class_windows :
    exec (.classWindowEnd 0xC 0x8) s_class_windows = .next { s_class_windows with dev := nx (.classWindowEnd 0xC 0x8) s_class_windows } ∧
    ((nx (.classWindowEnd 0xC 0x8) s_class_windows).class 2 = { s_class_windows.dev.class 2 with charged := 0, cur := 12, missedN := 1 } ∧ (nx (.classWindowEnd 0xC 0x8) s_class_windows).class 3 = { s_class_windows.dev.class 3 with charged := 0, missedN := 1024 } ∧ (nx (.classWindowEnd 0xC 0x8) s_class_windows).qos.windows = 4) ∧
    exec (.classPeriodEnd) s_class_windows = .next { s_class_windows with dev := nx (.classPeriodEnd) s_class_windows } ∧
    ((nx (.classPeriodEnd) s_class_windows).class 3 = { s_class_windows.dev.class 3 with missedN := 0 } ∧ (nx (.classPeriodEnd) s_class_windows).class 4 = { missedN := 0, missed := true } ∧ (nx (.classPeriodEnd) s_class_windows).qos.windows = 0) :=
  ⟨nx_iff (by decide +kernel),
   by decide +kernel,
   nx_iff (by decide +kernel),
   by decide +kernel⟩

end Sys2Proof.Tests
end

