-- ==== Sys2Proof/Tests/Streams.lean ====
section
/-!
SUPPORT. Decoders of stream formats 1 to 4 (R225) and the ciphers (R111, R587): small streams whose content is known from the standards'
own reference programs, and the examples that the standards print.
-/
set_option Elab.async false
namespace Sys2Proof.Tests
open Sys2Proof.Machine

def outOf (r : EStateM.Result Halt DecSt Unit) : Option (Nat × List Nat × Bool) :=
  match r with
  | .ok _ s => some (s.pos / 8, s.out.toList.map (·.toNat), s.wrong.isEmpty)
  | .error _ _ => none

def bytesList (l : List Nat) : List Byte := l.map (BitVec.ofNat 8)

/-- zlib of ten letters a: fixed codes, literals and a match at distance 1. -/
theorem test_zlib : outOf (inflate 2 (bytesList [0x78, 0x9C, 0x4B, 0x4C, 0x84, 0x01, 0x00, 0x14, 0xE1, 0x03, 0xCB])) =
    some (11, List.replicate 10 97, true) := by decide +kernel

/-- The same with a check value that does not match: all the output is there (R226). -/
theorem test_zlib_wrong : outOf (inflate 2 (bytesList [0x78, 0x9C, 0x4B, 0x4C, 0x84, 0x01, 0x00, 0x14, 0xE1, 0x03, 0xCC])) =
    some (11, List.replicate 10 97, false) := by decide +kernel

/-- FDICT = 1 is unsupported (R225). -/
theorem test_zlib_fdict : outOf (inflate 2 (bytesList [0x78, 0xBB, 0, 0, 0, 0, 0x03, 0x00])) = none := by decide +kernel

/-- A Zstandard frame of one RLE block, with content size and checksum absent. -/
theorem test_zstd_rle : outOf (unzstd none (bytesList [0x28, 0xB5, 0x2F, 0xFD, 0x20, 0x05, 0x2B, 0x00, 0x00, 0x41])) =
    some (10, List.replicate 5 0x41, true) := by decide +kernel

/-- XXH64 of nothing, as its reference program gives it. -/
theorem test_xxh64 : xxh64 [] = 0xEF46DB3751D8E999#64 := by decide +kernel

/-- Adler-32 and CRC-32 of "123456789" (R236 gives the second). -/
theorem test_checks : adler32 (bytesList [49, 50, 51, 52, 53, 54, 55, 56, 57]) = 0x091E01DE ∧
    crc32 (bytesList [49, 50, 51, 52, 53, 54, 55, 56, 57]) = 0xCBF43926 := by decide +kernel

def hexBytes (n v : Nat) : List Nat := (natBytes n v).reverse

/-- FIPS 197, example C.3: AES-256. -/
theorem test_aes : aesEncrypt (aesKeys (List.range 32)) (hexBytes 16 0x00112233445566778899aabbccddeeff) =
    hexBytes 16 0x8ea2b7ca516745bfeafc49904b496089 := by decide +kernel

theorem test_aes_back : aesDecrypt (aesKeys (List.range 32)) (hexBytes 16 0x8ea2b7ca516745bfeafc49904b496089) =
    hexBytes 16 0x00112233445566778899aabbccddeeff := by decide +kernel

end Sys2Proof.Tests
end

