-- ==== Sys2Proof/Tests/Slice0.lean ====
section
/-!
SUPPORT. Tests of well-formedness, of the layout of instruction words, and of the state after reset; the other tests stand in the files of this
folder, by group.
-/
namespace Sys2Proof.Tests

open Sys2Proof.Machine

set_option Elab.async false

/-! ### Well-formedness: for each check a command that passes it, and one that it refuses -/

theorem test_wf_link : (Instr.getLdInfo 7).wf = true ∧ (Instr.getLdInfo 8).wf = false := by decide
theorem test_wf_ld : (Instr.identify 7 16).wf = true ∧ (Instr.identify 7 17).wf = false := by decide
theorem test_wf_header : (Instr.rds { link := 7, ld := 15, tag := 0 } 0).wf = true ∧ (Instr.rds { link := 7, ld := 16, tag := 0 } 0).wf = false ∧
    (Instr.rds { link := 8, ld := 0, tag := 0 } 0).wf = false := by decide
theorem test_wf_mask : (Instr.wrnc { link := 0, ld := 0, tag := 0 } 0 1 0 false).wf = true ∧
    (Instr.wrnc { link := 0, ld := 0, tag := 0 } 0 0 0 false).wf = false := by decide
theorem test_wf_tag : (Instr.birspi 0 0 1023).wf = true ∧ (Instr.birspi 0 0 1024).wf = false := by decide
theorem test_wf_sweep : (Instr.fenceSweepComplete 63 127).wf = true ∧ (Instr.fenceSweepComplete 64 0).wf = false ∧
    (Instr.fenceSweepComplete 0 128).wf = false := by decide
theorem test_wf_port : (Instr.perstNAssert 3 true).wf = true ∧ (Instr.perstNAssert 4 true).wf = false := by decide
theorem test_wf_rate : (Instr.hostLinkUp 0 true 64000 16).wf = true ∧ (Instr.hostLinkUp 0 true 60000 16).wf = false ∧
    (Instr.hostLinkUp 0 true 64000 0).wf = false ∧ (Instr.hostLinkUp 0 true 64000 17).wf = false := by decide
theorem test_wf_stream : (Instr.ideIntegrityFailure 0 1).wf = true ∧ (Instr.ideIntegrityFailure 0 2).wf = false := by decide
theorem test_wf_decoder : (Instr.decoderUncommit 0 0 3).wf = true ∧ (Instr.decoderUncommit 0 0 4).wf = false ∧
    (Instr.decoderCommit 0 0 0 { base := 0, size := 0, ways := 5 }).wf = false ∧
    (Instr.decoderCommit 0 0 0 { base := 0, size := 0, gran := 100 }).wf = false := by decide
theorem test_wf_vector : (Instr.vectorUnmask 0 0 2047).wf = true ∧ (Instr.vectorUnmask 0 0 2048).wf = false := by decide
theorem test_wf_log : (Instr.getEventRecords 0 0 4).wf = true ∧ (Instr.getEventRecords 0 0 5).wf = false := by decide
theorem test_wf_vectors : (Instr.setLdOptions 0 0 2047 2048 true).wf = true ∧ (Instr.setLdOptions 0 0 2048 1 true).wf = false ∧
    (Instr.setLdOptions 0 0 0 2049 true).wf = false := by decide
theorem test_wf_fm_queue : (Instr.getQueueStatus 8191).wf = true ∧ (Instr.getQueueStatus 8192).wf = false := by decide
theorem test_wf_channel_of_spdm : (Instr.getVersion 136).wf = true ∧ (Instr.getVersion 137).wf = false := by decide
theorem test_wf_slot : (Instr.challenge 0 7).wf = true ∧ (Instr.challenge 0 8).wf = false := by decide
theorem test_wf_measurement : (Instr.getMeasurements 0 255 true).wf = true ∧ (Instr.getMeasurements 0 256 true).wf = false := by decide
theorem test_wf_session : (Instr.heartbeat 0 3).wf = true ∧ (Instr.heartbeat 0 4).wf = false := by decide
theorem test_wf_wrapping : (Instr.setWrappingKey 0 0 15 true 0).wf = true ∧ (Instr.setWrappingKey 0 0 16 true 0).wf = false := by decide
theorem test_wf_key_set : (Instr.kSetGo 0 0 0 0 true 1).wf = true ∧ (Instr.kSetGo 0 0 0 0 true 2).wf = false := by decide
theorem test_wf_doorbell : (Instr.qRunSet 0 0 (2 ^ 25 - 8)).wf = true ∧ (Instr.qRunSet 0 0 (2 ^ 25)).wf = false := by decide
theorem test_wf_view : (Instr.cntSurvey { link := 9, mgmt := true }).wf = true ∧ (Instr.cntSurvey { link := 9 }).wf = false := by decide
theorem test_wf_registers : (Instr.chFaultRead { mgmt := true } 15 true).wf = true ∧ (Instr.chFaultRead { mgmt := true } 16 true).wf = false ∧
    (Instr.evFaultRead { mgmt := true } 2 true).wf = false ∧ (Instr.cntWrapRead { mgmt := true } 24 true).wf = false := by decide
theorem test_wf_counters : (Instr.cntChain { mgmt := true } 0 1535).wf = true ∧ (Instr.cntChain { mgmt := true } 0 1536).wf = false ∧
    (Instr.cntChain { mgmt := true } 2 1).wf = false ∧ (Instr.cntSetBandwidthWindow { mgmt := true } 0).wf = false := by decide
theorem test_wf_access : (Instr.registerWrite { mgmt := true } 4 0 64 0).wf = true ∧ (Instr.registerWrite { mgmt := true } 1 0 8 0).wf = false ∧
    (Instr.registerWrite { mgmt := true } 4 0 65 0).wf = false := by decide
theorem test_wf_queue : (Instr.nop 8195 {}).wf = true ∧ (Instr.nop 0 {}).wf = false ∧ (Instr.nop 8196 {}).wf = false := by decide
theorem test_wf_action : (Instr.grottoAttach 1 { mod := 2 }).wf = true ∧ (Instr.grottoAttach 1 { mod := 3 }).wf = false := by decide
theorem test_wf_run : (Instr.firmwareSubmission 3 [0]).wf = true ∧ (Instr.firmwareSubmission 3 []).wf = false := by decide
theorem test_wf_line : (Instr.dramLineReturn 15 0 63 {}).wf = true ∧ (Instr.dramLineReturn 16 0 0 {}).wf = false ∧
    (Instr.dramLineReturn 0 0 64 {}).wf = false ∧ (Instr.dramLineReturn 0 (2 ^ 28) 0 {}).wf = false := by decide
theorem test_wf_sub_block : (Instr.subBlockDecompressed 63 0 3 {}).wf = true ∧ (Instr.subBlockDecompressed 63 0 4 {}).wf = false ∧
    (Instr.subBlockDecompressed 0 (2 ^ 33) 0 {}).wf = false := by decide
theorem test_wf_rank : (Instr.refreshDue 0 15 true).wf = true ∧ (Instr.refreshDue 0 16 true).wf = false := by decide
theorem test_wf_dimm_slot : (Instr.caParityError 0 1 true).wf = true ∧ (Instr.caParityError 0 2 true).wf = false := by decide
theorem test_wf_training : (Instr.trainingComplete 0 { badRanks := [15] }).wf = true ∧ (Instr.trainingComplete 0 { badRanks := [16] }).wf = false := by
  decide
theorem test_wf_mover : (Instr.moveCommit 15).wf = true ∧ (Instr.moveCommit 16).wf = false := by decide
theorem test_wf_flit : (Instr.flit 1 { msgs := [.ropeRead false 0 63 0] }).wf = true ∧ (Instr.flit 1 { msgs := [.ropeRead false 0 64 0] }).wf = false ∧
    (Instr.flit 1 { msgs := [.guestRead 0 0 64] }).wf = false ∧ (Instr.flit 2 {}).wf = false := by decide
theorem test_wf_pll : (Instr.pllLossOfLock (.flit 3) true).wf = true ∧ (Instr.pllLossOfLock (.flit 4) true).wf = false := by decide
theorem test_wf_bank : (Instr.bootComplete [⟨15, 1, 15, 7, 3⟩]).wf = true ∧ (Instr.bootComplete [⟨15, 2, 0, 0, 0⟩]).wf = false := by decide
theorem test_wf_lamp : (Instr.lampAlarm 7).wf = true ∧ (Instr.lampAlarm 8).wf = false ∧ (Instr.bootFromOff 4).wf = false ∧
    (Instr.powerEstimate 65536).wf = false ∧ (Instr.tapInstruction 256 true).wf = false := by decide
theorem test_wf_record : (Instr.cairnRecordWrite 8 0 [] true).wf = true ∧ (Instr.cairnRecordWrite 9 0 [] true).wf = false := by decide

/-! ### Instruction words: one of each family, written out from the table of R304 -/

/-- SETI r3, 10 with a signal; HALT in the second round of its ring. -/
theorem test_words_control : pelmicOf 1 0x000000000000000A0000000003002108 = .seti 1 { fmt := 1, sig := true, ra := 3, imm := 10 } ∧
    pelmicOf 2 0x00000000000000000000000000008001 = .halt 2 { phase := true } := by decide +kernel
/-- The two worked examples of the spec: a chained COPY (R304) and a CHECK (R305). -/
theorem test_words_examples :
    pelmicOf 37 0x00000000000000000081030102004420 = .copy 37 { fmt := 4, chain := true, ra := 2, rb := 1, rc := 3, swin := 1, dwin := 2 } ∧
    pelmicOf 37 0x0C000000000000400002030204000542 = .check 37 { fmt := 5, ra := 4, rb := 2, rc := 3, swin := 2, imm := 0x0C00000000000040 } := by
  decide +kernel
/-- SCAN with its descriptor at byte 128 of window 3, and CAS on window 1. -/
theorem test_words_query : pelmicOf 40 0x0C000000000000800082030102000560 =
      .scan 40 { fmt := 5, ra := 2, rb := 1, rc := 3, swin := 2, dwin := 2, imm := 0x0C00000000000080 } ∧
    pelmicOf 40 0x00000000000000000040030201000381 = .cas 40 { fmt := 3, ra := 1, rb := 2, rc := 3, dwin := 1 } := by decide +kernel
/-- GROTTO delete of grotto 17, POWER cap of 150 W, and an opcode that the map leaves out. -/
theorem test_words_management : pelmicOf 3 0x000000000000001160000000000007C0 = .grottoDelete 3 { fmt := 7, mod := 6, imm := 17 } ∧
    pelmicOf 3 0x000000000000009620000000000007C7 = .powerCap 3 { fmt := 7, mod := 2, imm := 150 } ∧
    pelmicOf 3 0x0000000000000000000000000000000C = .illegalInstruction 3 0x0C := by decide +kernel
/-- The rows give no bits, so no word of the table spells a command. -/
theorem test_table_words : decodeTableWord 32 7 = none ∧ State.reset.withFetchWord 32 7 = State.reset := ⟨rfl, rfl⟩
/-- A word that the round trip covers: it fits its row, and is read back. -/
theorem witness_fits : pelmicKey (.powerCap 3 { fmt := 7, mod := 2, imm := 150 }) = some (3, 0xC7, some 2, { fmt := 7, mod := 2, imm := 150 }) ∧
    pelmicFits (.powerCap 3 { fmt := 7, mod := 2, imm := 150 }) = true := by decide +kernel

/-! ### Reset -/

theorem test_reset_mem : State.reset.dev.mem = {} ∧ State.reset.dev.mem.wf = true ∧ State.reset.pending = [] ∧ State.reset.dev.power.mode = .boot := by
  decide +kernel
/-- No leaf has been used at reset (R590 to R593). -/
theorem test_reset_leaves : State.reset.trust.LeafSafe :=
  ⟨by decide +kernel, by decide +kernel, by decide +kernel, by decide +kernel, by decide +kernel, by decide +kernel, fun _ => Nat.zero_le _,
    fun h => absurd h (by decide +kernel)⟩
/-- A trust block with leaves used and reserved; whether its reservation can be read or not, the next BOOT starts behind the block. -/
def t_leaf (hidden : Bool) : Trust := { t_spdm with
  leafEnd := 256, leafTop := 7, cairn := [{ type := 3, inst := 0, seq := 0, data := bytesOfNat 4 256, hidden := hidden }] }
theorem leaf_start : ∀ hidden, 256 ≤ (t_leaf hidden).leafStart := by decide +kernel
/-- Its condition holds, and a signature takes the next leaf. -/
theorem witness_leaf_safe : (t_leaf false).LeafSafe ∧ ((t_leaf false).takeLeaf.map Prod.fst) = some 7 :=
  ⟨⟨by decide +kernel, by decide +kernel, by decide +kernel, by decide +kernel, by decide +kernel, by decide +kernel,
    fun hide => Nat.le_trans (by decide) (leaf_start (hide _)), fun _ hide => leaf_start (hide _)⟩, by decide +kernel⟩
/-- The ROM with two slots to try (R571): whether an image verifies is free (log 3). -/
theorem witness_rom : let s : State := { dev := { power := { mode := .run } }, trust := { cairn := [{ type := 2, inst := 0, seq := 0, data := [1, 255, 255] }] } }
    (s.dev.live = true ∧ s.dev.fwUp = false ∧ s.trust.noImage = false ∧ s.trust.waiting = []) ∧
      ((s.readStore []).trust.bootOrder.2 = [1, 0]) ∧ ((s.readStore [0]).trust.bootOrder.2 = [0, 1]) := by
  decide +kernel
/-- A state with nothing left over, in which the registers' instructions keep their frame. -/
theorem witness_frame : s_alu.dev.Still ∧ s_nop.dev.Still :=
  ⟨by constructor <;> decide +kernel, by constructor <;> decide +kernel⟩

end Sys2Proof.Tests
end

section
/-!
PROOFS. DB_TAIL (R273): what an EVENT and a write of a queue leave for the end of a command, how a write of DB_TAIL reaches its queue,
and what the tail check answers.
-/
namespace Sys2Proof.Machine

/-! ### An EVENT leaves nothing over -/

/-- What a still device is judged by besides its data: bandwidths, channels and armed test features. -/
def Dev.pace (d : Dev) : Qos × AMap Chan × List Armed := (d.qos, d.chans, d.faults.armed)

@[simp] theorem Dev.bump_pace (d : Dev) (n k : Nat) : (d.bump n k).pace = d.pace := rfl
@[simp] theorem Dev.setLd_pace (d : Dev) (l ld : Nat) (x : Ld) : (d.setLd l ld x).pace = d.pace := rfl
@[simp] theorem Dev.emit_pace (d : Dev) (m : Msg) : (d.emit m).pace = d.pace := rfl

@[simp] theorem Dev.interrupt_pace (d : Dev) (l ld k : Nat) : (d.interrupt l ld k).pace = d.pace := by
  unfold Dev.interrupt
  dsimp only
  split <;> simp

@[simp] theorem Dev.logAdd_pace (d : Dev) (l ld log : Nat) (r : LogRec) : (d.logAdd l ld log r).pace = d.pace := by
  unfold Dev.logAdd
  dsimp only
  split
  · simp
  · split <;> simp

/-- A fold of operations that keep the pace keeps it. -/
theorem Dev.foldl_pace {β : Type} (f : Dev → β → Dev) (hf : ∀ (d : Dev) x, (f d x).pace = d.pace) (l : List β) (d : Dev) :
    (l.foldl f d).pace = d.pace := by
  induction l generalizing d with
  | nil => rfl
  | cons x t ih => rw [List.foldl_cons, ih, hf]

@[simp] theorem Dev.logCopy_pace (d : Dev) (r : FaultRec) : (d.logCopy r).pace = d.pace := by
  unfold Dev.logCopy
  split
  · exact Dev.foldl_pace _ (fun d t => d.logAdd_pace _ _ _ _) _ _
  · rfl

@[simp] theorem Dev.enter_pace (d : Dev) (r : FaultRec) (always : Bool) : (d.enter r always).pace = d.pace := by
  unfold Dev.enter
  dsimp only
  split
  · split <;> rfl
  · rfl

/-- An EVENT, of class 0, wakes nothing and is copied to the logs at once. -/
theorem Dev.event_pace (d : Dev) (unit akind addr detail : Nat) (g : Option Nat) : (d.event unit akind addr detail g).pace = d.pace := by
  unfold Dev.event Dev.raise
  dsimp only
  rw [if_neg (by decide), if_neg (by decide), Dev.logCopy_pace, Dev.enter_pace]
  rfl

/-! ### What a still device is judged by -/

/-- Two devices alike in all that `Dev.Still` asks about, apart from the hold load. -/
structure Dev.SameWork (a b : Dev) : Prop where
  slices : b.slices = a.slices
  pages : b.pages = a.pages
  grottos : b.grottos = a.grottos
  mem : b.mem = a.mem
  flow : b.flow = a.flow
  ev : b.ev = a.ev
  unsent : b.unsent = a.unsent
  qos : b.qos = a.qos
  chans : b.chans = a.chans
  armed : b.faults.armed = a.faults.armed
  sparing : ∀ c r, b.sparing c r = a.sparing c r

theorem Dev.Keeps.sameWork {a b : Dev} (k : a.Keeps b) (p : b.pace = a.pace) : a.SameWork b := by
  obtain ⟨hqos, hchans, harmed⟩ : b.qos = a.qos ∧ b.chans = a.chans ∧ b.faults.armed = a.faults.armed := by
    simpa [Dev.pace] using p
  exact ⟨k.slices, k.pages, k.grottos, k.mem, k.flow, k.ev, k.unsent, hqos, hchans, harmed, fun c r => by
    simp only [Dev.sparing, Dev.chan, k.queues, hchans]⟩

/-- Queue records that a HOLD would have to save. -/
def Dev.dirtyQueues (d : Dev) : Nat := (d.queues.qs.filter (·.2.dirty)).length

section SameWork

variable {a b : Dev} (w : a.SameWork b)
include w

theorem Dev.SameWork.entry (g page : Nat) : b.entry g page = a.entry g page := by
  simp only [Dev.entry, Dev.mapIdx, Dev.grotto, w.pages, w.grottos]

/-- The hold loads differ by the queue records alone (R532). -/
theorem Dev.SameWork.holdLoad : b.holdLoad + 512 * a.dirtyQueues = a.holdLoad + 512 * b.dirtyQueues := by
  simp only [Dev.holdLoad, Dev.occupiedSets, Dev.dirtyQueues, w.entry, w.slices]
  omega

theorem Dev.SameWork.dataFrames : b.dataFrames = a.dataFrames := by
  simp only [Dev.dataFrames, Dev.resvFrames, w.mem, w.chans]

theorem Dev.SameWork.chan (c : Nat) : b.chan c = a.chan c := by rw [Dev.chan, Dev.chan, w.chans]

theorem Dev.SameWork.frameOk (f : Nat) : b.frameOk f = a.frameOk f := by
  simp only [Dev.frameOk, Dev.rankUp, w.chan, w.mem, w.sparing]

theorem Dev.SameWork.freeOn (c : Nat) : b.freeOn c = a.freeOn c := by
  have hpool : b.pool c = a.pool c := by rw [Dev.pool, Dev.pool, w.mem]
  simp only [Dev.freeOn, w.frameOk, w.chan, hpool]

theorem Dev.SameWork.owed : b.owed = a.owed := by
  simp only [Dev.owed, Dev.quota, Dev.guestsOf, w.mem, w.grottos, w.flow]

theorem Dev.SameWork.surplus : b.surplus = a.surplus := by
  have hfree : b.freeOn = a.freeOn := funext w.freeOn
  rw [Dev.surplus, Dev.surplus, Dev.freeAll, Dev.freeAll, hfree, w.owed]

/-- A still device stays still under a change of other parts, if its hold load stays within the limit. -/
theorem Dev.SameWork.still (h : a.Still) (hhold : b.overHold 0 = false) : b.Still := by
  constructor
  case hold => exact hhold
  case lost => simpa only [w.slices, w.entry] using h.lost
  case surplus => simpa only [w.flow, w.dataFrames, w.surplus] using h.surplus
  case armed => rw [w.armed, h.armed]
  case owed => simpa only [w.chans] using h.owed
  case resume => rw [w.slices, h.resume]
  case snoops => simpa only [w.slices] using h.snoops
  case dying => rw [w.pages, h.dying]
  case misses => rw [w.pages, h.misses]
  case frames => rw [w.pages, h.frames]
  case rebuilds => rw [w.ev, h.rebuilds]
  case discards => simpa only [w.grottos] using h.discards
  case asking => rw [w.flow, h.asking]
  case writes => rw [w.pages, h.writes]
  case unsent => rw [w.unsent, h.unsent]

/-- Where more queue records are to be saved, the room for them was there before. -/
theorem Dev.SameWork.overHold (n : Nat) (hdirty : b.dirtyQueues ≤ a.dirtyQueues + n) (hroom : a.overHold (512 * n) = false) :
    b.overHold 0 = false := by
  have hload := w.holdLoad
  have hlimit : ¬ 290 * (250 * a.qos.bw) < a.holdLoad + 512 * n := of_decide_eq_false hroom
  rw [Dev.overHold, w.qos]
  exact decide_eq_false (by omega)

end SameWork

theorem Dev.event_still (d : Dev) (unit akind addr detail : Nat) (g : Option Nat) (h : d.Still) :
    (d.event unit akind addr detail g).Still := by
  have k := d.event_keeps unit akind addr detail g
  have w := k.sameWork (d.event_pace unit akind addr detail g)
  have hdirty : (d.event unit akind addr detail g).dirtyQueues ≤ d.dirtyQueues + 0 := by
    rw [Dev.dirtyQueues, k.queues]
    exact Nat.le_refl _
  exact w.still h (w.overHold 0 hdirty h.hold)

/-! ### A queue that is written adds at most its own record to the hold load -/

theorem length_filter_mset_le {α : Type} (p : Nat × α → Bool) (m : AMap α) (n : Nat) (a : α) :
    ((mset m n a).filter p).length ≤ (m.filter p).length + 1 := by
  simp only [← List.countP_eq_length_filter]
  have hone : (if p (n, a) then 1 else 0) ≤ 1 := by split <;> decide
  induction m with
  | nil => simpa [mset, List.countP_cons] using hone
  | cons e t ih =>
    obtain ⟨k, v⟩ := e
    unfold mset
    split
    · simp only [List.countP_cons]; omega
    · split <;> simp only [List.countP_cons] <;> omega

theorem mem_of_mget {α : Type} (m : AMap α) (n : Nat) (a : α) (h : mget m n = some a) : (n, a) ∈ m := by
  induction m with
  | nil => exact absurd h (by simp)
  | cons e t ih =>
    obtain ⟨k, v⟩ := e
    rw [mget_cons] at h
    split at h
    · next heq =>
      obtain rfl : v = a := Option.some.inj h
      exact heq ▸ List.mem_cons_self
    · exact List.mem_cons_of_mem _ (ih h)

/-- A value that takes the place of one with the same answer to a question leaves the table's answer as it was. -/
theorem any_mset {α : Type} (p : Nat × α → Bool) (m : AMap α) (n : Nat) (a b : α) (h : mget m n = some b) (hp : p (n, a) = p (n, b)) :
    (mset m n a).any p = m.any p := by
  induction m with
  | nil => exact absurd h (by simp)
  | cons e t ih =>
    obtain ⟨k, v⟩ := e
    have hmem := mem_of_mget _ _ _ h
    rw [mget_cons] at h
    unfold mset
    split
    · rw [List.any_cons, hp, Bool.or_eq_right_iff_imp]
      exact fun hb => List.any_eq_true.mpr ⟨_, hmem, hb⟩
    · split
      · next heq =>
        obtain rfl : v = b := Option.some.inj ((if_pos heq).symm.trans h)
        rw [List.any_cons, List.any_cons, hp, heq]
      · next hne => rw [List.any_cons, List.any_cons, ih ((if_neg hne).symm.trans h)]

/-- A queue that keeps what it has issued keeps the ranks that a SPARE is to repair. -/
theorem Dev.setQueue_sameWork (d : Dev) (q : Nat) (x y : Queue) (hx : mget d.queues.qs q = some x) (hy : y.issued = x.issued) :
    d.SameWork (d.setQueue q y) := by
  constructor
  case sparing =>
    intro c r
    exact any_mset _ _ _ _ _ hx (by simp only [hy])
  all_goals rfl

/-- A still device with room for one more queue record in its hold load stays still when a queue is written that keeps what it has
issued (R532). -/
theorem Dev.setQueue_still (d : Dev) (q : Nat) (x y : Queue) (h : d.Still) (hroom : d.overHold 512 = false)
    (hx : mget d.queues.qs q = some x) (hy : y.issued = x.issued) : (d.setQueue q y).Still := by
  have w := d.setQueue_sameWork q x y hx hy
  exact w.still h (w.overHold 1 (length_filter_mset_le _ _ _ _) hroom)

@[simp] theorem Queue.settle_issued (x : Queue) : x.settle.issued = x.issued := by
  unfold Queue.settle
  split <;> rfl

/-- Only privileged queues have a default: a grotto queue is what the table holds. -/
theorem Dev.queue?_grotto (d : Dev) (q : Nat) (hlow : 16 ≤ q) (hhigh : q < 8192) : d.queue? q = mget d.queues.qs q := by
  have hpriv : privQ q = false := by simp [privQ, isQ0, isFm]; omega
  rw [Dev.queue?, hpriv]
  cases mget d.queues.qs q <;> rfl

/-! ### The doorbell of a queue (R272, R273) -/

/-- A CXL.io message for a logical device that stands open, addressed to its link, has its effect at once. -/
theorem Dev.ioArrive_open (d : Dev) (l ld : Nat) (dpid : BitVec 12) (plain : Bool) (c : Instr) (k : Dev → Dev) (hrun : d.inRun)
    (hopen : d.ldOpen l ld = true) (hpbr : (d.link l).misrouted dpid = false) : d.ioArrive l ld dpid plain c k = k d := by
  obtain ⟨⟨⟨hlink, hcxl⟩, hld⟩, hawake⟩ : ((d.linkOpen l = true ∧ (d.link l).cxl = true) ∧ d.ldExists l ld = true) ∧ d.asleep = false := by
    simpa [Dev.ldOpen, Dev.linkTakes] using hopen
  simp [Dev.ioArrive, Dev.addressed, d.wake_inRun _ _ hrun, hlink, hcxl, hld, hawake, hpbr]

/-- The first 8 bytes of a doorbell block are DB_TAIL, for the view of the queue's owner. -/
theorem Dev.writeDoor_tail (d : Dev) (w : RegView) (q : Nat) (x : Queue) (v : Word) (hlow : 16 ≤ q) (hhigh : q < 8192)
    (hq : d.queue? q = some x) (hown : d.ownerOf x = (w.link, w.ld)) :
    d.writeDoor w (q * 4096) v (BitVec.allOnes 64) = d.doorTail w (q * 4096) q x (v.setWidth 32) := by
  have hdoor : d.doorOf w (q * 4096) = some (q, x) := by
    simp [Dev.doorOf, hq, hown, Nat.not_lt.mpr hlow, Nat.not_le.mpr hhigh]
  have hreg : q * 4096 / 8 % 8 = 0 := by omega
  simp [Dev.writeDoor, hdoor, hreg]

/-- With no test feature armed the queue SRAM is read and written without an error, and the tail is recorded. -/
theorem Dev.recordTail_unarmed (d : Dev) (q : Nat) (x : Queue) (t : BitVec 32) (h : d.faults.armed = []) :
    d.recordTail q x t = d.setQueue q ({ x with tail := t, dirty := true } : Queue).settle := by
  simp [Dev.recordTail, Dev.arrayRead, Dev.arrayWrite, Dev.takeInvert, Dev.takeFlip, Dev.armedOn, h]

section DoorTail

variable (d : Dev) (v : RegView) (off q : Nat) (x : Queue) (t : BitVec 32)

theorem Dev.doorTail_same : d.doorTail v off q x x.tail = d := if_pos rfl

/-- A tail that fits is not the current one: it lies at least 1 past it. -/
theorem Dev.doorTail_fits (h : x.tailOk t = true) : d.doorTail v off q x t = d.recordTail q x t := by
  have hne : t ≠ x.tail := by
    rintro rfl
    simp [Queue.tailOk] at h
  rw [Dev.doorTail, if_neg hne, if_pos h]

theorem Dev.doorTail_unfit (h : x.tailOk t = false) (hne : t ≠ x.tail) : d.doorTail v off q x t = d.viewEvent v 2 off 7 := by
  rw [Dev.doorTail, if_neg hne, h]
  rfl

end DoorTail

/-- The EVENT address of a doorbell block of BAR2, which is below 32 MiB (R610). -/
theorem Dev.viewEvent_door (d : Dev) (l ld q detail : Nat) (hq : q < 8192) :
    d.viewEvent { link := l, ld := ld } 2 (q * 4096) detail = d.event 0x385 4 (l % 8 * 2 ^ 45 + ld % 16 * 2 ^ 41 + 2 ^ 39 + q * 4096) detail := by
  have hoff : q * 4096 % 2 ^ 32 = q * 4096 := Nat.mod_eq_of_lt (by omega)
  show d.event 0x385 4 (l % 8 * 2 ^ 45 + ld % 16 * 2 ^ 41 + 1 * 2 ^ 39 + q * 4096 % 2 ^ 32) detail = _
  rw [hoff, Nat.one_mul]

/-- A write of DB_TAIL by the logical device that owns the queue reaches the queue's tail. -/
theorem exec_dbTailWrite_owned (s : State) (l ld q : Nat) (dpid : BitVec 12) (x : Queue) (v : Word) (hrun : s.dev.inRun)
    (hopen : s.dev.ldOpen l ld = true) (hpbr : (s.dev.link l).misrouted dpid = false) (hlow : 16 ≤ q) (hhigh : q < 8192)
    (hq : s.dev.queue? q = some x) (hown : s.dev.ownerOf x = (l, ld)) :
    exec (.dbTailWrite l ld (q * 4096) v dpid) s =
      .next { s with dev := (s.dev.doorTail { link := l, ld := ld } (q * 4096) q x (v.setWidth 32)).after } := by
  have hreg : q * 4096 % 64 = 0 ∧ q * 4096 < 0x2000000 := by omega
  show s.onDev (·.doorCmd l ld (q * 4096) dpid v 0 (.dbTailWrite l ld (q * 4096) v dpid)) = _
  rw [State.onDev, Dev.doorCmd, Dev.ioArrive_open _ _ _ _ _ _ _ hrun hopen hpbr, if_pos hreg, Dev.writeDoor_tail _ _ q x v hlow hhigh hq hown]

/-- Settles O27: the write reaches the tail check of its queue, and none of the three outcomes leaves anything over for the end of
the command. -/
theorem tailWritesAreChecked : Obligations.TailWritesAreChecked := by
  intro s l ld q dpid x v hrun hstill hroom hopen hpbr hlow hhigh hq hown t fits
  have hexec := exec_dbTailWrite_owned s l ld q dpid x v hrun hopen hpbr hlow hhigh hq hown
  refine ⟨fun hfit => ?recorded, fun hsame => ?same, fun hunfit hne => ?event⟩
  case recorded =>
    have hok : x.tailOk t = true := decide_eq_true hfit
    have htable : mget s.dev.queues.qs q = some x := s.dev.queue?_grotto q hlow hhigh ▸ hq
    have hnew := s.dev.setQueue_still q x _ hstill hroom htable (Queue.settle_issued { x with tail := t, dirty := true })
    rw [hexec, Dev.doorTail_fits _ _ _ _ _ _ hok, Dev.recordTail_unarmed _ _ _ _ hstill.armed, Dev.after_still _ hnew]
  case same =>
    rw [hexec, show v.setWidth 32 = x.tail from hsame, Dev.doorTail_same, Dev.after_still _ hstill]
  case event =>
    have hok : x.tailOk t = false := decide_eq_false hunfit
    rw [hexec, Dev.doorTail_unfit _ _ _ _ _ _ hok hne, Dev.viewEvent_door _ _ _ _ _ hhigh, Dev.after_still _ (Dev.event_still _ _ _ _ _ _ hstill)]

end Sys2Proof.Machine
end

section
/-!
PROOFS. NAKs of an Evoil port (R432): what sending leaves of the receiving side, what a flit whose ack and credit bring nothing new comes
to, and the NAK of each flit that is not the one awaited.
-/
namespace Sys2Proof.Machine

/-! ### A port as it is set and read -/

section Port

variable (d : Dev) (p : Nat) (x : EvPort)

@[simp] theorem Dev.evPort_setEv : (d.setEv p x).evPort p = x := by
  unfold Dev.setEv Dev.evPort
  split <;> rfl

@[simp] theorem Dev.setEv_evPort : d.setEv p (d.evPort p) = d := by
  unfold Dev.setEv Dev.evPort
  split <;> rfl

@[simp] theorem Dev.setEv_out : (d.setEv p x).out = d.out := by
  unfold Dev.setEv
  split <;> rfl

@[simp] theorem Dev.onCnt_evPort (f : Counters → Counters) : (d.onCnt f).evPort p = d.evPort p := rfl
@[simp] theorem Dev.bump_evPort (n k : Nat) : (d.bump n k).evPort p = d.evPort p := rfl
@[simp] theorem Dev.emit_evPort (m : Msg) : (d.emit m).evPort p = d.evPort p := rfl
@[simp] theorem Dev.spillSpend_evPort (q n : Nat) : (d.spillSpend q n).evPort p = d.evPort p := rfl
@[simp] theorem Dev.evCountOut_evPort (q : Nat) : (d.evCountOut q).evPort p = d.evPort p := rfl
@[simp] theorem Dev.evCountOut_out (q : Nat) : (d.evCountOut q).out = d.out := rfl

@[simp] theorem Dev.evFault_evPort (bits : BitVec 8) : (d.evFault p bits).evPort p = { d.evPort p with fault := (d.evPort p).fault ||| bits } :=
  d.evPort_setEv p _

@[simp] theorem Dev.evFault_out (bits : BitVec 8) : (d.evFault p bits).out = d.out := d.setEv_out p _

@[simp] theorem Dev.wake_evPort (src detail : Nat) : (d.wake src detail).evPort p = d.evPort p := by
  rw [Dev.evPort, Dev.evPort, (d.wake_keeps src detail).ev]

end Port

/-! ### What sending leaves of the receiving side -/

/-- What a port's receiver goes by: E, and whether a NAK for it has gone out. -/
def EvPort.awaited (x : EvPort) : BitVec 12 × Bool := (x.expect, x.nakSent)

section Sending

variable (d : Dev) (p : Nat)

theorem Dev.evNak_evPort : (d.evNak p).evPort p = { d.evPort p with nakSent := true } := d.evPort_setEv p _

theorem Dev.evNak_out :
    (d.evNak p).out = d.out ++ [{ msg := .flit p 0 0 (d.evPort p).expect.toNat (d.evPort p).freed.toNat true [] }] := by
  simp [Dev.evNak, Dev.sourceOf, Msg.link?]

/-- Payload that goes out leaves E and the NAK as they are. -/
theorem Dev.evPump_awaited (n : Nat) : ((d.evPump p n).evPort p).awaited = (d.evPort p).awaited := by
  induction n generalizing d with
  | zero => rfl
  | succ n ih =>
    unfold Dev.evPump
    dsimp only
    split
    · rw [ih]
      simp [EvPort.awaited]
    · rfl

theorem Dev.evAnswer_awaited : ((d.evAnswer p).evPort p).awaited = (d.evPort p).awaited := by
  unfold Dev.evAnswer
  split
  · exact d.evPump_awaited p _
  · rfl

end Sending

/-! ### Flits that arrive -/

/-- A payload flit as it should be (R425) that names the flit before U and the last valid credit: it frees and grants nothing. -/
def EvPort.PlainFlit (x : EvPort) (f : Flit) : Prop :=
  f.crcOk = true ∧ f.kind = 1 ∧ f.resvOk = true ∧ f.msgs.any EvMsg.bad = false ∧ f.nak = false ∧ f.ack + 1 = x.unacked ∧ f.credit = x.limit

/-- Count a flit that arrives, for the bandwidth that a port reports of a window. -/
def Dev.evCountIn (d : Dev) (p : Nat) : Dev := d.onCnt fun c => { c with evIn := mmod c.evIn p 0 (· + 1) }

@[simp] theorem Dev.evCountIn_evPort (d : Dev) (p q : Nat) : (d.evCountIn q).evPort p = d.evPort p := rfl
@[simp] theorem Dev.evCountIn_out (d : Dev) (p : Nat) : (d.evCountIn p).out = d.out := rfl

section Arrival

variable (d : Dev) (p : Nat) (f : Flit)

theorem exec_flit (s : State) : exec (.flit p f) s = .next { s with dev := s.dev.flitIn p f } := rfl

/-- Freeing up to U frees nothing. -/
theorem Dev.freeTo_unacked : d.freeTo p (d.evPort p).unacked = d := by
  simp [Dev.freeTo]

/-- An ack of the flit before U is valid, with no flit outstanding too, and frees nothing. -/
theorem Dev.takeAck_same (hnak : f.nak = false) (hack : f.ack + 1 = (d.evPort p).unacked) : d.takeAck p f = d := by
  have hvalid : f.ack - (d.evPort p).unacked + 1 = 0 := by bv_omega
  have hle : (f.ack - (d.evPort p).unacked + 1).toNat ≤ ((d.evPort p).nextSeq - (d.evPort p).unacked).toNat := by
    rw [hvalid]; exact Nat.zero_le _
  rw [Dev.takeAck, hnak, if_neg Bool.false_ne_true, if_pos hle, hack, Dev.freeTo_unacked]

/-- The credit that stands already is valid and changes nothing. -/
theorem Dev.takeCredit_same (hcredit : f.credit = (d.evPort p).limit) : d.takeCredit p f = d := by
  have hle : ((d.evPort p).limit - (d.evPort p).limit).toNat ≤ ((d.evPort p).nextSeq - (d.evPort p).limit).toNat := by simp
  rw [Dev.takeCredit, hcredit, if_pos hle]
  exact d.setEv_evPort p

variable (hp : p < 2) (hlive : d.evLive = true) (hactive : (d.evPort p).state = 2)
include hp hlive hactive

/-- A port that is active takes flits. -/
theorem Dev.evPort_takes : ¬(2 ≤ p ∨ (d.evPort p).state ≠ 2 ∨ (!d.evLive) = true) := by
  simp [hp, hlive, hactive]

theorem Dev.flitIn_crcFails (hcrc : f.crcOk = false) : d.flitIn p f = (((d.evCountIn p).evFault p 0x01#8).bump (evCnt p 3)).evNak p := by
  rw [Dev.flitIn, if_neg (d.evPort_takes p hp hlive hactive), hcrc]
  rfl

theorem Dev.flitIn_plain (h : (d.evPort p).PlainFlit f) : d.flitIn p f =
    (if f.seq = (d.evPort p).expect then (d.evCountIn p).wake 3 p else d.evCountIn p).takePayload p f := by
  obtain ⟨hcrc, hkind, hresv, hmsgs, hnak, hack, hcredit⟩ := h
  have hgood : ¬((!f.crcOk) = true ∨ (decide (2 ≤ f.kind) || !f.resvOk || f.msgs.any EvMsg.bad) = true) := by
    simp [hcrc, hkind, hresv, hmsgs]
  rw [Dev.flitIn, if_neg (d.evPort_takes p hp hlive hactive), ← Dev.evCountIn]
  dsimp only
  rw [if_neg hgood, Dev.takeAck_same (d.evCountIn p) p f hnak hack, Dev.takeCredit_same (d.evCountIn p) p f hcredit,
    Dev.evCountIn_evPort, if_neg (not_not_intro hactive), if_pos hkind]

end Arrival

/-! ### The sequence of a payload flit -/

/-- A sequence that lies more than 1024 behind E, modulo 4096, is not E. -/
theorem seq_ne_of_outOfOrder {e n : BitVec 12} (h : 1024 < (e - n).toNat) : n ≠ e := by
  rintro rfl
  simp at h

section Sequence

variable (d : Dev) (p : Nat) (f : Flit)

/-- The awaited flit is accepted: E moves on and the NAK for it is over. -/
theorem Dev.takePayload_next (h : f.seq = (d.evPort p).expect) :
    ((d.takePayload p f).evPort p).awaited = ((d.evPort p).expect + 1, false) := by
  rw [Dev.takePayload, if_pos h, Dev.evAnswer_awaited]
  simp [EvPort.awaited]

/-- A flit that neither is awaited nor lies up to 1024 behind draws a NAK unless one has gone out for E. -/
theorem Dev.takePayload_outOfOrder (h : 1024 < ((d.evPort p).expect - f.seq).toNat) :
    d.takePayload p f = if (d.evPort p).nakSent then d else d.evNak p := by
  rw [Dev.takePayload, if_neg (seq_ne_of_outOfOrder h), if_neg (by omega)]

end Sequence

/-- Settles O46: of the flits that leave E alone, one whose CRC fails always reaches `Dev.evNak`, one out of order only while no NAK for E
is out; the awaited flit and the end of the interval make room for the next. -/
theorem naksNameTheAwaitedFlit : Obligations.NaksNameTheAwaitedFlit := by
  intro s p hp hlive hactive d x nak good
  refine ⟨fun f hcrc => ⟨_, exec_flit p f s, ?crcOut, ?crcSent⟩, fun f hgood hfar => ⟨_, exec_flit p f s, ?far⟩,
    fun f hgood hseq => ⟨_, exec_flit p f s, ?next⟩, ?interval⟩
  case crcOut =>
    rw [Dev.flitIn_crcFails _ _ _ hp hlive hactive hcrc, Dev.evNak_out]
    simp [d, x, nak]
  case crcSent =>
    rw [Dev.flitIn_crcFails _ _ _ hp hlive hactive hcrc, Dev.evNak_evPort]
  case far =>
    rw [Dev.flitIn_plain _ _ _ hp hlive hactive hgood, if_neg (seq_ne_of_outOfOrder hfar),
      Dev.takePayload_outOfOrder (s.dev.evCountIn p) p f hfar]
    cases hsent : x.nakSent with
    | true =>
      rw [Dev.evCountIn_evPort, if_pos hsent]
      exact ⟨hsent, rfl, rfl, rfl⟩
    | false =>
      rw [Dev.evCountIn_evPort, if_neg (Bool.eq_false_iff.mp hsent), Dev.evNak_evPort, Dev.evNak_out]
      exact ⟨rfl, rfl, rfl, rfl⟩
  case next =>
    have hnext : ((s.dev.flitIn p f).evPort p).awaited = (x.expect + 1, false) := by
      rw [Dev.flitIn_plain _ _ _ hp hlive hactive hgood, if_pos hseq, Dev.takePayload_next _ _ _ (by simpa using hseq)]
      simp [x, d]
    obtain ⟨hexpect, hsent⟩ := Prod.mk.inj hnext
    exact ⟨hsent, hexpect⟩
  case interval =>
    show s.onDev (fun d => if p < 2 then d.modEv p _ else d) = _
    rw [State.onDev, if_pos hp]
    rfl

end Sys2Proof.Machine
end

section
/-!
PROOFS. The SVN count and the fabric manager's root (R561, R576): what each operation on the trust block leaves of them, which commands
reach the block at all, and the two requests that change them.
-/
namespace Sys2Proof.Machine

/-- The fuse fields that change at a request of their own alone: the SVN count and the fabric manager's root (R561, R576). -/
def Trust.askedFuses (t : Trust) : Nat × Option (BitVec 256) := (t.svn, t.fmRoot)

/-- A fold of operations that leave a view of the state as it was leaves it. -/
theorem foldl_view {σ β γ : Type} (view : σ → γ) (f : σ → β → σ) (hf : ∀ s x, view (f s x) = view s) (l : List β) (s : σ) :
    view (l.foldl f s) = view s :=
  List.foldlRecOn (motive := fun u => view u = view s) l f rfl fun u hu x _ => (hf u x).trans hu

/-! ### Operations on the trust block -/

section TrustBlock

variable (t : Trust)

@[simp] theorem Trust.program_askedFuses (slot off : Nat) (bs : List Byte) : (t.program slot off bs).askedFuses = t.askedFuses := by
  unfold Trust.program
  dsimp only
  split
  · split <;> rfl
  · split <;> rfl

@[simp] theorem Trust.measureBoot_askedFuses (p : Plat) : (t.measureBoot p).askedFuses = t.askedFuses := by
  unfold Trust.measureBoot
  split <;> rfl

@[simp] theorem Trust.bootOrder_askedFuses : t.bootOrder.1.askedFuses = t.askedFuses := by
  unfold Trust.bootOrder
  split
  · split <;> rfl
  · rfl

theorem Trust.takeLeaf_askedFuses {u : Trust} {q : Nat} (h : t.takeLeaf = some (q, u)) : u.askedFuses = t.askedFuses := by
  unfold Trust.takeLeaf at h
  split at h
  · cases h
    rfl
  · cases h

@[simp] theorem Trust.indexed_askedFuses (r : CairnRec) (addr : Nat) : (t.indexed r addr).askedFuses = t.askedFuses := by
  unfold Trust.indexed
  split
  · rfl
  · split
    · rfl
    · split <;> rfl

@[simp] theorem Trust.add_askedFuses (type inst : Nat) (data : List Byte) (ok : Bool) (soft : Option (List Nat)) :
    (t.add type inst data ok soft).askedFuses = t.askedFuses := by
  unfold Trust.add
  dsimp only
  split
  · rw [Trust.indexed_askedFuses]
    rfl
  · rfl

@[simp] theorem Trust.compact_askedFuses : t.compact.askedFuses = t.askedFuses := by
  unfold Trust.compact
  dsimp only
  split
  · rfl
  · exact foldl_view Trust.askedFuses _ (fun t r => t.add_askedFuses _ _ _ _ _) _ _

@[simp] theorem Trust.append_askedFuses (type inst : Nat) (data : List Byte) (ok : Bool) (soft : Option (List Nat)) :
    (t.append type inst data ok soft).askedFuses = t.askedFuses := by
  unfold Trust.append
  dsimp only
  split <;> simp

end TrustBlock

/-! ### What firmware and the ROM do -/

section Firmware

variable (s : State)

@[simp] theorem State.fmAnswer_trust (code : CmdCode) (payload : List Nat) : (s.fmAnswer code payload).trust = s.trust := rfl
@[simp] theorem State.spdmAnswer_trust (ch : Nat) (ok : Bool) (payload : List Nat) (bytes : List Byte) :
    (s.spdmAnswer ch ok payload bytes).trust = s.trust := rfl
@[simp] theorem State.onTrust_trust (f : Trust → Trust) : (s.onTrust f).trust = f s.trust := rfl
@[simp] theorem State.fwReset_askedFuses : s.fwReset.trust.askedFuses = s.trust.askedFuses := rfl

theorem State.unwrapSlots_askedFuses : s.unwrapSlots.trust.askedFuses = s.trust.askedFuses :=
  foldl_view (fun s : State => s.trust.askedFuses) _ (fun s x => by
    split
    · rfl
    · split <;> rfl) _ s

/-- The scan of the store sets the index alone (R569). -/
theorem Trust.scan_askedFuses (t : Trust) (recs : List (CairnRec × Nat × Nat)) :
    (recs.foldl (fun (t : Trust) e => t.indexed e.1 (t.addressOf e.2)) { t with index := [] }).askedFuses = t.askedFuses :=
  foldl_view Trust.askedFuses _ (fun t _ => t.indexed_askedFuses _ _) recs { t with index := [] }

@[simp] theorem State.readStore_askedFuses (lost : List Nat) : (s.readStore lost).trust.askedFuses = s.trust.askedFuses := by
  unfold State.readStore
  extract_lets t0 t d d1
  have ht : t.askedFuses = s.trust.askedFuses := by
    unfold t
    split
    · exact t0.scan_askedFuses _
    · rfl
  split
  · exact ht
  · split <;> exact ht

@[simp] theorem State.trySlots_askedFuses (second : Bool) (slots : List Nat) :
    (s.trySlots second slots).trust.askedFuses = s.trust.askedFuses := by
  induction slots generalizing s second with
  | nil => rfl
  | cons slot rest ih =>
    unfold State.trySlots
    split
    · rfl
    · rw [ih]

theorem State.transfer_askedFuses (off : Nat) (bs : List Byte) : (s.transfer off bs).trust.askedFuses = s.trust.askedFuses := by
  unfold State.transfer
  split
  · rfl
  · simp

theorem State.activate_askedFuses (mode : Nat) : (s.activate mode).trust.askedFuses = s.trust.askedFuses := by
  unfold State.activate
  dsimp only
  split
  · rfl
  · split <;> simp

theorem State.negotiate_askedFuses (ch stage : Nat) (ok : Bool) (payload : List Nat) :
    (s.negotiate ch stage ok payload).trust.askedFuses = s.trust.askedFuses := by
  unfold State.negotiate
  split <;> rfl

theorem State.afterAlgorithms_askedFuses (ch : Nat) (ok : Bool) (payload : List Nat) (bytes : List Byte) :
    (s.afterAlgorithms ch ok payload bytes).trust.askedFuses = s.trust.askedFuses := by
  unfold State.afterAlgorithms
  split <;> rfl

theorem State.signed_askedFuses {u : State} {ch : Nat} {ok : Bool} {f : Nat → State → State} (h : s.signed ch ok f = some u)
    (hf : ∀ q v, (f q v).trust.askedFuses = v.trust.askedFuses) : u.trust.askedFuses = s.trust.askedFuses := by
  unfold State.signed at h
  split at h
  · cases h
    rfl
  · split at h
    · next htake =>
      cases h
      rw [hf]
      exact s.trust.takeLeaf_askedFuses htake
    · split at h
      · cases h
        rfl
      · cases h

theorem State.finishSession_askedFuses (ch id : Nat) (root : Option (BitVec 256)) :
    (s.finishSession ch id root).trust.askedFuses = s.trust.askedFuses := by
  unfold State.finishSession
  split
  · split <;> rfl
  · rfl

theorem State.inSession_askedFuses (ch id : Nat) (f : Spdm → State → State)
    (hf : ∀ x, (f x s).trust.askedFuses = s.trust.askedFuses) : (s.inSession ch id f).trust.askedFuses = s.trust.askedFuses := by
  unfold State.inSession
  split
  · split
    · exact hf _
    · rfl
  · rfl

theorem State.wrapKey_askedFuses (ch slot : Nat) (erase : Bool) (key : BitVec 256) (x : Spdm) :
    (s.wrapKey ch slot erase key x).trust.askedFuses = s.trust.askedFuses := by
  unfold State.wrapKey
  split <;> rfl

theorem State.ideKm_askedFuses (ch link stream : Nat) (f : IdeStream → Option IdeStream) (g : Link → Link) :
    (s.ideKm ch link stream f g).trust.askedFuses = s.trust.askedFuses := by
  unfold State.ideKm
  dsimp only
  split <;> rfl

@[simp] theorem State.recordKept_trust (type inst : Nat) (data : List Byte) : (s.recordKept type inst data).trust = s.trust := by
  unfold State.recordKept
  split
  · rfl
  · dsimp only
    split <;> rfl
  · rfl

theorem State.reserve_askedFuses (data : List Byte) (ok : Bool) : (s.reserve data ok).trust.askedFuses = s.trust.askedFuses := by
  have happend (t : Trust) : (if ok then { t.append 3 0 data ok with leafEnd := (t.append 3 0 data ok).leafEnd + 256 }
      else t.append 3 0 data ok).askedFuses = t.askedFuses := by
    split <;> exact t.append_askedFuses _ _ _ _ _
  unfold State.reserve
  dsimp only
  split
  · rfl
  · split
    · split <;> rfl
    · exact happend _

@[simp] theorem State.putRecord_askedFuses (type inst : Nat) (payload : List Byte) (ok : Bool) :
    (s.putRecord type inst payload ok).trust.askedFuses = s.trust.askedFuses := by
  unfold State.putRecord
  dsimp only
  split
  · exact s.reserve_askedFuses _ _
  · split
    · rw [State.recordKept_trust]
      exact s.trust.append_askedFuses _ _ _ _ _
    · exact s.trust.append_askedFuses _ _ _ _ _

@[simp] theorem State.payDue_askedFuses : s.payDue.trust.askedFuses = s.trust.askedFuses := by
  unfold State.payDue
  dsimp only
  split
  · rfl
  · split
    · exact foldl_view (fun s : State => s.trust.askedFuses) _ (fun s e => s.trust.append_askedFuses _ _ _ _ _) _ _
    · rw [Trust.append_askedFuses]
      exact foldl_view (fun s : State => s.trust.askedFuses) _ (fun s e => s.trust.append_askedFuses _ _ _ _ _) _ _

@[simp] theorem State.writeWaiting_askedFuses : s.writeWaiting.trust.askedFuses = s.trust.askedFuses := by
  unfold State.writeWaiting
  split
  · exact foldl_view (fun s : State => s.trust.askedFuses) _ (fun s c => by
      split
      · exact s.putRecord_askedFuses _ _ _ _
      · rfl) _ _
  · rfl

/-- No command that firmware serves is one of the two requests. -/
theorem State.serve_askedFuses {u : State} (c : Instr) (h : s.serve c = some u) : u.trust.askedFuses = s.trust.askedFuses := by
  unfold State.serve at h
  cases c with
  | getVersion | getCapabilities | negotiateAlgorithms => cases h; exact s.negotiate_askedFuses _ _ _ _
  | getDigests | getCertificate => cases h; exact s.afterAlgorithms_askedFuses _ _ _ _
  | challenge => exact s.signed_askedFuses h fun _ _ => rfl
  | getMeasurements =>
    dsimp only at h
    split at h
    · exact s.signed_askedFuses h fun _ _ => rfl
    · cases h; exact s.afterAlgorithms_askedFuses _ _ _ _
  | keyExchange =>
    dsimp only at h
    split at h
    · exact s.signed_askedFuses h fun _ _ => rfl
    · cases h; rfl
  | finish => cases h; exact s.finishSession_askedFuses _ _ _
  | heartbeat | keyUpdate | endSession => cases h; exact s.inSession_askedFuses _ _ _ fun _ => rfl
  | setWrappingKey => cases h; exact s.inSession_askedFuses _ _ _ fun x => s.wrapKey_askedFuses _ _ _ _ x
  | keyProg | kSetGo | kSetStop => cases h; exact s.inSession_askedFuses _ _ _ fun _ => s.ideKm_askedFuses _ _ _ _ _
  | transferFirmware => cases h; exact s.transfer_askedFuses _ _
  | activateFirmware => cases h; exact s.activate_askedFuses _
  | setPoolId => cases h; exact s.trust.append_askedFuses _ _ _ _ _
  | _ => cases h; rfl

theorem State.serveAll_askedFuses (cs : List Instr) : (s.serveAll cs).trust.askedFuses = s.trust.askedFuses := by
  induction cs generalizing s with
  | nil => rfl
  | cons c rest ih =>
    unfold State.serveAll
    split
    · split
      · next hserve => rw [ih, s.serve_askedFuses c hserve]
      · rfl
    · rfl

@[simp] theorem State.serveWaiting_askedFuses : s.serveWaiting.trust.askedFuses = s.trust.askedFuses := s.serveAll_askedFuses _

@[simp] theorem State.ask_askedFuses (c : Instr) : (s.ask c).trust.askedFuses = s.trust.askedFuses := by
  unfold State.ask
  rw [State.serveWaiting_askedFuses]
  rfl

theorem State.poolId_askedFuses (id : BitVec 12) (ack credit : Nat) : (s.poolId id ack credit).trust.askedFuses = s.trust.askedFuses := by
  unfold State.poolId
  split
  · exact State.ask_askedFuses _ _
  · rfl

/-- Reading a register leaves the trust block alone. -/
theorem State.readBlock_trust (off : Nat) (clear : Bool) : (s.readBlock off clear).2.trust = s.trust := by
  unfold State.readBlock
  dsimp only
  repeat' split
  all_goals rfl

theorem State.readReg_trust (off : Nat) : (s.readReg off).trust = s.trust := by
  unfold State.readReg
  dsimp only
  split
  · rfl
  · split
    · rw [State.fmAnswer_trust]
    · rw [State.fmAnswer_trust, State.readBlock_trust]
    · rw [State.fmAnswer_trust, State.readBlock_trust]

theorem State.recorded_askedFuses (q : Nat) (pos : BitVec 32) (before : Dev) :
    (s.recorded q pos before).trust.askedFuses = s.trust.askedFuses := by
  unfold State.recorded
  dsimp only
  split
  · split
    · exact s.trust.append_askedFuses _ _ _ _ _
    · rfl
  · rfl

end Firmware

/-! ### Commands -/

/-- An answer whose next state, if there is one, has the SVN count and the fabric manager's root of s. -/
def State.KeepsFuses (s : State) (o : Answer) : Prop := ∀ t, o = .next t → t.trust.askedFuses = s.trust.askedFuses

section Commands

variable (s : State)

theorem State.keepsFuses_next {u : State} (h : u.trust.askedFuses = s.trust.askedFuses) : s.KeepsFuses (.next u) := by
  rintro t ⟨⟩
  exact h

/-- A command of the device alone does not reach the trust block. -/
theorem State.keepsFuses_dev (d : Dev) : s.KeepsFuses (.next { s with dev := d }) := s.keepsFuses_next rfl

theorem State.keepsFuses_ite {c : Prop} [Decidable c] {a b : Answer} (ha : s.KeepsFuses a) (hb : s.KeepsFuses b) :
    s.KeepsFuses (if c then a else b) := by
  split
  · exact ha
  · exact hb

theorem State.fm_keepsFuses (f : State → State) (hf : ∀ u, (f u).trust.askedFuses = u.trust.askedFuses) : s.KeepsFuses (s.fm f) :=
  s.keepsFuses_ite (s.keepsFuses_next (hf _)) (s.keepsFuses_next rfl)

theorem State.fmDev_keepsFuses (f : Dev → CmdCode × List Nat × Dev) : s.KeepsFuses (s.fmDev f) := s.fm_keepsFuses _ fun _ => rfl

theorem State.spdm_keepsFuses (ch : Nat) (c : Instr) : s.KeepsFuses (s.spdm ch c) :=
  s.keepsFuses_ite (s.keepsFuses_next (State.ask_askedFuses _ c)) (s.keepsFuses_next rfl)

theorem execIllegalInstruction_keepsFuses (q : Nat) (word : BitVec 128) : s.KeepsFuses (execIllegalInstruction q word s) := by
  unfold execIllegalInstruction
  split
  · exact s.keepsFuses_dev _
  · exact s.keepsFuses_dev _

theorem execInstructionComplete_keepsFuses (q : Nat) (pos : BitVec 32) (hw : HwObs) :
    s.KeepsFuses (execInstructionComplete q pos hw s) := by
  unfold execInstructionComplete
  extract_lets s1 s2
  split
  · exact s.keepsFuses_next rfl
  · exact s.keepsFuses_next (s1.recorded_askedFuses q pos s.dev)

theorem execMainRailLoss_keepsFuses : s.KeepsFuses (execMainRailLoss s) := s.keepsFuses_ite (s.keepsFuses_dev _) (s.keepsFuses_next rfl)

theorem execHoldExit_keepsFuses (lampTemp : Int) (refclk : Nat) : s.KeepsFuses (execHoldExit lampTemp s refclk) :=
  s.keepsFuses_ite (s.keepsFuses_next rfl) (s.keepsFuses_ite (s.keepsFuses_next rfl) (s.keepsFuses_next rfl))

theorem execBootComplete_keepsFuses (failed : List Bank) (fixed : List (Bank × Nat)) : s.KeepsFuses (execBootComplete failed s fixed) := by
  refine s.keepsFuses_next ?_
  split
  · exact State.unwrapSlots_askedFuses _
  · rfl

/-- What a link brought in DEEP is none of the commands that reach the trust block. -/
theorem lateIo_keepsFuses (c : Instr) : s.KeepsFuses (lateIo c s) := by
  unfold lateIo
  split
  case h_25 => split <;> exact s.keepsFuses_dev _
  all_goals exact s.keepsFuses_dev _

theorem serveLate_askedFuses (c : Instr) : (serveLate s c).trust.askedFuses = s.trust.askedFuses := by
  unfold serveLate
  split
  · rfl
  · split
    · next hlate => exact lateIo_keepsFuses s c _ hlate
    · rfl

theorem execDeepExitComplete_keepsFuses (failed : List Bank) (fixed : List (Bank × Nat)) :
    s.KeepsFuses (execDeepExitComplete failed s fixed) :=
  s.keepsFuses_ite (s.keepsFuses_dev _)
    (s.keepsFuses_next (foldl_view (fun s : State => s.trust.askedFuses) _ (fun s c => serveLate_askedFuses s c) _ _))

theorem execCairnRecordWrite_keepsFuses (type inst : Nat) (payload : List Byte) (ok : Bool) :
    s.KeepsFuses (execCairnRecordWrite type inst payload ok s) :=
  s.keepsFuses_ite (s.keepsFuses_next rfl) (s.keepsFuses_ite (s.keepsFuses_next (by simp)) (s.keepsFuses_next rfl))

theorem execWatchdogExpiry_keepsFuses : s.KeepsFuses (execWatchdogExpiry s) := by
  refine s.keepsFuses_next ?_
  split <;> rfl

theorem execWatchdogRestart_keepsFuses : s.KeepsFuses (execWatchdogRestart s) := by
  refine s.keepsFuses_next ?_
  split <;> rfl

theorem execCairnBlockErase_keepsFuses : s.KeepsFuses (execCairnBlockErase s) := by
  refine s.keepsFuses_next ?_
  split
  · exact s.trust.compact_askedFuses
  · rfl

theorem execFirmwareRelease_keepsFuses (spd : List (Nat × Option Dimm × Option Dimm)) (lost : List Nat) :
    s.KeepsFuses (execFirmwareRelease s spd lost) := by
  have hspd (u : State) : (if u.dev.fwUp then { u with dev := spd.foldl (fun (d : Dev) e => d.spdRead e.1 e.2.1 e.2.2) u.dev }
      else u).trust = u.trust := by split <;> rfl
  unfold execFirmwareRelease
  split
  · exact s.keepsFuses_next rfl
  · refine s.keepsFuses_next ?_
    rw [State.serveWaiting_askedFuses, State.payDue_askedFuses, State.writeWaiting_askedFuses, hspd, State.trySlots_askedFuses,
      Trust.measureBoot_askedFuses]
    exact (Trust.bootOrder_askedFuses _).trans (s.readStore_askedFuses lost)

end Commands

/-- Of all commands two alone reach the SVN count and the fabric manager's root: their own requests (R561, R576). Most act on the device alone;
the others reach the trust block through the operations above. -/
theorem exec_keepsFuses (c : Instr) (s : State) (hsvn : c ≠ .svnRaise) (hroot : ∀ hash, c ≠ .provisionFmRoot hash) :
    s.KeepsFuses (exec c s) := by
  unfold exec
  cases c with
  | svnRaise => exact absurd rfl hsvn
  | provisionFmRoot hash => exact absurd rfl (hroot hash)
  | getLdInfo | getLdAllocations | setLdAllocations | setLdOptions | submitInstructions | getQueueStatus | getCompletionRecords
  | setQueueRun | writeDeviceRegister => exact s.fmDev_keepsFuses _
  | setPoolId => exact s.fm_keepsFuses _ fun u => u.poolId_askedFuses _ _ _
  | transferFirmware | activateFirmware => exact s.fm_keepsFuses _ fun u => u.ask_askedFuses _
  | readDeviceRegister off => exact s.fm_keepsFuses _ fun u => congrArg Trust.askedFuses (u.readReg_trust off)
  | getVersion | getCapabilities | negotiateAlgorithms | getDigests | getCertificate | challenge | getMeasurements | keyExchange | finish
  | heartbeat | keyUpdate | endSession | setWrappingKey | keyProg | kSetGo | kSetStop => exact s.spdm_keepsFuses _ _
  | illegalInstruction => exact execIllegalInstruction_keepsFuses s _ _
  | instructionComplete => exact execInstructionComplete_keepsFuses s _ _ _
  | rankRetrainComplete | trainingComplete | ropeControl | softRepairComplete =>
    exact s.keepsFuses_next (State.payDue_askedFuses _)
  | deepExitComplete => exact execDeepExitComplete_keepsFuses s _ _
  | holdSequenceComplete | holdBackstop | bootFromOff => exact s.keepsFuses_ite (s.keepsFuses_next rfl) (s.keepsFuses_next rfl)
  | mainRailLoss => exact execMainRailLoss_keepsFuses s
  | holdExit => exact execHoldExit_keepsFuses s _ _
  | bootComplete => exact execBootComplete_keepsFuses s _ _
  | vddLampLoss => exact s.keepsFuses_next rfl
  | cairnRecordWrite => exact execCairnRecordWrite_keepsFuses s _ _ _ _
  | watchdogExpiry => exact execWatchdogExpiry_keepsFuses s
  | watchdogRestart => exact execWatchdogRestart_keepsFuses s
  | cairnBlockErase => exact execCairnBlockErase_keepsFuses s
  | firmwareRelease => exact execFirmwareRelease_keepsFuses s _ _
  | _ => exact s.keepsFuses_dev _

/-! ### The two requests -/

section Requests

variable (s : State)

/-- The SVN count rises where the running image is confirmed, its flags[0] is set and its svn is above the count (R576). -/
def State.MayRaise : Prop :=
  s.dev.live = true ∧ s.dev.fwUp = true ∧ s.trust.onTrial = false ∧ (s.trust.flash s.trust.running 7).getLsbD 0 = true ∧
    s.trust.svn < s.trust.svnRun

theorem exec_svnRaise_mayRaise (h : s.MayRaise) : exec .svnRaise s = .next { s with trust := { s.trust with svn := s.trust.svnRun } } := by
  obtain ⟨hlive, hup, htrial, hflag, hlow⟩ := h
  show execSvnRaise s = _
  simp [execSvnRaise, State.onTrust, hlive, hup, htrial, hflag, hlow]

theorem exec_svnRaise_refused (h : ¬ s.MayRaise) : exec .svnRaise s = .next s := by
  show execSvnRaise s = _
  unfold execSvnRaise
  dsimp only
  rw [if_neg fun ⟨hlive, hup, htrial, hflag, hlow⟩ => h ⟨hlive, hup, by simpa using htrial, hflag, hlow⟩]

/-- What Provision FM Root does where the core has power (R561): the device wakes, and a root is written once. -/
theorem exec_provisionFmRoot (hash : BitVec 256) (h : s.dev.live = true) :
    exec (.provisionFmRoot hash) s = .next (match s.trust.fmRoot with
      | none => { s with dev := (s.dev.wake 5 0).emit (.fm .success []), trust := { s.trust with fmRoot := some hash } }
      | some _ => { s with dev := (s.dev.wake 5 0).emit (.fm .invalidInput []) }) := by
  show execProvisionFmRoot hash s = _
  unfold execProvisionFmRoot State.fm
  rw [if_pos h]
  cases hroot : s.trust.fmRoot <;> simp [hroot] <;> rfl

theorem exec_provisionFmRoot_dark (hash : BitVec 256) (h : s.dev.live = false) : exec (.provisionFmRoot hash) s = .next s := by
  show execProvisionFmRoot hash s = _
  unfold execProvisionFmRoot State.fm
  rw [h]
  rfl

variable {s} {t : State}

theorem exec_svnRaise_askedFuses (h : exec .svnRaise s = .next t) :
    t.trust.askedFuses = s.trust.askedFuses ∨ s.MayRaise ∧ t.trust.askedFuses = (s.trust.svnRun, s.trust.fmRoot) := by
  by_cases hmay : s.MayRaise
  · rw [exec_svnRaise_mayRaise _ hmay] at h
    cases h
    exact .inr ⟨hmay, rfl⟩
  · rw [exec_svnRaise_refused _ hmay] at h
    cases h
    exact .inl rfl

theorem exec_provisionFmRoot_askedFuses {hash : BitVec 256} (h : exec (.provisionFmRoot hash) s = .next t) :
    t.trust.askedFuses = s.trust.askedFuses ∨ s.trust.fmRoot = none ∧ t.trust.askedFuses = (s.trust.svn, some hash) := by
  cases hlive : s.dev.live with
  | false =>
    rw [exec_provisionFmRoot_dark _ _ hlive] at h
    cases h
    exact .inl rfl
  | true =>
    rw [exec_provisionFmRoot _ _ hlive] at h
    cases hfuse : s.trust.fmRoot with
    | none =>
      rw [hfuse] at h
      cases h
      exact .inr ⟨rfl, rfl⟩
    | some k =>
      rw [hfuse] at h
      cases h
      exact .inl rfl

end Requests

/-! ### Steps -/

theorem step_cons {s : State} {c : Instr} {rest : List Instr} (h : s.pending = c :: rest) : step s = exec c { s with pending := rest } := by
  unfold step
  rw [h]

/-- What a step can do to the two fuse fields: nothing, or what the request at the front of the queue asks for. -/
theorem step_askedFuses {s t : State} (h : step s = .next t) :
    t.trust.askedFuses = s.trust.askedFuses ∨
    ((∃ rest, s.pending = .svnRaise :: rest) ∧ s.MayRaise ∧ t.trust.askedFuses = (s.trust.svnRun, s.trust.fmRoot)) ∨
    (s.trust.fmRoot = none ∧ ∃ hash rest, s.pending = .provisionFmRoot hash :: rest ∧ t.trust.askedFuses = (s.trust.svn, some hash)) := by
  cases hq : s.pending with
  | nil =>
    unfold step at h
    rw [hq] at h
    cases h
    exact .inl rfl
  | cons c rest =>
    rw [step_cons hq] at h
    by_cases hsvn : c = .svnRaise
    · subst hsvn
      rcases exec_svnRaise_askedFuses h with hsame | ⟨hmay, hraised⟩
      · exact .inl hsame
      · exact .inr (.inl ⟨⟨rest, rfl⟩, hmay, hraised⟩)
    by_cases hroot : ∃ hash, c = .provisionFmRoot hash
    · obtain ⟨hash, rfl⟩ := hroot
      rcases exec_provisionFmRoot_askedFuses h with hsame | ⟨hnone, hwritten⟩
      · exact .inl hsame
      · exact .inr (.inr ⟨hnone, hash, rest, rfl, hwritten⟩)
    · exact .inl (exec_keepsFuses c { s with pending := rest } hsvn (not_exists.mp hroot) t h)

/-! ### Verification of a slot -/

/-- An image whose svn is below the count fails the third check of R572, unless an earlier one fails. -/
theorem Trust.verify_below (t : Trust) (p : Plat) (slot : Nat) (h : t.num slot 8 4 < t.svn) : ∃ n, t.verify p slot = .error n := by
  unfold Trust.verify
  simp only [if_pos h]
  split
  · exact ⟨1, rfl⟩
  · split
    · exact ⟨2, rfl⟩
    · exact ⟨3, rfl⟩

/-- Settles O35: the two answers of Provision FM Root, and the step's inversion, in which the root is written over none alone. -/
theorem fmRootIsWrittenOnce : Obligations.FmRootIsWrittenOnce := by
  have live (s : State) (hrun : s.dev.inRun) : s.dev.live = true := by simp [Dev.live, hrun.1]
  refine ⟨fun s h hrun hnone => ?written, fun s h k hrun hsome => ?refused, fun s t k hstep hsome => ?kept⟩
  case written =>
    rw [exec_provisionFmRoot s h (live s hrun), hnone, Dev.wake_inRun _ _ _ hrun]
    rfl
  case refused =>
    rw [exec_provisionFmRoot s h (live s hrun), hsome, Dev.wake_inRun _ _ _ hrun]
    rfl
  case kept =>
    rcases step_askedFuses hstep with hsame | ⟨-, -, hraised⟩ | ⟨hnone, -⟩
    · exact (congrArg Prod.snd hsame).trans hsome
    · exact (congrArg Prod.snd hraised).trans hsome
    · rw [hnone] at hsome
      cases hsome

/-- Settles O56: of the three outcomes for the fuse fields that a step has, the request for the SVN count alone changes it. -/
theorem svnRisesOnlyWhenAsked : Obligations.SvnRisesOnlyWhenAsked := by
  refine ⟨fun s t hstep hchanged => ?raised, fun s rest hfront hlive hup htrial hflag hlow => ?answer, fun t p slot => t.verify_below p slot⟩
  case raised =>
    rcases step_askedFuses hstep with hsame | ⟨hfront, ⟨-, -, htrial, hflag, hlow⟩, hraised⟩ | ⟨-, hash, rest, -, hwritten⟩
    · exact absurd (congrArg Prod.fst hsame) hchanged
    · have hsvn : t.trust.svn = s.trust.svnRun := congrArg Prod.fst hraised
      exact ⟨hfront, hsvn, hsvn ▸ hlow, htrial, hflag⟩
    · exact absurd (congrArg Prod.fst hwritten) hchanged
  case answer =>
    rw [step_cons hfront]
    exact exec_svnRaise_mayRaise { s with pending := rest } ⟨hlive, hup, htrial, hflag, hlow⟩

end Sys2Proof.Machine
end

section
/-!
PROOFS. The words of Pelmic instructions (R304, R314, R643): the fields of a word lie next to one another, so that reading and laying out
undo each other.
-/
namespace Sys2Proof.Machine

/-- Bit i of a word, as the field of one bit that it is. -/
theorem ofBool_getLsbD {n : Nat} (x : BitVec n) (i : Nat) : BitVec.ofBool (x.getLsbD i) = x.extractLsb' i 1 := by
  ext j hj
  obtain rfl : j = 0 := by omega
  simp

theorem getLsbD_of_extractLsb' {n : Nat} {x : BitVec n} {i : Nat} {b : Bool} (h : x.extractLsb' i 1 = BitVec.ofBool b) :
    x.getLsbD i = b := by
  simpa using congrArg (·.getLsbD 0) h

/-- A word is laid out again from its opcode and its fields: the fields lie next to one another (R304). -/
theorem encodePelmic_fieldsOf (x : BitVec 128) : encodePelmic (opOf x) (fieldsOf x) = x := by
  simp only [fieldsOf, encodePelmic, opOf, ofBool_getLsbD]
  iterate 14 rw [BitVec.extractLsb'_append_extractLsb'_eq_extractLsb']
  · exact BitVec.extractLsb'_eq_self
  all_goals rfl

theorem opOf_encodePelmic (op : BitVec 8) (w : PWord) : opOf (encodePelmic op w) = op :=
  BitVec.extractLsb'_append_eq_right

/-- A field of a word that is laid out reads as what was laid out (R304): the fields below it are passed over. -/
theorem fieldsOf_encodePelmic (op : BitVec 8) (w : PWord) : fieldsOf (encodePelmic op w) = w := by
  obtain ⟨⟩ := w
  unfold fieldsOf encodePelmic
  simp only [PWord.mk.injEq]
  refine ⟨?_, ?_, ?_, ?_, ?_, ?_, ?_, ?_, ?_, getLsbD_of_extractLsb' ?_, getLsbD_of_extractLsb' ?_, getLsbD_of_extractLsb' ?_,
    getLsbD_of_extractLsb' ?_, ?_⟩
  case refine_1 =>
    repeat refine (BitVec.extractLsb'_append_eq_of_le (by decide)).trans ?_
    exact BitVec.extractLsb'_eq_self
  all_goals
    repeat refine (BitVec.extractLsb'_append_eq_of_le (by decide)).trans ?_
    exact BitVec.extractLsb'_append_eq_right

theorem encodePelmic_of_opOf {x : BitVec 128} {n : Nat} (h : (opOf x).toNat = n) : encodePelmic (BitVec.ofNat 8 n) (fieldsOf x) = x := by
  rw [← h, BitVec.ofNat_toNat, BitVec.setWidth_eq, encodePelmic_fieldsOf]

/-- What a word is read as is illegal, or is laid out as that word, with fields that belong to its row. -/
def ReadsBack (q : Nat) (x : BitVec 128) (i : Instr) : Prop :=
  i = .illegalInstruction q x ∨ (pelmicWord i = some x ∧ pelmicFits i = true)

section Reading

variable {q : Nat} {x : BitVec 128}

theorem ReadsBack.of_key {i : Instr} {op : Nat} {m : Option Nat} (hkey : pelmicKey i = some (q, op, m, fieldsOf x))
    (hop : (opOf x).toNat = op) (hfits : pelmicFits i = true) : ReadsBack q x i := by
  refine .inr ⟨?_, hfits⟩
  unfold pelmicWord
  rw [hkey]
  exact congrArg some (encodePelmic_of_opOf hop)

/-- A row of several actions reads back where each action has the row's opcode and its own place as its mod. -/
theorem rowOf_readsBack {op : Nat} {rows : List (Nat → PWord → Instr)} (hop : (opOf x).toNat = op) (hne : op ≠ 0)
    (hrows : ∀ e ∈ rows.zipIdx, pelmicKey (e.1 q (fieldsOf x)) = some (q, op, some e.2, fieldsOf x)) :
    ReadsBack q x (rowOf q x (fieldsOf x) rows) := by
  unfold rowOf
  cases hf : rows[(fieldsOf x).mod.toNat]? with
  | none => exact .inl rfl
  | some f =>
    have hkey := hrows _ (List.mk_mem_zipIdx_iff_getElem?.mpr hf)
    refine .of_key hkey hop ?_
    unfold pelmicFits
    rw [hkey]
    simp [hne]

theorem grottoRow_eq_rowOf (w : PWord) : grottoRow q x w = rowOf q x w [.grottoWrite, .grottoRead, .grottoAttach, .grottoDetach,
    .grottoReturnToService, .grottoOfferExtent, .grottoDelete] := by
  unfold grottoRow rowOf
  match w.mod.toNat with
  | 0 | 1 | 2 | 3 | 4 | 5 | 6 => rfl
  | _ + 7 => rfl

/-- SURVEY keeps its mod, 0 or 1 (R357). -/
theorem surveyRow_readsBack (hop : (opOf x).toNat = 0xC9) : ReadsBack q x (rowOf q x (fieldsOf x) [.survey, .survey]) := by
  unfold rowOf
  match hmod : (fieldsOf x).mod.toNat with
  | 0 | 1 => exact .of_key rfl hop (by simp [pelmicFits, pelmicKey, hmod])
  | n + 2 => exact .inl rfl

theorem pelmicOf_readsBack : ReadsBack q x (pelmicOf q x) := by
  unfold pelmicOf
  extract_lets w
  split
  case h_36 =>
    rw [grottoRow_eq_rowOf]
    exact rowOf_readsBack ‹_› (by decide) (by simp [pelmicKey])
  case h_45 => exact surveyRow_readsBack ‹_›
  case h_48 => exact .inl rfl
  case h_37 | h_38 | h_39 | h_40 | h_41 | h_42 | h_43 | h_44 | h_46 => exact rowOf_readsBack ‹_› (by decide) (by simp [pelmicKey])
  all_goals exact .of_key rfl ‹_› rfl

end Reading

/-- The action of a row is the one that the mod names. -/
theorem rowOf_eq {q m : Nat} {x : BitVec 128} {w : PWord} {rows : List (Nat → PWord → Instr)} {f : Nat → PWord → Instr}
    (hmod : w.mod.toNat = m) (hf : rows[m]? = some f) : rowOf q x w rows = f q w := by
  unfold rowOf
  rw [hmod, hf]

theorem grottoRow_eq {q m : Nat} {x : BitVec 128} {w : PWord} {f : Nat → PWord → Instr} (hmod : w.mod.toNat = m)
    (hf : [Instr.grottoWrite, .grottoRead, .grottoAttach, .grottoDetach, .grottoReturnToService, .grottoOfferExtent,
      .grottoDelete][m]? = some f) : grottoRow q x w = f q w := by
  rw [grottoRow_eq_rowOf, rowOf_eq hmod hf]

/-- A row's fields fit where the mod is that of the action. -/
theorem mod_of_pelmicFits {i : Instr} {q op m : Nat} {w : PWord} (hkey : pelmicKey i = some (q, op, some m, w))
    (hfits : pelmicFits i = true) : w.mod.toNat = m := by
  unfold pelmicFits at hfits
  rw [hkey] at hfits
  simp only [Bool.and_eq_true, beq_iff_eq] at hfits
  exact hfits.1

theorem surveyRow_eq {q : Nat} {x : BitVec 128} {w : PWord} (hfits : pelmicFits (.survey q w) = true) :
    rowOf q x w [.survey, .survey] = .survey q w := by
  have hmod : w.mod.toNat ≤ 1 := of_decide_eq_true hfits
  obtain h | h : w.mod.toNat = 0 ∨ w.mod.toNat = 1 := by omega
  · exact rowOf_eq h rfl
  · exact rowOf_eq h rfl

/-- The word laid out for an instruction whose fields belong to its row is read as that instruction: by its opcode, and by its mod where the
opcode has several actions. -/
theorem pelmicOf_encodePelmic {i : Instr} {q op : Nat} {m : Option Nat} {w : PWord} (hkey : pelmicKey i = some (q, op, m, w))
    (hfits : pelmicFits i = true) : pelmicOf q (encodePelmic (BitVec.ofNat 8 op) w) = i := by
  unfold pelmicOf
  rw [fieldsOf_encodePelmic, opOf_encodePelmic]
  cases i with
  | nop | halt | fence | signal | branch | loop | wait | timer | seti | alu | load | store | copy | fill | zero | prefetch | migrate | spill
  | compress | decompress | check | hash | byteswap | scan | gather | scatter | probe | reduce | add | cas | swap | smin | umin | smax | umax
  | record => cases hkey; rfl
  | survey => cases hkey; exact surveyRow_eq hfits
  | grottoWrite | grottoRead | grottoAttach | grottoDetach | grottoReturnToService | grottoOfferExtent | grottoDelete =>
    cases hkey; exact grottoRow_eq (mod_of_pelmicFits rfl hfits) rfl
  | queueWrite | queueDelete | queueRead | windowWrite | windowInvalidate | windowRead | keyloadLoad | keyloadErase | setclassWrite
  | setclassScrubReserve | setclassRead | ropeForm | ropeRemove | ropePermitSpill | ropeWithdrawSpill | ropeStartRebuild | policyDescriptor
  | policyGrottoEntry | policyLoadProgram | policySetLimits | policyReadLimits | powerDeepPermission | powerEnterDeep | powerCap
  | powerForwardBias | injectFlipMask | injectInvertedCheckBits | injectDisarm | spare =>
    cases hkey; exact rowOf_eq (mod_of_pelmicFits rfl hfits) rfl
  | _ => cases hkey

/-- Settles O5: the word laid out is read by its opcode, and its mod where the opcode has several actions; a word that is read as a row is laid
out again from its opcode and its fields. -/
theorem pelmicWordsRoundTrip : Obligations.PelmicWordsRoundTrip :=
  ⟨fun _ _ _ _ _ hkey hfits => pelmicOf_encodePelmic hkey hfits, fun _ _ => pelmicOf_readsBack⟩

/-- Settles O6: the ten words are closed, and each is decoded. -/
theorem pelmicWordsAreRead : Obligations.PelmicWordsAreRead := by
  unfold Obligations.PelmicWordsAreRead
  decide

end Sys2Proof.Machine
end

section
/-!
PROOFS. A step: the command at the front, one tick of LAMPCLK where none waits (R547, R549), and the machine after reset (R602).
-/
namespace Sys2Proof.Machine

/-- Settles O1: a step unfolds to its command. -/
theorem stepRunsFront : Obligations.StepRunsFront := fun _ _ _ h => step_cons h

/-! ### A tick -/

/-- A device with other counters. -/
def Dev.withCounters (d : Dev) (c : Counters) : Dev := { d with cnt := c }

/-- The counts of time change counters alone. -/
theorem Dev.tickCounts_withCounters (d : Dev) (us : Nat) (c : Counters) : (d.tickCounts us).withCounters c = d.withCounters c := by
  have hfold {β : Type} (f : Dev → β → Dev) (hf : ∀ u x, (f u x).withCounters c = u.withCounters c) (l : List β) (u : Dev) :=
    foldl_view (fun u : Dev => u.withCounters c) f hf l u
  unfold Dev.tickCounts
  dsimp only
  rw [hfold, hfold, hfold, hfold, hfold]
  all_goals intros; split <;> rfl

/-- A tick counts up while the Lamp domain runs, and changes nothing else but counters. -/
theorem Dev.tick_withCounters (d : Dev) (c : Counters) : d.tick.withCounters c = ({ d with power := { d.power with
    ticks := if d.power.lampOn = true ∧ d.power.crystal = true then d.power.ticks + 1 else d.power.ticks } } : Dev).withCounters c := by
  unfold Dev.tick
  by_cases hlamp : d.power.lampOn = true ∧ d.power.crystal = true
  · rw [if_pos hlamp, if_pos (by simp [hlamp])]
    dsimp only
    cases d.power.mode with
    | doze | deep => exact Dev.tickCounts_withCounters _ _ c
    | run | boot => exact Dev.tickCounts_withCounters _ _ c
    | hold | off => rfl
  · rw [if_neg hlamp, if_neg (by simpa using hlamp)]

/-- Settles O2: the tick changes the Lamp count and counters alone. -/
theorem idleStepTicks : Obligations.IdleStepTicks := by
  intro s hidle
  have htick := s.dev.tick_withCounters s.dev.cnt
  refine ⟨{ s with dev := s.dev.tick }, ?_, rfl, hidle, congrArg (·.power.ticks) htick, ?_⟩
  · unfold step
    rw [hidle]
  · exact congrArg (fun d : Dev => { d with power := { d.power with ticks := s.dev.power.ticks } }) htick

/-! ### Reset -/

/-- No leaf has signed and no segment is entered at reset. -/
theorem Trust.leafSafe_reset : State.reset.trust.LeafSafe where
  used := Nat.le_refl 0
  next := Nat.le_refl 0
  fused := Nat.zero_le _
  blocks := rfl
  segments := Nat.zero_le _
  records := fun _ h => absurd h List.not_mem_nil
  restart := fun _ => Nat.zero_le _
  block := fun h => absurd h (Nat.lt_irrefl 0)

/-- Settles O4: every part is read off the state after reset. -/
theorem resetLeavesNothing : Obligations.ResetLeavesNothing :=
  ⟨rfl, rfl, rfl, rfl, rfl, rfl, rfl, rfl, State.reset_mem_wf, rfl, rfl, rfl, rfl, rfl, rfl, rfl, rfl, rfl, rfl, rfl, rfl, rfl, rfl,
    Trust.leafSafe_reset⟩

end Sys2Proof.Machine
end

section
/-!
PROOFS. Signing leaves (R590 to R594) where firmware owes a record that is none of its own.
-/
namespace Sys2Proof.Machine

/-- A device in RUN whose firmware owes a record of type 3, a leaf reservation, with the number 1. -/
def owesReservation : State := {
  pending := [.softRepairComplete 0 true]
  dev := { power := { mode := .run }, fwUp := true, due := [(3, 1)] } }

theorem owesReservation_leafSafe : owesReservation.trust.LeafSafe where
  used := Nat.le_refl 0
  next := Nat.le_refl 0
  fused := Nat.zero_le _
  blocks := rfl
  segments := Nat.zero_le _
  records := fun _ h => absurd h List.not_mem_nil
  restart := fun _ => Nat.zero_le _
  block := fun h => absurd h (Nat.lt_irrefl 0)

/-- An empty store takes a record without compaction. -/
theorem Trust.mem_append_empty (t : Trust) (type inst : Nat) (data : List Byte) (h : t.cairn = []) :
    ∃ r ∈ (t.append type inst data true).cairn, r.type = type ∧ r.inst = inst ∧ r.committed = true := by
  have hadd : (t.add type inst data true none).cairn = [{ type := type, inst := inst, seq := t.cairnSeq, data := data }] := by
    unfold Trust.add Trust.indexed
    dsimp only
    rw [h]
    simp only [List.nil_append, if_true]
    split
    · rfl
    · split
      · rfl
      · split <;> rfl
  have hroom (r : CairnRec) : ¬ storeBlocks < ((recPlaces 0 0 [r]).getLast?.getD (0, 0)).1 + 3 := by
    unfold recPlaces
    split <;> simp [recPlaces, storeBlocks]
  refine ⟨{ type := type, inst := inst, seq := t.cairnSeq, data := data }, ?_, rfl, rfl, rfl⟩
  unfold Trust.append
  dsimp only
  rw [hadd, if_neg (hroom _), hadd]
  exact List.mem_singleton_self _

theorem owesReservation_step : ∃ t, step owesReservation = .next t ∧
    t.trust = ({} : Trust).append 3 1 (Config.channelRecord 0) true := ⟨_, rfl, rfl⟩

/-- Refutes O58: in this state no leaf has signed, and all conditions hold. The end of a soft repair that is none has firmware write what it owes,
which puts a committed record of type 3 and with another number than 0 into the store. (The device enters types 4, 5 and 6 alone in what firmware
owes, `Dev.owes`; the statement is about every state.) -/
theorem not_leavesAreNeverReused : ¬ Obligations.LeavesAreNeverReused := by
  rintro ⟨hkeeps, -⟩
  obtain ⟨t, hstep, htrust⟩ := owesReservation_step
  obtain ⟨r, hmem, htype, hinst, hok⟩ := Trust.mem_append_empty {} 3 1 (Config.channelRecord 0) rfl
  have hsafe := (hkeeps _ t owesReservation_leafSafe hstep).1
  rw [htrust] at hsafe
  have hzero := (hsafe.records r hmem htype hok).1
  omega

end Sys2Proof.Machine
end

section
/-!
PROOFS. What every command does to the queue of commands and to the fuse marks: it answers a next state, neither reads nor changes what waits
behind it (log 1, log 78), and clears neither a revocation nor the mark of entered leaf segments (R575, R592).
-/
namespace Sys2Proof.Machine

/-- A state with other commands waiting. -/
def State.requeue (s : State) (l : List Instr) : State := { s with pending := l }

@[simp] theorem State.requeue_dev (s : State) (l : List Instr) : (s.requeue l).dev = s.dev := rfl
@[simp] theorem State.requeue_trust (s : State) (l : List Instr) : (s.requeue l).trust = s.trust := rfl

/-- The fuse fields that firmware and the ROM raise of themselves: the leaf high-water mark and the revocations (R575, R592). -/
structure Trust.Raises (t u : Trust) : Prop where
  mark : t.leafMark ≤ u.leafMark
  revoke : t.rootRevoke &&& u.rootRevoke = t.rootRevoke

/-- Work on a state that neither reads nor changes the queue, and clears no mark. -/
structure State.Works (f : State → State) (s : State) : Prop where
  queue : ∀ l, f (s.requeue l) = (f s).requeue l
  raises : s.trust.Raises (f s).trust

/-- A command's meaning that answers a next state, whatever waits behind it, and clears no mark. -/
structure State.Answers (e : State → Answer) (s t : State) : Prop where
  next : e s = .next t
  queue : ∀ l, e (s.requeue l) = .next (t.requeue l)
  raises : s.trust.Raises t.trust

section Marks

variable {t u v : Trust}

theorem Trust.Raises.of_eq {t u : Trust} (hmark : u.leafMark = t.leafMark) (hrevoke : u.rootRevoke = t.rootRevoke) : t.Raises u :=
  ⟨Nat.le_of_eq hmark.symm, by rw [hrevoke, BitVec.and_self]⟩

theorem Trust.Raises.refl (t : Trust) : t.Raises t := .of_eq rfl rfl

theorem Trust.Raises.trans (h : t.Raises u) (k : u.Raises v) : t.Raises v :=
  ⟨Nat.le_trans h.mark k.mark, by rw [← h.revoke, BitVec.and_assoc, k.revoke]⟩

theorem Trust.raises_foldl {β : Type} (f : Trust → β → Trust) (hf : ∀ (t : Trust) x, t.Raises (f t x)) (l : List β) (t : Trust) :
    t.Raises (l.foldl f t) :=
  List.foldlRecOn (motive := fun u => t.Raises u) l f (.refl t) fun u hu x _ => hu.trans (hf u x)

variable (t)

theorem Trust.indexed_raises (r : CairnRec) (addr : Nat) : t.Raises (t.indexed r addr) := by
  unfold Trust.indexed
  split
  · exact .refl t
  · split
    · exact .of_eq rfl rfl
    · split <;> exact .of_eq rfl rfl

theorem Trust.add_raises (type inst : Nat) (data : List Byte) (ok : Bool) (soft : Option (List Nat)) :
    t.Raises (t.add type inst data ok soft) := by
  unfold Trust.add
  dsimp only
  split
  · refine .trans ?_ (Trust.indexed_raises _ _ _)
    exact .of_eq rfl rfl
  · exact .of_eq rfl rfl

theorem Trust.compact_raises : t.Raises t.compact := by
  unfold Trust.compact
  dsimp only
  split
  · exact .refl t
  · exact (Trust.raises_foldl _ (fun t r => t.add_raises _ _ _ _ _) _ t).trans (.of_eq rfl rfl)

theorem Trust.append_raises (type inst : Nat) (data : List Byte) (ok : Bool) (soft : Option (List Nat)) :
    t.Raises (t.append type inst data ok soft) := by
  unfold Trust.append
  dsimp only
  split
  · exact (t.add_raises _ _ _ _ _).trans (Trust.compact_raises _)
  · exact t.add_raises _ _ _ _ _

theorem Trust.program_raises (slot off : Nat) (bs : List Byte) : t.Raises (t.program slot off bs) := by
  unfold Trust.program
  dsimp only
  split <;> exact .of_eq rfl rfl

theorem Trust.measureBoot_raises (p : Plat) : t.Raises (t.measureBoot p) := by
  unfold Trust.measureBoot
  split <;> exact .of_eq rfl rfl

theorem Trust.bootOrder_raises : t.Raises t.bootOrder.1 := by
  unfold Trust.bootOrder
  split
  · split <;> exact .of_eq rfl rfl
  · exact .refl t

/-- The release of an image may revoke root key 0, and restores none (R575). -/
theorem Trust.release_raises (slot root : Nat) (second : Bool) : t.Raises (t.release slot root second) := by
  refine ⟨Nat.le_refl _, ?_⟩
  show t.rootRevoke &&& (if _ then t.rootRevoke ||| 1#2 else t.rootRevoke) = t.rootRevoke
  split
  · ext i
    simp +contextual
  · exact BitVec.and_self

end Marks

/-! ### Closure -/

section Closure

variable {s t : State}

theorem State.Works.id (s : State) : State.Works (fun u => u) s := ⟨fun _ => rfl, .refl _⟩

theorem State.Works.foldl {β : Type} {f : State → β → State} (hf : ∀ s x, State.Works (f · x) s) (l : List β) (s : State) :
    State.Works (fun u => l.foldl f u) s := by
  induction l generalizing s with
  | nil => exact .id s
  | cons x l ih =>
    refine ⟨fun q => ?_, (hf s x).raises.trans (ih (f s x)).raises⟩
    show l.foldl f (f (s.requeue q) x) = _
    rw [(hf s x).queue q, (ih (f s x)).queue q]
    rfl

theorem State.Works.comp {f g : State → State} (hf : State.Works f s) (hg : State.Works g (f s)) : State.Works (fun u => g (f u)) s :=
  ⟨fun l => by rw [hf.queue l, hg.queue l], hf.raises.trans hg.raises⟩

theorem State.Works.ite {c : Prop} [Decidable c] {f g : State → State} (hf : State.Works f s) (hg : State.Works g s) :
    State.Works (fun u => if c then f u else g u) s := by
  split
  · exact hf
  · exact hg

/-- Work on the device alone. -/
theorem State.Works.dev (d : Dev) : State.Works (fun u => { u with dev := d }) s := ⟨fun _ => rfl, .refl _⟩

theorem State.Works.onDev (g : Dev → Dev) : State.Works (fun u => { u with dev := g u.dev }) s := ⟨fun _ => rfl, .refl _⟩

/-- Work on the trust block alone. -/
theorem State.Works.trust {k : Trust} (h : s.trust.Raises k) : State.Works (fun u => { u with trust := k }) s := ⟨fun _ => rfl, h⟩

theorem State.Works.both (d : Dev) {k : Trust} (h : s.trust.Raises k) : State.Works (fun u => { u with dev := d, trust := k }) s :=
  ⟨fun _ => rfl, h⟩

/-- Functions that agree on a state, whatever waits behind it, do the same work. -/
theorem State.Works.congr {f g : State → State} (h : State.Works g s) (hs : f s = g s) (hq : ∀ l, f (s.requeue l) = g (s.requeue l)) :
    State.Works f s :=
  ⟨fun l => by rw [hq l, h.queue l, hs], by rw [hs]; exact h.raises⟩

theorem State.Works.answers {f : State → State} (h : State.Works f s) : State.Answers (fun u => .next (f u)) s (f s) :=
  ⟨rfl, fun l => congrArg Host.Outcome.next (h.queue l), h.raises⟩

end Closure

/-! ### What firmware and the ROM do -/

section Firmware

variable (s : State)

theorem State.recordKept_works (type inst : Nat) (data : List Byte) : State.Works (·.recordKept type inst data) s := by
  unfold State.recordKept
  split
  · exact .congr (.dev _) rfl fun _ => rfl
  · exact .congr (.ite (.dev _) (.id s)) rfl fun _ => rfl
  · exact .id s

/-- A reservation enters its segment first, which raises the mark (R592). -/
theorem State.reserve_works (data : List Byte) (ok : Bool) : State.Works (·.reserve data ok) s := by
  refine .congr (.ite (.id s) (.ite (.ite (.id s) (.both _ ?full)) (.both _ ?entered))) rfl fun _ => rfl
  case full => exact .of_eq rfl rfl
  case entered =>
    have hmark : s.trust.Raises { s.trust with leafMark := max s.trust.leafMark (s.trust.leafEnd / 2 ^ 26 + 1) } :=
      ⟨Nat.le_max_left _ _, BitVec.and_self⟩
    refine (hmark.trans (Trust.append_raises _ 3 0 data ok none)).trans ?_
    split <;> exact .of_eq rfl rfl

theorem State.putRecord_works (type inst : Nat) (payload : List Byte) (ok : Bool) : State.Works (·.putRecord type inst payload ok) s := by
  refine .congr (.ite (s.reserve_works _ _) (.ite (.comp (.both _ ?_) (State.recordKept_works _ _ _ _)) (.both _ ?_))) rfl fun _ => rfl
  all_goals exact (s.trust.append_raises type inst payload ok none).trans (.of_eq rfl rfl)

/-- Firmware pays one record that it owes (R31). -/
def State.payOne (s : State) (e : Nat × Nat) : State :=
  let n := s.dev.freeCtr
  let data := if e.1 = 4 then Config.repairRecord n else if e.1 = 6 then pairBytes s.dev.ev.rope else Config.channelRecord n
  let soft := if e.1 = 4 then some (s.dev.chan e.2).usedRepair else none
  { s with
    dev := { s.dev with freeCtr := n + 1 }.emit (.flash true e.1 e.2),
    trust := s.trust.append e.1 e.2 data true soft }

/-- Firmware spills the fault log (R490). -/
def State.spillLog (s : State) : State :=
  let log := s.dev.faults.unspilled
  if log.isEmpty then s
  else { s with
    dev := (s.dev.onFaults fun f => { f with spilled := f.total }).emit (.flash true 8 0),
    trust := s.trust.append 8 0 (log.flatMap FaultRec.bytes) true }

theorem State.payDue_eq : s.payDue =
    if !s.dev.fwUp || !s.dev.live then s else (s.dev.due.foldl State.payOne { s with dev := { s.dev with due := [] } }).spillLog := rfl

theorem State.payOne_works (e : Nat × Nat) : State.Works (·.payOne e) s := ⟨fun _ => rfl, s.trust.append_raises _ _ _ _ _⟩

theorem State.spillLog_works : State.Works State.spillLog s := by
  refine .congr (.ite (.id s) (.both _ ?_)) rfl fun _ => rfl
  exact s.trust.append_raises _ _ _ _ _

theorem State.payDue_works : State.Works State.payDue s :=
  .congr (.ite (.id s) (((State.Works.dev _).comp (State.Works.foldl (fun s e => s.payOne_works e) _ _)).comp (State.spillLog_works _)))
    s.payDue_eq fun l => (s.requeue l).payDue_eq

/-- One record that waited for firmware is written. -/
theorem State.writeOne_works (c : Instr) : State.Works (fun s => match c with
    | .cairnRecordWrite type inst payload ok => s.putRecord type inst payload ok
    | _ => s) s := by
  split
  · exact s.putRecord_works _ _ _ _
  · exact .id s

theorem State.writeWaiting_works : State.Works State.writeWaiting s := by
  refine .congr (.ite ((State.Works.trust ?_).comp (State.Works.foldl (fun s c => s.writeOne_works c) _ _)) (.id s)) rfl fun _ => rfl
  exact .of_eq rfl rfl

/-- The ROM releases firmware from the first slot that verifies (R573). -/
theorem State.trySlots_ok {second : Bool} {slot root : Nat} (rest : List Nat) (h : s.trust.verify s.dev.plat slot = .ok root) :
    s.trySlots second (slot :: rest) = { s with
      dev := { s.dev with fwUp := true, fwDown := false }, trust := { s.trust.release slot root second with wdAt := s.dev.lamp } } := by
  unfold State.trySlots
  rw [h]

/-- A slot that fails is DEGRADED 0x7005, and the next is tried. -/
theorem State.trySlots_error {second : Bool} {slot n : Nat} (rest : List Nat) (h : s.trust.verify s.dev.plat slot = .error n) :
    s.trySlots second (slot :: rest) =
      ({ s with dev := s.dev.raise { code := 0x7005, cls := 2, unit := 0x390, detail := slot + 256 * n } } : State).trySlots true rest := by
  rw [State.trySlots, h]

theorem State.trySlots_works (second : Bool) (slots : List Nat) : State.Works (·.trySlots second slots) s := by
  induction slots generalizing s second with
  | nil => exact ⟨fun _ => rfl, .of_eq rfl rfl⟩
  | cons slot rest ih =>
    cases h : s.trust.verify s.dev.plat slot with
    | ok root =>
      refine .congr (.both _ ?_) (s.trySlots_ok rest h) fun l => (s.requeue l).trySlots_ok rest h
      exact (s.trust.release_raises _ _ second).trans (.of_eq rfl rfl)
    | error n => exact .congr ((State.Works.dev _).comp (ih _ _)) (s.trySlots_error rest h) fun l => (s.requeue l).trySlots_error rest h

/-- The scan of the store sets the index alone (R569). -/
theorem Trust.scan_raises (t : Trust) (recs : List (CairnRec × Nat × Nat)) :
    t.Raises (recs.foldl (fun (t : Trust) e => t.indexed e.1 (t.addressOf e.2)) { t with index := [] }) := by
  refine .trans ?_ (Trust.raises_foldl _ (fun t e => t.indexed_raises _ _) recs _)
  exact .of_eq rfl rfl

theorem State.readStore_works (lost : List Nat) : State.Works (·.readStore lost) s := by
  have hread : s.trust.Raises (if s.dev.power.mode = .boot ∧ s.dev.coldStart then
      let t0 := s.trust.hiding fun r => r.committed && lost.contains r.seq
      ((t0.cairn.zip (recPlaces 0 0 t0.cairn)).filter fun e => t0.record e.1.type e.1.inst == some e.1).foldl (fun (t : Trust) e =>
        t.indexed e.1 (t.addressOf e.2)) { t0 with index := [] }
      else s.trust.hiding fun r => r.committed && lost.contains r.seq) := by
    split
    · refine .trans ?_ (Trust.scan_raises _ _)
      exact .of_eq rfl rfl
    · exact .of_eq rfl rfl
  refine .congr (.ite (.trust hread) (.ite (.both _ ?_) (.both _ ?_))) rfl fun _ => rfl
  all_goals exact hread.trans (.of_eq rfl rfl)

/-- A wrapping-key slot comes back from its blob, or is left empty (R584). -/
def State.unwrapOne (s : State) (x : Nat × Nat) : State :=
  if x.2 < 4096 then s
  else match s.dev.blobGet x.1 with
    | some k => { s with trust := { s.trust with wrap := mset s.trust.wrap (x.2 - 4096) (k.setWidth 256) } }
    | none => { s with dev := s.dev.blobFails x.2 }

theorem State.unwrapOne_works (x : Nat × Nat) : State.Works (·.unwrapOne x) s := by
  have hblob (o : Option (BitVec 512)) : State.Works (fun u => match o with
      | some k => { u with trust := { s.trust with wrap := mset s.trust.wrap (x.2 - 4096) (k.setWidth 256) } }
      | none => { u with dev := s.dev.blobFails x.2 }) s := by
    cases o with
    | some k => exact .trust (.of_eq rfl rfl)
    | none => exact .dev _
  exact .congr (.ite (.id s) (hblob (s.dev.blobGet x.1))) rfl fun _ => rfl

theorem State.unwrapSlots_eq : s.unwrapSlots =
    let u := ((List.range s.dev.wrapped.length).zip s.dev.wrapped).foldl State.unwrapOne s
    { u with dev := { u.dev with wrapped := [] } } := by
  unfold State.unwrapSlots
  rfl

theorem State.unwrapSlots_works : State.Works State.unwrapSlots s :=
  .congr ((State.Works.foldl (fun s x => s.unwrapOne_works x) _ s).comp (.onDev fun d => { d with wrapped := [] })) s.unwrapSlots_eq
    fun l => (s.requeue l).unwrapSlots_eq

/-! ### Serving -/

/-- Service of one command that either is work on the state, or must wait. -/
structure State.Serves (e : State → Option State) (s : State) : Prop where
  queue : ∀ l, e (s.requeue l) = (e s).map (·.requeue l)
  raises : ∀ u, e s = some u → s.trust.Raises u.trust

variable {s} in
theorem State.Works.serves {f : State → State} (h : State.Works f s) : State.Serves (fun u => some (f u)) s :=
  ⟨fun l => congrArg some (h.queue l), by rintro u ⟨⟩; exact h.raises⟩

variable {s} in
theorem State.Serves.ite {c : Prop} [Decidable c] {e f : State → Option State} (he : State.Serves e s) (hf : State.Serves f s) :
    State.Serves (fun u => if c then e u else f u) s := by
  split
  · exact he
  · exact hf

variable {s} in
theorem State.Serves.congr {e f : State → Option State} (h : State.Serves f s) (hs : e s = f s) (hq : ∀ l, e (s.requeue l) = f (s.requeue l)) :
    State.Serves e s :=
  ⟨fun l => by rw [hq l, h.queue l, hs], by rw [hs]; exact h.raises⟩

theorem State.spdmAnswer_works (ch : Nat) (ok : Bool) (payload : List Nat) (bytes : List Byte) :
    State.Works (·.spdmAnswer ch ok payload bytes) s := ⟨fun _ => rfl, .refl _⟩

/-- A signature takes a leaf, which raises no mark (R590). -/
theorem Trust.takeLeaf_raises {t u : Trust} {q : Nat} (h : t.takeLeaf = some (q, u)) : t.Raises u := by
  unfold Trust.takeLeaf at h
  split at h
  · cases h
    exact .of_eq rfl rfl
  · cases h

/-- An answer signed at the leaf taken, one that must wait for a reservation, or an error once the engine is exhausted (R591, R592). -/
def State.atLeaf (s : State) (ch : Nat) (f : Nat → State → State) (exhausted : Bool) : Option (Nat × Trust) → Option State
  | some (q, t) => some (f q { s with trust := t })
  | none => if exhausted then some (s.spdmAnswer ch false) else none

theorem State.signed_eq (ch : Nat) (ok : Bool) (f : Nat → State → State) : s.signed ch ok f =
    if s.trust.stage ch ≠ 3 ∨ !ok then some (s.spdmAnswer ch false) else s.atLeaf ch f s.trust.exhausted s.trust.takeLeaf := by
  unfold State.signed
  cases s.trust.takeLeaf <;> rfl

theorem State.signed_serves (ch : Nat) (ok : Bool) {f : Nat → State → State} (hf : ∀ q v, State.Works (f q) v) :
    State.Serves (·.signed ch ok f) s := by
  have hleaf : State.Serves (·.atLeaf ch f s.trust.exhausted s.trust.takeLeaf) s := by
    cases htake : s.trust.takeLeaf with
    | some p =>
      obtain ⟨q, t⟩ := p
      exact ((State.Works.trust (Trust.takeLeaf_raises htake)).comp (hf q _)).serves
    | none => exact .ite (s.spdmAnswer_works _ _ _ _).serves ⟨fun _ => rfl, fun _ h => by cases h⟩
  exact .congr (.ite (s.spdmAnswer_works _ _ _ _).serves hleaf) (s.signed_eq ch ok f) fun l => (s.requeue l).signed_eq ch ok f

theorem State.inSession_works (ch id : Nat) {f : Spdm → State → State} (hf : ∀ x, State.Works (f x) s) :
    State.Works (·.inSession ch id f) s := by
  have hfound (o : Option Spdm) : State.Works (fun u => match o with
      | some x => if x.up then f x u else u.spdmAnswer ch false
      | none => u.spdmAnswer ch false) s := by
    cases o with
    | some x => exact .ite (hf x) (s.spdmAnswer_works _ _ _ _)
    | none => exact s.spdmAnswer_works _ _ _ _
  exact .congr (hfound (s.trust.session ch id)) rfl fun _ => rfl

theorem State.ideKm_works (ch link stream : Nat) (f : IdeStream → Option IdeStream) (g : Link → Link) :
    State.Works (·.ideKm ch link stream f g) s := by
  have hkm (o : Option IdeStream) : State.Works (fun u => match o with
      | some y => ({ u with dev := s.dev.setLink link (g ((s.dev.link link).setIde stream y)) } : State).spdmAnswer ch true
      | none => u.spdmAnswer ch false) s := by
    cases o with
    | some y => exact (State.Works.dev _).comp (State.spdmAnswer_works _ _ _ _ _)
    | none => exact s.spdmAnswer_works _ _ _ _
  exact .congr (hkm _) rfl fun _ => rfl

theorem State.finishSession_works (ch id : Nat) (root : Option (BitVec 256)) : State.Works (·.finishSession ch id root) s := by
  have hfound (o : Option Spdm) : State.Works (fun u => match o with
      | some x =>
        if x.up then u.spdmAnswer ch false
        else (u.onTrust fun t => { t with
          sessions := t.sessions.map fun y => if y = x then { y with up := true, auth := root.isSome && root == s.trust.fmRoot } else y
          }).spdmAnswer ch true [id]
      | none => u.spdmAnswer ch false) s := by
    cases o with
    | some x =>
      refine .ite (s.spdmAnswer_works _ _ _ _) ?_
      exact ⟨fun _ => rfl, .of_eq rfl rfl⟩
    | none => exact s.spdmAnswer_works _ _ _ _
  exact .congr (hfound (s.trust.session ch id)) rfl fun _ => rfl

theorem State.negotiate_works (ch stage : Nat) (ok : Bool) (payload : List Nat) : State.Works (·.negotiate ch stage ok payload) s := by
  refine .congr (.ite ((State.Works.trust ?_).comp (State.spdmAnswer_works _ _ _ _ _)) (s.spdmAnswer_works _ _ _ _)) rfl fun _ => rfl
  exact .of_eq rfl rfl

theorem State.afterAlgorithms_works (ch : Nat) (ok : Bool) (payload : List Nat) (bytes : List Byte) :
    State.Works (·.afterAlgorithms ch ok payload bytes) s :=
  .congr (.ite (s.spdmAnswer_works _ _ _ _) (s.spdmAnswer_works _ _ _ _)) rfl fun _ => rfl

theorem State.wrapKey_works (ch slot : Nat) (erase : Bool) (key : BitVec 256) (x : Spdm) :
    State.Works (·.wrapKey ch slot erase key x) s := by
  refine .congr (.ite ((State.Works.trust ?_).comp (State.spdmAnswer_works _ _ _ _ _)) (s.spdmAnswer_works _ _ _ _)) rfl fun _ => rfl
  exact .of_eq rfl rfl

theorem State.transfer_works (off : Nat) (bs : List Byte) : State.Works (·.transfer off bs) s := by
  refine .congr (.ite (.dev _) (.both _ ?_)) rfl fun _ => rfl
  exact s.trust.program_raises _ _ _

theorem State.fwReset_works : State.Works State.fwReset s := ⟨fun _ => rfl, .of_eq rfl rfl⟩

theorem State.activate_works (mode : Nat) : State.Works (·.activate mode) s := by
  refine .congr (.ite (.dev _) (.ite ((State.Works.both _ ?_).comp (State.fwReset_works _)) (.both _ ?_))) rfl fun _ => rfl
  all_goals exact s.trust.append_raises _ _ _ _ _

theorem State.signedAnswer_works (ch q : Nat) (payload : List Nat) : State.Works (·.signedAnswer ch q payload) s :=
  .congr (s.spdmAnswer_works _ _ _ _) rfl fun _ => rfl

theorem State.openSession_works (ch id q : Nat) : State.Works (·.openSession ch id q) s := by
  refine .congr ((State.Works.trust ?_).comp (State.signedAnswer_works _ _ _ _)) rfl fun _ => rfl
  exact .of_eq rfl rfl

theorem State.keyExchange_serves (ch slot : Nat) : State.Serves (·.serve (.keyExchange ch slot)) s := by
  have hfree (o : Option Nat) : State.Serves (fun u => match o with
      | some id => u.signed ch (slot == 0) fun q s => s.openSession ch id q
      | none => some (u.spdmAnswer ch false)) s := by
    cases o with
    | some id => exact s.signed_serves _ _ fun q v => v.openSession_works _ _ _
    | none => exact (s.spdmAnswer_works _ _ _ _).serves
  exact .congr (hfree s.trust.freeSession) rfl fun _ => rfl

/-- Whatever firmware serves leaves the queue of commands alone and clears no mark. -/
theorem State.serve_serves (c : Instr) : State.Serves (·.serve c) s := by
  cases c with
  | keyExchange => exact s.keyExchange_serves _ _
  | getVersion | getCapabilities | negotiateAlgorithms => exact (s.negotiate_works _ _ _ _).serves
  | getDigests | getCertificate => exact .congr (s.afterAlgorithms_works _ _ _ _).serves rfl fun _ => rfl
  | challenge => exact s.signed_serves _ _ fun _ v => v.signedAnswer_works _ _ _
  | getMeasurements ch index sig =>
    refine .ite (s.signed_serves _ _ fun _ v => ?_) (.congr (s.afterAlgorithms_works _ _ _ _).serves rfl fun _ => rfl)
    exact .congr (v.signedAnswer_works _ _ _) rfl fun _ => rfl
  | finish => exact (s.finishSession_works _ _ _).serves
  | heartbeat | keyUpdate => exact (s.inSession_works _ _ fun _ => s.spdmAnswer_works _ _ _ _).serves
  | endSession => exact (s.inSession_works _ _ fun _ => ⟨fun _ => rfl, .of_eq rfl rfl⟩).serves
  | setWrappingKey => exact (s.inSession_works _ _ fun x => s.wrapKey_works _ _ _ _ x).serves
  | keyProg | kSetGo | kSetStop => exact (s.inSession_works _ _ fun _ => s.ideKm_works _ _ _ _ _).serves
  | transferFirmware => exact (s.transfer_works _ _).serves
  | activateFirmware => exact (s.activate_works _).serves
  | setPoolId => exact State.Works.serves ⟨fun _ => rfl, s.trust.append_raises _ _ _ _ _⟩
  | _ => exact (State.Works.id s).serves

theorem State.serveAll_works (cs : List Instr) : State.Works (·.serveAll cs) s := by
  induction cs generalizing s with
  | nil => exact ⟨fun _ => rfl, .of_eq rfl rfl⟩
  | cons c rest ih =>
    have hwait : State.Works (·.onTrust fun k => { k with waiting := c :: rest }) s := ⟨fun _ => rfl, .of_eq rfl rfl⟩
    have hserve : State.Works (fun u => match u.serve c with
        | some v => v.serveAll rest
        | none => u.onTrust fun k => { k with waiting := c :: rest }) s := by
      have hc := s.serve_serves c
      constructor
      · intro l
        rw [hc.queue l]
        cases s.serve c with
        | some v => exact (ih v).queue l
        | none => rfl
      · cases h : s.serve c with
        | some v => exact (hc.raises v h).trans (ih v).raises
        | none => exact .of_eq rfl rfl
    exact .congr (.ite hserve hwait) rfl fun _ => rfl

theorem State.serveWaiting_works : State.Works State.serveWaiting s := .congr (s.serveAll_works _) rfl fun _ => rfl

theorem State.ask_works (c : Instr) : State.Works (·.ask c) s := by
  refine .congr ((State.Works.trust ?_).comp (State.serveWaiting_works _)) rfl fun _ => rfl
  exact .of_eq rfl rfl

theorem State.poolId_works (id : BitVec 12) (ack credit : Nat) : State.Works (·.poolId id ack credit) s :=
  .congr (.ite ((State.Works.dev _).comp (State.ask_works _ _)) (.dev _)) rfl fun _ => rfl

/-- Reading a register of the device block acts on the device alone, and its answer is read off the device and the trust block. -/
theorem State.readBlock_requeue (off : Nat) (clear : Bool) (l : List Instr) :
    (s.requeue l).readBlock off clear = ((s.readBlock off clear).1, (s.readBlock off clear).2.requeue l) := by
  unfold State.readBlock
  dsimp only [State.requeue_dev, State.requeue_trust]
  repeat' split
  all_goals rfl

theorem State.readAnswer_works (off : Nat) :
    State.Works (fun u => (u.readBlock off true).2.fmAnswer .success [(u.readBlock off true).1.toNat]) s :=
  ⟨fun l => by rw [State.readBlock_requeue]; rfl, by rw [State.fmAnswer_trust, State.readBlock_trust]; exact .refl _⟩

/-- The answer to a register read over I3C, by the errors of its array word: none, one that is corrected, or one that lasts (R472). -/
def State.answerWord (s : State) (off : Nat) (d : Dev) : Option Nat → State
  | some (_ + 2) => ({ s with dev := d.arrayFault unitRegs none } : State).fmAnswer .internalError
  | some 1 =>
    let u : State := { s with dev := d.raise { code := 0x2001, cls := 1, unit := unitRegs, att := 1 } }
    (u.readBlock off true).2.fmAnswer .success [(u.readBlock off true).1.toNat]
  | _ =>
    let u : State := { s with dev := d }
    (u.readBlock off true).2.fmAnswer .success [(u.readBlock off true).1.toNat]

theorem State.readReg_eq (off : Nat) : s.readReg off =
    if !regOffset off then s.fmAnswer .invalidInput
    else
      let d := s.dev.arrayRead unitRegs 0x2001
      s.answerWord off (d.onFaults fun f => { f with arrays := f.arrays.filter fun e => e.1 != off || decide (2 ≤ e.2) })
        ((d.faults.arrays.find? fun e => e.1 == off).map (·.2)) := by
  unfold State.readReg
  split
  · rfl
  · dsimp only
    generalize Option.map _ _ = o
    match o with
    | some (_ + 2) | some 1 | some 0 | none => rfl

theorem State.answerWord_works (off : Nat) (d : Dev) (o : Option Nat) : State.Works (·.answerWord off d o) s := by
  match o with
  | some (_ + 2) => exact ⟨fun _ => rfl, .refl _⟩
  | some 1 => exact .congr ((State.Works.dev _).comp (State.readAnswer_works _ off)) rfl fun _ => rfl
  | some 0 | none => exact .congr ((State.Works.dev _).comp (State.readAnswer_works _ off)) rfl fun _ => rfl

theorem State.readReg_works (off : Nat) : State.Works (·.readReg off) s :=
  .congr (.ite (.dev _) (State.answerWord_works _ off _ _)) (s.readReg_eq off) fun l => (s.requeue l).readReg_eq off

theorem State.recorded_works (q : Nat) (pos : BitVec 32) (before : Dev) : State.Works (·.recorded q pos before) s := by
  have hinstr (o : Option Issued) : State.Works (fun u => match o with
    | some i =>
      let still := ((s.dev.queue? q).bind fun x => x.issued.find? fun j => j.pos == pos).any fun j => !j.done
      if i.opcode = 0xCB ∧ !i.done ∧ !still ∧ i.res.status = 0 ∧ i.state = .applied ∧ before.fwUp then
        let p := bitsOf i.word.imm.toNat 1 0
        let d : Dev := { s.dev with ports := mset s.dev.ports p { s.dev.port p with recorded := i.word.imm.getLsbD 2 } }
        let byte : Nat := ((List.range 4).map fun n => flag (d.port n).recorded n).sum
        { u with dev := d, trust := s.trust.append 1 0 [BitVec.ofNat 8 byte] true }
      else u
    | none => u) s := by
    cases o with
    | some i => exact .ite (.both _ (s.trust.append_raises _ _ _ _ _)) (.id s)
    | none => exact .id s
  exact .congr (hinstr _) rfl fun _ => rfl

end Firmware

/-! ### Commands -/

section Commands

variable (s : State)

/-- A command that answers a next state, with work that neither reads nor changes the queue and clears no mark. -/
def State.Orderly (e : State → Answer) (s : State) : Prop := ∃ t, State.Answers e s t

variable {s} in
theorem State.Works.orderly {f : State → State} (h : State.Works f s) : State.Orderly (fun u => .next (f u)) s := ⟨_, h.answers⟩

variable {s} in
theorem State.Orderly.ite {c : Prop} [Decidable c] {e f : State → Answer} (he : State.Orderly e s) (hf : State.Orderly f s) :
    State.Orderly (fun u => if c then e u else f u) s := by
  split
  · exact he
  · exact hf

variable {s} in
theorem State.Orderly.congr {e f : State → Answer} (h : State.Orderly f s) (hs : e s = f s) (hq : ∀ l, e (s.requeue l) = f (s.requeue l)) :
    State.Orderly e s := by
  obtain ⟨t, hnext, hqueue, hraises⟩ := h
  exact ⟨t, hs.trans hnext, fun l => (hq l).trans (hqueue l), hraises⟩

/-- A command of the device alone. -/
theorem State.orderly_dev {e : State → Answer} {d : Dev} (hs : e s = .next { s with dev := d })
    (hq : ∀ l, e (s.requeue l) = .next { s.requeue l with dev := d }) : State.Orderly e s :=
  .congr (State.Works.dev d).orderly hs hq

theorem State.fm_orderly {f : State → State} (hf : ∀ u, State.Works f u) : State.Orderly (·.fm f) s :=
  .congr (.ite ((State.Works.dev (s.dev.wake 5 0)).comp (hf _)).orderly (State.Works.id s).orderly) rfl fun _ => rfl

theorem State.fmDev_orderly (f : Dev → CmdCode × List Nat × Dev) : State.Orderly (·.fmDev f) s :=
  s.fm_orderly fun _ => ⟨fun _ => rfl, .refl _⟩

theorem State.spdm_orderly (ch : Nat) (c : Instr) : State.Orderly (·.spdm ch c) s :=
  .congr (.ite ((State.Works.dev _).comp (State.ask_works _ c)).orderly (State.Works.id s).orderly) rfl fun _ => rfl

theorem execIllegalInstruction_orderly (q : Nat) (word : BitVec 128) : State.Orderly (execIllegalInstruction q word) s := by
  unfold execIllegalInstruction
  split
  · exact s.orderly_dev rfl fun _ => rfl
  · exact (State.Works.id s).orderly

theorem execInstructionComplete_orderly (q : Nat) (pos : BitVec 32) (hw : HwObs) : State.Orderly (execInstructionComplete q pos hw) s :=
  .congr (.ite (State.Works.id s).orderly
    (((State.Works.dev _).comp (State.recorded_works _ q pos s.dev)).comp (.onDev Dev.after)).orderly) rfl fun _ => rfl

/-- The root is no mark: it is written once (R561). -/
theorem execProvisionFmRoot_orderly (hash : BitVec 256) : State.Orderly (execProvisionFmRoot hash) s := by
  refine s.fm_orderly fun u => .congr (.ite (.dev _) (.both _ ?_)) rfl fun _ => rfl
  exact .of_eq rfl rfl

/-- What a link brought in DEEP acts on the device alone. -/
theorem lateIo_orderly (c : Instr) : State.Orderly (lateIo c) s := by
  unfold lateIo
  split
  case h_25 => split <;> exact s.orderly_dev rfl fun _ => rfl
  all_goals exact s.orderly_dev rfl fun _ => rfl

theorem serveLate_works (c : Instr) : State.Works (serveLate · c) s := by
  obtain ⟨t, hnext, hqueue, hraises⟩ := lateIo_orderly s c
  have hlate : State.Works (fun u => match lateIo c u with
      | .next t => t
      | _ => u) s := ⟨fun l => by rw [hqueue l, hnext], by rw [hnext]; exact hraises⟩
  exact .congr (.ite (.dev _) hlate) rfl fun _ => rfl

theorem execDeepExitComplete_orderly (failed : List Bank) (fixed : List (Bank × Nat)) :
    State.Orderly (execDeepExitComplete failed · fixed) s :=
  .congr (.ite (State.Works.dev _).orderly
    ((State.Works.dev _).comp (State.Works.foldl (fun s c => serveLate_works s c) _ _)).orderly) rfl fun _ => rfl

/-! BOOT, OFF and HOLD: sessions end, leaves start again, and no mark is cleared. -/

theorem State.coreDown_works (d : Dev) : State.Works (·.coreDown d) s := ⟨fun _ => rfl, .of_eq rfl rfl⟩

theorem State.bareStart_works (f : BitVec 512 → BitVec 256 → Dev) : State.Works (·.bareStart f) s := ⟨fun _ => rfl, .of_eq rfl rfl⟩

theorem State.slotsOff_works : State.Works State.slotsOff s := ⟨fun _ => rfl, .of_eq rfl rfl⟩

theorem execHoldSequenceComplete_orderly : State.Orderly execHoldSequenceComplete s :=
  .congr (.ite ((s.coreDown_works _).comp (State.slotsOff_works _)).orderly (State.Works.id s).orderly) rfl fun _ => rfl

theorem execHoldBackstop_orderly : State.Orderly execHoldBackstop s :=
  .congr (.ite (s.coreDown_works _).orderly (State.Works.id s).orderly) rfl fun _ => rfl

theorem execMainRailLoss_orderly : State.Orderly execMainRailLoss s :=
  .congr (.ite (State.Works.dev _).orderly (s.coreDown_works _).orderly) rfl fun _ => rfl

theorem execHoldExit_orderly (lampTemp : Int) (refclk : Nat) : State.Orderly (execHoldExit lampTemp · refclk) s := by
  refine .congr (.ite (State.Works.id s).orderly (.ite (State.Works.both _ ?_).orderly (s.bareStart_works _).orderly)) rfl fun _ => rfl
  exact .of_eq rfl rfl

theorem execBootComplete_orderly (failed : List Bank) (fixed : List (Bank × Nat)) : State.Orderly (execBootComplete failed · fixed) s :=
  .congr ((State.Works.dev _).comp (.ite (State.unwrapSlots_works _) (.id _))).orderly rfl fun _ => rfl

theorem execBootFromOff_orderly (refclk : Nat) : State.Orderly (execBootFromOff refclk) s :=
  .congr (.ite (s.bareStart_works _).orderly (State.Works.id s).orderly) rfl fun _ => rfl

theorem execCairnRecordWrite_orderly (type inst : Nat) (payload : List Byte) (ok : Bool) :
    State.Orderly (execCairnRecordWrite type inst payload ok) s := by
  refine .congr (.ite (State.Works.id s).orderly (.ite
    (((s.putRecord_works _ _ _ _).comp (State.payDue_works _)).comp (State.serveWaiting_works _)).orderly
    (State.Works.trust ?_).orderly)) rfl fun _ => rfl
  exact .of_eq rfl rfl

theorem execWatchdogRestart_orderly : State.Orderly execWatchdogRestart s := by
  refine .congr (State.Works.ite (.trust ?_) (.id s)).orderly rfl fun _ => rfl
  exact .of_eq rfl rfl

theorem execWatchdogExpiry_orderly : State.Orderly execWatchdogExpiry s :=
  .congr (State.Works.ite (s.fwReset_works.comp (.dev _)) (.id s)).orderly rfl fun _ => rfl

theorem execCairnBlockErase_orderly : State.Orderly execCairnBlockErase s :=
  .congr (State.Works.ite (.trust s.trust.compact_raises) (.id s)).orderly rfl fun _ => rfl

theorem execSvnRaise_orderly : State.Orderly execSvnRaise s := by
  refine .congr (State.Works.ite (.trust ?_) (.id s)).orderly rfl fun _ => rfl
  exact .of_eq rfl rfl

/-- The device is OFF, and the Lamp domain's part of the trust block is lost (R523). -/
theorem State.vddLampLoss_works : State.Works (fun u => { u.coreDown u.dev.lampLost with
    trust := { (u.coreDown u.dev).trust with trial := false, wrap := [], index := [] } }) s := ⟨fun _ => rfl, .of_eq rfl rfl⟩

theorem execFirmwareRelease_orderly (spd : List (Nat × Option Dimm × Option Dimm)) (lost : List Nat) :
    State.Orderly (execFirmwareRelease · spd lost) s := by
  have hspd (u : State) : State.Works (fun u => if u.dev.fwUp then { u with dev := spd.foldl (fun (d : Dev) e => d.spdRead e.1 e.2.1 e.2.2) u.dev }
      else u) u := .congr (.ite (.dev _) (.id u)) rfl fun _ => rfl
  have hrom (u : State) : State.Works (fun u =>
      ({ u with trust := u.trust.bootOrder.1.measureBoot s.dev.plat } : State).trySlots false u.trust.bootOrder.2) u := by
    refine .congr ((State.Works.trust ?_).comp (State.trySlots_works _ false u.trust.bootOrder.2)) rfl fun _ => rfl
    exact u.trust.bootOrder_raises.trans (Trust.measureBoot_raises _ _)
  exact .congr (.ite (State.Works.id s).orderly ((((((s.readStore_works lost).comp (hrom _)).comp (hspd _)).comp
    (State.writeWaiting_works _)).comp (State.payDue_works _)).comp (State.serveWaiting_works _)).orderly) rfl fun _ => rfl

/-- Every command answers a next state, neither reads nor changes the commands behind it, and clears no mark. -/
theorem exec_orderly (c : Instr) : State.Orderly (fun u => exec c u) s := by
  unfold exec
  cases c with
  | getLdInfo | getLdAllocations | setLdAllocations | setLdOptions | submitInstructions | getQueueStatus | getCompletionRecords
  | setQueueRun | writeDeviceRegister => exact s.fmDev_orderly _
  | setPoolId => exact s.fm_orderly fun u => u.poolId_works _ _ _
  | transferFirmware | activateFirmware => exact s.fm_orderly fun u => u.ask_works _
  | readDeviceRegister => exact s.fm_orderly fun u => u.readReg_works _
  | provisionFmRoot => exact execProvisionFmRoot_orderly s _
  | getVersion | getCapabilities | negotiateAlgorithms | getDigests | getCertificate | challenge | getMeasurements | keyExchange | finish
  | heartbeat | keyUpdate | endSession | setWrappingKey | keyProg | kSetGo | kSetStop => exact s.spdm_orderly _ _
  | illegalInstruction => exact execIllegalInstruction_orderly s _ _
  | instructionComplete => exact execInstructionComplete_orderly s _ _ _
  | rankRetrainComplete | trainingComplete | ropeControl | softRepairComplete =>
    exact .congr ((State.Works.dev _).comp (State.payDue_works _)).orderly rfl fun _ => rfl
  | deepExitComplete => exact execDeepExitComplete_orderly s _ _
  | holdSequenceComplete => exact execHoldSequenceComplete_orderly s
  | holdBackstop => exact execHoldBackstop_orderly s
  | bootFromOff => exact execBootFromOff_orderly s _
  | mainRailLoss => exact execMainRailLoss_orderly s
  | holdExit => exact execHoldExit_orderly s _ _
  | bootComplete => exact execBootComplete_orderly s _ _
  | vddLampLoss => exact .congr (State.vddLampLoss_works s).orderly rfl fun _ => rfl
  | cairnRecordWrite => exact execCairnRecordWrite_orderly s _ _ _ _
  | watchdogExpiry => exact execWatchdogExpiry_orderly s
  | watchdogRestart => exact execWatchdogRestart_orderly s
  | cairnBlockErase => exact execCairnBlockErase_orderly s
  | svnRaise => exact execSvnRaise_orderly s
  | firmwareRelease => exact execFirmwareRelease_orderly s _ _
  | _ => exact s.orderly_dev rfl fun _ => rfl

end Commands

/-- Settles O3: every command is work on a state that answers, on the queue's rest as on any other. -/
theorem commandsAnswerAndLeaveTheQueue : Obligations.CommandsAnswerAndLeaveTheQueue := by
  refine ⟨fun c s => ?answers, fun c s t l hnext => ?leaves⟩
  case answers =>
    obtain ⟨t, ht⟩ := exec_orderly s c
    exact ⟨t, ht.next⟩
  case leaves =>
    obtain ⟨u, hu⟩ := exec_orderly s c
    have hsame : u = t := by simpa [hu.next] using hnext
    subst hsame
    have hself : u = u.requeue s.pending := by
      have hq : exec c s = .next (u.requeue s.pending) := hu.queue s.pending
      simpa [hnext] using hq
    exact ⟨(congrArg State.pending hself :), hu.queue l⟩

/-- A step clears no mark. -/
theorem step_raises {s t : State} (h : step s = .next t) : s.trust.Raises t.trust := by
  cases hq : s.pending with
  | nil =>
    unfold step at h
    rw [hq] at h
    cases h
    exact .refl _
  | cons c rest =>
    rw [step_cons hq] at h
    obtain ⟨u, hu⟩ := exec_orderly { s with pending := rest } c
    have hsame : u = t := by simpa [hu.next] using h
    subst hsame
    exact hu.raises

/-- Settles O57: the marks by the step's work on the trust block, the SVN count and the root by what a step can do to them. -/
theorem fusesOnlyGrow : Obligations.FusesOnlyGrow := by
  intro s t hstep
  have hmarks := step_raises hstep
  have hasked : s.trust.svn ≤ t.trust.svn ∧ ∀ h, s.trust.fmRoot = some h → t.trust.fmRoot = some h := by
    rcases step_askedFuses hstep with hsame | ⟨-, hmay, hraised⟩ | ⟨hnone, hash, rest, -, hwritten⟩
    · exact ⟨Nat.le_of_eq (congrArg Prod.fst hsame).symm, fun h hroot => (congrArg Prod.snd hsame).trans hroot⟩
    · obtain ⟨-, -, -, -, hlow⟩ := hmay
      exact ⟨Nat.le_trans (Nat.le_of_lt hlow) (Nat.le_of_eq (congrArg Prod.fst hraised).symm), fun h hroot => (congrArg Prod.snd hraised).trans hroot⟩
    · exact ⟨Nat.le_of_eq (congrArg Prod.fst hwritten).symm, fun h hroot => by rw [hnone] at hroot; cases hroot⟩
  exact ⟨hasked.1, hmarks.mark, hmarks.revoke, hasked.2⟩
end Sys2Proof.Machine
end

section
/-!
PROOFS. A command that works on the device alone.
-/
namespace Sys2Proof.Machine

/-- Where a command's device is known, so is its next state. -/
theorem exec_dev {s : State} {c : Instr} {d e : Dev} (hexec : exec c s = .next { s with dev := d }) (h : d = e) :
    exec c s = .next { s with dev := e } := by rw [hexec, h]

end Sys2Proof.Machine
end

section
/-!
PROOFS. Control instructions (R316 to R327): each body answers with its result, and the issue of an instruction whose body answers is said once
(`State.issue_applies`).
-/
namespace Sys2Proof.Machine

section Issue

variable {s : State} {q : Nat} {w : PWord} {pel : Pel} {x : Queue} {d e : Dev}

/-- But for BRANCH and LOOP, issue goes on at the next position. -/
theorem nextPos_of_straight {op : Nat} (hb : op ≠ 0x04) (hl : op ≠ 0x05) (w : PWord) (v : Vals) (status : Nat) (p : BitVec 32) :
    nextPos op w v status p = p + 1 := by
  unfold nextPos
  rw [if_neg hb, if_neg hl]
  split <;> rfl

/-- The issue of an instruction other than BRANCH and LOOP whose body answers. -/
theorem State.issue_goes_on {r : Result} (h : Shows s q w pel x d) (hb : pel.op ≠ 0x04) (hl : pel.op ≠ 0x05)
    (hrun : (pel.body (s.ctx q x w) x w (x.vals w)).run (d.entered q x w pel.op) = .ok (r, e)) :
    s.issue q w pel = .next (s.applied e q x w pel.op r (x.head + 1)) := by
  rw [s.issue_applies q w pel x d e r h hrun, nextPos_of_straight hb hl]

/-- An instruction that passes what it checks first runs on; one that does not faults. -/
theorem Eng.run_check_bind {α : Type} {ok : Bool} {status : Nat} {r : Result} {f : Unit → Eng α} (h : ok = true) :
    (Eng.check ok status r >>= f).run d = (f ()).run d :=
  Eng.run_bind _ _ _ _ _ (Eng.run_check _ _ _ _ h)

theorem Eng.run_check_bind_error {α : Type} {ok : Bool} {status : Nat} {r : Result} {f : Unit → Eng α} (h : ok = false) :
    (Eng.check ok status r >>= f).run d = .error (.fault status r d) :=
  Eng.run_bind_error _ _ _ _ (Eng.run_check_error _ _ _ _ h)

/-- The ranges of an instruction that runs for the first time pass decode steps 4 to 8. -/
theorem Eng.run_ranges_bind {α : Type} {rs : List Rng} {high inPlace : Bool} {as : List Area} {f : List Area → Eng α}
    (h : d.ranges q x rs high inPlace = .ok as) : (Eng.ranges (s.ctx q x w) x rs high inPlace >>= f).run d = (f as).run d :=
  Eng.run_bind _ _ _ _ _ (Eng.run_ranges _ _ _ _ _ _ _ h)

end Issue

/-- Device time is of the Lamp domain: entering an instruction in its queue leaves it. -/
theorem Dev.entered_power (d : Dev) (q : Nat) (x : Queue) (w : PWord) (op : Nat) : (d.entered q x w op).power = d.power := by
  unfold Dev.entered Dev.takeUnit
  dsimp only
  split
  · rfl
  · split <;> rfl

theorem Dev.entered_timeNs (d : Dev) (q : Nat) (x : Queue) (w : PWord) (op : Nat) : (d.entered q x w op).timeNs = d.timeNs := by
  unfold Dev.timeNs
  rw [Dev.entered_power]

theorem registerInstructionsIssue : Claims.RegisterInstructionsIssue := by
  intro s q w x d
  refine ⟨fun h => ?_, fun h => ?_, fun h => ?_, fun h => ?_, fun h => ?_, fun h => ?timer⟩
  case timer =>
    refine State.issue_goes_on h (by decide) (by decide) ?_
    show (timerPel.body _ x w (x.vals w)).run (d.entered q x w 0x07) = _
    have hrun : (timerPel.body (s.ctx q x w) x w (x.vals w)).run (d.entered q x w 0x07) = .ok
        ({ regs := [(rn w.ra, BitVec.ofNat 64 (d.entered q x w 0x07).timeNs + (x.vals w).b.1 + w.imm, false)] }, d.entered q x w 0x07) := rfl
    rw [hrun, Dev.entered_timeNs]
    rfl
  all_goals exact State.issue_goes_on h (by decide) (by decide) rfl

/-- Decode step 1 has passed where an instruction shows. -/
theorem form_of_shows {s : State} {q : Nat} {w : PWord} {pel : Pel} {x : Queue} {d : Dev} (h : Shows s q w pel x d) : pel.form w = true := by
  have hearly := h.early
  unfold Sys2Proof.Machine.early at hearly
  refine Classical.byContradiction fun hform => ?_
  rw [if_pos (by simpa using hform)] at hearly
  cases hearly

/-- The comparisons of BRANCH (R320). -/
theorem branchTaken_iff (w : PWord) (v : Vals) (hmod : w.mod.toNat ≤ 6) : branchTaken w v = true ↔
    (w.mod.toNat = 0 ∧ v.b.1 = v.c.1) ∨ (w.mod.toNat = 1 ∧ v.b.1 ≠ v.c.1) ∨ (w.mod.toNat = 2 ∧ v.b.1.toNat < v.c.1.toNat) ∨
    (w.mod.toNat = 3 ∧ v.c.1.toNat ≤ v.b.1.toNat) ∨ (w.mod.toNat = 4 ∧ v.b.1.toInt < v.c.1.toInt) ∨
    (w.mod.toNat = 5 ∧ v.c.1.toInt ≤ v.b.1.toInt) ∨ w.mod.toNat = 6 := by
  unfold branchTaken
  obtain h | h | h | h | h | h | h : w.mod.toNat = 0 ∨ w.mod.toNat = 1 ∨ w.mod.toNat = 2 ∨ w.mod.toNat = 3 ∨ w.mod.toNat = 4 ∨ w.mod.toNat = 5 ∨
      w.mod.toNat = 6 := by omega
  all_goals simp [h, BitVec.ult, BitVec.slt]

theorem branchGoes : Claims.BranchGoes := by
  intro s q w x d h hclean b c
  have hmod : w.mod.toNat ≤ 6 := by
    have hform := form_of_shows h
    simp only [branchPel, Bool.and_eq_true, decide_eq_true_eq] at hform
    exact hform.2
  refine ⟨branchTaken w (x.vals w), branchTaken_iff w _ hmod, ?_⟩
  have hok : (w.mod.toNat == 6 || !((x.vals w).b.2 || (x.vals w).c.2)) = true := by
    rcases hclean with hall | ⟨hb, hc⟩
    · simp [hall]
    · simp [hb, hc]
  have hrun : (branchPel.body (s.ctx q x w) x w (x.vals w)).run (d.entered q x w 0x04) = .ok ({}, d.entered q x w 0x04) :=
    Eng.run_check_bind hok
  exact s.issue_applies q w branchPel x d _ _ h hrun

theorem loopCounts : Claims.LoopCounts := by
  intro s q w x d h
  refine ⟨fun hloop => ?again, fun st n hloop hother => ?nested⟩
  case again =>
    have hrun : (loopPel.body (s.ctx q x w) x w (x.vals w)).run (d.entered q x w 0x05) =
        .ok ({ regs := [(rn w.ra, (x.vals w).a.1 - 1, false)] }, d.entered q x w 0x05) := by
      refine Eng.run_check_bind ?_
      rcases hloop with hloop | hloop
      · rw [hloop]
      · rw [hloop]
        simp only [BEq.rfl, Bool.and_true]
        exact beq_self_eq_true _
    exact s.issue_applies q w loopPel x d _ _ h hrun
  case nested =>
    refine s.issue_faults q w loopPel x d _ 0x0215 {} h (by decide) ?_
    refine Eng.run_check_bind_error ?_
    rw [hloop]
    have hpos : (s.ctx q x w).pos = x.head := rfl
    simp only [hpos, Bool.and_eq_false_iff, beq_eq_false_iff_ne]
    exact hother

theorem illegalFaults : Claims.IllegalFaults := by
  intro s q word x d hword h
  show execIllegalInstruction q word s = _
  unfold execIllegalInstruction
  rw [hword]
  exact s.issue_early q (fieldsOf word) (illegalPel (opOf word).toNat) x d 0x0201 h rfl (by decide)

/-- Settles O7: each instruction's body answers at once; the word of an illegal one fails decode step 1. -/
theorem controlInstructions : Obligations.ControlInstructions :=
  ⟨registerInstructionsIssue, branchGoes, loopCounts, illegalFaults⟩

/-- Settles O8: the body checks both marks first, and its result is the operation of the mod. -/
theorem aluResult : Obligations.AluResult := by
  intro s q w x d h a b
  refine ⟨fun hb hc => ?result, fun hmark => ?poison⟩
  case result =>
    refine (State.issue_goes_on (r := { regs := [(rn w.ra, aluOp w.mod.toNat a b, false)] }) h (by decide) (by decide)
      (Eng.run_check_bind (by simp [hb, hc]))).trans ?_
    congr 5
    unfold aluOp
    simp only [BitVec.ult, decide_eq_true_eq] <;> rfl
  case poison =>
    refine s.issue_faults q w aluPel x d _ 0x020A {} h (by decide) ?_
    exact Eng.run_check_bind_error (by simpa [Decidable.or_iff_not_imp_left] using hmark)

end Sys2Proof.Machine
end

section
/-!
PROOFS. Instructions on single words and on runs of bytes (R324 to R330): LOAD, STORE, WAIT, COPY, FILL, PREFETCH and ZERO.
-/
namespace Sys2Proof.Machine

variable {s : State} {q : Nat} {w : PWord} {x : Queue} {d : Dev}

/-- A step of an instruction's work that answers hands its answer on. -/
theorem Eng.run_bind_ok {α β : Type} {m : Eng α} {f : α → Eng β} {d e : Dev} {a : α} (h : m.run d = .ok (a, e)) :
    (m >>= f).run d = (f a).run e := Eng.run_bind m f d e a h

theorem loadStore : Claims.LoadStore := by
  intro s q w x d e a bs
  refine ⟨fun h hr hread => ?load, fun h hr => ?store⟩
  case load =>
    refine State.issue_goes_on h (by decide) (by decide) ?_
    exact (Eng.run_ranges_bind hr).trans ((Eng.run_bind_ok hread).trans rfl)
  case store =>
    refine State.issue_goes_on h (by decide) (by decide) ?_
    exact (Eng.run_ranges_bind hr).trans ((Eng.run_bind_ok (Eng.run_write _ _ _ _ _)).trans rfl)

/-- The comparisons of WAIT (R327). -/
theorem waitHolds_iff (w : PWord) (y c : Word) : waitHolds w y c = true ↔
    (w.mod.toNat / 2 % 4 = 0 ∧ y = c) ∨ (w.mod.toNat / 2 % 4 = 1 ∧ y ≠ c) ∨
    (w.mod.toNat / 2 % 4 = 2 ∧ c.toNat ≤ y.toNat) ∨ (w.mod.toNat / 2 % 4 = 3 ∧ y.toNat < c.toNat) := by
  have hlt : w.mod.toNat / 2 % 4 < 4 := Nat.mod_lt _ (by decide)
  unfold waitHolds
  obtain h | h | h | h : w.mod.toNat / 2 % 4 = 0 ∨ w.mod.toNat / 2 % 4 = 1 ∨ w.mod.toNat / 2 % 4 = 2 ∨ w.mod.toNat / 2 % 4 = 3 := by omega
  all_goals simp [h, BitVec.ult]

/-- WAIT on time runs its second branch. -/
theorem waitPel_time (c : Ctx) (x : Queue) (w : PWord) (v : Vals) (d : Dev) (hmod : w.mod.getLsbD 0 = false) (h : v.b.1.toNat ≤ d.timeNs) :
    (waitPel.body c x w v).run d = .ok ({ regs := [(rn w.ra, BitVec.ofNat 64 d.timeNs, false)] }, d) := by
  unfold waitPel
  dsimp only
  rw [hmod]
  refine (Eng.run_bind_ok (Eng.run_dev d)).trans ?_
  rw [if_pos h]
  rfl

/-- WAIT on a word reads it and compares. -/
theorem waitPel_word {c : Ctx} {v : Vals} {e : Dev} {a : Area} {bs : PBytes} (hmod : w.mod.getLsbD 0 = true) (hc : v.c.2 = false)
    (hr : d.ranges c.q x [{ win := w.swin.toNat, off := v.b.1.toNat, len := 8, align := 8 }] false false (c.decoded.any (·.passed)) = .ok [a])
    (hread : (Eng.read { c with alloc := true } a 0 8).run d = .ok (bs, e)) (hclean : bs.any Prod.snd = false) :
    (waitPel.body c x w v).run d =
      (if waitHolds w (BitVec.ofNat 64 (natOfBytes (bs.map Prod.fst))) v.c.1 then
        (pure { regs := [(rn w.ra, BitVec.ofNat 64 (natOfBytes (bs.map Prod.fst)), false)] } : Eng Result)
      else if w.imm = 0 then pure { status := 0x0101, regs := [(rn w.ra, BitVec.ofNat 64 (natOfBytes (bs.map Prod.fst)), false)] }
      else Eng.wait .poll).run e := by
  unfold waitPel
  dsimp only
  rw [hmod]
  refine (Eng.run_bind_ok (Eng.run_ranges _ _ _ _ _ _ _ hr)).trans ((Eng.run_check_bind (by rw [hc]; rfl)).trans ((Eng.run_bind_ok hread).trans ?_))
  exact Eng.run_check_bind (by rw [hclean]; rfl)

theorem waitEnds : Claims.WaitEnds := by
  intro s q w x d e a bs h
  refine ⟨fun hmod htime => ?time, fun hmod hc hr hread hclean => ?word⟩
  case time =>
    rw [← Dev.entered_timeNs d q x w 0x06] at htime ⊢
    exact State.issue_goes_on h (by decide) (by decide) (waitPel_time _ x w _ _ hmod htime)
  case word =>
    intro y c holds
    have hword := waitPel_word (c := s.ctx q x w) (v := x.vals w) hmod hc hr hread hclean
    refine ⟨fun hholds => ?_, fun hholds himm => ?_⟩
    · rw [if_pos ((waitHolds_iff w y c).mpr hholds)] at hword
      exact State.issue_goes_on h (by decide) (by decide) hword
    · rw [if_neg (mt (waitHolds_iff w y c).mp hholds), if_pos himm] at hword
      exact State.issue_goes_on h (by decide) (by decide) hword

/-- Settles O10: each body passes decode steps 4 to 8 and then reads or writes its one word. -/
theorem memoryWords : Obligations.MemoryWords := ⟨loadStore, waitEnds⟩

/-- A count register of 1 to 2^32 - 1 has no high bits. -/
theorem count32_small {v : Word} (h : v.toNat < 2 ^ 32) : count32 v = (v.toNat, false) := by
  unfold count32
  rw [Nat.mod_eq_of_lt h, decide_eq_false (by omega)]

theorem ne_zero_of_toNat_pos {v : Word} (h : 0 < v.toNat) : v ≠ 0 := by
  rintro rfl
  exact absurd h (by decide)

/-- Byte i of a number's little-endian bytes. -/
theorem getElem?_bytesOfNat (n v i : Nat) (h : i < n) : (bytesOfNat n v)[i]? = some (BitVec.ofNat 8 (v / 256 ^ i)) := by
  induction n generalizing v i with
  | zero => cases h
  | succ n ih =>
    cases i with
    | zero => simp [bytesOfNat]
    | succ i =>
      show (bytesOfNat n (v / 256))[i]? = _
      rw [ih (v / 256) i (by omega), Nat.div_div_eq_div_mul, Nat.pow_succ']

/-- FILL's pattern: byte i takes byte i mod 8 of the register (R329). -/
theorem fill_pattern (b : Word) (i : Nat) : ((bytesOfNat 8 b.toNat)[i % 8]?).getD 0 = (b >>> (8 * (i % 8))).setWidth 8 := by
  rw [getElem?_bytesOfNat _ _ _ (Nat.mod_lt _ (by decide))]
  apply BitVec.eq_of_toNat_eq
  simp [Nat.shiftRight_eq_div_pow, Nat.pow_mul]

theorem copyFillPrefetch : Claims.CopyFillPrefetch := by
  intro s q w x d e a b bs v n hpos hlt
  have hcount : count32 (x.vals w).c.1 = (n, false) := count32_small hlt
  have hne : (x.vals w).c.1 ≠ 0 := ne_zero_of_toNat_pos hpos
  refine ⟨fun h hr hread => ?copy, fun h hr => ?fill, fun h hr hread => ?prefetch⟩
  case copy =>
    refine State.issue_goes_on h (by decide) (by decide) ?_
    unfold copyPel
    dsimp only
    rw [hcount]
    dsimp only
    rw [if_neg hne]
    exact (Eng.run_ranges_bind hr).trans ((Eng.run_bind_ok hread).trans ((Eng.run_bind_ok (Eng.run_write _ _ _ _ _)).trans rfl))
  case fill =>
    have hpat : ((List.range n).map fun i => ((v.b.1 >>> (8 * (i % 8))).setWidth 8, false)) =
        clean ((List.range n).map fun i => ((bytesOfNat 8 v.b.1.toNat)[i % 8]?).getD 0) := by
      simp only [clean, List.map_map, Function.comp_def, fill_pattern]
    rw [hpat]
    refine State.issue_goes_on h (by decide) (by decide) ?_
    unfold fillPel
    dsimp only
    rw [hcount]
    dsimp only
    rw [if_neg hne]
    exact (Eng.run_ranges_bind hr).trans ((Eng.run_bind_ok (Eng.run_write _ _ _ _ _)).trans rfl)
  case prefetch =>
    refine State.issue_goes_on h (by decide) (by decide) ?_
    unfold prefetchPel
    dsimp only
    rw [hcount]
    dsimp only
    rw [if_neg hne]
    exact (Eng.run_ranges_bind hr).trans ((Eng.run_bind_ok hread).trans rfl)

/-- ZERO of an area without a whole page of a grotto writes zeros over it (R329). -/
theorem Eng.zeroArea_small (c : Ctx) (a : Area) (d : Dev) (h : a.resv = true ∨ (a.base + a.len) / 4096 ≤ ceilDiv a.base 4096) :
    (Eng.zeroArea c a).run d = .ok ((), d.writeAt c a 0 (List.replicate a.len (0, false))) := by
  unfold Eng.zeroArea
  dsimp only
  rw [if_pos h]
  rfl

/-- The whole pages of an area go back to unbacked; zeros are written before and after them (R329). -/
theorem Eng.zeroArea_pages (c : Ctx) (a : Area) (d e : Dev) (hresv : a.resv = false)
    (h : ceilDiv a.base 4096 < (a.base + a.len) / 4096)
    (hun : d.unbackPages c a.g (ceilDiv a.base 4096) ((a.base + a.len) / 4096 - ceilDiv a.base 4096) = some e) :
    (Eng.zeroArea c a).run d = .ok ((),
      (e.writeAt c a 0 (List.replicate (ceilDiv a.base 4096 * 4096 - a.base) (0, false))).writeAt c a
        ((a.base + a.len) / 4096 * 4096 - a.base) (List.replicate (a.base + a.len - (a.base + a.len) / 4096 * 4096) (0, false))) := by
  unfold Eng.zeroArea
  dsimp only
  rw [if_neg (by simp [hresv]; omega)]
  have hunback : (Eng.unback c a.g (ceilDiv a.base 4096) ((a.base + a.len) / 4096 - ceilDiv a.base 4096)).run d = .ok ((), e) := by
    show Eng.unback _ _ _ _ d = _
    unfold Eng.unback
    rw [hun]
  exact (Eng.run_bind_ok hunback).trans rfl

/-- The body of ZERO is its area's. -/
theorem zeroPel_run {v : Vals} {f : Dev} {a : Area} (hpos : 0 < v.c.1.toNat) (hlt : v.c.1.toNat < 2 ^ 32)
    (hr : d.ranges q x [{ win := w.dwin.toNat, off := v.a.1.toNat, len := v.c.1.toNat, right := 1 }] false false = .ok [a])
    (hzero : (Eng.zeroArea (s.ctx q x w) a).run d = .ok ((), f)) : (zeroPel.body (s.ctx q x w) x w v).run d = .ok ({}, f) := by
  unfold zeroPel
  dsimp only
  rw [count32_small hlt]
  dsimp only
  rw [if_neg (ne_zero_of_toNat_pos hpos)]
  exact (Eng.run_ranges_bind hr).trans ((Eng.run_bind_ok hzero).trans rfl)

theorem zeroClears : Claims.ZeroClears := by
  intro s q w x d e a h v n c lo hi hpos hlt hr
  have hlen : a.len = n := by
    have := (d.entered q x w 0x22).ranges_areas _ _ _ _ _ _ hr
    simp only [List.map_cons, List.map_nil, List.cons.injEq, and_true] at this
    rw [this]
    rfl
  refine ⟨fun hsmall => ?_, fun hresv hlohi hun => ?_⟩
  · have hzero := Eng.zeroArea_small c a (d.entered q x w 0x22) hsmall
    rw [hlen] at hzero
    exact State.issue_goes_on h (by decide) (by decide) (zeroPel_run hpos hlt hr hzero)
  · exact State.issue_goes_on h (by decide) (by decide) (zeroPel_run hpos hlt hr (Eng.zeroArea_pages c a _ e hresv hlohi hun))

/-- Settles O12: a count of 1 to 2^32 - 1 has no high bits, and each body passes decode steps 4 to 8 before it reads and writes. -/
theorem movementInstructions : Obligations.MovementInstructions := ⟨copyFillPrefetch, zeroClears⟩

end Sys2Proof.Machine
end

section
/-!
PROOFS. Atomic instructions (R171 to R173, R343 to R345): the new value of an opcode on the bytes at hand, and the line that takes it.
-/
namespace Sys2Proof.Machine

/-- What an atomic makes of the old value (R343): nothing to write for a CAS that does not match. -/
def atomicNew (op : Nat) (wide : Bool) (b a old : Nat) : Option Nat :=
  if op == 0x81 ∧ old ≠ a then none
  else if wide then some (atomicOp op (BitVec.ofNat 128 old) (BitVec.ofNat 128 b) (BitVec.ofNat 128 a)).toNat
  else some (atomicOp op (BitVec.ofNat 64 old) (BitVec.ofNat 64 b) (BitVec.ofNat 64 a)).toNat

/-- Bytes of an atomic's operand. -/
def atomicBytes (wide : Bool) : Nat := if wide then 16 else 8

/-- But for a CAS that does not match, the new value is that of the opcode at the operand's width. -/
theorem atomicNew_some {op b a old : Nat} (wide : Bool) (h : op ≠ 0x81 ∨ old = a) :
    atomicNew op wide b a old = some (atomicOp op (BitVec.ofNat (8 * atomicBytes wide) old) (BitVec.ofNat (8 * atomicBytes wide) b)
      (BitVec.ofNat (8 * atomicBytes wide) a)).toNat := by
  unfold atomicNew
  rw [if_neg (by simpa [Decidable.imp_iff_not_or] using h)]
  cases wide <;> rfl

/-- A number's value as a signed one of m bits. -/
def signedOf (m u : Nat) : Int := if u < 2 ^ (m - 1) then u else (u : Int) - 2 ^ m

theorem toInt_ofNat_eq_signedOf {m u : Nat} (hm : 0 < m) (h : u < 2 ^ m) : (BitVec.ofNat m u).toInt = signedOf m u := by
  obtain ⟨k, rfl⟩ : ∃ k, m = k + 1 := ⟨m - 1, by omega⟩
  rw [BitVec.toInt_eq_toNat_cond, BitVec.toNat_ofNat, Nat.mod_eq_of_lt h]
  unfold signedOf
  rw [Nat.add_sub_cancel, Nat.pow_succ]
  refine ite_congr (propext ?_) (fun _ => rfl) fun _ => ?_
  · omega
  · push_cast
    rfl

theorem slt_ofNat {m u v : Nat} (hm : 0 < m) (hu : u < 2 ^ m) (hv : v < 2 ^ m) :
    (BitVec.ofNat m u).slt (BitVec.ofNat m v) = true ↔ signedOf m u < signedOf m v := by
  rw [BitVec.slt_eq_decide, decide_eq_true_eq, toInt_ofNat_eq_signedOf hm hu, toInt_ofNat_eq_signedOf hm hv]

theorem ult_ofNat {m u v : Nat} (hu : u < 2 ^ m) (hv : v < 2 ^ m) : (BitVec.ofNat m u).ult (BitVec.ofNat m v) = true ↔ u < v := by
  rw [BitVec.ult, decide_eq_true_eq, BitVec.toNat_ofNat, BitVec.toNat_ofNat, Nat.mod_eq_of_lt hu, Nat.mod_eq_of_lt hv]

theorem toNat_ite_ofNat {m u v : Nat} {p r : Prop} [Decidable p] [Decidable r] (hu : u < 2 ^ m) (hv : v < 2 ^ m) (h : p ↔ r) :
    (if p then BitVec.ofNat m u else BitVec.ofNat m v).toNat = if r then u else v := by
  by_cases hp : p
  · rw [if_pos hp, if_pos (h.mp hp), BitVec.toNat_ofNat, Nat.mod_eq_of_lt hu]
  · rw [if_neg hp, if_neg (mt h.mpr hp), BitVec.toNat_ofNat, Nat.mod_eq_of_lt hv]

/-- The new value by opcode, on numbers of the operand's width (R343). -/
def atomicValue (op m old b a : Nat) : Option Nat :=
  match op with
  | 0x80 => some ((old + b) % 2 ^ m)
  | 0x81 => if old = a then some b else none
  | 0x82 => some b
  | 0x83 => some (if signedOf m old < signedOf m b then old else b)
  | 0x84 => some (if old < b then old else b)
  | 0x85 => some (if signedOf m old < signedOf m b then b else old)
  | _ => some (if old < b then b else old)

/-- On operands of its width, an atomic's new value is that of its opcode. -/
theorem atomicNew_eq {op : Nat} (hop : op ∈ [0x80, 0x81, 0x82, 0x83, 0x84, 0x85, 0x86]) (wide : Bool) {old b : Nat} (a : Nat)
    (hold : old < 2 ^ (8 * atomicBytes wide)) (hb : b < 2 ^ (8 * atomicBytes wide)) :
    atomicNew op wide b a old = atomicValue op (8 * atomicBytes wide) old b a := by
  have hm : 0 < 8 * atomicBytes wide := by cases wide <;> decide
  by_cases hcas : op = 0x81 ∧ old ≠ a
  · obtain ⟨rfl, hne⟩ := hcas
    show (if _ then _ else _) = (if old = a then some b else none)
    rw [if_pos ⟨rfl, hne⟩, if_neg hne]
  · rw [atomicNew_some wide (by omega)]
    simp only [List.mem_cons, List.not_mem_nil, or_false] at hop
    rcases hop with rfl | rfl | rfl | rfl | rfl | rfl | rfl
    · simp [atomicOp, atomicValue]
    · obtain rfl : old = a := by omega
      simp [atomicOp, atomicValue, Nat.mod_eq_of_lt hb]
    · simp [atomicOp, atomicValue, Nat.mod_eq_of_lt hb]
    · exact congrArg some (toNat_ite_ofNat hold hb (slt_ofNat hm hold hb))
    · exact congrArg some (toNat_ite_ofNat hold hb (ult_ofNat hold hb))
    · exact congrArg some (toNat_ite_ofNat hb hold (slt_ofNat hm hold hb))
    · exact congrArg some (toNat_ite_ofNat hb hold (ult_ofNat hold hb))

theorem natOfBytes_lt (bs : List Byte) : natOfBytes bs < 2 ^ (8 * bs.length) := by
  induction bs with
  | nil => decide
  | cons b t ih =>
    have hb := b.isLt
    have : 2 ^ (8 * (b :: t).length) = 256 * 2 ^ (8 * t.length) := by
      rw [List.length_cons, Nat.mul_add, Nat.pow_add, Nat.mul_comm]
    unfold natOfBytes
    omega

theorem natOfBytes_take_lt (bs : List Byte) (n : Nat) : natOfBytes (bs.take n) < 2 ^ (8 * n) :=
  Nat.lt_of_lt_of_le (natOfBytes_lt _) (Nat.pow_le_pow_right (by decide) (Nat.mul_le_mul_left _ (List.length_take_le n bs)))

/-- Both words of a wide operand, or its one word. -/
def operand (wide : Bool) (lo hi : Word) : Nat := lo.toNat + if wide then hi.toNat * 2 ^ 64 else 0

theorem operand_lt (wide : Bool) (lo hi : Word) : operand wide lo hi < 2 ^ (8 * atomicBytes wide) := by
  have hlo := lo.isLt
  have hhi := hi.isLt
  cases wide
  · exact hlo
  · show lo.toNat + hi.toNat * 2 ^ 64 < 2 ^ 128
    omega

section Line

variable {s : State} {q : Nat} {w : PWord} {x : Queue} {d e f : Dev} {c : Ctx} {a : Area} {y : LineData}

/-- The device with an atomic's new value written over its line (R344). -/
def Dev.atomicPut (f : Dev) (c : Ctx) (a : Area) (y : LineData) (u : Nat) : Dev :=
  let all := mergeLine y (BitVec.ofNat 512 (u <<< (8 * (a.base % 64)))) (maskRange (a.base % 64) a.len)
  f.applyWrite (c.req a.g (a.base / 64) (.write fullMask all false)) fullMask all false

/-- An atomic on a grotto's line that its slice gives and that holds no poison (R171, R344). -/
theorem atomicAt_run (fn : Nat → Option Nat) (hresv : a.resv = false) (hown : (Eng.own c a.g (a.base / 64)).run d = .ok ((), e))
    (hline : (Eng.line { c with alloc := true } a.g (a.base / 64)).run e = .ok ((y, false), f))
    (hroom : (Eng.roomFor a.g (a.base / 64)).run f = .ok ((), f)) :
    (atomicAt c a fn).run d = .ok (natOfBytes (((lineBytes y).drop (a.base % 64)).take a.len),
      match fn (natOfBytes (((lineBytes y).drop (a.base % 64)).take a.len)) with
      | some u => f.atomicPut c a y u
      | none => f) := by
  unfold atomicAt
  dsimp only
  rw [hresv, if_neg (by decide)]
  refine (Eng.run_bind_ok hown).trans ((Eng.run_bind_ok hline).trans ?_)
  refine (Eng.run_check_bind rfl).trans ((Eng.run_bind_ok hroom).trans ?_)
  cases fn (natOfBytes (((lineBytes y).drop (a.base % 64)).take a.len)) with
  | none => rfl
  | some u => exact (Eng.run_bind_ok (Eng.run_upd _ _)).trans rfl

/-- What an atomic reports of the old value (R343). -/
def atomicResult (w : PWord) (a : Area) (old : Nat) : Result :=
  if w.mod.getLsbD 0 then
    { r0 := BitVec.ofNat 64 old, r1 := BitVec.ofNat 64 (old / 2 ^ 64),
      regs := [(rn w.ra, BitVec.ofNat 64 old, false), (rn w.ra + 1, BitVec.ofNat 64 (old / 2 ^ 64), false)], work := [homeSlice a.g (a.base / 64)] }
  else { r0 := BitVec.ofNat 64 old, regs := [(rn w.ra, BitVec.ofNat 64 old, false)], work := [homeSlice a.g (a.base / 64)] }

/-- The body of an atomic whose operands are not marked. -/
theorem atomicPel_run {op : Nat} {v : Vals} {old : Nat} (hb : v.b.2 = false) (hb1 : w.mod.getLsbD 0 = true → v.b1.2 = false)
    (hcas : op = 0x81 → v.a.2 = false ∧ (w.mod.getLsbD 0 = true → v.a1.2 = false))
    (hr : d.ranges q x [⟨w.dwin.toNat, v.c.1.toNat + w.imm.toNat, atomicBytes (w.mod.getLsbD 0), 2, atomicBytes (w.mod.getLsbD 0)⟩] false false =
      .ok [a])
    (hat : (atomicAt (s.ctx q x w) a (atomicNew op (w.mod.getLsbD 0) (operand (w.mod.getLsbD 0) v.b.1 v.b1.1)
      (operand (w.mod.getLsbD 0) v.a.1 v.a1.1))).run d = .ok (old, f)) :
    ((atomicPel op).body (s.ctx q x w) x w v).run d = .ok (atomicResult w a old, f) := by
  unfold atomicPel
  dsimp only
  refine (Eng.run_ranges_bind hr).trans ((Eng.run_check_bind ?clean).trans ((Eng.run_bind_ok hat).trans rfl))
  case clean =>
    cases hwide : w.mod.getLsbD 0 with
    | false => cases hop : op == 0x81 <;> simp_all
    | true => cases hop : op == 0x81 <;> simp_all

end Line

/-- Settles O11: the operands' width bounds the numbers, so that the opcode's operation on words is the one on numbers (`atomicNew_eq`). -/
theorem atomicsUpdateTheLine : Obligations.AtomicsUpdateTheLine := by
  intro p hp s q w x d e f a y h v wide n c old b k signed new hb hb1 hcas hr hresv hown hline hroom
  have hlen : a.len = atomicBytes wide := by
    have := (d.entered q x w p.1).ranges_areas _ _ _ _ _ _ hr
    simp only [List.map_cons, List.map_nil, List.cons.injEq, and_true] at this
    rw [this]
    rfl
  have hop : p.1 ∈ [0x80, 0x81, 0x82, 0x83, 0x84, 0x85, 0x86] := List.mem_map_of_mem (f := Prod.fst) hp
  have hexec : exec (p.2 q w) s = s.issue q w (atomicPel p.1) ∧ atomicValue p.1 (8 * n) old b k = new := by
    simp only [List.mem_cons, List.not_mem_nil, or_false] at hp
    rcases hp with rfl | rfl | rfl | rfl | rfl | rfl | rfl <;> exact ⟨rfl, rfl⟩
  obtain ⟨hexec, hnew⟩ := hexec
  have hat := atomicAt_run (atomicNew p.1 wide (operand wide v.b.1 v.b1.1) (operand wide v.a.1 v.a1.1)) hresv hown hline hroom
  rw [hlen, atomicNew_eq hop wide _ (natOfBytes_take_lt _ _) (operand_lt wide _ _)] at hat
  have hstraight (o : Nat) (ho : o ∉ [0x80, 0x81, 0x82, 0x83, 0x84, 0x85, 0x86]) : p.1 ≠ o := fun heq => ho (heq ▸ hop)
  rw [hexec, ← hnew]
  refine (State.issue_goes_on h (hstraight 4 (by decide)) (hstraight 5 (by decide)) (atomicPel_run hb hb1 hcas hr hat)).trans ?_
  show _ = Host.Outcome.next (s.applied _ q x w p.1 (atomicResult w a old) (x.head + 1))
  refine congrArg (fun t => Host.Outcome.next (s.applied t q x w p.1 (atomicResult w a old) (x.head + 1))) ?_
  show (match atomicValue p.1 (8 * n) old b k with | some u => f.atomicPut c a y u | none => f) = _
  cases atomicValue p.1 (8 * n) old b k with
  | none => rfl
  | some u =>
    dsimp only [Dev.atomicPut]
    rw [hlen]
    rfl

end Sys2Proof.Machine
end

section
/-!
PROOFS. The start of a move (R246, R250, R331 to R333): an instruction's move stands among the device's moves under its name.
-/
namespace Sys2Proof.Machine

/-! ### Messages to a neighbour leave the pages' records alone -/

@[simp] theorem Dev.setEv_pages (d : Dev) (p : Nat) (x : EvPort) : (d.setEv p x).pages = d.pages := by
  unfold Dev.setEv
  split <;> rfl

@[simp] theorem Dev.evPump_pages (d : Dev) (p n : Nat) : (d.evPump p n).pages = d.pages := by
  induction n generalizing d with
  | zero => rfl
  | succ n ih =>
    unfold Dev.evPump
    dsimp only
    split
    · rw [ih]
      exact d.setEv_pages p _
    · rfl

@[simp] theorem Dev.evSend_pages (d : Dev) (p : Nat) (m : EvMsg) : (d.evSend p m).pages = d.pages := by
  unfold Dev.evSend
  dsimp only
  split
  · rw [Dev.evPump_pages, Dev.setEv_pages]
    cases m
    case mirrorLine l =>
      dsimp only
      split <;> rfl
    all_goals rfl
  · rfl

@[simp] theorem Dev.evTag_pages (d : Dev) (p : Nat) : (d.evTag p).2.pages = d.pages := d.setEv_pages p _

/-- A request to a neighbour joins those on their way and leaves the moves. -/
theorem Dev.evSend_fars_moves (d : Dev) (port p : Nat) (m : EvMsg) (far : FarReq) :
    (((d.evTag port).2.onPages fun k => { k with fars := k.fars ++ [far] }).evSend p m).pages.moves = d.pages.moves := by
  rw [Dev.evSend_pages]
  show ((d.evTag port).2.pages).moves = _
  rw [Dev.evTag_pages]

/-! ### The move that starts -/

/-- The move that an attempt asks for stands among the device's moves, not yet begun to copy. -/
def Dev.HasMove (e : Dev) (issuer : Option (Nat × BitVec 32)) (a : MoveAsk) : Prop :=
  ∃ m ∈ e.pages.moves, m.issuer = issuer ∧ m.kind = a.kind ∧ m.g = a.g ∧ m.page = a.page ∧ m.phase = 2

theorem Dev.HasMove.of_moves {d e : Dev} {issuer : Option (Nat × BitVec 32)} {a : MoveAsk} (h : e.HasMove issuer a)
    (heq : d.pages.moves = e.pages.moves) : d.HasMove issuer a := by
  unfold Dev.HasMove
  rw [heq]
  exact h

/-- A move that starts stands among the moves (R250). -/
theorem Dev.startMove_hasMove {d e : Dev} {a : MoveAsk} {issuer : Option (Nat × BitVec 32)} (h : d.startMove a issuer = .started e) :
    e.HasMove issuer a := by
  unfold Dev.startMove at h
  dsimp only at h
  split at h
  · cases h
  split at h
  · cases h
  next m _ =>
  split at h
  · cases h
  split at h
  · cases h
  next dst d1 _ =>
  have hnew (f : Dev) : Dev.HasMove ((f.onPages fun p => { p with
      moves := p.moves ++ [{ mover := m, issuer := issuer, kind := a.kind, g := a.g, page := a.page, dst := dst, policy := a.policy }] }).moverBytes
        (d.sourceBytes a.g a.page)) issuer a := ⟨_, List.mem_append_right _ (List.mem_singleton_self _), rfl, rfl, rfl, rfl, rfl⟩
  split at h
  case h_1 =>
    obtain rfl := MoveStart.started.inj h
    exact (hnew _).of_moves (Dev.evSend_fars_moves _ _ _ _ _)
  case h_2 =>
    obtain rfl := MoveStart.started.inj h
    refine ⟨_, List.mem_map.mpr ⟨{ mover := m, issuer := issuer, kind := a.kind, g := a.g, page := a.page, dst := dst, policy := a.policy }, ?_, if_pos rfl⟩,
      rfl, rfl, rfl, rfl, rfl⟩
    rw [foldl_view (fun f : Dev => f.pages.moves) _ fun f n => Dev.evSend_fars_moves f _ _ _ _]
    exact List.mem_append_right _ (List.mem_singleton_self _)
  case h_3 =>
    obtain rfl := MoveStart.started.inj h
    exact hnew _

/-! ### MIGRATE and SPILL -/

section Body

variable {s : State} {q : Nat} {w : PWord} {x : Queue} {d e : Dev} {op : Nat}

/-- Entering an instruction in its queue changes nothing but the queues and their units. -/
theorem Dev.entered_eq (d : Dev) (q : Nat) (x : Queue) (w : PWord) (op : Nat) :
    ∃ k : Queues, d.entered q x w op = { d with queues := k } ∧ k.qs = (d.queued q x w op).queues.qs := by
  unfold Dev.entered Dev.takeUnit
  dsimp only
  split
  · exact ⟨(d.queued q x w op).queues, rfl, rfl⟩
  split
  · exact ⟨_, rfl, rfl⟩
  · exact ⟨(d.queued q x w op).queues, rfl, rfl⟩

theorem Dev.entered_grotto (d : Dev) (q : Nat) (x : Queue) (w : PWord) (op g : Nat) : (d.entered q x w op).grotto g = d.grotto g := by
  obtain ⟨k, he, _⟩ := d.entered_eq q x w op
  rw [he]
  rfl

theorem Dev.entered_entry (d : Dev) (q : Nat) (x : Queue) (w : PWord) (op g page : Nat) : (d.entered q x w op).entry g page = d.entry g page := by
  obtain ⟨k, he, _⟩ := d.entered_eq q x w op
  rw [he]
  rfl

/-- The queue of an instruction that has been entered keeps its record. -/
theorem Dev.entered_queue? (d : Dev) (q : Nat) (x : Queue) (w : PWord) (op : Nat) :
    ∃ y, (d.entered q x w op).queue? q = some y ∧ y.recd = x.recd := by
  obtain ⟨k, he, hk⟩ := d.entered_eq q x w op
  refine ⟨{ x with
    issued := x.issued ++ [{ pos := x.head, word := w, opcode := op, iter := x.iter, journ := journals op w (x.inPlace w) }],
    head := x.head + 1 }, ?_, rfl⟩
  rw [he]
  show (match mget k.qs q with | some y => some y | none => _) = _
  rw [hk, Dev.queued, Dev.setQueue_queues]
  simp only [mget_mset, if_true]

theorem bitsOf_grotto (rb : Word) : bitsOf rb.toNat 63 58 = rb.toNat / 2 ^ 58 := by
  have := rb.isLt
  simp only [bitsOf, Nat.shiftRight_eq_div_pow]
  omega

theorem bitsOf_page (rb : Word) : bitsOf rb.toNat 57 25 = rb.toNat / 2 ^ 25 % 2 ^ 33 := by
  simp only [bitsOf, Nat.shiftRight_eq_div_pow]

/-- The move that an instruction asks for (R331). -/
def Vals.ask (v : Vals) (k : MoveKind) (chan : Option Nat) (port : Nat) : MoveAsk :=
  { kind := k, g := v.b.1.toNat / 2 ^ 58, page := v.b.1.toNat / 2 ^ 25 % 2 ^ 33, gen := BitVec.ofNat 8 v.b.1.toNat, chan := chan, port := port }

/-- A page of the queue's own grotto, below its capacity, whose move a mover takes. -/
theorem moveBody_run {c : Ctx} {v : Vals} {y : Queue} {k : MoveKind} {chan : Option Nat} {port : Nat} (hq : d.queue? c.q = some y)
    (hown : privQ c.q = true ∨ y.recd.grotto = v.b.1.toNat / 2 ^ 58)
    (hpage : v.b.1.toNat / 2 ^ 25 % 2 ^ 33 < ((d.grotto (v.b.1.toNat / 2 ^ 58)).committed + (d.grotto (v.b.1.toNat / 2 ^ 58)).elasticMax) * unitPages)
    (hstart : d.startMove (v.ask k chan port) (some (c.q, c.pos)) = .started e) : (moveBody c v k chan port).run d = .ok ({}, e) := by
  show moveBody c v k chan port d = _
  unfold moveBody
  dsimp only
  rw [bitsOf_grotto, bitsOf_page, hq]
  dsimp only
  have hmine : (!(privQ c.q || y.recd.grotto == v.b.1.toNat / 2 ^ 58)) = false := by
    rcases hown with h | h <;> simp [h]
  rw [hmine, if_neg (by decide), if_neg (Nat.not_le.mpr hpage)]
  have hask : d.startMove { kind := k, g := v.b.1.toNat / 2 ^ 58, page := v.b.1.toNat / 2 ^ 25 % 2 ^ 33, gen := BitVec.ofNat 8 v.b.1.toNat, chan := chan, port := port } (some (c.q, c.pos)) = .started e := hstart
  rw [hask]

/-- The same for a move that names its instruction: the device with the instruction entered starts it. -/
theorem State.moveBody_starts {v : Vals} {k : MoveKind} {chan : Option Nat} {port : Nat}
    (hown : privQ q = true ∨ x.recd.grotto = v.b.1.toNat / 2 ^ 58)
    (hpage : v.b.1.toNat / 2 ^ 25 % 2 ^ 33 < ((d.grotto (v.b.1.toNat / 2 ^ 58)).committed + (d.grotto (v.b.1.toNat / 2 ^ 58)).elasticMax) * unitPages)
    (hstart : (d.entered q x w op).startMove (v.ask k chan port) (some (q, x.head)) = .started e) :
    (moveBody (s.ctx q x w) v k chan port).run (d.entered q x w op) = .ok ({}, e) := by
  obtain ⟨y, hy, hrecd⟩ := d.entered_queue? q x w op
  refine moveBody_run (c := s.ctx q x w) hy (hrecd ▸ hown) ?_ hstart
  rw [Dev.entered_grotto]
  exact hpage

/-- The move that MIGRATE asks for by its mod (R331, R332). -/
def Vals.migrateAsk (v : Vals) (d : Dev) (w : PWord) : MoveAsk :=
  match w.mod.toNat with
  | 0 => v.ask .promote none 0
  | 1 => v.ask (if peState (d.entry (v.b.1.toNat / 2 ^ 58) (v.b.1.toNat / 2 ^ 25 % 2 ^ 33)) = 2 then .rewrite else .demote) none 0
  | _ => v.ask .relocate (if w.imm.getLsbD 4 then some (w.imm.toNat % 16) else none) 0

theorem Vals.migrateAsk_ask (v : Vals) (d : Dev) (w : PWord) : v.ask (v.migrateAsk d w).kind (v.migrateAsk d w).chan 0 = v.migrateAsk d w := by
  unfold Vals.migrateAsk
  split <;> rfl

theorem migratePel_run (c : Ctx) (x : Queue) (w : PWord) (v : Vals) (d : Dev) :
    (migratePel.body c x w v).run d = (moveBody c v (v.migrateAsk d w).kind (v.migrateAsk d w).chan 0).run d := by
  unfold migratePel Vals.migrateAsk
  dsimp only
  refine (Eng.run_bind_ok (Eng.run_dev _)).trans ?_
  rw [bitsOf_grotto, bitsOf_page]
  simp only [beq_iff_eq]
  generalize w.mod.toNat = m
  rcases m with _ | _ | m <;> rfl

end Body

/-- Settles O13: the body hands the move to `startMove`, which puts it among the moves under the instruction's name. -/
theorem movesStart : Obligations.MovesStart := by
  intro s q w x d e rb g page ask hown hpage
  refine ⟨fun h => ?migrate, fun h hstart => ?spill⟩
  case migrate =>
    let v := x.vals w
    show (d.entered q x w 0x24).startMove (v.migrateAsk d w) _ = _ → _ ∧ ∃ m ∈ e.pages.moves, _ ∧ m.kind = (v.migrateAsk d w).kind ∧ _
    have hentry : v.migrateAsk d w = v.migrateAsk (d.entered q x w 0x24) w := by simp only [Vals.migrateAsk, Dev.entered_entry]
    rw [hentry, ← Vals.migrateAsk_ask]
    intro hstart
    refine ⟨State.issue_goes_on h (by decide) (by decide) ?_, Dev.startMove_hasMove hstart⟩
    exact (migratePel_run _ _ _ _ _).trans (State.moveBody_starts hown hpage hstart)
  case spill =>
    exact ⟨State.issue_goes_on h (by decide) (by decide) (State.moveBody_starts hown hpage hstart), Dev.startMove_hasMove hstart⟩

end Sys2Proof.Machine
end

section
/-!
PROOFS. Input and output of transforms and queries: a read gives no more bytes than asked for, and output that fits its destination is
written there as it is (R229, R337).
-/
namespace Sys2Proof.Machine

/-- Work that answers has answered at each of its steps. -/
theorem Eng.run_bind_inv {α β : Type} {m : Eng α} {f : α → Eng β} {d e : Dev} {b : β} (h : (m >>= f).run d = .ok (b, e)) :
    ∃ a d1, m.run d = .ok (a, d1) ∧ (f a).run d1 = .ok (b, e) := by
  cases hm : m.run d with
  | error x =>
    rw [Eng.run_bind_error m f d x hm] at h
    cases h
  | ok p =>
    rw [Eng.run_bind m f d p.2 p.1 hm] at h
    exact ⟨p.1, p.2, rfl, h⟩

/-- A read gives at most the bytes asked for. -/
theorem Eng.read_length_le {c : Ctx} {a : Area} {off len : Nat} {d e : Dev} {bs : PBytes} (h : (Eng.read c a off len).run d = .ok (bs, e)) :
    bs.length ≤ len := by
  unfold Eng.read at h
  split at h
  · cases h
    exact Nat.zero_le _
  · obtain ⟨parts, d1, _, hpure⟩ := Eng.run_bind_inv h
    cases hpure
    exact List.length_take_le _ _

/-- Input without a poisoned byte. -/
theorem firstPoison_none {bs : PBytes} (h : bs.all (fun u => !u.2) = true) : firstPoison bs = none := by
  unfold firstPoison
  rw [List.findIdx?_eq_none_iff]
  intro b hb
  simpa using List.all_eq_true.mp h b hb

section Lay

variable (d : Dev) (c : Ctx) (x : Queue) (k : Sink)

/-- Units that fit the buffer at hand are laid out in it, and nothing stops. -/
theorem Dev.layUnits_fit (n : Nat) (us : List PBytes) (es : List (ChainEntry × Nat)) (l : Laid) (hn : us.length ≤ n)
    (h : l.acc.length + us.flatten.length ≤ l.cur.len) :
    d.layUnits c x k n us es l = { l with
      acc := l.acc ++ us.flatten, done := l.done ++ [(l.cur, l.acc ++ us.flatten)], units := l.units + us.length } := by
  induction us generalizing n l with
  | nil => cases n <;> simp [Dev.layUnits]
  | cons u us ih =>
    obtain ⟨n, rfl⟩ : ∃ m, n = m + 1 := ⟨n - 1, by simp only [List.length_cons] at hn; omega⟩
    rw [List.flatten_cons, List.length_append] at h
    unfold Dev.layUnits
    rw [if_pos (by omega), ih n _ (by simpa using hn) (by simp only [List.length_append]; omega)]
    simp [Nat.add_assoc, Nat.add_comm]

/-- What is laid out where every unit fits the destination. -/
def Sink.whole (k : Sink) (us : List PBytes) : Laid := { cur := k.dst, acc := us.flatten, done := [(k.dst, us.flatten)], units := us.length }

/-- Output that fits the destination is written there. -/
theorem Eng.run_emit_fit (us : List PBytes) (h : us.flatten.length ≤ k.dst.len) :
    (Eng.emit c x k us).run d = .ok (k.whole us, d.writeAt c k.dst 0 us.flatten) := by
  unfold Eng.emit
  refine (Eng.run_bind _ _ _ _ _ (Eng.run_dev d)).trans ?_
  have hlay := d.layUnits_fit c x k (us.length + k.chain.length + 1) us (k.chain.zip (List.range k.chain.length)) { cur := k.dst } (by omega) (by simpa using h)
  rw [hlay]
  simp only [List.nil_append, Nat.zero_add]
  rfl

end Lay

theorem flatten_singles (bs : PBytes) : (singles bs).flatten = bs := by
  induction bs with
  | nil => rfl
  | cons b t ih => simpa [singles] using ih

theorem Sink.whole_stop (k : Sink) (us : List PBytes) : (k.whole us).stop = none := rfl

theorem Sink.whole_bytes (k : Sink) (us : List PBytes) : (k.whole us).bytes = us.flatten.length := by simp [Laid.bytes, Sink.whole]

theorem Sink.whole_fill (k : Sink) (us : List PBytes) : (k.whole us).fill = BitVec.ofNat 64 (0xFFFFFFFF * 2 ^ 32 + us.flatten.length) := rfl

end Sys2Proof.Machine
end

section
/-!
PROOFS. COMPRESS and DECOMPRESS in the native format (R206, R225 to R232, R334 to R337).
-/
namespace Sys2Proof.Machine

/-! ### The native format within the space at hand -/

/-- Input that pieces of output stand for. -/
def piecesInput (ps : List (Nat × List Byte)) : Nat := (ps.map Prod.fst).sum

/-- Pieces are taken while they fit: never more than the space, nor more input than they stand for, and all of it where nothing stops. -/
theorem takePieces_fits (space : Nat) (ps : List (Nat × List Byte)) (used : Nat) (out : List Byte) (h : out.length ≤ space) :
    (takePieces space ps used out).out.length ≤ space ∧ (takePieces space ps used out).used ≤ used + piecesInput ps ∧
    ((takePieces space ps used out).status = 0 → (takePieces space ps used out).used = used + piecesInput ps) := by
  induction ps generalizing used out with
  | nil => exact ⟨h, Nat.le_refl _, fun _ => rfl⟩
  | cons p t ih =>
    obtain ⟨n, bs⟩ := p
    have hsum : piecesInput ((n, bs) :: t) = n + piecesInput t := by simp [piecesInput]
    unfold takePieces
    rw [hsum]
    split
    case isTrue hfit =>
      obtain ⟨hout, hused, hall⟩ := ih (used + n) (out ++ bs) (by rwa [List.length_append])
      exact ⟨hout, by omega, fun hs => by rw [hall hs, Nat.add_assoc]⟩
    case isFalse => exact ⟨h, Nat.le_add_right _ _, fun hs => absurd (show 0x0102 = 0 from hs) (by decide)⟩

/-- A native stream has the statuses of its pieces. -/
theorem takePieces_status (space : Nat) (ps : List (Nat × List Byte)) (used : Nat) (out : List Byte) :
    (takePieces space ps used out).status = 0 ∨ (takePieces space ps used out).status = 0x0102 := by
  induction ps generalizing used out with
  | nil => exact .inl rfl
  | cons p t ih =>
    unfold takePieces
    split
    · exact ih _ _
    · exact .inr rfl

/-- The blocks of an input hold all of it. -/
theorem blocksOf_length (n : Nat) (bs : List Byte) (h : bs.length < n) : ((blocksOf n bs).map List.length).sum = bs.length := by
  induction n generalizing bs with
  | zero => omega
  | succ n ih =>
    cases bs with
    | nil => rfl
    | cons b t =>
      rw [blocksOf, List.map_cons, List.sum_cons, ih _ (by simp only [List.length_drop, List.length_cons] at h ⊢; omega)]
      · simp only [List.length_take, List.length_drop]
        omega
      · exact fun h => by cases h

theorem nativeFits : Claims.NativeFits := by
  intro level bs space
  unfold nativeEncode
  dsimp only
  rw [if_pos rfl]
  simp only [Bool.false_eq_true, if_false, if_true]
  have hfit := takePieces_fits space ([(0, nativeMagic ++ List.replicate 4 0#8 ++ bytesOfNat 8 bs.length)] ++
    ((blocksOf (bs.length + 1) bs).map fun b => (b.length, encodeBlock level b)) ++ [(0, bytesOfNat 4 (crc32c bs))]) 0 [] (Nat.zero_le _)
  have hsum : piecesInput ([(0, nativeMagic ++ List.replicate 4 0#8 ++ bytesOfNat 8 bs.length)] ++
      ((blocksOf (bs.length + 1) bs).map fun b => (b.length, encodeBlock level b)) ++ [(0, bytesOfNat 4 (crc32c bs))]) = bs.length := by
    have hblocks := blocksOf_length (bs.length + 1) bs (Nat.lt_succ_self _)
    simpa [piecesInput, Function.comp_def] using hblocks
  rwa [hsum, Nat.zero_add] at hfit

theorem nativeEncode_length (level : Nat) (resume : Bool) (n : Nat) (bs : List Byte) (space : Nat) :
    (nativeEncode level resume n bs space).out.length ≤ space := (takePieces_fits space _ 0 [] (Nat.zero_le _)).1

/-- Decompression stops before its output outgrows the space. -/
theorem nativeBlocks_length (space n : Nat) (left : Option Nat) (bs : List Byte) (e : JobEnd) (h : e.out.length ≤ space) :
    (nativeBlocks space n left bs e).out.length ≤ space := by
  induction n generalizing left bs e with
  | zero => exact h
  | succ n ih =>
    unfold nativeBlocks
    extract_lets stored comp e1 cap
    split
    · split
      · exact h
      split
      · exact h
      split <;> exact h
    split
    · exact h
    · exact h
    split
    · exact h
    split
    · exact h
    next out used stored _ _ hspace =>
    refine ih _ _ _ ?_
    have hroom : (e.out ++ out).length ≤ space := by rw [List.length_append]; omega
    cases stored with
    | none => exact hroom
    | some v =>
      dsimp only
      split <;> exact hroom

theorem nativeDecode_length (resume : Bool) (bs : List Byte) (space : Nat) : (nativeDecode resume bs space).out.length ≤ space := by
  unfold nativeDecode
  split
  · exact nativeBlocks_length _ _ _ _ _ (Nat.zero_le _)
  split
  · exact Nat.zero_le _
  split
  · exact Nat.zero_le _
  · exact nativeBlocks_length _ _ _ _ _ (Nat.zero_le _)

/-- A job in the native format stays within its space. -/
theorem runJob_native_length (decomp : Bool) (j : Job) (save dict : List Byte) (n : Nat) (bs : List Byte) (space : Nat) :
    (runJob decomp 0 j save dict n bs space).out.length ≤ space := by
  cases decomp
  · exact nativeEncode_length _ _ _ _ _
  · exact nativeDecode_length _ _ _

/-! ### The stream job -/

section Stream

variable {s : State} {q : Nat} {w : PWord} {x : Queue} {d e f : Dev} {decomp : Bool} {v : Vals} {a b t : Area} {desc : List Byte} {j : Job}
  {inp : PBytes}

/-- The input of a transform or query with rb and rc. -/
def srcRng (w : PWord) (v : Vals) (len : Nat) : Rng := { win := w.swin.toNat, off := v.b.1.toNat, len := len }

/-- The destination of an instruction with ra. -/
def dstRng (w : PWord) (v : Vals) (len : Nat) : Rng := { win := w.dwin.toNat, off := v.a.1.toNat, len := len, right := 1 }

/-- What a stream job in the native format reports (R337). -/
def streamResult (decomp : Bool) (r : JobEnd) : Result :=
  { status := r.status, r0 := BitVec.ofNat 64 r.used, r1 := BitVec.ofNat 64 r.out.length, r2 := BitVec.ofNat 64 (0xFFFFFFFF * 2 ^ 32 + r.out.length),
    work := if decomp then [0, 1, r.out.length] else [1, r.used, r.out.length] }

/-- A stream job in the native format without chain, save areas or dictionary, of clean input, that does not fault. -/
theorem streamBody_run (hmod : w.mod.toNat % 8 = 0) (hpos : 0 < v.c.1.toNat) (hlt : v.c.1.toNat < 2 ^ 32)
    (hthird : (Eng.third (s.ctx q x w) x w 64 [srcRng w v v.c.1.toNat, dstRng w v 0] false).run d = .ok (desc, e))
    (hjob : jobOf desc 0 decomp = some j) (hchain : j.chain = none) (hin : j.saveIn = none) (hout : j.saveOut = none) (hdict : j.dict = none)
    (hr : e.ranges q x [srcRng w v v.c.1.toNat, dstRng w v j.dlen, thirdRng w 64] false false = .ok [a, b, t])
    (hread : (Eng.read (s.ctx q x w) a 0 v.c.1.toNat).run e = .ok (inp, f)) (hclean : inp.all (fun u => !u.2) = true)
    (hfault : isFault (runJob decomp 0 j [] [] v.c.1.toNat (inp.map Prod.fst) j.dlen).status = false) :
    (streamBody decomp (s.ctx q x w) x w v).run d =
      .ok (streamResult decomp (runJob decomp 0 j [] [] v.c.1.toNat (inp.map Prod.fst) j.dlen),
        f.writeAt (s.ctx q x w) b 0 (clean (runJob decomp 0 j [] [] v.c.1.toNat (inp.map Prod.fst) j.dlen).out)) := by
  have hlen : b.len = j.dlen := by
    have := e.ranges_areas _ _ _ _ _ _ hr
    simp only [List.map_cons, List.map_nil, List.cons.injEq, and_true] at this
    obtain ⟨_, rfl, _⟩ := this
    rfl
  unfold streamBody
  dsimp only
  rw [count32_small hlt]
  dsimp only
  rw [if_neg (ne_zero_of_toNat_pos hpos)]
  refine (Eng.run_bind_ok hthird).trans ?_
  rw [hmod, hjob]
  dsimp only
  rw [hchain, hin, hout, hdict]
  simp only [Option.map_none, Option.toList_none, List.append_nil]
  refine (Eng.run_ranges_bind hr).trans ?_
  simp only [List.isEmpty_nil, if_true]
  refine (Eng.run_bind_ok (Eng.run_pure _ _)).trans ((Eng.run_bind_ok (Eng.run_pure _ _)).trans ((Eng.run_bind_ok (Eng.run_pure _ _)).trans ?_))
  refine (Eng.run_check_bind rfl).trans ((Eng.run_check_bind rfl).trans ((Eng.run_bind_ok hread).trans ?_))
  rw [firstPoison_none hclean]
  generalize hk : Sink.mk _ _ _ = k
  have hdst : k.dst = b := by rw [← hk]; rfl
  have hspace : k.space = j.dlen := by rw [← hlen, ← hk]; exact Nat.add_zero _
  have htake : (inp.map fun u => u.1).take v.c.1.toNat = inp.map Prod.fst :=
    List.take_of_length_le (by simpa using Eng.read_length_le hread)
  rw [hspace, htake, List.map_nil]
  generalize hjob' : runJob decomp 0 j [] [] v.c.1.toNat (inp.map Prod.fst) j.dlen = r at hfault
  have hroom : (singles (clean r.out)).flatten.length ≤ k.dst.len := by
    rw [flatten_singles, hdst, hlen, clean, List.length_map]
    exact hjob' ▸ runJob_native_length decomp j [] [] v.c.1.toNat (inp.map Prod.fst) j.dlen
  refine (Eng.run_bind_ok (Eng.run_emit_fit f _ x k _ hroom)).trans ?_
  have hcheck : r.status ≠ 0x0212 := by
    intro hst
    rw [hst] at hfault
    exact absurd hfault (by decide)
  dsimp only [Sink.whole_stop]
  rw [Sink.whole_bytes, Sink.whole_fill, flatten_singles, hfault, if_neg (by simp), if_neg hcheck]
  simp only [clean, List.length_map, Bool.false_eq_true, if_false, Bool.not_true, and_false]
  rw [hdst]
  rfl

end Stream

/-- Compression in the native format does not fault. -/
theorem nativeEncode_isFault (level : Nat) (resume : Bool) (n : Nat) (bs : List Byte) (space : Nat) :
    isFault (nativeEncode level resume n bs space).status = false := by
  have hstatus : (nativeEncode level resume n bs space).status = 0 ∨ (nativeEncode level resume n bs space).status = 0x0102 :=
    takePieces_status space _ 0 []
  rcases hstatus with h | h <;> rw [h] <;> rfl

theorem streamJobs : Claims.StreamJobs := by
  intro p hp s q w x d e f a b t desc j inp h v n c src dst hmod hpos hlt hthird hjob _ hchain hin hout hdict hr hread hclean r hfault
  simp only [List.mem_cons, List.not_mem_nil, or_false] at hp
  rcases hp with rfl | rfl
  · exact State.issue_goes_on h (by decide) (by decide)
      (streamBody_run hmod hpos hlt hthird hjob hchain hin hout hdict hr hread hclean (nativeEncode_isFault _ _ _ _ _))
  · exact State.issue_goes_on h (by decide) (by decide)
      (streamBody_run hmod hpos hlt hthird hjob hchain hin hout hdict hr hread hclean (hfault rfl))

/-- Settles O14: a job stays within its space, so that its output lies in the destination as it is. -/
theorem transformStreams : Obligations.TransformStreams := ⟨streamJobs, nativeFits⟩

end Sys2Proof.Machine
end

section
/-!
PROOFS. CHECK, HASH and BYTESWAP (R233 to R236, R338 to R340).
-/
namespace Sys2Proof.Machine

section Check

variable {s : State} {q : Nat} {w : PWord} {x : Queue} {d e f : Dev} {v : Vals} {a b t : Area} {desc : List Byte} {k : CheckDesc} {inp : PBytes}

/-- The destination of CHECK, which compute does not have (R338). -/
def checkDst (w : PWord) (v : Vals) (len : Nat) : List Rng := if w.mod.toNat % 4 = 0 then [] else [dstRng w v len]

/-- What CHECK does with clean input and its areas: compute, append, verify (R233 to R236). -/
def checkWork (c : Ctx) (w : PWord) (k : CheckDesc) (as : List Area) (n : Nat) (bytes : List Byte) : Eng Result :=
  let mode := w.mod.toNat % 4
  let pay := if mode = 2 then n - ceilDiv k.width 8 else n
  let value := checkValue k (bytes.take pay)
  let word : Word := BitVec.ofNat 64 value
  match mode with
  | 0 => pure { r0 := word, regs := [(rn w.ra, word, false)], work := [pay] }
  | 1 => do
    Eng.write c (areaAt as 2) 0 (clean (bytes ++ k.bytes value))
    pure { r0 := word, work := [pay] }
  | _ => do
    Eng.write c (areaAt as 2) 0 (clean (bytes.take pay))
    let tail := bytes.drop pay
    let stored := natOfBytes (if k.big then tail.reverse else tail)
    if stored = value then pure { r0 := word, work := [pay] }
    else Eng.fault 0x0212 { r0 := word, r1 := BitVec.ofNat 64 stored, work := [pay] }

/-- CHECK of clean input whose descriptor and ranges pass. -/
theorem checkBody_run {len : Nat} {as : List Area} (hpos : 0 < v.c.1.toNat) (hlt : v.c.1.toNat < 2 ^ 32)
    (hthird : (Eng.third (s.ctx q x w) x w 32 ([srcRng w v v.c.1.toNat] ++ checkDst w v 0) false).run d = .ok (desc, e))
    (hk : checkDescOf desc = some k) (hfit : w.mod.toNat % 4 = 2 → ceilDiv k.width 8 ≤ v.c.1.toNat)
    (hdst : len = if w.mod.toNat % 4 = 1 then v.c.1.toNat + ceilDiv k.width 8 else
      if w.mod.toNat % 4 = 2 then v.c.1.toNat - ceilDiv k.width 8 else v.c.1.toNat)
    (hr : e.ranges q x ([srcRng w v v.c.1.toNat, thirdRng w 32] ++ checkDst w v len) false false = .ok (a :: as))
    (hread : (Eng.read (s.ctx q x w) a 0 v.c.1.toNat).run e = .ok (inp, f)) (hclean : inp.all (fun u => !u.2) = true) :
    (checkBody (s.ctx q x w) x w v).run d = (checkWork (s.ctx q x w) w k (a :: as) v.c.1.toNat (inp.map Prod.fst)).run f := by
  unfold checkBody
  dsimp only
  rw [count32_small hlt]
  dsimp only
  rw [if_neg (ne_zero_of_toNat_pos hpos)]
  refine (Eng.run_bind_ok hthird).trans ?_
  rw [hk]
  dsimp only
  refine (Eng.run_check_bind (by simpa [Decidable.imp_iff_not_or] using hfit)).trans ?_
  rw [hdst] at hr
  refine (Eng.run_ranges_bind hr).trans ((Eng.run_bind_ok hread).trans ?_)
  rw [firstPoison_none hclean]
  rfl

/-- Ranges of CHECK without and with its destination. -/
theorem checkDst_compute (hmod : w.mod.toNat % 4 = 0) (len : Nat) : checkDst w v len = [] := if_pos hmod
theorem checkDst_write (hmod : w.mod.toNat % 4 ≠ 0) (len : Nat) : checkDst w v len = [dstRng w v len] := if_neg hmod

end Check

theorem checkModes : Claims.CheckModes := by
  intro s q w x d e f a b t desc k inp h v n c src dst vb bytes hpos hlt hk hread hclean
  have hbytes : bytes.take n = bytes := List.take_of_length_le (by simpa [bytes] using Eng.read_length_le hread)
  refine ⟨fun hmod hthird hr => ?compute, fun hmod hthird hr => ?append, fun hmod hvb hthird hr => ?verify⟩
  case compute =>
    refine State.issue_goes_on h (by decide) (by decide) ?_
    refine (checkBody_run (len := n) hpos hlt ?_ hk (by omega) ?_ (as := [t]) ?_ hread hclean).trans ?_
    · rw [checkDst_compute hmod]
      exact hthird
    · rw [if_neg (by omega), if_neg (by omega)]
    · rw [checkDst_compute hmod]
      exact hr
    · unfold checkWork
      dsimp only
      rw [hmod, if_neg (by decide), hbytes]
      rfl
  case append =>
    have hmod0 : w.mod.toNat % 4 ≠ 0 := by omega
    refine State.issue_goes_on h (by decide) (by decide) ?_
    refine (checkBody_run (len := n + vb) hpos hlt ?_ hk (by omega) ?_ (as := [t, b]) ?_ hread hclean).trans ?_
    · rw [checkDst_write hmod0]
      exact hthird
    · rw [if_pos hmod]
      rfl
    · rw [checkDst_write hmod0]
      exact hr
    · unfold checkWork
      dsimp only
      rw [hmod, if_neg (by decide), hbytes]
      rfl
  case verify =>
    intro stored value g
    have hmod0 : w.mod.toNat % 4 ≠ 0 := by omega
    have hrun := checkBody_run (s := s) (q := q) (x := x) (v := v) (as := [t, b]) (len := n - vb) hpos hlt
      (by rw [checkDst_write hmod0]; exact hthird) hk (fun _ => hvb) (by rw [if_neg (by omega), if_pos hmod]; rfl)
      (by rw [checkDst_write hmod0]; exact hr) hread hclean
    have hwork : (checkWork c w k [a, t, b] n bytes).run f = (if stored = value then
        (pure { r0 := BitVec.ofNat 64 value, work := [n - vb] } : Eng Result)
        else Eng.fault 0x0212 { r0 := BitVec.ofNat 64 value, r1 := BitVec.ofNat 64 stored, work := [n - vb] }).run g := by
      unfold checkWork
      dsimp only
      rw [hmod]
      rfl
    refine ⟨fun heq => ?_, fun hne => ?_⟩
    · rw [if_pos heq] at hwork
      exact State.issue_goes_on h (by decide) (by decide) (hrun.trans hwork)
    · rw [if_neg hne] at hwork
      exact s.issue_faults q w checkPel x d g 0x0212 _ h (by decide) (hrun.trans hwork)

/-- Elements of a size, reversed one by one (R340). -/
theorem swapElems_eq (size n : Nat) (bs : List Byte) :
    swapElems size n bs = (List.range n).flatMap fun i => ((bs.drop (i * size)).take size).reverse := by
  induction n generalizing bs with
  | zero => rfl
  | succ n ih =>
    rw [swapElems, ih, List.range_succ_eq_map, List.flatMap_cons, List.flatMap_map]
    simp only [Nat.zero_mul, List.drop_zero, List.drop_drop, Nat.succ_mul, Nat.add_comm]

theorem hashAndByteswap : Claims.HashAndByteswap := by
  intro s q w x d f a b inp v n c bytes hpos hlt hclean
  refine ⟨fun h hcont hfinal hr hread => ?hash, fun h => ?swap⟩
  case hash =>
    intro pad
    refine State.issue_goes_on h (by decide) (by decide) ?_
    show (hashBody (s.ctx q x w) x w (x.vals w)).run (d.entered q x w 0x43) = _
    unfold hashBody
    dsimp only
    rw [count32_small hlt]
    dsimp only
    rw [if_neg (ne_zero_of_toNat_pos hpos), hcont, hfinal]
    simp only [Bool.false_eq_true, if_false, if_true, List.append_nil]
    refine (Eng.run_bind_ok (Eng.run_dev _)).trans ?_
    have hranges : (d.entered q x w 0x43).ranges q x [{ win := w.swin.toNat, off := (x.vals w).b.1.toNat, len := n },
        { win := w.dwin.toNat, off := (x.vals w).a.1.toNat, len := 32, right := 1 }] false false (Option.any Decoded.passed none) = .ok [a, b] := hr
    have hctx : (s.ctx q x w).q = q ∧ (s.ctx q x w).decoded = none := ⟨rfl, rfl⟩
    rw [hctx.1, hctx.2, hranges]
    dsimp only
    refine (Eng.run_check_bind rfl).trans ((Eng.run_bind_ok (Eng.run_pure _ _)).trans ?_)
    refine (Eng.run_check_bind rfl).trans ((Eng.run_check_bind rfl).trans ((Eng.run_bind_ok hread).trans ?_))
    rw [firstPoison_none hclean]
    dsimp only
    rw [Nat.zero_add, Nat.mod_eq_of_lt (by omega)]
    rfl
  case swap =>
    intro z hr hread
    refine State.issue_goes_on h (by decide) (by decide) ?_
    show (byteswapBody (s.ctx q x w) x w (x.vals w)).run (d.entered q x w 0x44) = _
    unfold byteswapBody
    dsimp only
    rw [count32_small hlt]
    dsimp only
    rw [if_neg (ne_zero_of_toNat_pos hpos)]
    refine (Eng.run_ranges_bind hr).trans ((Eng.run_bind_ok hread).trans ?_)
    rw [firstPoison_none hclean]
    refine (Eng.run_bind_ok (Eng.run_write _ _ _ _ _)).trans ?_
    rw [swapElems_eq]
    rfl

/-- Settles O15: clean input goes through the descriptor's check, the message's blocks or the elements, and is written in place. -/
theorem checksHashesAndSwaps : Obligations.ChecksHashesAndSwaps := ⟨checkModes, hashAndByteswap⟩

end Sys2Proof.Machine
end

section
/-!
PROOFS. Query instructions without a chain (R341, R342, R363 to R376): how a query's rows are written and reported, SCAN, GATHER and SCATTER.
-/
namespace Sys2Proof.Machine

section Query

variable {s : State} {q : Nat} {w : PWord} {x : Queue} {d e f : Dev} {v : Vals}

/-- Where the output of a query without a chain goes. -/
def querySink (rs : List Rng) (as : List Area) : Sink := { dst := areaAt as 1, chain := [], others := ((rs.map Rng.writes).zip as).eraseIdx 1 }

/-- The ranges of a query without a chain pass: its areas are theirs, and its output goes to the second. -/
theorem Eng.run_query {dn : Nat} {h : QHead} {src dst : Rng} {more : List Rng} {as : List Area} (hchain : h.chain = none)
    (hr : d.ranges q x (src :: dst :: thirdRng w dn :: more) false false = .ok as) :
    (Eng.query (s.ctx q x w) x w dn h src dst more false).run d =
      .ok ({ as := as, own := 3, sink := querySink (src :: dst :: thirdRng w dn :: more) as }, d) := by
  unfold Eng.query QHead.rngs
  rw [hchain]
  exact (Eng.run_ranges_bind hr).trans ((Eng.run_bind_ok (Eng.run_pure _ _)).trans ((Eng.run_check_bind rfl).trans rfl))

/-- What a query reports whose rows are all written (R341). -/
def rowsResult (n per width : Nat) (units : List (Nat × PBytes)) : Result :=
  let made := if per = 0 then units.length else min n (units.length * per)
  { r0 := BitVec.ofNat 64 n, r1 := BitVec.ofNat 64 made, r2 := BitVec.ofNat 64 (0xFFFFFFFF * 2 ^ 32 + (units.map Prod.snd).flatten.length),
    work := [1, n * width, made, n] }

/-- Rows that fit the destination are written there, and the query reports all of them. -/
theorem Eng.run_rows {c : Ctx} {k : Sink} {n per width : Nat} {units : List (Nat × PBytes)}
    (h : (units.map Prod.snd).flatten.length ≤ k.dst.len) :
    (Eng.rows c x k n per width { units := units }).run d =
      .ok (rowsResult n per width units, d.writeAt c k.dst 0 (units.map Prod.snd).flatten) := by
  unfold Eng.rows
  refine (Eng.run_bind_ok (Eng.run_emit_fit d c x k _ h)).trans ?_
  have hunits : (k.whole (units.map Prod.snd)).units = units.length := List.length_map _
  dsimp only [Sink.whole_stop]
  rw [hunits, Sink.whole_fill]
  rfl

end Query

/-! ### Elements of clean input -/

/-- Bytes without a poison mark are their own clean form. -/
theorem clean_map_fst {bs : PBytes} (h : bs.all (fun u => !u.2) = true) : clean (bs.map Prod.fst) = bs := by
  rw [clean, List.map_map]
  refine List.map_congr_left (fun u hu => ?_) |>.trans (List.map_id _)
  have := List.all_eq_true.mp h u hu
  exact Prod.ext rfl (by simpa using this.symm)

theorem sliceAt_clean {bs : PBytes} (h : bs.all (fun u => !u.2) = true) (i width : Nat) : (sliceAt bs i width).all (fun u => !u.2) = true :=
  List.all_eq_true.mpr fun u hu => List.all_eq_true.mp h u (List.mem_of_mem_drop (List.mem_of_mem_take hu))

theorem any_snd_of_clean {bs : PBytes} (h : bs.all (fun u => !u.2) = true) : bs.any (·.2) = false := by
  rw [List.any_eq_false]
  intro u hu
  simpa using List.all_eq_true.mp h u hu

theorem sliceAt_map_fst (bs : PBytes) (i width : Nat) : (sliceAt bs i width).map Prod.fst = ((bs.map Prod.fst).drop (i * width)).take width := by
  rw [sliceAt, List.map_take, List.map_drop]

theorem clean_flatten (ls : List (List Byte)) : (ls.map clean).flatten = clean ls.flatten := by
  simp only [clean, List.map_flatten]
  rfl

/-! ### SCAN -/

/-- SCAN without set and bitmap evaluates every row of clean input. -/
theorem ScanDesc.run_clean {k : ScanDesc} {inp nul : PBytes} (hbitmap : k.bitmap = false) (hclean : inp.all (fun u => !u.2) = true)
    (is : List Nat) (acc : List (Nat × Bool × PBytes)) :
    k.run [] inp nul is acc = (acc ++ is.map fun i => (i, k.selects [] (numOf (sliceAt inp i k.width)), sliceAt inp i k.width), none) := by
  induction is generalizing acc with
  | nil => simp [ScanDesc.run]
  | cons i t ih =>
    unfold ScanDesc.run
    simp only [hbitmap, any_snd_of_clean (sliceAt_clean hclean i k.width), Bool.false_eq_true, if_false, Bool.and_false, Bool.or_self]
    rw [ih]
    simp

/-- The bitmap of the rows selected (R365, R371). -/
def bitmapOf (n : Nat) (sel : Nat → Bool) : List Byte :=
  (List.range ((n + 7) / 8)).map fun j =>
    BitVec.ofNat 8 (((List.range 8).map fun i => if 8 * j + i < n ∧ sel (8 * j + i) then 2 ^ i else 0).sum)

/-- Bits of all n rows are packed into that bitmap. -/
theorem packBits_all (n : Nat) (sel : Nat → Bool) :
    (packBits ((List.range n).map sel) n).map Prod.snd = (bitmapOf n sel).map fun b => [(b, false)] := by
  unfold packBits bitmapOf ceilDiv
  simp only [List.length_map, List.length_range, if_true, List.map_map, Function.comp_def]
  refine List.map_congr_left fun j _ => ?_
  have hbit (i : Nat) : ((((List.range n).map sel)[8 * j + i]?).getD false = true) ↔ (8 * j + i < n ∧ sel (8 * j + i) = true) := by
    by_cases h : 8 * j + i < n
    · simp [h]
    · simp [h]
  simp only [hbit]

/-- The units that SCAN writes for rows it has evaluated (R371 to R373). -/
def ScanDesc.units (k : ScanDesc) (n : Nat) (rows : List (Nat × Bool × PBytes)) : List (Nat × PBytes) :=
  match k.form with
  | 0 => packBits (rows.map fun r => r.2.1) n
  | 1 => (rows.filter fun r => r.2.1).map fun r => (r.1, clean (bytesOfNat 8 ((k.rowBase + r.1) % 2 ^ 64)))
  | _ => (rows.filter fun r => r.2.1).map fun r => (r.1, r.2.2)

section Scan

variable {s : State} {q : Nat} {w : PWord} {x : Queue} {d e f : Dev} {v : Vals} {a b t : Area} {desc : List Byte} {k : ScanDesc} {inp : PBytes}

/-- SCAN without chain, set and null bitmap, of clean input, whose output fits. -/
theorem scanBody_run {rows : List (Nat × Bool × PBytes)} (hpos : 0 < v.c.1.toNat) (hlt : v.c.1.toNat < 2 ^ 32)
    (hthird : (Eng.third (s.ctx q x w) x w 160 [srcRng w v 0, dstRng w v 0] false).run d = .ok (desc, e)) (hk : scanDesc desc = some k)
    (hchain : k.head.chain = none) (hset : k.set = false) (hbitmap : k.bitmap = false)
    (hr : e.ranges q x [srcRng w v (v.c.1.toNat * k.width), dstRng w v k.head.dlen, thirdRng w 160] false false = .ok [a, b, t])
    (hread : (Eng.read (s.ctx q x w) a 0 (v.c.1.toNat * k.width)).run e = .ok (inp, f))
    (hrows : k.run [] inp [] (List.range v.c.1.toNat) [] = (rows, none))
    (hroom : ((k.units v.c.1.toNat rows).map Prod.snd).flatten.length ≤ k.head.dlen) :
    (scanBody (s.ctx q x w) x w v).run d = .ok (rowsResult v.c.1.toNat (if k.form = 0 then 8 else 0) k.width (k.units v.c.1.toNat rows),
      f.writeAt (s.ctx q x w) b 0 ((k.units v.c.1.toNat rows).map Prod.snd).flatten) := by
  have hlen : b.len = k.head.dlen := by
    have := e.ranges_areas _ _ _ _ _ _ hr
    simp only [List.map_cons, List.map_nil, List.cons.injEq, and_true] at this
    obtain ⟨_, rfl, _⟩ := this
    rfl
  unfold scanBody
  dsimp only
  rw [count32_small hlt]
  dsimp only
  rw [if_neg (ne_zero_of_toNat_pos hpos)]
  refine (Eng.run_bind_ok hthird).trans ?_
  rw [hk]
  dsimp only
  rw [hset, hbitmap]
  simp only [Bool.false_eq_true, if_false, List.append_nil]
  refine (Eng.run_bind_ok (Eng.run_query hchain hr)).trans ?_
  refine (Eng.run_bind_ok (Eng.run_pure _ _)).trans ((Eng.run_check_bind rfl).trans ((Eng.run_check_bind rfl).trans ?_))
  refine (Eng.run_bind_ok (Eng.run_pure _ _)).trans ((Eng.run_bind_ok hread).trans ?_)
  have hrun : k.run ((List.range 0).map fun i => numOf (sliceAt [] i k.width)) inp [] (List.range v.c.1.toNat) [] = (rows, none) := hrows
  rw [hrun]
  exact Eng.run_rows (Nat.le_trans hroom (Nat.le_of_eq hlen.symm))

end Scan

/-- A query's report follows from its output and the rows or units made. -/
theorem rowsResult_eq {n per width made : Nat} {units : List (Nat × PBytes)} {out : List Byte} (hout : (units.map Prod.snd).flatten = clean out)
    (hmade : (if per = 0 then units.length else min n (units.length * per)) = made) :
    rowsResult n per width units = {
      r0 := BitVec.ofNat 64 n, r1 := BitVec.ofNat 64 made, r2 := BitVec.ofNat 64 (0xFFFFFFFF * 2 ^ 32 + out.length),
      work := [1, n * width, made, n] } := by
  unfold rowsResult
  rw [hout, hmade, clean, List.length_map]

theorem packBits_length (n : Nat) (sel : Nat → Bool) : (packBits ((List.range n).map sel) n).length = (n + 7) / 8 := by
  simp [packBits, ceilDiv]

theorem flatten_clean_singles (bs : List Byte) : (bs.map fun b => [(b, false)]).flatten = clean bs := by
  induction bs with
  | nil => rfl
  | cons b t ih => simpa [clean] using ih

/-- The output of SCAN by its form (R371 to R373). -/
def scanOut (form rowBase n : Nat) (sel : Nat → Bool) (elem : Nat → List Byte) : List Byte :=
  match form with
  | 0 => bitmapOf n sel
  | 1 => ((List.range n).filter sel).flatMap fun i => bytesOfNat 8 ((rowBase + i) % 2 ^ 64)
  | _ => ((List.range n).filter sel).flatMap elem

/-- The units of SCAN's rows are its output, and as many as it reports. -/
theorem ScanDesc.units_rows (k : ScanDesc) (n : Nat) (sel : Nat → Bool) (slice : Nat → PBytes) (elem : Nat → List Byte)
    (hslice : ∀ i, slice i = clean (elem i)) :
    ((k.units n ((List.range n).map fun i => (i, sel i, slice i))).map Prod.snd).flatten = clean (scanOut k.form k.rowBase n sel elem) ∧
    (if (if k.form = 0 then 8 else 0) = 0 then (k.units n ((List.range n).map fun i => (i, sel i, slice i))).length
      else min n ((k.units n ((List.range n).map fun i => (i, sel i, slice i))).length * (if k.form = 0 then 8 else 0))) =
      if k.form = 0 then n else ((List.range n).filter sel).length := by
  unfold ScanDesc.units scanOut
  rcases k.form with _ | _ | form
  · simp only [List.map_map, Function.comp_def, packBits_all, flatten_clean_singles, packBits_length, if_true]
    refine ⟨trivial, ?_⟩
    rw [if_neg (by decide)]
    omega
  · simp [List.filter_map, Function.comp_def, clean, List.flatMap_def, List.map_flatten]
  · simp [List.filter_map, Function.comp_def, clean, List.flatMap_def, List.map_flatten, hslice]

theorem scanSelects : Claims.ScanSelects := by
  intro s q w x d e f a b t desc k inp h v n c src dst elem sel out hpos hlt hthird hk hchain hset hbitmap hroom hr hread hinp hclean
  have hsel (i : Nat) : k.selects [] (numOf (sliceAt inp i k.width)) = sel i := by
    unfold ScanDesc.selects numOf
    rw [sliceAt_map_fst, hset]
    simp [sel, elem]
  have hrows := ScanDesc.run_clean (nul := []) hbitmap hclean (List.range n) []
  simp only [hsel, List.nil_append] at hrows
  obtain ⟨hout, hmade⟩ := k.units_rows n sel (fun i => sliceAt inp i k.width) elem fun i =>
    (clean_map_fst (sliceAt_clean hclean i k.width)).symm.trans (congrArg clean (sliceAt_map_fst inp i k.width))
  have hscan : scanOut k.form k.rowBase n sel elem = out := rfl
  rw [hscan] at hout
  have hrun := scanBody_run hpos hlt hthird hk hchain hset hbitmap hr hread hrows (by rw [hout]; simpa [clean] using hroom)
  rw [rowsResult_eq hout hmade, hout] at hrun
  exact State.issue_goes_on h (by decide) (by decide) hrun

end Sys2Proof.Machine
end

section
/-!
PROOFS. GATHER and SCATTER without a chain (R342, R374 to R376).
-/
namespace Sys2Proof.Machine

/-- Index i of a list of clean indices. -/
def indexAt (ib : PBytes) (width i : Nat) : Nat := numOf (sliceAt ib i width)

/-- Clean indices below the count pass the check before any effect (R342). -/
theorem checkIdx_ok {ib : PBytes} {width count : Nat} (is acc : List Nat)
    (h : ∀ i ∈ is, (sliceAt ib i width).all (fun u => !u.2) = true ∧ indexAt ib width i < count) :
    checkIdx ib width count is acc = .ok (acc ++ is.map (indexAt ib width)) := by
  induction is generalizing acc with
  | nil => simp [checkIdx]
  | cons i t ih =>
    obtain ⟨hclean, hlt⟩ := h i (List.mem_cons_self ..)
    have hnot : ¬ count ≤ numOf (sliceAt ib i width) := Nat.not_le.mpr hlt
    unfold checkIdx
    dsimp only
    rw [any_snd_of_clean hclean, if_neg (by decide), if_neg hnot, ih _ fun j hj => h j (List.mem_cons_of_mem _ hj)]
    simp [indexAt]

/-- A list of n entries is given by its entries. -/
theorem eq_map_range {α : Type} {l : List α} {n : Nat} {f : Nat → α} (hlen : l.length = n) (h : ∀ i, i < n → l[i]? = some (f i)) :
    l = (List.range n).map f := by
  refine List.ext_getElem? fun i => ?_
  by_cases hi : i < n
  · simp [h i hi, hi]
  · rw [List.getElem?_eq_none (by omega), List.getElem?_eq_none (by simp; omega)]

section Lists

variable {s : State} {q : Nat} {w : PWord} {x : Queue} {d e f g : Dev} {v : Vals} {a b t m : Area} {desc : List Byte} {k : ListDesc} {ib vb : PBytes}
  {is : List Nat}

/-- GATHER without a chain, whose indices pass and whose elements fit (R374). -/
theorem gatherBody_run {vals : List PBytes} (hpos : 0 < v.c.1.toNat) (hlt : v.c.1.toNat < 2 ^ 32)
    (hthird : (Eng.third (s.ctx q x w) x w 64 [srcRng w v 0, dstRng w v 0] false).run d = .ok (desc, e)) (hk : listDesc desc 0x61 = some k)
    (hchain : k.head.chain = none)
    (hr : e.ranges q x [srcRng w v (v.c.1.toNat * k.idx), dstRng w v k.head.dlen, thirdRng w 64, ⟨k.win, k.off, k.count * k.width, 0, 1⟩] false false =
      .ok [a, b, t, m])
    (hread : (Eng.read (s.ctx q x w) a 0 (v.c.1.toNat * k.idx)).run e = .ok (ib, f))
    (hidx : checkIdx ib k.idx k.count (List.range v.c.1.toNat) [] = .ok is)
    (hvals : (is.mapM fun i => Eng.read (s.ctx q x w) m (i * k.width) k.width).run f = .ok (vals, g)) (hlen : vals.length = v.c.1.toNat)
    (hroom : vals.flatten.length ≤ k.head.dlen) :
    (gatherBody (s.ctx q x w) x w v).run d = .ok ({
        r0 := BitVec.ofNat 64 v.c.1.toNat, r1 := BitVec.ofNat 64 v.c.1.toNat, r2 := BitVec.ofNat 64 (0xFFFFFFFF * 2 ^ 32 + vals.flatten.length),
        work := [1, v.c.1.toNat * k.idx, v.c.1.toNat, v.c.1.toNat] },
      g.writeAt (s.ctx q x w) b 0 vals.flatten) := by
  have hblen : b.len = k.head.dlen := by
    have := e.ranges_areas _ _ _ _ _ _ hr
    simp only [List.map_cons, List.map_nil, List.cons.injEq, and_true] at this
    obtain ⟨_, rfl, _⟩ := this
    rfl
  have hunits : ((List.range v.c.1.toNat).zip vals).map Prod.snd = vals := List.map_snd_zip (by simp [hlen])
  unfold gatherBody
  dsimp only
  rw [count32_small hlt]
  dsimp only
  rw [if_neg (ne_zero_of_toNat_pos hpos)]
  refine (Eng.run_bind_ok hthird).trans ?_
  rw [hk]
  dsimp only
  refine (Eng.run_bind_ok (Eng.run_query hchain hr)).trans ((Eng.run_bind_ok hread).trans ?_)
  rw [hidx]
  refine (Eng.run_bind_ok hvals).trans ((Eng.run_rows ?_).trans ?_)
  · rw [hunits]
    exact Nat.le_trans hroom (Nat.le_of_eq hblen.symm)
  · unfold rowsResult
    rw [hunits]
    simp only [if_true, List.length_zip, List.length_range, hlen, Nat.min_self]
    rfl

/-- SCATTER, whose indices pass (R376). -/
theorem scatterBody_run (hpos : 0 < v.c.1.toNat) (hlt : v.c.1.toNat < 2 ^ 32)
    (hthird : (Eng.third (s.ctx q x w) x w 64 [srcRng w v 0, dstRng w v 0] false).run d = .ok (desc, e)) (hk : listDesc desc 0x62 = some k)
    (hchain : k.head.chain = none) (hdlen : k.head.dlen = 0)
    (hr : e.ranges q x [srcRng w v (v.c.1.toNat * k.width), dstRng w v (k.count * k.width), thirdRng w 64, ⟨k.win, k.off, v.c.1.toNat * k.idx, 0, 1⟩]
      false false = .ok [a, b, t, m])
    (hindices : (Eng.read (s.ctx q x w) m 0 (v.c.1.toNat * k.idx)).run e = .ok (ib, f))
    (hidx : checkIdx ib k.idx k.count (List.range v.c.1.toNat) [] = .ok is)
    (hread : (Eng.read (s.ctx q x w) a 0 (v.c.1.toNat * k.width)).run f = .ok (vb, g)) :
    (scatterBody (s.ctx q x w) x w v).run d = .ok ({
        r0 := some (BitVec.ofNat 64 v.c.1.toNat), r1 := some (BitVec.ofNat 64 v.c.1.toNat), r2 := some 0,
        work := [1, v.c.1.toNat * k.width, v.c.1.toNat, v.c.1.toNat] },
      ((is.zip (List.range v.c.1.toNat)).foldl (fun z u => mergeBytes z (b.base + u.1 * k.width) (sliceAt vb u.2 k.width)) []).foldl
        (fun dv u => dv.putLine (s.ctx q x w) b u.1 u.2.1 u.2.2.1 u.2.2.2) g) := by
  unfold scatterBody
  dsimp only
  rw [count32_small hlt]
  dsimp only
  rw [if_neg (ne_zero_of_toNat_pos hpos)]
  refine (Eng.run_bind_ok hthird).trans ?_
  rw [hk, Option.filter_some, if_pos (by simp [hdlen, hchain])]
  dsimp only
  refine (Eng.run_bind_ok (Eng.run_query hchain hr)).trans ((Eng.run_bind_ok hindices).trans ?_)
  rw [hidx]
  exact (Eng.run_bind_ok hread).trans ((Eng.run_bind_ok (Eng.run_upd _ _)).trans rfl)

end Lists

theorem gatherScatter : Claims.GatherScatter := by
  intro s q w x d e f g a b t m desc k ib vb vals is v n c src dst hpos hlt hchain hlen hentries hbelow
  have his : is = (List.range n).map (indexAt ib k.idx) := eq_map_range hlen fun i hi => (hentries i hi).2
  have hidx : checkIdx ib k.idx k.count (List.range n) [] = .ok is := by
    rw [his, checkIdx_ok]
    · rfl
    intro i hi
    refine ⟨(hentries i (List.mem_range.mp hi)).1, hbelow _ ?_⟩
    rw [his]
    exact List.mem_map_of_mem hi
  refine ⟨fun h hthird hk hr hread hvals hcount hroom => ?gather, fun h hthird hk hdlen hr hindices hread => ?scatter⟩
  case gather =>
    rw [List.flatMap_id] at hroom ⊢
    exact State.issue_goes_on h (by decide) (by decide) (gatherBody_run hpos hlt hthird hk hchain hr hread hidx hvals hcount hroom)
  case scatter =>
    exact State.issue_goes_on h (by decide) (by decide) (scatterBody_run hpos hlt hthird hk hchain hdlen hr hindices hidx hread)

/-- Settles O16: clean rows are all evaluated and clean indices all pass, and output that fits is written as it is. -/
theorem scansAndLists : Obligations.ScansAndLists := ⟨scanSelects, gatherScatter⟩

end Sys2Proof.Machine
end

section
/-!
PROOFS. PROBE and REDUCE without a chain (R377 to R387).
-/
namespace Sys2Proof.Machine

/-! ### PROBE -/

/-- The units that PROBE writes for keys it has looked up (R382). -/
def ProbeDesc.units (k : ProbeDesc) (pay n : Nat) (rows : List (Nat × Option (List Byte))) : List (Nat × PBytes) :=
  match k.form with
  | 0 => packBits (rows.map fun r => r.2.isSome) n
  | 1 => rows.filterMap fun r => r.2.map fun _ => (r.1, clean (bytesOfNat 8 ((k.base + r.1) % 2 ^ 64)))
  | 2 => rows.filterMap fun r => r.2.map fun p => (r.1, clean (bytesOfNat 8 ((k.base + r.1) % 2 ^ 64)) ++ clean p)
  | _ => rows.map fun r => (r.1, clean (r.2.getD (k.miss.take pay)))

/-- The bitmap of the keys found. -/
def foundBitmap (n : Nat) (rows : List (Nat × Option (List Byte))) : List (List Byte) :=
  (List.range ((n + 7) / 8)).map fun j => [BitVec.ofNat 8 (((List.range 8).map fun i =>
    if ((rows[8 * j + i]?).map fun r => r.2.isSome).getD false then 2 ^ i else 0).sum)]

/-- The same units as bytes. -/
def ProbeDesc.output (k : ProbeDesc) (pay n : Nat) (rows : List (Nat × Option (List Byte))) : List (List Byte) :=
  match k.form with
  | 0 => foundBitmap n rows
  | 1 => rows.filterMap fun r => r.2.map fun _ => bytesOfNat 8 ((k.base + r.1) % 2 ^ 64)
  | 2 => rows.filterMap fun r => r.2.map fun p => bytesOfNat 8 ((k.base + r.1) % 2 ^ 64) ++ p
  | _ => rows.map fun r => r.2.getD (k.miss.take pay)

theorem clean_append (a b : List Byte) : clean (a ++ b) = clean a ++ clean b := List.map_append

theorem ProbeDesc.units_output (k : ProbeDesc) (pay n : Nat) (rows : List (Nat × Option (List Byte))) (hrows : rows.length = n) :
    (k.units pay n rows).map Prod.snd = (k.output pay n rows).map clean := by
  unfold ProbeDesc.units ProbeDesc.output
  rcases k.form with _ | _ | _ | form
  · simp only [packBits, foundBitmap, ceilDiv, List.length_map, hrows, if_true, List.map_map, Function.comp_def, List.getElem?_map]
    rfl
  · simp only [List.map_filterMap, Option.map_map, Function.comp_def]
  · simp only [List.map_filterMap, Option.map_map, Function.comp_def, clean_append]
  · simp only [List.map_map, Function.comp_def]

/-- PROBE's report counts its units, or the keys where it writes a bitmap. -/
theorem ProbeDesc.units_made (k : ProbeDesc) (pay n : Nat) (rows : List (Nat × Option (List Byte))) (hrows : rows.length = n) :
    (if (if k.form = 0 then 8 else 0) = 0 then (k.units pay n rows).length
      else min n ((k.units pay n rows).length * (if k.form = 0 then 8 else 0))) = if k.form = 0 then n else (k.output pay n rows).length := by
  have hlen : (k.units pay n rows).length = (k.output pay n rows).length := by
    simpa using congrArg List.length (k.units_output pay n rows hrows)
  rw [hlen]
  by_cases hform : k.form = 0
  · have hbits : (k.output pay n rows).length = (n + 7) / 8 := by simp [ProbeDesc.output, hform, foundBitmap]
    rw [if_pos hform, if_pos hform, if_neg (by decide), hbits]
    omega
  · rw [if_neg hform, if_neg hform, if_pos rfl]

section Probe

variable {s : State} {q : Nat} {w : PWord} {x : Queue} {d e e1 e2 f : Dev} {v : Vals} {a b t h m : Area} {as : List Area} {desc : List Byte}
  {k : ProbeDesc} {y : HashTable} {hb keys : PBytes} {rows : List (Nat × Option (List Byte))}

/-- A range of PROBE's table. -/
def ProbeDesc.table (k : ProbeDesc) (len : Nat) : Rng := { win := k.win, off := k.off, len := len }

/-- PROBE without a chain, whose table's header passes and whose keys are all looked up. -/
theorem probeBody_run (hpos : 0 < v.c.1.toNat) (hlt : v.c.1.toNat < 2 ^ 32)
    (hthird : (Eng.third (s.ctx q x w) x w 64 [srcRng w v 0, dstRng w v 0] false).run d = .ok (desc, e)) (hk : probeDesc desc = some k)
    (hchain : k.head.chain = none)
    (hr0 : e.ranges q x [srcRng w v 0, dstRng w v 0, thirdRng w 64, { win := k.win, off := 0, len := 0 }] false false = .ok as)
    (halign : k.off % 64 = 0) (hheader : k.off + 64 ≤ (x.window k.win).length) (hr1 : e.ranges q x [k.table 64] false false = .ok [h])
    (hread : (Eng.read (s.ctx q x w) h 0 64).run e = .ok (hb, e1)) (hclean : hb.all (fun u => !u.2) = true)
    (hy : hashTable (hb.map Prod.fst) = some y) (hwhole : k.off + 64 + 128 * 2 ^ y.log ≤ (x.window k.win).length) (hpay : y.pay = 0 → k.form < 2)
    (hr : e1.ranges q x [srcRng w v (v.c.1.toNat * y.key), dstRng w v k.head.dlen, thirdRng w 64, k.table (64 + 128 * 2 ^ y.log)] false false =
      .ok [a, b, t, m])
    (hkeys : (Eng.read (s.ctx q x w) a 0 (v.c.1.toNat * y.key)).run e1 = .ok (keys, e2))
    (hlook : (probeKeys (s.ctx q x w) y m keys (List.range v.c.1.toNat) []).run e2 = .ok ((rows, none), f))
    (hroom : ((k.units y.pay v.c.1.toNat rows).map Prod.snd).flatten.length ≤ k.head.dlen) :
    (probeBody (s.ctx q x w) x w v).run d = .ok (rowsResult v.c.1.toNat (if k.form = 0 then 8 else 0) y.key (k.units y.pay v.c.1.toNat rows),
      f.writeAt (s.ctx q x w) b 0 ((k.units y.pay v.c.1.toNat rows).map Prod.snd).flatten) := by
  have hblen : b.len = k.head.dlen := by
    have := e1.ranges_areas _ _ _ _ _ _ hr
    simp only [List.map_cons, List.map_nil, List.cons.injEq, and_true] at this
    obtain ⟨_, rfl, _⟩ := this
    rfl
  have hfilter : (decide (k.off + 64 + 128 * 2 ^ y.log ≤ (x.window k.win).length) && !(y.pay == 0 && decide (2 ≤ k.form))) = true := by
    rw [decide_eq_true hwhole, Bool.true_and, Bool.not_eq_true', Bool.and_eq_false_iff, beq_eq_false_iff_ne, decide_eq_false_iff_not]
    omega
  unfold probeBody
  dsimp only
  rw [count32_small hlt]
  dsimp only
  rw [if_neg (ne_zero_of_toNat_pos hpos)]
  refine (Eng.run_bind_ok hthird).trans ?_
  rw [hk]
  dsimp only
  refine (Eng.run_ranges_bind hr0).trans ((Eng.run_check_bind (by simp [halign, hheader])).trans ((Eng.run_ranges_bind hr1).trans ?_))
  refine (Eng.run_bind_ok hread).trans ((Eng.run_check_bind (by rw [any_snd_of_clean hclean]; rfl)).trans ?_)
  have htable : hashTable (hb.map fun u => u.1) = some y := hy
  rw [htable, Option.filter_some, if_pos hfilter]
  dsimp only
  refine (Eng.run_bind_ok (Eng.run_query hchain hr)).trans ((Eng.run_bind_ok hkeys).trans ((Eng.run_bind_ok hlook).trans ?_))
  exact Eng.run_rows (Nat.le_trans hroom (Nat.le_of_eq hblen.symm))

end Probe

/-- Settles O17: the units that the form asks for fit, and so are written as they are. -/
theorem probeLooksUp : Obligations.ProbeLooksUp := by
  intro s q w x d e e1 e2 f a b t h m as desc k y hb keys rows hshows v n c src dst tab num units out hpos hlt hthird hk hchain hr0 halign hheader
    hr1 hread hclean hy hwhole hpay hr hkeys hlook hrows hroom
  have hunits : k.output y.pay n rows = units := rfl
  have hout : ((k.units y.pay n rows).map Prod.snd).flatten = clean out := by
    rw [k.units_output y.pay n rows hrows, clean_flatten, hunits]
    exact congrArg clean List.flatMap_id.symm
  have hmade := k.units_made y.pay n rows hrows
  have hrun := probeBody_run hpos hlt hthird hk hchain hr0 halign hheader hr1 hread hclean hy hwhole hpay hr hkeys hlook
    (by rw [hout]; simpa [clean] using hroom)
  rw [rowsResult_eq hout hmade, hout] at hrun
  exact State.issue_goes_on hshows (by decide) (by decide) hrun

end Sys2Proof.Machine
end

section
/-!
PROOFS. REDUCE without a chain, groups, selection and prior records (R383 to R387).
-/
namespace Sys2Proof.Machine

/-- Clean rows of one group are all added to its record. -/
theorem ReduceDesc.run_clean {k : ReduceDesc} {inp : PBytes} (hsel : k.sel = none) (hgroups : k.groups = 1)
    (hclean : inp.all (fun u => !u.2) = true) (is : List Nat) (a : Accum) :
    k.run inp [] [] is [a] = ([is.foldl (fun u i => u.add k.type k.width (numOf (sliceAt inp i k.width))) a], none) := by
  induction is generalizing a with
  | nil => rfl
  | cons i t ih =>
    unfold ReduceDesc.run
    have hgroup : sliceAt [] i k.gw = [] := by simp [sliceAt]
    simp only [hsel, hgroup, any_snd_of_clean (sliceAt_clean hclean i k.width), hgroups, Option.isSome_none, Bool.false_eq_true, if_false,
      Bool.not_true, List.any_nil, Bool.or_self]
    rw [if_neg (by decide)]
    exact ih _

theorem bytesOfNat_length (n v : Nat) : (bytesOfNat n v).length = n := by
  induction n generalizing v with
  | zero => rfl
  | succ n ih => simp [bytesOfNat, ih]

theorem Accum.bytes_length (a : Accum) : a.bytes.length = 64 := by simp [Accum.bytes, bytesOfNat_length]

section Reduce

variable {s : State} {q : Nat} {w : PWord} {x : Queue} {d e f : Dev} {v : Vals} {a b t : Area} {desc : List Byte} {k : ReduceDesc} {inp : PBytes}

/-- REDUCE of clean input into one group whose record fits. -/
theorem reduceBody_run {total : Accum} (hpos : 0 < v.c.1.toNat) (hlt : v.c.1.toNat < 2 ^ 32)
    (hthird : (Eng.third (s.ctx q x w) x w 64 [srcRng w v 0, dstRng w v 0] false).run d = .ok (desc, e)) (hk : reduceDesc desc = some k)
    (hchain : k.head.chain = none) (hgw : k.gw = 0) (hsel : k.sel = none) (hprior : k.prior = none) (hgroups : k.groups = 1)
    (hroom : 64 ≤ k.head.dlen)
    (hr : e.ranges q x [srcRng w v (v.c.1.toNat * k.width), dstRng w v k.head.dlen, thirdRng w 64] false false = .ok [a, b, t])
    (hread : (Eng.read (s.ctx q x w) a 0 (v.c.1.toNat * k.width)).run e = .ok (inp, f))
    (hrun : k.run inp [] [] (List.range v.c.1.toNat) [{}] = ([total], none)) :
    (reduceBody (s.ctx q x w) x w v).run d = .ok ({
        r0 := BitVec.ofNat 64 v.c.1.toNat, r1 := some 1, r2 := BitVec.ofNat 64 (0xFFFFFFFF * 2 ^ 32 + 64),
        work := [1, v.c.1.toNat * k.width, 1, v.c.1.toNat] },
      f.writeAt (s.ctx q x w) b 0 (clean total.bytes)) := by
  have hblen : b.len = k.head.dlen := by
    have := e.ranges_areas _ _ _ _ _ _ hr
    simp only [List.map_cons, List.map_nil, List.cons.injEq, and_true] at this
    obtain ⟨_, rfl, _⟩ := this
    rfl
  have hfits (u : Accum) : [clean u.bytes].flatten.length ≤ b.len := by
    simpa [clean, Accum.bytes_length, hblen] using hroom
  unfold reduceBody reduceRows
  dsimp only
  rw [count32_small hlt]
  dsimp only
  rw [if_neg (ne_zero_of_toNat_pos hpos)]
  refine (Eng.run_bind_ok hthird).trans ?_
  rw [hk]
  dsimp only
  rw [hgw, hsel, hprior, hgroups]
  simp only [Option.map_none, Option.toList_none, List.append_nil, if_true, Option.isSome_none, Bool.false_eq_true, if_false, false_and]
  refine (Eng.run_bind_ok (Eng.run_query hchain hr)).trans ((Eng.run_bind_ok (Eng.run_pure _ _)).trans ?_)
  refine (Eng.run_check_bind rfl).trans ((Eng.run_check_bind rfl).trans ((Eng.run_bind_ok (Eng.run_dev _)).trans ?_))
  have hrecs : ((List.range 1).map fun _ => some ({} : Accum)).map (fun u => u.getD {}) = [{}] := rfl
  rw [hrecs, List.map_cons, List.map_nil]
  dsimp only
  generalize hkk : querySink _ _ = kk
  have hdst : kk.dst = b := by rw [← hkk]; rfl
  rw [hdst, e.layUnits_fit (s.ctx q x w) x kk _ _ _ _ (by simp) (by simpa using hfits {})]
  dsimp only
  refine (Eng.run_bind_ok (Eng.run_pure _ _)).trans ((Eng.run_bind_ok (Eng.run_pure _ _)).trans ((Eng.run_bind_ok hread).trans ?_))
  rw [hrun]
  refine (Eng.run_bind_ok (Eng.run_emit_fit f _ x kk [clean total.bytes] (by rw [hdst]; exact hfits total))).trans ?_
  dsimp only
  rw [Sink.whole_fill, hdst]
  simp only [List.flatten_cons, List.flatten_nil, List.append_nil, clean, List.length_map, Accum.bytes_length]
  rfl

end Reduce

/-- On unsigned elements, less is less as numbers. -/
theorem elemCmp_unsigned_less (width x y : Nat) : elemCmp 0 width 2 x y = decide (x < y) := by
  simp [elemCmp, elemKey]

theorem accumulatorAddsUnsigned : Claims.AccumulatorAddsUnsigned := by
  intro a width v hv hcount hsum b
  have hb : b = { a with
      count := (a.count + 1) % 2 ^ 64, sum := (a.sum + v) % 2 ^ 128,
      min := if a.count = 0 ∨ v < a.min then v else a.min, max := if a.count = 0 ∨ a.max < v then v else a.max } := by
    simp [b, Accum.add, elemCmp_unsigned_less]
  rw [hb]
  dsimp only
  refine ⟨Nat.mod_eq_of_lt hcount, Nat.mod_eq_of_lt hsum, rfl, fun h => ?_, fun h => ?_⟩
  · rw [if_pos (.inl h), if_pos (.inl h)]
    exact ⟨rfl, rfl⟩
  · simp only [h, false_or]
    constructor <;> split <;> omega

theorem reduceAccumulates : Claims.ReduceAccumulates := by
  intro s q w x d e f a b t desc k inp h v n c src dst elem total hpos hlt hthird hk hchain hgw hsel hprior hgroups hroom hr hread hclean
  have hrun := ReduceDesc.run_clean hsel hgroups hclean (List.range n) {}
  have htotal : (List.range n).foldl (fun u i => u.add k.type k.width (numOf (sliceAt inp i k.width))) {} = total := by
    simp only [numOf, sliceAt_map_fst]
    rfl
  rw [htotal] at hrun
  exact State.issue_goes_on h (by decide) (by decide)
    (reduceBody_run hpos hlt hthird hk hchain hgw hsel hprior hgroups hroom hr hread hrun)

/-- Settles O18: clean rows all go to the one group, whose record of 64 bytes fits. -/
theorem reduces : Obligations.Reduces := ⟨reduceAccumulates, accumulatorAddsUnsigned⟩

end Sys2Proof.Machine
end

section
/-!
PROOFS. What the privileged instructions share (R346, R347): refusals in their order, operands and outputs, and SRAM arrays on which no test
feature is armed.
-/
namespace Sys2Proof.Machine

section Shared

variable {s : State} {q : Nat} {w : PWord} {x : Queue} {d e : Dev} {v : Vals}

/-- No condition holds: the instruction is not refused. -/
theorem Eng.run_refusals {status : Nat} {cs : List (Bool × Nat)} (h : cs.all (fun e => !e.1) = true) : (Eng.refusals status cs).run d = .ok ((), d) := by
  have hnone : cs.find? (·.1) = none := by
    rw [List.find?_eq_none]
    intro e he
    simpa using List.all_eq_true.mp h e he
  unfold Eng.refusals
  rw [hnone]
  rfl

theorem Eng.run_refusals_bind {α : Type} {status : Nat} {cs : List (Bool × Nat)} {f : Unit → Eng α} (h : cs.all (fun e => !e.1) = true) :
    (Eng.refusals status cs >>= f).run d = (f ()).run d := Eng.run_bind_ok (Eng.run_refusals h)

theorem length_flatMap_of_const {α β : Type} {f : α → List β} {n : Nat} {l : List α} (h : ∀ x ∈ l, (f x).length = n) :
    (l.flatMap f).length = l.length * n := by
  rw [List.length_flatMap, List.map_congr_left h, List.map_const', List.sum_replicate_nat]

theorem wordsBytes_length (ws : List Nat) : (wordsBytes ws).length = 8 * ws.length :=
  (length_flatMap_of_const fun x _ => bytesOfNat_length 8 x).trans (Nat.mul_comm _ _)

/-- Output bytes go to offset ra of dwin once their range passes. -/
theorem Eng.run_output_bind {α : Type} {bs : List Byte} {n : Nat} {a : Area} {f : Unit → Eng α} (hlen : bs.length = n)
    (hr : d.ranges q x [dstRng w v n] false false = .ok [a]) :
    (Eng.output (s.ctx q x w) x w v bs >>= f).run d = (f ()).run (d.writeAt (s.ctx q x w) a 0 (clean bs)) := by
  subst hlen
  exact Eng.run_bind_ok ((Eng.run_ranges_bind hr).trans (Eng.run_write _ _ _ _ _))

end Shared

/-! ### Arrays without a test feature -/

section Arrays

variable {d : Dev} (h : d.faults.armed = [])
include h

theorem Dev.arrayWrite_unarmed (u : Nat) : d.arrayWrite u = (0, d) := by simp [Dev.arrayWrite, Dev.takeFlip, Dev.armedOn, h]

theorem Dev.arrayRead_unarmed (u code : Nat) : d.arrayRead u code = d := by simp [Dev.arrayRead, Dev.takeInvert, Dev.armedOn, h]

theorem Dev.grottoArray_unarmed (g : Nat) : d.grottoArray g = d := by
  unfold Dev.grottoArray
  rw [Dev.arrayRead_unarmed h, Dev.arrayWrite_unarmed h]
  rfl

theorem Dev.queueArray_unarmed (q : Nat) : d.queueArray q = d := by
  unfold Dev.queueArray
  rw [Dev.arrayRead_unarmed h, Dev.arrayWrite_unarmed h]
  dsimp only
  split <;> rfl

end Arrays

/-! ### Fields of the immediate -/

theorem bitsOf_low (n hi : Nat) : bitsOf n hi 0 = n % 2 ^ (hi + 1) := rfl

theorem immG_eq (w : PWord) : immG w = w.imm.toNat % 64 := rfl
theorem immQ_eq (w : PWord) : immQ w = w.imm.toNat % 8192 := rfl

theorem bitsOf_eq (n hi lo : Nat) : bitsOf n hi lo = n / 2 ^ lo % 2 ^ (hi + 1 - lo) := by
  rw [bitsOf, Nat.shiftRight_eq_div_pow]

theorem immLink_eq (w : PWord) : immLink w = w.imm.toNat / 64 % 8 := bitsOf_eq _ _ _
theorem immLd_eq (w : PWord) : immLd w = w.imm.toNat / 512 % 16 := bitsOf_eq _ _ _
theorem immH_eq (w : PWord) : immH w = w.imm.toNat / 8192 % 64 := bitsOf_eq _ _ _

/-- Entering an instruction arms and disarms nothing, and leaves grottos, slices and keys. -/
theorem Dev.entered_faults (d : Dev) (q : Nat) (x : Queue) (w : PWord) (op : Nat) : (d.entered q x w op).faults = d.faults := by
  obtain ⟨k, he, _⟩ := d.entered_eq q x w op
  rw [he]

theorem Dev.entered_grottos (d : Dev) (q : Nat) (x : Queue) (w : PWord) (op : Nat) : (d.entered q x w op).grottos = d.grottos := by
  obtain ⟨k, he, _⟩ := d.entered_eq q x w op
  rw [he]

theorem Dev.entered_slices (d : Dev) (q : Nat) (x : Queue) (w : PWord) (op : Nat) : (d.entered q x w op).slices = d.slices := by
  obtain ⟨k, he, _⟩ := d.entered_eq q x w op
  rw [he]

theorem Dev.entered_grotto? (d : Dev) (q : Nat) (x : Queue) (w : PWord) (op g : Nat) : (d.entered q x w op).grotto? g = d.grotto? g :=
  congrArg (mget · g) (d.entered_grottos q x w op)

end Sys2Proof.Machine
end

section
/-!
PROOFS. POLICY (R244, R245, R354).
-/
namespace Sys2Proof.Machine

section Policy

variable {s : State} {q : Nat} {w : PWord} {x : Queue} {d e : Dev} {v : Vals}

theorem policyDescriptor_run {bs : List Byte} (hop : (Eng.operand (s.ctx q x w) x w v 64).run d = .ok (bs, e))
    (hfields : ∀ r ∈ descRanges, r.2.2.1 ≤ fieldAt bs r.1 r.2.1 ∧ fieldAt bs r.1 r.2.1 ≤ r.2.2.2) (hbudget : fieldAt bs 10 2 ≤ e.deliverable / 8) :
    (policyDescriptorPel.body (s.ctx q x w) x w v).run d = .ok ({}, e.onFlow fun f => f.described bs) := by
  have hnone : (descRanges.find? fun r => decide (fieldAt bs r.1 r.2.1 < r.2.2.1 ∨ r.2.2.2 < fieldAt bs r.1 r.2.1)) = none := by
    rw [List.find?_eq_none]
    intro r hr
    obtain ⟨hlo, hhi⟩ := hfields r hr
    simp only [decide_eq_true_eq]
    omega
  unfold policyDescriptorPel
  refine (Eng.run_bind_ok hop).trans ((Eng.run_bind_ok (Eng.run_dev _)).trans ?_)
  rw [hnone]
  dsimp only
  rw [if_neg (Nat.not_lt.mpr hbudget)]
  rfl

theorem policyGrottoEntry_run {g : Nat} {y : Grotto} (hg : immG w = g) (hlow : 1 ≤ v.b.1.toNat / 2 ^ 60) (hhigh : v.b.1.toNat / 2 ^ 60 ≤ 9)
    (hmode : v.b.1.toNat / 2 ^ 58 % 4 ≠ 3) (hzero : v.b.1.toNat % 2 ^ 34 = 0) (hy : d.grotto? g = some y) :
    (policyGrottoEntryPel.body (s.ctx q x w) x w v).run d =
      .ok ({}, (d.onFlow fun f => { f with entries := mset f.entries g v.b.1 }).setGrotto g (y.withEntry v.b.1)) := by
  have hlevel : bitsOf v.b.1.toNat 63 60 = v.b.1.toNat / 2 ^ 60 := by
    rw [bitsOf_eq]
    omega
  have hbits : (List.range 34).find? (fun i => v.b.1.toNat.testBit i) = none := by
    rw [List.find?_eq_none]
    intro i hi
    have hlow : (v.b.1.toNat % 2 ^ 34).testBit i = v.b.1.toNat.testBit i := by
      rw [Nat.testBit_mod_two_pow, decide_eq_true (List.mem_range.mp hi), Bool.true_and]
    rw [← hlow, hzero, Nat.zero_testBit]
    decide
  unfold policyGrottoEntryPel
  dsimp only
  rw [if_neg (by rw [hlevel]; omega), if_neg (by rw [bitsOf_eq]; exact hmode), hbits, hg]
  refine (Eng.run_bind_ok (Eng.run_upd _ _)).trans ?_
  unfold Dev.modGrotto
  have hy' : (d.onFlow fun f => { f with entries := mset f.entries g v.b.1 }).grotto? g = some y := hy
  rw [hy']
  rfl

theorem policyLoadProgram_run {a : Area} {ps : PBytes} (hpos : 1 ≤ v.c.1.toNat) (hle : v.c.1.toNat ≤ 256)
    (hr : d.ranges q x [{ win := w.swin.toNat, off := v.a.1.toNat, len := 16 * v.c.1.toNat }] false false = .ok [a])
    (hread : (Eng.read (s.ctx q x w) a 0 (16 * v.c.1.toNat)).run d = .ok (ps, e)) (hclean : ps.all (fun u => !u.2) = true) :
    (policyLoadProgramPel.body (s.ctx q x w) x w v).run d = .ok ({}, e.onFlow fun f =>
      ({ f with builtin := false, program := chunk16 v.c.1.toNat (ps.map Prod.fst), progFault := false } : Flow).extend (sha256 (ps.map Prod.fst))) := by
  unfold policyLoadProgramPel
  dsimp only
  rw [if_neg (by omega)]
  refine (Eng.run_ranges_bind hr).trans ?_
  rw [if_neg (by omega)]
  refine (Eng.run_bind_ok hread).trans ((Eng.run_check_bind (by rw [any_snd_of_clean hclean]; rfl)).trans ?_)
  rfl

theorem chunk16_length (n : Nat) (bs : List Byte) : (chunk16 n bs).length = n := by
  induction n generalizing bs with
  | zero => rfl
  | succ n ih => simp [chunk16, ih]

theorem policySetLimits_run (hbi : v.b.1.toNat % 65536 ≤ 1000) (hframe : v.b.1.toNat / 65536 % 65536 ≤ 4000) (hmark : v.b.1.toNat / 2 ^ 32 ≤ 40)
    (hidle : v.c.1.toNat ≤ 1000000) :
    (policySetLimitsPel.body (s.ctx q x w) x w v).run d = .ok ({}, d.onFlow fun f => { f with
      biTimeout := orKeep (v.b.1.toNat % 65536) f.biTimeout, frameLimit := orKeep (v.b.1.toNat / 65536 % 65536) f.frameLimit,
      watermark := orKeep (v.b.1.toNat / 2 ^ 32) f.watermark, idleTime := orKeep v.c.1.toNat f.idleTime }) := by
  have hb0 : bitsOf v.b.1.toNat 15 0 = v.b.1.toNat % 65536 := rfl
  have hb1 : bitsOf v.b.1.toNat 31 16 = v.b.1.toNat / 65536 % 65536 := bitsOf_eq _ _ _
  have hb2 : bitsOf v.b.1.toNat 39 32 = v.b.1.toNat / 2 ^ 32 := by rw [bitsOf_eq]; omega
  have hb3 : bitsOf v.b.1.toNat 63 40 = 0 := by rw [bitsOf_eq]; omega
  have hk0 : bitsOf v.c.1.toNat 29 0 = v.c.1.toNat := by rw [bitsOf_low]; omega
  have hk1 : bitsOf v.c.1.toNat 63 30 = 0 := by rw [bitsOf_eq]; omega
  unfold policySetLimitsPel
  dsimp only
  rw [hb0, hb1, hb2, hb3, hk0, hk1, decide_eq_false (by omega), decide_eq_false (by omega), decide_eq_false (by omega), decide_eq_false (by omega)]
  rfl

end Policy

theorem wordsBytes_pair (a b : Nat) : wordsBytes [a, b] = bytesOfNat 8 a ++ bytesOfNat 8 b := by simp [wordsBytes]

theorem policy : Claims.Policy := by
  intro s q w x d e a bs ps y v c E
  refine ⟨fun h hop hfields hbudget => ?descriptor, fun h => ?entry, fun h => ?program, fun h => ?limits, fun h hr => ?read⟩
  case descriptor =>
    exact State.issue_goes_on h (by decide) (by decide) (policyDescriptor_run hop hfields hbudget)
  case entry =>
    intro n g hlow hhigh hmode hzero hy
    have hy' : E.grotto? g = some y := (d.entered_grotto? q x w 0xC6 g).trans hy
    refine (State.issue_goes_on h (by decide) (by decide) (policyGrottoEntry_run (immG_eq w) hlow hhigh hmode hzero hy')).trans ?_
    have hentry : y.withEntry v.b.1 = { y with
        level := n / 2 ^ 60, spillMode := n / 2 ^ 58 % 4, coldMark := n / 2 ^ 50 % 256, farMark := n / 2 ^ 42 % 256,
        hotMark := n / 2 ^ 34 % 256 } := by
      have hlevel : n / 2 ^ 60 % 2 ^ 4 = n / 2 ^ 60 := by omega
      simp only [Grotto.withEntry, bitsOf_eq]
      rw [hlevel] <;> rfl
    rw [hentry]
    rfl
  case program =>
    intro n hpos hle hr hread hclean
    refine ⟨_, State.issue_goes_on h (by decide) (by decide) (policyLoadProgram_run hpos hle hr hread hclean), ?_, rfl, rfl, rfl, rfl⟩
    exact chunk16_length _ _
  case limits =>
    intro b k hbi hframe hmark hidle
    exact State.issue_goes_on h (by decide) (by decide) (policySetLimits_run hbi hframe hmark hidle)
  case read =>
    have hflow : E.flow = d.flow := by
      obtain ⟨k, he, _⟩ := d.entered_eq q x w 0xC6
      show (d.entered q x w 0xC6).flow = _
      rw [he]
    rw [← hflow]
    refine State.issue_goes_on h (by decide) (by decide) ?_
    unfold policyReadLimitsPel
    refine (Eng.run_bind_ok (Eng.run_dev _)).trans ((Eng.run_output_bind (wordsBytes_length _) hr).trans ?_)
    rw [wordsBytes_pair]
    rfl

/-- Settles O22: no range refuses the fields given, and each body then makes its one change. -/
theorem policyInstructions : Obligations.PolicyInstructions := policy

end Sys2Proof.Machine
end

section
/-!
PROOFS. QUEUE and WINDOW (R268 to R270, R277, R349, R350).
-/
namespace Sys2Proof.Machine

theorem Dev.queueArray_setQueue {d : Dev} (h : d.faults.armed = []) (q p : Nat) (x : Queue) :
    (d.setQueue q x).queueArray p = d.setQueue q x := Dev.queueArray_unarmed (d := d.setQueue q x) h p

section Queue

variable {s : State} {q : Nat} {w : PWord} {x : Queue} {d e f : Dev} {v : Vals} {bs : List Byte}

/-- QUEUE write over a queue that exists (R270). -/
theorem queueWrite_run_over {y : Queue} (hop : (Eng.operand (s.ctx q x w) x w v 32).run d = .ok (bs, e)) (harmed : e.faults.armed = [])
    (hconds : (e.queueConds (immQ w) bs).all (fun k => !k.1) = true) (hy : e.queue? (immQ w) = some y) :
    (queueWritePel.body (s.ctx q x w) x w v).run d = .ok ({}, e.setQueue (immQ w) { y with recd := qrecOf bs, dirty := true }) := by
  unfold queueWritePel
  refine (Eng.run_bind_ok hop).trans ((Eng.run_bind_ok (Eng.run_dev _)).trans ((Eng.run_refusals_bind hconds).trans ?_))
  rw [hy]
  refine (Eng.run_bind_ok (Eng.run_upd _ _)).trans ((Eng.run_bind_ok (Eng.run_upd _ _)).trans ?_)
  rw [Dev.queueArray_setQueue harmed]
  rfl

/-- The rings of a new queue, zeroed (R269). -/
def Eng.zeroRings (c : Ctx) (r : QRec) : Eng Unit := do
  Eng.zeroArea c { resv := false, g := r.grotto, base := r.ringBase, len := r.ringBytes }
  if !r.crHost then Eng.zeroArea c { resv := false, g := r.grotto, base := r.crBase, len := r.crBytes }

/-- QUEUE write of a new queue (R269). -/
theorem queueWrite_run_new (hop : (Eng.operand (s.ctx q x w) x w v 32).run d = .ok (bs, e))
    (hconds : (e.queueConds (immQ w) bs).all (fun k => !k.1) = true) (hnone : e.queue? (immQ w) = none)
    (hzero : (Eng.zeroRings (s.ctx q x w) (qrecOf bs)).run e = .ok ((), f)) (harmed : f.faults.armed = []) :
    (queueWritePel.body (s.ctx q x w) x w v).run d = .ok ({}, f.setQueue (immQ w) { recd := qrecOf bs }) := by
  obtain ⟨_, e1, hring, hcr⟩ := Eng.run_bind_inv hzero
  unfold queueWritePel
  refine (Eng.run_bind_ok hop).trans ((Eng.run_bind_ok (Eng.run_dev _)).trans ((Eng.run_refusals_bind hconds).trans ?_))
  rw [hnone]
  refine (Eng.run_bind_ok hring).trans ?_
  have hend : (do
      Eng.upd fun d => d.setQueue (immQ w) { recd := qrecOf bs }
      Eng.upd fun d => d.queueArray (immQ w)
      pure {} : Eng Result).run f = .ok ({}, f.setQueue (immQ w) { recd := qrecOf bs }) := by
    refine (Eng.run_bind_ok (Eng.run_upd _ _)).trans ((Eng.run_bind_ok (Eng.run_upd _ _)).trans ?_)
    rw [Dev.queueArray_setQueue harmed]
    rfl
  cases hhost : (qrecOf bs).crHost with
  | true =>
    rw [hhost] at hcr
    cases hcr
    exact hend
  | false =>
    rw [hhost] at hcr
    exact (Eng.run_bind_ok hcr).trans hend

end Queue

theorem queueRecords : Claims.QueueRecords := by
  intro s q w x d e f a bs y n c E
  refine ⟨fun h hop harmed hconds hy => ?change, fun h hop hconds hnone => ?new, fun h hlow hbusy => ?delete, fun h hn hr => ?read⟩
  case change =>
    exact State.issue_goes_on h (by decide) (by decide) (queueWrite_run_over hop harmed hconds hy)
  case new =>
    intro r hzero harmed
    exact State.issue_goes_on h (by decide) (by decide) (queueWrite_run_new hop hconds hnone hzero harmed)
  case delete =>
    refine State.issue_goes_on h (by decide) (by decide) ?_
    unfold queueDeletePel
    refine (Eng.run_bind_ok (Eng.run_dev _)).trans ((Eng.run_refusals_bind ?_).trans ?_)
    · have hbusy' : ((d.entered q x w 0xC1).queue? (immQ w)).any Queue.busy = false := hbusy
      have hlow' : ¬ immQ w < 16 := Nat.not_lt.mpr hlow
      simp [hbusy', hlow']
    · rfl
  case read =>
    refine State.issue_goes_on h (by decide) (by decide) ?_
    unfold queueReadPel
    refine (Eng.run_bind_ok (Eng.run_dev _)).trans ?_
    have hn' : ¬ (immQ w = 0 ∧ isQ0 (s.ctx q x w).q) := fun hq => hn hq.1
    rw [if_neg hn']
    refine (Eng.run_output_bind ?_ hr).trans rfl
    split
    · exact wordsBytes_length _
    · rfl

section Window

variable {s : State} {q : Nat} {w : PWord} {x z : Queue} {d : Dev} {v : Vals}

/-- A queue that is named by its number is the one that a WINDOW means. -/
theorem winTarget_eq (c : Ctx) (h : immQ w ≠ 0) : winTarget c w = immQ w := if_neg fun hq => h hq.1

/-- The conditions on the queue named hold for none that exists and, in a write, is not a fabric manager's window 0. -/
theorem Dev.winConds_none {c : Ctx} {fix : Bool} (h : immQ w ≠ 0) (hz : d.queue? (immQ w) = some z)
    (hfix : fix = true → 1 ≤ immQ w ∧ immQ w ≤ 15 → immH w ≠ 0) : (d.winConds c w fix).all (fun e => !e.1) = true := by
  have hfm : (fix && isFm (immQ w) && immH w == 0) = false := by
    cases fix
    · rfl
    · by_cases hfmq : isFm (immQ w) = true
      · have hne := hfix rfl (by simpa [isFm] using hfmq)
        simp [hne]
      · simp [hfmq]
  unfold Dev.winConds
  rw [winTarget_eq c h]
  dsimp only
  rw [hz, hfm]
  simp [h]

/-- A descriptor whose fields R277 and R350 allow is not odd. -/
theorem windowOdd_false {w0 w1 : Nat} (hkind : bitsOf w0 57 56 ≠ 3) (hstaging : bitsOf w0 57 56 = 2 → bitsOf w0 63 58 = 0)
    (hodd0 : bitsOf w0 52 45 = 0) (hodd1 : bitsOf w1 63 45 = 0) :
    (bitsOf w0 52 45 != 0 || bitsOf w1 63 45 != 0 || (windowOf w0 w1).kind == 3 || ((windowOf w0 w1).kind == 2 && (windowOf w0 w1).grotto != 0)) = false := by
  have hkind' : (windowOf w0 w1).kind ≠ 3 := hkind
  have hstaging' : (windowOf w0 w1).kind = 2 → (windowOf w0 w1).grotto = 0 := hstaging
  rw [hodd0, hodd1, beq_eq_false_iff_ne.mpr hkind']
  by_cases hk : (windowOf w0 w1).kind = 2
  · simp [hstaging' hk]
  · simp [hk]

theorem windowWrite_run (h : immQ w ≠ 0) (hz : d.queue? (immQ w) = some z) (harmed : d.faults.armed = [])
    (hfm : 1 ≤ immQ w ∧ immQ w ≤ 15 → immH w ≠ 0) (hfits : d.winFits (s.ctx q x w) (windowOf v.b.1.toNat v.c.1.toNat) = true)
    (hkind : bitsOf v.b.1.toNat 57 56 ≠ 3) (hstaging : bitsOf v.b.1.toNat 57 56 = 2 → privQ (immQ w) = true ∧ bitsOf v.b.1.toNat 63 58 = 0)
    (hodd0 : bitsOf v.b.1.toNat 52 45 = 0) (hodd1 : bitsOf v.c.1.toNat 63 45 = 0) :
    (windowWritePel.body (s.ctx q x w) x w v).run d =
      .ok ({}, d.setQueue (immQ w) { z with windows := mset z.windows (immH w) (windowOf v.b.1.toNat v.c.1.toNat) }) := by
  unfold windowWritePel
  refine (Eng.run_bind_ok (Eng.run_dev _)).trans ?_
  rw [winTarget_eq _ h]
  refine (Eng.run_refusals_bind ?_).trans ((Eng.run_bind_ok (Eng.run_upd _ _)).trans ?_)
  · have hpriv : ((windowOf v.b.1.toNat v.c.1.toNat).kind == 2 && immQ w != 0 && !privQ (immQ w)) = false := by
      by_cases hk : (windowOf v.b.1.toNat v.c.1.toNat).kind = 2
      · rw [(hstaging hk).1]
        simp
      · simp [hk]
    rw [List.all_append, Dev.winConds_none h hz (fun _ => hfm), Bool.and_true, hfits, hpriv,
      windowOdd_false hkind (fun hk => (hstaging hk).2) hodd0 hodd1]
    rfl
  · rw [hz]
    dsimp only
    rw [Dev.queueArray_setQueue harmed]
    rfl

theorem windowInvalidate_run (h : immQ w ≠ 0) (hz : d.queue? (immQ w) = some z) (hfm : 1 ≤ immQ w ∧ immQ w ≤ 15 → immH w ≠ 0) :
    (windowInvalidatePel.body (s.ctx q x w) x w v).run d =
      .ok ({}, d.setQueue (immQ w) { z with windows := mset z.windows (immH w) { mgetD z.windows (immH w) {} with kind := 0 } }) := by
  unfold windowInvalidatePel
  refine (Eng.run_bind_ok (Eng.run_dev _)).trans ?_
  rw [winTarget_eq _ h]
  refine (Eng.run_refusals_bind (Dev.winConds_none h hz fun _ => hfm)).trans ((Eng.run_bind_ok (Eng.run_upd _ _)).trans ?_)
  rw [hz]
  rfl

theorem windowRead_run {a : Area} (h : immQ w ≠ 0) (hz : d.queue? (immQ w) = some z)
    (hr : d.ranges q x [dstRng w v 16] false false = .ok [a]) :
    (windowReadPel.body (s.ctx q x w) x w v).run d =
      .ok ({}, d.writeAt (s.ctx q x w) a 0 (clean (wordsBytes (mgetD z.windows (immH w) {}).words))) := by
  have hlow : immH w % 64 = immH w := Nat.mod_eq_of_lt (immH_eq w ▸ Nat.mod_lt _ (by decide))
  unfold windowReadPel
  refine (Eng.run_bind_ok (Eng.run_dev _)).trans ((Eng.run_ranges_bind hr).trans ?_)
  rw [winTarget_eq _ h]
  refine (Eng.run_refusals_bind (Dev.winConds_none h hz fun hfix => by cases hfix)).trans ?_
  rw [hz]
  dsimp only
  unfold Queue.window
  rw [hlow]
  rfl

end Window

theorem windows : Claims.Windows := by
  intro s q w x d a z n hh c E w0 w1 hn hz
  refine ⟨fun h harmed hfm hfits hkind hstaging hodd0 hodd1 => ?write, fun h hfm => ?invalidate, fun h hr => ?read⟩
  case write =>
    have harmed' : E.faults.armed = [] := (congrArg Faults.armed (d.entered_faults q x w 0xC2)).trans harmed
    have hrun := windowWrite_run (s := s) (q := q) (x := x) (v := x.vals w) hn hz harmed' (immH_eq w ▸ hfm) hfits hkind hstaging hodd0 hodd1
    rw [immH_eq] at hrun
    exact State.issue_goes_on h (by decide) (by decide) hrun
  case invalidate =>
    have hrun := windowInvalidate_run (s := s) (q := q) (x := x) (v := x.vals w) hn hz (immH_eq w ▸ hfm)
    rw [immH_eq] at hrun
    exact State.issue_goes_on h (by decide) (by decide) hrun
  case read =>
    have hrun := windowRead_run (s := s) hn hz hr
    rw [immH_eq] at hrun
    exact State.issue_goes_on h (by decide) (by decide) hrun

/-- Settles O20: no condition of the table holds, and each body then makes its one change. -/
theorem queueAndWindowInstructions : Obligations.QueueAndWindowInstructions := ⟨queueRecords, windows⟩

end Sys2Proof.Machine
end

section
/-!
PROOFS. What the sweep of a fence (R182, R185) leaves alone, and what it leaves of the copies that a source held.
-/
namespace Sys2Proof.Machine

/-! ### Fault records arm and disarm nothing -/

section Raise

variable (d : Dev)

theorem Dev.endDoze_faults : d.endDoze.faults = d.faults :=
  foldl_view Dev.faults _ (fun d e => by split <;> rfl) d.links d

theorem Dev.wake_faults (src detail : Nat) : (d.wake src detail).faults = d.faults := by
  unfold Dev.wake
  dsimp only
  split
  · rfl
  split
  · exact d.endDoze_faults
  · split <;> rfl
  · rfl

theorem Dev.interrupt_faults (l ld k : Nat) : (d.interrupt l ld k).faults = d.faults := by
  unfold Dev.interrupt
  dsimp only
  split <;> rfl

theorem Dev.logAdd_faults (l ld log : Nat) (r : LogRec) : (d.logAdd l ld log r).faults = d.faults := by
  unfold Dev.logAdd
  dsimp only
  split
  · rfl
  split
  · exact Dev.interrupt_faults _ _ _ _
  · rfl

theorem Dev.logCopy_faults (r : FaultRec) : (d.logCopy r).faults = d.faults := by
  unfold Dev.logCopy
  split
  · exact foldl_view Dev.faults _ (fun d t => d.logAdd_faults _ _ _ _) _ _
  · rfl

theorem Dev.enter_armed (r : FaultRec) (a : Bool) : (d.enter r a).faults.armed = d.faults.armed := by
  unfold Dev.enter
  dsimp only
  split
  · split <;> rfl
  · rfl

theorem Dev.raise_armed (h : Hap) : (d.raise h).faults.armed = d.faults.armed := by
  unfold Dev.raise
  dsimp only
  split
  · split
    · show ((Dev.enter _ _ _).wake _ _).faults.armed = _
      rw [Dev.wake_faults, Dev.enter_armed]
      rfl
    · exact Dev.enter_armed _ _ _
  · rw [Dev.logCopy_faults]
    split
    · rw [Dev.wake_faults, Dev.enter_armed]
      rfl
    · exact Dev.enter_armed _ _ _

end Raise

/-! ### The sweep changes the home slices alone -/

/-- The second device differs from the first in its home slices alone. -/
def Dev.SlicesOnly (a b : Dev) : Prop := ∃ sl : Slices, b = { a with slices := sl }

theorem Dev.SlicesOnly.refl (d : Dev) : d.SlicesOnly d := ⟨d.slices, rfl⟩

theorem Dev.SlicesOnly.trans {a b c : Dev} (h : a.SlicesOnly b) (k : b.SlicesOnly c) : a.SlicesOnly c := by
  obtain ⟨sl, rfl⟩ := h
  obtain ⟨sm, rfl⟩ := k
  exact ⟨sm, rfl⟩

theorem Dev.SlicesOnly.armed {a b : Dev} (h : a.SlicesOnly b) (ha : a.faults.armed = []) : b.faults.armed = [] := by
  obtain ⟨sl, rfl⟩ := h
  exact ha

theorem Dev.SlicesOnly.grottos {a b : Dev} (h : a.SlicesOnly b) : b.grottos = a.grottos := by
  obtain ⟨sl, rfl⟩ := h
  rfl

/-- The same for a chain of steps that need unarmed features. -/
theorem Dev.SlicesOnly.step {a b c : Dev} (h : a.SlicesOnly b) (ha : a.faults.armed = []) (k : b.faults.armed = [] → b.SlicesOnly c) : a.SlicesOnly c :=
  h.trans (k (h.armed ha))

section Sweep

variable (d : Dev)

theorem Dev.again_slicesOnly (mode : Nat) (r : Req) : d.SlicesOnly (d.again mode r) := ⟨_, rfl⟩
theorem Dev.dirDrop_slicesOnly (g line : Nat) : d.SlicesOnly (d.dirDrop g line) := ⟨_, rfl⟩
theorem Dev.poisonWhole_slicesOnly (g line : Nat) : d.SlicesOnly (d.poisonWhole g line) := ⟨_, rfl⟩

theorem Dev.againAll_slicesOnly (mode : Nat) (rs : List Req) : d.SlicesOnly (d.againAll mode rs) := by
  induction rs generalizing d with
  | nil => exact .refl d
  | cons r t ih => exact (d.again_slicesOnly mode r).trans (ih _)

theorem Dev.retrySlots_slicesOnly : d.SlicesOnly d.retrySlots :=
  Dev.SlicesOnly.trans (b := { d with slices := { d.slices with slotWait := [] } }) ⟨_, rfl⟩ (Dev.againAll_slicesOnly _ _ _)

variable {d} (h : d.faults.armed = [])
include h

theorem Dev.dirPut_unarmed (g line : Nat) (e : DirEntry) :
    d.dirPut g line e = ({ d with slices := { d.slices with dir := mset d.slices.dir (lineKey g line) { e with errBits := 0 } } } : Dev).dirUse g line := by
  unfold Dev.dirPut
  rw [Dev.arrayWrite_unarmed h]

theorem Dev.dirPut_slicesOnly (g line : Nat) (e : DirEntry) : d.SlicesOnly (d.dirPut g line e) := by
  rw [Dev.dirPut_unarmed h]
  exact ⟨_, rfl⟩

/-- What the end of a round leaves in its directory entry. -/
theorem Dev.endRound_entry (g line : Nat) (e : DirEntry) :
    d.SlicesOnly (if e.track.evict then d.dirDrop g line
      else match e.track.leftE with
        | some o => d.dirPut g line { st := .E, sharers := [o] }
        | none => if e.track.leftS.isEmpty then d.dirDrop g line else d.dirPut g line { st := .S, sharers := e.track.leftS }) := by
  split
  · exact d.dirDrop_slicesOnly g line
  split
  · exact Dev.dirPut_slicesOnly h g line _
  split
  · exact d.dirDrop_slicesOnly g line
  · exact Dev.dirPut_slicesOnly h g line _

/-- What the request that began a round leaves in the directory entry. -/
theorem Dev.endRound_cause (g line : Nat) (e : DirEntry) (c : Req) :
    d.SlicesOnly (match c.op with
      | .readS =>
        if c.internal then d
        else match d.dirGet g line with
          | some x => d.dirPut g line { x with sharers := x.sharers.filter (· != c.src) ++ [c.src] }
          | none => d.dirPut g line { st := .S, sharers := [c.src] }
      | .readE => d.dirPut g line { st := .E, sharers := [c.src] }
      | .atomic => d.dirPut g line { st := .D, track := { owner := d.agentOf c, parked := e.track.parked } }
      | _ => d) := by
  split
  · split
    · exact .refl d
    split <;> exact Dev.dirPut_slicesOnly h g line _
  · exact Dev.dirPut_slicesOnly h g line _
  · exact Dev.dirPut_slicesOnly h g line _
  · exact .refl d

theorem Dev.endRound_slicesOnly (g line : Nat) (e : DirEntry) : d.SlicesOnly (d.endRound g line e) := by
  unfold Dev.endRound
  extract_lets t d1 d2 held
  have hentry : d.SlicesOnly d1 := Dev.endRound_entry h g line e
  have hcause : d1.SlicesOnly d2 := by
    unfold d2
    split
    · next c _ =>
      split
      · exact d1.again_slicesOnly 1 c
      · exact (Dev.endRound_cause (hentry.armed h) g line e c).trans (Dev.again_slicesOnly _ 2 c)
    · exact .refl d1
  refine (hentry.trans hcause).trans ?_
  split
  · exact d2.retrySlots_slicesOnly
  · exact (d2.againAll_slicesOnly 1 t.parked).trans (Dev.retrySlots_slicesOnly _)

theorem Dev.checkRound_slicesOnly (g line : Nat) : d.SlicesOnly (d.checkRound g line) := by
  unfold Dev.checkRound
  split
  · split
    · exact Dev.endRound_slicesOnly h g line _
    · exact .refl d
  · exact .refl d

theorem Dev.resolveSilent_slicesOnly (g line src : Nat) : d.SlicesOnly (d.resolveSilent g line src) := by
  unfold Dev.resolveSilent
  extract_lets sl d1 d2
  have hdrop : d.SlicesOnly d1 := ⟨_, rfl⟩
  have hpoison : d1.SlicesOnly d2 := by
    unfold d2
    split
    · split
      · exact d1.poisonWhole_slicesOnly g line
      · exact .refl d1
    · exact .refl d1
  exact (hdrop.trans hpoison).step h fun h2 => Dev.checkRound_slicesOnly h2 g line

end Sweep

/-- What the sweep of a fence does at one directory entry (R182). -/
def Dev.sweepEntry (g src : Nat) (acc : Nat × Dev) (e : Nat × DirEntry) : Nat × Dev :=
  let (n, d) := acc
  if keyGrotto e.1 = g then
    let line := keyLine e.1
    match e.2.st with
    | .E => if e.2.sharers.contains src then (n + 1, (d.dirDrop g line).poisonWhole g line) else (n, d)
    | .S =>
      if !e.2.bcast ∧ e.2.sharers.contains src then
        let sh := e.2.sharers.filter (· != src)
        (n, if sh.isEmpty then d.dirDrop g line else d.dirPut g line { e.2 with sharers := sh })
      else (n, d)
    | .B =>
      if d.slices.snoops.any fun s => s.g == g && s.line == line && srcOf s.link s.ld == src then
        (if e.2.track.priorE then n + 1 else n, d.resolveSilent g line src)
      else (n, d)
    | .D => (n, d)
  else acc

theorem Dev.fenceSweep_eq (d : Dev) (g src : Nat) : d.fenceSweep g src = d.slices.dir.foldl (Dev.sweepEntry g src) (0, d) := rfl

theorem Dev.sweepEntry_slicesOnly (g src : Nat) (acc : Nat × Dev) (e : Nat × DirEntry) (h : acc.2.faults.armed = []) :
    acc.2.SlicesOnly (Dev.sweepEntry g src acc e).2 := by
  obtain ⟨n, d⟩ := acc
  unfold Dev.sweepEntry
  dsimp only
  split
  · split
    · split
      · exact (d.dirDrop_slicesOnly g _).trans (Dev.poisonWhole_slicesOnly _ g _)
      · exact .refl d
    · split
      · dsimp only
        split
        · exact d.dirDrop_slicesOnly g _
        · exact Dev.dirPut_slicesOnly h g _ _
      · exact .refl d
    · split
      · exact Dev.resolveSilent_slicesOnly h g _ src
      · exact .refl d
    · exact .refl d
  · exact .refl d

theorem Dev.sweepFold_slicesOnly (g src : Nat) (l : List (Nat × DirEntry)) (acc : Nat × Dev) (h : acc.2.faults.armed = []) :
    acc.2.SlicesOnly (l.foldl (Dev.sweepEntry g src) acc).2 := by
  induction l generalizing acc with
  | nil => exact .refl _
  | cons e t ih => exact (Dev.sweepEntry_slicesOnly g src acc e h).step h fun h1 => ih _ h1

theorem Dev.fenceSweep_slicesOnly (d : Dev) (g src : Nat) (h : d.faults.armed = []) : d.SlicesOnly (d.fenceSweep g src).2 :=
  Dev.sweepFold_slicesOnly g src d.slices.dir (0, d) h

/-- The copies of a fenced attachment are dropped without a change to the grotto table, and no test feature is armed by it. -/
theorem Dev.dropCopies_table (d : Dev) (g src : Nat) (h : d.faults.armed = []) :
    (d.dropCopies g src).grottos = d.grottos ∧ (d.dropCopies g src).faults.armed = [] := by
  have hsweep := d.fenceSweep_slicesOnly g src h
  unfold Dev.dropCopies
  split
  · exact ⟨rfl, h⟩
  dsimp only
  split
  · exact ⟨(Dev.event_keeps _ _ _ _ _ _).grottos.trans hsweep.grottos, (Dev.raise_armed _ _).trans (hsweep.armed h)⟩
  · exact ⟨hsweep.grottos, hsweep.armed h⟩


/-! ### What the sweep leaves of a source's copies -/

/-- A source has no copy by an entry, but where the entry is in broadcast. -/
def DirEntry.ClearOf (e : DirEntry) (src : Nat) : Prop := e.bcast = true ∨ src ∉ e.sharers

theorem lineKey_keyLine {k g : Nat} (h : keyGrotto k = g) : lineKey g (keyLine k) = k := by
  subst h
  unfold lineKey keyGrotto keyLine
  omega

/-- A directory in rising order whose entries of a grotto are clear of a source, but for those still to come. -/
structure SweptBut (dir : AMap DirEntry) (g src : Nat) (rest : List (Nat × DirEntry)) : Prop where
  rising : risingFrom 0 dir = true
  swept : ∀ k v, mget dir k = some v → keyGrotto k = g → v.ClearOf src ∨ (k, v) ∈ rest

/-- An entry that needs no change is swept. -/
theorem SweptBut.pass {dir : AMap DirEntry} {g src : Nat} {e : Nat × DirEntry} {t : List (Nat × DirEntry)} (h : SweptBut dir g src (e :: t))
    (hclear : keyGrotto e.1 = g → e.2.ClearOf src) : SweptBut dir g src t := by
  refine ⟨h.rising, fun k v hk hg => ?_⟩
  rcases h.swept k v hk hg with hc | hm
  · exact .inl hc
  · rcases List.mem_cons.mp hm with heq | ht
    · exact .inl (by subst heq; exact hclear hg)
    · exact .inr ht

/-- An entry that is removed is swept. -/
theorem SweptBut.drop {dir : AMap DirEntry} {g src : Nat} {e : Nat × DirEntry} {t : List (Nat × DirEntry)} (h : SweptBut dir g src (e :: t)) :
    SweptBut (merase dir e.1) g src t := by
  refine ⟨merase_rising _ _ _ h.rising, fun k v hk hg => ?_⟩
  rw [mget_merase _ _ _ _ h.rising] at hk
  split at hk
  · cases hk
  next hne =>
  rcases h.swept k v hk hg with hc | hm
  · exact .inl hc
  · rcases List.mem_cons.mp hm with heq | ht
    · exact absurd (congrArg Prod.fst heq) hne
    · exact .inr ht

/-- An entry that is replaced by a clear one is swept. -/
theorem SweptBut.put {dir : AMap DirEntry} {g src : Nat} {e : Nat × DirEntry} {t : List (Nat × DirEntry)} {x : DirEntry}
    (h : SweptBut dir g src (e :: t)) (hx : x.ClearOf src) : SweptBut (mset dir e.1 x) g src t := by
  refine ⟨mset_rising _ _ _ _ h.rising (Nat.zero_le _), fun k v hk hg => ?_⟩
  rw [mget_mset] at hk
  split at hk
  · obtain rfl := Option.some.inj hk
    exact .inl hx
  next hne =>
  rcases h.swept k v hk hg with hc | hm
  · exact .inl hc
  · rcases List.mem_cons.mp hm with heq | ht
    · exact absurd (congrArg Prod.fst heq) hne
    · exact .inr ht

theorem Dev.sweepEntry_swept {g src n : Nat} {d : Dev} {e : Nat × DirEntry} {t : List (Nat × DirEntry)} (harmed : d.faults.armed = [])
    (hst : keyGrotto e.1 = g → e.2.st = .S ∨ e.2.st = .E) (h : SweptBut d.slices.dir g src (e :: t)) :
    SweptBut (Dev.sweepEntry g src (n, d) e).2.slices.dir g src t := by
  unfold Dev.sweepEntry
  dsimp only
  split
  case isFalse hg => exact h.pass fun hk => absurd hk hg
  case isTrue hg =>
  rcases hst hg with hS | hE
  · rw [hS]
    dsimp only
    split
    case isTrue hin =>
      dsimp only
      split
      · show SweptBut (merase d.slices.dir (lineKey g (keyLine e.1))) g src t
        rw [lineKey_keyLine hg]
        exact h.drop
      · rw [Dev.dirPut_unarmed harmed]
        show SweptBut (mset d.slices.dir (lineKey g (keyLine e.1)) _) g src t
        rw [lineKey_keyLine hg]
        exact h.put (.inr (by simp))
    case isFalse hin =>
      refine h.pass fun _ => ?_
      simp only [Bool.not_eq_true', List.contains_iff_mem, Classical.not_and_iff_not_or_not, Bool.not_eq_false] at hin
      exact hin
  · rw [hE]
    dsimp only
    split
    · show SweptBut (merase d.slices.dir (lineKey g (keyLine e.1))) g src t
      rw [lineKey_keyLine hg]
      exact h.drop
    case isFalse hin => exact h.pass fun _ => .inr (by simpa using hin)

theorem Dev.sweepFold_swept {g src : Nat} (l : List (Nat × DirEntry)) (n : Nat) (d : Dev) (harmed : d.faults.armed = [])
    (hst : ∀ e ∈ l, keyGrotto e.1 = g → e.2.st = .S ∨ e.2.st = .E) (h : SweptBut d.slices.dir g src l) :
    SweptBut (l.foldl (Dev.sweepEntry g src) (n, d)).2.slices.dir g src [] := by
  induction l generalizing n d with
  | nil => exact h
  | cons e t ih =>
    rw [List.foldl_cons]
    have hsame : Dev.sweepEntry g src (n, d) e = ((Dev.sweepEntry g src (n, d) e).1, (Dev.sweepEntry g src (n, d) e).2) := rfl
    rw [hsame]
    exact ih _ _ ((Dev.sweepEntry_slicesOnly g src (n, d) e harmed).armed harmed) (fun u hu => hst u (List.mem_cons_of_mem _ hu))
      (Dev.sweepEntry_swept harmed (hst e (List.mem_cons_self ..)) h)

theorem mget_mem {α : Type} {m : AMap α} {k : Nat} {v : α} (h : mget m k = some v) : (k, v) ∈ m := by
  induction m with
  | nil => cases h
  | cons e t ih =>
    obtain ⟨j, u⟩ := e
    rw [mget_cons] at h
    split at h
    case isTrue heq =>
      subst heq
      obtain rfl := Option.some.inj h
      exact List.mem_cons_self ..
    case isFalse => exact List.mem_cons_of_mem _ (ih h)

/-- A fenced attachment returns with no copies recorded but in broadcast entries (R185). -/
theorem Dev.dropCopies_clear {d : Dev} {g src : Nat} (harmed : d.faults.armed = []) (hrise : risingFrom 0 d.slices.dir = true)
    (hst : ∀ k v, (k, v) ∈ d.slices.dir → keyGrotto k = g → v.st = .S ∨ v.st = .E) (hfenced : d.fencedSrc g src = true) (k : Nat) (v : DirEntry)
    (hk : mget (d.dropCopies g src).slices.dir k = some v) (hg : keyGrotto k = g) : v.ClearOf src := by
  have hswept : SweptBut (d.fenceSweep g src).2.slices.dir g src [] :=
    Dev.sweepFold_swept d.slices.dir 0 d harmed (fun e he => hst e.1 e.2 he) ⟨hrise, fun k v hk _ => .inr (mget_mem hk)⟩
  have hdir : (d.dropCopies g src).slices.dir = (d.fenceSweep g src).2.slices.dir := by
    unfold Dev.dropCopies
    rw [hfenced, if_neg (by decide)]
    dsimp only
    split
    · rw [(Dev.event_keeps _ _ _ _ _ _).slices]
      rfl
    · rfl
  rw [hdir] at hk
  exact (hswept.swept k v hk hg).resolve_right (by simp)

end Sys2Proof.Machine
end

section
/-!
PROOFS. GROTTO (R47, R48, R76 to R80, R348): records, attachments and extent offers.
-/
namespace Sys2Proof.Machine

section Record

variable {d e f : Dev} {g base : Nat} {bs : List Byte}

/-- A record that passes its checks changes nothing yet, but for the free choice of its map run. -/
theorem Dev.checkRecord_ok {old : Option Grotto} (h : d.checkRecord g old bs = .ok (base, f)) : ∃ n, f = { d with freeCtr := n } := by
  unfold Dev.checkRecord at h
  extract_lets x live sum keep run after conds at h
  have hrun : ∀ b d1, run = some (b, d1) → ∃ n, d1 = { d with freeCtr := n } := by
    intro b d1 hb
    unfold run at hb
    split at hb
    · cases hb
      exact ⟨d.freeCtr, rfl⟩
    · unfold Dev.freeRun at hb
      dsimp only at hb
      split at hb
      · cases hb
      · cases hb
        unfold Dev.choose
        split
        · exact ⟨d.freeCtr, rfl⟩
        · exact ⟨_, rfl⟩
  split at h
  · cases h
  · next hb =>
    cases h
    exact hrun _ _ hb
  · cases h

/-- The record that a write makes over an old one. -/
def Dev.recordOver (d : Dev) (g : Nat) (old : Option Grotto) (bs : List Byte) (base : Nat) : Grotto :=
  { (old.getD (match mget d.flow.entries g with
      | some e => ({} : Grotto).withEntry e
      | none => {})).written bs with mapBase := base }

/-- Returning a fenced grotto to active changes its attachments alone in the table, and arms nothing. -/
theorem Dev.unfence_record {x : Grotto} (harmed : d.faults.armed = []) (hx : d.grotto? g = some x) :
    (∃ l, (d.unfence g).grotto? g = some { x with attaches := l }) ∧ (d.unfence g).faults.armed = [] := by
  obtain ⟨hgrottos, harmed'⟩ := d.dropCopies_table g (srcOf (d.grotto g).ownerLink (d.grotto g).ownerLd) harmed
  have hx' : (d.dropCopies g (srcOf (d.grotto g).ownerLink (d.grotto g).ownerLd)).grotto? g = some x := (congrArg (mget · g) hgrottos).trans hx
  unfold Dev.unfence Dev.modGrotto
  dsimp only
  rw [hx']
  exact ⟨⟨_, mget_mset_self _ _ _⟩, harmed'⟩

theorem Dev.markPages_view (d : Dev) (g page n : Nat) : d.markPages g page n = { d with ev := (d.markPages g page n).ev } := by
  unfold Dev.markPages
  split <;> rfl

/-- A mirrored grotto that is activated with no partner is only recorded and marked (R455). -/
theorem Dev.partnerless_keeps (d : Dev) (g : Nat) (h : Hap) (n : Nat) (p : Prop) [Decidable p] :
    (if p then (d.raise h).markPages g 0 n else d).grottos = d.grottos ∧ (if p then (d.raise h).markPages g 0 n else d).faults.armed = d.faults.armed ∧
    (if p then (d.raise h).markPages g 0 n else d).mem = d.mem ∧ (if p then (d.raise h).markPages g 0 n else d).pages = d.pages ∧
    (if p then (d.raise h).markPages g 0 n else d).keys = d.keys := by
  split
  · rw [Dev.markPages_view]
    have hk := d.raise_keeps h
    exact ⟨hk.grottos, d.raise_armed h, hk.mem, hk.pages, hk.keys⟩
  · exact ⟨rfl, rfl, rfl, rfl, rfl⟩

/-- A checked record that does not take a grotto out of service stands in the table with its fields; but for a fenced one's return, memory, pages and
keys stay. -/
theorem Dev.putRecord_record (harmed : d.faults.armed = []) (old : Option Grotto) (hlive : (old.map Grotto.state).getD 0 = 0 ∨ field bs 0 63 62 ≠ 0) :
    (∃ l, (d.putRecord g old bs base).grotto? g = some { d.recordOver g old bs base with attaches := l }) ∧
    ((old.map Grotto.state).getD 0 ≠ 2 → (d.putRecord g old bs base).mem = d.mem ∧ (d.putRecord g old bs base).pages = d.pages ∧
      (d.putRecord g old bs base).keys = d.keys) := by
  have hx : (d.setGrotto g (d.recordOver g old bs base)).grotto? g = some (d.recordOver g old bs base) := mget_mset_self _ _ _
  have hstate : (d.recordOver g old bs base).state = field bs 0 63 62 := rfl
  unfold Dev.putRecord
  extract_lets fresh src x was d1 d2 d3
  have hfacts : (∃ l, d2.grotto? g = some { d.recordOver g old bs base with attaches := l }) ∧ d2.faults.armed = [] ∧ (was ≠ 2 → d2 = d1) := by
    unfold d2
    split
    case isTrue hback =>
      obtain ⟨hrec, harm⟩ := Dev.unfence_record (d := d1) harmed hx
      exact ⟨hrec, harm, fun hne => absurd hback.1 hne⟩
    case isFalse =>
      have hno : ¬ (was ≠ 0 ∧ x.state = 0) := fun ⟨hwas, hzero⟩ => hlive.elim hwas fun hf => hf hzero
      rw [if_neg hno]
      exact ⟨⟨_, hx⟩, harmed, fun _ => rfl⟩
  obtain ⟨⟨l, hrec⟩, harm, hsame⟩ := hfacts
  obtain ⟨hgrottos, harm3, hmem, hpages, hkeys⟩ := d2.partnerless_keeps g { code := 0x5004, cls := 2, unit := 0, grotto := some g, detail := g }
    (x.units * unitPages) (was = 0 ∧ x.state = 1 ∧ x.mirror ∧ !d.roped g)
  rw [Dev.grottoArray_unarmed (harm3.trans harm)]
  refine ⟨⟨l, (congrArg (mget · g) hgrottos).trans hrec⟩, fun hne => ?_⟩
  have hs := hsame hne
  have hmem1 : d1.mem = d.mem ∧ d1.pages = d.pages ∧ d1.keys = d.keys := ⟨rfl, rfl, rfl⟩
  exact ⟨(hmem.trans (congrArg Dev.mem hs)).trans hmem1.1, (hpages.trans (congrArg Dev.pages hs)).trans hmem1.2.1,
    (hkeys.trans (congrArg Dev.keys hs)).trans hmem1.2.2⟩

end Record

section Body

variable {s : State} {q : Nat} {w : PWord} {x : Queue} {d e f : Dev} {v : Vals} {bs : List Byte} {base g : Nat} {y : Grotto}

/-- GROTTO write of a record that passes and does not take its grotto out of service. -/
theorem grottoWrite_run (hop : (Eng.operand (s.ctx q x w) x w v 32).run d = .ok (bs, e))
    (hlive : ((e.grotto? (w.imm.toNat % 64)).map Grotto.state).getD 0 = 0 ∨ field bs 0 63 62 ≠ 0)
    (hcheck : e.checkRecord (w.imm.toNat % 64) (e.grotto? (w.imm.toNat % 64)) bs = .ok (base, f)) :
    (grottoWritePel.body (s.ctx q x w) x w v).run d =
      .ok ({}, f.putRecord (w.imm.toNat % 64) (f.grotto? (w.imm.toNat % 64)) bs base) := by
  have hstay : ¬ (((e.grotto? (w.imm.toNat % 64)).map (·.state)).getD 0 ≠ 0 ∧ field bs 0 63 62 = 0) :=
    fun ⟨hwas, hzero⟩ => hlive.elim hwas fun hf => hf hzero
  unfold grottoWritePel
  refine (Eng.run_bind_ok hop).trans ((Eng.run_bind_ok (Eng.run_dev _)).trans ?_)
  dsimp only
  rw [hcheck]
  dsimp only
  rw [if_neg hstay]
  exact (Eng.run_bind_ok (Eng.run_upd _ _)).trans ((Eng.run_bind_ok (Eng.run_upd _ _)).trans rfl)

theorem Dev.grotto_eq (h : d.grotto? g = some y) : d.grotto g = y := by
  unfold Dev.grotto mgetD
  rw [show mget d.grottos g = some y from h]
  rfl

theorem Dev.modGrotto_eq (h : d.grotto? g = some y) (u : Grotto → Grotto) : d.modGrotto g u = d.setGrotto g (u y) := by
  unfold Dev.modGrotto
  rw [h]

/-- GROTTO read (R348). -/
theorem grottoRead_run {a : Area} (hr : d.ranges q x [dstRng w v 32] false false = .ok [a]) :
    (grottoReadPel.body (s.ctx q x w) x w v).run d = .ok ({}, d.writeAt (s.ctx q x w) a 0 (clean (match d.grotto? (w.imm.toNat % 64) with
      | some y => wordsBytes y.words
      | none => List.replicate 32 0))) := by
  unfold grottoReadPel
  refine (Eng.run_bind_ok (Eng.run_dev _)).trans ((Eng.run_output_bind ?_ hr).trans rfl)
  split
  · exact wordsBytes_length _
  · rfl

/-- The attachments of other logical devices. -/
def Grotto.others (y : Grotto) (link ld : Nat) : List Attach := y.attaches.filter fun b => !(b.link == link && b.ld == ld)

/-- The attachment of a logical device. -/
def Grotto.attachOf (y : Grotto) (link ld : Nat) : Option Attach := y.attaches.find? fun b => b.link == link && b.ld == ld

/-- GROTTO attach where no condition holds (R38, R39). -/
theorem grottoAttach_run (harmed : d.faults.armed = []) (hy : d.grotto? (immG w) = some y)
    (hroom : (y.others (immLink w) (immLd w)).length < 16) (hbase : v.b.1.toNat % unitBytes = 0) (hlink : d.linkExists (immLink w) = true)
    (hld : immLd w < d.ldCount (immLink w)) (hold : (y.attachOf (immLink w) (immLd w)).any (d.decoded y) = false)
    (hmeets : (d.grottos.any fun e => e.1 != immG w && e.2.attaches.any fun b => b.link == immLink w && b.ld == immLd w &&
      decide (v.b.1.toNat < b.base + e.2.visible b ∧
        b.base < v.b.1.toNat + y.visible { link := immLink w, ld := immLd w, base := v.b.1.toNat })) = false) :
    (grottoAttachPel.body (s.ctx q x w) x w v).run d = .ok ({}, d.setGrotto (immG w) { y with
      attaches := y.others (immLink w) (immLd w) ++ [{ link := immLink w, ld := immLd w, base := v.b.1.toNat, fenced := ((y.attachOf (immLink w) (immLd w)).map Attach.fenced).getD false }] }) := by
  unfold grottoAttachPel
  refine (Eng.run_bind_ok (Eng.run_dev _)).trans ?_
  dsimp only
  rw [Dev.grotto_eq hy]
  refine (Eng.run_refusals_bind ?_).trans ((Eng.run_bind_ok (Eng.run_upd _ _)).trans ?_)
  · have hroom' : ¬ 16 ≤ (y.attaches.filter fun b => !(b.link == immLink w && b.ld == immLd w)).length := Nat.not_le.mpr hroom
    have hold' : (y.attaches.find? fun b => b.link == immLink w && b.ld == immLd w).any (d.decoded y) = false := hold
    rw [hmeets, hy, hold', hlink, decide_eq_false hroom', decide_eq_false (Nat.not_le.mpr hld), hbase]
    rfl
  · rw [Dev.modGrotto_eq hy, Dev.grottoArray_unarmed (d := d.setGrotto _ _) harmed]
    rfl

/-- GROTTO detach where no condition holds. -/
theorem grottoDetach_run (harmed : d.faults.armed = []) (hy : d.grotto? (immG w) = some y)
    (hmine : (y.attachOf (immLink w) (immLd w)).isSome = true) (hold : (y.attachOf (immLink w) (immLd w)).any (d.decoded y) = false) :
    (grottoDetachPel.body (s.ctx q x w) x w v).run d =
      .ok ({}, d.setGrotto (immG w) { y with attaches := y.others (immLink w) (immLd w) }) := by
  unfold grottoDetachPel
  refine (Eng.run_bind_ok (Eng.run_dev _)).trans ?_
  dsimp only
  rw [Dev.grotto_eq hy]
  refine (Eng.run_refusals_bind ?_).trans ((Eng.run_bind_ok (Eng.run_upd _ _)).trans ?_)
  · have hnone : (y.attachOf (immLink w) (immLd w)).isNone = false := by rw [Option.isNone_eq_false_iff]; exact hmine
    show ([((d.grotto? (immG w)).isNone, 7), ((y.attachOf (immLink w) (immLd w)).isNone, 5),
      ((y.attachOf (immLink w) (immLd w)).any (d.decoded y), 6)] : List (Bool × Nat)).all _ = true
    rw [hy, hnone, hold]
    rfl
  · rw [Dev.modGrotto_eq hy, Dev.grottoArray_unarmed (d := d.setGrotto _ _) harmed]
    rfl

/-- GROTTO return to service of an attachment (R185). -/
theorem grottoReturn_run (harmed : d.faults.armed = []) (hy : d.grotto? (immG w) = some y)
    (hmine : (y.attaches.any fun b => b.link == immLink w && b.ld == immLd w) = true) :
    (grottoReturnToServicePel.body (s.ctx q x w) x w v).run d =
      .ok ({}, (d.dropCopies (immG w) (srcOf (immLink w) (immLd w))).setGrotto (immG w) { y with
        attaches := y.attaches.map fun b => if b.link == immLink w && b.ld == immLd w then { b with fenced := false } else b }) := by
  obtain ⟨hgrottos, harmed'⟩ := d.dropCopies_table (immG w) (srcOf (immLink w) (immLd w)) harmed
  have hy' : (d.dropCopies (immG w) (srcOf (immLink w) (immLd w))).grotto? (immG w) = some y := (congrArg (mget · (immG w)) hgrottos).trans hy
  unfold grottoReturnToServicePel
  refine (Eng.run_bind_ok (Eng.run_dev _)).trans ?_
  dsimp only
  rw [Dev.grotto_eq hy]
  refine (Eng.run_refusals_bind ?_).trans ((Eng.run_bind_ok (Eng.run_upd _ _)).trans ?_)
  · rw [hy, hmine]
    rfl
  · rw [Dev.modGrotto_eq hy', Dev.grottoArray_unarmed (d := Dev.setGrotto _ _ _) harmed']
    rfl

/-- GROTTO delete of an inactive grotto that may leave (R79). -/
theorem grottoDelete_run (hy : d.grotto? (immG w) = some y) (hstate : y.state = 0) (hleave : d.mayLeave (immG w) y = true) :
    (grottoDeletePel.body (s.ctx q x w) x w v).run d = .ok ({}, { d with grottos := merase d.grottos (immG w) }) := by
  unfold grottoDeletePel
  refine (Eng.run_bind_ok (Eng.run_dev _)).trans ?_
  dsimp only
  rw [hy]
  refine (Eng.run_check_bind ?_).trans ((Eng.run_bind_ok (Eng.run_upd _ _)).trans rfl)
  rw [hstate, hleave]
  rfl

/-- GROTTO offer of an extent to a grotto without a partner (R47, R48). -/
theorem grottoOffer_run {a : Attach} (hy : d.grotto? (immG w) = some y) (ha : y.attaches.find? y.owns = some a)
    (hconds : (d.offerConds (immG w) v.b.1.toNat v.c.1.toNat).all (fun e => !e.1) = true) (hroped : d.roped (immG w) = false) :
    (grottoOfferExtentPel.body (s.ctx q x w) x w v).run d = .ok ({},
      (d.setGrotto (immG w) { y with offered := y.offered ++ [((v.b.1.toNat - a.base) / unitBytes, v.c.1.toNat)] }).dcLog (immG w) .addCapacity
        ((v.b.1.toNat - a.base) / unitBytes, v.c.1.toNat)) := by
  unfold grottoOfferExtentPel
  refine (Eng.run_bind_ok (Eng.run_dev _)).trans ((Eng.run_refusals_bind hconds).trans ?_)
  dsimp only
  rw [Dev.grotto_eq hy]
  rw [ha, hroped, if_neg (by simp)]
  refine (Eng.run_bind_ok (Eng.run_upd _ _)).trans ?_
  rw [Dev.modGrotto_eq hy]
  rfl

end Body

theorem grottoRecords : Claims.GrottoRecords := by
  intro s q w x d e f a bs base g
  refine ⟨fun h _ hop harmed hlive hcheck => ?write, fun h hr => ?read⟩
  case write =>
    obtain ⟨n, hf⟩ := Dev.checkRecord_ok hcheck
    have hsame : f.grotto? g = e.grotto? g := by rw [hf]; rfl
    have harmed' : f.faults.armed = [] := by rw [hf]; exact harmed
    obtain ⟨⟨l, hrec⟩, hkeep⟩ := Dev.putRecord_record (g := g) (base := base) harmed' (f.grotto? g) (hsame ▸ hlive)
    refine ⟨_, State.issue_goes_on h (by decide) (by decide) (grottoWrite_run hop hlive hcheck), ⟨_, hrec, rfl, rfl, rfl, rfl, rfl, rfl, rfl, rfl, rfl, rfl, rfl⟩, ?_⟩
    intro hne
    exact hkeep (hsame ▸ hne)
  case read =>
    have hrun := grottoRead_run (s := s) hr
    rw [Dev.entered_grotto?] at hrun
    exact State.issue_goes_on h (by decide) (by decide) hrun

theorem grottoAttachments : Claims.GrottoAttachments := by
  intro s q w x d y g link ld base mine others hy harmed
  have harmed' : (d.entered q x w 0xC0).faults.armed = [] := (congrArg Faults.armed (d.entered_faults q x w 0xC0)).trans harmed
  have hy' : (d.entered q x w 0xC0).grotto? (immG w) = some y := (d.entered_grotto? q x w 0xC0 g).trans hy
  obtain ⟨k, hentered, _⟩ := d.entered_eq q x w 0xC0
  have hsame : (d.entered q x w 0xC0).linkExists = d.linkExists ∧ (d.entered q x w 0xC0).ldCount = d.ldCount ∧
      (d.entered q x w 0xC0).decoded y = d.decoded y := by
    rw [hentered]
    exact ⟨rfl, rfl, rfl⟩
  obtain ⟨hlinks, hcounts, hdecoded⟩ := hsame
  refine ⟨fun h hroom hbase hlink hld hold hmeets => ?attach, fun h hmine hold => ?detach, fun h hmine => ?back, fun h hstate hleave => ?delete⟩
  case attach =>
    have hrun := grottoAttach_run (s := s) (q := q) (x := x) (v := x.vals w) harmed' hy' (by rw [immLink_eq, immLd_eq]; exact hroom) hbase
      (by rw [immLink_eq, hlinks]; exact hlink) (by rw [immLink_eq, immLd_eq, hcounts]; exact hld)
      (by rw [immLink_eq, immLd_eq, hdecoded]; exact hold) (by rw [immLink_eq, immLd_eq, Dev.entered_grottos]; exact hmeets)
    rw [immLink_eq, immLd_eq] at hrun
    exact State.issue_goes_on h (by decide) (by decide) hrun
  case detach =>
    have hrun := grottoDetach_run (s := s) (q := q) (x := x) (v := x.vals w) harmed' hy'
      (by rw [immLink_eq, immLd_eq]; exact List.find?_isSome.mpr (List.any_eq_true.mp hmine))
      (by rw [immLink_eq, immLd_eq, hdecoded]; exact hold)
    rw [immLink_eq, immLd_eq] at hrun
    exact State.issue_goes_on h (by decide) (by decide) hrun
  case back =>
    have hrun := grottoReturn_run (s := s) (q := q) (x := x) (v := x.vals w) harmed' hy' (by rw [immLink_eq, immLd_eq]; exact hmine)
    rw [immLink_eq, immLd_eq] at hrun
    refine ⟨State.issue_goes_on h (by decide) (by decide) hrun, fun hrise hst hfenced k v hk hg => ?_⟩
    have hslices := d.entered_slices q x w 0xC0
    refine Dev.dropCopies_clear harmed' (hslices ▸ hrise) (hslices ▸ hst) ?_ k v hk hg
    have hgrotto : (d.entered q x w 0xC0).grotto g = y := Dev.grotto_eq hy'
    unfold Dev.fencedSrc
    rw [hgrotto]
    obtain ⟨b, hb, hmb⟩ := List.any_eq_true.mp hfenced
    obtain ⟨⟨hbl, hbd⟩, hbf⟩ : (b.link = link ∧ b.ld = ld) ∧ b.fenced = true := by simpa [mine] using hmb
    exact List.any_eq_true.mpr ⟨b, hb, by rw [hbl, hbd, hbf]; simp⟩
  case delete =>
    have hrun := grottoDelete_run (s := s) (q := q) (x := x) (v := x.vals w) hy' hstate hleave
    rw [Dev.entered_grottos] at hrun
    exact State.issue_goes_on h (by decide) (by decide) hrun

theorem extentIsOffered : Claims.ExtentIsOffered := by
  intro s q w x d y a h g dpa n b hy ha hconds hroped
  obtain ⟨k, hentered, _⟩ := d.entered_eq q x w 0xC0
  have hy' : (d.entered q x w 0xC0).grotto? (immG w) = some y := (d.entered_grotto? q x w 0xC0 g).trans hy
  have hsame : (d.entered q x w 0xC0).offerConds g dpa n = d.offerConds g dpa n ∧ (d.entered q x w 0xC0).roped g = d.roped g := by
    rw [hentered]
    exact ⟨rfl, rfl⟩
  have hrun := grottoOffer_run (s := s) (q := q) (x := x) (v := x.vals w) hy' ha (hsame.1 ▸ hconds) (hsame.2 ▸ hroped)
  exact State.issue_goes_on h (by decide) (by decide) hrun

/-- Settles O19: no condition of the table holds, and each body then makes its one change; the sweep of a return leaves no copy that is not in
broadcast. -/
theorem grottoInstructions : Obligations.GrottoInstructions := ⟨grottoRecords, grottoAttachments, extentIsOffered⟩

end Sys2Proof.Machine
end

section
/-!
PROOFS. How instructions end: completion and its record, retirement, the time limit, and the ends of a WAIT (R285 to R292, R299, R317, R327, R390).
-/
namespace Sys2Proof.Machine

/-! ### What completion leaves of the device -/

theorem Dev.choose_slices (d : Dev) (n : Nat) : (d.choose n).2.slices = d.slices := by
  unfold Dev.choose
  split <;> rfl

/-- What an instruction's completion counts and frees leaves the slices, and the requests that wait, as they are. -/
theorem Dev.countWork_view (d : Dev) (op : Nat) (work : List Nat) :
    ((d.countWork op work).slices, (d.countWork op work).pages, (d.countWork op work).ev, (d.countWork op work).queues) =
      (d.slices, d.pages, d.ev, d.queues) := by
  unfold Dev.countWork
  split
  · rfl
  · split
    · rfl
    · dsimp only
      refine (foldl_view (fun e : Dev => (e.slices, e.pages, e.ev, e.queues)) _ (fun e x => ?_) _ _).trans ?_
      · split <;> rfl
      · unfold Dev.choose
        split <;> rfl

theorem Dev.dropUnit_view (d : Dev) (q : Nat) (pos : BitVec 32) :
    ((d.dropUnit q pos).slices, (d.dropUnit q pos).pages, (d.dropUnit q pos).ev, (d.dropUnit q pos).queues.qs) =
      (d.slices, d.pages, d.ev, d.queues.qs) := by
  unfold Dev.dropUnit
  split <;> rfl

theorem Dev.countEngine_view (d : Dev) (x : Queue) (k : Nat) :
    ((d.countEngine x k).slices, (d.countEngine x k).pages, (d.countEngine x k).ev, (d.countEngine x k).queues) =
      (d.slices, d.pages, d.ev, d.queues) := by
  unfold Dev.countEngine
  split <;> rfl

theorem Dev.countEngine_queue? (d : Dev) (x : Queue) (k q : Nat) : (d.countEngine x k).queue? q = d.queue? q := by
  unfold Dev.countEngine
  split <;> rfl

theorem Dev.releaseLocks_free {d : Dev} (q : Nat) (pos : BitVec 32) (h : d.slices.locks = []) : d.releaseLocks q pos = d := by
  unfold Dev.releaseLocks Dev.onSlices
  simp only [h, List.filter_nil, List.foldl_nil]
  rw [← h]

theorem Dev.scratch_unarmed {d : Dev} (x : Queue) (hw : HwObs) (h : d.faults.armed = []) : d.scratch x hw = (hw, d) := by
  unfold Dev.scratch
  dsimp only
  rw [Dev.arrayRead_unarmed h, Dev.arrayWrite_unarmed h]
  rfl

/-! ### Registers and retirement -/

/-- Register writes change the registers and their marks alone. -/
theorem applyRegs_eq (x : Queue) (rs : List (Nat × Word × Bool)) : ∃ r m, applyRegs x rs = { x with regs := r, marks := m } := by
  unfold applyRegs
  refine List.foldlRecOn (motive := fun y : Queue => ∃ r m, y = { x with regs := r, marks := m }) rs _ ⟨x.regs, x.marks, rfl⟩ ?_
  rintro y ⟨r, m, rfl⟩ e he
  split
  · exact ⟨r, m, rfl⟩
  · exact ⟨_, _, rfl⟩

@[simp] theorem Queue.settle_written (x : Queue) : x.settle.written = x.written := by
  unfold Queue.settle
  split <;> rfl

theorem Queue.flow_straight {x : Queue} {i : Issued} (hb : i.opcode ≠ 0x04) (hl : i.opcode ≠ 0x05) : x.flow i = x := by
  unfold Queue.flow
  rw [if_neg hl, if_neg hb, ite_self]

theorem isQ0_low {q : Nat} (h : q < 8192) : isQ0 q = false := by
  unfold isQ0
  simp
  omega

/-- A status outside the faults is not that of a torn submission. -/
theorem torn_of_noFault {st : Nat} (h : isFault st = false) : (st == 0x020B) = false := by
  refine beq_eq_false_iff_ne.mpr fun heq => ?_
  rw [heq] at h
  exact absurd h (by decide)

section Retire
variable {d : Dev} {q : Nat} {x : Queue} {i : Issued}

/-- The last instruction of a running queue retires with its registers written. -/
theorem Dev.retireOne_last (hq : q < 8192) (hfault : isFault i.res.status = false) (hh : i.opcode ≠ 0x01) (hb : i.opcode ≠ 0x04) (hl : i.opcode ≠ 0x05)
    (hstop : x.stopping = none) (hrun : x.run = true) :
    d.retireOne q x i [] =
      (d.setQueue q (applyRegs { x with issued := [], crFull := false, dirty := true } i.res.regs).settle).countEngine x 1 := by
  obtain ⟨r, m, hr⟩ := applyRegs_eq { x with issued := [], crFull := false, dirty := true } i.res.regs
  unfold Dev.retireOne
  dsimp only
  rw [Queue.flow_straight hb hl, hr]
  simp [isQ0_low hq, hfault, hh, hstop, hrun, torn_of_noFault hfault]

/-- A HALT stops its queue with status 0 at its position. -/
theorem Dev.retireOne_halt (hq : q < 8192) (hfault : isFault i.res.status = false) (hh : i.opcode = 0x01) (hregs : i.res.regs = [])
    (hstop : x.stopping = none) (hstate : x.state = 1) :
    d.retireOne q x i [] = (d.setQueue q (Queue.settle { x with
      issued := [], crFull := false, state := 3, run := false, stopStatus := 0, stopPos := i.pos, tornWait := false, torn := 0,
      dirty := true })).countEngine x 1 := by
  unfold Dev.retireOne
  dsimp only
  rw [Queue.flow_straight (by rw [hh]; decide) (by rw [hh]; decide), hregs]
  simp [applyRegs, Queue.stop, isQ0_low hq, hfault, hh, hstop, hstate, torn_of_noFault hfault]

theorem Dev.retireStep_empty (hx : d.queue? q = some x) (hi : x.issued = []) : d.retireStep q = none := by
  unfold Dev.retireStep
  rw [hx]
  dsimp only
  rw [hi]

theorem Dev.retire_empty (n : Nat) (hx : d.queue? q = some x) (hi : x.issued = []) : d.retire q n = d := by
  cases n with
  | zero => rfl
  | succ n => rw [Dev.retire, Dev.retireStep_empty hx hi]

theorem Dev.retire_step {e : Dev} (n : Nat) (h : d.retireStep q = some e) : d.retire q (n + 1) = e.retire q n := by
  rw [Dev.retire, h]

/-- A completed instruction that writes no record retires. -/
theorem Dev.retireStep_plain {rest : List Issued} (hx : d.queue? q = some x) (hi : x.issued = i :: rest) (hstate : i.state = .completed)
    (hrec : i.records = false) : d.retireStep q = some (d.retireOne q x i rest) := by
  unfold Dev.retireStep
  rw [hx]
  dsimp only
  rw [hi]
  dsimp only
  rw [hstate]
  dsimp only
  rw [hrec]
  rfl

end Retire

/-! ### Completion -/

section Complete
variable {d : Dev} {q : Nat} {x : Queue} {i : Issued}

/-- An applied instruction that stands alone, with nothing of it outstanding, completes. -/
theorem Dev.finishInstr_applied {t : Trust} {pel : PWord → Nat → Pel} (hx : d.queue? q = some x) (hi : x.issued = [i])
    (hstate : i.state = .applied) (harmed : d.faults.armed = []) (hout : d.outstanding (.engine q i.pos) = false)
    (htold : d.toldLater q i.pos = false) : d.finishInstr t q i.pos .ok pel = d.completeNow q x i := by
  unfold Dev.finishInstr
  rw [hx]
  dsimp only
  simp only [hi, List.find?_cons, beq_self_eq_true, hstate, hout, htold, Dev.scratch_unarmed x .ok harmed, Dev.hardware]
  simp

/-- The device on which an instruction's queue records its completion: its work counted and its unit free. -/
def Dev.finishing (d : Dev) (q : Nat) (i : Issued) : Dev := (d.countWork i.opcode i.res.work).dropUnit q i.pos

theorem Dev.finishing_view (d : Dev) (q : Nat) (i : Issued) :
    ((d.finishing q i).slices, (d.finishing q i).pages, (d.finishing q i).ev, (d.finishing q i).queues.qs) =
      (d.slices, d.pages, d.ev, d.queues.qs) := by
  unfold Dev.finishing
  refine (Dev.dropUnit_view _ _ _).trans ?_
  have h := d.countWork_view i.opcode i.res.work
  simp only [Prod.mk.injEq] at h ⊢
  obtain ⟨hs, hp, he, hq⟩ := h
  exact ⟨hs, hp, he, congrArg Queues.qs hq⟩

theorem Dev.finishing_slices (d : Dev) (q : Nat) (i : Issued) : (d.finishing q i).slices = d.slices := congrArg (·.1) (d.finishing_view q i)

theorem Dev.completeNow_plain (hi : x.issued = [i]) (hrec : i.records = false) (hj : i.journ = false) (hlocks : d.slices.locks = []) :
    d.completeNow q x i = ((d.finishing q i).setQueue q { x with issued := [{ i with state := .completed }] }).retire q retireFuel := by
  have hnoted : ((i.journ || i.records) && i.res.status != 0x020B) = false := by simp [hrec, hj]
  have hnamed : d.named i = (i, d) := by
    unfold Dev.named
    rw [hrec]
    rfl
  unfold Dev.completeNow
  rw [hnamed]
  simp only [hnoted, hi, List.map_cons, List.map_nil, ↓reduceIte, Bool.false_eq_true]
  exact congrArg (fun e : Dev => e.retire q retireFuel)
    (Dev.releaseLocks_free q i.pos ((congrArg Slices.locks (d.finishing_slices q i)).trans hlocks))

/-- The queue of an instruction that completes without a record. -/
def Queue.ending (x : Queue) (i : Issued) : Queue := { x with issued := [{ i with state := .completed }] }

/-- It retires at once where retirement of the completed instruction empties the queue. -/
theorem Dev.completeNow_retires {y : Queue} (hi : x.issued = [i]) (hrec : i.records = false) (hj : i.journ = false)
    (hlocks : d.slices.locks = [])
    (hone : ∀ e : Dev, e.retireOne q (x.ending i) { i with state := .completed } [] = (e.setQueue q y).countEngine (x.ending i) 1)
    (hy : y.issued = []) : d.completeNow q x i = ((d.finishing q i).setQueue q y).countEngine x 1 := by
  rw [Dev.completeNow_plain hi hrec hj hlocks]
  refine (Dev.retire_step 255 (Dev.retireStep_plain (x := x.ending i) (Dev.queue?_setQueue _ _ _) rfl rfl hrec)).trans ?_
  rw [hone, Dev.setQueue_setQueue]
  exact Dev.retire_empty 255 ((Dev.countEngine_queue? _ _ _ _).trans (Dev.queue?_setQueue _ _ _)) hy

end Complete

/-- Only RECORD's completion writes a Cairn record. -/
theorem State.recorded_other {s : State} {q : Nat} {pos : BitVec 32} {before : Dev} {x : Queue} {i : Issued} (hx : before.queue? q = some x)
    (hi : x.issued = [i]) (hpos : i.pos = pos) (hop : i.opcode ≠ 0xCB) : s.recorded q pos before = s := by
  unfold State.recorded
  simp [hx, hi, hpos, hop]

theorem exec_instructionComplete {s : State} {q : Nat} {pos : BitVec 32} {x : Queue} {i : Issued} {e : Dev} (hawake : s.dev.awake = true)
    (hx : s.dev.queue? q = some x) (hi : x.issued = [i]) (hpos : i.pos = pos) (hop : i.opcode ≠ 0xCB)
    (h : s.dev.finishInstr s.trust q pos .ok pelOf = e) : exec (.instructionComplete q pos .ok) s = .next { s with dev := e.after } := by
  show execInstructionComplete q pos .ok s = _
  unfold execInstructionComplete
  rw [hawake, h]
  exact congrArg (fun u : State => Host.Outcome.next { u with dev := u.dev.after }) (State.recorded_other hx hi hpos hop)

/-! ### Completion records (R290 to R292) -/

section Records
variable {d : Dev} {q : Nat} {x : Queue} {i : Issued}

theorem Dev.outstanding_congr {a b : Dev} (h : (b.slices, b.pages, b.ev) = (a.slices, a.pages, a.ev)) (who : Who) :
    b.outstanding who = a.outstanding who := by
  simp only [Prod.mk.injEq] at h
  obtain ⟨hs, hp, he⟩ := h
  simp only [Dev.outstanding, Dev.anyReq, hs, hp, he]

theorem Dev.orFree_frees (d : Dev) (r : Option Word) : ∃ a n, d.orFree r = (a, { d with freeCtr := n }) ∧ ∀ k, r = some k → a = k := by
  cases r with
  | none => exact ⟨_, _, rfl, nofun⟩
  | some y => exact ⟨y, d.freeCtr, rfl, fun k hk => by simpa using hk⟩

/-- Result words that the instruction leaves open are drawn before its record is written. -/
theorem Dev.named_records (hrec : i.records = true) : ∃ a b c n,
    d.named i = ({ i with res := { i.res with r0 := some a, r1 := some b, r2 := some c } }, { d with freeCtr := n }) ∧
    (∀ k, i.res.r0 = some k → a = k) ∧ (∀ k, i.res.r1 = some k → b = k) ∧ (∀ k, i.res.r2 = some k → c = k) := by
  obtain ⟨a, n0, h0, ha⟩ := d.orFree_frees i.res.r0
  obtain ⟨b, n1, h1, hb⟩ := Dev.orFree_frees { d with freeCtr := n0 } i.res.r1
  obtain ⟨c, n2, h2, hc⟩ := Dev.orFree_frees { d with freeCtr := n1 } i.res.r2
  refine ⟨a, b, c, n2, ?_, ha, hb, hc⟩
  unfold Dev.named
  rw [hrec, if_pos rfl, h0]
  dsimp only
  rw [h1]
  dsimp only
  rw [h2]

/-- The record of an instruction at the count of records written of its queue. -/
def Issued.recordOf (i : Issued) (x : Queue) : BitVec 256 :=
  recBits x x.written i.pos i.res.status (if i.res.status = 0x020B then 0 else i.opcode) (i.res.r0.getD 0) (i.res.r1.getD 0) (i.res.r2.getD 0)

/-- A record that waits is written at the count of records of a fabric manager's queue, which grows by 1. -/
theorem Dev.retireStep_record {rest : List Issued} (hlow : 1 ≤ q) (hhigh : q ≤ 15) (hx : d.queue? q = some x) (hi : x.issued = i :: rest)
    (hstate : i.state = .completed) (hrec : i.records = true) (hone : x.state = 1) (hcount : x.recCount i = (x.written, false))
    (hspace : x.recSpace = true) (hresume : d.slices.resume = []) : ∃ y : Queue,
    d.retireStep q = some ((d.setQueue q y).onQueues fun k => { k with
      fmRecs := mset k.fmRecs (q * 256 + x.written.toNat % x.crSize) (i.recordOf x) }) ∧
    y.issued = { i with state := .recorded } :: rest ∧ y.written = x.written + 1 ∧ y.stopping = x.stopping ∧ y.run = x.run := by
  have hq0 : isQ0 q = false := isQ0_low (by omega)
  have hpriv : privQ q = true := by simp [privQ, isFm, hlow, hhigh]
  unfold Dev.retireStep
  rw [hx]
  dsimp only
  rw [hi]
  dsimp only
  rw [hstate]
  dsimp only
  rw [hrec, if_neg (by decide), if_neg (by rw [hone]; decide), hcount, hspace, hq0]
  simp only [Bool.false_or, ↓reduceIte, Bool.false_eq_true, Dev.writeRec, hpriv]
  exact ⟨_, congrArg some (Dev.drain_nil _ _ hresume), rfl, rfl, rfl, rfl⟩

/-- The instruction retires once its record is written. -/
theorem Dev.retireStep_recorded {rest : List Issued} (hpriv : privQ q = true) (hx : d.queue? q = some x) (hi : x.issued = i :: rest)
    (hstate : i.state = .recorded) (hout : d.outstanding (.engine q i.pos) = false) : d.retireStep q = some (d.retireOne q x i rest) := by
  unfold Dev.retireStep
  rw [hx]
  dsimp only
  rw [hi]
  dsimp only
  rw [hstate]
  dsimp only
  rw [hout]
  simp [Dev.queueIrq, hpriv]

/-- An instruction, no control instruction and no fault, that is the last of its running queue. -/
structure Queue.EndsWith (x : Queue) (i : Issued) : Prop where
  alone : x.issued = [i]
  sound : isFault i.res.status = false
  goesOn : i.opcode ≠ 0x01
  straight : i.opcode ≠ 0x04
  unlooped : i.opcode ≠ 0x05
  going : x.stopping = none
  runs : x.run = true

/-- Once its record is written, the last instruction retires; the records of the fabric managers' queues stay. -/
theorem Dev.retire_recorded (n : Nat) (hlow : 1 ≤ q) (hhigh : q ≤ 15) (hx : d.queue? q = some x) (hends : x.EndsWith i) (hstate : i.state = .recorded)
    (hout : d.outstanding (.engine q i.pos) = false) : ∃ y : Queue, (d.retire q (n + 1)).queue? q = some y ∧ y.issued = [] ∧ y.written = x.written ∧
      (d.retire q (n + 1)).queues.fmRecs = d.queues.fmRecs := by
  obtain ⟨r, m, hregs⟩ := applyRegs_eq { x with issued := [], crFull := false, dirty := true } i.res.regs
  have hretire := Dev.retireStep_recorded (by simp [privQ, isFm, hlow, hhigh]) hx hends.alone hstate hout
  rw [Dev.retireOne_last (by omega) hends.sound hends.goesOn hends.straight hends.unlooped hends.going hends.runs, hregs] at hretire
  have hqueue := (Dev.countEngine_queue? _ x 1 q).trans (d.queue?_setQueue q (Queue.settle { x with
    issued := [], crFull := false, dirty := true, regs := r, marks := m }))
  rw [Dev.retire_step n hretire, Dev.retire_empty n hqueue (Queue.settle_issued _)]
  exact ⟨_, hqueue, Queue.settle_issued _, Queue.settle_written _, congrArg (·.2.2.2.fmRecs) (Dev.countEngine_view _ x 1)⟩

/-- The last instruction of a fabric manager's queue, which asks for a record, writes it and retires. -/
theorem Dev.retire_completed (n : Nat) (hlow : 1 ≤ q) (hhigh : q ≤ 15) (hx : d.queue? q = some x) (hends : x.EndsWith i) (hstate : i.state = .completed)
    (hrec : i.records = true) (hone : x.state = 1) (hcount : x.recCount i = (x.written, false)) (hspace : x.recSpace = true)
    (hresume : d.slices.resume = []) (hout : d.outstanding (.engine q i.pos) = false) :
    ∃ y : Queue, (d.retire q (n + 2)).queue? q = some y ∧ y.issued = [] ∧ y.written = x.written + 1 ∧
      mget (d.retire q (n + 2)).queues.fmRecs (q * 256 + x.written.toNat % x.crSize) = some (i.recordOf x) := by
  obtain ⟨z, hrecord, hissued, hwritten, hgoes, hruns⟩ := Dev.retireStep_record hlow hhigh hx hends.alone hstate hrec hone hcount hspace hresume
  rw [Dev.retire_step (n + 1) hrecord]
  obtain ⟨y, hy, hnone, hcounted, hrecs⟩ := Dev.retire_recorded (d := (d.setQueue q z).onQueues fun k => { k with
      fmRecs := mset k.fmRecs (q * 256 + x.written.toNat % x.crSize) (i.recordOf x) }) (x := z) (i := { i with state := .recorded }) n hlow hhigh
    (Dev.queue?_setQueue d q z)
    { alone := hissued, sound := hends.sound, goesOn := hends.goesOn, straight := hends.straight, unlooped := hends.unlooped,
      going := hgoes.trans hends.going, runs := hruns.trans hends.runs } rfl hout
  refine ⟨y, hy, hnone, hcounted.trans hwritten, ?_⟩
  rw [hrecs]
  exact mget_mset_self _ _ _

/-- The queue of an instruction that completes with a record, which the journal notes. -/
def Queue.noting (x : Queue) (k : Issued) : Queue :=
  { x with issued := [{ k with state := .completed }], journal := mset x.journal (k.pos.toNat % 64) (x.entryOf k) }

/-- The journal's entry of an instruction that completes now names no record that was sent. -/
theorem Queue.noting_recCount (x : Queue) (k : Issued) : (x.noting k).recCount { k with state := .completed } = (x.written, false) := by
  have hentry : (x.noting k).journaled k.pos k.iter = some (x.entryOf k) := by
    simp [Queue.journaled, Queue.noting, Queue.entryOf]
  unfold Queue.recCount
  dsimp only
  rw [hentry]
  unfold Queue.entryOf
  dsimp only
  split
  next heq => exact absurd heq (by simp)
  next => rfl

/-- The device on which the queue of an instruction that completes with a record notes it: n free words were drawn, its work counted, its unit free. -/
def Dev.noting (d : Dev) (q : Nat) (x : Queue) (k : Issued) (n : Nat) : Dev := (Dev.finishing { d with freeCtr := n } q k).countEngine x 5

theorem Dev.noting_view (d : Dev) (q : Nat) (x : Queue) (k : Issued) (n : Nat) :
    ((d.noting q x k n).slices, (d.noting q x k n).pages, (d.noting q x k n).ev) = (d.slices, d.pages, d.ev) := by
  have hc := Dev.countEngine_view (Dev.finishing { d with freeCtr := n } q k) x 5
  have hf := Dev.finishing_view { d with freeCtr := n } q k
  simp only [Prod.mk.injEq] at hc hf ⊢
  obtain ⟨hcs, hcp, hce, -⟩ := hc
  obtain ⟨hfs, hfp, hfe, -⟩ := hf
  exact ⟨hcs.trans hfs, hcp.trans hfp, hce.trans hfe⟩

theorem Dev.completeNow_noted {k : Issued} {n : Nat} (hnamed : d.named i = (k, { d with freeCtr := n })) (hi : x.issued = [i]) (hpos : k.pos = i.pos)
    (hrec : k.records = true) (hfault : isFault k.res.status = false) (hlocks : d.slices.locks = []) :
    d.completeNow q x i = ((d.noting q x k n).setQueue q (x.noting k)).retire q retireFuel := by
  have hnoted : ((k.journ || k.records) && k.res.status != 0x020B) = true := by
    rw [hrec, Bool.or_true, Bool.true_and, bne, torn_of_noFault hfault, Bool.not_false]
  have hfree : (d.noting q x k n).slices.locks = [] := (congrArg (·.1.locks) (d.noting_view q x k n)).trans hlocks
  unfold Dev.completeNow
  rw [hnamed]
  simp only [hnoted, hi, hpos, List.map_cons, List.map_nil, ↓reduceIte]
  simp only [← hpos]
  exact congrArg (fun e : Dev => e.retire q retireFuel) (Dev.releaseLocks_free q k.pos hfree)

/-- The completion of an instruction that stands alone in a fabric manager's queue writes its record and retires it. -/
theorem Dev.completeNow_record (hlow : 1 ≤ q) (hhigh : q ≤ 15) (hends : x.EndsWith i) (hrec : i.records = true) (hstate : x.state = 1)
    (hspace : x.recSpace = true) (hlocks : d.slices.locks = []) (hresume : d.slices.resume = [])
    (hout : d.outstanding (.engine q i.pos) = false) :
    ∃ (y : Queue) (a b c : Word), (d.completeNow q x i).queue? q = some y ∧ y.issued = [] ∧ y.written = x.written + 1 ∧
      (∀ k, i.res.r0 = some k → a = k) ∧ (∀ k, i.res.r1 = some k → b = k) ∧ (∀ k, i.res.r2 = some k → c = k) ∧
      mget (d.completeNow q x i).queues.fmRecs (q * 256 + x.written.toNat % x.crSize) =
        some (recBits x x.written i.pos i.res.status i.opcode a b c) := by
  obtain ⟨a, b, c, n, hnamed, ha, hb, hc⟩ := d.named_records hrec
  obtain ⟨hs, hp, he⟩ : _ ∧ _ ∧ _ := by simpa only [Prod.mk.injEq] using d.noting_view q x { i with res := { i.res with r0 := some a, r1 := some b, r2 := some c } } n
  rw [Dev.completeNow_noted hnamed hends.alone rfl hrec hends.sound hlocks]
  obtain ⟨y, hy, hnone, hwritten, hwrote⟩ := Dev.retire_completed (q := q)
    (d := (d.noting q x { i with res := { i.res with r0 := some a, r1 := some b, r2 := some c } } n).setQueue q
      (x.noting { i with res := { i.res with r0 := some a, r1 := some b, r2 := some c } })) 254 hlow hhigh (Dev.queue?_setQueue _ _ _)
    { alone := rfl, sound := hends.sound, goesOn := hends.goesOn, straight := hends.straight, unlooped := hends.unlooped, going := hends.going,
      runs := hends.runs } rfl hrec hstate (x.noting_recCount _) hspace ((congrArg Slices.resume hs).trans hresume)
    ((Dev.outstanding_congr (by simp only [Dev.setQueue_slices, Dev.setQueue_pages, Dev.setQueue_ev, hs, hp, he]) _).trans hout)
  refine ⟨y, a, b, c, hy, hnone, hwritten, ha, hb, hc, hwrote.trans ?_⟩
  have htorn : i.res.status ≠ 0x020B := by simpa using torn_of_noFault hends.sound
  exact congrArg some (by simp only [Issued.recordOf, if_neg htorn, Option.getD_some]; rfl)

end Records

theorem instructionsComplete : Claims.InstructionsComplete := by
  intro s q pos x i hx hawake hstill hi hpos hstate hq hfault hstop hrun hone hlocks hout htold
  subst hpos
  have hfinish := Dev.finishInstr_applied (t := s.trust) (pel := pelOf) hx hi hstate hstill.armed hout htold
  refine ⟨fun hh hb hl hr hrec hj => ?plain, fun hh hrec hj hregs hwork => ?halt, fun hlow hhigh hh hb hl hr hrec hspace _ => ?record⟩
  case plain =>
    refine exec_instructionComplete hawake hx hi rfl hr (hfinish.trans ?_)
    refine Dev.completeNow_retires hi hrec hj hlocks (fun e => Dev.retireOne_last hq hfault hh hb hl hstop hrun) ?_
    obtain ⟨r, m, hr⟩ := applyRegs_eq { x with issued := [], crFull := false, dirty := true } i.res.regs
    rw [hr, Queue.settle_issued]
  case halt =>
    refine exec_instructionComplete hawake hx hi rfl (by rw [hh]; decide) (hfinish.trans ?_)
    have huncounted : s.dev.finishing q i = s.dev.dropUnit q i.pos := by
      unfold Dev.finishing
      rw [hwork]
      rfl
    rw [← huncounted]
    exact Dev.completeNow_retires hi hrec hj hlocks (fun e => Dev.retireOne_halt hq hfault hh hregs hstop hone) (Queue.settle_issued _)
  case record =>
    obtain ⟨y, a, b, c, hy, hnone, hwritten, ha, hb, hc, hwrote⟩ := Dev.completeNow_record hlow hhigh
      { alone := hi, sound := hfault, goesOn := hh, straight := hb, unlooped := hl, going := hstop, runs := hrun } hrec hone hspace hlocks
      hstill.resume hout
    refine ⟨_, y, exec_instructionComplete hawake hx hi rfl hr hfinish, hy, hnone, hwritten, a, b, c, ha, hb, hc, hwrote.trans ?_⟩
    simp [recBits, phaseOf]

end Sys2Proof.Machine
end

section
/-!
PROOFS. The time limit of an instruction and the ends of a WAIT (R224, R286, R327, R390).
-/
namespace Sys2Proof.Machine

/-! ### The instruction at a position -/

section At
variable {d : Dev} {q : Nat} {x : Queue} {i : Issued} {pos : BitVec 32}

theorem Issued.pos_of_find (h : x.issued.find? (fun j => j.pos == pos) = some i) : i.pos = pos := by
  simpa using List.find?_some h

/-- The instruction found at a position is the one found there among those with a property that it has. -/
theorem find?_issued_and {p : Issued → Bool} (h : x.issued.find? (fun j => j.pos == pos) = some i) (hp : p i = true) :
    x.issued.find? (fun j => j.pos == pos && p j) = some i := by
  obtain ⟨hi, before, after, hsplit, hbefore⟩ := List.find?_eq_some_iff_append.mp h
  refine List.find?_eq_some_iff_append.mpr ⟨by simp [hi, hp], before, after, hsplit, fun j hj => ?_⟩
  have hne := hbefore j hj
  simp only [Bool.not_eq_true'] at hne ⊢
  rw [hne, Bool.false_and]

theorem find?_issued_put {j : Issued} (h : x.issued.find? (fun k => k.pos == pos) = some i) (hj : j.pos = pos) :
    (x.issued.map fun k => if k.pos = j.pos then j else k).find? (fun k => k.pos == pos) = some j := by
  obtain ⟨hi, before, after, hsplit, hbefore⟩ := List.find?_eq_some_iff_append.mp h
  have hpos : i.pos = j.pos := (Issued.pos_of_find h).trans hj.symm
  rw [hsplit, List.map_append, List.map_cons, if_pos hpos]
  refine List.find?_eq_some_iff_append.mpr ⟨by simp [hj], _, _, rfl, fun k hk => ?_⟩
  obtain ⟨m, hm, rfl⟩ := List.mem_map.mp hk
  have hne : m.pos ≠ pos := by simpa using hbefore m hm
  rw [if_neg (by rw [hj]; exact hne)]
  simpa using hne

theorem Dev.putIssued_eq (hx : d.queue? q = some x) (j : Issued) :
    d.putIssued q j = d.setQueue q { x with issued := x.issued.map fun k => if k.pos = j.pos then j else k } := by
  unfold Dev.putIssued
  rw [hx]

theorem Dev.inRun.awake (h : d.inRun) : d.awake = true := by
  unfold Dev.awake
  rw [h.1, h.2]
  rfl

theorem Dev.inRun.live (h : d.inRun) : d.live = true := by
  unfold Dev.live
  rw [h.1]
  rfl

end At

/-! ### The time limit (R224, R286, R390) -/

section Limit
variable {d : Dev} {q : Nat} {x : Queue} {i : Issued} {pos : BitVec 32} {t : Trust}

/-- No unit works for a waiting instruction at the position: nothing is stopped. -/
theorem Dev.haltUnit_none (hx : d.queue? q = some x) (h : ∀ j ∈ x.issued, j.pos = pos → needsUnit j.opcode = false ∨ j.state ≠ .waiting) :
    d.haltUnit t q pos = d := by
  have hnone : x.issued.find? (fun i => i.pos == pos && needsUnit i.opcode && i.state == .waiting) = none := by
    refine List.find?_eq_none.mpr fun j hj => ?_
    by_cases hpos : j.pos = pos
    · obtain hn | hn := h j hj hpos <;> simp [hn]
    · simp [hpos]
  unfold Dev.haltUnit
  rw [hx]
  simp only [Option.bind_some, hnone, Option.map_none]

/-- The context and the queue with which a waiting instruction goes on: what decode gave it is kept. -/
def Dev.waitCtx (d : Dev) (t : Trust) (q : Nat) (x : Queue) (i : Issued) : Ctx := { d.ctxOf t q x i.pos i.word with decoded := i.decoded }
def Queue.withWindows (x : Queue) (i : Issued) : Queue :=
  match i.decoded with
  | some k => { x with windows := k.windows }
  | none => x
def Queue.valsAt (x : Queue) (i : Issued) : Vals := valsOf x (x.issued.takeWhile fun j => j.pos != i.pos) i.word

/-- A unit that works for a waiting instruction is stopped. -/
theorem Dev.haltUnit_stops {r : Result} {f : Dev} (hx : d.queue? q = some x) (hfind : x.issued.find? (fun j => j.pos == pos) = some i)
    (hunit : needsUnit i.opcode = true) (hwait : i.state = .waiting)
    (hrun : (haltBody i.opcode (d.waitCtx t q x i) (x.withWindows i) i.word (x.valsAt i)).run d = .ok (r, f)) :
    d.haltUnit t q pos = f.putIssued q { i with res := { r with status := 0 } } := by
  obtain rfl := Issued.pos_of_find hfind
  have hfound : x.issued.find? (fun j => j.pos == i.pos && needsUnit j.opcode && j.state == .waiting) = some i := by
    simp only [Bool.and_assoc]
    exact find?_issued_and hfind (by simp [hunit, hwait])
  unfold Dev.haltUnit
  rw [hx]
  simp only [Option.bind_some, hfound, Option.map_some]
  split
  next r' f' h =>
    obtain ⟨rfl, rfl⟩ : r' = r ∧ f' = f := by simpa using h.symm.trans hrun
    rfl
  next e h => exact absurd (h.symm.trans hrun) (by simp)

/-- A time limit ends an instruction: it faults, its waiting writes are withdrawn and its unit is free. -/
def Dev.overdue (d : Dev) (q : Nat) (x : Queue) (i : Issued) (r : Result) : Dev :=
  ((((d.withdraw (.engine q i.pos)).forget (.engine q i.pos)).dropUnit q i.pos).putIssued q
    { i with state := .applied, res := { r with status := 0x0209 } }).countEngine x 2

theorem Dev.timeUp_overdue (hx : d.queue? q = some x) (hfind : x.issued.find? (fun j => j.pos == pos) = some i) (hdone : i.done = false)
    (hfault : isFault i.res.status = false) (hmoves : ∀ m ∈ d.pages.moves, m.issuer ≠ some (q, pos)) :
    d.timeUp q pos = d.overdue q x i i.res := by
  obtain rfl := Issued.pos_of_find hfind
  have hkept : ((((d.withdraw (.engine q i.pos)).forget (.engine q i.pos)).dropUnit q i.pos).pages.moves.find? fun m =>
      m.issuer == some (q, i.pos)) = none := by
    rw [show (((d.withdraw (.engine q i.pos)).forget (.engine q i.pos)).dropUnit q i.pos).pages.moves = d.pages.moves from
      congrArg (·.2.1.moves) (Dev.dropUnit_view ((d.withdraw (.engine q i.pos)).forget (.engine q i.pos)) q i.pos)]
    exact List.find?_eq_none.mpr fun m hm => by simpa using hmoves m hm
  unfold Dev.timeUp
  rw [hx]
  dsimp only
  rw [hfind]
  dsimp only
  rw [if_neg (by simp [hdone, hfault]), hkept]
  rfl

theorem exec_timeLimit {s : State} (hrun : s.dev.inRun) : exec (.timeLimit q pos) s =
    .next { s with dev := ((s.dev.haltUnit s.trust q pos).timeUp q pos).after } := by
  show execTimeLimit q pos s = _
  unfold execTimeLimit State.onDev
  dsimp only
  rw [hrun.live, hrun.1, hrun.2]
  simp

end Limit

/-! ### The ends of a WAIT (R327) -/

section Wait
variable {d e : Dev} {q : Nat} {x : Queue} {i : Issued} {pos : BitVec 32} {t : Trust} {r : Result}

/-- A waiting instruction that needs no unit is tried again, and its body answers. -/
theorem Dev.rerun_applies {pel : Pel} (htold : d.toldLater q i.pos = false) (hunit : needsUnit i.opcode = false)
    (hrun : (pel.body (d.waitCtx t q x i) (x.withWindows i) i.word (x.valsAt i)).run d = .ok (r, e)) :
    d.rerun t q x i pel = (e.forget (.engine q i.pos)).putIssued q { i with state := .applied, res := r } := by
  have htake : d.takeUnit i.opcode q i.pos = some d := by
    unfold Dev.takeUnit
    rw [hunit]
    rfl
  have hbody : d.runBody (d.ctxOf t q x i.pos i.word) x i (x.valsAt i) pel =
      ({ i with state := .applied, res := r }, e.forget (.engine q i.pos)) := by
    unfold Dev.runBody
    dsimp only
    rw [show (d.ctxOf t q x i.pos i.word).q = q from rfl, htake]
    dsimp only
    split
    next r' e' h =>
      obtain ⟨rfl, rfl⟩ : r' = r ∧ e' = e := by simpa using h.symm.trans hrun
      rfl
    next h => exact absurd (h.symm.trans hrun) (by simp)
    next h => exact absurd (h.symm.trans hrun) (by simp)
  unfold Dev.rerun
  rw [htold, if_neg (by decide)]
  exact congrArg (fun z : Issued × Dev => z.2.putIssued q z.1) hbody

/-- A WAIT that waits at a position. -/
theorem Dev.waiting?_eq {mode : Bool} (hx : d.queue? q = some x) (hfind : x.issued.find? (fun j => j.pos == pos) = some i) (hop : i.opcode = 0x06)
    (hwait : i.state = .waiting) (hmode : i.word.mod.getLsbD 0 = mode) : d.waiting? q pos mode = some (x, i) := by
  have hfound : x.issued.find? (fun j => j.pos == pos && j.opcode == 0x06 && j.state == .waiting && j.word.mod.getLsbD 0 == mode) = some i := by
    simp only [Bool.and_assoc]
    exact find?_issued_and hfind (by rw [hop, hwait, hmode]; simp)
  unfold Dev.waiting?
  rw [hx]
  simp only [Option.bind_some, hfound, Option.map_some]

theorem exec_waitDeadline {s : State} (hrun : s.dev.inRun) (hw : s.dev.waiting? q pos false = some (x, i)) :
    exec (.waitDeadline q pos) s = .next { s with dev := (s.dev.rerun s.trust q x i waitPel).after } := by
  show execWaitDeadline q pos s = _
  unfold execWaitDeadline State.onDev
  dsimp only
  rw [hw]
  dsimp only
  rw [hrun.awake, if_pos rfl]

theorem exec_waitReread {s : State} (hrun : s.dev.inRun) (hw : s.dev.waiting? q pos true = some (x, i)) :
    exec (.waitReread q pos) s = .next { s with dev := (s.dev.rerun s.trust q x i waitPel).after } := by
  show execWaitReread q pos s = _
  unfold execWaitReread State.onDev
  dsimp only
  rw [hw]
  dsimp only
  rw [hrun.awake, if_pos rfl]

/-- A WAIT whose timeout has passed is tried a last time, as one with no time left. -/
def Issued.timedOut (i : Issued) : Issued := { i with word := { i.word with imm := 0 } }

theorem exec_waitTimeout {s : State} (hrun : s.dev.inRun) (hw : s.dev.waiting? q pos true = some (x, i)) :
    exec (.waitTimeout q pos) s = .next { s with dev := ((s.dev.putIssued q i.timedOut).rerun s.trust q x i.timedOut waitPel).after } := by
  show execWaitTimeout q pos s = _
  unfold execWaitTimeout State.onDev
  dsimp only
  rw [hw]
  dsimp only
  rw [hrun.awake, if_pos rfl]
  rfl

end Wait

theorem timeEndsInstructions : Claims.TimeEndsInstructions := by
  intro s q pos x i a bs e hrun hx hfind hdone v c ended k z late at0 E rng y
  obtain rfl := Issued.pos_of_find hfind
  refine ⟨fun hfault hmoves hidle => ?late, fun r f hunit hwait hhalt hf hmoves => ?stopped, fun hop hwait htold => ⟨fun hmode htime => ?time,
    fun hmode hmark hranges hread hclean hholds => ?word, fun hmode hmark hranges hread hclean hholds => ?timeout⟩⟩
  case late =>
    rw [exec_timeLimit hrun, Dev.haltUnit_none hx hidle, Dev.timeUp_overdue hx hfind hdone hfault hmoves]
    rfl
  case stopped =>
    have hput := Dev.putIssued_eq hf { i with res := { r with status := 0 } }
    rw [exec_timeLimit hrun, Dev.haltUnit_stops hx hfind hunit hwait hhalt, Dev.timeUp_overdue (i := { i with res := { r with status := 0 } })
      (by rw [hput]; exact Dev.queue?_setQueue _ _ _) (find?_issued_put (j := { i with res := { r with status := 0 } }) hfind rfl) hdone rfl (by rw [hput]; exact hmoves)]
    rfl
  case time =>
    rw [exec_waitDeadline hrun (Dev.waiting?_eq hx hfind hop hwait hmode),
      Dev.rerun_applies htold (by rw [hop]; decide) (waitPel_time _ _ _ _ _ hmode htime)]
  case word =>
    rw [exec_waitReread hrun (Dev.waiting?_eq hx hfind hop hwait hmode), Dev.rerun_applies htold (by rw [hop]; decide)
      ((waitPel_word hmode hmark hranges hread hclean).trans (by rw [if_pos hholds]; rfl))]
  case timeout =>
    have htold' : (s.dev.putIssued q i.timedOut).toldLater q i.pos = false := by
      rw [Dev.putIssued_eq hx i.timedOut]
      exact htold
    have hword := (waitPel_word (c := (s.dev.putIssued q i.timedOut).waitCtx s.trust q x i.timedOut) (x := x.withWindows i.timedOut)
      (w := i.timedOut.word) (v := x.valsAt i.timedOut) hmode hmark hranges hread hclean)
    have himm : i.timedOut.word.imm = 0 := rfl
    have hfails : ¬ waitHolds i.timedOut.word (BitVec.ofNat 64 (natOfBytes (bs.map Prod.fst))) (x.valsAt i.timedOut).c.1 = true :=
      ne_true_of_eq_false hholds
    rw [if_neg hfails, if_pos himm] at hword
    rw [exec_waitTimeout hrun (Dev.waiting?_eq hx hfind hop hwait hmode), Dev.rerun_applies (i := i.timedOut) htold'
      (by rw [show i.timedOut.opcode = 0x06 from hop]; decide) hword]
    rfl

/-- Settles O26: completion by the equations of retirement, step by step (`retireOne`, `retireStep`); the time limit and the ends of a WAIT by what a
waiting instruction's second try answers. -/
theorem instructionsEnd : Obligations.InstructionsEnd := ⟨instructionsComplete, timeEndsInstructions⟩

end Sys2Proof.Machine
end

section
/-!
PROOFS. What the end of a command finds of a device whose home slices and pages a request has changed: the hold load (R532), and that nothing is left
to take up.
-/
namespace Sys2Proof.Machine

/-! ### The hold load under a change of one line (R532) -/

theorem nodup_eraseDups {α : Type} [BEq α] [LawfulBEq α] (l : List α) : l.eraseDups.Nodup := by
  induction hn : l.length using Nat.strongRecOn generalizing l with
  | _ n ih =>
    cases l with
    | nil => exact List.nodup_nil
    | cons a t =>
      rw [List.eraseDups_cons]
      refine List.nodup_cons.mpr ⟨by simp [List.mem_eraseDups], ih _ ?_ _ rfl⟩
      rw [← hn, List.length_cons]
      exact Nat.lt_succ_of_le (List.length_filter_le _ _)

/-- A list all of whose elements are in another has at most as many different ones. -/
theorem length_eraseDups_le_of_subset {α : Type} [BEq α] [LawfulBEq α] {l m : List α} (h : ∀ x ∈ l, x ∈ m) :
    l.eraseDups.length ≤ m.eraseDups.length :=
  (nodup_eraseDups l).length_le_of_subset fun x hx => List.mem_eraseDups.mpr (h x (List.mem_eraseDups.mp hx))

/-- One more element makes at most one more different one. -/
theorem length_eraseDups_le_cons {α : Type} [BEq α] [LawfulBEq α] {l m : List α} (a : α) (h : ∀ x ∈ l, x = a ∨ x ∈ m) :
    l.eraseDups.length ≤ m.eraseDups.length + 1 := by
  refine Nat.le_trans (length_eraseDups_le_of_subset (m := a :: m) fun x hx => List.mem_cons.mpr (h x hx)) ?_
  rw [List.eraseDups_cons, List.length_cons]
  exact Nat.succ_le_succ (length_eraseDups_le_of_subset fun x hx => (List.mem_filter.mp hx).1)

section Load
variable (d : Dev)

/-- The part of the hold load that the directory has no part in. -/
theorem Dev.holdLoad_dir (sl : Slices) (hnc : sl.nc = d.slices.nc) :
    ({ d with slices := sl } : Dev).holdLoad + 128 * d.occupiedSets.length =
      d.holdLoad + 128 * ({ d with slices := sl } : Dev).occupiedSets.length := by
  have hlines : (sl.nc.map fun e => if !e.2.dirty then 0 else
      if peView (({ d with slices := sl } : Dev).entry (keyGrotto e.1) (pageOf (keyLine e.1))) = 4 then 4096 else 64) =
      (d.slices.nc.map fun e => if !e.2.dirty then 0 else
        if peView (d.entry (keyGrotto e.1) (pageOf (keyLine e.1))) = 4 then 4096 else 64) := by rw [hnc]; rfl
  show (sl.nc.map _).sum + _ + 512 * (d.queues.qs.filter (·.2.dirty)).length + _ = (d.slices.nc.map _).sum + _ + 512 * (d.queues.qs.filter (·.2.dirty)).length + _
  rw [hlines]
  omega

/-- A new directory entry occupies at most one more set. -/
theorem Dev.holdLoad_dirSet (k : Nat) (e : DirEntry) (sl : Slices) (hdir : sl.dir = mset d.slices.dir k e) (hnc : sl.nc = d.slices.nc) :
    ({ d with slices := sl } : Dev).holdLoad ≤ d.holdLoad + 128 := by
  have hsets : ({ d with slices := sl } : Dev).occupiedSets.length ≤ d.occupiedSets.length + 1 := by
    refine length_eraseDups_le_cons (homeSlice (keyGrotto k) (keyLine k) * 16384 + dirSet (keyLine k)) fun x hx => ?_
    obtain ⟨j, hj, rfl⟩ := List.mem_map.mp hx
    rw [show ({ d with slices := sl } : Dev).slices.dir = _ from hdir] at hj
    obtain rfl | hj := mset_mem _ _ _ _ hj
    · exact .inl rfl
    · exact .inr (List.mem_map.mpr ⟨j, hj, rfl⟩)
  have := d.holdLoad_dir sl hnc
  omega

/-- An entry in the place of another occupies no more. -/
theorem Dev.holdLoad_dirOver (k : Nat) (e x : DirEntry) (sl : Slices) (hx : mget d.slices.dir k = some x) (hdir : sl.dir = mset d.slices.dir k e)
    (hnc : sl.nc = d.slices.nc) : ({ d with slices := sl } : Dev).holdLoad ≤ d.holdLoad := by
  have hsets : ({ d with slices := sl } : Dev).occupiedSets.length ≤ d.occupiedSets.length := by
    refine length_eraseDups_le_of_subset fun y hy => ?_
    obtain ⟨j, hj, rfl⟩ := List.mem_map.mp hy
    rw [show ({ d with slices := sl } : Dev).slices.dir = _ from hdir] at hj
    obtain rfl | hj := mset_mem _ _ _ _ hj
    · exact List.mem_map.mpr ⟨(k, x), mget_mem hx, rfl⟩
    · exact List.mem_map.mpr ⟨j, hj, rfl⟩
  have := d.holdLoad_dir sl hnc
  omega

theorem Dev.overHold_of_load {d e : Dev} (n : Nat) (hload : e.holdLoad ≤ d.holdLoad + n) (hqos : e.qos = d.qos) (hroom : d.overHold n = false) :
    e.overHold 0 = false := by
  have hlimit : ¬ 290 * (250 * d.qos.bw) < d.holdLoad + n := of_decide_eq_false hroom
  rw [Dev.overHold, hqos]
  exact decide_eq_false (by omega)

end Load

/-! ### Nothing is left to take up -/

/-- A device whose home slices and pages have changed is still where they leave nothing to take up. -/
theorem Dev.Still.changed {a : Dev} (h : a.Still) (sl : Slices) (pg : Pages) (hresume : sl.resume = []) (hsnoops : ∀ x ∈ sl.snoops, x.tag.isSome = true)
    (hnc : sl.nc = a.slices.nc) (hhold : ({ a with slices := sl } : Dev).overHold 0 = false) (harea : pg.area = a.pages.area)
    (hdying : pg.dying = []) (hmisses : pg.mapWait = []) (hframes : pg.frameWait = []) (hwrites : pg.dwrites = []) :
    ({ a with slices := sl, pages := pg } : Dev).Still := by
  have hentry (g page : Nat) : ({ a with slices := sl, pages := pg } : Dev).entry g page = a.entry g page := by
    show mgetD pg.area _ _ = _
    rw [harea]
    rfl
  constructor
  case resume => exact hresume
  case snoops => exact hsnoops
  case lost =>
    intro e he hdirty
    rw [hentry]
    exact h.lost e (hnc ▸ he) hdirty
  case hold =>
    have hsame : ({ a with slices := sl, pages := pg } : Dev).holdLoad = ({ a with slices := sl } : Dev).holdLoad := by
      unfold Dev.holdLoad
      simp only [hentry]
      rfl
    unfold Dev.overHold at hhold ⊢
    rw [hsame]
    exact hhold
  case dying => exact hdying
  case misses => exact hmisses
  case frames => exact hframes
  case rebuilds => exact h.rebuilds
  case discards => exact h.discards
  case asking => exact h.asking
  case surplus => exact h.surplus
  case armed => exact h.armed
  case writes => exact hwrites
  case owed => exact h.owed
  case unsent => exact h.unsent

/-! ### The end of a command that leaves a request to take up -/

section After
variable {d e : Dev}

theorem Dev.quiesce_of_drain (h : d.drain drainFuel = e) (hstill : e.Still) : d.quiesce = e := by
  have hq : d.quiesce = e.quiesce := by
    unfold Dev.quiesce
    rw [h, e.drain_nil drainFuel hstill.resume]
  exact hq.trans (e.quiesce_still hstill)

/-- Where serving what is to be taken up leaves a still device, the command ends with it. -/
theorem Dev.after_of_drain (h : d.drain drainFuel = e) (hstill : e.Still) : d.after = e := by
  unfold Dev.after
  dsimp only
  rw [Dev.quiesce_of_drain h hstill, hstill.unsent]
  rfl

/-- One request to take up is served first. -/
theorem Dev.drain_again (mode n : Nat) (r : Req) (h : d.slices.resume = []) : (d.again mode r).drain (n + 1) = (d.serve mode r).drain n := by
  have hpop : ({ d with slices := { d.slices with resume := [] } } : Dev) = d := by rw [← h]
  have hone : (d.again mode r).slices.resume = [(mode, r)] := congrArg (· ++ [(mode, r)]) h
  rw [Dev.drain, hone]
  exact congrArg (fun e : Dev => (e.serve mode r).drain n) hpop

/-- A request whose service leaves a still device ends the command with it. -/
theorem Dev.after_again {mode : Nat} {r : Req} (h : d.slices.resume = []) (hserve : d.serve mode r = e) (hstill : e.Still) :
    (d.again mode r).after = e := by
  refine Dev.after_of_drain ?_ hstill
  rw [show drainFuel = 65535 + 1 from rfl, Dev.drain_again mode 65535 r h, hserve]
  exact e.drain_nil 65535 hstill.resume

end After

end Sys2Proof.Machine
end

section
/-!
PROOFS. CXL.mem requests and snoop responses that arrive (R43 to R55), and a host read that the near cache serves (R162, R187).
-/
namespace Sys2Proof.Machine

/-! ### A message that arrives -/

/-- The second device is the first once a message has come: counters, the epoch of its link and a decoder's position may differ. -/
structure Dev.Reached (a b : Dev) : Prop where
  same : ∃ k c m, b = { a with links := k, cnt := c, lds := m }
  links : ∀ l, b.link l = a.link l

/-- Setting a link that is up to what it is changes no link. -/
theorem Dev.setLink_same {d : Dev} {l : Nat} {k : Link} (hk : k = d.link l) (hup : k.up = true) (n : Nat) : (d.setLink l k).link n = d.link n := by
  have hne : k ≠ {} := by
    rintro rfl
    exact absurd hup (by decide)
  show mgetD (mput d.links {} l k) n {} = _
  unfold mgetD mput
  rw [if_neg hne, mget_mset]
  split
  next h =>
    subst h
    exact hk
  next => rfl

/-- Where a device finds an HPA rests on neither its links nor its counters. -/
theorem Dev.locate_links (d : Dev) (k : AMap Link) (c : Counters) (l ld hpa : Nat) :
    ({ d with links := k, cnt := c } : Dev).locate l ld hpa =
      ((d.locate l ld hpa).1, { (d.locate l ld hpa).2 with links := k, cnt := c }) := by
  unfold Dev.locate
  dsimp only
  rw [show ({ d with links := k, cnt := c } : Dev).ld l ld = d.ld l ld from rfl]
  by_cases hboot : d.power.mode = .boot
  · simp only [hboot, ↓reduceIte]
  · simp only [hboot, ↓reduceIte]
    cases (d.ld l ld).decode hpa <;> rfl

/-- Locating an HPA latches a decoder's position and does nothing else. -/
theorem Dev.locate_lds (d : Dev) (l ld hpa : Nat) : ∃ m, (d.locate l ld hpa).2 = { d with lds := m } := by
  unfold Dev.locate
  dsimp only
  split
  · exact ⟨d.lds, rfl⟩
  · split
    · exact ⟨d.lds, rfl⟩
    · exact ⟨_, rfl⟩

section Arrival
variable {d : Dev} {h : MemHdr} {hpa : BitVec 64}

theorem Dev.linkTakes_up {l : Nat} (ht : d.linkTakes l = true) : (d.link l).up = true ∧ (d.link l).perst = false := by
  unfold Dev.linkTakes Dev.linkOpen at ht
  simp only [Bool.and_eq_true, Bool.not_eq_true'] at ht
  obtain ⟨⟨⟨⟨⟨⟨-, hup⟩, hperst⟩, -⟩, -⟩, -⟩, -⟩ := ht
  exact ⟨hup, hperst⟩

theorem Dev.Arrives.linkLive (a : d.Arrives h) : d.linkLive h.link = true := by
  obtain ⟨hup, hperst⟩ := Dev.linkTakes_up a.takes
  unfold Dev.linkLive
  rw [hup, hperst, a.run.1]
  rfl

theorem Dev.inRun.asleep (hr : d.inRun) : d.asleep = false := by
  unfold Dev.asleep
  rw [hr.1, hr.2]
  rfl

theorem Link.epoch_eta {k : Link} (hk : k.epoch = []) : ({ k with epoch := [] } : Link) = k := by rw [← hk]

/-- A message whose MAC has come is acted on at once. -/
theorem Dev.memEnter_arrives (a : d.Arrives h) (c : Instr) : d.memEnter h c = (d.setLink h.link (d.link h.link)).memAct c := by
  have hmac : ((d.link h.link).cacheIde.rx.inUse.isSome && !h.mac) = false := by
    obtain hnone | hmac := a.mac
    · rw [hnone]
      rfl
    · rw [hmac, Bool.not_true, Bool.and_false]
  unfold Dev.memEnter
  dsimp only
  rw [d.wake_inRun 1 h.link a.run, a.secure, hmac, a.epoch, if_neg (by decide), if_neg (by decide)]
  dsimp only [List.nil_append, List.foldl_cons, List.foldl_nil]
  rw [Link.epoch_eta a.epoch]

/-- The device on which a message is acted on. -/
theorem Dev.setLink_reached (a : d.Arrives h) : d.Reached (d.setLink h.link (d.link h.link)) where
  same := ⟨_, d.cnt, d.lds, rfl⟩
  links := Dev.setLink_same rfl (Dev.linkTakes_up a.takes).1

/-- What a message of CXL.mem asks for: a request, or the acknowledgement of a conflict. -/
def Dev.actOn (d : Dev) (h : MemHdr) (hpa : BitVec 64) : Option Op → Dev
  | some op => d.hostRequest h hpa op
  | none => d.emit (.conflictAck h hpa)

/-- A message that has arrived is acted on. -/
theorem Dev.memAct_arrives (a : d.Arrives h) {c : Instr} {o : Option Op} (hc : memReqOf c = some (h, hpa, o)) :
    (d.setLink h.link (d.link h.link)).memAct c = (d.setLink h.link (d.link h.link)).actOn h hpa o := by
  have hlink := (Dev.setLink_reached a).links h.link
  unfold Dev.memAct
  rw [hc]
  dsimp only
  rw [show (d.setLink h.link (d.link h.link)).asleep = false from a.run.asleep, if_neg (by decide)]
  unfold Dev.addressed
  rw [hlink, a.pbr, if_neg (by decide), show (d.setLink h.link (d.link h.link)).ldCount h.link = d.ldCount h.link from rfl,
    decide_eq_true a.ld, Bool.not_true, if_neg (by decide)]
  cases o <;> rfl

theorem Dev.memArrive_arrives (a : d.Arrives h) (c : Instr) (hslot : takesSlot c = true → d.noSlot h.link = false) :
    d.memArrive h c = ((d.setLink h.link (d.link h.link)).memAct c).after := by
  have hfree : (takesSlot c && (d.noSlot h.link || d.unsent.any fun x => cmdLink x == some h.link)) = false := by
    rw [a.still.unsent, List.any_nil, Bool.or_false]
    cases htakes : takesSlot c with
    | false => rfl
    | true => rw [hslot htakes, Bool.and_false]
  unfold Dev.memArrive
  rw [a.takes, hfree, Dev.memEnter_arrives a, if_neg (by decide), if_neg (by decide)]

/-- A request of a host for a line of a grotto. -/
def Dev.hostReq (d : Dev) (h : MemHdr) (g line : Nat) (op : Op) : Req :=
  { who := .host h, src := srcOf h.link h.ld, g := g, line := line, op := op, cls := (d.grotto g).cls }

/-- A request that finds its line goes to the line's home slice. -/
theorem Dev.hostRequest_found {g line : Nat} {m : AMap Ld} (k : AMap Link) (op : Op)
    (hfound : d.locate h.link h.ld hpa.toNat = (.ok (g, line), { d with lds := m })) : ∃ c,
    ({ d with links := k } : Dev).hostRequest h hpa op = ({ d with links := k, cnt := c, lds := m } : Dev).again 0 (d.hostReq h g line op) := by
  have hlocate (c : Counters) : ({ d with links := k, cnt := c } : Dev).locate h.link h.ld hpa.toNat =
      (.ok (g, line), { d with links := k, cnt := c, lds := m }) := by rw [Dev.locate_links, hfound]
  unfold Dev.hostRequest
  dsimp only
  cases hw : op.isWrite with
  | true =>
    rw [if_pos rfl]
    refine ⟨(({ d with links := k } : Dev).bump (128 + 16 * h.link + 2) 64).cnt, ?_⟩
    rw [show (({ d with links := k } : Dev).bump (128 + 16 * h.link + 2) 64) = { d with links := k, cnt := _ } from rfl, hlocate]
    rfl
  | false =>
    rw [if_neg (by decide)]
    refine ⟨d.cnt, ?_⟩
    rw [hlocate d.cnt]
    rfl

theorem Dev.memArrive_finds {g line : Nat} {e : Dev} (F : d.Finds h hpa g line e) {c : Instr} {op : Op} (hc : memReqOf c = some (h, hpa, some op)) :
    ∃ b, d.Reached b ∧ d.memArrive h c = (b.again 0 (d.hostReq h g line op)).after := by
  obtain ⟨m, hm⟩ := d.locate_lds h.link h.ld hpa.toNat
  have hreached := Dev.setLink_reached F.comes
  obtain ⟨c', hrequest⟩ := Dev.hostRequest_found (mput d.links {} h.link (d.link h.link)) op (F.found.trans (by rw [← hm, F.found]))
  refine ⟨_, ⟨⟨_, c', m, rfl⟩, hreached.links⟩, ?_⟩
  rw [Dev.memArrive_arrives F.comes c fun _ => F.slot, Dev.memAct_arrives F.comes hc]
  exact congrArg Dev.after hrequest

end Arrival

/-! ### A read that the near cache serves -/

/-- Links, counters, logical devices and messages sent have no part in whether something is left to take up. -/
theorem Dev.Still.sent {a : Dev} (h : a.Still) (k : AMap Link) (c : Counters) (m : AMap Ld) (o : List Out) :
    ({ a with links := k, cnt := c, lds := m, out := o } : Dev).Still :=
  ⟨h.resume, h.snoops, h.lost, h.hold, h.dying, h.misses, h.frames, h.rebuilds, h.discards, h.asking, h.surplus, h.armed, h.writes, h.owed, h.unsent⟩

/-- The reads of hosts. -/
def Op.hostRead : Op → Bool
  | .readS | .readE | .readI => true
  | _ => false

section Serve
variable {d : Dev} {r : Req}

/-- A read of a line that the near cache holds goes to its arbiter at once. -/
theorem Dev.serve_read (hop : r.op.hostRead = true) (hlocks : d.slices.locks = []) (hhere : (d.ncGet r.g r.line).isSome = true) :
    d.serve 0 r = d.arbitrate r := by
  have hwrite : r.op.isWrite = false := by
    revert hop
    cases r.op <;> simp [Op.hostRead, Op.isWrite]
  have hnone : (d.ncGet r.g r.line).isNone = false := by
    rw [Option.isNone_eq_false_iff]
    exact hhere
  have hsweep : d.heldBySweep r = false := by
    unfold Dev.heldBySweep
    rw [hwrite]
    rfl
  have hstarved : (if (false || false) = true then d.fillNow r.g (pageOf r.line) else d).starved r = false := by
    rw [if_neg (by decide)]
    unfold Dev.starved
    rw [hwrite]
    rfl
  unfold Dev.serve
  dsimp only
  rw [hwrite, hlocks, hsweep, hnone, hstarved]
  cases hcase : r.op with
  | readS | readE | readI => rfl
  | _ => rw [hcase] at hop; exact absurd hop (by simp [Op.hostRead])

/-- The second device differs from the first in its counters and in the map blocks it caches. -/
def Dev.Heated (a b : Dev) : Prop := ∃ c m, b = { a with cnt := c, pages := { a.pages with cache := m } }

theorem Dev.addHeat_heated (d : Dev) (g page w : Nat) : d.Heated (d.addHeat g page w) := by
  unfold Dev.addHeat
  dsimp only
  split
  · exact ⟨d.cnt, _, rfl⟩
  · exact ⟨_, d.pages.cache, rfl⟩

theorem Dev.Heated.ite {a b c : Dev} (p : Bool) (hb : a.Heated b) (hc : a.Heated c) : a.Heated (if p then b else c) := by
  cases p
  · exact hc
  · exact hb

/-- A grant counts the request and heats its page in the map cache. -/
theorem Dev.granted_heated (d : Dev) (r : Req) : d.Heated (d.granted r) := by
  obtain ⟨c, m, hheat⟩ := Dev.addHeat_heated (d.bump (576 + 16 * homeSlice r.g r.line)) r.g (pageOf r.line)
    (if r.op == .readS || r.op == .readE || r.op == .readI then d.flow.readW else d.flow.writeW)
  exact .ite _ ⟨c, m, hheat⟩ ⟨_, d.pages.cache, rfl⟩

/-- The device once the near cache has answered a host's read. -/
def Dev.readAnswered (d : Dev) (h : MemHdr) (r : Req) (y : NcLine) (c : Counters) : Dev := { d with
  cnt := c, slices := { d.slices with ncAge := useWay d.slices.ncAge ((d.ncWays r.g r.line).map (·.1)) (lineKey r.g r.line) }
  out := d.out ++ [{ msg := .memData h y.data y.poison (r.op == .readE), source := (d.link h.link).pbr }] }

theorem Dev.serveRead_hit {h : MemHdr} {y : NcLine} (harmed : d.faults.armed = []) (hapart : d.behindWrite r.g r.line = false)
    (hy : d.ncGet r.g r.line = some y) (hbad : y.badWords = 0) (hfix : y.fixWords = 0) (hwho : r.who = .host h) (hlive : d.linkLive h.link = true) :
    ∃ c, d.serveRead r = d.readAnswered h r y c := by
  have hhere : d.serveRead r = d.readHere r := by
    unfold Dev.behindWrite at hapart
    simp only [Bool.or_eq_false_iff] at hapart
    obtain ⟨⟨hmove, hpromo⟩, hrecomp⟩ := hapart
    unfold Dev.serveRead
    dsimp only
    cases hm : d.moveOf r.g (pageOf r.line) with
    | some m =>
      rw [hm] at hmove
      simp only [Option.any_some] at hmove
      simp only [hmove, Bool.false_eq_true, ↓reduceIte]
    | none =>
      cases hp : d.promoOf r.g (pageOf r.line) with
      | some p =>
        rw [hp] at hpromo
        simp only [Option.any_some] at hpromo
        simp only [hpromo, Bool.false_eq_true, ↓reduceIte]
      | none =>
        cases hc : d.recompOf r.g (pageOf r.line) with
        | some c =>
          rw [hc] at hrecomp
          exact absurd hrecomp (by simp)
        | none => rfl
  have hlook : d.ncLook r.g r.line = (some y, d.ncUse r.g r.line) := by
    unfold Dev.ncLook Dev.takeInvert Dev.armedOn
    rw [hy, harmed]
    simp [hbad, hfix]
  rw [hhere]
  unfold Dev.readHere Dev.answerRead
  dsimp only
  rw [hlook, hwho]
  dsimp only
  rw [show ((d.ncUse r.g r.line).bump (576 + 16 * homeSlice r.g r.line + 1)).linkLive h.link = true from hlive, if_pos rfl]
  obtain ⟨c, hc⟩ : ∃ c, (((d.ncUse r.g r.line).bump (576 + 16 * homeSlice r.g r.line + 1)).emit (.memData h y.data y.poison (r.op == .readE))) =
      d.readAnswered h r y c := ⟨_, rfl⟩
  rw [hc]
  exact ⟨_, rfl⟩

/-- A sound entry, or none, is read. -/
theorem Dev.dirRead_sound {g line : Nat} (harmed : d.faults.armed = []) (h : ∀ x, d.dirGet g line = some x → x.errBits = 0) :
    d.dirRead g line = (true, d) := by
  unfold Dev.dirRead
  dsimp only
  rw [Dev.arrayRead_unarmed harmed]
  split
  next x hx => rw [if_pos (h x hx)]
  next => rfl

/-- Where no source of an entry is fenced, nothing is dropped from it. -/
theorem Dev.dropFenced_live {g line : Nat} (h : ∀ x, d.dirGet g line = some x → ∀ s ∈ x.sharers, d.fencedSrc g s = false) : d.dropFenced g line = d := by
  unfold Dev.dropFenced
  split
  next => rfl
  next x hx =>
    have hall : x.sharers.filter (fun s => !d.fencedSrc g s) = x.sharers :=
      List.filter_eq_self.mpr fun s hs => by rw [h x hx s hs]; rfl
    dsimp only
    rw [hall, if_pos rfl]

/-- A request that its directory lets pass is granted. -/
theorem Dev.arbitrate_step {e : Dev} (hdb : (d.grotto r.g).db = true) (hread : d.dirRead r.g r.line = (true, d)) (hfence : d.dropFenced r.g r.line = d)
    (hstep : d.dirStep r = (true, e)) : d.arbitrate r = (e.granted r).grant r := by
  unfold Dev.arbitrate
  rw [hdb, hread]
  dsimp only
  rw [hfence, if_neg (by decide), if_neg (Nat.lt_irrefl _), hstep]

theorem Dev.arbitrate_free (hdb : (d.grotto r.g).db = false) : d.arbitrate r = (d.granted r).grant r := by
  unfold Dev.arbitrate
  rw [hdb]
  rfl

theorem Dev.grant_read (hop : r.op.hostRead = true) : d.grant r = d.serveRead r := by
  unfold Dev.grant
  revert hop
  cases r.op with
  | readS | readE | readI => exact fun _ => rfl
  | _ => exact fun hop => absurd hop (by simp [Op.hostRead])

end Serve

/-! ### What the directory answers to a read -/

section Directory
variable {d : Dev} {r : Req}

/-- A read of the host that holds the line in E passes. -/
theorem Dev.dirStep_holder {x : DirEntry} (hx : d.dirGet r.g r.line = some x) (hst : x.st = .E) (hsh : x.sharers = [r.src]) (hop : r.op.hostRead = true) :
    d.dirStep r = (true, d) := by
  unfold Dev.dirStep
  dsimp only
  rw [hx]
  dsimp only
  rw [hst, hsh]
  cases hcase : r.op with
  | readS | readE | readI => simp
  | _ => rw [hcase] at hop; exact absurd hop (by simp [Op.hostRead])

/-- A set with room takes a new entry. -/
theorem Dev.dirAlloc_room {x : DirEntry} (hroom : (d.dirWays r.g r.line).length < 16) (hst : x.st ≠ .D) (hhold : d.overHold 128 = false)
    (herr : x.errBits = 0) (harmed : d.faults.armed = []) : ∃ c sl,
    d.dirAlloc r x = (true, { d with cnt := c, slices := sl }) ∧ sl = { d.slices with
      dir := mset d.slices.dir (lineKey r.g r.line) x, dirAge := sl.dirAge, setAge := sl.setAge } := by
  have hbits : ({ x with errBits := 0 } : DirEntry) = x := by rw [← herr]
  have hnotD : (x.st == .D) = false := by simpa using hst
  unfold Dev.dirAlloc
  dsimp only
  rw [if_pos hroom, hnotD, hhold, Bool.and_false, Bool.false_and, Bool.false_and, if_neg (by decide), if_neg (by decide),
    Dev.dirPut_unarmed (show (d.bump _).faults.armed = [] from harmed), hbits]
  exact ⟨_, _, rfl, rfl⟩

end Directory

/-! ### The answer -/

section Answer
variable {d : Dev} {h : MemHdr} {hpa : BitVec 64} {g line : Nat} {e : Dev} {y : NcLine} {op : Op}

/-- The device that answers a read: beside its counters, the decoder's position and the map cache, its home slices are sl, but for the ages of
near-cache lines. -/
def Dev.Answered (d : Dev) (h : MemHdr) (sl : Slices) (y : NcLine) (op : Op) (t : Dev) : Prop := ∃ k c m x a,
  t = { d with
    links := k, cnt := c, lds := m, pages := { d.pages with cache := x }, slices := { sl with ncAge := a }
    out := d.out ++ [{ msg := .memData h y.data y.poison (op == .readE), source := (d.link h.link).pbr }] }

/-- Where the arbiter grants a read of a line in the near cache, the line is the answer. -/
theorem Dev.read_answered (F : d.Finds h hpa g line e) (hop : op.hostRead = true) (hy : d.ncGet g line = some y) (hbad : y.badWords = 0)
    (hfix : y.fixWords = 0) {b : Dev} (hb : d.Reached b) {c : Counters} {sl : Slices} (hnc : sl.nc = d.slices.nc) (hresume : sl.resume = [])
    (hsnoops : sl.snoops = d.slices.snoops) (hload : ({ d with slices := sl } : Dev).holdLoad ≤ d.holdLoad + 192)
    (hgrant : b.arbitrate (d.hostReq h g line op) =
      ((({ b with cnt := c, slices := sl } : Dev).granted (d.hostReq h g line op)).grant (d.hostReq h g line op))) :
    ∃ t, (b.again 0 (d.hostReq h g line op)).after = t ∧ d.Answered h sl y op t := by
  obtain ⟨⟨k, c', m, rfl⟩, hlinks⟩ := hb
  obtain ⟨c'', x, hheat⟩ := Dev.granted_heated { d with links := k, cnt := c, lds := m, slices := sl } (d.hostReq h g line op)
  have hserve : ({ d with links := k, cnt := c', lds := m } : Dev).serve 0 (d.hostReq h g line op) = _ :=
    Dev.serve_read hop F.locks (Option.isSome_of_eq_some hy : (d.ncGet g line).isSome = true)
  have hline : mget sl.nc (lineKey g line) = some y := hnc ▸ hy
  obtain ⟨c3, hread⟩ := Dev.serveRead_hit (h := h) (r := d.hostReq h g line op)
    (d := { d with links := k, cnt := c'', lds := m, slices := sl, pages := { d.pages with cache := x } })
    F.comes.still.armed F.apart hline hbad hfix rfl
    ((congrArg (fun k : Link => k.up && !k.perst && d.power.mode != .hold) (hlinks h.link)).trans F.comes.linkLive)
  rw [hgrant, hheat, Dev.grant_read hop, hread] at hserve
  have hages (a : AMap Age) : ({ d with slices := { sl with ncAge := a } } : Dev).overHold 0 = false := Dev.overHold_of_load 192 hload rfl F.room
  have hstill (a : AMap Age) := (F.comes.still.changed { sl with ncAge := a } { d.pages with cache := x } hresume (hsnoops ▸ F.comes.still.snoops)
    hnc (hages a) rfl F.comes.still.dying F.comes.still.misses F.comes.still.frames F.comes.still.writes).sent k c3 m
      (d.out ++ [{ msg := .memData h y.data y.poison (op == .readE), source := (d.link h.link).pbr }])
  have hsource : (mgetD k h.link {}).pbr = (d.link h.link).pbr := congrArg Link.pbr (hlinks h.link)
  refine ⟨_, Dev.after_again F.comes.still.resume hserve ?_, k, c3, m, x,
    useWay sl.ncAge ((({ d with slices := sl } : Dev).ncWays g line).map (·.1)) (lineKey g line), ?_⟩
  · unfold Dev.readAnswered Dev.link
    rw [hsource]
    exact hstill _
  · unfold Dev.readAnswered Dev.link
    rw [hsource]
    rfl

/-- A grotto without a directory, or the host's own entry in E, lets a read pass. -/
theorem Dev.arbitrate_passes (F : d.Finds h hpa g line e) (hop : op.hostRead = true)
    (hpass : (d.grotto g).db = false ∨ ∃ x, d.dirGet g line = some x ∧ x.errBits = 0 ∧ x.st = .E ∧ x.sharers = [srcOf h.link h.ld])
    (b : Dev) (hslices : b.slices = d.slices) (hgrottos : b.grottos = d.grottos) (hfaults : b.faults = d.faults) :
    b.arbitrate (d.hostReq h g line op) = (b.granted (d.hostReq h g line op)).grant (d.hostReq h g line op) := by
  have hdb : b.grotto g = d.grotto g := congrArg (fun t : AMap Grotto => mgetD t g {}) hgrottos
  cases hdir : (d.grotto g).db with
  | false => exact Dev.arbitrate_free (hdb ▸ hdir)
  | true =>
    obtain ⟨x, hx, herr, hst, hsh⟩ := hpass.resolve_left (by rw [hdir]; decide)
    have hbx : b.dirGet g line = some x := (congrArg (fun s : Slices => mget s.dir (lineKey g line)) hslices).trans hx
    have hlive : b.fencedSrc g (srcOf h.link h.ld) = false := by
      unfold Dev.fencedSrc
      rw [hdb]
      exact F.live
    refine Dev.arbitrate_step (hdb ▸ hdir) (Dev.dirRead_sound (hfaults ▸ F.comes.still.armed) fun z hz => ?_)
      (Dev.dropFenced_live fun z hz s hs => ?_) (Dev.dirStep_holder hbx hst hsh hop)
    · obtain rfl : x = z := Option.some.inj (hbx.symm.trans hz)
      exact herr
    · obtain rfl : x = z := Option.some.inj (hbx.symm.trans hz)
      rw [hsh, List.mem_singleton] at hs
      exact hs ▸ hlive

/-- The entry that a read of a line without one makes. -/
def Op.newEntry : Op → Nat → Option DirEntry
  | .readS, src => some { st := .S, sharers := [src] }
  | .readE, src => some { st := .E, sharers := [src] }
  | _, _ => none

/-- A source of a host is no internal one. -/
theorem Dev.Arrives.notInternal (a : d.Arrives h) (g line : Nat) (op : Op) : (d.hostReq h g line op).internal = false := by
  have hlink : h.link < 8 := by
    have htakes := a.takes
    unfold Dev.linkTakes Dev.linkOpen Dev.linkExists at htakes
    simp only [Bool.and_eq_true, Bool.or_eq_true, decide_eq_true_eq] at htakes
    omega
  have hld : h.ld < 16 := by
    have hcount : d.ldCount h.link ≤ 16 := by
      unfold Dev.ldCount
      split <;> omega
    have := a.ld
    omega
  refine decide_eq_false ?_
  show ¬ 128 ≤ h.link * 16 + h.ld
  omega

/-- Home slices that differ from the device's in the entry of one line and in ages. -/
structure Dev.EntryMade (d : Dev) (g line : Nat) (x : Option DirEntry) (sl : Slices) : Prop where
  nc : sl.nc = d.slices.nc
  resume : sl.resume = d.slices.resume
  snoops : sl.snoops = d.slices.snoops
  load : ({ d with slices := sl } : Dev).holdLoad ≤ d.holdLoad + 192
  entry : mget sl.dir (lineKey g line) = x
  others : ∀ k, k ≠ lineKey g line → mget sl.dir k = mget d.slices.dir k

/-- A read of a line without an entry, in a set with room, makes one. -/
theorem Dev.arbitrate_makes (F : d.Finds h hpa g line e) (hop : op.hostRead = true) (hdb : (d.grotto g).db = true) (hnone : d.dirGet g line = none)
    (hroom : (d.dirWays g line).length < 16) (k : AMap Link) (c' : Counters) (m : AMap Ld) : ∃ c sl,
    ({ d with links := k, cnt := c', lds := m } : Dev).arbitrate (d.hostReq h g line op) =
      (({ d with links := k, cnt := c, lds := m, slices := sl } : Dev).granted (d.hostReq h g line op)).grant (d.hostReq h g line op) ∧
    d.EntryMade g line (op.newEntry (srcOf h.link h.ld)) sl := by
  generalize hb : ({ d with links := k, cnt := c', lds := m } : Dev) = b
  have hbnone : b.dirGet g line = none := by rw [← hb]; exact hnone
  have hpass {f : Dev} (hstep : b.dirStep (d.hostReq h g line op) = (true, f)) := Dev.arbitrate_step (r := d.hostReq h g line op) (by rw [← hb]; exact hdb)
    (Dev.dirRead_sound (by rw [← hb]; exact F.comes.still.armed) fun z hz => absurd (hbnone.symm.trans hz) nofun)
    (Dev.dropFenced_live fun z hz => absurd (hbnone.symm.trans hz) nofun) hstep
  have hmade (x : DirEntry) (hx : op.newEntry (srcOf h.link h.ld) = some x) (hst : x.st ≠ .D) (herr : x.errBits = 0)
      (hstep : b.dirStep (d.hostReq h g line op) = b.dirAlloc (d.hostReq h g line op) x) : ∃ c sl,
      b.arbitrate (d.hostReq h g line op) =
        (({ d with links := k, cnt := c, lds := m, slices := sl } : Dev).granted (d.hostReq h g line op)).grant (d.hostReq h g line op) ∧
      d.EntryMade g line (op.newEntry (srcOf h.link h.ld)) sl := by
    have hhold : d.overHold 128 = false := by
      have hlimit : ¬ _ := of_decide_eq_false F.room
      exact decide_eq_false (by omega)
    obtain ⟨c, sl, halloc, hsl⟩ := Dev.dirAlloc_room (d := b) (r := d.hostReq h g line op) (x := x) (by rw [← hb]; exact hroom) hst
      (by rw [← hb]; exact hhold) herr (by rw [← hb]; exact F.comes.still.armed)
    refine ⟨c, sl, (hpass (hstep.trans halloc)).trans (by rw [← hb]), ?_⟩
    rw [← hb] at hsl
    have hdir := congrArg Slices.dir hsl
    have hnc := congrArg Slices.nc hsl
    have hresume := congrArg Slices.resume hsl
    have hsnoops := congrArg Slices.snoops hsl
    exact {
      nc := hnc, resume := hresume, snoops := hsnoops
      load := Nat.le_trans (d.holdLoad_dirSet _ x sl hdir hnc) (by omega)
      entry := by rw [hdir, hx]; exact mget_mset_self _ _ _
      others := fun j hj => by rw [hdir]; exact mget_mset_ne _ _ _ _ hj }
  cases op with
  | readS =>
    refine hmade _ rfl (by simp) rfl ?_
    unfold Dev.dirStep
    dsimp only
    rw [show b.dirGet (d.hostReq h g line .readS).g (d.hostReq h g line .readS).line = none from hbnone,
      F.comes.notInternal]
    rfl
  | readE =>
    refine hmade _ rfl (by simp) rfl ?_
    unfold Dev.dirStep
    dsimp only
    rw [show b.dirGet (d.hostReq h g line .readE).g (d.hostReq h g line .readE).line = none from hbnone]
    rfl
  | readI =>
    have hstep : b.dirStep (d.hostReq h g line .readI) = (true, b) := by
      unfold Dev.dirStep
      dsimp only
      rw [show b.dirGet (d.hostReq h g line .readI).g (d.hostReq h g line .readI).line = none from hbnone]
      rfl
    exact ⟨c', d.slices, (hpass hstep).trans (by rw [← hb]), ⟨rfl, rfl, rfl, Nat.le_add_right _ _, hnone, fun _ _ => rfl⟩⟩
  | _ => exact absurd hop (by simp [Op.hostRead])

end Answer

theorem exec_memArrive {c : Instr} {h : MemHdr} {hpa : BitVec 64} (s : State)
    (hc : c ∈ [Instr.rds h hpa, .rde h hpa, .rdi h hpa, .biconflict h hpa]) : exec c s = .next { s with dev := s.dev.memArrive h c } := by
  simp only [List.mem_cons, List.not_mem_nil, or_false] at hc
  obtain rfl | rfl | rfl | rfl := hc <;> rfl

/-- Settles O28: the message goes to its line's home slice (`Dev.memArrive_finds`), whose arbiter lets the read pass, with a new entry where there was
none; the near cache answers, and nothing is left to take up. -/
theorem hostReads : Obligations.HostReads := by
  intro p hp s h hpa g line e y F hy hbad hfix src answer
  obtain ⟨hreq, hexec, hop, hentry⟩ : memReqOf (p.2 h hpa) = some (h, hpa, some p.1) ∧
      exec (p.2 h hpa) s = .next { s with dev := s.dev.memArrive h (p.2 h hpa) } ∧ p.1.hostRead = true ∧
      p.1.newEntry src = (match p.1 with
        | .readS => some { st := .S, sharers := [src] }
        | .readE => some { st := .E, sharers := [src] }
        | _ => none) := by
    simp only [List.mem_cons, List.not_mem_nil, or_false] at hp
    obtain rfl | rfl | rfl := hp <;> exact ⟨rfl, rfl, rfl, rfl⟩
  obtain ⟨b, hb, harrive⟩ := Dev.memArrive_finds F hreq
  rw [hexec, harrive]
  refine ⟨fun hpass => ?_, fun hdb hnone hroom => ?_⟩
  · obtain ⟨k, c, m, rfl⟩ := hb.same
    obtain ⟨t, ht, hanswer⟩ := Dev.read_answered F hop hy hbad hfix hb (c := c) rfl F.comes.still.resume rfl (Nat.le_add_right _ _)
      (Dev.arbitrate_passes F hop hpass _ rfl rfl rfl)
    obtain ⟨k', c3, m', x, a, rfl⟩ := hanswer
    rw [ht]
    exact ⟨_, rfl, rfl, rfl, rfl, rfl, rfl, rfl, rfl⟩
  · obtain ⟨k, c, m, rfl⟩ := hb.same
    obtain ⟨c', sl, hgrant, hmade⟩ := Dev.arbitrate_makes F hop hdb hnone hroom k c m
    obtain ⟨t, ht, hanswer⟩ := Dev.read_answered F hop hy hbad hfix hb (c := c') hmade.nc (hmade.resume.trans F.comes.still.resume) hmade.snoops
      hmade.load hgrant
    obtain ⟨k', c3, m', x, a, rfl⟩ := hanswer
    rw [ht]
    exact ⟨_, rfl, rfl, hmade.nc, rfl, hmade.entry.trans hentry, hmade.others⟩

end Sys2Proof.Machine
end

section
/-!
PROOFS. A host write whose line number exceeds the 39 bits that a near-cache key leaves for it (O29).
-/
namespace Sys2Proof.Machine

/-- Line 5 beyond the first 2^39 lines of a grotto: its near-cache key is that of line 5 of the next grotto. -/
def aliasedLine : Nat := 2 ^ 39 + 5

/-- The HPA of that line. -/
def aliasedHpa : BitVec 64 := 0x10000000000 + 2 ^ 45 + 0x140

def aliasedHdr : MemHdr := { link := 1, ld := 2, tag := 9 }

/-- A device in RUN whose grotto 3 has more than 2^39 lines. The page of the line is hot and its line is in the near cache, clean; the page whose lines
have the same keys, page 0 of grotto 4, is lost. -/
def aliasedHost : State := { dev := {
  power := { mode := .run }, fwUp := true, qos := { bw := 3600 }
  links := [(1, { up := true, cxl := true, biOn := true })]
  lds := [(ldKey 1 2, { vecBase := some 0, decoders := [(0, {
    base := 0x10000000000, size := 0x400000000000, typeDB := true, committed := true, position := some 0 })] })]
  grottos := [(3, {
    state := 1, db := true, keyId := 1, ownerLink := 1, ownerLd := 2, committed := 2 ^ 17 + 1, chanMask := 0xFFFF, mapBase := 0x10000,
    attaches := [{ link := 1, ld := 2, base := 0 }] })]
  keys := [(1, 5)]
  pages := { area := [(0, mkEntry true 4 0 0 0 0), (0x10000 + 2 ^ 33, mkEntry true 1 0 0 0 100)], cache := [((0x10000 + 2 ^ 33) / 8, { grotto := 3, heats := [] })] }
  mem := { pools := [(0, { zeroed := [900], pending := [(1000, 1000000000000)] })] }
  chans := [(0, { state := 3, frames := 1000000, ranks := 1 })]
  slices := { nc := [(lineKey 3 aliasedLine, { data := 42 })] } } }

theorem aliasedHost_still : aliasedHost.dev.Still := by constructor <;> decide +kernel

theorem except_ok_of_toOption {ε α : Type} {r : Except ε α} {a : α} (h : r.toOption = some a) : r = .ok a := by
  cases r with
  | error _ => exact absurd h (by simp [Except.toOption])
  | ok b => exact congrArg _ (Option.some.inj h)

/-- The decoder's position is latched already. -/
theorem aliasedHost_locate : aliasedHost.dev.locate 1 2 aliasedHpa.toNat = (.ok (3, aliasedLine), aliasedHost.dev) :=
  Prod.ext (except_ok_of_toOption (by decide +kernel)) (by decide +kernel)

theorem aliasedHost_finds : aliasedHost.dev.Finds aliasedHdr aliasedHpa 3 aliasedLine aliasedHost.dev where
  comes := {
    takes := by decide +kernel, pbr := by decide +kernel, ld := by decide +kernel, run := ⟨by decide +kernel, by decide +kernel⟩
    still := aliasedHost_still, secure := by decide +kernel, mac := by decide +kernel, epoch := by decide +kernel }
  slot := by decide +kernel
  found := aliasedHost_locate
  locks := by decide +kernel
  apart := by decide +kernel
  live := by decide +kernel
  room := by decide +kernel
  form := by decide +kernel

theorem aliasedHost_hotLine : aliasedHost.dev.HotLine 3 aliasedLine where
  keyed := by decide +kernel
  cached := by decide +kernel
  hot := by decide +kernel
  here := by decide +kernel
  alone := by decide +kernel
  whole := by decide +kernel

/-- The written line does not stay: it is taken for a dirty line of the lost page. -/
theorem aliasedHost_writes : ∀ t, exec (.wrnc aliasedHdr aliasedHpa fullMask 77 true) aliasedHost = .next t → t.dev.ncGet 3 aliasedLine = none := by
  rintro t h
  obtain rfl : ({ aliasedHost with dev := aliasedHost.dev.memArrive aliasedHdr (.wrnc aliasedHdr aliasedHpa fullMask 77 true) } : State) = t :=
    Host.Outcome.next.inj h
  decide +kernel

/-- Refutes O29: in a grotto of more than 2^39 lines the key of line 2^39 + 5 is that of line 5 of the next grotto. Where that grotto's page is lost, a
write of the line ends with the line written out and dropped, and not dirty in the near cache. -/
theorem not_hostWrites : ¬ Obligations.HostWrites := by
  intro h
  obtain ⟨hwrite, -, -⟩ := h aliasedHost aliasedHdr aliasedHpa 3 aliasedLine aliasedHost.dev 77 true false { st := .E } aliasedHost_finds
  obtain ⟨t, hexec, ⟨-, hnc, -⟩, -⟩ := hwrite aliasedHost_hotLine (by decide +kernel)
  exact absurd ((aliasedHost_writes _ hexec).symm.trans hnc) (by simp)

end Sys2Proof.Machine
end

section
/-!
PROOFS. Snoop answers, a conflict, a snoop's timeout and the end of a fence's sweep (R46, R167, R181 to R183).
-/
namespace Sys2Proof.Machine

/-! ### A conflict -/

theorem biconflict_acknowledged {s : State} {h : MemHdr} {hpa : BitVec 64} (a : s.dev.Arrives h) : ∃ t, exec (.biconflict h hpa) s =
      .next { s with dev := t } ∧ t.out = s.dev.out ++ [{ msg := .conflictAck h hpa, source := (s.dev.link h.link).pbr }] ∧
      { t with out := s.dev.out, links := s.dev.links } = s.dev ∧ ∀ l, t.link l = s.dev.link l := by
  have hreached := Dev.setLink_reached a
  have hsource : ((s.dev.setLink h.link (s.dev.link h.link)).link h.link).pbr = (s.dev.link h.link).pbr := congrArg Link.pbr (hreached.links h.link)
  have hstill : ((s.dev.setLink h.link (s.dev.link h.link)).emit (.conflictAck h hpa)).Still := a.still.sent _ s.dev.cnt s.dev.lds _
  have harrive : s.dev.memArrive h (.biconflict h hpa) = (s.dev.setLink h.link (s.dev.link h.link)).emit (.conflictAck h hpa) := by
    rw [Dev.memArrive_arrives a _ fun htakes => absurd htakes (by simp [takesSlot, memReqOf]), Dev.memAct_arrives a rfl]
    exact Dev.after_still _ hstill
  rw [exec_memArrive (h := h) (hpa := hpa) s (by simp), harrive]
  exact ⟨_, rfl, congrArg (fun p => s.dev.out ++ [({ msg := .conflictAck h hpa, source := p } : Out)]) hsource, rfl, hreached.links⟩

/-! ### The answer of a snoop -/

section Answer
variable {d : Dev} {link ld tag : Nat} {dpid : BitVec 12} {b : Snoop} {x : DirEntry}

/-- The snoops that are out once one is answered. -/
def Dev.otherSnoops (d : Dev) (link ld tag : Nat) : List Snoop :=
  d.slices.snoops.filter fun k => !(k.link == link && k.ld == ld && k.tag == some tag)

/-- A snoop is out that this link's logical device may answer, while others of its line are. -/
structure Dev.Snooping (d : Dev) (link ld tag : Nat) (dpid : BitVec 12) (b : Snoop) (x : DirEntry) : Prop where
  run : d.inRun
  still : d.Still
  takes : d.linkTakes link = true
  pbr : (d.link link).misrouted dpid = false
  exists_ : ld < d.ldCount link
  out : d.slices.snoops.find? (fun k => k.link == link && k.ld == ld && k.tag == some tag) = some b
  live : d.fencedSrc b.g (srcOf link ld) = false
  first : b.resent = false
  entry : d.dirGet b.g b.line = some x
  round : x.st = .B
  sound : x.errBits = 0
  more : ∃ k ∈ d.slices.snoops, k.g = b.g ∧ k.line = b.line ∧ ¬ (k.link = link ∧ k.ld = ld ∧ k.tag = some tag)

/-- A round with snoops out goes on. -/
theorem Dev.checkRound_open {e : Dev} {g line : Nat} (h : ∃ k ∈ e.slices.snoops, k.g = g ∧ k.line = line) : e.checkRound g line = e := by
  have hany : (e.slices.snoops.any fun s => s.g == g && s.line == line) = true := by
    obtain ⟨k, hk, hg, hl⟩ := h
    exact List.any_eq_true.mpr ⟨k, hk, by simp [hg, hl]⟩
  unfold Dev.checkRound
  split
  next => rw [hany, if_neg (by simp)]
  next => rfl

theorem Dev.Snooping.otherOut (w : d.Snooping link ld tag dpid b x) : ∃ k ∈ d.otherSnoops link ld tag, k.g = b.g ∧ k.line = b.line := by
  obtain ⟨k, hk, hg, hl, hother⟩ := w.more
  have hkeeps : (!(k.link == link && k.ld == ld && k.tag == some tag)) = true := by
    simpa only [Bool.not_eq_true', Bool.eq_false_iff, ne_eq, Bool.and_eq_true, beq_iff_eq, and_assoc] using hother
  exact ⟨k, List.mem_filter.mpr ⟨hk, hkeeps⟩, hg, hl⟩

/-- The device once a snoop is answered, before its round is looked at. -/
def Dev.snoopTaken (d : Dev) (link ld tag : Nat) : Dev := { d with slices := { d.slices with snoops := d.otherSnoops link ld tag } }

theorem Dev.snoopTaken_still (h : d.Still) : (d.snoopTaken link ld tag).Still :=
  h.changed { d.slices with snoops := d.otherSnoops link ld tag } d.pages h.resume (fun k hk => h.snoops k (List.mem_filter.mp hk).1) rfl h.hold rfl
    h.dying h.misses h.frames h.writes

/-- The entry of a round takes what an answer leaves. -/
theorem Dev.dirPut_still (h : d.Still) {g line : Nat} (e : DirEntry) (hx : d.dirGet g line = some x) : (d.dirPut g line e).Still := by
  rw [Dev.dirPut_unarmed h.armed]
  exact h.changed _ d.pages h.resume h.snoops rfl
    (Dev.overHold_of_load 0 (d.holdLoad_dirOver _ { e with errBits := 0 } x _ hx rfl rfl) rfl h.hold) rfl h.dying h.misses h.frames h.writes

/-- An answer that its snoop allows, and that leaves its round open, is kept in the round's entry. -/
theorem Dev.snoopAnswer_kept (w : d.Snooping link ld tag dpid b x) {resp : Nat} (hallows : b.kind.allows resp = true) :
    d.snoopAnswer link ld tag resp dpid =
      if resp = 1 then (d.snoopTaken link ld tag).dirPut b.g b.line { x with track := { x.track with leftS := x.track.leftS ++ [srcOf link ld] } }
      else if resp = 2 then (d.snoopTaken link ld tag).dirPut b.g b.line { x with track := { x.track with leftE := some (srcOf link ld) } }
      else d.snoopTaken link ld tag := by
  have hmore := w.otherOut
  have htaken : (d.snoopTaken link ld tag).dirGet b.g b.line = some x := w.entry
  have hstill := Dev.snoopTaken_still (link := link) (ld := ld) (tag := tag) w.still
  have hround (e : Dev) (he : e.slices.snoops = d.otherSnoops link ld tag) (hs : e.Still) : (e.checkRound b.g b.line).after = e := by
    rw [Dev.checkRound_open (he ▸ hmore), Dev.after_still _ hs]
  unfold Dev.snoopAnswer Dev.addressed
  rw [w.takes, d.wake_inRun 1 link w.run, w.pbr, decide_eq_true w.exists_]
  dsimp only
  rw [w.out]
  simp only [Bool.not_true, Bool.false_eq_true, ↓reduceIte, w.live, hallows, w.first]
  rw [show ({ d with slices := { d.slices with snoops := d.slices.snoops.filter fun x => !(x.link == link && x.ld == ld && x.tag == some tag) } } : Dev) =
    d.snoopTaken link ld tag from rfl, htaken]
  dsimp only
  split
  · exact hround _ (by rw [Dev.dirPut_unarmed hstill.armed]; rfl) (Dev.dirPut_still hstill _ htaken)
  · split
    · exact hround _ (by rw [Dev.dirPut_unarmed hstill.armed]; rfl) (Dev.dirPut_still hstill _ htaken)
    · exact hround _ rfl hstill

end Answer

/-- The first timeout of a snoop sends it once more (R181). -/
theorem Dev.snoopLate_first {d : Dev} {link tag : Nat} {b : Snoop} {a : Nat} (hrun : d.inRun)
    (hfind : d.slices.snoops.find? (fun k => k.link == link && k.tag == some tag) = some b) (hfirst : b.resent = false)
    (ha : d.snoopHpa b.link b.ld b.g b.line = some a) :
    d.snoopLate link tag = ((d.onSlices fun sl => { sl with
      snoops := sl.snoops.map fun k => if k.link = link ∧ k.tag = some tag then { k with resent := true } else k }).emit
        (.snoop b.link b.ld b.kind (d.link b.link).biId tag a)).bump (128 + 16 * link + 5) := by
  unfold Dev.snoopLate
  rw [hfind]
  dsimp only
  rw [hrun.awake, hfirst, if_neg (by decide), if_neg (by decide)]
  split
  next c hc =>
    obtain rfl : a = c := Option.some.inj (ha.symm.trans hc)
    rfl
  next hc => exact absurd (ha.symm.trans hc) nofun

/-- The end of a sweep that runs (R183). -/
theorem Dev.sweepDone_runs {d : Dev} {g src : Nat} (h : (g, src) ∈ d.slices.sweeps) : d.sweepDone g src =
    ((((d.fenceSweep g src).2.onSlices fun k => { k with sweeps := k.sweeps.filter (· != (g, src)) }).event (unitLink (src / 16)) 0 0
      ((d.fenceSweep g src).1 + src * 2 ^ 32) (some g)).after) := by
  unfold Dev.sweepDone
  rw [if_pos (List.contains_iff_mem.mpr h)]
  rfl

/-- Settles O30: an allowed answer changes its round's entry alone while other snoops of the line are out, so that the round stays open
(`Dev.snoopAnswer_kept`). -/
theorem snoopsAreAnswered : Obligations.SnoopsAreAnswered := by
  intro s h hpa link ld tag dpid b x hrun hstill
  refine ⟨fun a => biconflict_acknowledged a, fun htakes hpbr hld hout hlive hfirst hentry hround hsound hmore => ?_, fun a hfind hfirst ha => ?_,
    fun g src hsweep => ?_⟩
  · have w : s.dev.Snooping link ld tag dpid b x := ⟨hrun, hstill, htakes, hpbr, hld, hout, hlive, hfirst, hentry, hround, hsound, hmore⟩
    have harmed : (s.dev.snoopTaken link ld tag).faults.armed = [] := hstill.armed
    refine ⟨exec_dev rfl (Dev.snoopAnswer_kept w (resp := 0) rfl), fun hkind => ⟨_, exec_dev rfl (Dev.snoopAnswer_kept w (resp := 1) ?_), ?_⟩,
      fun hkind => ⟨_, exec_dev rfl (Dev.snoopAnswer_kept w (resp := 2) ?_), ?_⟩⟩
    · cases hk : b.kind with
      | inv => exact absurd hk hkind
      | cur | data => rfl
    · rw [if_pos rfl, Dev.dirPut_unarmed harmed, hsound]
      rfl
    · rw [hkind]
      rfl
    · rw [if_neg (by decide), if_pos rfl, Dev.dirPut_unarmed harmed, hsound]
      rfl
  · exact ⟨_, exec_dev rfl (Dev.snoopLate_first hrun hfind hfirst ha), rfl, rfl, rfl, rfl, rfl⟩
  · exact exec_dev rfl (Dev.sweepDone_runs hsweep)

end Sys2Proof.Machine
end

section
/-!
PROOFS. HDM decoders and MSI-X vectors (R37, R40, R41, R60).
-/
namespace Sys2Proof.Machine

theorem waysKnown_iff (n : Nat) : waysKnown n = true ↔ n ∈ [1, 2, 3, 4, 6, 8, 12, 16] := List.contains_iff_mem
theorem granKnown_iff (n : Nat) : granKnown n = true ↔ n ∈ [256, 512, 1024, 2048, 4096, 8192, 16384] := List.contains_iff_mem

section Decoder
variable {d : Dev} {l ld n : Nat} {c : DecoderCfg}

/-- The decoder that a configuration asks for: ways or a granularity outside the tables leave the field as it was. -/
def Decoder.over (old : Decoder) (c : DecoderCfg) : Decoder := {
  base := BitVec.ofNat 64 c.base, size := BitVec.ofNat 64 c.size, ways := if waysKnown c.ways then c.ways else old.ways,
  gran := if granKnown c.gran then c.gran else old.gran, skip := c.skip, typeDB := c.typeDB, lockOnCommit := c.lock }

/-- The device once the fields of a configuration are looked at: an EVENT where one is outside its table. -/
def Dev.configured (d : Dev) (l ld n : Nat) (c : DecoderCfg) : Dev :=
  if waysKnown c.ways ∧ granKnown c.gran then d else d.regEvent l ld 0 (decoderCtl n) 2

theorem Dev.commitDecoder_fits (hn : n < 4) (hlock : (mgetD (d.ld l ld).decoders n {}).locked = false)
    (hopen : (mgetD (d.ld l ld).decoders n {}).committed = false)
    (hfits : (d.configured l ld n c).decoderCause l ld n ((mgetD (d.ld l ld).decoders n {}).over c) = 0) :
    d.commitDecoder l ld n c = (d.configured l ld n c).setDecoder l ld n { (mgetD (d.ld l ld).decoders n {}).over c with
      committed := true, locked := c.lock, position := if ((mgetD (d.ld l ld).decoders n {}).over c).ways ≤ 1 then some 0 else none } := by
  unfold Dev.commitDecoder
  dsimp only
  rw [if_neg (by omega), hlock, hopen, if_neg (by decide), if_neg (by decide)]
  exact if_pos hfits

theorem Dev.commitDecoder_unfit (hn : n < 4) (hlock : (mgetD (d.ld l ld).decoders n {}).locked = false)
    (hopen : (mgetD (d.ld l ld).decoders n {}).committed = false)
    (hunfit : (d.configured l ld n c).decoderCause l ld n ((mgetD (d.ld l ld).decoders n {}).over c) ≠ 0) :
    d.commitDecoder l ld n c = ((d.configured l ld n c).setDecoder l ld n { (mgetD (d.ld l ld).decoders n {}).over c with error := true }).event
      (unitLink l) 4 (decoderCtl n)
      (ld % 16 + n * 16 + (d.configured l ld n c).decoderCause l ld n ((mgetD (d.ld l ld).decoders n {}).over c) * 256) := by
  unfold Dev.commitDecoder
  dsimp only
  rw [if_neg (by omega), hlock, hopen, if_neg (by decide), if_neg (by decide)]
  exact if_neg hunfit

theorem Dev.commitDecoder_committed (hn : n < 4) (hlock : (mgetD (d.ld l ld).decoders n {}).locked = false)
    (hon : (mgetD (d.ld l ld).decoders n {}).committed = true) :
    d.commitDecoder l ld n c = (d.configured l ld n c).setDecoder l ld n { (mgetD (d.ld l ld).decoders n {}).over c with
      committed := true, position := (mgetD (d.ld l ld).decoders n {}).position } := by
  unfold Dev.commitDecoder
  dsimp only
  rw [if_neg (by omega), hlock, hon, if_neg (by decide), if_pos rfl]
  rfl

theorem Dev.commitDecoder_locked (hn : n < 4) (hlock : (mgetD (d.ld l ld).decoders n {}).locked = true) :
    d.commitDecoder l ld n c = d.regEvent l ld 0 (decoderCtl n) 1 := by
  unfold Dev.commitDecoder
  dsimp only
  rw [if_neg (by omega), if_pos hlock]

theorem Dev.uncommitDecoder_locked (hn : n < 4) (hlock : (mgetD (d.ld l ld).decoders n {}).locked = true) :
    d.uncommitDecoder l ld n = d.regEvent l ld 0 (decoderCtl n) 1 := by
  unfold Dev.uncommitDecoder
  dsimp only
  rw [if_neg (by omega), if_pos hlock]

theorem Dev.uncommitDecoder_open (hn : n < 4) (hlock : (mgetD (d.ld l ld).decoders n {}).locked = false) :
    d.uncommitDecoder l ld n = d.setDecoder l ld n { mgetD (d.ld l ld).decoders n {} with committed := false, error := false, position := none } := by
  unfold Dev.uncommitDecoder
  dsimp only
  rw [if_neg (by omega), hlock, if_neg (by decide)]

end Decoder

/-! ### Vectors -/

section Vector
variable {d : Dev} {l ld n : Nat}

/-- A logical device with a vector unmasked: its interrupt is no longer pending. -/
def Ld.unmasking (x : Ld) (n : Nat) : Ld :=
  { x with msixOn := true, unmasked := x.unmasked.filter (· != n) ++ [n], pendVec := x.pendVec.filter (· != n) }

theorem Dev.ld_setLd_some {x : Ld} (hne : x ≠ {}) : (d.setLd l ld x).ld l ld = x := by
  unfold Dev.ld Dev.setLd mput
  rw [if_neg hne]
  exact mgetD_mset_self _ _ _ _

theorem Dev.unmask_quiet (hn : n < (d.ld l ld).vecCount) (hpend : (d.ld l ld).pendVec.contains n = false) :
    d.unmask l ld n = d.setLd l ld ((d.ld l ld).unmasking n) := by
  unfold Dev.unmask
  rw [if_neg (by omega)]
  exact if_neg (by rw [hpend]; decide)

/-- An unmasked vector takes its pending interrupt. -/
theorem Dev.unmask_pending (hn : n < (d.ld l ld).vecCount) (hpend : (d.ld l ld).pendVec.contains n = true) :
    d.unmask l ld n = ((d.setLd l ld ((d.ld l ld).unmasking n)).emit (.msix l ((d.ld l ld).base ld + n))).bump (128 + 16 * l + 8) := by
  have hne : (d.ld l ld).unmasking n ≠ {} := by
    intro h
    exact absurd (congrArg Ld.msixOn h) (by simp [Ld.unmasking])
  have hinterrupt : d.unmask l ld n = (d.setLd l ld ((d.ld l ld).unmasking n)).interrupt l ld n := by
    unfold Dev.unmask
    rw [if_neg (by omega)]
    exact if_pos hpend
  rw [hinterrupt]
  unfold Dev.interrupt
  dsimp only
  rw [Dev.ld_setLd_some hne]
  exact if_pos (by simp [Ld.unmasking])

end Vector

/-- The EVENT of a decoder's register. -/
theorem Dev.regEvent_decoder (d : Dev) (l ld n detail : Nat) : d.regEvent l ld 0 (decoderCtl n) detail =
    d.event 0x385 4 (l % 8 * 2 ^ 45 + ld % 16 * 2 ^ 41 + (0x1320 + 0x20 * n) % 2 ^ 32) detail := by
  unfold Dev.regEvent
  rw [Nat.zero_mod, Nat.zero_mul, Nat.add_zero]
  rfl

/-- Settles O32: CXL.io writes of a decoder or a vector have their effect at once (`Dev.ioArrive_open`), which is the one that each case of the
functions gives. -/
theorem decodersAndVectors : Obligations.DecodersAndVectors := by
  intro s l ld n c dpid hrun hopen hpbr d old ways gran k refused E
  have hio (c : Instr) (f : Dev → Dev) : d.ioArrive l ld dpid false c f = f d := d.ioArrive_open l ld dpid false c f hrun hopen hpbr
  have hk : old.over c = k := by
    unfold Decoder.over
    simp only [waysKnown_iff, granKnown_iff]
    rfl
  have hE : d.configured l ld n c = E := by
    unfold Dev.configured
    simp only [waysKnown_iff, granKnown_iff, Dev.regEvent_decoder]
    rfl
  refine ⟨fun hn hlock hoff => ⟨fun hfits => ?_, fun hunfit => ?_⟩, fun hn hlock hon => ?_, fun hn hlock => ?_, fun hn hlock => ⟨?_, ?_⟩,
    fun hn => ?vectors⟩
  · refine exec_dev rfl ((hio _ _).trans ((Dev.commitDecoder_fits hn hlock hoff ?_).trans ?_))
    · rw [hk, hE]
      exact hfits
    · rw [hk, hE]
  · refine exec_dev rfl ((hio _ _).trans ((Dev.commitDecoder_unfit hn hlock hoff ?_).trans ?_))
    · rw [hk, hE]
      exact hunfit
    · rw [hk, hE]
      rfl
  · refine exec_dev rfl ((hio _ _).trans ((Dev.commitDecoder_committed hn hlock hon).trans ?_))
    rw [hk, hE]
  · exact exec_dev rfl ((hio _ _).trans (Dev.uncommitDecoder_open hn hlock))
  · exact exec_dev rfl ((hio _ _).trans ((Dev.uncommitDecoder_locked hn hlock).trans (d.regEvent_decoder l ld n 1)))
  · exact exec_dev rfl ((hio _ _).trans ((Dev.commitDecoder_locked hn hlock).trans (d.regEvent_decoder l ld n 1)))
  case vectors =>
    intro y
    refine ⟨fun hpend => exec_dev rfl ((hio _ _).trans (Dev.unmask_quiet hn hpend)),
      fun hpend => ⟨_, exec_dev rfl ((hio _ _).trans (Dev.unmask_pending hn hpend)), rfl, ?_, rfl⟩⟩
    exact Dev.ld_setLd_some (d := d) fun h => absurd (congrArg Ld.msixOn h) (by simp [Ld.unmasking])

end Sys2Proof.Machine
end

section
/-!
PROOFS. Mailbox commands: how they are taken, and what their programs report (R26, R61 to R66, R477).
-/
namespace Sys2Proof.Machine

/-! ### A command is taken -/

section Takes
variable {s : State} {l ld : Nat} {p : BitVec 12} {c : Instr}

theorem State.mail_open (hrun : s.dev.inRun) (hopen : s.dev.ldOpen l ld = true) (hpbr : (s.dev.link l).misrouted p = false) :
    s.mail l ld p c = .next { s with dev := s.dev.mailWrite l ld c } := by
  unfold State.mail State.onDev
  dsimp only
  rw [s.dev.ioArrive_open l ld p false c _ hrun hopen hpbr]

/-- A free mailbox takes the command. -/
theorem State.mail_free (h : s.dev.MailFree l ld p) : s.mail l ld p c = .next { s with dev := s.dev.posted l ld c } := by
  have hwrite : s.dev.mailWrite l ld c = s.dev.posted l ld c := if_neg (by simp [h.result, h.wait])
  rw [State.mail_open h.run h.reached h.pbr, hwrite]

/-- An occupied one takes none. -/
theorem State.mail_occupied (hrun : s.dev.inRun) (hopen : s.dev.ldOpen l ld = true) (hpbr : (s.dev.link l).misrouted p = false)
    (h : (s.dev.ld l ld).mbox.isSome = true ∨ (s.dev.ld l ld).mboxWait.isSome = true) : s.mail l ld p c = .next s := by
  have hwrite : s.dev.mailWrite l ld c = s.dev := if_pos h
  rw [State.mail_open hrun hopen hpbr, hwrite]

end Takes

theorem mailboxTakes : Claims.MailboxTakes := by
  intro s l ld log n dpa len policy data es op p c hc
  have hexec : exec c s = s.mail l ld p c := by
    simp only [List.mem_cons, List.not_mem_nil, or_false] at hc
    obtain rfl | rfl | rfl | rfl | rfl | rfl | rfl | rfl | rfl | rfl | rfl | rfl | rfl | rfl | rfl | rfl | rfl | rfl | rfl | rfl := hc <;> rfl
  rw [hexec]
  exact ⟨State.mail_free, State.mail_occupied⟩

/-! ### A program runs -/

section Runs
variable {d e : Dev} {l ld : Nat} {c : Instr} {code : CmdCode} {pl : List Nat}

theorem Dev.mailAnswer_replied (d : Dev) (l ld : Nat) (code : CmdCode) (pl : List Nat) : d.mailAnswer l ld code pl = d.replied l ld code pl :=
  rfl

theorem Dev.runMail_answers {m : Mail} (h : m.run d = .ok ((code, pl), e)) : d.runMail l ld c m = e.answered l ld c code pl := by
  unfold Dev.runMail
  rw [h]
  rfl

/-- The program at the head of queue 0 of its port runs: what stands in the mailbox then goes to the host, where nothing of it is outstanding. -/
theorem Dev.mailResult_runs (h : d.MailRuns l ld c) (hstart : d.startMail l ld c = e.answered l ld c code pl)
    (hbox : ((e.answered l ld c code pl).after.ld l ld).mbox = some (c, code, pl)) :
    d.mailResult l ld = (Dev.runBg (if (e.answered l ld c code pl).after.outstanding (.mbox l ld) then (e.answered l ld c code pl).after
      else (e.answered l ld c code pl).after.replied l ld code pl) l ld).after := by
  unfold Dev.mailResult
  rw [h.run.awake, h.head, h.wait]
  dsimp only
  rw [hstart, hbox, if_neg (by decide), if_neg (by decide)]
  dsimp only
  rw [Dev.mailAnswer_replied]

/-- A command but Secure Erase and Release Dynamic Capacity starts with its program's body. -/
theorem Dev.startMail_body (hstart : d.mailStart l ld c = (d, mailBody l ld c)) (h : (mailBody l ld c).run d = .ok ((code, pl), e)) :
    d.startMail l ld c = e.answered l ld c code pl := by
  unfold Dev.startMail
  rw [hstart]
  exact Dev.runMail_answers h

/-- A result leaves nothing to take up. -/
theorem Dev.answered_still (h : e.Still) (l ld : Nat) (c : Instr) (code : CmdCode) (pl : List Nat) : (e.answered l ld c code pl).Still := by
  have hset : (e.setLd l ld { e.ld l ld with mbox := some (c, code, pl), mboxWait := none }).Still := h.sent e.links e.cnt _ e.out
  exact hset.changed _ _ hset.resume hset.snoops rfl hset.hold rfl hset.dying hset.misses hset.frames hset.writes

theorem Dev.answered_mbox (e : Dev) (l ld : Nat) (c : Instr) (code : CmdCode) (pl : List Nat) :
    ((e.answered l ld c code pl).ld l ld).mbox = some (c, code, pl) :=
  congrArg Ld.mbox (Dev.ld_setLd_some (d := e) (x := { e.ld l ld with mbox := some (c, code, pl), mboxWait := none })
    fun h => absurd (congrArg Ld.mbox h) (by simp))

/-- A program that leaves a still device with nothing outstanding gives its result to the host. -/
theorem Dev.mailResult_reports (h : d.MailRuns l ld c) (hstart : d.mailStart l ld c = (d, mailBody l ld c))
    (hbody : (mailBody l ld c).run d = .ok ((code, pl), e)) (hstill : e.Still) (hout : e.outstanding (.mbox l ld) = false) :
    d.mailResult l ld = (((e.answered l ld c code pl).replied l ld code pl).runBg l ld).after := by
  have hafter := Dev.after_still _ (Dev.answered_still hstill l ld c code pl)
  have hnone : (e.answered l ld c code pl).outstanding (.mbox l ld) = false := hout
  rw [Dev.mailResult_runs h (Dev.startMail_body hstart hbody) (by rw [hafter]; exact e.answered_mbox l ld c code pl), hafter, hnone,
    if_neg (by decide)]

end Runs

/-! ### The programs that report -/

section Reports
variable {d : Dev} {l ld : Nat} {p : BitVec 12}

theorem mailBody_backgroundIdle (hidle : (d.ld l ld).background = none) (hnone : (d.ld l ld).bgDone = none) :
    (mailBody l ld (.backgroundOperationStatus l ld p)).run d = .ok ((.success, [0, 0, 100, 0]), d) := by
  show (bgStatus (d.ld l ld)).run d = _
  unfold bgStatus
  rw [hidle, hnone]
  rfl

theorem mailBody_backgroundDone {op : Nat} {code : CmdCode} (hidle : (d.ld l ld).background = none) (hdone : (d.ld l ld).bgDone = some (op, code)) :
    (mailBody l ld (.backgroundOperationStatus l ld p)).run d = .ok ((.success, [0, op, 100, if code = .success then 0 else 1]), d) := by
  show (bgStatus (d.ld l ld)).run d = _
  unfold bgStatus
  rw [hidle, hdone]
  rfl

theorem mailBody_backgroundRuns {c : Instr} (hruns : (d.ld l ld).background = some c) :
    (mailBody l ld (.backgroundOperationStatus l ld p)).run d =
      .ok ((.success, [1, mailOpcode c, (d.ld l ld).bgAt * 100 / max 1 (d.ld l ld).bgAll, 0]), d) := by
  show (bgStatus (d.ld l ld)).run d = _
  unfold bgStatus
  rw [hruns]
  rfl

theorem mailBody_getLog {log : Nat} (hlog : log ≤ 4) :
    (mailBody l ld (.getEventRecords l ld log p)).run d = .ok ((.success,
      [log, (mgetD (d.ld l ld).logs log {}).overflow, (mgetD (d.ld l ld).logs log {}).first, (mgetD (d.ld l ld).logs log {}).last,
        min (mgetD (d.ld l ld).logs log {}).recs.length 63, if 63 < (mgetD (d.ld l ld).logs log {}).recs.length then 1 else 0] ++
        ((mgetD (d.ld l ld).logs log {}).recs.take 63).flatMap LogRec.words), d) := by
  show (getLog (d.ld l ld) log).run d = _
  unfold getLog
  rw [if_neg (by omega)]
  rfl

theorem mailBody_clearLog {log n : Nat} (hlog : log ≤ 4) (hn : n ≤ (mgetD (d.ld l ld).logs log {}).recs.length) :
    (mailBody l ld (.clearEventRecords l ld log n p)).run d = .ok ((.success, []), d.setLd l ld { d.ld l ld with
      logs := mset (d.ld l ld).logs log (if n = (mgetD (d.ld l ld).logs log {}).recs.length then {}
        else { mgetD (d.ld l ld).logs log {} with recs := (mgetD (d.ld l ld).logs log {}).recs.drop n }) }) := by
  have hempty : ((mgetD (d.ld l ld).logs log {}).recs.drop n).isEmpty = decide (n = (mgetD (d.ld l ld).logs log {}).recs.length) := by
    rw [Bool.eq_iff_iff, List.isEmpty_iff, List.drop_eq_nil_iff, decide_eq_true_eq]
    omega
  show (clearLog l ld log n).run d = _
  unfold clearLog
  refine (Eng.run_bind_ok (Eng.run_dev d)).trans ?_
  dsimp only
  rw [if_neg (by omega), hempty]
  simp only [decide_eq_true_eq]
  rfl

end Reports

theorem mailboxReports : Claims.MailboxReports := by
  intro s l ld c p h hstill hout d x gives tells
  have reports {e : Dev} {code : CmdCode} {pl : List Nat} (hstart : d.mailStart l ld c = (d, mailBody l ld c))
      (hbody : (mailBody l ld c).run d = .ok ((code, pl), e)) (hstill : e.Still) (hout : e.outstanding (.mbox l ld) = false) : gives e code pl :=
    exec_dev rfl (Dev.mailResult_reports h hstart hbody hstill hout)
  have hset (y : Ld) : (d.setLd l ld y).Still := hstill.sent d.links d.cnt _ d.out
  refine ⟨?_, ?_, fun log hlog => ⟨?_, fun n => ?_⟩, ?_, fun k => ?_, ?_, fun dpa len => ?_, fun dpa len => ?_, ?_, ?_, fun first n => ?_, fun op => ?_⟩
  · rintro rfl
    exact reports rfl rfl hstill hout
  · rintro rfl
    exact ⟨fun hidle hnone => reports rfl (mailBody_backgroundIdle hidle hnone) hstill hout,
      fun op code hidle hdone => reports rfl (mailBody_backgroundDone hidle hdone) hstill hout,
      fun dpa len k hruns => reports rfl (mailBody_backgroundRuns hruns) hstill hout, fun k hruns => reports rfl (mailBody_backgroundRuns hruns) hstill hout⟩
  · rintro rfl
    exact reports rfl (mailBody_getLog hlog) hstill hout
  · rintro rfl hn
    exact reports rfl (mailBody_clearLog hlog hn) (hset _) hout
  case refine_6 =>
    rintro rfl
    exact reports rfl rfl (hset _) hout
  case refine_7 =>
    intro units
    rintro rfl
    exact reports rfl rfl hstill hout
  all_goals
    rintro rfl
    exact reports rfl rfl hstill hout

end Sys2Proof.Machine
end

section
/-!
PROOFS. The mailbox programs that act, and background commands (R48, R50, R62 to R65, R110).
-/
namespace Sys2Proof.Machine

section Bodies
variable {d e : Dev} {l ld : Nat} {p : BitVec 12}

/-- A program's full-line write reaches its line. -/
theorem mailWrite_reaches {dpa g off : Nat} {data : LineData} {bad : Bool} (halign : dpa % 64 = 0) (hcase : d.dpaCase l ld dpa = .ok (g, off)) :
    (mailWrite l ld dpa data bad).run d = .ok ((.success, []), d.again 1 {
      who := .mbox l ld, src := 163, g := g, line := off / 64, op := .write fullMask data bad, cls := (d.grotto g).cls }) := by
  unfold mailWrite
  refine (Eng.run_bind_ok (Eng.run_dev d)).trans ?_
  rw [if_neg (by omega), hcase]
  rfl

theorem mailWrite_unaligned {dpa : Nat} {data : LineData} {bad : Bool} (halign : dpa % 64 ≠ 0) :
    (mailWrite l ld dpa data bad).run d = .ok ((.invalidInput, []), d) := by
  unfold mailWrite
  refine (Eng.run_bind_ok (Eng.run_dev d)).trans ?_
  rw [if_pos halign]
  rfl

theorem mailWrite_outside {dpa k : Nat} {data : LineData} {bad : Bool} (halign : dpa % 64 = 0) (hcase : d.dpaCase l ld dpa = .error k) :
    (mailWrite l ld dpa data bad).run d = .ok ((.physicalAddress, []), d) := by
  unfold mailWrite
  refine (Eng.run_bind_ok (Eng.run_dev d)).trans ?_
  rw [if_neg (by omega), hcase]
  rfl

theorem injectMail_off {dpa : Nat} (hok : (d.ld l ld).injectOk = false) : (injectMail l ld dpa).run d = .ok ((.unsupported, []), d) := by
  unfold injectMail
  refine (Eng.run_bind_ok (Eng.run_dev d)).trans ?_
  dsimp only
  rw [hok]
  rfl

theorem injectMail_full {dpa : Nat} (hok : (d.ld l ld).injectOk = true) (halign : dpa % 64 = 0) (hfull : 64 ≤ (d.ld l ld).injected) :
    (injectMail l ld dpa).run d = .ok ((.injectLimit, []), d) := by
  unfold injectMail
  refine (Eng.run_bind_ok (Eng.run_dev d)).trans ?_
  dsimp only
  rw [hok, if_neg (by decide), if_pos ⟨halign, hfull⟩]
  rfl

theorem injectMail_writes {dpa : Nat} (hok : (d.ld l ld).injectOk = true) (hroom : (d.ld l ld).injected < 64) :
    (injectMail l ld dpa).run d = (mailWrite l ld dpa 0 true).run d := by
  unfold injectMail
  refine (Eng.run_bind_ok (Eng.run_dev d)).trans ?_
  dsimp only
  rw [hok, if_neg (by decide), if_neg (by omega)]

/-- A background command starts where none runs. -/
theorem startBg_starts {c : Instr} {n : Nat} (hidle : (d.ld l ld).background = none) :
    (startBg l ld c true n).run d = .ok ((.background, []), d.setLd l ld { d.ld l ld with
      background := some c, bgFrames := none, bgAt := 0, bgAll := n, scan := if n = 0 then (d.ld l ld).scan else [] }) := by
  unfold startBg
  refine (Eng.run_bind_ok (Eng.run_dev d)).trans ?_
  dsimp only
  rw [if_neg (by decide), if_neg (by rw [hidle]; decide)]
  rfl

theorem startBg_busy {c : Instr} {n : Nat} (hbusy : (d.ld l ld).background.isSome = true) : (startBg l ld c true n).run d = .ok ((.busy, []), d) := by
  unfold startBg
  refine (Eng.run_bind_ok (Eng.run_dev d)).trans ?_
  dsimp only
  rw [if_neg (by decide), if_pos hbusy]
  rfl

/-- A response that names no extent declines every offer. -/
theorem addResponse_declines : (addResponse l ld []).run d =
    .ok ((.success, []), (d.owned l ld).foldl (fun (h : Dev) e => h.setGrotto e.1 { e.2 with offered := [] }) d) := rfl

/-- The grotto that accepts an offered extent. -/
def Grotto.accepting (y : Grotto) (x : Nat × Nat) : Grotto := { y with offered := y.offered.erase x, accepted := y.accepted ++ [x] }

/-- What a response that names one offered extent comes to. -/
theorem addResponse_one {a n g b k : Nat} {y : Grotto}
    (hfind : (d.extents l ld Grotto.offered).find? (fun o => o.1 == a && o.2.1 == n) = some (a, n, g, b, k)) (hy : d.grotto? g = some y)
    (hoffered : (b, k) ∈ y.offered) :
    (addResponse l ld [(a, n)]).run d =
      if d.dataFrames < (d.setGrotto g (y.accepting (b, k))).sumReserve ∧ d.sumReserve < (d.setGrotto g (y.accepting (b, k))).sumReserve
      then .ok ((.invalidExtentList, []), d) else .ok ((.success, []), d.setGrotto g (y.accepting (b, k))) := by
  have hafter : d.modGrotto g (fun x => if x.offered.contains (b, k) then
      { x with offered := x.offered.erase (b, k), accepted := x.accepted ++ [(b, k)] } else x) = d.setGrotto g (y.accepting (b, k)) := by
    rw [Dev.modGrotto_eq hy, if_pos (List.contains_iff_mem.mpr hoffered)]
    rfl
  unfold addResponse
  refine (Eng.run_bind_ok (Eng.run_dev d)).trans ?_
  simp only [List.map_cons, List.map_nil, hfind, List.length_cons, List.length_nil, List.any_cons, Option.isNone_some, List.any_nil,
    Bool.or_self, Bool.false_eq_true, ↓reduceIte, List.isEmpty_cons, List.filterMap_cons, id_eq, List.filterMap_nil, List.foldl_cons, List.foldl_nil]
  rw [if_neg (by decide), hafter]
  split <;> rfl

/-- A release whose extent nothing touches ends with its pages unbacked. -/
theorem releaseMail_unbacks {g lo n : Nat} (hfree : d.inUse g lo n = false) (hunback : d.unbackRange g lo n = (true, e))
    (hmirror : (e.grotto g).mirror = false) : (releaseMail l ld g lo n).run d = .ok ((.success, []), e) := by
  have hmap : e.mirrorMap g 3 lo n = ([], e) := by
    unfold Dev.mirrorMap Dev.roped
    rw [hmirror]
    rfl
  unfold releaseMail
  refine (Eng.run_bind_ok (Eng.run_dev d)).trans ?_
  dsimp only
  rw [hfree, if_neg (by decide), hunback]
  dsimp only
  rw [hmap]
  exact congrArg (fun w => Except.ok ((CmdCode.success, []), e.onPages fun k => { k with mirrorWait := w })) (List.append_nil e.pages.mirrorWait)

end Bodies

/-! ### A program that acts -/

section Acts
variable {d e E f : Dev} {l ld : Nat} {c : Instr} {code : CmdCode}

/-- A result of which nothing is outstanding goes to the host. -/
theorem Dev.mailResult_replies (h : d.MailRuns l ld c) (hstart : d.startMail l ld c = e.answered l ld c code [])
    (hE : (e.answered l ld c code []).after = E) (hbox : (E.ld l ld).mbox = some (c, code, [])) (hout : E.outstanding (.mbox l ld) = false) :
    d.mailResult l ld = ((E.replied l ld code []).runBg l ld).after := by
  rw [Dev.mailResult_runs h hstart (by rw [hE]; exact hbox), hE, hout, if_neg (by decide)]

/-- A result whose writes are outstanding waits in the mailbox. -/
theorem Dev.mailResult_waits (h : d.MailRuns l ld c) (hstart : d.startMail l ld c = e.answered l ld c code [])
    (hE : (e.answered l ld c code []).after = E) (hbox : (E.ld l ld).mbox = some (c, code, [])) (hout : E.outstanding (.mbox l ld) = true) :
    d.mailResult l ld = (E.runBg l ld).after := by
  rw [Dev.mailResult_runs h hstart (by rw [hE]; exact hbox), hE, hout, if_pos rfl]

end Acts

/-! ### Background commands -/

section Background
variable {d e : Dev} {l ld : Nat} {c : Instr}

/-- With no program at the head of queue 0, a result's command takes the background command on. -/
theorem Dev.mailResult_background (hrun : d.inRun) (hhead : d.mailAtHead l ld = false) : d.mailResult l ld = (d.runBg l ld).after := by
  unfold Dev.mailResult
  rw [hrun.awake, hhead, if_neg (by decide), if_pos (by decide)]

/-- A background command has ended with success. -/
def Dev.bgEnded (d : Dev) (l ld op : Nat) : Dev :=
  ((d.forget (.mbox l ld)).setLd l ld { (d.forget (.mbox l ld)).ld l ld with
    background := none, bgFrames := none, bgDone := some (op, .success) }).interrupt l ld 0

/-- The end of a background command signals vector 0. -/
theorem Dev.runBg_ends (hbg : (d.ld l ld).background = some c) (hbody : (bgBody l ld c).run d = .ok ((.success, []), e)) :
    d.runBg l ld = e.bgEnded l ld (mailOpcode c) := by
  unfold Dev.runBg
  rw [hbg]
  dsimp only
  rw [hbody]
  rfl

theorem Dev.runBg_goesOn (hbg : (d.ld l ld).background = some c) (hbody : (bgBody l ld c).run d = .ok ((.background, []), e)) :
    d.runBg l ld = e.forget (.mbox l ld) := by
  unfold Dev.runBg
  rw [hbg]
  dsimp only
  rw [hbody]
  rfl

/-- A scan ends where its lines do. -/
theorem scanMail_run {dpa len : Nat} {ended : Bool}
    (h : d.scanOn l ld (dpa / 64) (d.scanLines l ld (dpa / 64 + (d.ld l ld).bgAt) (ceilDiv (dpa + len) 64)) = (ended, e)) :
    (scanMail l ld dpa len).run d = .ok ((if ended then .success else .background, []), e) := by
  unfold scanMail
  refine (Eng.run_bind_ok (Eng.run_dev d)).trans ?_
  dsimp only
  rw [h]
  dsimp only
  refine (Eng.run_bind_ok (Eng.run_upd _ d)).trans ?_
  cases ended <;> rfl

/-- A sanitize ends once every frame it waits for is zeroed. -/
theorem sanitizeMail_done {fs : List Nat} (hfs : (d.ld l ld).bgFrames = some fs) (hzeroed : ∀ f ∈ fs, d.unzeroed f = false)
    (hout : d.outstanding (.mbox l ld) = false) :
    (sanitizeMail l ld).run d = .ok ((.success, []), d.setLd l ld { d.ld l ld with bgFrames := some [], bgAt := (d.ld l ld).bgAll }) := by
  have hleft : fs.filter d.unzeroed = [] := List.filter_eq_nil_iff.mpr fun f hf => by rw [hzeroed f hf]; decide
  unfold sanitizeMail
  refine (Eng.run_bind_ok (Eng.run_dev d)).trans ?_
  dsimp only
  rw [hfs]
  dsimp only
  rw [hleft]
  refine (Eng.run_bind_ok (Eng.run_upd _ d)).trans ?_
  rw [if_pos ⟨rfl, by rw [hout]; rfl⟩]
  rfl

end Background

theorem mailboxActs : Claims.MailboxActs := by
  intro s l ld c p d x acts starts put ends
  refine ⟨fun h => ?_, fun hrun hhead => ⟨fun dpa len e ended hbg hscan => ?scan, fun fs hbg hfs hzeroed hout => ?sanitize⟩⟩
  case scan =>
    have hbody : (bgBody l ld (.scanMedia l ld dpa len p)).run d = .ok ((if ended then .success else .background, []), e) := scanMail_run hscan
    cases ended with
    | true =>
      have hbg : d.runBg l ld = e.bgEnded l ld 0x4304 := Dev.runBg_ends hbg hbody
      have hrun := Dev.mailResult_background hrun hhead
      rw [hbg] at hrun
      rw [if_pos rfl]
      exact exec_dev rfl hrun
    | false =>
      have hbg := Dev.runBg_goesOn hbg hbody
      have hrun := Dev.mailResult_background hrun hhead
      rw [hbg] at hrun
      rw [if_neg (by decide)]
      exact exec_dev rfl hrun
  case sanitize =>
    have hbody : (bgBody l ld (.sanitize l ld p)).run d = _ := sanitizeMail_done hfs hzeroed hout
    have hbg : d.runBg l ld = Dev.bgEnded _ l ld 0x4400 := Dev.runBg_ends hbg hbody
    have hrun := Dev.mailResult_background hrun hhead
    rw [hbg] at hrun
    exact exec_dev rfl hrun
  have hacts {e : Dev} {code : CmdCode} (hstart : d.startMail l ld c = e.answered l ld c code []) : acts e code := fun hbox =>
    ⟨fun hout => exec_dev rfl (Dev.mailResult_replies h hstart rfl hbox hout), fun hout => exec_dev rfl (Dev.mailResult_waits h hstart rfl hbox hout)⟩
  have hbody {e : Dev} {code : CmdCode} (hstart : d.mailStart l ld c = (d, mailBody l ld c)) (hrun : (mailBody l ld c).run d = .ok ((code, []), e)) :
      acts e code := hacts (Dev.startMail_body hstart hrun)
  refine ⟨?inject, ?clear, ?scan, ?sanitize, fun e hc hrun => ?erase, fun hc => ?decline, ?accept, ?release⟩
  case inject =>
    rintro dpa rfl
    exact ⟨fun hok => hbody rfl (injectMail_off hok), fun hok halign hfull => hbody rfl (injectMail_full hok halign hfull),
      fun g off hok halign hroom hcase => hbody rfl ((injectMail_writes hok hroom).trans (mailWrite_reaches halign hcase))⟩
  case clear =>
    rintro dpa data rfl
    exact ⟨fun halign => hbody rfl (mailWrite_unaligned halign), fun k halign hcase => hbody rfl (mailWrite_outside halign hcase),
      fun g off halign hcase => hbody rfl (mailWrite_reaches halign hcase)⟩
  case scan =>
    rintro dpa len rfl haddr hlen hpos
    have hstart : (mailBody l ld (.scanMedia l ld dpa len p)).run d = (startBg l ld (.scanMedia l ld dpa len p) true (len / 64)).run d :=
      congrArg (fun ok => (startBg l ld (.scanMedia l ld dpa len p) ok (len / 64)).run d) (decide_eq_true ⟨haddr, hlen, hpos⟩)
    exact ⟨fun hidle => hbody rfl (hstart.trans (startBg_starts hidle)), fun hbusy => hbody rfl (hstart.trans (startBg_busy hbusy))⟩
  case sanitize =>
    rintro rfl
    exact ⟨fun hidle => hbody rfl (startBg_starts hidle), fun hbusy => hbody rfl (startBg_busy hbusy)⟩
  case erase =>
    subst hc
    exact hacts (Dev.runMail_answers ((Eng.run_bind_ok (Eng.run_dev _)).trans (Eng.run_bind_ok hrun)))
  case decline =>
    subst hc
    exact hbody rfl addResponse_declines
  case accept =>
    rintro a n g b k y rfl hfind hy hoffered f
    have hrun := addResponse_one (l := l) (ld := ld) hfind hy hoffered
    refine ⟨fun hfits => hbody rfl (hrun.trans (if_neg ?_)), fun hdata hsum => hbody rfl (hrun.trans (if_pos ⟨hdata, hsum⟩))⟩
    exact fun ⟨hdata, hsum⟩ => hfits.elim (Nat.not_le_of_lt hdata) (Nat.not_le_of_lt hsum)
  case release =>
    rintro dpa len g b k y e rfl hfind hy f hfree hunback hmirror
    have hstart : d.mailStart l ld (.releaseDynamicCapacity l ld dpa len p) = (f, releaseMail l ld g (b * 65536) (k * 65536)) := by
      unfold Dev.mailStart Dev.releasing
      dsimp only
      rw [hfind]
      exact congrArg (fun e => (e, releaseMail l ld g (b * 65536) (k * 65536))) (Dev.modGrotto_eq hy _)
    refine hacts ?_
    unfold Dev.startMail
    rw [hstart]
    exact Dev.runMail_answers (releaseMail_unbacks hfree hunback hmirror)

/-- Settles O33: a free mailbox takes a command; its program's result, which follows from the program's run, goes to the host when nothing of it is
outstanding; a background command ends with an interrupt. -/
theorem mailboxCommands : Obligations.MailboxCommands := ⟨mailboxTakes, mailboxReports, mailboxActs⟩

end Sys2Proof.Machine
end

section
/-!
PROOFS. The FM API commands (R43, R58, R267, R443, R561, R577, R607).
-/
namespace Sys2Proof.Machine

/-! ### A queue that is written, privileged or not -/

/-- A new entry that a question does not hold of leaves the table's answer as it was. -/
theorem any_mset_new {α : Type} (p : Nat × α → Bool) (m : AMap α) (n : Nat) (a : α) (h : mget m n = none) (hp : p (n, a) = false) :
    (mset m n a).any p = m.any p := by
  induction m with
  | nil => simp [mset, hp]
  | cons e t ih =>
    obtain ⟨k, v⟩ := e
    rw [mget_cons] at h
    unfold mset
    split
    · rw [List.any_cons, hp, Bool.false_or]
    · split
      · next heq => simp [heq] at h
      · next hne => rw [List.any_cons, List.any_cons, ih ((if_neg hne).symm.trans h)]

/-- A queue that is in no table has issued nothing. -/
theorem Dev.queue?_default {d : Dev} {q : Nat} {x : Queue} (h : d.queue? q = some x) (hnone : mget d.queues.qs q = none) : x.issued = [] := by
  rw [Dev.queue?, hnone] at h
  split at h
  · next y hy => exact absurd hy (by simp)
  · split at h
    · rw [← Option.some.inj h]
      rfl
    · exact absurd h (by simp)

/-- A still device with room for one more queue record stays still when a queue is written that keeps what it has issued. -/
theorem Dev.putQueue_still {d : Dev} {q : Nat} {x y : Queue} (h : d.Still) (hroom : d.overHold 512 = false) (hx : d.queue? q = some x)
    (hy : y.issued = x.issued) : (d.setQueue q y).Still := by
  cases hmem : mget d.queues.qs q with
  | some z =>
    have hz : z = x := by rw [Dev.queue?, hmem] at hx; exact Option.some.inj hx
    exact d.setQueue_still q z y h hroom hmem (by rw [hy, hz])
  | none =>
    have hnone : y.issued = [] := hy.trans (Dev.queue?_default hx hmem)
    have hwork : d.SameWork (d.setQueue q y) := by
      constructor
      case sparing =>
        intro c r
        exact any_mset_new _ _ _ _ hmem (by simp [hnone])
      all_goals rfl
    exact hwork.still h (hwork.overHold 1 (length_filter_mset_le _ _ _ _) hroom)

/-- A still device stays still where neither its work nor its queues change. -/
theorem Dev.SameWork.stays {a b : Dev} (w : a.SameWork b) (hqueues : b.queues = a.queues) (h : a.Still) : b.Still :=
  w.still h (w.overHold 0 (by rw [Dev.dirtyQueues, Dev.dirtyQueues, hqueues]; exact Nat.le_refl _) h.hold)

/-- A queue is read back as it is written, whatever the table held. -/
theorem Dev.queue?_put (d : Dev) (q : Nat) (x : Queue) : (d.setQueue q x).queue? q = some x := by
  unfold Dev.queue? Dev.setQueue Dev.onQueues
  dsimp only
  rw [mget_mset_self]

/-! ### A command reaches the device -/

section Fm
variable {s : State} {d : Dev} {code : CmdCode} {pl : List Nat} {c : Instr}

theorem State.fm_run (hrun : s.dev.inRun) (f : State → State) : s.fm f = .next (f s) := by
  unfold State.fm
  rw [hrun.live, s.dev.wake_inRun _ _ hrun]
  rfl

/-- The device has answered the fabric manager. -/
def Dev.fmTold (d : Dev) (code : CmdCode) (pl : List Nat) : Dev := { d with out := d.out ++ [{ msg := .fm code pl }] }

theorem State.fmDev_tells (hrun : s.dev.inRun) {f : Dev → CmdCode × List Nat × Dev} (h : f s.dev = (code, pl, d)) :
    s.fmDev f = .next { s with dev := d.fmTold code pl } := by
  unfold State.fmDev
  rw [State.fm_run hrun, h]
  rfl

theorem Dev.fmQueue_found {q : Nat} {x : Queue} (hlow : 1 ≤ q) (hhigh : q ≤ 15) (hq : d.queue? q = some x) (f : Queue → CmdCode × List Nat × Dev) :
    d.fmQueue q f = f x := by
  have hfm : isFm q = true := decide_eq_true ⟨hlow, hhigh⟩
  unfold Dev.fmQueue
  rw [hfm, if_pos rfl, hq]

theorem Dev.fmQueue_none {q : Nat} (hq : 15 < q) (f : Queue → CmdCode × List Nat × Dev) : d.fmQueue q f = (.invalidInput, [], d) := by
  have hfm : isFm q = false := decide_eq_false (by omega)
  unfold Dev.fmQueue
  rw [hfm]
  rfl

/-! ### Registers -/

theorem Dev.onFaults_noArrays (h : d.faults.arrays = []) (p : Nat × Nat → Bool) :
    d.onFaults (fun f => { f with arrays := f.arrays.filter p }) = d := by
  have hnone : d.faults.arrays.filter p = d.faults.arrays := by rw [h, List.filter_nil]
  exact congrArg (fun l => ({ d with faults := { d.faults with arrays := l } } : Dev)) hnone

/-- With no test feature armed and no register in error, a register is read as its block holds it. -/
theorem State.readReg_sound {off : Nat} (harmed : s.dev.faults.armed = []) (harrays : s.dev.faults.arrays = []) (halign : off % 8 = 0)
    (hoff : off < 2 ^ 23) : s.readReg off = (s.readBlock off true).2.fmAnswer .success [(s.readBlock off true).1.toNat] := by
  have hok : regOffset off = true := decide_eq_true ⟨halign, hoff⟩
  have hfind : s.dev.faults.arrays.find? (fun e => e.1 == off) = none := by rw [harrays]; rfl
  unfold State.readReg
  rw [hok, if_neg (by decide)]
  dsimp only
  rw [Dev.arrayRead_unarmed harmed, Dev.onFaults_noArrays harrays, hfind]
  rfl

theorem State.readReg_odd {off : Nat} (hoff : off % 8 ≠ 0) : s.readReg off = s.fmAnswer .invalidInput := by
  have hbad : regOffset off = false := decide_eq_false fun h => hoff h.1
  unfold State.readReg
  rw [hbad]
  rfl

end Fm

theorem bitsOf_word (n k : Nat) : bitsOf n (64 * k + 63) (64 * k) = n / 2 ^ (64 * k) % 2 ^ 64 := by
  have hwidth : 64 * k + 63 + 1 - 64 * k = 64 := by omega
  rw [bitsOf, Nat.shiftRight_eq_div_pow, hwidth]

theorem fmReports : Claims.FmReports := by
  intro s hrun hstill d tells
  have told {c : Instr} {f : Dev → CmdCode × List Nat × Dev} {code : CmdCode} {pl : List Nat} (hc : exec c s = s.fmDev f)
      (h : f d = (code, pl, d)) : tells c code pl := hc.trans (State.fmDev_tells hrun h)
  refine ⟨fun l hl => ⟨told (f := fun d => d.ldInfo l fun d => [d.ldCount l]) rfl (if_pos hl),
      told (f := fun d => d.ldInfo l fun d => d.allocations l) rfl (if_pos hl)⟩,
    fun l hl => ⟨told (f := fun d => d.ldInfo l fun d => [d.ldCount l]) rfl (if_neg (ne_true_of_eq_false hl)),
      told (f := fun d => d.ldInfo l fun d => d.allocations l) rfl (if_neg (ne_true_of_eq_false hl))⟩, fun l => told (f := fun d => (.unsupported, [], d)) rfl rfl,
    fun q x hlow hhigh hq => told (f := fun d => d.fmQueue q fun x => (.success, x.doorbell, d)) rfl (Dev.fmQueue_found hlow hhigh hq _),
    fun q hq => told (f := fun d => d.fmQueue q fun x => (.success, x.doorbell, d)) rfl (Dev.fmQueue_none hq _), ?records,
    fun off halign hoff harrays => ?register, fun off hoff => ?odd⟩
  case records =>
    intro q x first n hlow hhigh hq hpos hmax hissued hroom
    have hput : (d.recordConsumed q x (first + BitVec.ofNat 32 n)).after =
        d.setQueue q { x with consumed := first + BitVec.ofNat 32 n, dirty := true, crFull := false } := by
      have hq' := d.queue?_put q { x with consumed := first + BitVec.ofNat 32 n, dirty := true, crFull := false }
      unfold Dev.recordConsumed
      rw [Dev.retire_empty retireFuel hq' hissued]
      exact Dev.after_still _ (Dev.putQueue_still hstill hroom hq rfl)
    have hexec := State.fmDev_tells (s := s) hrun (f := fun d => d.records q first n) ((Dev.fmQueue_found hlow hhigh hq _).trans (if_neg (by omega)))
    rw [hput] at hexec
    simp only [bitsOf_word] at hexec
    exact ⟨_, hexec, Dev.queue?_put d q _, rfl, rfl⟩
  case register =>
    exact (State.fm_run hrun fun s => s.readReg off).trans (congrArg Host.Outcome.next (State.readReg_sound hstill.armed harrays halign hoff))
  case odd =>
    exact (State.fm_run hrun fun s => s.readReg off).trans (congrArg Host.Outcome.next (State.readReg_odd hoff))

/-! ### What the acting commands leave of the device -/

section Acts
variable {d : Dev} {q : Nat} {x : Queue}

theorem Dev.vectorsMeet_false {l ld base n : Nat} (h : ∀ k, k < d.ldCount l → k ≠ ld →
    base + n ≤ (d.ld l k).base k ∨ (d.ld l k).base k + (d.ld l k).vecCount ≤ base) : d.vectorsMeet l ld base n = false := by
  refine List.any_eq_false.mpr fun k hk => ?_
  by_cases hkl : k = ld
  · simp [hkl]
  · have hapart := h k (List.mem_range.mp hk) hkl
    simp only [Bool.and_eq_true, decide_eq_true_eq, not_and, Nat.not_lt]
    omega

theorem Dev.ldOptions_sets {l ld base n : Nat} {inject : Bool} (hlink : d.linkExists l = true) (hld : ld < d.ldCount l) (hn : 0 < n)
    (hfit : base + n ≤ d.vectors l) (hmeet : d.vectorsMeet l ld base n = false) (hmsix : (d.ld l ld).msixOn = false)
    (hnames : d.namesVector l ld n = false) : d.ldOptions l ld base n inject =
      (.success, [], d.setLd l ld { d.ld l ld with vecBase := some base, vecCount := n, injectOk := inject }) := by
  refine if_neg ?_
  simp only [hlink, hmeet, hmsix, hnames, Bool.not_true, Bool.false_eq_true, false_or, or_false]
  omega

/-- Words put into a ring of the reserved region change nothing but memory. -/
theorem Dev.putBytes_resv {c : Ctx} {a : Area} (ha : a.resv = true) (n k : Nat) (bs : PBytes) : ∃ m, d.putBytes c a n k bs = { d with mem := m } := by
  induction n generalizing d k bs with
  | zero => exact ⟨d.mem, by cases bs <;> rfl⟩
  | succ n ih =>
    cases bs with
    | nil => exact ⟨d.mem, rfl⟩
    | cons b t =>
      unfold Dev.putBytes Dev.putLine
      dsimp only
      rw [if_pos ha]
      obtain ⟨m, hm⟩ := ih (d := d.resvPut (k / 64) _) (k := k / 64 * 64 + 64) (bs := List.drop (64 - k % 64) (b :: t))
      exact ⟨m, hm⟩

theorem Dev.putWords_mem (hq : privQ q = true) (p : BitVec 32) (ws : List (BitVec 128)) : ∃ m, d.putWords q x p ws = { d with mem := m } := by
  induction ws generalizing d p with
  | nil => exact ⟨d.mem, rfl⟩
  | cons w t ih =>
    have harea : (d.slotArea q x p).resv = true := by
      unfold Dev.slotArea
      rw [if_pos hq]
    obtain ⟨m, hm⟩ := d.putBytes_resv (c := { q := q, who := .quiet, src := 128, cls := 0 }) harea 2 (d.slotArea q x p).base
      (clean (bytesOfNat 16 w.toNat))
    obtain ⟨n, hn⟩ := ih (d := { d with mem := m }) (p := p + 1)
    unfold Dev.putWords
    dsimp only
    rw [hm, hn]
    exact ⟨n, rfl⟩

theorem Dev.submit_records {ws : List (BitVec 128)} (harmed : d.faults.armed = []) (hlow : 1 ≤ q) (hhigh : q ≤ 15) (hq : d.queue? q = some x)
    (hws : ws ≠ []) (hlen : ws.length ≤ 64) (htail : x.tailOk (x.tail + BitVec.ofNat 32 ws.length) = true) :
    d.submit q ws (x.tail + BitVec.ofNat 32 ws.length) = (.success, [], ((d.putWords q x x.tail ws).setQueue q
      ({ x with tail := x.tail + BitVec.ofNat 32 ws.length, dirty := true } : Queue).settle).after) := by
  have hpriv : privQ q = true := Bool.or_eq_true_iff.mpr (.inr (decide_eq_true ⟨hlow, hhigh⟩))
  have hempty : ws.isEmpty = false := by simpa using hws
  obtain ⟨m, hm⟩ := d.putWords_mem (x := x) hpriv x.tail ws
  have hrecord := Dev.recordTail_unarmed (d.putWords q x x.tail ws) q x (x.tail + BitVec.ofNat 32 ws.length) (by rw [hm]; exact harmed)
  refine (Dev.fmQueue_found hlow hhigh hq _).trans ?_
  rw [if_neg (by simp [hempty, htail, hlen]), hrecord]

/-- A queue with nothing issued stops at once. -/
theorem Dev.stopRun_idle (hstate : x.state = 1) (hissued : x.issued = []) : d.stopRun q x = d.setQueue q { x with
    state := 3, run := false, stopStatus := 0, stopping := none, tornWait := false, torn := 0, dirty := true } := by
  unfold Dev.stopRun
  dsimp only
  rw [if_pos ⟨by rw [hissued]; rfl, hstate⟩]
  unfold Queue.stop
  dsimp only
  rw [if_pos hstate, if_neg (by omega)]

theorem Dev.startRun_stopped (hstate : x.state = 3) : d.startRun q x = some (d.setQueue q { x with
    state := 1, run := true, stopStatus := 0, stopPos := 0, stopping := none, dirty := true }) := by
  unfold Dev.startRun
  rw [hstate]
  rfl

theorem Dev.doorRun_starts {v : RegView} {off : Nat} (hstate : x.state = 3) : d.doorRun v off q x true = d.setQueue q { x with
    state := 1, run := true, stopStatus := 0, stopPos := 0, stopping := none, dirty := true } := by
  unfold Dev.doorRun
  rw [if_neg (by decide), Dev.startRun_stopped hstate]

end Acts

/-! ### Commands for firmware -/

section Firmware
variable {s u : State} {c : Instr} {t : Trust} {w : List Instr}

theorem Trust.indexed_waiting (r : CairnRec) (addr : Nat) : ({ t with waiting := w } : Trust).indexed r addr = { t.indexed r addr with waiting := w } := by
  unfold Trust.indexed
  dsimp only
  repeat' split
  all_goals rfl

theorem Trust.add_waiting (type inst : Nat) (data : List Byte) (ok : Bool) (soft : Option (List Nat)) :
    ({ t with waiting := w } : Trust).add type inst data ok soft = { t.add type inst data ok soft with waiting := w } := by
  cases ok with
  | false => rfl
  | true => exact Trust.indexed_waiting (t := { t with
      cairn := t.cairn ++ [{ type := type, inst := inst, seq := t.cairnSeq, data := data, committed := true, soft := soft }]
      cairnSeq := t.cairnSeq + 1 }) _ _

theorem Trust.addAll_waiting (rs : List CairnRec) :
    rs.foldl (fun (t : Trust) r => t.add r.type r.inst r.data true r.soft) { t with waiting := w } =
      { rs.foldl (fun (t : Trust) r => t.add r.type r.inst r.data true r.soft) t with waiting := w } := by
  induction rs generalizing t with
  | nil => rfl
  | cons r rs ih =>
    rw [List.foldl_cons, List.foldl_cons, Trust.add_waiting, ih]

theorem Trust.compact_waiting : ({ t with waiting := w } : Trust).compact = { t.compact with waiting := w } := by
  unfold Trust.compact
  dsimp only
  split
  · rfl
  · have hold := t.addAll_waiting (w := w)
      ((t.cairn.take ((recPlaces 0 0 t.cairn).takeWhile fun p => p.1 == 0).length).filter ({ t with waiting := w } : Trust).keeps)
    rw [hold]
    rfl

/-- What firmware appends to its store does not read the commands that wait. -/
theorem Trust.append_waiting (type inst : Nat) (data : List Byte) (ok : Bool) (soft : Option (List Nat)) :
    ({ t with waiting := w } : Trust).append type inst data ok soft = { t.append type inst data ok soft with waiting := w } := by
  unfold Trust.append
  dsimp only
  rw [Trust.add_waiting]
  split
  · exact Trust.compact_waiting
  · rfl

/-- The commands that wait for firmware. -/
def State.awaiting (s : State) (w : List Instr) : State := s.onTrust fun t => { t with waiting := w }

/-- With firmware up and none waiting before it, a command is served at once. -/
theorem State.ask_served (hup : s.dev.fwUp = true) (hnone : s.trust.waiting = []) (h : (s.awaiting [c]).serve c = some u) :
    s.ask c = u.awaiting [] := by
  have hask : s.ask c = (s.awaiting [c]).serveAll [c] := by
    have hwait : s.ask c = (s.awaiting (s.trust.waiting ++ [c])).serveAll (s.trust.waiting ++ [c]) := rfl
    rw [hwait, hnone, List.nil_append]
  have hfw : (s.awaiting [c]).dev.fwUp = true := hup
  rw [hask]
  unfold State.serveAll
  rw [if_pos hfw, h]
  rfl

end Firmware

/-! ### The commands that act -/

/-- Every bit of a register is written where the mask is full. -/
theorem mergeBits_all (old new : Word) : mergeBits old new (BitVec.allOnes 64) = new := by
  rw [mergeBits, BitVec.not_allOnes, BitVec.and_zero, BitVec.and_allOnes, BitVec.zero_or]

theorem Dev.storeReg_unarmed {d : Dev} (harmed : d.faults.armed = []) (harrays : d.faults.arrays = []) (off : Nat) : d.storeReg off = d := by
  have hnone : d.faults.arrays.filter (fun e => e.1 != off) ++ [] = d.faults.arrays := by rw [harrays]; rfl
  unfold Dev.storeReg
  rw [Dev.arrayWrite_unarmed harmed]
  exact congrArg (fun l => ({ d with faults := { d.faults with arrays := l } } : Dev)) hnone

theorem Dev.writeReg_tag {d : Dev} {value : Word} (hstill : d.Still) (htag : d.tagDone = false) (harrays : d.faults.arrays = []) :
    d.writeReg 0x10018 value = (.success, [], { d with devTag := value, tagDone := true }) := by
  have hwrite : d.writeBlock { mgmt := true } 0x10018 value (BitVec.allOnes 64) = { d with devTag := value, tagDone := true } := by
    have htagged : d.writeTag { mgmt := true } 0x10018 value (BitVec.allOnes 64) = { d with devTag := value, tagDone := true } := by
      unfold Dev.writeTag
      rw [if_neg (by decide), if_neg (by rw [htag]; decide), mergeBits_all]
      exact Dev.storeReg_unarmed (d := { d with devTag := value, tagDone := true }) hstill.armed harrays _
    exact htagged
  have hstill' : ({ d with devTag := value, tagDone := true } : Dev).Still :=
    Dev.SameWork.stays (a := d) (by constructor <;> intros <;> rfl) rfl hstill
  unfold Dev.writeReg
  rw [if_pos (by decide), hwrite, Dev.after_still _ hstill']

/-- A command for firmware is served at once. -/
theorem State.fm_asks {s u : State} {c : Instr} (hrun : s.dev.inRun) (hup : s.dev.fwUp = true) (hnone : s.trust.waiting = [])
    (h : (s.awaiting [c]).serve c = some u) : s.fm (fun s => s.ask c) = .next (u.awaiting []) :=
  (State.fm_run hrun _).trans (congrArg Host.Outcome.next (State.ask_served hup hnone h))

theorem Trust.program_waiting {t : Trust} {w : List Instr} (slot off : Nat) (bs : List Byte) :
    ({ t with waiting := w } : Trust).program slot off bs = { t.program slot off bs with waiting := w } := by
  unfold Trust.program
  dsimp only
  split <;> rfl

/-- What reads no waiting command leaves the same with a command put to wait and taken away again. -/
theorem Trust.put_taken {t : Trust} {f : Trust → Trust} (hf : ∀ (u : Trust) (w : List Instr), f { u with waiting := w } = { f u with waiting := w })
    (hnone : t.waiting = []) (w : List Instr) : ({ f { t with waiting := w } with waiting := [] } : Trust) = f t := by
  have hself : ({ t with waiting := [] } : Trust) = t := by rw [← hnone]
  have hthrough := hf t []
  rw [hself] at hthrough
  rw [hf]
  exact hthrough.symm

theorem fmActs : Claims.FmActs := by
  intro s hrun hstill d done
  have told (f : Dev → CmdCode × List Nat × Dev) {c : Instr} {e : Dev} (hc : exec c s = s.fmDev f) (h : f d = (.success, [], e)) :
      exec c s = .next { s with dev := done e } := hc.trans (State.fmDev_tells hrun h)
  have answered (f : State → State) {c : Instr} {u : State} (hc : exec c s = s.fm f) (h : f s = u) : exec c s = .next u :=
    hc.trans ((State.fm_run hrun f).trans (congrArg Host.Outcome.next h))
  refine ⟨?options, ?pool, ?submit, ?halt, ?start, ?transfer, ?activate, fun hash hnone => ?root, fun hash hsome => ?rooted,
    fun value htag harrays => ?register⟩
  case options =>
    intro l ld base n inject hlink hld hn hfit hmeet hmsix hnames
    exact told (fun d => d.ldOptions l ld base n inject) rfl (Dev.ldOptions_sets hlink hld hn hfit (Dev.vectorsMeet_false hmeet) hmsix hnames)
  case pool =>
    intro id ack credit hack hack' hcredit hcredit' hten hrope hp0 hp1 hguests hup hwait
    have hfree : d.poolFree ack credit = true := by
      simp [Dev.poolFree, hack, hack', hcredit, hcredit', hten, hrope, hp0, hp1, hguests]
    have hasked := State.ask_served (s := (({ s with dev := d.onEv fun e => { e with pool := some id, ackUs := ack, creditUs := credit } } : State).fmAnswer
      .success)) (c := .setPoolId id ack credit) hup hwait rfl
    refine answered (fun s => s.poolId id ack credit) rfl ((if_pos hfree).trans (hasked.trans ?_))
    have hlog := Trust.put_taken (f := fun t => t.append 7 0 (poolBytes id ack credit) true) (fun _ _ => Trust.append_waiting _ _ _ _ _) hwait
      [.setPoolId id ack credit]
    exact congrArg (fun t => ({ s with dev := done (d.onEv fun e => { e with pool := some id, ackUs := ack, creditUs := credit }), trust := t } : State)) hlog
  case submit =>
    intro q x ws hlow hhigh hq hws hlen htail
    exact told (fun d => d.submit q ws (x.tail + BitVec.ofNat 32 ws.length)) rfl (Dev.submit_records hstill.armed hlow hhigh hq hws hlen htail)
  case halt =>
    intro q x hlow hhigh hq hstate hissued hroom
    refine told (fun d => d.fmRun q false) rfl ((Dev.fmQueue_found hlow hhigh hq _).trans (congrArg (fun e => (CmdCode.success, [], e)) ?_))
    exact (congrArg Dev.after (Dev.stopRun_idle hstate hissued)).trans (Dev.after_still _ (Dev.putQueue_still hstill hroom hq rfl))
  case start =>
    intro q x hlow hhigh hq hstate hroom
    refine told (fun d => d.fmRun q true) rfl ((Dev.fmQueue_found hlow hhigh hq _).trans (congrArg (fun e => (CmdCode.success, [], e)) ?_))
    exact (congrArg Dev.after (Dev.doorRun_starts hstate)).trans (Dev.after_still _ (Dev.putQueue_still hstill hroom hq rfl))
  case transfer =>
    intro off bs hlen hslot hup hwait
    have hserve : (s.awaiting [.transferFirmware off bs]).serve (.transferFirmware off bs) = some (((s.awaiting [.transferFirmware off bs]).onTrust
        fun t => t.program (1 - t.running) off bs).fmAnswer .success) := congrArg some (if_neg (by unfold slotBytes; omega))
    refine answered (fun s => s.ask (.transferFirmware off bs)) rfl ((State.ask_served hup hwait hserve).trans ?_)
    have hwritten := Trust.put_taken (f := fun t => t.program (1 - s.trust.running) off bs) (fun _ _ => Trust.program_waiting _ _ _) hwait
      [.transferFirmware off bs]
    exact congrArg (fun t => ({ s with dev := done d, trust := t } : State)) hwritten
  case activate =>
    intro hup hwait
    refine answered (fun s => s.ask (.activateFirmware 0)) rfl ((State.ask_served (c := .activateFirmware 0) hup hwait rfl).trans ?_)
    have hlog := Trust.put_taken (f := fun t => t.append 2 0 (bytesOfNat 1 s.trust.selection.1 ++ bytesOfNat 7 (1 - s.trust.running)) true)
      (fun _ _ => Trust.append_waiting _ _ _ _ _) hwait [.activateFirmware 0]
    exact congrArg (fun t => ({ s with dev := done { d with out := d.out ++ [{ msg := .flash true 2 0 }] }, trust := t } : State)) hlog
  case root => exact fmRootIsWrittenOnce.1 s hash hrun hnone
  case rooted =>
    obtain ⟨k, hk⟩ := Option.ne_none_iff_exists'.mp hsome
    exact fmRootIsWrittenOnce.2.1 s hash k hrun hk
  case register => exact told (fun d => d.writeReg 0x10018 value) rfl (Dev.writeReg_tag hstill htag harrays)

/-- Settles O34: a command reaches a device that runs at once; what it reports is read off the device, and a command for firmware is served where none
waits before it. -/
theorem fmCommands : Obligations.FmCommands := ⟨fmReports, fmActs⟩

end Sys2Proof.Machine
end

section
/-!
PROOFS. The lengths of hashes, of the identity public key and of its signatures (R589, R590).
-/
namespace Sys2Proof.Machine

/-! ### SHA-256 gives 32 bytes -/

theorem shaRound_length {st : List W32} (kw : W32) (h : st.length = 8) : (shaRound st kw).length = 8 := by
  simp [shaRound, h]

theorem shaRounds_length (w : List W32) (is : List Nat) {st : List W32} (h : st.length = 8) :
    (is.foldl (fun s i => shaRound s (shaK i + (w[i]?).getD 0)) st).length = 8 := by
  induction is generalizing st with
  | nil => exact h
  | cons i is ih => exact ih (shaRound_length _ h)

theorem shaBlock_length {st : List W32} (b : List Byte) (h : st.length = 8) : (shaBlock st b).length = 8 := by
  unfold shaBlock
  dsimp only
  rw [List.length_map, List.length_zip, shaRounds_length _ _ h, h]
  rfl

theorem shaBlocks_length (n : Nat) {st : List W32} (bs : List Byte) (h : st.length = 8) : (shaBlocks n st bs).length = 8 := by
  induction n generalizing st bs with
  | zero => exact h
  | succ n ih => exact ih _ (shaBlock_length _ h)

theorem sha256_length (bs : List Byte) : (sha256 bs).length = 32 := by
  have hwords (st : List W32) : (shaBytes st).length = st.length * 4 :=
    length_flatMap_of_const fun x _ => by rw [List.length_reverse, bytesOfNat_length]
  unfold sha256
  dsimp only
  rw [hwords, shaBlocks_length _ _ (shaBlocks_length _ _ (by simp [shaInit]))]

theorem bigBytes_length (n v : Nat) : (bigBytes n v).length = n := by rw [bigBytes, List.length_reverse, bytesOfNat_length]

/-! ### Trees, keys and signatures -/

section Trees
variable {t : LmsTree}

theorem LmsTree.node_length (h n r : Nat) : (t.node h n r).length = 32 := by
  cases n <;> exact sha256_length _

theorem LmsTree.below_id (q : Nat) : (t.below q).id.length = 16 := by
  unfold LmsTree.below LmsTree.value
  rw [List.length_take, sha256_length]
  rfl

theorem identityTree_id (seed : BitVec 256) : (identityTree seed).id.length = 16 := by
  unfold identityTree LmsTree.value
  rw [List.length_take, sha256_length]
  rfl

theorem LmsTree.pub_length (h : Nat) (hid : t.id.length = 16) : (t.pub h).length = 56 := by
  simp only [LmsTree.pub, List.length_append, bigBytes_length, LmsTree.node_length, hid]

/-- A chain's value has the length of the hash, as what it starts from has. -/
theorem otsChain_length (pre : List Byte) (n a : Nat) {y : List Byte} (h : y.length = 32) : (otsChain pre n a y).length = 32 := by
  induction n generalizing a y with
  | zero => exact h
  | succ n ih => exact ih _ (sha256_length _)

theorem otsChains_length (pre : List Byte) (a n : Nat → Nat) {x : Nat → List Byte} (h : ∀ i, (x i).length = 32) :
    (otsChains pre a n x).length = 1088 :=
  (length_flatMap_of_const fun i _ => otsChain_length _ _ _ (h i)).trans (by rw [List.length_range])

theorem LmsTree.sign_length (h q : Nat) (msg : List Byte) : (t.sign h q msg).length = 1132 + h * 32 := by
  have hpath : ((List.range h).flatMap fun k => t.node h k (otherChild ((2 ^ h + q) / 2 ^ k))).length = h * 32 :=
    (length_flatMap_of_const fun k _ => LmsTree.node_length h k _).trans (by rw [List.length_range])
  have hrandom : (t.randomizer q).length = 32 := sha256_length _
  have hchains (pre : List Byte) (n : Nat → Nat) : (otsChains pre (fun _ => 0) n (t.value q)).length = 1088 :=
    otsChains_length _ _ _ fun i => sha256_length _
  simp only [LmsTree.sign, List.length_append, bigBytes_length, hpath, hrandom, hchains]

end Trees

theorem identityKey_length (seed : BitVec 256) : (identityKey seed).length = 60 := by
  rw [identityKey, List.length_append, bigBytes_length, LmsTree.pub_length 10 (identityTree_id seed)]

/-- Three signatures of 1,452 bytes, two public keys of 56 and the count of levels below the top. -/
theorem identitySign_length (seed : BitVec 256) (q : Nat) (msg : List Byte) : (identitySign seed q msg).length = 4472 := by
  simp only [identitySign, List.length_append, bigBytes_length, LmsTree.sign_length, LmsTree.pub_length 10 (LmsTree.below_id _)]

end Sys2Proof.Machine
end

section
/-!
PROOFS. The SPDM responder: negotiation, signed answers, sessions and IDE keys (R52 to R54, R586 to R598).
-/
namespace Sys2Proof.Machine

section Serve
variable {s u : State} {ch : Nat} {c : Instr} {d : Dev} {pl : List Nat} {bytes : List Byte}

/-- A message on an open channel, with firmware up and nothing waiting before it, is served at once. -/
theorem State.spdm_served (hrun : s.dev.inRun) (hopen : s.dev.spdmOpen ch = true) (hup : s.dev.fwUp = true) (hnone : s.trust.waiting = [])
    (h : (s.awaiting [c]).serve c = some u) : s.spdm ch c = .next (u.awaiting []) := by
  have hwake : (if ch = 0 then s.dev.wake 5 0 else s.dev.wake 1 (chLink ch)) = s.dev := by
    split <;> exact s.dev.wake_inRun _ _ hrun
  unfold State.spdm
  rw [if_pos hopen, hwake]
  exact congrArg Host.Outcome.next (State.ask_served hup hnone h)

/-- One that must wait for a leaf reservation is the first that waits. -/
theorem State.spdm_waits (hrun : s.dev.inRun) (hopen : s.dev.spdmOpen ch = true) (hup : s.dev.fwUp = true) (hnone : s.trust.waiting = [])
    (h : (s.awaiting [c]).serve c = none) : s.spdm ch c = .next (s.awaiting [c]) := by
  have hwake : (if ch = 0 then s.dev.wake 5 0 else s.dev.wake 1 (chLink ch)) = s.dev := by
    split <;> exact s.dev.wake_inRun _ _ hrun
  have hask : s.ask c = (s.awaiting (s.trust.waiting ++ [c])).serveAll (s.trust.waiting ++ [c]) := rfl
  have hfw : (s.awaiting [c]).dev.fwUp = true := hup
  unfold State.spdm
  rw [if_pos hopen, hwake]
  show Host.Outcome.next (s.ask c) = _
  rw [hask, hnone, List.nil_append, State.serveAll, if_pos hfw, h]
  rfl

/-- What is left of an answer that changes the device, and of the trust state what reads no waiting command. -/
theorem State.spdm_tells (hrun : s.dev.inRun) (hopen : s.dev.spdmOpen ch = true) (hup : s.dev.fwUp = true) (hnone : s.trust.waiting = [])
    (f : Trust → Trust) (hf : ∀ (t : Trust) (w : List Instr), f { t with waiting := w } = { f t with waiting := w })
    (h : (s.awaiting [c]).serve c = some (({ s with dev := d, trust := f { s.trust with waiting := [c] } } : State).spdmAnswer ch true pl bytes)) :
    s.spdm ch c = .next { s with dev := { d with out := d.out ++ [{ msg := .spdm ch true pl bytes }] }, trust := f s.trust } := by
  refine (State.spdm_served hrun hopen hup hnone h).trans (congrArg Host.Outcome.next ?_)
  exact congrArg (fun t => ({ s with dev := { d with out := d.out ++ [{ msg := .spdm ch true pl bytes }] }, trust := t } : State))
    (Trust.put_taken hf hnone [c])

end Serve

/-! ### Signed answers -/

section Signed
variable {s : State} {ch : Nat} {ok : Bool} {f : Nat → State → State}

/-- A trust state whose next leaf is taken. -/
def Trust.leafTaken (t : Trust) : Trust := { t with leaf := t.leaf + 1, leafTop := max t.leafTop (t.leaf + 1) }

theorem State.signed_takes (hstage : s.trust.stage ch = 3) (hleaf : s.trust.leaf < s.trust.leafEnd) :
    s.signed ch true f = some (f s.trust.leaf { s with trust := s.trust.leafTaken }) := by
  unfold State.signed Trust.takeLeaf
  rw [if_neg (by simp [hstage]), if_pos hleaf]
  rfl

theorem State.signed_waits (hstage : s.trust.stage ch = 3) (hleaf : s.trust.leafEnd ≤ s.trust.leaf) (hmore : s.trust.exhausted = false) :
    s.signed ch true f = none := by
  unfold State.signed Trust.takeLeaf
  rw [if_neg (by simp [hstage]), if_neg (by omega)]
  exact if_neg (by rw [hmore]; decide)

/-- An index from 1 to 8 names one measurement. -/
theorem State.measurements_one {n : Nat} (hlow : 1 ≤ n) (hhigh : n ≤ 8) : s.measurements n = [s.measurement n] := by
  unfold State.measurements
  rw [if_neg (by omega), if_neg (by omega)]

theorem measureIndexOk_one {n : Nat} (hhigh : n ≤ 8) : measureIndexOk n = true := by
  unfold measureIndexOk
  rw [decide_eq_true hhigh, Bool.true_or]

end Signed

/-- Settles O36: each request is served where the stage of its channel is reached; a signed answer takes the next leaf, or waits for a reservation. -/
theorem spdmAnswers : Obligations.SpdmAnswers := by
  intro s ch hrun hopen hup hnone tells seed chain sig at_
  have told (f : Trust → Trust) (hf : ∀ (t : Trust) (w : List Instr), f { t with waiting := w } = { f t with waiting := w }) {c : Instr} {pl : List Nat}
      {bytes : List Byte} (hc : exec c s = s.spdm ch c)
      (h : (s.awaiting [c]).serve c = some (({ s with trust := f { s.trust with waiting := [c] } } : State).spdmAnswer ch true pl bytes)) :
      tells c (f s.trust) pl bytes := hc.trans (State.spdm_tells hrun hopen hup hnone f hf h)
  have negotiated (n : Nat) {c : Instr} {pl : List Nat} (hc : exec c s = s.spdm ch c) (hstage : n ≤ s.trust.stage ch + 1)
      (h : (s.awaiting [c]).serve c = some ((s.awaiting [c]).negotiate ch n true pl)) : tells c (at_ n) pl :=
    told (fun t => { t with negotiated := mset t.negotiated ch n }) (fun _ _ => rfl) hc (h.trans (congrArg some (if_pos ⟨rfl, hstage⟩)))
  refine ⟨negotiated 1 rfl (by omega) rfl, fun h => negotiated 2 rfl (by omega) rfl, fun h => negotiated 3 rfl (by omega) rfl, fun hstage => ?_,
    identityKey_length seed, fun q msg => identitySign_length seed q msg⟩
  have plain {c : Instr} {pl : List Nat} {bytes : List Byte} (hc : exec c s = s.spdm ch c)
      (h : (s.awaiting [c]).serve c = some ((s.awaiting [c]).afterAlgorithms ch true pl bytes)) : tells c s.trust pl bytes :=
    told (fun t => t) (fun _ _ => rfl) hc (h.trans (congrArg some (if_pos ⟨hstage, rfl⟩)))
  refine ⟨plain rfl rfl, fun off len => plain rfl rfl, fun n hlow hhigh => plain rfl ?_, fun hleaf => ?_, fun hleaf hmore => ?_⟩
  · exact congrArg some ((congrArg (fun ok => (s.awaiting [.getMeasurements ch n false]).afterAlgorithms ch ok _) (measureIndexOk_one hhigh)).trans
      (congrArg (fun pl => (s.awaiting [.getMeasurements ch n false]).afterAlgorithms ch true pl) (State.measurements_one hlow hhigh)))
  · have signed (f : Trust → Trust) (hf : ∀ (t : Trust) (w : List Instr), f { t with waiting := w } = { f t with waiting := w }) {c : Instr}
        {pl : List Nat} {g : Nat → State → State} (hc : exec c s = s.spdm ch c) (h : (s.awaiting [c]).serve c = (s.awaiting [c]).signed ch true g)
        (hg : g s.trust.leaf { s with trust := ({ s.trust with waiting := [c] } : Trust).leafTaken } =
          ({ s with trust := f { s.trust with waiting := [c] } } : State).spdmAnswer ch true pl sig) : tells c (f s.trust) pl sig :=
      told f hf hc (h.trans ((State.signed_takes (s := s.awaiting [c]) hstage hleaf).trans (congrArg some hg)))
    refine ⟨signed Trust.leafTaken (fun _ _ => rfl) (g := fun q s => s.signedAnswer ch q [0]) rfl rfl rfl, fun n hlow hhigh => ?_, fun id hid => ?_⟩
    · have hok : (s.awaiting [.getMeasurements ch n true]).serve (.getMeasurements ch n true) =
          (s.awaiting [.getMeasurements ch n true]).signed ch true fun q s => s.signedAnswer ch q (s.measurements n) :=
        congrArg (fun ok => (s.awaiting [.getMeasurements ch n true]).signed ch ok fun q s => s.signedAnswer ch q (s.measurements n))
          (measureIndexOk_one hhigh)
      refine signed Trust.leafTaken (fun _ _ => rfl) rfl hok ?_
      dsimp only
      rw [State.measurements_one hlow hhigh]
      rfl
    · have hfree : (s.awaiting [.keyExchange ch 0]).trust.freeSession = some id := hid
      have hserve : (s.awaiting [.keyExchange ch 0]).serve (.keyExchange ch 0) =
          (s.awaiting [.keyExchange ch 0]).signed ch true fun q s => s.openSession ch id q := by
        show (match (s.awaiting [.keyExchange ch 0]).trust.freeSession with
          | some id => (s.awaiting [.keyExchange ch 0]).signed ch (0 == 0) fun q s => s.openSession ch id q
          | none => some ((s.awaiting [.keyExchange ch 0]).spdmAnswer ch false)) = _
        rw [hfree]
        rfl
      exact signed (fun t => { t.leafTaken with sessions := t.sessions ++ [{ chan := ch, id := id }] }) (fun _ _ => rfl) rfl hserve rfl
  · have hserve : (s.awaiting [.challenge ch 0]).serve (.challenge ch 0) = none :=
      State.signed_waits (s := s.awaiting [.challenge ch 0]) (f := fun q s => s.signedAnswer ch q [0]) hstage hleaf hmore
    exact State.spdm_waits hrun hopen hup hnone hserve

/-! ### Sessions -/

section Sessions
variable {s : State} {ch id : Nat} {x : Spdm}

theorem State.inSession_up (hx : s.trust.session ch id = some x) (hup : x.up = true) (f : Spdm → State → State) : s.inSession ch id f = f x s := by
  unfold State.inSession
  rw [hx]
  exact if_pos hup

theorem State.finishSession_comesUp (hx : s.trust.session ch id = some x) (hdown : x.up = false) (root : Option (BitVec 256)) :
    s.finishSession ch id root = (s.onTrust fun t => { t with sessions := t.sessions.map fun y =>
      if y = x then { y with up := true, auth := root.isSome && root == s.trust.fmRoot } else y }).spdmAnswer ch true [id] := by
  unfold State.finishSession
  rw [hx]
  exact if_neg (by rw [hdown]; decide)

/-- An IDE key message over the DOE mailbox of its link leaves the stream that it makes. -/
theorem State.ideKm_sets {link stream : Nat} {f : IdeStream → Option IdeStream} {g : Link → Link} {y : IdeStream} (hch : ch ≠ 0)
    (hlink : chLink ch = link) (hex : s.dev.linkExists link = true) (hstream : stream < 2) (hf : f ((s.dev.link link).ide stream) = some y) :
    s.ideKm ch link stream f g =
      ({ s with dev := s.dev.setLink link (g ((s.dev.link link).setIde stream y)) } : State).spdmAnswer ch true := by
  unfold State.ideKm
  dsimp only
  rw [if_pos ⟨hch, hlink, hex, hstream⟩, hf]

theorem keyProgTo_free {x : IdeStream} (key : BitVec 256) (hfree : x.rx.inUse ≠ some 0) :
    keyProgTo false 0 key x = some { x with rx := { x.rx with set0 := some key } } :=
  if_neg fun h => h.elim (fun hbig => by omega) hfree

theorem keyGo_known {x : IdeStream} (hkey : x.rx.set0.isSome = true) :
    keyGo false 0 x = some { x with rx := { x.rx with inUse := some 0 }, insecure := false } :=
  if_neg (by
    rintro (h | h)
    · omega
    · exact absurd h (by simpa [IdeDir.key, IdeStream.dir, Option.isSome_iff_ne_none] using hkey))

end Sessions

/-- Settles O37: each message of a session that is up is served at once; an IDE key message leaves its link's stream as it makes it. -/
theorem spdmSessions : Obligations.SpdmSessions := by
  intro s ch id x hrun hopen hup hnone hx tells
  have told (f : Trust → Trust) (hf : ∀ (t : Trust) (w : List Instr), f { t with waiting := w } = { f t with waiting := w }) {c : Instr} {d : Dev}
      {pl : List Nat} (hc : exec c s = s.spdm ch c)
      (h : (s.awaiting [c]).serve c = some (({ s with dev := d, trust := f { s.trust with waiting := [c] } } : State).spdmAnswer ch true pl)) :
      tells c d (f s.trust) pl := hc.trans (State.spdm_tells hrun hopen hup hnone f hf h)
  have hsession (c : Instr) : (s.awaiting [c]).trust.session ch id = some x := hx
  refine ⟨fun root hdown => ?finish, fun hx => ?_⟩
  case finish =>
    exact told (fun t => { t with sessions := t.sessions.map fun y => if y = x then { y with up := true, auth := root.isSome && root == s.trust.fmRoot }
      else y }) (fun _ _ => rfl) rfl (congrArg some (State.finishSession_comesUp (hsession _) hdown root))
  have inside (f : Trust → Trust) (hf : ∀ (t : Trust) (w : List Instr), f { t with waiting := w } = { f t with waiting := w }) {c : Instr} {d : Dev}
      {pl : List Nat} {g : Spdm → State → State} (hc : exec c s = s.spdm ch c) (h : (s.awaiting [c]).serve c = some ((s.awaiting [c]).inSession ch id g))
      (hg : g x (s.awaiting [c]) = ({ s with dev := d, trust := f { s.trust with waiting := [c] } } : State).spdmAnswer ch true pl) :
      tells c d (f s.trust) pl := told f hf hc (h.trans (congrArg some ((State.inSession_up (hsession c) hx g).trans hg)))
  refine ⟨inside (fun t => t) (fun _ _ => rfl) rfl rfl rfl, inside (fun t => t) (fun _ _ => rfl) rfl rfl rfl,
    inside (fun t => { t with sessions := t.sessions.filter (· != x) }) (fun _ _ => rfl) rfl rfl rfl, fun slot key hch hauth hlow hhigh => ?wrap,
    fun link key skid hch hlink hex => ?ide⟩
  case wrap =>
    exact ⟨inside (fun t => { t with wrap := mset t.wrap slot key }) (fun _ _ => rfl) rfl rfl (if_pos ⟨hch, hauth, hlow, hhigh⟩),
      inside (fun t => { t with wrap := merase t.wrap slot }) (fun _ _ => rfl) rfl rfl (if_pos ⟨hch, hauth, hlow, hhigh⟩)⟩
  case ide =>
    intro k
    have keyed {c : Instr} (stream : Nat) {f : IdeStream → Option IdeStream} (g : Link → Link) {y : IdeStream} (hc : exec c s = s.spdm ch c)
        (h : (s.awaiting [c]).serve c = some ((s.awaiting [c]).inSession ch id fun _ s => s.ideKm ch link stream f g)) (hstream : stream < 2)
        (hf : f (k.ide stream) = some y) : tells c (s.dev.setLink link (g (k.setIde stream y))) s.trust [] :=
      inside (fun t => t) (fun _ _ => rfl) hc h (State.ideKm_sets (s := s.awaiting [c]) hch hlink hex hstream hf)
    exact ⟨fun hfree => keyed 0 (fun k => k) rfl rfl (by decide) (keyProgTo_free key hfree),
      fun hkey => keyed 0 (ideMode 0 false skid) rfl rfl (by decide) (keyGo_known hkey), keyed 1 (fun k => k) rfl rfl (by decide) rfl⟩

end Sys2Proof.Machine
end

section
/-!
PROOFS. The doorbell block of a queue (R272 to R274, R293, R295, R610).
-/
namespace Sys2Proof.Machine

section Doors
variable {d : Dev} {l ld q off reg : Nat} {x : Queue} {v : Word} {dpid : BitVec 12}

/-- What a doorbell access of the logical device that owns the queue needs (R272). -/
structure Dev.DoorOpen (d : Dev) (l ld q : Nat) (dpid : BitVec 12) (x : Queue) : Prop where
  run : d.inRun
  reached : d.ldOpen l ld = true
  pbr : (d.link l).misrouted dpid = false
  low : 16 ≤ q
  high : q < 8192
  queue : d.queue? q = some x
  owner : d.ownerOf x = (l, ld)

theorem Dev.DoorOpen.doorOf (h : d.DoorOpen l ld q dpid x) (hoff : off / 0x1000 = q) : d.doorOf { link := l, ld := ld } off = some (q, x) := by
  have hlow := h.low
  have hhigh := h.high
  unfold Dev.doorOf
  rw [hoff, if_neg (by omega), h.queue]
  exact if_pos h.owner

/-- An access at the offset of its register writes that register. -/
theorem Dev.DoorOpen.doorCmd (h : d.DoorOpen l ld q dpid x) (hreg : reg < 64) (c : Instr) :
    d.doorCmd l ld (q * 4096 + reg) dpid v reg c = (d.writeDoor { link := l, ld := ld } (q * 4096 + reg) v (BitVec.allOnes 64)).after := by
  have hhigh := h.high
  unfold Dev.doorCmd
  rw [Dev.ioArrive_open _ _ _ _ _ _ _ h.run h.reached h.pbr]
  exact if_pos (by omega)

theorem Dev.DoorOpen.writeRun (h : d.DoorOpen l ld q dpid x) :
    d.writeDoor { link := l, ld := ld } (q * 4096 + 0x20) v (BitVec.allOnes 64) =
      d.doorRun { link := l, ld := ld } (q * 4096 + 0x20) q x (v.getLsbD 0) := by
  have hreg : (q * 4096 + 0x20) / 8 % 8 = 4 := by omega
  unfold Dev.writeDoor
  rw [h.doorOf (by omega)]
  dsimp only
  rw [hreg]
  rfl

theorem Dev.DoorOpen.writeConsumed (h : d.DoorOpen l ld q dpid x) :
    d.writeDoor { link := l, ld := ld } (q * 4096 + 0x28) v (BitVec.allOnes 64) = d.recordConsumed q x (v.setWidth 32) := by
  have hreg : (q * 4096 + 0x28) / 8 % 8 = 5 := by omega
  unfold Dev.writeDoor
  rw [h.doorOf (by omega)]
  dsimp only
  rw [hreg]
  rfl

/-- A queue with instructions under way goes on to their end. -/
theorem Dev.stopRun_busy (hissued : x.issued ≠ []) : d.stopRun q x = d.setQueue q { x with run := false } := by
  have hsome : x.issued.isEmpty = false := by simpa using hissued
  unfold Dev.stopRun
  dsimp only
  rw [hsome, if_neg (by simp)]

/-- The count of records consumed is recorded, and a queue that waits for room for a record can go on. -/
theorem Dev.recordConsumed_idle (hissued : x.issued = []) (v : BitVec 32) : d.recordConsumed q x v =
    d.setQueue q { x with consumed := v, dirty := true, crFull := false } :=
  Dev.retire_empty retireFuel (d.queue?_put q { x with consumed := v, dirty := true, crFull := false }) hissued

end Doors

theorem doorbells : Claims.Doorbells := by
  intro s l ld q dpid x hrun hstill hroom hopen hpbr hlow hhigh hq howner d
  have h : d.DoorOpen l ld q dpid x := ⟨hrun, hopen, hpbr, hlow, hhigh, hq, howner⟩
  have hkept {y : Queue} (hy : y.issued = x.issued) : (d.setQueue q y).after = d.setQueue q y :=
    Dev.after_still _ (Dev.putQueue_still hstill hroom hq hy)
  have hruns (v : Word) (c : Instr) {y : Queue} (hy : y.issued = x.issued)
      (hdoor : d.doorRun { link := l, ld := ld } (q * 4096 + 0x20) q x (v.getLsbD 0) = d.setQueue q y) :
      d.doorCmd l ld (q * 4096 + 0x20) dpid v 0x20 c = d.setQueue q y := by
    rw [h.doorCmd (by decide), h.writeRun, hdoor, hkept hy]
  have htail := exec_dbTailWrite_owned s l ld q dpid x
  refine ⟨fun v hne hfit => ?_, fun v hne hunfit => ?_, fun hstate => ?_, fun hstate hissued => ?_, fun hstate hissued => ?_, fun v hissued => ?_⟩
  · rw [htail v hrun hopen hpbr hlow hhigh hq howner, Dev.doorTail_fits _ _ _ _ _ _ hfit, Dev.recordTail_unarmed _ _ _ _ hstill.armed]
    exact congrArg (fun e => Host.Outcome.next { s with dev := e }) (hkept (Queue.settle_issued { x with tail := v.setWidth 32, dirty := true }))
  · rw [htail v hrun hopen hpbr hlow hhigh hq howner, Dev.doorTail_unfit _ _ _ _ _ _ hunfit hne, Dev.viewEvent_door _ _ _ _ _ hhigh,
      Dev.after_still _ (Dev.event_still _ _ _ _ _ _ hstill)]
  · exact exec_dev rfl (hruns 1 _ rfl (Dev.doorRun_starts hstate))
  · exact exec_dev rfl (hruns 0 _ rfl (Dev.stopRun_idle hstate hissued))
  · exact exec_dev rfl (hruns 0 _ rfl (Dev.stopRun_busy hissued))
  · have hwritten := congrArg Dev.after (h.writeConsumed.trans (Dev.recordConsumed_idle hissued (v.setWidth 32)))
    exact exec_dev rfl ((h.doorCmd (by decide) _).trans (hwritten.trans (hkept rfl)))

end Sys2Proof.Machine
end

section
/-!
PROOFS. Reads and writes of registers through a view (R154, R463, R492, R509, R522, R559, R603 to R616).
-/
namespace Sys2Proof.Machine

/-! ### A view -/

section Views
variable {d : Dev} {v : RegView}

/-- An access through a view that stands open has its effect at once. -/
theorem Dev.viewArrive_open {bar : Nat} (hrun : d.inRun) (hopen : d.viewOpen v = true) (hplain : v.mgmt = false → bar = 4 ∨ (d.link v.link).cxl = true)
    (c : Instr) (k : Dev → Dev) : d.viewArrive v bar c k = k d := by
  unfold Dev.viewOpen at hopen
  unfold Dev.viewArrive
  cases hm : v.mgmt with
  | true =>
    rw [hm, if_pos rfl] at hopen
    rw [if_pos rfl, if_pos hopen, d.wake_inRun _ _ hrun]
  | false =>
    rw [hm, if_neg (by decide)] at hopen
    simp only [Bool.and_eq_true, Bool.not_eq_true'] at hopen
    obtain ⟨⟨hlink, hpbr⟩, hld⟩ := hopen
    have hblocked : ¬((!d.linkOpen v.link) = true ∨ ((!(bar == 4)) = true ∧ (!(d.link v.link).cxl) = true)) := by
      rcases hplain hm with rfl | hcxl
      · simp [hlink]
      · simp [hlink, hcxl]
    unfold Dev.ioArrive
    rw [if_neg (by decide), if_neg hblocked]
    dsimp only
    rw [d.wake_inRun _ _ hrun, hrun.asleep, if_neg (by decide)]
    unfold Dev.addressed
    rw [hpbr, if_neg (by decide), hld, if_neg (by decide)]

/-- The answer to a register read. -/
def Dev.regTold (d : Dev) (v : RegView) (wide : Bool) (x : Word) : Dev :=
  { d with out := d.out ++ [{ msg := .regData v (if wide then x else x &&& 0xFFFFFFFF#64), source := if v.mgmt then none else (d.link v.link).pbr }] }

theorem Dev.answerReg_told (wide : Bool) (x : Word) : d.answerReg v wide x = d.regTold v wide x := by
  have hsource : d.sourceOf (.regData v (if wide then x else x &&& 0xFFFFFFFF#64)) = if v.mgmt then none else (d.link v.link).pbr := by
    unfold Dev.sourceOf Msg.link?
    cases hm : v.mgmt <;> simp [hm, Dev.link]
  unfold Dev.answerReg Dev.emit Dev.regTold
  rw [hsource]

theorem Dev.rcRead_told (harmed : d.faults.armed = []) (wide : Bool) (f : Dev → Bool → Word × Dev) :
    d.rcRead v wide f = (f d (clears v wide)).2.regTold v wide (f d (clears v wide)).1 := by
  unfold Dev.rcRead
  rw [Dev.arrayRead_unarmed harmed]
  exact Dev.answerReg_told _ _

end Views

/-! ### Reads that clear -/

/-- What a read of the class status leaves of a class: it forgets a miss, and a risk once the guarantee is met again (R509). -/
def QClass.cleared (x : QClass) : QClass := { x with missed := false, atRisk := x.atRisk && decide (x.eff < x.guar) }

def Dev.clearClass (d : Dev) (k : Nat) : Dev := d.setClass k (d.class k).cleared

theorem Dev.class_setClass_ne {d : Dev} {k n : Nat} (x : QClass) (h : n ≠ k) : (d.setClass k x).class n = d.class n :=
  congrArg (·.getD {}) (mget_mset_ne d.qos.classes k n x h)

/-- Classes outside a list keep what they hold as those of the list are cleared. -/
theorem Dev.clearClasses_other {l : List Nat} {n : Nat} (h : n ∉ l) (d : Dev) : (l.foldl Dev.clearClass d).class n = d.class n := by
  induction l generalizing d with
  | nil => rfl
  | cons k l ih =>
    obtain ⟨hne, hl⟩ := List.ne_and_not_mem_of_not_mem_cons h
    exact (ih hl _).trans (Dev.class_setClass_ne _ hne)

theorem Dev.clearClasses_class {l : List Nat} {n : Nat} (hnodup : l.Nodup) (h : n ∈ l) (d : Dev) :
    (l.foldl Dev.clearClass d).class n = (d.class n).cleared := by
  induction l generalizing d with
  | nil => exact absurd h (by simp)
  | cons k l ih =>
    obtain ⟨hk, hl⟩ := List.nodup_cons.mp hnodup
    rw [List.foldl_cons]
    rcases List.mem_cons.mp h with rfl | hn
    · exact (Dev.clearClasses_other hk _).trans (Dev.class_setClass ..)
    · have hne : n ≠ k := fun hnk => hk (hnk ▸ hn)
      rw [ih hl hn, Dev.clearClass, Dev.class_setClass_ne _ hne]

/-- The device that a read of the class status leaves. -/
def Dev.classesRead (d : Dev) (clear : Bool) : Dev := if clear then (List.range 16).foldl Dev.clearClass d else d

theorem Dev.classesRead_links (d : Dev) (clear : Bool) : (d.classesRead clear).links = d.links := by
  unfold Dev.classesRead
  split
  · exact foldl_view Dev.links Dev.clearClass (fun _ _ => rfl) _ d
  · rfl

theorem Dev.readClassStatus_classesRead (d : Dev) (clear : Bool) : (d.readClassStatus clear).2 = d.classesRead clear := rfl

theorem clearingReads : Claims.ClearingReads := by
  intro s v wide hrun harmed hopen d c value tells
  have told (f : Dev → Bool → Word × Dev) {i : Instr} {e : Dev} {x : Word} (hi : exec i s = s.onDev fun d => d.viewArrive v 4 i (·.rcRead v wide f))
      (hf : f d c = (x, e)) (hlinks : e.links = d.links) : tells i e x := by
    have hread := (Dev.viewArrive_open (bar := 4) hrun hopen (fun _ => .inl rfl) i (·.rcRead v wide f)).trans (Dev.rcRead_told harmed wide f)
    have hvalue : f d (clears v wide) = (x, e) := hf
    have hlink : e.link v.link = d.link v.link := congrArg (fun k : AMap Link => mgetD k v.link {}) hlinks
    rw [hvalue] at hread
    refine (exec_dev hi hread).trans ?_
    unfold Dev.regTold
    rw [hlink]
  refine ⟨told Dev.readFaultStatus rfl rfl ?_, fun n => told (fun e => e.readChFault n) rfl rfl ?_, fun n => told (fun e => e.readEvFault n) rfl ?_ ?_,
    ?classes, told Dev.readRetain rfl ?_ ?_, fun j => told (fun e => e.readWrap j) rfl rfl ?_⟩
  · split <;> rfl
  · split <;> rfl
  · have hstay : (d.evPort n).faultStay.toNat = if (d.evPort n).state = 0 then 0x80 else 0 := by
      unfold EvPort.faultStay
      split <;> rfl
    unfold Dev.readEvFault
    dsimp only
    rw [hstay]
    rfl
  · split
    · unfold Dev.setEv
      split <;> rfl
    · rfl
  case classes =>
    refine ⟨d.classesRead c, told Dev.readClassStatus rfl ?_ (d.classesRead_links c), fun hc => ?_, fun hc k hk => ?_⟩
    · unfold Dev.readClassStatus
      simp only [flag, decide_eq_true_eq]
      rfl
    · unfold Dev.classesRead
      rw [hc]
      rfl
    · have hclass : (d.classesRead c).class k = (d.class k).cleared := by
        unfold Dev.classesRead
        rw [hc, if_pos rfl]
        exact Dev.clearClasses_class List.nodup_range (List.mem_range.mpr hk) d
      rw [hclass]
      exact ⟨rfl, rfl, rfl⟩
  · unfold Dev.readRetain
    simp only [flag, decide_eq_true_eq]
    rfl
  · split <;> rfl
  · split <;> rfl

end Sys2Proof.Machine
end

section
/-!
PROOFS. Register writes (R492, R603, R614, R616).
-/
namespace Sys2Proof.Machine

section Writes
variable {d : Dev} {v : RegView} {off : Nat} {value : Word}

/-- The EVENT of a refused access of the device block. -/
theorem Dev.viewEvent_block (detail : Nat) : d.viewEvent v 4 off detail =
    d.event 0x385 4 (v.link % 8 * 2 ^ 45 + v.ld % 16 * 2 ^ 41 + (if v.mgmt then 3 else 2) * 2 ^ 39 + off % 2 ^ 32) detail := by
  unfold Dev.viewEvent Dev.regEvent viewBar
  cases v.mgmt <;> rfl

theorem Dev.writeConsumed_records (hcontrol : control v = true) (harmed : d.faults.armed = []) (harrays : d.faults.arrays = [])
    (hbehind : (d.faults.total - value.setWidth 32).toNat < 2 ^ 31) :
    d.writeConsumed v off value = { d with faults := { d.faults with consumed := value.setWidth 32 } } := by
  unfold Dev.writeConsumed
  rw [hcontrol, if_neg (by decide), if_neg (by decide)]
  dsimp only
  rw [if_pos hbehind]
  exact Dev.storeReg_unarmed (d := d.onFaults fun f => { f with consumed := value.setWidth 32 }) harmed harrays _

theorem Dev.writeConsumed_ahead (hcontrol : control v = true) (hahead : 2 ^ 31 ≤ (d.faults.total - value.setWidth 32).toNat) :
    d.writeConsumed v off value = d.viewEvent v 4 off 2 := by
  unfold Dev.writeConsumed
  rw [hcontrol, if_neg (by decide), if_neg (by decide), if_neg (by omega)]

theorem Dev.writeTag_first (hcontrol : control v = true) (harmed : d.faults.armed = []) (harrays : d.faults.arrays = []) (hfirst : d.tagDone = false) :
    d.writeTag v off value = { d with devTag := value, tagDone := true } := by
  unfold Dev.writeTag
  rw [hcontrol, if_neg (by decide), hfirst, if_neg (by decide), mergeBits_all]
  exact Dev.storeReg_unarmed (d := { d with devTag := value, tagDone := true }) harmed harrays _

theorem Dev.writeTag_again (hcontrol : control v = true) (hdone : d.tagDone = true) : d.writeTag v off value = d.viewEvent v 4 off 1 := by
  unfold Dev.writeTag
  rw [hcontrol, if_neg (by decide), if_pos hdone]

/-- A still device with its tag written is still. -/
theorem Dev.Still.tagged (h : d.Still) (tag : Word) : ({ d with devTag := tag, tagDone := true } : Dev).Still :=
  Dev.SameWork.stays (a := d) (by constructor <;> intros <;> rfl) rfl h

theorem Dev.writeRegs_tag {data : LineData} (hcontrol : control v = true) (hstill : d.Still) (harrays : d.faults.arrays = []) (hfirst : d.tagDone = false) :
    d.writeRegs v 4 0x10018 8 data = { d with devTag := data.setWidth 64, tagDone := true } := by
  have hwrite : d.writeUnit v 4 0x10018 (data.setWidth 64) (BitVec.allOnes 64) = { d with devTag := data.setWidth 64, tagDone := true } := by
    unfold Dev.writeUnit
    rw [if_pos (.inr rfl)]
    unfold Dev.writeBlock
    rw [if_neg (by decide), if_neg (by decide), if_neg (by rw [hcontrol]; decide), if_pos (by decide)]
    exact Dev.writeTag_first hcontrol hstill.armed harrays hfirst
  have hloop : (List.range (8 / 8)).foldl (fun (d : Dev) i => d.writeUnit v 4 (0x10018 + 8 * i) ((data >>> (64 * i)).setWidth 64) (BitVec.allOnes 64)) d =
      d.writeUnit v 4 0x10018 (data.setWidth 64) (BitVec.allOnes 64) := by
    simp
  unfold Dev.writeRegs
  rw [if_neg (by cases v.mgmt <;> decide), if_neg (by decide), if_neg (by decide), hloop, hwrite, Dev.after_still _ (hstill.tagged _)]

theorem Dev.writeRegs_unfit {size : Nat} {data : LineData} (hoff : off < 0x800000) (hfit : writeFits off size = false) :
    d.writeRegs v 4 off size data = d.viewEvent v 4 off 5 := by
  have hsize : barSize 4 = 0x800000 := rfl
  unfold Dev.writeRegs
  rw [if_neg (by simp [hsize]; omega), hfit]
  rfl

/-- Bit 1 of the BI control register lets a link send back-invalidate snoops. -/
theorem Dev.writeRegs_bi {data : LineData} (hmgmt : v.mgmt = false) (hstill : d.Still) :
    d.writeRegs v 0 0x1404 4 data = d.setLink v.link { d.link v.link with biOn := data.getLsbD 1 } := by
  have hbit : (bitsOf ((data.setWidth 64 &&& 0xFFFFFFFF#64) <<< 32 : Word).toNat 63 32).testBit 1 = data.getLsbD 1 := by
    rw [bitsOf, Nat.testBit_mod_two_pow, Nat.testBit_shiftRight, BitVec.testBit_toNat]
    simp
  have hwrite : d.writeUnit v 0 0x1400 ((data.setWidth 64 &&& 0xFFFFFFFF#64) <<< 32) 0xFFFFFFFF00000000#64 =
      d.setLink v.link { d.link v.link with biOn := data.getLsbD 1 } := by
    unfold Dev.writeUnit
    rw [hmgmt, if_neg (by decide), if_neg (by decide)]
    dsimp only
    rw [if_neg (by decide), if_pos (by decide)]
    unfold Dev.writeBar0
    rw [if_neg (by decide), if_pos (by decide), hbit]
  have hstill' : (d.setLink v.link { d.link v.link with biOn := data.getLsbD 1 }).Still := hstill.sent _ d.cnt d.lds d.out
  unfold Dev.writeRegs
  rw [if_neg (by rw [hmgmt]; decide), if_neg (by decide), if_pos rfl]
  exact (congrArg Dev.after hwrite).trans (Dev.after_still _ hstill')

end Writes

theorem registerWrites : Claims.RegisterWrites := by
  intro s v off value hrun hstill hopen harrays d bar refused
  have arrives {i : Instr} (bar : Nat) (k : Dev → Dev) {e : Dev} (hi : exec i s = s.onDev fun d => d.viewArrive v bar i k)
      (hplain : v.mgmt = false → bar = 4 ∨ (d.link v.link).cxl = true) (hk : k d = e) : exec i s = .next { s with dev := e } :=
    exec_dev hi ((Dev.viewArrive_open hrun hopen hplain i k).trans hk)
  have block {i : Instr} (k : Dev → Dev) {e : Dev} (hi : exec i s = s.onDev fun d => d.viewArrive v 4 i k) (hk : k d = e) :
      exec i s = .next { s with dev := e } := arrives 4 k hi (fun _ => .inl rfl) hk
  have hrefused (detail : Nat) : d.viewEvent v 4 off detail = refused detail := Dev.viewEvent_block detail
  refine ⟨fun hc => ⟨fun hbehind => ?_, fun hahead => ?_, fun hfirst => ?_, fun hdone => ?_⟩, fun hc => ⟨?_, ?_⟩, fun size data hoff hfit => ?_,
    fun data hc hfirst => ?_, fun data hm hcxl => ?_⟩
  · exact block (·.writeConsumed v off value) rfl (Dev.writeConsumed_records hc hstill.armed harrays hbehind)
  · exact block (·.writeConsumed v off value) rfl ((Dev.writeConsumed_ahead hc hahead).trans (hrefused 2))
  · exact block (·.writeTag v off value) rfl (Dev.writeTag_first hc hstill.armed harrays hfirst)
  · exact block (·.writeTag v off value) rfl ((Dev.writeTag_again hc hdone).trans (hrefused 1))
  · exact block (·.writeConsumed v off value) rfl ((if_pos (by rw [hc]; rfl)).trans (hrefused 4))
  · exact block (·.writeTag v off value) rfl ((if_pos (by rw [hc]; rfl)).trans (hrefused 4))
  · exact block (·.writeRegs v 4 off size data) rfl ((Dev.writeRegs_unfit hoff hfit).trans (hrefused 5))
  · exact block (·.writeRegs v 4 0x10018 8 data) rfl (Dev.writeRegs_tag hc hstill harrays hfirst)
  · exact arrives 0 (·.writeRegs v 0 0x1404 4 data) rfl (fun _ => .inr hcxl) (Dev.writeRegs_bi hm hstill)

/-- Settles O38: an access through a view that stands open has its effect at once; a doorbell write leaves its queue's record, a clearing read the bits whose
cause persists, and a refused write an EVENT. -/
theorem registerAccesses : Obligations.RegisterAccesses := ⟨doorbells, clearingReads, registerWrites⟩

end Sys2Proof.Machine
end

section
/-!
PROOFS. The exit from DEEP (R530): a link that stands twice in the table.
-/
namespace Sys2Proof.Machine

/-- A device at the end of the exit from DEEP, whose table of links holds link 0 twice: as it is after reset, and narrow. -/
def shadowedLink : State := { dev := {
  power := { mode := .deep, entering := 2 }, qos := { bw := 3600 }, links := [(0, {}), (0, { narrow := true })] } }

theorem shadowedLink_still : shadowedLink.dev.Still := by constructor <;> decide +kernel

theorem shadowedLink_awake : (shadowedLink.dev.deepLeft [] []).asleep = false := by decide +kernel

/-- The width that the end of DOZE gives link 0 is that of a link after reset, which the table does not hold: its other entry comes to light. -/
theorem shadowedLink_narrow : ((shadowedLink.dev.deepLeft [] []).link 0).narrow = true := by decide +kernel

theorem exec_deepExit {s : State} {d : Dev} {failed : List Bank} (hd : s.dev.deepLeft failed [] = d) (hawake : d.asleep = false) (hlate : d.late = []) :
    exec (.deepExitComplete failed) s = .next { s with dev := d } := by
  have hnone : { d with late := [] } = d := by rw [← hlate]
  show execDeepExitComplete failed s = _
  unfold execDeepExitComplete
  dsimp only
  rw [hd, hawake, if_neg (by decide), hlate, List.foldl_nil, hnone]

/-- Refutes O51: after the exit from DEEP a link that the table of links holds twice is narrow. -/
theorem not_dozeAndDeep : ¬ Obligations.DozeAndDeep := by
  intro h
  obtain ⟨-, -, -, -, -, -, hexit, -⟩ := h shadowedLink
  obtain ⟨⟨t, hexec, -, -, -, -, hlinks, -⟩, -⟩ := hexit rfl rfl rfl rfl (by decide) rfl shadowedLink_still
  have leaves : ∀ d, shadowedLink.dev.deepLeft [] [] = d → d.asleep = false → d.late = [] → (d.link 0).narrow = true → False := by
    intro d hd hawake hlate hnarrow
    have hdev : d = t := congrArg State.dev (Host.Outcome.next.inj ((exec_deepExit hd hawake hlate).symm.trans hexec))
    exact absurd (hnarrow.symm.trans (hdev ▸ (hlinks 0).2)) (by decide)
  exact leaves _ rfl shadowedLink_awake (by decide +kernel) shadowedLink_narrow

end Sys2Proof.Machine
end

section
/-!
PROOFS. A thermal trip in DOZE (R524, R531): a link that stands twice in the table.
-/
namespace Sys2Proof.Machine

/-- A device in DOZE, whose table of links holds link 0 twice: with its PBR ID, and narrow. -/
def shadowedPbr : State := { dev := {
  power := { mode := .doze }, qos := { bw := 3600 }, links := [(0, { pbr := some 5 }), (0, { narrow := true })] } }

/-- The wake ends DOZE, which leaves the second entry as a link after reset and so erases the first. -/
theorem shadowedPbr_lost : (((shadowedPbr.dev.raise { code := 0x7004, cls := 4, unit := 0x3A1 }).lockCheck.holdCut 3).link 0).pbr = none := by
  decide +kernel

/-- Refutes O53: a thermal trip in DOZE leaves no PBR ID to a link that the table of links holds twice. -/
theorem not_holdIsEntered : ¬ Obligations.HoldIsEntered := by
  intro h
  obtain ⟨htriggers, -⟩ := h shadowedPbr
  obtain ⟨-, -, -, t, hexec, -, -, -, -, -, -, -, -, -, -, -, hlinks⟩ := htriggers (.inr (.inl rfl))
  have keeps : ∀ d, (shadowedPbr.dev.raise { code := 0x7004, cls := 4, unit := 0x3A1 }).lockCheck.holdCut 3 = d → (d.link 0).pbr = none → False := by
    intro d hd hpbr
    have hcut : exec .thermalTrip shadowedPbr = .next { shadowedPbr with dev := d } := exec_dev rfl ((if_pos (by decide)).trans hd)
    have hdev : d = t := congrArg State.dev (Host.Outcome.next.inj (hcut.symm.trans hexec))
    exact absurd (hpbr.symm.trans (hdev ▸ (hlinks 0).2)) (by decide)
  exact keeps _ rfl shadowedPbr_lost

end Sys2Proof.Machine
end

section
/-!
PROOFS. The end of a recompression's writes (R215): a channel that stands twice in the table.
-/
namespace Sys2Proof.Machine

/-- A committed recompression with a header alone to write. -/
def headerAlone : Recomp := {
  g := 3, page := 0, loc := 12800, sub := 0, committed := true, stream := [], lines := [], merged := []
  header := { gen := 0, level := 3, primary := 1, page := 0, descs := [] } }

/-- A device whose table of channels holds channel 0 twice: with one bank queue in in-order mode, and with the patterns of a training. A read of another frame
is on its way. -/
def shadowedChan : State := { dev := {
  power := { mode := .run }, qos := { bw := 3600 }, keys := [(1, 5)], grottos := [(3, { state := 1, keyId := 1, mapBase := 0x10000 })]
  mem := { resvChans := [0] }, chans := [(0, { inOrder := [(0, 0)] }), (0, { patterns := some 5 })]
  pages := { recomps := [headerAlone], dreads := [{ frame := 1, line := 0, req := { who := .quiet, src := 0, g := 3, line := 0, op := .readS } }] } } }

theorem shadowedChan_still : shadowedChan.dev.Still := by constructor <;> decide +kernel

theorem shadowedChan_before : shadowedChan.dev.dline 262016 0 = {} := by decide +kernel

/-- The header's write is queued behind the read and then issued, which leaves the channel as it is after reset and so erases its first entry: the line lies in a
training frame of the second. -/
theorem shadowedChan_trained : ((shadowedChan.dev.recompDone 3 0).dline 262016 0).kind = .data := by decide +kernel

/-- Refutes O41: the write of one header changes a line of another frame, which reads as a line of a training frame when the shadowed entry of its channel
comes to light. -/
theorem not_pagesChange : ¬ Obligations.PagesChange := by
  rintro ⟨hrepairs, -⟩
  obtain ⟨-, -, -, hdone⟩ := hrepairs shadowedChan ⟨by decide +kernel, by decide +kernel⟩
  obtain ⟨t, hexec, -, -, -, hothers⟩ := hdone 3 0 headerAlone 5 shadowedChan_still rfl rfl rfl rfl (by decide +kernel)
  have keeps : ∀ d, shadowedChan.dev.recompDone 3 0 = d → (d.dline 262016 0).kind = .data → False := by
    intro d hd hkind
    have hdev : d = t := congrArg State.dev (Host.Outcome.next.inj ((exec_dev rfl hd : exec (.recompressionWritesDone 3 0) shadowedChan = _).symm.trans hexec))
    have hline : d.dline 262016 0 = {} :=
      (hdev ▸ hothers 262016 0 (by decide) (by decide) (by decide)).trans shadowedChan_before
    exact absurd (hkind.symm.trans (congrArg DLine.kind hline)) (by decide)
  exact keeps _ rfl shadowedChan_trained

end Sys2Proof.Machine
end

section
/-!
PROOFS. A channel in service: refresh, recalibration, retraining and temperature (R128 to R137, R146 to R149).
-/
namespace Sys2Proof.Machine

/-! ### The table of channels -/

section Table
variable {d : Dev} {c : Nat} {x y : Chan}

/-- A channel in service is not a channel after reset, so its entry stands in the table. -/
theorem Chan.ne_default (h : x.state = 3) : x ≠ {} := fun hx => absurd (hx ▸ h) (by decide)

theorem Dev.setChan_up (h : x.state = 3) : d.setChan c x = { d with chans := mset d.chans c x } :=
  congrArg (fun m => { d with chans := m }) (if_neg (Chan.ne_default h))

theorem Dev.chan_setChan_up (h : x.state = 3) : (d.setChan c x).chan c = x := by
  rw [Dev.setChan_up h]
  exact mgetD_mset_self _ _ _ _

theorem Dev.setChan_setChan_up (h : x.state = 3) (hy : y.state = 3) : (d.setChan c x).setChan c y = d.setChan c y := by
  rw [Dev.setChan_up hy, Dev.setChan_up hy, Dev.setChan_up h, mset_mset]

end Table

theorem Dev.event_chans (d : Dev) (unit akind addr detail : Nat) (g : Option Nat) : (d.event unit akind addr detail g).chans = d.chans :=
  congrArg (fun p => p.2.1) (d.event_pace unit akind addr detail g)

theorem Dev.rescale_chans (d : Dev) : d.rescale.chans = d.chans := by
  unfold Dev.rescale
  dsimp only
  generalize List.range 16 = classes
  rw [apply_ite Dev.chans, Dev.event_chans, ite_self, Dev.onQos_chans]
  refine foldl_view Dev.chans _ ?_ classes d
  intro _ _
  rfl

theorem Dev.republish_chans (d : Dev) : d.republish.chans = d.chans := by
  unfold Dev.republish
  split
  · rfl
  · exact d.rescale_chans

theorem Dev.republish_chan (d : Dev) (c : Nat) : d.republish.chan c = d.chan c := by
  unfold Dev.chan
  rw [d.republish_chans]

/-! ### A change of temperature (R134) -/

section Heat
variable {d : Dev} {c rank : Nat} {x y : Chan}

/-- Two states of a channel in service that differ only in what refreshes change. -/
structure Chan.SameHeat (x y : Chan) : Prop where
  state : y.state = x.state
  sub : y.sub = x.sub
  hot : y.hot = x.hot
  hotNext : y.hotNext = x.hotNext
  interval : y.interval = x.interval

theorem Chan.SameHeat.refl (x : Chan) : x.SameHeat x := by constructor <;> rfl

theorem Chan.SameHeat.trans {z : Chan} (h : x.SameHeat y) (k : y.SameHeat z) : x.SameHeat z := by
  constructor
  · exact k.state.trans h.state
  · exact k.sub.trans h.sub
  · exact k.hot.trans h.hot
  · exact k.hotNext.trans h.hotNext
  · exact k.interval.trans h.interval

theorem Dev.issueOwed_heat (h : (d.chan c).state = 3) (rank : Nat) : (d.chan c).SameHeat ((d.issueOwed c rank).chan c) := by
  unfold Dev.issueOwed
  dsimp only
  split
  · exact .refl _
  · refine (?_ : (d.chan c).SameHeat ((d.setChan c _).chan c))
    rw [Dev.chan_setChan_up (x := { (d.chan c).closeRank rank with owed := _ }) h]
    constructor <;> rfl

theorem Dev.issueOwed_foldl_heat (limit : Nat) (l : List (Nat × Nat)) (h : (d.chan c).state = 3) :
    (d.chan c).SameHeat ((l.foldl (fun (d : Dev) e => if limit < e.2 then d.issueOwed c e.1 else d) d).chan c) := by
  induction l generalizing d with
  | nil => exact .refl _
  | cons e t ih =>
    have hstep : (d.chan c).SameHeat ((if limit < e.2 then d.issueOwed c e.1 else d).chan c) := by
      split
      · exact Dev.issueOwed_heat h e.1
      · exact .refl _
    exact hstep.trans (ih (hstep.state.trans h))

/-- A channel whose change of temperature takes effect (R134). -/
def Chan.heated (x : Chan) (warm : Bool) : Chan := { x with hot := warm, hotNext := none, interval := if warm then 975 else 1950 }

theorem Dev.applyHot_some {warm : Bool} (hwarm : (d.chan c).hotNext = some warm) :
    d.applyHot c = ((d.chan c).owed.foldl (fun (u : Dev) e => if ((d.chan c).heated warm).limit < e.2 then u.issueOwed c e.1 else u)
      (d.setChan c ((d.chan c).heated warm))).republish := by
  unfold Dev.applyHot Chan.heated
  dsimp only
  rw [hwarm]

/-- Nothing else of the channel changes but what refreshes change. -/
theorem Dev.applyHot_heat (h : (d.chan c).state = 3) {warm : Bool} (hwarm : (d.chan c).hotNext = some warm) :
    ((d.chan c).heated warm).SameHeat ((d.applyHot c).chan c) := by
  have hset : (d.setChan c ((d.chan c).heated warm)).chan c = (d.chan c).heated warm := Dev.chan_setChan_up h
  have hfold := Dev.issueOwed_foldl_heat ((d.chan c).heated warm).limit (d.chan c).owed ((congrArg Chan.state hset).trans h)
  rw [hset] at hfold
  rw [Dev.applyHot_some hwarm, Dev.republish_chan]
  exact hfold

theorem Dev.applyHot_none (hnone : (d.chan c).hotNext = none) : d.applyHot c = d := by
  unfold Dev.applyHot
  dsimp only
  rw [hnone]

theorem Dev.applyHot_sub (h : (d.chan c).state = 3) : ((d.applyHot c).chan c).sub = (d.chan c).sub := by
  cases hnext : (d.chan c).hotNext with
  | none => rw [Dev.applyHot_none hnext]
  | some warm => exact (Dev.applyHot_heat h hnext).sub

end Heat

end Sys2Proof.Machine
end

section
/-!
PROOFS. Refreshes, and the health of a channel in service (R128 to R137, R141, R146 to R149).
-/
namespace Sys2Proof.Machine

section Channel
variable {d : Dev} {c rank : Nat} {x : Chan}

theorem Chan.ranksUp_contains (hlow : rank < x.ranks) (hin : x.ranksOut.contains rank = false) : x.ranksUp.contains rank = true := by
  simpa [Chan.ranksUp, hlow] using hin

theorem Dev.inRun.runs (h : d.inRun) : d.live = true := by
  unfold Dev.live
  rw [h.1]
  decide

/-- A refresh that falls due on a rank in service, behind a change of temperature that waits (R129, R130, R134). -/
theorem Dev.refresh_due {busy : Bool} (hrun : d.inRun) (hup : (d.chan c).state = 3) (hidle : (d.chan c).sub ≠ 1) (hself : (d.chan c).sub ≠ 2)
    (hheld : (d.chan c).sub ≠ 3) (hrank : (d.chan c).ranksUp.contains rank = true) :
    let e := d.applyHot c
    let y := e.chan c
    let owed := mgetD y.owed rank 0
    d.refresh c rank busy =
      if (busy || e.rankBusy c rank || e.rankMends c rank) = false then
        (e.setChan c { y.closeRank rank with owed := mput y.owed 0 rank 0 }).bump (chCnt c 5) (owed + 1)
      else if owed < y.limit then (e.setChan c { y with owed := mput y.owed 0 rank (owed + 1) }).bump (chCnt c 6)
      else ((e.setChan c { y.closeRank rank with owed := mput y.owed 0 rank 1 }).bump (chCnt c 5) owed).bump (chCnt c 6) := by
  have hopen : ¬ ((d.chan c).state ≠ 3 ∨ (d.chan c).sub = 2 ∨ (d.chan c).sub = 3 ∨ (!(d.chan c).ranksUp.contains rank) = true ∨ (!d.live) = true) := by
    rw [hrank, hrun.runs]
    simp [hup, hself, hheld]
  have hsub : ((d.applyHot c).chan c).sub ≠ 1 := Dev.applyHot_sub hup ▸ hidle
  intro e y owed
  refine (if_neg hopen).trans ?_
  by_cases hbusy : (busy || e.rankBusy c rank || e.rankMends c rank) = false
  · exact (if_pos (.inl (by rw [hbusy]; rfl))).trans (if_pos hbusy).symm
  · exact (if_neg fun h => h.elim (fun hfree => hbusy (by simpa using hfree)) hsub).trans (if_neg hbusy).symm

/-- A channel in service that is written twice, the second time from what it then is. -/
theorem Dev.setChan_modify (f : Chan → Chan) (h : x.state = 3) (hf : (f x).state = 3) :
    (d.setChan c x).setChan c (f ((d.setChan c x).chan c)) = d.setChan c (f x) := by
  rw [Dev.chan_setChan_up h, Dev.setChan_setChan_up h hf]

theorem Dev.setChan_bump (d : Dev) (c n k : Nat) (x : Chan) : (d.bump n k).setChan c x = (d.setChan c x).bump n k := rfl

/-- An idle channel does what refreshes it owes, and then refreshes itself (R132). -/
theorem Dev.idleRefresh_enters (hrun : d.inRun) (hup : (d.chan c).state = 3) (hsub : (d.chan c).sub = 0) (hmend : (d.chan c).repair = none)
    (htrain : (d.chan c).retrain = []) (hquiet : d.chanBusy c = false) :
    let n := ((d.chan c).owed.map fun o => o.2).sum
    let e := d.setChan c { d.chan c with sub := 2, owed := [], rows := [] }
    d.idleRefresh c = (if n = 0 then e else e.bump (chCnt c 5) n).bump (chCnt c 7) := by
  intro n e
  refine (if_pos ⟨hup, hsub, hrun.1, by simp [hmend], by simp [htrain], by simp [hquiet]⟩).trans ?_
  have hsettle : (d.settleRefresh c).setChan c { (d.settleRefresh c).chan c with sub := 2 } = if n = 0 then e else e.bump (chCnt c 5) n := by
    have hset := Dev.setChan_modify (d := d) (c := c) (x := { d.chan c with owed := [], rows := [] }) (fun x => { x with sub := 2 }) hup hup
    unfold Dev.settleRefresh
    dsimp only
    by_cases hnone : n = 0
    · rw [if_pos hnone, if_pos hnone]
      exact hset
    · rw [if_neg hnone, if_neg hnone, Dev.setChan_bump]
      exact congrArg (fun d : Dev => d.bump (chCnt c 5) n) hset
  exact congrArg (fun d : Dev => d.bump (chCnt c 7)) hsettle

end Channel

theorem refreshes : Claims.Refreshes := by
  intro s c rank busy hrun hup d x count
  refine ⟨fun hidle hself hheld hlow hin => ?due, fun hself hheld hlow hin => ?floor, fun hsub hmend htrain hquiet => ?enter, fun hsub hwork => ?stays,
    fun hsub => ?exit⟩
  case due =>
    have hdue := Dev.refresh_due (busy := busy) hrun hup hidle hself hheld (Chan.ranksUp_contains hlow hin)
    intro e y owed top held
    have hbusy (h : held = true) : ¬ held = false := fun hf => absurd (h.symm.trans hf) (by decide)
    refine ⟨fun h => exec_dev rfl (hdue.trans (if_pos h)), fun h hroom => exec_dev rfl (hdue.trans ((if_neg (hbusy h)).trans (if_pos hroom))),
      fun h hfull => exec_dev rfl (hdue.trans ((if_neg (hbusy h)).trans (if_neg (Nat.not_lt.2 hfull)))),
      fun hnone => Dev.applyHot_none hnone, fun warm hwarm => ?_⟩
    have hheat := Dev.applyHot_heat hup hwarm
    exact ⟨hheat.hot, hheat.interval, hheat.hotNext⟩
  case floor => exact exec_dev rfl (if_pos ⟨hup, Chan.ranksUp_contains hlow hin, hself, hheld⟩)
  case enter => exact exec_dev rfl (Dev.idleRefresh_enters hrun hup hsub hmend htrain hquiet)
  case stays =>
    refine exec_dev rfl (if_neg ?_)
    rintro ⟨-, -, -, hmend, htrain, hquiet⟩
    rcases hwork with h | h | h
    · exact absurd h (by simpa [Option.isSome_iff_ne_none] using hmend)
    · exact h (by simpa using htrain)
    · simp [d, h] at hquiet
  case exit => exact exec_dev rfl (if_pos ⟨hsub, hrun.1⟩)

section Health
variable {d : Dev} {c rank : Nat} {x : Chan} {t : Int} {fast : Bool}

theorem Dev.recalibrate_open (hrun : d.inRun) (hup : (d.chan c).state = 3) (hself : (d.chan c).sub ≠ 2) (hheld : (d.chan c).sub ≠ 3)
    (hrank : (d.chan c).ranksUp.contains rank = true) :
    ¬ ((d.chan c).state ≠ 3 ∨ (!(d.chan c).ranksUp.contains rank) = true ∨ (d.chan c).sub = 2 ∨ (d.chan c).sub = 3 ∨ (!d.awake) = true) := by
  rw [hrank, hrun.awake]
  simp [hup, hself, hheld]

/-- What a reading leaves of a channel's temperature (R134, R135). -/
def Chan.read (x : Chan) (t : Int) (fast : Bool) : Chan :=
  if decide (85 < t) || fast then { x with temp := t, cool := 0, hotNext := if x.hot then none else some true }
  else if x.hot || x.hotNext == some true then
    let n := if t ≤ 82 then x.cool + 1 else 0
    { x with temp := t, cool := n, hotNext := if 2 ≤ n then (if x.hot then some false else none) else x.hotNext }
  else { x with temp := t }

theorem Dev.tempRead_run {y : Chan} (hrun : d.inRun) (hup : (d.chan c).state = 3) (hy : (d.chan c).read t fast = y) :
    d.tempRead c t fast =
      if 95 < t then
        let d1 := d.setChan c { y with over95 := true, fault := y.fault ||| 0x40#8 }
        if (d.chan c).over95 then d1 else d1.raise { code := 0x100B, cls := 2, unit := unitChan c }
      else d.setChan c { y with over95 := false } := by
  have hopen : ¬ ((d.chan c).state ≠ 3 ∨ (!d.live) = true ∨ d.power.mode = .deep) := by
    rw [hrun.runs, hrun.1]
    simp [hup]
  subst hy
  exact (if_neg hopen).trans rfl

theorem Chan.read_warm (hcold : x.hot = false) (hwarm : 85 < t ∨ fast = true) :
    x.read t fast = { x with temp := t, cool := 0, hotNext := some true } := by
  unfold Chan.read
  rw [if_pos (by simpa using hwarm), hcold]
  rfl

theorem Chan.read_cold (hcold : x.hot = false) (hnone : x.hotNext = none) (ht : t ≤ 85) : x.read t false = { x with temp := t } := by
  unfold Chan.read
  rw [if_neg (by simpa using ht), if_neg (by rw [hcold, hnone]; decide)]

/-- A hot channel counts the readings that would cool it. -/
theorem Chan.read_cools (hhot : x.hot = true) (ht : t ≤ 85) :
    x.read t false = { x with temp := t, cool := if t ≤ 82 then x.cool + 1 else 0, hotNext := if t ≤ 82 ∧ 1 ≤ x.cool then some false else x.hotNext } := by
  unfold Chan.read
  rw [if_neg (by simpa using ht), if_pos (by rw [hhot]; rfl)]
  dsimp only
  rw [hhot]
  by_cases hcool : t ≤ 82
  · simp [hcool]
  · simp [hcool]

theorem Dev.caParity_run (hrun : d.inRun) (hup : (d.chan c).state = 3) (slot : Nat) (second : Bool) :
    let e := (d.setChan c { d.chan c with fault := (d.chan c).fault ||| 0x01#8 }).bump (chCnt c 12)
    d.caParity c slot second = if second then e.loseDimm c slot else e.raise { code := 0x1007, cls := 1, unit := unitChan c, att := 2 } := by
  have hopen : ¬ ((d.chan c).state ≠ 3 ∨ (!d.live) = true) := by
    rw [hrun.runs]
    simp [hup]
  exact (if_neg hopen).trans rfl

theorem Dev.retrainDone_of {n : Nat} (hasked : (d.chan c).retrain.find? (fun e => e.1 == rank) = some (rank, n)) (ok : Bool) :
    let x := d.chan c
    let rest := x.retrain.filter fun e => e.1 != rank
    d.retrainDone c rank ok =
      if ok then (((d.setChan c { x with retrain := rest }).withPatterns c).owes 5 c).after
      else if n = 0 then d.setChan c { x with retrain := rest ++ [(rank, 1)] }
      else (d.setChan c { x with retrain := rest }).loseRanks c [rank] := by
  unfold Dev.retrainDone
  dsimp only
  rw [hasked]

end Health

theorem channelHealth : Claims.ChannelHealth := by
  intro s c rank hrun hup d x rest
  refine ⟨fun hself hheld hlow hin => ?recalibration, fun n hasked => ?retrain, fun t fast hcold hnone => ?cold, fun t hhot ht => ?hot, fun slot => ?parity⟩
  case recalibration =>
    have hopen := Dev.recalibrate_open hrun hup hself hheld (Chan.ranksUp_contains hlow hin)
    exact ⟨exec_dev rfl ((if_neg hopen).trans (if_pos rfl)),
      fun hfree => exec_dev rfl ((if_neg hopen).trans ((if_neg (by decide)).trans (if_neg (fun h => absurd (hfree.symm.trans h) (by decide)))))⟩
  case retrain =>
    have hdone := Dev.retrainDone_of hasked
    have told (ok : Bool) {e : Dev} (h : d.retrainDone c rank ok = e) :
        exec (.rankRetrainComplete c rank ok) s = .next ({ s with dev := e } : State).payDue :=
      congrArg (fun e => Host.Outcome.next ({ s with dev := e } : State).payDue) h
    exact ⟨told true ((hdone true).trans (if_pos rfl)), told false ((hdone false).trans (if_neg (by decide)))⟩
  case cold =>
    refine ⟨fun ht hunder => ?_, fun ht hwarm => ?_, fun ht => ?_⟩
    · have hread := Dev.tempRead_run hrun hup (Chan.read_warm hcold (fast := fast) (.inl (by omega : 85 < t)))
      exact exec_dev rfl (hread.trans ((if_pos ht).trans (if_neg (fun h => absurd (hunder.symm.trans h) (by decide)))))
    · exact exec_dev rfl ((Dev.tempRead_run hrun hup (Chan.read_warm hcold hwarm)).trans (if_neg (by omega)))
    · exact exec_dev rfl ((Dev.tempRead_run hrun hup (Chan.read_cold hcold hnone ht)).trans (if_neg (by omega)))
  case hot => exact exec_dev rfl ((Dev.tempRead_run hrun hup (Chan.read_cools hhot ht)).trans (if_neg (by omega)))
  case parity =>
    exact ⟨exec_dev rfl ((Dev.caParity_run hrun hup slot false).trans (if_neg (by decide))),
      exec_dev rfl ((Dev.caParity_run hrun hup slot true).trans (if_pos rfl))⟩

/-- Settles O43: refreshes and the health of channels, each by the branch of its command. -/
theorem channelsAreKept : Obligations.ChannelsAreKept := ⟨refreshes, channelHealth⟩

end Sys2Proof.Machine
end

section
/-!
PROOFS. Flits of an Evoil port (R425, R428 to R435): acks, credit, and what a flit leaves of the port and of all data.
-/
namespace Sys2Proof.Machine

/-! ### What a port does leaves all data alone -/

/-- The data, tables and pages that no flit touches as it arrives. -/
def Dev.stored (d : Dev) : Mem × AMap Grotto × Slices × Pages := (d.mem, d.grottos, d.slices, d.pages)

/-- What sending leaves of a port. -/
def EvPort.received (x : EvPort) : BitVec 12 × Bool × BitVec 12 × BitVec 12 × List (List EvMsg) :=
  (x.expect, x.nakSent, x.unacked, x.limit, x.rxq)

section Port
variable (d : Dev) (p : Nat)

theorem Dev.Keeps.stored {a b : Dev} (k : a.Keeps b) : b.stored = a.stored := by
  unfold Dev.stored
  rw [k.mem, k.grottos, k.slices, k.pages]

theorem Dev.raise_evPort (h : Hap) : (d.raise h).evPort p = d.evPort p := by rw [Dev.evPort, Dev.evPort, (d.raise_keeps h).ev]

@[simp] theorem Dev.setEv_stored (x : EvPort) : (d.setEv p x).stored = d.stored := by
  unfold Dev.setEv
  split <;> rfl

@[simp] theorem Dev.raise_stored (h : Hap) : (d.raise h).stored = d.stored := (d.raise_keeps h).stored
@[simp] theorem Dev.wake_stored (src detail : Nat) : (d.wake src detail).stored = d.stored := (d.wake_keeps src detail).stored
@[simp] theorem Dev.evControl_stored : (d.evControl p).stored = d.stored := rfl
@[simp] theorem Dev.evNak_stored : (d.evNak p).stored = d.stored := d.setEv_stored p _
@[simp] theorem Dev.evCountIn_stored : (d.evCountIn p).stored = d.stored := rfl
@[simp] theorem Dev.bump_stored (n k : Nat) : (d.bump n k).stored = d.stored := rfl

theorem Dev.evPump_stored (n : Nat) : (d.evPump p n).stored = d.stored := by
  induction n generalizing d with
  | zero => rfl
  | succ n ih =>
    unfold Dev.evPump
    dsimp only
    split
    · rw [ih]
      exact d.setEv_stored p _
    · rfl

theorem Dev.evPump_received (n : Nat) : ((d.evPump p n).evPort p).received = (d.evPort p).received := by
  induction n generalizing d with
  | zero => rfl
  | succ n ih =>
    unfold Dev.evPump
    dsimp only
    split
    · rw [ih]
      simp [EvPort.received]
    · rfl

theorem Dev.evAnswer_stored : (d.evAnswer p).stored = d.stored := by
  unfold Dev.evAnswer
  split
  · exact d.evPump_stored p _
  · rfl

theorem Dev.evAnswer_received : ((d.evAnswer p).evPort p).received = (d.evPort p).received := by
  unfold Dev.evAnswer
  split
  · exact d.evPump_received p _
  · rfl

end Port

/-! ### Acks and credit (R430, R434) -/

section Acks
variable (d : Dev) (p : Nat) (n : BitVec 12)

theorem Dev.freeTo_stored : (d.freeTo p n).stored = d.stored := by
  unfold Dev.freeTo
  dsimp only
  repeat' split
  all_goals simp

/-- An ack frees the echo buffer up to its flit, and leaves the receiving side and the credit as they are. -/
theorem Dev.freeTo_evPort : ((d.freeTo p n).evPort p).unacked = n ∧ ((d.freeTo p n).evPort p).state = (d.evPort p).state ∧
    ((d.freeTo p n).evPort p).nextSeq = (d.evPort p).nextSeq ∧ ((d.freeTo p n).evPort p).limit = (d.evPort p).limit ∧
    ((d.freeTo p n).evPort p).expect = (d.evPort p).expect ∧ ((d.freeTo p n).evPort p).rxq = (d.evPort p).rxq := by
  unfold Dev.freeTo
  dsimp only
  by_cases hzero : (n - (d.evPort p).unacked).toNat = 0
  · rw [if_pos hzero]
    exact ⟨by bv_omega, rfl, rfl, rfl, rfl, rfl⟩
  · rw [if_neg hzero]
    repeat' split
    all_goals simp only [Dev.raise_evPort, Dev.evPort_setEv, and_self]

end Acks

/-! ### A flit that arrives -/

section Arrival
variable {d : Dev} {p : Nat} {f : Flit}

/-- A port after the ack and the credit of a flit. -/
def Dev.acked (d : Dev) (p : Nat) (f : Flit) : Dev :=
  let e := (d.evCountIn p).freeTo p (f.ack + 1)
  e.setEv p { e.evPort p with limit := f.credit }

theorem Dev.acked_stored : (d.acked p f).stored = d.stored := ((Dev.setEv_stored _ p _).trans (Dev.freeTo_stored _ p _)).trans (d.evCountIn_stored p)

theorem Dev.acked_evPort : ((d.acked p f).evPort p).unacked = f.ack + 1 ∧ ((d.acked p f).evPort p).limit = f.credit ∧
    ((d.acked p f).evPort p).state = (d.evPort p).state ∧ ((d.acked p f).evPort p).expect = (d.evPort p).expect ∧
    ((d.acked p f).evPort p).rxq = (d.evPort p).rxq := by
  obtain ⟨hunacked, hstate, -, -, hexpect, hrxq⟩ := (d.evCountIn p).freeTo_evPort p (f.ack + 1)
  unfold Dev.acked
  dsimp only
  rw [Dev.evPort_setEv]
  exact ⟨hunacked, rfl, hstate, hexpect, hrxq⟩

/-- A payload flit as it should be (R425), whose ack and credit are valid (R428, R434). -/
structure EvPort.GoodFlit (x : EvPort) (f : Flit) : Prop where
  crc : f.crcOk = true
  payload : f.kind = 1
  resv : f.resvOk = true
  msgs : f.msgs.any EvMsg.bad = false
  acks : f.nak = false
  ack : (f.ack - x.unacked + 1).toNat ≤ (x.nextSeq - x.unacked).toNat
  credit : (f.credit - x.limit).toNat ≤ (x.nextSeq - x.limit).toNat

theorem Dev.flitIn_good (hp : p < 2) (hlive : d.evLive = true) (hactive : (d.evPort p).state = 2) (h : (d.evPort p).GoodFlit f) :
    d.flitIn p f = (if f.seq = (d.evPort p).expect then (d.acked p f).wake 3 p else d.acked p f).takePayload p f := by
  have hgood : ¬((!f.crcOk) = true ∨ (decide (2 ≤ f.kind) || !f.resvOk || f.msgs.any EvMsg.bad) = true) := by
    simp [h.crc, h.payload, h.resv, h.msgs]
  have hack : (d.evCountIn p).takeAck p f = (d.evCountIn p).freeTo p (f.ack + 1) := by
    rw [Dev.takeAck, h.acks, if_neg Bool.false_ne_true]
    exact if_pos h.ack
  obtain ⟨-, -, hnext, hlimit, -, -⟩ := (d.evCountIn p).freeTo_evPort p (f.ack + 1)
  have hcredit : ((d.evCountIn p).freeTo p (f.ack + 1)).takeCredit p f = d.acked p f := by
    exact if_pos (by rw [hnext, hlimit]; exact h.credit)
  obtain ⟨-, -, hstate, hexpect, -⟩ := d.acked_evPort (p := p) (f := f)
  rw [Dev.flitIn, if_neg (d.evPort_takes p hp hlive hactive), ← Dev.evCountIn]
  dsimp only
  rw [if_neg hgood, hack, hcredit, hstate, hexpect, if_neg (not_not_intro hactive), if_pos h.payload]

theorem Dev.takePayload_stored : (d.takePayload p f).stored = d.stored := by
  unfold Dev.takePayload
  dsimp only
  split
  · rw [Dev.evAnswer_stored, Dev.bump_stored, Dev.setEv_stored]
  · split
    · rfl
    · split
      · rfl
      · exact d.evNak_stored p

theorem Dev.takePayload_accepts (h : f.seq = (d.evPort p).expect) : ((d.takePayload p f).evPort p).received =
    ((d.evPort p).expect + 1, false, (d.evPort p).unacked, (d.evPort p).limit, (d.evPort p).rxq ++ [f.msgs]) := by
  rw [Dev.takePayload, if_pos h, Dev.evAnswer_received]
  simp [EvPort.received]

theorem Dev.takePayload_again (h : 1 ≤ ((d.evPort p).expect - f.seq).toNat ∧ ((d.evPort p).expect - f.seq).toNat ≤ 1024) :
    (d.takePayload p f).evPort p = d.evPort p := by
  have hne : f.seq ≠ (d.evPort p).expect := by
    intro hseq
    rw [hseq, BitVec.sub_self] at h
    exact absurd h.1 (by decide)
  rw [Dev.takePayload, if_neg hne, if_pos h]
  rfl

/-- However a payload flit is answered, U and the credit stay. -/
theorem Dev.takePayload_sends : ((d.takePayload p f).evPort p).unacked = (d.evPort p).unacked ∧ ((d.takePayload p f).evPort p).limit = (d.evPort p).limit := by
  by_cases hnext : f.seq = (d.evPort p).expect
  · have h := Dev.takePayload_accepts hnext
    simp only [EvPort.received, Prod.mk.injEq] at h
    obtain ⟨-, -, hunacked, hlimit, -⟩ := h
    exact ⟨hunacked, hlimit⟩
  · by_cases hagain : 1 ≤ ((d.evPort p).expect - f.seq).toNat ∧ ((d.evPort p).expect - f.seq).toNat ≤ 1024
    · rw [Dev.takePayload_again hagain]
      exact ⟨rfl, rfl⟩
    · rw [Dev.takePayload, if_neg hnext, if_neg hagain]
      split
      · exact ⟨rfl, rfl⟩
      · rw [Dev.evNak_evPort]
        exact ⟨rfl, rfl⟩

theorem Dev.flitIn_wakes : (if f.seq = (d.evPort p).expect then (d.acked p f).wake 3 p else d.acked p f).stored = d.stored ∧
    (if f.seq = (d.evPort p).expect then (d.acked p f).wake 3 p else d.acked p f).evPort p = (d.acked p f).evPort p := by
  split
  · exact ⟨(Dev.wake_stored _ 3 p).trans Dev.acked_stored, Dev.wake_evPort _ p 3 p⟩
  · exact ⟨Dev.acked_stored, rfl⟩

end Arrival

/-! ### Replay (R435) -/

section Replay
variable {d : Dev} {p : Nat}

@[simp] theorem Dev.evFault_stored (bits : BitVec 8) : (d.evFault p bits).stored = d.stored := d.setEv_stored p _

/-- Flits sent again, from one on, with what the port has to acknowledge. -/
def Dev.resent (d : Dev) (p : Nat) (x : EvPort) (i : Nat) (l : List ((List EvMsg × Nat) × Nat)) : Dev :=
  l.foldl (fun (d : Dev) e =>
    ((d.emit (.flit p 1 (x.unacked + BitVec.ofNat 12 (i + e.2)).toNat (d.evPort p).ack (d.evPort p).freed.toNat false e.1.1)).bump (evCnt p 2)).evCountOut p) d

theorem Dev.resent_leaves (x : EvPort) (i : Nat) (l : List ((List EvMsg × Nat) × Nat)) :
    (d.resent p x i l).evPort p = d.evPort p ∧ (d.resent p x i l).stored = d.stored ∧
    (d.resent p x i l).out = d.out ++ l.map (fun e =>
      ({ msg := .flit p 1 (x.unacked + BitVec.ofNat 12 (i + e.2)).toNat (d.evPort p).ack (d.evPort p).freed.toNat false e.1.1 } : Out)) := by
  induction l generalizing d with
  | nil => exact ⟨rfl, rfl, (List.append_nil _).symm⟩
  | cons e t ih =>
    obtain ⟨hport, hstored, hout⟩ := ih (d := ((d.emit (.flit p 1 (x.unacked + BitVec.ofNat 12 (i + e.2)).toNat (d.evPort p).ack
      (d.evPort p).freed.toNat false e.1.1)).bump (evCnt p 2)).evCountOut p)
    refine ⟨hport, hstored, hout.trans ?_⟩
    rw [List.map_cons]
    exact List.append_assoc _ [_] _

theorem Dev.replay_some (x : EvPort) (hx : d.evPort p = x) (hsome : x.echo ≠ []) :
    d.replay p 0 = (d.evFault p 0x02#8).resent p x 0 x.echo.zipIdx := by
  subst hx
  unfold Dev.replay
  dsimp only
  rw [List.drop_zero, if_neg (by simpa using hsome)]
  rfl

theorem Dev.evActive_of (hp : p < 2) (hlive : d.evLive = true) (hactive : (d.evPort p).state = 2) : d.evActive p = true := by
  simp [Dev.evActive, hp, hlive, hactive]

/-- The first failure of the flit U brings every flit from U on again. -/
theorem Dev.flitFails_first {ms : List EvMsg} {rest : List (List EvMsg × Nat)} (hecho : (d.evPort p).echo = (ms, 0) :: rest)
    (hcause : (d.evPort p).retrainCause ≠ some (d.evPort p).unacked) :
    let y : EvPort := { d.evPort p with echo := (ms, 1) :: rest }
    d.flitFails p (d.evPort p).unacked = ((d.setEv p y).evFault p 0x02#8).resent p y 0 y.echo.zipIdx := by
  intro y
  have hreplay : (d.setEv p y).replay p 0 = ((d.setEv p y).evFault p 0x02#8).resent p y 0 y.echo.zipIdx :=
    Dev.replay_some y (d.evPort_setEv p y) (List.cons_ne_nil _ _)
  rw [← hreplay]
  unfold Dev.flitFails
  simp only [BitVec.sub_self, hecho]
  exact if_neg (by simpa using hcause)

end Replay

/-- Settles O47: an arriving flit by its ack, its credit and its sequence; a timeout of the ack by the replay from U on. -/
theorem evoilFlits : Obligations.EvoilFlits := by
  intro s p hp hlive d x
  refine ⟨fun f raw hraw => ?raw, fun f hactive hcrc hkind hresv hmsgs hnak hack hcredit => ?payload, fun f hactive hcrc => ?crc, ?interval,
    fun ms rest hactive hecho hcause => ?timeout, fun hactive => ?control, fun hactive htx hcredit => ?credit⟩
  case raw =>
    have hread : (if raw.isEmpty then f else readFlit raw) = readFlit raw := if_neg (by simpa using hraw)
    exact congrArg (fun f => Host.Outcome.next { s with dev := d.flitIn p f }) hread
  case payload =>
    obtain ⟨hstored, hport⟩ := d.flitIn_wakes (p := p) (f := f)
    obtain ⟨hunacked, hlimit, -, hexpect, hrxq⟩ := d.acked_evPort (p := p) (f := f)
    have hin := d.flitIn_good hp hlive hactive ⟨hcrc, hkind, hresv, hmsgs, hnak, hack, hcredit⟩
    generalize (if f.seq = (d.evPort p).expect then (d.acked p f).wake 3 p else d.acked p f) = e at hstored hport hin
    rw [← hport] at hunacked hlimit hexpect hrxq
    have hleft : (e.takePayload p f).stored = d.stored := Dev.takePayload_stored.trans hstored
    simp only [Dev.stored, Prod.mk.injEq] at hleft
    obtain ⟨hmem, hgrottos, hslices, hpages⟩ := hleft
    obtain ⟨hsent, hgranted⟩ := e.takePayload_sends (p := p) (f := f)
    refine ⟨e.takePayload p f, exec_dev (exec_flit p f s) hin, hsent.trans hunacked, hgranted.trans hlimit, hmem, hgrottos, hslices, hpages,
      fun hseq => ?_, fun hlow hhigh => ?_⟩
    · have h := e.takePayload_accepts (hseq.trans hexpect.symm)
      simp only [EvPort.received, Prod.mk.injEq] at h
      obtain ⟨he, hn, -, -, hr⟩ := h
      exact ⟨he.trans (congrArg (· + 1) hexpect), hr.trans (congrArg (· ++ [f.msgs]) hrxq), hn⟩
    · rw [e.takePayload_again (by rw [hexpect]; exact ⟨hlow, hhigh⟩)]
      exact ⟨hexpect, hrxq⟩
  case crc =>
    have hin := Dev.flitIn_crcFails d p f hp hlive hactive hcrc
    have hleft : ((((d.evCountIn p).evFault p 0x01#8).bump (evCnt p 3)).evNak p).stored = d.stored := by simp
    simp only [Dev.stored, Prod.mk.injEq] at hleft
    obtain ⟨hmem, -, hslices, -⟩ := hleft
    refine ⟨_, exec_dev (exec_flit p f s) hin, ?_, ?_, hmem, hslices⟩
    · rw [Dev.evNak_evPort]
      simp [d, x]
    · rw [Dev.evNak_out]
      simp [d, x]
  case interval =>
    exact congrArg (fun e : Dev => Host.Outcome.next { s with dev := e }) (if_pos hp)
  case timeout =>
    have htold := Dev.flitFails_first (d := d) (p := p) hecho hcause
    refine ⟨_, exec_dev rfl ((if_pos (by rw [Dev.evActive_of hp hlive hactive, hecho]; rfl)).trans htold), ?_⟩
    obtain ⟨hport, hstored, hout⟩ := ((d.setEv p { x with echo := (ms, 1) :: rest }).evFault p 0x02#8).resent_leaves (p := p)
      { x with echo := (ms, 1) :: rest } 0 (((ms, 1) :: rest).zipIdx)
    have hleft := hstored.trans ((Dev.evFault_stored _).trans (d.setEv_stored p _))
    simp only [Dev.stored, Prod.mk.injEq] at hleft
    refine ⟨hport.trans ?_, hout.trans ?_, hleft.1⟩
    · rw [Dev.evFault_evPort, Dev.evPort_setEv]
    · rw [Dev.evFault_out, Dev.setEv_out, Dev.evFault_evPort, Dev.evPort_setEv, hecho]
      simp [d, x, EvPort.ack]
  case control =>
    refine ⟨d.evControl p, exec_dev rfl (if_pos (Dev.evActive_of hp hlive hactive)), ?_, rfl, rfl, rfl⟩
    simp [Dev.evControl, Dev.sourceOf, Msg.link?, d, x]
  case credit =>
    exact exec_dev rfl (if_pos (by rw [Dev.evActive_of hp hlive hactive]; simpa using ⟨htx, hcredit⟩))

end Sys2Proof.Machine
end

section
/-!
PROOFS. A still device stays still where its channels change in their bookkeeping alone, and under every fault and EVENT.
-/
namespace Sys2Proof.Machine

/-- Two channels alike in what the frames that they can give depend on. -/
structure Chan.Alike (x y : Chan) : Prop where
  state : y.state = x.state
  ranks : y.ranks = x.ranks
  out : y.ranksOut = x.ranksOut
  slot : y.slot0 = x.slot0

theorem Chan.Alike.refl (x : Chan) : x.Alike x := ⟨rfl, rfl, rfl, rfl⟩

/-- The channels in service. -/
def Dev.served (d : Dev) : Nat := (d.chans.filter fun e => e.2.state == 3).length

/-- Two devices alike in all that `Dev.Still` asks about: they may differ in fault records, counters, accounts of classes, power, links and messages sent, and in
the bookkeeping of channels. -/
structure Dev.SameService (a b : Dev) : Prop where
  slices : b.slices = a.slices
  pages : b.pages = a.pages
  grottos : b.grottos = a.grottos
  mem : b.mem = a.mem
  flow : b.flow = a.flow
  queues : b.queues = a.queues
  rope : b.ev.rope.pages = a.ev.rope.pages
  unsent : b.unsent = a.unsent
  bw : b.qos.bw = a.qos.bw
  armed : b.faults.armed = a.faults.armed
  chan : ∀ c, (a.chan c).Alike (b.chan c)
  served : a.served ≤ b.served
  owed : (∀ e ∈ a.chans, e.2.owed = []) → ∀ e ∈ b.chans, e.2.owed = []

section Same
variable {a b : Dev} (w : a.SameService b)
include w

theorem Dev.SameService.entry (g page : Nat) : b.entry g page = a.entry g page := by
  simp only [Dev.entry, Dev.mapIdx, Dev.grotto, w.pages, w.grottos]

theorem Dev.SameService.holdLoad : b.holdLoad = a.holdLoad := by
  simp only [Dev.holdLoad, Dev.occupiedSets, w.entry, w.slices, w.queues]

theorem Dev.SameService.overHold (n : Nat) : b.overHold n = a.overHold n := by
  rw [Dev.overHold, Dev.overHold, w.holdLoad, w.bw]

theorem Dev.SameService.dataFrames : b.dataFrames ≤ a.dataFrames := by
  have h := Nat.mul_le_mul_left a.resvFrames w.served
  have hresv : b.resvFrames = a.resvFrames := by simp only [Dev.resvFrames, w.mem]
  unfold Dev.served at h
  unfold Dev.dataFrames
  rw [w.mem, hresv]
  omega

theorem Dev.SameService.sparing (c r : Nat) : b.sparing c r = a.sparing c r := by
  simp only [Dev.sparing, w.queues, spareRank, (w.chan c).slot]

theorem Dev.SameService.frameOk (f : Nat) : b.frameOk f = a.frameOk f := by
  simp only [Dev.frameOk, Dev.rankUp, w.mem, w.sparing, (w.chan _).state, (w.chan _).ranks, (w.chan _).out]

theorem Dev.SameService.freeOn (c : Nat) : b.freeOn c = a.freeOn c := by
  have hpool : b.pool c = a.pool c := by rw [Dev.pool, Dev.pool, w.mem]
  simp only [Dev.freeOn, Chan.pendingCount, w.frameOk, (w.chan c).state, (w.chan c).ranks, (w.chan c).out, hpool]

theorem Dev.SameService.surplus : b.surplus = a.surplus := by
  have hfree : b.freeOn = a.freeOn := funext w.freeOn
  have howed : b.owed = a.owed := by simp only [Dev.owed, Dev.quota, Dev.guestsOf, w.mem, w.grottos, w.flow]
  rw [Dev.surplus, Dev.surplus, Dev.freeAll, Dev.freeAll, hfree, howed]

theorem Dev.SameService.still (h : a.Still) : b.Still := by
  have hsurplus : (b.flow.watermark : Int) * b.dataFrames ≤ b.surplus * 200 := by
    have hless : (a.flow.watermark : Int) * b.dataFrames ≤ a.flow.watermark * a.dataFrames :=
      Int.mul_le_mul_of_nonneg_left (Int.ofNat_le.mpr w.dataFrames) (Int.natCast_nonneg _)
    rw [w.flow, w.surplus]
    exact Int.le_trans hless h.surplus
  constructor
  case hold => rw [w.overHold, h.hold]
  case lost => simpa only [w.slices, w.entry] using h.lost
  case surplus => exact hsurplus
  case armed => rw [w.armed, h.armed]
  case owed => exact w.owed h.owed
  case resume => rw [w.slices, h.resume]
  case snoops => simpa only [w.slices] using h.snoops
  case dying => rw [w.pages, h.dying]
  case misses => rw [w.pages, h.misses]
  case frames => rw [w.pages, h.frames]
  case rebuilds => rw [w.rope, h.rebuilds]
  case discards => simpa only [w.grottos] using h.discards
  case asking => rw [w.flow, h.asking]
  case writes => rw [w.pages, h.writes]
  case unsent => rw [w.unsent, h.unsent]

end Same

theorem Dev.SameService.refl (d : Dev) : d.SameService d := by
  constructor
  case chan => exact fun c => .refl _
  case served => exact Nat.le_refl _
  case owed => exact fun h => h
  all_goals rfl

theorem Dev.SameService.trans {a b c : Dev} (h : a.SameService b) (k : b.SameService c) : a.SameService c := by
  constructor
  case chan =>
    exact fun n => ⟨(k.chan n).state.trans (h.chan n).state, (k.chan n).ranks.trans (h.chan n).ranks, (k.chan n).out.trans (h.chan n).out,
      (k.chan n).slot.trans (h.chan n).slot⟩
  case served => exact Nat.le_trans h.served k.served
  case owed => exact fun he => k.owed (h.owed he)
  case slices => exact k.slices.trans h.slices
  case pages => exact k.pages.trans h.pages
  case grottos => exact k.grottos.trans h.grottos
  case mem => exact k.mem.trans h.mem
  case flow => exact k.flow.trans h.flow
  case queues => exact k.queues.trans h.queues
  case rope => exact k.rope.trans h.rope
  case unsent => exact k.unsent.trans h.unsent
  case bw => exact k.bw.trans h.bw
  case armed => exact k.armed.trans h.armed

/-! ### A channel in service that is written -/

theorem length_filter_le_mset {α : Type} (p : Nat × α → Bool) (m : AMap α) (n : Nat) (a b : α) (h : mget m n = some b) (hp : p (n, b) = true → p (n, a) = true) :
    (m.filter p).length ≤ ((mset m n a).filter p).length := by
  simp only [← List.countP_eq_length_filter]
  induction m with
  | nil => exact Nat.zero_le _
  | cons e t ih =>
    obtain ⟨k, v⟩ := e
    rw [mget_cons] at h
    unfold mset
    split
    · simp only [List.countP_cons]
      omega
    · split
      · next heq =>
        rw [if_pos heq] at h
        obtain rfl : v = b := Option.some.inj h
        subst heq
        simp only [List.countP_cons]
        by_cases hv : p (n, v) = true
        · simp [hv, hp hv]
        · simp [hv]
      · next hne =>
        rw [if_neg hne] at h
        have := ih h
        simp only [List.countP_cons]
        omega

section Written
variable {d : Dev} {c : Nat} {y : Chan}

theorem Dev.chan_setChan_other (hy : y.state = 3) {n : Nat} (hn : n ≠ c) : (d.setChan c y).chan n = d.chan n := by
  rw [Dev.setChan_up hy]
  exact congrArg (fun o => Option.getD o {}) (mget_mset_ne d.chans c n y hn)

theorem Dev.setChan_sameService (hup : (d.chan c).state = 3) (hy : (d.chan c).Alike y) (howed : y.owed = (d.chan c).owed ∨ y.owed = []) :
    d.SameService (d.setChan c y) := by
  have hstate : y.state = 3 := hy.state.trans hup
  have hset : (d.setChan c y).chans = mset d.chans c y := by rw [Dev.setChan_up hstate]
  obtain ⟨x, hx⟩ : ∃ x, mget d.chans c = some x := by
    cases hx : mget d.chans c with
    | none => exact absurd hup (by simp [Dev.chan, mgetD, hx])
    | some x => exact ⟨x, rfl⟩
  have hxc : d.chan c = x := by simp [Dev.chan, mgetD, hx]
  constructor
  case chan =>
    intro n
    by_cases hn : n = c
    · rw [hn, Dev.chan_setChan_up hstate]
      exact hy
    · rw [Dev.chan_setChan_other hstate hn]
      exact .refl _
  case served =>
    unfold Dev.served
    rw [hset]
    exact length_filter_le_mset _ _ _ _ _ hx (fun _ => by simp [hstate])
  case owed =>
    intro h e he
    rw [hset] at he
    obtain rfl | he := mset_mem _ _ _ _ he
    · exact howed.elim (fun hsame => hsame.trans (hxc ▸ h (c, x) (mem_of_mget _ _ _ hx))) id
    · exact h e he
  all_goals rfl

end Written

/-- A change of accounts and counters. -/
theorem Dev.SameService.accounts {a b : Dev} (k : a.Keeps b) (hchans : b.chans = a.chans) (hbw : b.qos.bw = a.qos.bw) (harmed : b.faults.armed = a.faults.armed) :
    a.SameService b := by
  have hchan (c : Nat) : b.chan c = a.chan c := by rw [Dev.chan, Dev.chan, hchans]
  constructor
  case chan =>
    intro c
    rw [hchan]
    exact .refl _
  case served => exact Nat.le_of_eq (by rw [Dev.served, Dev.served, hchans])
  case owed =>
    rw [hchans]
    exact fun h => h
  case slices => exact k.slices
  case pages => exact k.pages
  case grottos => exact k.grottos
  case mem => exact k.mem
  case flow => exact k.flow
  case queues => exact k.queues
  case rope => rw [k.ev]
  case unsent => exact k.unsent
  case bw => exact hbw
  case armed => exact harmed

theorem Dev.charge_sameService (d : Dev) (c cls n : Nat) : d.SameService (d.charge c cls n) := by
  refine .accounts (d.charge_keeps c cls n) ?_ ?_ ?_
  all_goals
    unfold Dev.charge
    dsimp only
    repeat' split
  all_goals rfl

theorem Dev.bump_sameService (d : Dev) (n k : Nat) : d.SameService (d.bump n k) := .accounts (d.bump_keeps n k) rfl rfl rfl
theorem Dev.onCnt_sameService (d : Dev) (f : Counters → Counters) : d.SameService (d.onCnt f) := .accounts (d.onCnt_keeps f) rfl rfl rfl

/-! ### A fault or EVENT, which may end DOZE -/

/-- A channel at the end of DOZE (R524). -/
def Chan.roused (x : Chan) : Chan := if x.sub = 1 then { x with sub := 0 } else x

theorem Chan.roused_alike (x : Chan) : x.Alike x.roused := by
  unfold Chan.roused
  split <;> exact ⟨rfl, rfl, rfl, rfl⟩

theorem Chan.roused_owed (x : Chan) : x.roused.owed = x.owed := by
  unfold Chan.roused
  split <;> rfl

theorem mgetD_mapped {α : Type} (f : α → α) (d : α) (hf : f d = d) (m : AMap α) (n : Nat) :
    mgetD (m.map fun e => (e.1, f e.2)) n d = f (mgetD m n d) := by
  induction m with
  | nil => exact hf.symm
  | cons e t ih =>
    unfold mgetD at ih ⊢
    rw [List.map_cons, mget_cons, mget_cons]
    split
    · rfl
    · exact ih

theorem Dev.endDoze_chans (d : Dev) : d.endDoze.chans = d.chans.map fun e => (e.1, e.2.roused) := by
  have hlinks : (d.links.foldl (fun (d : Dev) e =>
      if e.2.narrow then (d.setLink e.1 { e.2 with narrow := false }).bump (128 + 16 * e.1 + 9) else d) d).chans = d.chans :=
    foldl_view Dev.chans _ (fun d e => by split <;> rfl) d.links d
  exact congrArg (List.map fun e => (e.1, e.2.roused)) hlinks

theorem Dev.endDoze_qos (d : Dev) : d.endDoze.qos = d.qos :=
  foldl_view Dev.qos _ (fun d e => by split <;> rfl) d.links d

/-- The channels stand, or DOZE has ended. -/
def Dev.Roused (a b : Dev) : Prop := b.qos = a.qos ∧ (b.chans = a.chans ∨ b.chans = a.chans.map fun e => (e.1, e.2.roused))

theorem Dev.wake_roused (d : Dev) (src detail : Nat) : d.Roused (d.wake src detail) := by
  unfold Dev.wake
  dsimp only
  split
  · exact ⟨rfl, .inl rfl⟩
  split
  · exact ⟨d.endDoze_qos, .inr d.endDoze_chans⟩
  · split <;> exact ⟨rfl, .inl rfl⟩
  · exact ⟨rfl, .inl rfl⟩

theorem Dev.Roused.paced {a b c : Dev} (h : a.Roused b) (k : c.pace = b.pace) : a.Roused c := by
  simp only [Dev.pace, Prod.mk.injEq] at k
  obtain ⟨hqos, hchans, -⟩ := k
  rw [Dev.Roused, hqos, hchans]
  exact h

theorem Dev.raise_roused (d : Dev) (h : Hap) : d.Roused (d.raise h) := by
  have hrouse (e : Dev) (he : e.pace = d.pace) : d.Roused (if 2 ≤ h.cls then e.wake 7 h.cls else e) := by
    simp only [Dev.pace, Prod.mk.injEq] at he
    obtain ⟨hqos, hchans, -⟩ := he
    split
    · obtain ⟨hq, hc⟩ := e.wake_roused 7 h.cls
      exact ⟨hq.trans hqos, hc.imp (·.trans hchans) (·.trans (congrArg _ hchans))⟩
    · exact ⟨hqos, .inl hchans⟩
  unfold Dev.raise
  dsimp only
  split
  · exact hrouse _ (Dev.enter_pace _ _ _)
  · refine Dev.Roused.paced ?_ (Dev.logCopy_pace _ _)
    exact hrouse _ (Dev.enter_pace _ _ _)

theorem Dev.Roused.sameService {a b : Dev} (h : a.Roused b) (k : a.Keeps b) (harmed : b.faults.armed = a.faults.armed) : a.SameService b := by
  obtain ⟨hqos, hchans | hchans⟩ := h
  · exact .accounts k hchans (by rw [hqos]) harmed
  have hchan (c : Nat) : b.chan c = (a.chan c).roused := by
    rw [Dev.chan, hchans]
    exact mgetD_mapped Chan.roused {} rfl a.chans c
  constructor
  case chan => exact fun c => hchan c ▸ Chan.roused_alike _
  case served =>
    have hsame : (fun e : Nat × Chan => e.2.roused.state == 3) = fun e => e.2.state == 3 :=
      funext fun e => congrArg (· == 3) (Chan.roused_alike e.2).state
    unfold Dev.served
    rw [hchans, List.filter_map, List.length_map]
    exact Nat.le_of_eq (congrArg (fun p => (a.chans.filter p).length) hsame.symm)
  case owed =>
    intro he e hmem
    rw [hchans] at hmem
    obtain ⟨x, hx, rfl⟩ := List.mem_map.mp hmem
    exact (Chan.roused_owed x.2).trans (he x hx)
  case slices => exact k.slices
  case pages => exact k.pages
  case grottos => exact k.grottos
  case mem => exact k.mem
  case flow => exact k.flow
  case queues => exact k.queues
  case rope => rw [k.ev]
  case unsent => exact k.unsent
  case bw => rw [hqos]
  case armed => exact harmed

/-- A fault or EVENT leaves a still device still, in every mode. -/
theorem Dev.raise_sameService (d : Dev) (h : Hap) : d.SameService (d.raise h) :=
  (d.raise_roused h).sameService (d.raise_keeps h) (d.raise_armed h)

end Sys2Proof.Machine
end

section
/-!
PROOFS. An Evoil port retrains, goes down and comes up (R421, R422, R439 to R442).
-/
namespace Sys2Proof.Machine

/-! ### What a fault tells and counts -/

section Told
variable (d : Dev)

theorem Dev.endDoze_out : d.endDoze.out = d.out :=
  foldl_view Dev.out _ (fun d e => by split <;> rfl) d.links d

theorem Dev.wake_out (src detail : Nat) : (d.wake src detail).out = d.out := by
  unfold Dev.wake
  dsimp only
  split
  · rfl
  split
  · exact d.endDoze_out
  · split <;> rfl
  · rfl

theorem Dev.enter_out (r : FaultRec) (always : Bool) : (d.enter r always).out = d.out := by
  unfold Dev.enter
  dsimp only
  split
  · split <;> rfl
  · rfl

theorem Dev.interrupt_tells (l ld k : Nat) : d.out <+: (d.interrupt l ld k).out := by
  unfold Dev.interrupt
  dsimp only
  split
  · exact List.prefix_append _ _
  · exact List.prefix_refl _

theorem Dev.logAdd_tells (l ld log : Nat) (r : LogRec) : d.out <+: (d.logAdd l ld log r).out := by
  unfold Dev.logAdd
  dsimp only
  split
  · exact List.prefix_refl _
  · split
    · exact Dev.interrupt_tells (d.setLd l ld _) l ld 0
    · exact List.prefix_refl _

theorem Dev.logCopy_tells (r : FaultRec) : d.out <+: (d.logCopy r).out := by
  unfold Dev.logCopy
  split
  · exact List.foldlRecOn (motive := fun e => d.out <+: Dev.out e) _ _ (List.prefix_refl _) fun e he t _ => he.trans (e.logAdd_tells _ _ _ _)
  · exact List.prefix_refl _

/-- A fault adds to what has been told: the interrupts of the logs that it enters. -/
theorem Dev.raise_tells (h : Hap) : d.out <+: (d.raise h).out := by
  have hwoken (e : Dev) (he : e.out = d.out) : d.out <+: (if 2 ≤ h.cls then e.wake 7 h.cls else e).out := by
    split
    · simp only [e.wake_out, he, List.prefix_refl]
    · simp only [he, List.prefix_refl]
  unfold Dev.raise
  dsimp only
  split
  · exact hwoken _ (Dev.enter_out _ _ _)
  · refine List.IsPrefix.trans ?_ (Dev.logCopy_tells _ _)
    exact hwoken _ (Dev.enter_out _ _ _)

theorem Dev.enter_total (r : FaultRec) : (d.enter r true).faults.total = d.faults.total + 1 := by
  unfold Dev.enter
  dsimp only
  rw [Bool.true_or, if_pos rfl]
  split <;> rfl

/-- A fault of class 2 or above is recorded. -/
theorem Dev.raise_total (h : Hap) (hcls : 2 ≤ h.cls) : (d.raise h).faults.total = d.faults.total + 1 := by
  have halways : (decide (2 ≤ h.cls) || h.code == 2) = true := by simp [hcls]
  unfold Dev.raise
  dsimp only
  rw [halways, if_pos hcls]
  split
  · show ((Dev.enter _ _ true).wake _ _).faults.total = _
    rw [Dev.wake_faults]
    exact Dev.enter_total _ _
  · rw [Dev.logCopy_faults, Dev.wake_faults]
    exact Dev.enter_total _ _

end Told

/-! ### A port that goes down -/

section Down
variable (d : Dev) (p : Nat)

theorem Dev.setEv_sameService (x : EvPort) : d.SameService (d.setEv p x) := by
  unfold Dev.setEv
  split
  all_goals
    constructor
    case chan => exact fun c => .refl _
    case served => exact Nat.le_refl _
    case owed => exact fun h => h
    all_goals rfl

theorem Dev.setEv_setEv (x y : EvPort) : (d.setEv p x).setEv p y = d.setEv p y := by
  unfold Dev.setEv
  split <;> rfl

theorem Dev.setEv_faults (x : EvPort) : (d.setEv p x).faults = d.faults := by
  unfold Dev.setEv
  split <;> rfl

theorem Dev.neighbourLost_none (hmoves : d.pages.moves = []) (hfars : d.pages.fars = []) (hremote : d.remotePages p = []) : d.neighbourLost p = d := by
  have hover : d.movesOver p = [] := by
    unfold Dev.movesOver
    rw [hmoves]
    rfl
  have hpages : d.onPages (fun k => { k with fars := k.fars.filter fun f => !(f.port == p && !f.rope) }) = d := by
    show { d with pages := { d.pages with fars := d.pages.fars.filter _ } } = d
    rw [hfars]
    exact congrArg (fun l => { d with pages := { d.pages with fars := l } }) hfars.symm
  unfold Dev.neighbourLost
  dsimp only
  rw [hover]
  dsimp only [List.foldl_nil]
  rw [hremote, hfars, hpages]
  simp [List.filter_eq_nil_iff.mpr]

theorem Dev.portDown_quiet {bits : BitVec 8} {degraded : Bool} {e : Dev} (hstate : (d.evPort p).state = 2 ∨ (d.evPort p).state = 3) (hstill : d.Still)
    (hrope : d.ev.rope.state = 0) (hmoves : d.pages.moves = []) (hfars : d.pages.fars = []) (hremote : d.remotePages p = [])
    (he : (if degraded then (d.setEv p { (d.evPort p).ended with fault := (d.evPort p).fault ||| bits ||| 0x80#8 }).evDegraded p
      else d.setEv p { (d.evPort p).ended with fault := (d.evPort p).fault ||| bits ||| 0x80#8 }) = e) :
    d.portDown p bits degraded = e := by
  have hopen : ¬ ((d.evPort p).state ≠ 2 ∧ (d.evPort p).state ≠ 3) := fun h => hstate.elim h.1 h.2
  have hsame : d.SameService e ∧ e.ev.rope.state = 0 ∧ e.pages = d.pages ∧ e.grottos = d.grottos := by
    have hev (x : EvPort) : (d.setEv p x).ev.rope = d.ev.rope ∧ (d.setEv p x).pages = d.pages ∧ (d.setEv p x).grottos = d.grottos := by
      unfold Dev.setEv
      split <;> exact ⟨rfl, rfl, rfl⟩
    obtain ⟨hr, hp, hg⟩ := hev { (d.evPort p).ended with fault := (d.evPort p).fault ||| bits ||| 0x80#8 }
    subst he
    split
    · have k := (d.setEv p { (d.evPort p).ended with fault := (d.evPort p).fault ||| bits ||| 0x80#8 }).raise_keeps { code := 0x5003, cls := 2, unit := unitEv p }
      exact ⟨(d.setEv_sameService p _).trans (Dev.raise_sameService _ _), (congrArg (fun e => e.rope.state) k.ev).trans ((congrArg Rope.state hr).trans hrope),
        k.pages.trans hp, k.grottos.trans hg⟩
    · exact ⟨d.setEv_sameService p _, (congrArg Rope.state hr).trans hrope, hp, hg⟩
  obtain ⟨hservice, hnorope, hpages, hgrottos⟩ := hsame
  have hnone : e.remotePages p = [] := by
    simpa only [Dev.remotePages, Dev.grottoAt, Dev.grotto, hpages, hgrottos] using hremote
  unfold Dev.portDown
  dsimp only
  rw [if_neg hopen, he, if_neg (by rw [hnorope]; decide), Dev.neighbourLost_none e p (hpages ▸ hmoves) (hpages ▸ hfars) hnone]
  exact e.after_still (hservice.still hstill)

end Down

/-! ### A retrain that completes, and a port that comes up -/

section Up
variable {d : Dev} {p : Nat}

theorem Dev.setEv_evPort_eq {x : EvPort} (h : d.evPort p = x) : d.setEv p x = d := h ▸ d.setEv_evPort p

theorem Dev.replay_none (hnone : (d.evPort p).echo = []) : d.replay p 0 = d := by
  unfold Dev.replay
  dsimp only
  rw [hnone]
  rfl

/-- The flits that a port sends again, from U on. -/
def EvPort.again (x : EvPort) (p : Nat) : List Out :=
  x.echo.zipIdx.map fun e => { msg := .flit p 1 (x.unacked + BitVec.ofNat 12 e.2).toNat x.ack x.freed.toNat false e.1.1 }

theorem Dev.replay_leaves (x : EvPort) (hx : d.evPort p = x) : (d.replay p 0).stored = d.stored ∧
    (d.replay p 0).evPort p = (if x.echo = [] then x else { x with fault := x.fault ||| 0x02#8 }) ∧ (d.replay p 0).out = d.out ++ x.again p := by
  by_cases hnone : x.echo = []
  · rw [Dev.replay_none (by rw [hx, hnone]), if_pos hnone, EvPort.again, hnone]
    exact ⟨rfl, hx, (List.append_nil _).symm⟩
  · obtain ⟨hport, hstored, hout⟩ := (d.evFault p 0x02#8).resent_leaves (p := p) x 0 x.echo.zipIdx
    rw [Dev.replay_some x hx hnone, if_neg hnone]
    refine ⟨hstored.trans (Dev.evFault_stored _), hport.trans (by rw [Dev.evFault_evPort, hx]), hout.trans ?_⟩
    rw [Dev.evFault_out, Dev.evFault_evPort, hx, EvPort.again]
    simp [EvPort.ack]

theorem Dev.evPump_none (h : (d.evPort p).txq = []) (n : Nat) : d.evPump p n = d := by
  cases n with
  | zero => rfl
  | succ n =>
    unfold Dev.evPump
    dsimp only
    rw [h]
    exact if_neg (by simp [spillSplit, EvPort.maySend])

theorem Dev.evPump_tells (n : Nat) : d.out <+: (d.evPump p n).out := by
  induction n generalizing d with
  | zero => exact List.prefix_refl _
  | succ n ih =>
    unfold Dev.evPump
    dsimp only
    split
    · refine List.IsPrefix.trans ?_ ih
      simp [Dev.spillSpend, Dev.onFlow]
    · exact List.prefix_refl _

theorem Dev.evPump_state (n : Nat) : ((d.evPump p n).evPort p).state = (d.evPort p).state := by
  induction n generalizing d with
  | zero => rfl
  | succ n ih =>
    unfold Dev.evPump
    dsimp only
    split
    · rw [ih]
      simp
    · rfl

end Up

section Retrain
variable {d : Dev} {p : Nat}

/-- Flits that have not failed are sent again like the others. -/
theorem EvPort.again_fresh {x y : EvPort} (hecho : y.echo = x.echo.map fun e => (e.1, 0)) (hunacked : y.unacked = x.unacked) (hexpect : y.expect = x.expect)
    (hfreed : y.freed = x.freed) : y.again p = x.again p := by
  unfold EvPort.again EvPort.ack
  rw [hecho, hunacked, hexpect, hfreed, List.zipIdx_map, List.map_map]
  rfl

theorem Dev.startRetrain_again {x : EvPort} (hx : d.evPort p = x) (hleft : x.retrains < 2) (cause : Option (BitVec 12)) :
    d.startRetrain p cause =
      (d.setEv p { x with state := 3, retrains := x.retrains + 1, retrainCause := cause, fault := x.fault ||| 0x20#8 }).bump (evCnt p 7) := by
  subst hx
  exact if_neg (Nat.not_le.mpr hleft)

/-- A port with nothing but a hello to send sends it. -/
theorem Dev.evPump_hello {y : EvPort} (slots : Nat) (member : BitVec 16) (pool rope : Option (BitVec 12)) (epoch session : BitVec 32)
    (hy : d.evPort p = y) (hstate : y.state = 2) (htx : y.txq = [.hello slots member pool rope epoch session]) (hecho : y.echo = []) (hgot : y.helloGot = false)
    (hcredit : y.nextSeq = y.limit) :
    d.evPump p 1 = (((((d.setEv p { y with txq := [], echo := [([.hello slots member pool rope epoch session], 0)], nextSeq := y.nextSeq + 1 }).spillSpend p 0).emit
      (.flit p 1 y.nextSeq.toNat y.ack y.freed.toNat false [.hello slots member pool rope epoch session])).bump (evCnt p 0)).evCountOut p) := by
  subst hy
  have hsplit : spillSplit (d.spillLeft p) (d.evPort p).txq = ([.hello slots member pool rope epoch session], []) := by
    rw [htx]
    simp [spillSplit, spillBytes]
  have hmay : ({ d.evPort p with txq := [.hello slots member pool rope epoch session] } : EvPort).maySend = true := by
    simp [EvPort.maySend, hstate, hecho, hcredit]
  unfold Dev.evPump
  simp only [hsplit]
  rw [if_pos hmay]
  simp only [hgot, hecho, fillFlit, msgSlots]
  rfl

/-- A port that comes up sends its hello at once. -/
theorem Dev.evUp_sends (x4 : Bool) (hp : p < 2) (hlive : d.evLive = true) (hstate : (d.evPort p).state = 1) :
    let y : EvPort := { (d.evPort p).ended with
      state := 2, narrow := x4, nextSeq := 1, expect := 0, unacked := 0, freed := 0, limit := 0, helloSent := true, echo := [([d.helloMsg p], 0)] }
    ∃ e : Dev, e.evPort p = y ∧ e.out = d.out ++ [{ msg := .flit p 1 0 4095 0 false [d.helloMsg p] }] ∧ e.mem = d.mem ∧ e.faults = d.faults ∧
      d.evUp p x4 = if x4 then e.evDegraded p else e := by
  intro y
  have hopen : ¬ (2 ≤ p ∨ (d.evPort p).state ≠ 1 ∨ (!d.evLive) = true) := by simp [hp, hlive, hstate]
  have hpump := Dev.evPump_hello (d := d.setEv p { (d.evPort p).ended with
    state := 2, narrow := x4, nextSeq := 0, expect := 0, unacked := 0, freed := 0, limit := 0, helloSent := true, txq := [d.helloMsg p] })
    8 _ _ _ _ _ (d.evPort_setEv p _) rfl rfl rfl rfl rfl
  refine ⟨_, ?_, ?_, ?_, ?_, (if_neg hopen).trans (congrArg (fun e : Dev => if x4 then e.evDegraded p else e) hpump)⟩
  · simp only [Dev.evCountOut_evPort, Dev.bump_evPort, Dev.emit_evPort, Dev.spillSpend_evPort, Dev.evPort_setEv]
    rfl
  · simp only [Dev.evCountOut_out, Dev.bump, Dev.emit, Dev.spillSpend, Dev.onFlow, Dev.setEv_out]
    rfl
  · exact congrArg Prod.fst ((Dev.setEv_stored _ p _).trans (Dev.setEv_stored _ p _))
  · exact (Dev.setEv_faults _ p _).trans (Dev.setEv_faults _ p _)

theorem Dev.retrained_leaves {x y : EvPort} (hecho : y.echo = x.echo.map fun e => (e.1, 0)) (hunacked : y.unacked = x.unacked) (hexpect : y.expect = x.expect)
    (hfreed : y.freed = x.freed) : ((d.setEv p y).replay p 0).stored = d.stored ∧
    ((d.setEv p y).replay p 0).evPort p = (if y.echo = [] then y else { y with fault := y.fault ||| 0x02#8 }) ∧
    ((d.setEv p y).replay p 0).out = d.out ++ x.again p := by
  obtain ⟨hstored, hport, hout⟩ := (d.setEv p y).replay_leaves y (d.evPort_setEv p y)
  exact ⟨hstored.trans (d.setEv_stored p y), hport, hout.trans (by rw [Dev.setEv_out, EvPort.again_fresh hecho hunacked hexpect hfreed])⟩

end Retrain

/-- Settles O48: each change of a port's state by the branch of its command. -/
theorem evoilPorts : Obligations.EvoilPorts := by
  intro s p hp hlive d x quiet hello
  refine ⟨fun hstate hleft => ?liveness, fun hstate hleft => ?timeout, fun hstate hmore hquiet => ?down, fun hstate hcause htx hecho => ?completes, fun hstate => ?replays,
    fun hstate hquiet => ?idle, fun hstate => ?attempt, fun hstate x4 => ?up⟩
  case liveness =>
    refine exec_dev rfl ((if_pos (Dev.evActive_of hp hlive hstate)).trans ((Dev.startRetrain_again (Dev.evFault_evPort d p 0x08#8) hleft _).trans ?_))
    exact congrArg (fun e : Dev => e.bump (evCnt p 7)) (Dev.setEv_setEv _ _ _ _)
  case timeout => exact exec_dev rfl ((if_pos ⟨hp, hlive, hstate⟩).trans (Dev.startRetrain_again rfl hleft _))
  case down =>
    obtain ⟨hstill, hrope, hmoves, hfars, hremote⟩ := hquiet
    exact exec_dev rfl ((if_pos ⟨hp, hlive, hstate⟩).trans ((if_pos hmore).trans (Dev.portDown_quiet d p (.inr hstate) hstill hrope hmoves hfars hremote rfl)))
  case completes =>
    refine exec_dev rfl ((if_pos ⟨hp, hlive, hstate⟩).trans ((if_pos (by rw [hcause]; rfl)).trans ?_))
    have hfresh : x.echo.map (fun e => (e.1, 0)) = x.echo := by rw [hecho]; rfl
    have hset : d.setEv p { x with state := 2, retrains := 0, echo := x.echo.map fun e => (e.1, 0) } = d.setEv p { x with state := 2, retrains := 0 } :=
      congrArg (fun l => d.setEv p { x with state := 2, retrains := 0, echo := l }) hfresh
    refine (congrArg (fun e : Dev => ((e.replay p 0).raise { code := 0x5002, cls := 1, unit := unitEv p, att := 2 }).evPump p evFuel) hset).trans ?_
    rw [Dev.replay_none (by rw [Dev.evPort_setEv]; exact hecho)]
    exact Dev.evPump_none (by rw [Dev.raise_evPort, Dev.evPort_setEv]; exact htx) evFuel
  case replays =>
    intro again
    have hopen : p < 2 ∧ d.evLive ∧ x.state = 3 := ⟨hp, hlive, hstate⟩
    by_cases hcause : x.retrainCause.isNone = true
    · obtain ⟨hstored, hport, hout⟩ := d.retrained_leaves (p := p) (x := x) (y := { x with state := 2, retrains := 0, echo := x.echo.map fun e => (e.1, 0) })
        rfl rfl rfl rfl
      refine ⟨_, exec_dev rfl ((if_pos hopen).trans (if_pos hcause)), ?_, ?_, ?_,
        fun h => absurd h (by rw [Option.isNone_iff_eq_none.mp hcause]; decide)⟩
      · rw [Dev.evPump_state, Dev.raise_evPort, hport]
        split <;> rfl
      · exact hout ▸ (Dev.raise_tells _ _).trans (Dev.evPump_tells _)
      · exact congrArg Prod.fst ((Dev.evPump_stored _ p _).trans ((Dev.raise_stored _ _).trans hstored))
    · obtain ⟨hstored, hport, hout⟩ := d.retrained_leaves (p := p) (x := x) (y := { x with state := 2, echo := x.echo.map fun e => (e.1, 0) }) rfl rfl rfl rfl
      refine ⟨_, exec_dev rfl ((if_pos hopen).trans (if_neg hcause)), ?_, ?_, ?_, fun _ htx => ?_⟩
      · rw [Dev.evPump_state, hport]
        split <;> rfl
      · exact hout ▸ Dev.evPump_tells _
      · exact congrArg Prod.fst ((Dev.evPump_stored _ p _).trans hstored)
      · rw [Dev.evPump_none (by rw [hport]; split <;> exact htx), hport, hout]
        refine ⟨rfl, ?_⟩
        simp only [List.map_eq_nil_iff]
        split <;> rfl
  case idle =>
    obtain ⟨hstill, hrope, hmoves, hfars, hremote⟩ := hquiet
    refine exec_dev rfl ((if_pos (Dev.evActive_of hp hlive hstate)).trans ((Dev.portDown_quiet d p (.inl hstate) hstill hrope hmoves hfars hremote rfl).trans ?_))
    exact congrArg (fun bits => d.setEv p { x.ended with fault := bits ||| 0x80#8 }) (BitVec.or_zero)
  case attempt => exact exec_dev rfl (if_pos ⟨hp, hlive, hstate⟩)
  case up =>
    obtain ⟨e, hport, hout, hmem, hfaults, hup⟩ := Dev.evUp_sends x4 hp hlive hstate
    refine ⟨if x4 then e.evDegraded p else e, exec_dev rfl hup, ?_⟩
    have hhello : ({ msg := .flit p 1 0 4095 0 false [hello] } : Out) ∈ e.out := hout ▸ List.mem_append_right _ List.mem_cons_self
    have htold : e.out <+: (e.evDegraded p).out := e.raise_tells _
    have htotal : (e.evDegraded p).faults.total = e.faults.total + 1 := e.raise_total _ (Nat.le_refl 2)
    have hkept : e.Keeps (e.evDegraded p) := e.raise_keeps _
    cases x4 with
    | false =>
      simp only [Bool.false_eq_true, if_false]
      exact ⟨hport, hhello, by rw [hfaults]; exact (BitVec.add_zero _).symm, hmem⟩
    | true =>
      simp only [if_true]
      exact ⟨(e.raise_evPort p _).trans hport, htold.subset hhello, by rw [htotal, hfaults], hkept.mem.trans hmem⟩

end Sys2Proof.Machine
end

section
/-!
PROOFS. The end of reconciliation (R90): a pool that is larger than its channel.
-/
namespace Sys2Proof.Machine

/-- A device that is being reconciled: its pool has 1,000 frames pending, its channel 100 frames; grotto 1 holds more frames than its reserve. -/
def overfullPool : State := { dev := {
  power := { mode := .run }, qos := { bw := 3600 }, chans := [(0, { state := 3, frames := 100, ranks := 1 })]
  grottos := [(1, { state := 1, held := 70000, accepted := [(0, 1)] })], flow := { watermark := 100 }
  mem := { recon := true, phys := 1000, pools := [(0, { pending := [(0, 1000)] })] } } }

theorem overfullPool_still : overfullPool.dev.Still := by constructor <;> decide +kernel

/-- The frames that the sweep finds are below the watermark, so a release is asked of grotto 1 (R106). -/
theorem overfullPool_asks : (overfullPool.dev.reconciled).grottos ≠ overfullPool.dev.grottos := by decide +kernel

/-- Refutes O54: the end of reconciliation changes the grotto of which a release is asked. -/
theorem not_bootAndOff : ¬ Obligations.BootAndOff := by
  intro h
  obtain ⟨-, -, -, -, -, -, -, -, -, hdone⟩ := h overfullPool
  obtain ⟨t, hexec, -, -, -, -, hgrottos, -⟩ :=
    hdone (by decide) rfl rfl (by decide) (by decide) (by decide) overfullPool_still
  have keeps : ∀ d, overfullPool.dev.reconciled = d → d.grottos ≠ overfullPool.dev.grottos → False := by
    intro d hd hasked
    have hdev : d = t :=
      congrArg State.dev (Host.Outcome.next.inj ((exec_dev rfl hd : exec .reconciliationComplete overfullPool = _).symm.trans hexec))
    exact hasked (hdev ▸ hgrottos)
  exact keeps _ rfl overfullPool_asks

end Sys2Proof.Machine
end

section
/-!
PROOFS. The records of the Cairn store that firmware writes, and the reset of the firmware cores (R490, R557, R563, R564, R567, R574, R576, R591, R592).
-/
namespace Sys2Proof.Machine

/-! ### The store has room -/

section Store
variable {t : Trust} {r : CairnRec} {type inst : Nat} {data : List Byte} {ok : Bool} {soft : Option (List Nat)}

/-- The store has room for what stands in it, with the blocks that it keeps erased (R564). -/
def Trust.fits (t : Trust) : Prop := ((recPlaces 0 0 t.cairn).getLast?.getD (0, 0)).1 + 3 ≤ storeBlocks

theorem Trust.indexed_cairn (addr : Nat) : (t.indexed r addr).cairn = t.cairn := by
  unfold Trust.indexed
  repeat' split
  all_goals rfl

theorem Trust.add_cairn : (t.add type inst data ok soft).cairn =
    t.cairn ++ [{ type := type, inst := inst, seq := t.cairnSeq, data := data, committed := ok, soft := soft }] := by
  cases ok with
  | false => rfl
  | true => exact Trust.indexed_cairn _

/-- What two trust blocks share that differ in their store and its index alone. -/
structure Trust.SameKeys (t u : Trust) : Prop where
  leaf : u.leaf = t.leaf
  leafEnd : u.leafEnd = t.leafEnd
  leafMark : u.leafMark = t.leafMark
  svn : u.svn = t.svn
  erased : u.erased = t.erased
  trial : u.trial = t.trial
  waiting : u.waiting = t.waiting

theorem Trust.indexed_keys (addr : Nat) : t.SameKeys (t.indexed r addr) := by
  unfold Trust.indexed
  repeat' split
  all_goals constructor <;> rfl

theorem Trust.add_keys : t.SameKeys (t.add type inst data ok soft) := by
  cases ok with
  | false => constructor <;> rfl
  | true =>
    obtain ⟨hleaf, hend, hmark, hsvn, herased, htrial, hwaiting⟩ := Trust.indexed_keys (t := { t with
      cairn := t.cairn ++ [{ type := type, inst := inst, seq := t.cairnSeq, data := data, committed := true, soft := soft }]
      cairnSeq := t.cairnSeq + 1 }) (r := { type := type, inst := inst, seq := t.cairnSeq, data := data, committed := true, soft := soft }) _
    exact ⟨hleaf, hend, hmark, hsvn, herased, htrial, hwaiting⟩

theorem Trust.add_waits (h : t.waiting = []) : (t.add type inst data ok soft).waiting = [] :=
  Trust.add_keys.waiting.trans h

theorem Trust.indexed_seq (addr : Nat) : (t.indexed r addr).cairnSeq = t.cairnSeq := by
  unfold Trust.indexed
  repeat' split
  all_goals rfl

theorem Trust.add_seq : (t.add type inst data ok soft).cairnSeq = if ok then t.cairnSeq + 1 else t.cairnSeq := by
  cases ok with
  | false => rfl
  | true => exact Trust.indexed_seq _

/-- A record that commits is in the index, where it has room. -/
theorem Trust.indexed_mem (addr : Nat) (htype : r.type ≠ 8) (hroom : t.index.length < 32) : ∃ a, (r.type, r.inst, a) ∈ (t.indexed r addr).index := by
  refine ⟨addr, ?_⟩
  unfold Trust.indexed
  rw [if_neg htype]
  split
  · next hany =>
    obtain ⟨e, he, hkey⟩ := List.any_eq_true.mp hany
    exact List.mem_map.mpr ⟨e, he, if_pos (by simpa using hkey)⟩
  · exact List.mem_append_right _ List.mem_cons_self

theorem Trust.indexed_log {addr : Nat} (htype : r.type = 8) : t.indexed r addr = t := if_pos htype

theorem Trust.add_indexed (htype : type ≠ 8) (hroom : t.index.length < 32) : ∃ a, (type, inst, a) ∈ (t.add type inst data true soft).index :=
  Trust.indexed_mem (r := { type := type, inst := inst, seq := t.cairnSeq, data := data, committed := true, soft := soft }) _ htype hroom

theorem Trust.add_unindexed (h : ok = false ∨ type = 8) : (t.add type inst data ok soft).index = t.index := by
  cases ok with
  | false => rfl
  | true =>
    show (Trust.indexed _ _ _).index = _
    rw [Trust.indexed_log (h.resolve_left (by decide))]

theorem Trust.append_fits (h : (t.add type inst data ok soft).fits) : t.append type inst data ok soft = t.add type inst data ok soft :=
  if_neg (Nat.not_lt.mpr h)

/-- The places that records take do not depend on the repairs that they name. -/
theorem recPlaces_soft (b used : Nat) (l : List CairnRec) (r : CairnRec) (soft : Option (List Nat)) :
    recPlaces b used (l ++ [{ r with soft := soft }]) = recPlaces b used (l ++ [r]) := by
  induction l generalizing b used with
  | nil => rfl
  | cons x l ih =>
    rw [List.cons_append, List.cons_append, recPlaces, recPlaces, ih, ih]

theorem Trust.add_fits_soft (h : (t.add type inst data ok none).fits) : (t.add type inst data ok soft).fits := by
  unfold Trust.fits at h ⊢
  rw [Trust.add_cairn] at h ⊢
  exact recPlaces_soft 0 0 t.cairn { type := type, inst := inst, seq := t.cairnSeq, data := data, committed := ok } soft ▸ h

theorem recPlaces_cons (b used : Nat) (x : CairnRec) :
    ∃ c u v, b ≤ c ∧ ∀ m, recPlaces b used (x :: m) = (c, u) :: recPlaces c v m := by
  by_cases hfit : used + x.size ≤ 65536
  · exact ⟨b, used, used + x.size, Nat.le_refl b, fun m => if_pos hfit⟩
  · exact ⟨b + 1, 0, x.size, Nat.le_succ b, fun m => if_neg hfit⟩

/-- The block of the last record, counted from that of the first; b where there is none. -/
def lastBlock (b used : Nat) (l : List CairnRec) : Nat := ((recPlaces b used l).getLast?.map Prod.fst).getD b

theorem lastBlock_cons (b used : Nat) (x : CairnRec) : ∃ c v, b ≤ c ∧ ∀ l, lastBlock b used (x :: l) = lastBlock c v l := by
  obtain ⟨c, u, v, hc, hplaces⟩ := recPlaces_cons b used x
  refine ⟨c, v, hc, fun l => ?_⟩
  unfold lastBlock
  rw [hplaces, List.getLast?_cons]
  cases (recPlaces c v l).getLast? <;> rfl

/-- A store with one more record ends in no earlier block. -/
theorem lastBlock_le (b used : Nat) (l : List CairnRec) (r : CairnRec) : b ≤ lastBlock b used l ∧ lastBlock b used l ≤ lastBlock b used (l ++ [r]) := by
  induction l generalizing b used with
  | nil =>
    obtain ⟨c, v, hc, hlast⟩ := lastBlock_cons b used r
    exact ⟨Nat.le_refl b, Nat.le_trans hc (Nat.le_of_eq (hlast []).symm)⟩
  | cons x l ih =>
    obtain ⟨c, v, hc, hlast⟩ := lastBlock_cons b used x
    obtain ⟨hlow, hmore⟩ := ih c v
    rw [List.cons_append, hlast, hlast]
    exact ⟨Nat.le_trans hc hlow, hmore⟩

theorem Trust.fits_iff : t.fits ↔ lastBlock 0 0 t.cairn + 3 ≤ storeBlocks := by
  unfold Trust.fits lastBlock
  cases (recPlaces 0 0 t.cairn).getLast? <;> exact Iff.rfl

/-- Where a record fits, what stands before it does. -/
theorem Trust.fits_of_add (h : (t.add type inst data ok soft).fits) : t.fits := by
  rw [Trust.fits_iff, Trust.add_cairn] at h
  exact Trust.fits_iff.mpr (Nat.le_trans (Nat.add_le_add_right (lastBlock_le 0 0 t.cairn _).2 3) h)

/-- The newest committed record of its type and number is the one that is read (R563). -/
theorem Trust.record_last {l : List CairnRec} (hlast : t.cairn = l ++ [r]) (htype : r.type = type) (hinst : r.inst = inst) (hread : (r.committed && !r.hidden) = true) :
    t.record type inst = some r := by
  unfold Trust.record
  rw [hlast, List.reverse_append]
  exact List.find?_cons_of_pos (by rw [hread, htype, hinst, beq_self_eq_true, beq_self_eq_true]; rfl)

/-- Compaction of an oldest block of one record appends it again where it is kept, and erases the block (R567). -/
theorem Trust.compact_first {rest : List CairnRec} (hstore : t.cairn = r :: rest) (hblock : ((recPlaces 0 0 t.cairn).takeWhile fun p => p.1 == 0).length = 1)
    (hmore : rest ≠ []) :
    t.compact = if t.keeps r = true then { t.add r.type r.inst r.data true r.soft with
        cairn := (t.add r.type r.inst r.data true r.soft).cairn.drop 1, erased := (t.add r.type r.inst r.data true r.soft).erased + 1 }
      else { t with cairn := t.cairn.drop 1, erased := t.erased + 1 } := by
  have hlen : ¬ 1 = t.cairn.length := by
    rw [hstore, List.length_cons]
    have := List.length_pos_iff.mpr hmore
    omega
  have hold : t.cairn.take 1 = [r] := by rw [hstore]; rfl
  unfold Trust.compact
  dsimp only
  rw [hblock, if_neg hlen, hold, List.filter_cons, List.filter_nil]
  split <;> rfl

end Store

/-! ### A record that firmware writes -/

section Record
variable {s : State} {type inst : Nat} {data : List Byte} {ok : Bool}

/-- With nothing owed and every fault record in the log, firmware writes nothing of its own (R490). -/
theorem State.payDue_idle (hdue : s.dev.due = []) (hlog : s.dev.faults.unspilled = []) : s.payDue = s := by
  have hnone : ({ s with dev := { s.dev with due := [] } } : State) = s := by rw [← hdue]
  unfold State.payDue
  dsimp only
  rw [hdue, List.foldl_nil, hnone, hlog]
  split <;> rfl

theorem State.serveWaiting_none (hnone : s.trust.waiting = []) : s.serveWaiting = s := by
  unfold State.serveWaiting
  rw [hnone]
  show ({ s with trust := { s.trust with waiting := [] } } : State) = s
  rw [← hnone]

/-- The widths of the ports as a record has them (R31). -/
def Dev.portWidths (d : Dev) (b : Byte) (l : List Nat) : Dev :=
  l.foldl (fun (d : Dev) p => { d with ports := mset d.ports p { d.port p with recorded := b.getLsbD p } }) d

theorem Dev.portWidths_port (d : Dev) (b : Byte) (l : List Nat) (p : Nat) :
    (d.portWidths b l).port p = if p ∈ l then { d.port p with recorded := b.getLsbD p } else d.port p := by
  induction l generalizing d with
  | nil => rfl
  | cons n l ih =>
    have hone : ({ d with ports := mset d.ports n { d.port n with recorded := b.getLsbD n } } : Dev).port p =
        if p = n then { d.port p with recorded := b.getLsbD p } else d.port p := by
      by_cases hp : p = n
      · rw [if_pos hp, hp]
        exact mgetD_mset_self _ _ _ _
      · rw [if_neg hp]
        exact congrArg (fun o => Option.getD o {}) (mget_mset_ne d.ports n p _ hp)
    refine (ih _).trans ?_
    rw [hone]
    by_cases hp : p = n
    · simp [hp]
    · simp [hp]

theorem Dev.portWidths_rest (d : Dev) (b : Byte) (l : List Nat) : (d.portWidths b l).due = d.due ∧ (d.portWidths b l).faults = d.faults := by
  induction l generalizing d with
  | nil => exact ⟨rfl, rfl⟩
  | cons n l ih => exact ih _

/-- What a record that took effect leaves of the device. -/
def Dev.kept (d : Dev) (type inst : Nat) (data : List Byte) : Dev :=
  if type = 1 then d.portWidths ((data.head?).getD 0) (List.range 4)
  else if type = 5 ∧ inst < 16 then d.setChan inst { d.chan inst with recordOk := true, spd := ((d.chan inst).slot0, (d.chan inst).slot1) }
  else d

theorem Dev.kept_other (d : Dev) (hone : type ≠ 1) (hfive : type ≠ 5) : d.kept type inst data = d :=
  (if_neg hone).trans (if_neg fun h => hfive h.1)

theorem State.recordKept_eq : s.recordKept type inst data = { s with dev := s.dev.kept type inst data } := by
  unfold State.recordKept Dev.kept
  split
  · rfl
  · by_cases hinst : inst < 16
    · simp [hinst]
    · simp [hinst]
  · next hone hfive => rw [if_neg hone, if_neg fun h => hfive h.1]

theorem Dev.kept_rest (d : Dev) : (d.kept type inst data).due = d.due ∧ (d.kept type inst data).faults = d.faults := by
  unfold Dev.kept
  split
  · exact d.portWidths_rest _ _
  · split <;> exact ⟨rfl, rfl⟩

/-- The same of a record whose read-back may fail. -/
def Dev.keptIf (d : Dev) (ok : Bool) (type inst : Nat) (data : List Byte) : Dev := if ok then d.kept type inst data else d

theorem Dev.keptIf_rest (d : Dev) (ok : Bool) : (d.keptIf ok type inst data).due = d.due ∧ (d.keptIf ok type inst data).faults = d.faults := by
  unfold Dev.keptIf
  split
  · exact d.kept_rest
  · exact ⟨rfl, rfl⟩

/-- A record that firmware writes takes its place in the store, and takes effect where its read-back agrees (R31, R567). -/
theorem State.putRecord_plain (htype : type ≠ 3) (hroom : (s.trust.add type inst data ok none).fits) :
    s.putRecord type inst data ok = { s with
      dev := (s.dev.emit (.flash ok type inst)).keptIf ok type inst data
      trust := { s.trust.add type inst data ok none with
        trial := (s.trust.add type inst data ok none).trial && !(ok && s.trust.confirms type data) } } := by
  unfold State.putRecord
  rw [if_neg htype]
  dsimp only
  rw [Trust.append_fits hroom, State.recordKept_eq]
  unfold Dev.keptIf
  split <;> rfl

theorem exec_record (hlive : s.dev.live = true) (hup : s.dev.fwUp = true) (hlen : data.length ≤ 65515) :
    exec (.cairnRecordWrite type inst data ok) s = .next (s.putRecord type inst data ok).payDue.serveWaiting :=
  (if_neg (by rw [hlive]; simpa using hlen)).trans (if_pos hup)

/-- A record of the pool ID changes nothing but the store (R443). -/
theorem State.putRecord_pool (hroom : (s.trust.add 7 0 [] true none).fits) :
    s.putRecord 7 0 [] true = { s with dev := s.dev.emit (.flash true 7 0), trust := s.trust.add 7 0 [] true none } := by
  have htrial : ((s.trust.add 7 0 [] true none).trial && !(true && s.trust.confirms 7 [])) = (s.trust.add 7 0 [] true none).trial := by
    simp [Trust.confirms]
  rw [State.putRecord_plain (by decide) hroom, htrial]
  rfl

/-- Firmware writes the repair map that it owes (R150). -/
theorem State.payDue_repair {c : Nat} (hup : s.dev.fwUp = true) (hlive : s.dev.live = true) (hdue : s.dev.due = [(4, c)]) (hlog : s.dev.faults.unspilled = [])
    (hroom : (s.trust.add 4 c (Config.repairRecord s.dev.freeCtr) true none).fits) :
    s.payDue = { s with
      dev := ({ s.dev with due := [], freeCtr := s.dev.freeCtr + 1 } : Dev).emit (.flash true 4 c)
      trust := s.trust.add 4 c (Config.repairRecord s.dev.freeCtr) true (some (s.dev.chan c).usedRepair) } := by
  unfold State.payDue
  rw [if_neg (by rw [hup, hlive]; decide)]
  dsimp only
  rw [hdue, List.foldl_cons, List.foldl_nil]
  simp only [if_pos]
  rw [Trust.append_fits (Trust.add_fits_soft hroom)]
  exact if_pos (congrArg List.isEmpty hlog)

/-- Firmware writes the fault records that the log does not have (R490). -/
theorem State.payDue_log (hup : s.dev.fwUp = true) (hlive : s.dev.live = true) (hdue : s.dev.due = []) (hlog : s.dev.faults.unspilled ≠ [])
    (hroom : (s.trust.add 8 0 (s.dev.faults.unspilled.flatMap FaultRec.bytes) true none).fits) :
    s.payDue = { s with
      dev := (s.dev.onFaults fun f => { f with spilled := f.total }).emit (.flash true 8 0)
      trust := s.trust.add 8 0 (s.dev.faults.unspilled.flatMap FaultRec.bytes) true none } := by
  have hnone : ({ s with dev := { s.dev with due := [] } } : State) = s := by rw [← hdue]
  unfold State.payDue
  rw [if_neg (by rw [hup, hlive]; decide)]
  dsimp only
  rw [hdue, List.foldl_nil, hnone, if_neg (by simpa using hlog), Trust.append_fits hroom]

/-- The trust block with the record of a leaf reservation, whose segment's fuse goes with it. -/
def Trust.withReserve (t : Trust) (data : List Byte) : Trust :=
  ({ t with leafMark := max t.leafMark (t.leafEnd / 2 ^ 26 + 1) } : Trust).add 3 0 data true none

/-- What firmware leaves once a leaf reservation has committed (R557). -/
def State.reserved (s : State) (data : List Byte) : State :=
  { s with
    dev := s.dev.emit (.flash true 3 0)
    trust := { s.trust.withReserve data with leafEnd := (s.trust.withReserve data).leafEnd + 256 } }

theorem State.reserve_kept (hnext : natOfBytes (data.take 4) = s.trust.leafEnd + 256) (hleaf : s.trust.leafEnd < 2 ^ 30)
    (hroom : (s.trust.add 3 0 data true none).fits) : s.reserve data true = s.reserved data := by
  have hseg : ¬ 16 ≤ s.trust.leafEnd / 2 ^ 26 := by omega
  have hfits : (s.trust.withReserve data).fits := by
    unfold Trust.withReserve
    unfold Trust.fits at hroom ⊢
    rw [Trust.add_cairn] at hroom ⊢
    exact hroom
  unfold State.reserve
  dsimp only
  rw [if_neg (not_not_intro hnext), if_neg hseg, Trust.append_fits hfits]
  rfl

end Record

theorem firmwareKeepsRecords : Claims.FirmwareKeepsRecords := by
  intro s hlive t room put told
  refine ⟨fun type inst data ok hdown hlen => ?waits, fun hup hnone => ⟨fun type inst data ok htype hlen hdue hlog hroom => ?plain,
    fun c hdue hlog hroom => ?repair, fun hdue hlog => ?log⟩, fun hup => ⟨fun inst data hlen hnext hleaf hnone hdue hlog hroom => ?reserve,
    fun r rest hstore hblock hmore hkeeps => ?again, fun r rest hstore hblock hmore hkeeps => ?dropped, ?restart, fun hlate => ?expires, fun hearly => ?stays,
    fun htrial hflag hsvn => ?svn⟩⟩
  case waits => exact (if_neg (by rw [hlive]; simpa using hlen)).trans (if_neg (by rw [hdown]; decide))
  case plain =>
    have hkeys : t.SameKeys (t.add type inst data ok none) := Trust.add_keys
    have hrest := (s.dev.emit (.flash ok type inst)).keptIf_rest (type := type) (inst := inst) (data := data) ok
    refine ⟨(s.dev.emit (.flash ok type inst)).keptIf ok type inst data,
      { t.add type inst data ok none with trial := (t.add type inst data ok none).trial && !(ok && t.confirms type data) }, ?_, Trust.add_cairn, Trust.add_seq,
      hkeys.leafEnd, hkeys.svn, hkeys.erased, ?_, fun h => Trust.add_unindexed h, congrArg (· && !(ok && t.confirms type data)) hkeys.trial, fun h => ?_, fun hone hok p hp => ?_, fun hfive hok hinst => ?_⟩
    · rw [exec_record hlive hup hlen, State.putRecord_plain htype hroom,
        State.payDue_idle (hrest.1.trans hdue) ((congrArg Faults.unspilled hrest.2).trans hlog), State.serveWaiting_none (hkeys.waiting.trans hnone)]
    · rintro rfl hlog hindex
      exact Trust.add_indexed hlog hindex
    · rcases h with rfl | ⟨hone, hfive⟩
      · rfl
      · unfold Dev.keptIf
        rw [Dev.kept_other _ hone hfive, ite_self]
        rfl
    · subst hok
      have hkept : (s.dev.emit (.flash true type inst)).kept type inst data = (s.dev.emit (.flash true type inst)).portWidths ((data.head?).getD 0) (List.range 4) :=
        if_pos hone
      show ((s.dev.emit (.flash true type inst)).kept type inst data).port p = _
      rw [hkept, Dev.portWidths_port, if_pos (List.mem_range.mpr hp)]
      rfl
    · subst hok hfive
      show (s.dev.emit (.flash true 5 inst)).kept 5 inst data = _
      exact (if_neg (by decide)).trans (if_pos ⟨rfl, hinst⟩)
  case repair =>
    have hpool : ((s.trust.add 7 0 [] true none)).fits := Trust.fits_of_add hroom
    refine ⟨(t.add 7 0 [] true none).add 4 c (Config.repairRecord s.dev.freeCtr) true (some (s.dev.chan c).usedRepair), ?_, ?_⟩
    · rw [exec_record hlive hup (Nat.zero_le _), State.putRecord_pool hpool,
        State.payDue_repair (s := { s with dev := s.dev.emit (.flash true 7 0), trust := s.trust.add 7 0 [] true none }) hup hlive hdue hlog hroom,
        State.serveWaiting_none (Trust.add_waits (Trust.add_waits hnone))]
      rfl
    · rw [Trust.add_cairn, Trust.add_cairn, Trust.add_seq, List.append_assoc]
      rfl
  case log =>
    intro log hroom
    have hpool : ((s.trust.add 7 0 [] true none)).fits := Trust.fits_of_add hroom
    refine ⟨(((s.dev.emit (.flash true 7 0)).onFaults fun f => { f with spilled := f.total }).emit (.flash true 8 0)),
      (t.add 7 0 [] true none).add 8 0 log true none, ?_, ?_, rfl⟩
    · rw [exec_record hlive hup (Nat.zero_le _), State.putRecord_pool hpool,
        State.payDue_log (s := { s with dev := s.dev.emit (.flash true 7 0), trust := s.trust.add 7 0 [] true none }) hup hlive hdue hlog hroom,
        State.serveWaiting_none (Trust.add_waits (Trust.add_waits hnone))]
      rfl
    · rw [Trust.add_cairn, Trust.add_cairn, Trust.add_seq, List.append_assoc]
      rfl
  case reserve =>
    have hreserve := State.reserve_kept hnext hleaf hroom
    have hkeys : Trust.SameKeys { t with leafMark := max t.leafMark (t.leafEnd / 2 ^ 26 + 1) } (t.withReserve data) := Trust.add_keys
    refine ⟨{ t.withReserve data with leafEnd := (t.withReserve data).leafEnd + 256 }, ?_, congrArg (· + 256) hkeys.leafEnd, hkeys.leafMark, hkeys.leaf,
      Trust.record_last (Trust.add_cairn (t := { t with leafMark := max t.leafMark (t.leafEnd / 2 ^ 26 + 1) }) (ok := true)) rfl rfl rfl⟩
    rw [exec_record hlive hup hlen, show s.putRecord 3 inst data true = s.reserve data true from rfl, hreserve, State.payDue_idle (s := s.reserved data) hdue hlog,
      State.serveWaiting_none (hkeys.waiting.trans hnone)]
    rfl
  case again =>
    have hcompact : t.compact = { t.add r.type r.inst r.data true r.soft with
        cairn := (t.add r.type r.inst r.data true r.soft).cairn.drop 1, erased := (t.add r.type r.inst r.data true r.soft).erased + 1 } := by
      rw [Trust.compact_first hstore hblock hmore, if_pos hkeeps]
    refine (congrArg Host.Outcome.next (if_pos ⟨hlive, hup⟩)).trans ?_
    show Host.Outcome.next { s with trust := t.compact } = _
    rw [hcompact, Trust.add_cairn, hstore, Trust.add_keys.erased]
    rfl
  case dropped =>
    have hcompact : t.compact = { t with cairn := t.cairn.drop 1, erased := t.erased + 1 } := by
      rw [Trust.compact_first hstore hblock hmore, if_neg (by rw [hkeeps]; decide)]
    refine (congrArg Host.Outcome.next (if_pos ⟨hlive, hup⟩)).trans ?_
    show Host.Outcome.next { s with trust := t.compact } = _
    rw [hcompact, hstore]
    rfl
  case restart => exact congrArg Host.Outcome.next (if_pos ⟨hlive, hup⟩)
  case expires => exact congrArg Host.Outcome.next (if_pos ⟨hlive, hup, hlate⟩)
  case stays => exact congrArg Host.Outcome.next (if_neg fun h => absurd h.2.2 (Nat.not_le.mpr hearly))
  case svn => exact congrArg Host.Outcome.next (if_pos ⟨hlive, hup, by rw [show s.trust.onTrial = false from htrial]; rfl, hflag, hsvn⟩)

/-! ### The ROM releases firmware (R571 to R575) -/

section Release
variable {t : Trust}

theorem Trust.measureBoot_waiting (p : Plat) : (t.measureBoot p).waiting = t.waiting := by
  unfold Trust.measureBoot
  split <;> rfl

theorem Trust.bootOrder_waiting : t.bootOrder.1.waiting = t.waiting := by
  unfold Trust.bootOrder
  split
  · split <;> rfl
  · rfl

theorem Trust.append_waits (type inst : Nat) (data : List Byte) (ok : Bool) (soft : Option (List Nat)) : (t.append type inst data ok soft).waiting = t.waiting :=
  (congrArg Trust.waiting (Trust.append_waiting (t := t) (w := t.waiting) type inst data ok soft)).trans rfl

theorem Trust.indexAll_waiting (l : List (CairnRec × Nat × Nat)) : (l.foldl (fun (t : Trust) e => t.indexed e.1 (t.addressOf e.2)) t).waiting = t.waiting := by
  induction l generalizing t with
  | nil => rfl
  | cons e l ih => exact ih.trans (Trust.indexed_keys _).waiting

theorem Dev.rescale_fwUp (d : Dev) : d.rescale.fwUp = d.fwUp := by
  have hevent (e : Dev) (unit akind addr detail : Nat) : (e.event unit akind addr detail).fwUp = e.fwUp := (Dev.raise_keeps _ _).fwUp
  unfold Dev.rescale
  dsimp only
  generalize List.range 16 = classes
  rw [apply_ite Dev.fwUp, hevent, ite_self, Dev.onQos_fwUp]
  refine foldl_view Dev.fwUp _ ?_ classes d
  intro _ _
  rfl

theorem Dev.republish_fwUp (d : Dev) : d.republish.fwUp = d.fwUp := by
  unfold Dev.republish
  split
  · rfl
  · exact d.rescale_fwUp

theorem Trust.trainings_fwUp (d : Dev) : (t.trainings d).fwUp = d.fwUp := by
  unfold Trust.trainings
  generalize List.range 16 = l
  induction l generalizing d with
  | nil => rfl
  | cons c l ih =>
    refine (ih _).trans ?_
    dsimp only
    split
    · rfl
    · split
      · rfl
      · exact Dev.republish_fwUp _

theorem Dev.raiseAll_fwUp (d : Dev) (h : Hap) (l : List CairnRec) : (l.foldl (fun (d : Dev) _ => d.raise h) d).fwUp = d.fwUp := by
  induction l generalizing d with
  | nil => rfl
  | cons r l ih => exact (ih _).trans (d.raise_keeps h).fwUp

variable {s : State}

/-- The trust block whose committed records among those lost cannot be read; a BOOT from nothing makes its index anew (R564). -/
def State.storeRead (s : State) (lost : List Nat) : Trust :=
  let t0 := s.trust.hiding fun r => r.committed && lost.contains r.seq
  if s.dev.power.mode = .boot ∧ s.dev.coldStart then
    ((t0.cairn.zip (recPlaces 0 0 t0.cairn)).filter fun e => t0.record e.1.type e.1.inst == some e.1).foldl (fun (t : Trust) e =>
      t.indexed e.1 (t.addressOf e.2)) { t0 with index := [] }
  else t0

theorem State.storeRead_waiting (lost : List Nat) : (s.storeRead lost).waiting = s.trust.waiting := by
  unfold State.storeRead
  dsimp only
  split
  · exact Trust.indexAll_waiting _
  · rfl

/-- Records that can no longer be read are DEGRADED 0x7002 and move the leaf; in BOOT what they stood for is lost too. -/
theorem State.readStore_eq (lost : List Nat) : s.readStore lost =
    if (s.storeRead lost).cairn = s.trust.cairn then { s with trust := s.storeRead lost }
    else
      let d := ((s.storeRead lost).cairn.filter (·.hidden)).foldl (fun (d : Dev) _ => d.raise { code := 0x7002, cls := 2, unit := 0x394, att := 2 }) s.dev
      if d.power.mode ≠ .boot then { s with dev := d, trust := (s.storeRead lost).restartLeaf }
      else
        let d1 := (s.storeRead lost).trainings ((s.storeRead lost).widths d)
        { s with dev := if d1.coldStart then d1.onEv (s.storeRead lost).pool else d1, trust := (s.storeRead lost).restartLeaf } := rfl

/-- Reading the store starts no firmware and takes no command that waits for it. -/
theorem State.readStore_quiet (lost : List Nat) : (s.readStore lost).dev.fwUp = s.dev.fwUp ∧ (s.readStore lost).trust.waiting = s.trust.waiting := by
  have hwaiting := s.storeRead_waiting lost
  rw [State.readStore_eq]
  split
  · exact ⟨rfl, hwaiting⟩
  dsimp only
  split
  · exact ⟨Dev.raiseAll_fwUp _ _ _, hwaiting⟩
  · refine ⟨?_, hwaiting⟩
    dsimp only
    rw [apply_ite Dev.fwUp, Dev.onEv_fwUp, ite_self]
    exact (Trust.trainings_fwUp _).trans (Dev.raiseAll_fwUp _ _ _)

/-- A fault in BOOT leaves the device in BOOT. -/
theorem Dev.raise_boot (d : Dev) (h : Hap) (hfatal : h.cls = 4) (hboot : d.power.mode = .boot) : (d.raise h).power.mode = .boot := by
  have hwake (e : Dev) (he : e.power.mode = .boot) : (e.wake 7 h.cls).power.mode = .boot := by
    unfold Dev.wake
    dsimp only
    rw [he]
    split
    · rfl
    · exact he
  have henter (e : Dev) (r : FaultRec) (b : Bool) (he : e.power.mode = .boot) : (e.enter r b).power.mode = .boot := by
    unfold Dev.enter
    dsimp only
    repeat' split
    all_goals exact he
  unfold Dev.raise
  dsimp only
  rw [if_pos hfatal, if_pos (by rw [hfatal]; decide)]
  exact hwake _ (henter _ _ _ hboot)

/-- A FATAL fault in BOOT ends the BOOT without success, and stops no firmware of its own (R541). -/
theorem Dev.fatal_boot (d : Dev) (h : Hap) (hboot : d.power.mode = .boot) : (d.fatal h).fwUp = d.fwUp := by
  have hstays := d.raise_boot { h with cls := 4 } rfl hboot
  unfold Dev.fatal
  dsimp only
  rw [hstays]
  exact (d.raise_keeps _).fwUp

theorem State.payAll_waiting (l : List (Nat × Nat)) : (l.foldl State.payOne s).trust.waiting = s.trust.waiting := by
  induction l generalizing s with
  | nil => rfl
  | cons e l ih => exact ih.trans (Trust.append_waits _ _ _ _ _)

theorem State.payDue_waiting : s.payDue.trust.waiting = s.trust.waiting := by
  have hspill (u : State) : u.spillLog.trust.waiting = u.trust.waiting := by
    unfold State.spillLog
    dsimp only
    split
    · rfl
    · exact Trust.append_waits _ _ _ _ _
  rw [State.payDue_eq]
  split
  · rfl
  · exact (hspill _).trans (State.payAll_waiting _)

theorem State.writeWaiting_none (hnone : s.trust.waiting = []) : s.writeWaiting = s := by
  have hsame : ({ s with trust := { s.trust with waiting := [] } } : State) = s := by rw [← hnone]
  unfold State.writeWaiting State.onTrust
  dsimp only
  rw [hnone, List.foldl_nil, List.filter_nil]
  split
  · exact hsame
  · rfl

theorem State.payDue_down (hdown : s.dev.fwUp = false) : s.payDue = s := if_pos (by rw [hdown]; rfl)

end Release

theorem romReleasesFirmware : Claims.RomReleasesFirmware := by
  intro s t a b spd lost hlive hdown himage hnone s0 horder m bad runs none
  have hdown0 : s0.dev.fwUp = false := (s.readStore_quiet lost).1.trans hdown
  have hnone0 : s0.trust.waiting = [] := (s.readStore_quiet lost).2.trans hnone
  have hm : m.waiting = [] := by
    rw [Trust.measureBoot_waiting, show t = s0.trust.bootOrder.1 by rw [horder], Trust.bootOrder_waiting, hnone0]
  have hends (x : State) (hx : x.trust.waiting = []) : x.writeWaiting.payDue.serveWaiting = x.payDue := by
    rw [State.writeWaiting_none hx, State.serveWaiting_none (State.payDue_waiting.trans hx)]
  have hguard : ¬ (!s.dev.live ∨ s.dev.fwUp ∨ s.trust.noImage) := by simp [hlive, hdown, himage]
  have hrelease (s1 : State) (h1 : ({ s0 with trust := m } : State).trySlots false [a, b] = s1) (hw : s1.trust.waiting = []) :
      exec (.firmwareRelease spd lost) s = .next (if s1.dev.fwUp then
        { s1 with dev := spd.foldl (fun (d : Dev) e => d.spdRead e.1 e.2.1 e.2.2) s1.dev } else s1 : State).payDue := by
    have hall : exec (.firmwareRelease spd lost) s =
        (let s1 := ({ s0 with trust := s0.trust.bootOrder.1.measureBoot s.dev.plat } : State).trySlots false s0.trust.bootOrder.2
        .next (if s1.dev.fwUp then { s1 with dev := spd.foldl (fun (d : Dev) e => d.spdRead e.1 e.2.1 e.2.2) s1.dev }
          else s1 : State).writeWaiting.payDue.serveWaiting) := if_neg hguard
    dsimp only at hall
    rw [horder, h1] at hall
    rw [hall, hends _ (by split <;> exact hw)]
  have hruns (d : Dev) (slot root : Nat) (second : Bool) (h1 : ({ s0 with trust := m } : State).trySlots false [a, b] =
      { s0 with dev := { d with fwUp := true, fwDown := false }, trust := { m.release slot root second with wdAt := d.lamp } }) :
      exec (.firmwareRelease spd lost) s = .next (runs d slot root second) := hrelease _ h1 hm
  have hstops (d : Dev) (hd : d.fwUp = false) : (none d).dev.fwUp = false := by
    show (if d.power.mode = .boot then d.fatal _ else d.raise _).fwUp = false
    split
    · next hboot => exact (Dev.fatal_boot _ _ hboot).trans hd
    · exact (Dev.raise_keeps _ _).fwUp.trans hd
  have htry (d : Dev) (second : Bool) (slot n : Nat) (rest : List Nat) (h : m.verify d.plat slot = .error n) :
      ({ s0 with dev := d, trust := m } : State).trySlots second (slot :: rest) = ({ s0 with dev := bad d slot n, trust := m } : State).trySlots true rest :=
    State.trySlots_error (s := { s0 with dev := d, trust := m }) rest h
  have hnorun (d : Dev) (hd : d.fwUp = false) (h1 : ({ s0 with trust := m } : State).trySlots false [a, b] = ({ s0 with dev := d, trust := m } : State).trySlots true []) :
      exec (.firmwareRelease spd lost) s = .next (none d) := by
    have hnever := hstops d hd
    rw [hrelease (none d) h1 hm, if_neg (by rw [hnever]; decide), State.payDue_down hnever]
  have hfrom (d : Dev) (slot root : Nat) (second : Bool) (rest : List Nat) (h : m.verify d.plat slot = .ok root)
      (h1 : ({ s0 with trust := m } : State).trySlots false [a, b] = ({ s0 with dev := d, trust := m } : State).trySlots second (slot :: rest)) :
      exec (.firmwareRelease spd lost) s = .next (runs d slot root second) :=
    hruns d slot root second (h1.trans (State.trySlots_ok { s0 with dev := d, trust := m } rest h))
  cases hfirst : m.verify s0.dev.plat a with
  | ok root => exact hfrom s0.dev a root false [b] hfirst rfl
  | error n =>
    have hnext := htry s0.dev false a n [b] hfirst
    have hplat : (bad s0.dev a n).plat = s0.dev.plat := (Dev.raise_keeps _ _).plat
    have hstopped : (bad s0.dev a n).fwUp = false := (Dev.raise_keeps _ _).fwUp.trans hdown0
    dsimp only
    generalize bad s0.dev a n = d at hnext hplat hstopped ⊢
    rw [← hplat]
    cases hsecond : m.verify d.plat b with
    | ok root => exact hfrom d b root true [] hsecond hnext
    | error k => exact hnorun (bad d b k) ((Dev.raise_keeps _ _).fwUp.trans hstopped) (hnext.trans (htry d true b k [] hsecond))

/-- Settles O55: firmware's records by what an append to a store with room leaves, and the release by the slots in their order. -/
theorem firmwareAndRecords : Obligations.FirmwareAndRecords := ⟨firmwareKeepsRecords, romReleasesFirmware⟩

end Sys2Proof.Machine
end

section
/-!
PROOFS. Training of a channel in a BOOT from nothing (R116 to R119, R141 to R143, R151).
-/
namespace Sys2Proof.Machine

/-! ### A channel that is not as after reset has its entry in the table -/

section Table
variable {d : Dev} {c : Nat} {x y : Chan}

theorem Dev.setChan_known (h : x ≠ {}) : d.setChan c x = { d with chans := mset d.chans c x } :=
  congrArg (fun m => { d with chans := m }) (if_neg h)

theorem Dev.chan_setChan_known (h : x ≠ {}) : (d.setChan c x).chan c = x := by
  rw [Dev.setChan_known h]
  exact mgetD_mset_self _ _ _ _

theorem Dev.chan_setChan_known_other (h : x ≠ {}) {n : Nat} (hn : n ≠ c) : (d.setChan c x).chan n = d.chan n := by
  rw [Dev.setChan_known h]
  exact congrArg (fun o => Option.getD o {}) (mget_mset_ne d.chans c n x hn)

theorem Dev.setChan_setChan_known (h : x ≠ {}) (hy : y ≠ {}) : (d.setChan c x).setChan c y = d.setChan c y := by
  rw [Dev.setChan_known hy, Dev.setChan_known hy, Dev.setChan_known h, mset_mset]

/-- A channel that training has dealt with is not a channel after reset. -/
theorem Chan.known_of_checked (h : x.checked = true) : x ≠ {} := fun hx => absurd (hx ▸ h) (by decide)

theorem Chan.known_of_state (h : x.state = 2) : x ≠ {} := fun hx => absurd (hx ▸ h) (by decide)

end Table

/-! ### The speed of a population (R117, R118) -/

/-- The first of a falling list that a test admits is the greatest that it admits. -/
theorem find?_greatest {p : Nat → Bool} {v : Nat} {l : List Nat} (hfall : l.Pairwise (· > ·)) (hv : v ∈ l) (hp : p v = true)
    (hmax : ∀ u ∈ l, p u = true → u ≤ v) : l.find? p = some v := by
  induction l with
  | nil => exact absurd hv List.not_mem_nil
  | cons u l ih =>
    obtain ⟨hhead, htail⟩ := List.pairwise_cons.mp hfall
    rcases List.mem_cons.mp hv with rfl | hv
    · exact List.find?_cons_of_pos hp
    · have hbelow : v < u := hhead v hv
      have hrefuse : ¬ p u = true := fun hu => Nat.not_lt.mpr (hmax u List.mem_cons_self hu) hbelow
      rw [List.find?_cons_of_neg hrefuse]
      exact ih htail hv fun k hk => hmax k (List.mem_cons_of_mem _ hk)

theorem speeds_fall : speeds.Pairwise (· > ·) := by decide

section Population
variable {a b : Dimm} {v : Nat}

/-- The makes of DIMM that the device supports (R115, R116). -/
def SupportedDimm (u : Dimm) : Prop := u.width = 4 ∧ u.checkDev = 2 ∧ u.density ∈ [16, 24, 32] ∧ u.pkgRanks ∈ [1, 2] ∧ u.stack ∈ [1, 2, 4]

theorem supportedDimm_iff : SupportedDimm a ↔ goodDimm a = true := by
  simp only [SupportedDimm, goodDimm, Bool.and_eq_true, beq_iff_eq, List.contains_iff_mem, and_assoc]

theorem SupportedDimm.ranks_pos (h : SupportedDimm a) : 0 < dimmRanks a := by
  obtain ⟨-, -, -, hpkg, hstack⟩ := h
  simp only [List.mem_cons, List.not_mem_nil, or_false] at hpkg hstack
  unfold dimmRanks
  exact Nat.mul_pos (by omega) (by omega)

theorem popSpeed_one (ha : SupportedDimm a) (hv : v ∈ speeds) (hle : v ≤ a.speed) (hmax : ∀ u ∈ speeds, u ≤ a.speed → u ≤ v) : popSpeed (some a) none = some v :=
  (if_pos (supportedDimm_iff.mp ha)).trans
    (find?_greatest speeds_fall hv (decide_eq_true hle) fun u hu hp => hmax u hu (of_decide_eq_true hp))

theorem popSpeed_two (ha : SupportedDimm a) (hb : SupportedDimm b) (hsame : sameDimm a b = true) (hv : v ∈ [6400, 5600, 4800]) (hle : v ≤ min a.speed b.speed)
    (hmax : ∀ u ∈ [6400, 5600, 4800], u ≤ min a.speed b.speed → u ≤ v) : popSpeed (some a) (some b) = some v := by
  have hslow (u : Nat) : u ∈ [6400, 5600, 4800] ↔ u ∈ speeds ∧ u ≤ 6400 := by
    simp only [speeds, List.mem_cons, List.not_mem_nil, or_false]
    omega
  obtain ⟨hlist, hcap⟩ := (hslow v).mp hv
  refine (if_pos (by rw [supportedDimm_iff.mp ha, supportedDimm_iff.mp hb, hsame]; rfl)).trans (find?_greatest speeds_fall hlist (decide_eq_true ?_) fun u hu hp => ?_)
  · omega
  · have hpu := of_decide_eq_true hp
    exact hmax u ((hslow u).mpr ⟨hu, hpu.1⟩) (by omega)

theorem popSpeed_other (ha : a.width ≠ 4) : popSpeed (some a) none = none := by
  refine if_neg ?_
  simp [goodDimm, ha]

end Population

/-! ### What training leaves -/

section Training
variable {d : Dev} {c : Nat} {a : Dimm} {b : Option Dimm} {v n : Nat} {soft : List Nat}

/-- Training does not end a BOOT in which a channel is in service. -/
theorem Dev.trainEnd_served {x : Chan} (hmem : (c, x) ∈ d.chans) (hx : x.state = 3) : d.trainEnd = d := by
  have hnot : d.chans.all (fun e => e.2.state != 3) = false := List.all_eq_false.mpr ⟨_, hmem, by simp [hx]⟩
  unfold Dev.trainEnd
  dsimp only
  rw [hnot, Bool.and_false]
  rfl

theorem mem_mset_self {α : Type} (m : AMap α) (n : Nat) (a : α) : (n, a) ∈ mset m n a := mget_mem (mget_mset_self m n a)

/-- Training of a channel that firmware has not dealt with starts from the SPDs. -/
theorem Dev.trained_cold {r : TrainReport} (hboot : d.power.mode = .boot) (hc : c < 16) (hnew : (d.chan c).checked = false) (hup : d.fwUp = true)
    (hcold : d.coldStart = true) (hlow : d.power.trstHigh = false) {d1 : Dev} (hspd : d.spdRead c r.slot0 r.slot1 = d1) :
    d.trained c r soft = (if (d1.chan c).state = 2 then d1.fullTrained c r.badRanks soft else d1).trainEnd := by
  have hguard : ¬ (d.power.mode ≠ .boot ∨ 16 ≤ c ∨ (d.chan c).checked = true ∨ !d.fwUp) := by
    simp [hboot, hnew, hup, hc]
  subst hspd
  exact (if_neg hguard).trans ((if_pos hcold).trans (if_neg (by rw [hlow]; decide)))

theorem Dev.spdRead_cold {a? b? : Option Dimm} (hboot : d.power.mode = .boot) (hc : c < 16) (hnew : (d.chan c).checked = false) (hcold : d.coldStart = true)
    (habsent : (d.chan c).state = 0) {x : Chan} (hx : d.chan c = x) :
    d.spdRead c a? b? = match a?, b? with
      | none, none => d.setChan c { x with checked := true }
      | _, _ =>
        match popSpeed a? b?, a? with
        | some v, some a =>
          let n := if b?.isSome then 2 * dimmRanks a else dimmRanks a
          d.setChan c { x with
            state := 2, sub := 0, slot0 := a?, slot1 := b?, ranks := n, speed := v, trfc := a.trfc, frames := n * rankFrames a }
        | _, _ => (d.setChan c { x with state := 1, checked := true, slot0 := a?, slot1 := b? }).raise
            { code := 0x1009, cls := 2, unit := unitChan c } := by
  have hguard : ¬ (d.power.mode ≠ .boot ∨ 16 ≤ c ∨ (d.chan c).checked) := by
    simp [hboot, hnew, hc]
  subst hx
  exact (if_neg hguard).trans ((if_pos hcold).trans (if_neg (not_not_intro habsent)))

/-- A channel whose SPDs firmware has read and whose ranks are all good. -/
def Chan.populated (x : Chan) (a : Dimm) (b : Option Dimm) (n v : Nat) : Chan :=
  { x with state := 2, sub := 0, slot0 := some a, slot1 := b, ranks := n, speed := v, trfc := a.trfc, frames := n * rankFrames a }

/-- A channel none of whose ranks training found bad. -/
def Chan.allRanks (x : Chan) (soft : List Nat) : Chan :=
  { x with softBoot := soft.length, usedRepair := soft, ranksOut := [], in0 := true, in1 := x.slot1.isSome, fault := 0 }

/-- A channel that training has put into service. -/
def Chan.served (x : Chan) : Chan := { x with state := 3, sub := 0, recordOk := true, checked := true, spd := (x.slot0, x.slot1) }

theorem Dev.service_setChan {x : Chan} (hx : x ≠ {}) : (d.setChan c x).service c = (((d.setChan c x.served).withPatterns c).owes 5 c).republish := by
  unfold Dev.service
  rw [Dev.chan_setChan_known hx]
  dsimp only
  rw [Dev.setChan_setChan_known hx (Chan.known_of_checked rfl)]
  rfl

/-- Full training with no bad rank puts the channel into service (R116, R141, R143, R151). -/
theorem Dev.fullTrained_good {x : Chan} (hx : x.state = 2) (hn : 0 < x.ranks) (hslot : x.slot0 = some a) (ha : 0 < dimmRanks a) :
    (d.setChan c x).fullTrained c [] soft = (((d.setChan c ((x.allRanks soft).served)).withPatterns c).owes 5 c).republish := by
  have hbad : (List.range x.ranks).filter (fun k => ([] : List Nat).contains k) = [] := List.filter_eq_nil_iff.mpr fun _ _ => by simp
  have hsome (slot : Nat) : (x.slotRanks slot).all ([] : List Nat).contains = false := by
    unfold Chan.slotRanks
    rw [hslot]
    refine List.all_eq_false.mpr ⟨slot * dimmRanks a + 0, List.mem_map_of_mem (List.mem_range.mpr ha), by simp⟩
  have hranks : ¬ ([] : List Nat).length = x.ranks := Nat.ne_of_lt hn
  have hgood : ([] : List Nat).isEmpty = true := rfl
  have hknown := Chan.known_of_state hx
  unfold Dev.fullTrained
  rw [Dev.chan_setChan_known hknown]
  dsimp only
  rw [hbad, hsome, hsome, if_neg hranks, if_pos hgood, Bool.and_false, Bool.not_false, Bool.and_true]
  refine (Dev.service_setChan (x := x.allRanks soft) (Chan.known_of_state hx)).trans ?_
  rw [Dev.setChan_setChan_known hknown (Chan.known_of_checked rfl)]

/-- The channel stands in the table once it is in service. -/
theorem Dev.trainEnd_service {x : Chan} : ((((d.setChan c x.served).withPatterns c).owes 5 c).republish).trainEnd = (((d.setChan c x.served).withPatterns c).owes 5 c).republish := by
  have howes (e : Dev) : (e.owes 5 c).chans = e.chans := by
    unfold Dev.owes
    split <;> rfl
  have hpatterns : ((d.setChan c x.served).withPatterns c).chans = mset d.chans c { x.served with patterns := some d.freeCtr } := by
    show ((d.setChan c x.served).setChan c { (d.setChan c x.served).chan c with patterns := some d.freeCtr }).chans = _
    rw [Dev.chan_setChan_up rfl, Dev.setChan_setChan_up rfl rfl, Dev.setChan_up rfl]
  refine Dev.trainEnd_served (c := c) (x := { x.served with patterns := some d.freeCtr }) ?_ rfl
  rw [Dev.republish_chans, howes, hpatterns]
  exact mem_mset_self _ _ _

/-- Training that ends with no channel in service, and none to train, is a DEGRADED fault (R118). -/
theorem Dev.trainEnd_none (hcold : d.coldStart = true) (hdone : ∀ k, k < 16 → (d.chan k).checked = true ∧ (d.chan k).state ≠ 2) (hnone : ∀ e ∈ d.chans, e.2.state ≠ 3) :
    d.trainEnd = d.raise { code := 0x1009, cls := 2, unit := 0 } := by
  have hall : ((List.range 16).all fun c => (d.chan c).checked && (d.chan c).state != 2) = true :=
    List.all_eq_true.mpr fun k hk => by simpa using hdone k (List.mem_range.mp hk)
  have hchans : d.chans.all (fun e => e.2.state != 3) = true := List.all_eq_true.mpr fun e he => by simpa using hnone e he
  unfold Dev.trainEnd
  dsimp only
  rw [if_pos hcold, hall, hchans]
  rfl

end Training

theorem trainingFindsChannels : Claims.TrainingFindsChannels := by
  intro s c a hboot hkind hlow hc hup hstate hnew d x soft made fastest up
  have hcold : d.coldStart = true := by simpa [Dev.coldStart] using hkind
  have hspd (a? b? : Option Dimm) := Dev.spdRead_cold (d := d) (c := c) (a? := a?) (b? := b?) hboot hc hnew hcold hstate rfl
  have htrain (r : TrainReport) (d1 : Dev) (h : d.spdRead c r.slot0 r.slot1 = d1) := Dev.trained_cold (soft := soft) (r := r) hboot hc hnew hup hcold hlow h
  have hexec (r : TrainReport) (d2 : Dev) (h : d.trained c r soft = d2) : exec (.trainingComplete c r) s = .next ({ s with dev := d2 } : State).payDue := by
    subst h
    rfl
  have hgood (b : Option Dimm) (v n : Nat) (ha : SupportedDimm a) (hspeed : popSpeed (some a) b = some v) (hn : (if b.isSome then 2 * dimmRanks a else dimmRanks a) = n) (hpos : 0 < n) :
      exec (.trainingComplete c { slot0 := some a, slot1 := b }) s = .next (up b n v) := by
    have hread : d.spdRead c (some a) b = d.setChan c ((d.chan c).populated a b n v) := by
      rw [hspd, hspeed, ← hn]
      rfl
    have htwo : ((d.setChan c ((d.chan c).populated a b n v)).chan c).state = 2 := by
      rw [Dev.chan_setChan_known (Chan.known_of_state rfl)]
      rfl
    have hfull : (d.setChan c ((d.chan c).populated a b n v)).fullTrained c [] soft = _ := Dev.fullTrained_good rfl hpos rfl (SupportedDimm.ranks_pos ha)
    refine hexec _ _ ((htrain _ _ hread).trans ?_)
    rw [if_pos htwo]
    exact (congrArg Dev.trainEnd hfull).trans Dev.trainEnd_service
  refine ⟨fun v ha hv => ?one, fun b v ha hb hsame hv => ?two, fun ha => ?other, ?empty, fun hdone hnone => ?none⟩
  case one => exact hgood none v _ ha (popSpeed_one ha hv.1 hv.2.1 hv.2.2) rfl (SupportedDimm.ranks_pos ha)
  case two => exact hgood (some b) v _ ha (popSpeed_two ha hb hsame hv.1 hv.2.1 hv.2.2) rfl (Nat.mul_pos (by decide) (SupportedDimm.ranks_pos ha))
  case other =>
    have hread : d.spdRead c (some a) none = (d.setChan c { x with state := 1, slot0 := some a, slot1 := none }).raise { code := 0x1009, cls := 2, unit := 0x100 + c } := by
      rw [hspd, popSpeed_other ha]
      rfl
    have hout : (((d.setChan c { x with state := 1, slot0 := some a, slot1 := none }).raise { code := 0x1009, cls := 2, unit := 0x100 + c }).chan c).state = 1 := by
      rw [((Dev.raise_sameService _ _).chan c).state, Dev.chan_setChan_known (Chan.known_of_checked rfl)]
    refine hexec _ _ ((htrain { slot0 := some a } _ hread).trans ?_)
    rw [if_neg (by rw [hout]; decide)]
  case empty =>
    have hread : d.spdRead c none none = d.setChan c x := hspd none none
    refine hexec _ _ ((htrain {} _ hread).trans ?_)
    rw [Dev.chan_setChan_known (Chan.known_of_checked rfl), if_neg (by rw [show x.state = 0 from hstate]; decide)]
  case none =>
    have hknown : x ≠ {} := Chan.known_of_checked rfl
    refine Dev.trainEnd_none (d := d.setChan c x) hcold (fun k hk => ?_) fun e he => ?_
    · by_cases hkc : k = c
      · rw [hkc, Dev.chan_setChan_known hknown]
        exact ⟨rfl, by rw [show x.state = 0 from hstate]; decide⟩
      · rw [Dev.chan_setChan_known_other hknown hkc]
        exact hdone k hk hkc
    · rw [Dev.setChan_known hknown] at he
      rcases mset_mem _ _ _ _ he with rfl | he
      · exact fun h => absurd (hstate.symm.trans h) (by decide)
      · exact hnone e he

end Sys2Proof.Machine
end

section
/-!
PROOFS. The crawl (R481 to R484): a pass starts, and reads a line.
-/
namespace Sys2Proof.Machine

theorem frameChan_mkFrame {c i : Nat} (hi : i < 2 ^ 28) : frameChan (mkFrame c i) = c := by
  unfold frameChan mkFrame
  omega

theorem frameIdx_mkFrame {c i : Nat} (hi : i < 2 ^ 28) : frameIdx (mkFrame c i) = i := by
  unfold frameIdx mkFrame
  omega

/-! ### What a read of the crawl leaves -/

section Read
variable {d d1 : Dev} {c f i n : Nat}

theorem Dev.rouse_scrub : d.rouse c scrubCls = d := if_neg fun h => h.2 rfl

theorem Dev.openRow_sameService (k : Coord) (hup : (d.chan c).state = 3) : d.SameService (d.openRow c k) := by
  unfold Dev.openRow
  dsimp only
  split
  · exact d.bump_sameService _ _
  · exact (Dev.setChan_sameService (y := { d.chan c with rows := mset (d.chan c).rows k.cell k.row }) hup ⟨rfl, rfl, rfl, rfl⟩ (.inl rfl)).trans
      (Dev.bump_sameService _ _ _)

theorem Dev.openRow_faults (k : Coord) : (d.openRow c k).faults = d.faults := by
  unfold Dev.openRow
  dsimp only
  split <;> rfl

theorem Dev.charge_faults (cls k : Nat) : (d.charge c cls k).faults = d.faults := by
  unfold Dev.charge
  dsimp only
  repeat' split
  all_goals rfl

/-- A read for the crawl changes counters, open rows and accounts alone (R155, R501). -/
theorem Dev.countRead_sameService (hup : (d.chan (frameChan f)).state = 3) : d.SameService (d.countRead f n scrubCls) := by
  unfold Dev.countRead
  dsimp only
  rw [Dev.rouse_scrub]
  exact (((d.openRow_sameService _ hup).trans (Dev.onCnt_sameService _ _)).trans (Dev.bump_sameService _ _ _)).trans (Dev.charge_sameService _ _ _ _)

theorem Dev.countRead_faults : (d.countRead f n scrubCls).faults = d.faults := by
  unfold Dev.countRead
  dsimp only
  rw [Dev.rouse_scrub]
  exact (Dev.charge_faults _ _).trans (Dev.openRow_faults _)

/-- A sound line is read at the first attempt (R482). -/
theorem Dev.dramRead_sound {o : LineObs} (hup : (d.chan (frameChan f)).state = 3) (harmed : d.faults.armed = []) (hsound : (d.dline f n).errs = [])
    (hclean : o.first = .clean) (owner : Option (Nat × Nat)) :
    d.SameService (d.dramRead f n o owner scrubCls).2 ∧ (d.dramRead f n o owner scrubCls).2.faults = d.faults := by
  have hnone : (d.countRead f n scrubCls).takeInvert (unitChan (frameChan f)) 3 f = (false, d.countRead f n scrubCls) := by
    unfold Dev.takeInvert Dev.armedOn
    rw [Dev.countRead_faults, harmed]
    rfl
  unfold Dev.dramRead
  dsimp only
  split
  · exact ⟨.refl d, rfl⟩
  · rw [hnone, hsound, hclean]
    exact ⟨d.countRead_sameService hup, Dev.countRead_faults⟩

/-- What the crawl does once it has read a line: counters, and the place that the pass has come to (R481). -/
def Dev.crawlOn (d d1 : Dev) (c i n : Nat) : Dev :=
  let d2 := d1.bump 1336
  let d3 := if mgetD d1.cnt.cnt (chCnt c 10) 0 = mgetD d.cnt.cnt (chCnt c 10) 0 then d2 else d2.bump 1337
  let d4 := d3.setChan c { d3.chan c with crawlDone := i * 64 + n + 1, crawling := !(d.passEnds c i n) }
  if d.passEnds c i n then d4.bump 1338 else d4

/-- What it leaves: the place in the channel, and all else but counters. -/
structure Dev.CrawledOn (d d1 t : Dev) (c i n : Nat) : Prop where
  service : d1.SameService t
  chan : t.chan c = { d1.chan c with crawlDone := i * 64 + n + 1, crawling := !(d.passEnds c i n) }
  faults : t.faults = d1.faults

theorem Dev.crawlOn_rest (hup : (d1.chan c).state = 3) : d.CrawledOn d1 (d.crawlOn d1 c i n) c i n := by
  have hset (e : Dev) (he : d1.SameService e) (hchans : e.chans = d1.chans) (hfaults : e.faults = d1.faults) :
      d.CrawledOn d1 (e.setChan c { e.chan c with crawlDone := i * 64 + n + 1, crawling := !(d.passEnds c i n) }) c i n := by
    have hchan : e.chan c = d1.chan c := by rw [Dev.chan, Dev.chan, hchans]
    have hupe : (e.chan c).state = 3 := hchan ▸ hup
    refine ⟨he.trans (Dev.setChan_sameService hupe ⟨rfl, rfl, rfl, rfl⟩ (.inl rfl)), ?_, hfaults⟩
    exact (Dev.chan_setChan_up (x := { e.chan c with crawlDone := i * 64 + n + 1, crawling := !(d.passEnds c i n) }) hupe).trans (by rw [hchan])
  have hbump (e : Dev) (he : d.CrawledOn d1 e c i n) (k : Nat) : d.CrawledOn d1 (e.bump k) c i n :=
    ⟨he.service.trans (Dev.bump_sameService _ _ _), he.chan, he.faults⟩
  have hread : d.CrawledOn d1 (let d2 := d1.bump 1336
      let d3 := if mgetD d1.cnt.cnt (chCnt c 10) 0 = mgetD d.cnt.cnt (chCnt c 10) 0 then d2 else d2.bump 1337
      d3.setChan c { d3.chan c with crawlDone := i * 64 + n + 1, crawling := !(d.passEnds c i n) }) c i n := by
    dsimp only
    split
    · exact hset _ (Dev.bump_sameService _ _ _) rfl rfl
    · exact hset _ ((Dev.bump_sameService _ _ _).trans (Dev.bump_sameService _ _ _)) rfl rfl
  unfold Dev.crawlOn
  dsimp only
  split
  · exact hbump _ hread _
  · exact hread

/-- The crawl visits a line of a pass under way, in no lost bank and no retired frame (R481). -/
theorem Dev.crawl_line {o : LineObs} (hup : (d.chan c).state = 3) (hrun : d.power.mode = .run) (hsub : (d.chan c).sub ≠ 2) (hi : i < (d.chan c).frames)
    (hframes : (d.chan c).frames ≤ 2 ^ 28) (hn : n < 64) (hready : d.lineWaits (mkFrame c i) n = false) (hlost : (d.chan c).lostBanks = [])
    (hcrawling : (d.chan c).crawling = true) (hdone : (d.chan c).crawlDone ≤ i * 64 + n) (hkept : d.mem.retired.contains (mkFrame c i) = false) :
    d.crawl c i n o = (d.crawlOn (d.crawlFind (mkFrame c i) n o) c i n).after := by
  have hguard : ¬ ((d.chan c).state ≠ 3 ∨ d.power.mode ≠ .run ∨ (d.chan c).sub = 2 ∨ (d.chan c).frames ≤ i ∨ 64 ≤ n ∨ d.lineWaits (mkFrame c i) n) := by
    simp [hup, hrun, hsub, hready, hi, hn]
  have hvisit : ¬ (!(d.chan c).crawling ∨ i * 64 + n < (d.chan c).crawlDone ∨ d.mem.retired.contains (mkFrame c i)) := by
    simp [hcrawling, hdone, -List.contains_eq_mem, hkept]
  have hbank : d.bankOf (mkFrame c i) n = none := by
    unfold Dev.bankOf
    rw [frameChan_mkFrame (Nat.lt_of_lt_of_le hi hframes), hlost]
    rfl
  unfold Dev.crawl
  dsimp only
  rw [if_neg hguard, hbank]
  exact (if_neg hvisit).trans rfl

end Read

/-! ### The end of a command that changed the frames that memory can give -/

section Spare
variable {a b d t : Dev} {m : Mem}

/-- Memory of another state in the place of both devices' own. -/
theorem Dev.SameService.withMem (h : a.SameService b) (m : Mem) : ({ a with mem := m } : Dev).SameService { b with mem := m } where
  slices := h.slices
  pages := h.pages
  grottos := h.grottos
  mem := rfl
  flow := h.flow
  queues := h.queues
  rope := h.rope
  unsent := h.unsent
  bw := h.bw
  armed := h.armed
  chan := h.chan
  served := h.served
  owed := h.owed

theorem Dev.interrupt_keepsChans (l ld k : Nat) : (d.interrupt l ld k).chans = d.chans := congrArg (fun p => p.2.1) (d.interrupt_pace l ld k)

/-- What the request to give capacity back leaves (R68). -/
structure Dev.Asks (a b : Dev) : Prop where
  mem : b.mem = a.mem
  chans : b.chans = a.chans
  pages : b.pages = a.pages
  faults : b.faults = a.faults
  unsent : b.unsent = a.unsent

theorem Dev.askOne_asks : d.Asks d.askOne := by
  unfold Dev.askOne
  split
  · exact ⟨rfl, rfl, rfl, rfl, rfl⟩
  · split
    · have hkeeps (e : Dev) (g : Nat) (kind : LogKind) (ext : Nat × Nat) (he : d.Asks e) : d.Asks (e.dcLog g kind ext) := by
        unfold Dev.dcLog
        have hk (l ld log : Nat) (r : LogRec) : d.Asks (e.logAdd l ld log r) :=
          have h := e.logAdd_keeps l ld log r
          ⟨h.mem.trans he.mem, (congrArg (fun p => p.2.1) (e.logAdd_pace l ld log r)).trans he.chans, h.pages.trans he.pages,
            (e.logAdd_faults l ld log r).trans he.faults, h.unsent.trans he.unsent⟩
        exact hk _ _ _ _
      have hbump (e : Dev) (he : d.Asks e) : d.Asks (e.bump 16) := ⟨he.mem, he.chans, he.pages, he.faults, he.unsent⟩
      exact hbump _ (hkeeps _ _ _ _ ⟨rfl, rfl, rfl, rfl, rfl⟩)
    · exact ⟨rfl, rfl, rfl, rfl, rfl⟩

theorem Dev.askRelease_asks : d.Asks d.askRelease := by
  unfold Dev.askRelease
  dsimp only
  split
  · have hone := (if d.flow.asking then d else d.onFlow fun f => { f with asking := true }).askOne_asks
    split at hone
    · rwa [if_pos ‹_›]
    · rw [if_neg ‹_›]
      exact ⟨hone.mem, hone.chans, hone.pages, hone.faults, hone.unsent⟩
  · split <;> exact ⟨rfl, rfl, rfl, rfl, rfl⟩

/-- A still device, but for the frames that it can give (see `Dev.Still`). -/
structure Dev.Settled (d : Dev) : Prop where
  resume : d.slices.resume = []
  snoops : ∀ x ∈ d.slices.snoops, x.tag.isSome = true
  lost : ∀ e ∈ d.slices.nc, e.2.dirty = true → peView (d.entry (keyGrotto e.1) (pageOf (keyLine e.1))) ≠ 4
  hold : d.overHold 0 = false
  dying : d.pages.dying = []
  misses : d.pages.mapWait = []
  frames : d.pages.frameWait = []
  rebuilds : d.ev.rope.pages = []
  discards : ∀ e ∈ d.grottos, e.2.discarded = false
  armed : d.faults.armed = []
  writes : d.pages.dwrites = []
  owed : ∀ e ∈ d.chans, e.2.owed = []
  unsent : d.unsent = []

/-- Where the memory alone of a still device has changed, only the frames that it can give have. -/
theorem Dev.Still.settled (h : d.Still) (m : Mem) : ({ d with mem := m } : Dev).Settled where
  resume := h.resume
  snoops := h.snoops
  lost := h.lost
  hold := h.hold
  dying := h.dying
  misses := h.misses
  frames := h.frames
  rebuilds := h.rebuilds
  discards := h.discards
  armed := h.armed
  writes := h.writes
  owed := h.owed
  unsent := h.unsent

/-- Such a device ends the command with the request to give capacity back, if any (R68). -/
theorem Dev.Settled.after (h : d.Settled) : d.after = d.askRelease := by
  have hasks := d.askRelease_asks
  have hrebuilds : d.resumeRebuilds = d := if_pos (by rw [h.rebuilds]; rfl)
  have harrays : d.askRelease.sweepArrays = d.askRelease := if_pos (by rw [hasks.faults, h.armed]; rfl)
  have hquiet : d.quiesce = d.askRelease := by
    unfold Dev.quiesce
    dsimp only
    rw [d.drain_nil _ h.resume, d.pumpSnoops_tagged h.snoops, d.writeOutLost_none h.lost, d.relieve_under _ h.hold, d.reap_nil h.dying,
      d.drain_nil _ h.resume, d.serveMap_nil _ h.misses, d.serveFrames_nil _ h.frames, hrebuilds, d.clearDiscards_none h.discards,
      harrays, Dev.issueAll_nil _ (hasks.pages ▸ h.writes), Dev.catchUp_none _ (hasks.chans ▸ h.owed)]
  unfold Dev.after
  dsimp only
  rw [hquiet, hasks.unsent, h.unsent]
  rfl

end Spare

/-! ### A line of a frame that holds nothing -/

section Free
variable {d : Dev} {c i n : Nat} {o : LineObs}

/-- The memory once the crawl has retired a frame that holds nothing (R483). -/
def Mem.retiredFree (m : Mem) (c i f : Nat) : Mem :=
  { m with
    pools := mset m.pools c { zeroed := (mgetD m.pools c {}).zeroed.filter (· != i), pending := ivErase i (mgetD m.pools c {}).pending }
    retired := m.retired.filter (· != f) ++ [f] }

theorem Dev.crawlBad_sameService {f : Nat} (hup : (d.chan (frameChan f)).state = 3) : d.SameService (d.crawlBad f n) :=
  (d.countRead_sameService hup).trans (Dev.bump_sameService _ _ _)

/-- A free line that is sound. -/
theorem Dev.crawlFind_clean {f : Nat} (hpage : d.pageAt f = none) (hgallery : d.galleryLine f n = none) (hresv : d.resvFrames ≤ frameIdx f)
    (hsound : (d.dline f n).errs = []) (hclean : o.first = .clean) : d.crawlFind f n o = (d.dramRead f n o none scrubCls).2 := by
  have hgood : lasting o (d.dline f n).errs = false := by rw [lasting, hclean, hsound]; rfl
  unfold Dev.crawlFind
  rw [hpage, hgallery, hgood]
  exact (if_neg (Nat.not_lt.mpr hresv)).trans (if_neg (by decide))

/-- A free line that is uncorrectable twice retires its frame with CORRECTED 0x1006 (R483). -/
theorem Dev.crawlFind_bad {f : Nat} (hpage : d.pageAt f = none) (hgallery : d.galleryLine f n = none) (hresv : d.resvFrames ≤ frameIdx f)
    (hfirst : o.first = .uncorrectable) (hsecond : o.second = .uncorrectable) (hmem : (d.crawlBad f n).mem = d.mem) :
    d.crawlFind f n o = ({ d.crawlBad f n with mem := d.mem.retiredFree (frameChan f) (frameIdx f) f } : Dev).raise {
      code := 0x1006, cls := 1, unit := unitChan (frameChan f), att := 2, akind := 3, addr := f, detail := dramDetail (frameChan f) (d.coord f n) 0 } := by
  have hbad : lasting o (d.dline f n).errs = true := by rw [lasting, hfirst, hsecond]; rfl
  unfold Dev.crawlFind
  rw [hpage, hgallery, hbad]
  refine (if_neg (Nat.not_lt.mpr hresv)).trans ((if_pos rfl).trans ?_)
  unfold Mem.retiredFree Dev.setPool Dev.onMem Dev.pool
  dsimp only
  rw [hmem]

end Free

theorem crawlPasses : Claims.CrawlPasses := by
  intro s c i n o hrun d x f hup
  refine ⟨fun hidle hdue => ?starts, fun hwaits => ?waits, fun hstill hcrawling hsub hready hi hframes hn hlost hdone hkept hpage hgallery hresv hsound =>
    ⟨fun hclean => ?clean, fun hfirst hsecond => ?bad⟩⟩
  case starts =>
    have hwhen : (match x.crawlStart with
        | some t => decide (t + 86399999 ≤ d.timeMs)
        | none => true) = true ∨ x.owedWork = true := by
      refine hdue.imp_left fun h => ?_
      split
      · next t ht => exact decide_eq_true (h t ht)
      · rfl
    have hstarts : d.crawlStart c = _ := if_pos ⟨hup, by rw [show (s.dev.chan c).crawling = false from hidle]; rfl, hrun.1, hwhen⟩
    exact congrArg (fun e => Host.Outcome.next { s with dev := e }) hstarts
  case waits =>
    refine congrArg (fun e => Host.Outcome.next { s with dev := e }) (if_pos ?_)
    obtain hsub | hline := hwaits
    · exact .inr (.inr (.inl hsub))
    · exact .inr (.inr (.inr (.inr (.inr hline))))
  all_goals
    have hi' : i < 2 ^ 28 := Nat.lt_of_lt_of_le hi hframes
    have hc : frameChan f = c := frameChan_mkFrame hi'
    have hidx : frameIdx f = i := frameIdx_mkFrame hi'
    have hupf : (d.chan (frameChan f)).state = 3 := hc ▸ hup
    have hvisit := Dev.crawl_line (o := o) hup hrun.1 hsub hi hframes hn hready hlost hcrawling hdone hkept
  case clean =>
    obtain ⟨hread, hfaults⟩ := d.dramRead_sound (f := f) (n := n) hupf hstill.armed hsound hclean none
    have hline := Dev.crawlFind_clean hpage hgallery (hidx.symm ▸ hresv) hsound hclean
    have hupe : ((d.dramRead f n o none scrubCls).2.chan c).state = 3 := (hread.chan c).state.trans hup
    have hon := d.crawlOn_rest (i := i) (n := n) hupe
    have hsame := hread.trans hon.service
    refine ⟨d.crawlOn (d.dramRead f n o none scrubCls).2 c i n, ?_, hsame.mem, congrArg Chan.crawlDone hon.chan, congrArg Chan.crawling hon.chan, hsame.pages,
      hon.faults.trans hfaults⟩
    refine congrArg (fun e => Host.Outcome.next { s with dev := e }) (hvisit.trans ?_)
    rw [hline, Dev.after_still _ (hsame.still hstill)]
  case bad =>
    have hmark : d.SameService (d.crawlBad f n) := Dev.crawlBad_sameService hupf
    have hline := Dev.crawlFind_bad hpage hgallery (hidx.symm ▸ hresv) hfirst hsecond hmark.mem
    generalize d.crawlBad f n = e at hmark hline
    generalize hm : d.mem.retiredFree (frameChan f) (frameIdx f) f = m at hline
    have hraised : ({ e with mem := m } : Dev).SameService (d.crawlFind f n o) := hline ▸ Dev.raise_sameService _ _
    have hupe : ((d.crawlFind f n o).chan c).state = 3 := (hraised.chan c).state.trans ((hmark.chan c).state.trans hup)
    have hon := d.crawlOn_rest (i := i) (n := n) hupe
    generalize d.crawlOn (d.crawlFind f n o) c i n = t at hon hvisit
    have hsame := hraised.trans hon.service
    have hmem : t.mem = m := hsame.mem
    have hsettled : t.Settled := by
      have hstays := ((hsame.withMem e.mem).still (hmark.still hstill)).settled m
      rwa [← hmem] at hstays
    have hasks := t.askRelease_asks
    have hends : (d.crawl c i n o) = t.askRelease := hvisit.trans hsettled.after
    have hasked : t.askRelease.mem = m := hasks.mem.trans hmem
    generalize t.askRelease = u at hasks hends hasked
    subst hm
    have hexec : exec (.crawlLine c i n o) s = .next { s with dev := u } := by
      rw [← hends]
      rfl
    refine ⟨u, hexec, ?_, (congrArg Mem.dram hasked).trans rfl, ?_, ?_⟩
    · rw [hasked]
      exact List.mem_append_right _ List.mem_cons_self
    · rw [Dev.chan, hasks.chans]
      exact congrArg Chan.crawlDone hon.chan
    · rw [Dev.pool, hasked, hc, hidx]
      exact congrArg Pool.zeroed (mgetD_mset_self _ _ _ _)

/-- Settles O44: training by what full training leaves of a population that its SPDs allow, the crawl by what it may find in a line. -/
theorem trainingAndCrawl : Obligations.TrainingAndCrawl := ⟨trainingFindsChannels, crawlPasses⟩

end Sys2Proof.Machine
end

section
/-!
PROOFS. Flowstone: moves, sweeps, epochs, budget windows (R209, R239 to R256), and the windows of the classes (R500 to R508).
-/
namespace Sys2Proof.Machine

/-! ### Moves to a frame -/

theorem movesEnd : Claims.MovesEnd := by
  intro s n f m obs lines hrun d w hfind hdst
  have hcopy (e : Dev) (h : d.copyDone n obs lines = e) : exec (.moveCopyDone n obs lines) s = .next { s with dev := e } :=
    exec_dev rfl h
  have hcommit (e : Dev) (h : d.commitMove n = e) : exec (.moveCommit n) s = .next { s with dev := e } :=
    exec_dev rfl h
  have hexpire (e : Dev) (h : d.holdExpire n = e) : exec (.moveHoldDeadline n) s = .next { s with dev := e } :=
    exec_dev rfl h
  refine ⟨fun hwaits => ⟨hcopy d ?copyWaits, hcommit d ?commitWaits⟩, fun hphase hfree hready => ⟨fun hhot hmany hagain => hcopy _ ?again,
    fun hcold hdone => hcopy _ ?hold, fun hwarm x e hread => ⟨fun y hy hkept => hcopy _ ?spread, fun hx => hcopy _ ?lost⟩⟩,
    fun hphase hacks hfree hready => hcommit _ ?commit, fun hholds => hexpire _ ?expires⟩
  case copyWaits =>
    unfold Dev.copyDone
    rw [hfind]
    exact if_pos (.inr (.inr (.inr hwaits)))
  case commitWaits =>
    unfold Dev.commitMove
    rw [hfind]
    exact if_pos (.inr (.inr hwaits))
  case expires =>
    unfold Dev.holdExpire
    rw [hfind]
    exact if_pos (by simpa [Dev.holding] using hholds)
  case commit =>
    unfold Dev.commitMove
    rw [hfind]
    dsimp only
    rw [if_neg (by simp [hphase, hacks, hfree, hready]), hdst]
  all_goals
    have hmay : ¬ (m.phase ≠ 2 ∨ m.dst = .guest 0 none ∨ m.dst = .guest 1 none ∨ d.pageLocked m.g m.page ∨ d.pageWaits m.g m.page) := by
      simp [hphase, hdst, hfree, hready]
    unfold Dev.copyDone
    rw [hfind]
    dsimp only
    rw [if_neg hmay]
  case again =>
    rw [if_pos ⟨hhot, hmany, hagain⟩, hdst]
  case hold =>
    have hlast : ¬ (peSrc (d.entry m.g m.page) = 1 ∧ 16 < popCount m.dirty.toNat 64 ∧ m.rounds < 2) := fun h => by
      obtain ⟨hhot, hmany, hagain⟩ := h
      exact hdone.elim (fun h => h hhot) (by omega)
    rw [if_neg hlast, if_neg hcold]
    unfold Dev.copied
    dsimp only
    rw [hdst]
  case spread =>
    subst hy
    rw [if_neg (by rw [hwarm]; simp), if_pos hwarm, hread]
    dsimp only
    rw [if_neg (by rw [hkept]; decide)]
    unfold Dev.copied
    dsimp only
    rw [hdst]
  case lost =>
    subst hx
    rw [if_neg (by rw [hwarm]; simp), if_pos hwarm, hread]

/-! ### The windows of the classes -/

/-- Steps each of which writes the class of its own number write every class once. -/
theorem foldl_classes {f : Dev → Nat → Dev} {φ : Nat → QClass → QClass} (hf : ∀ d c k, (f d c).class k = (d.setClass c (φ c (d.class c))).class k) {l : List Nat}
    (hl : l.Nodup) (d : Dev) (k : Nat) : (l.foldl f d).class k = if k ∈ l then φ k (d.class k) else d.class k := by
  induction l generalizing d with
  | nil => rfl
  | cons c l ih =>
    obtain ⟨hnew, hrest⟩ := List.nodup_cons.mp hl
    rw [List.foldl_cons, ih hrest, hf]
    by_cases hk : k = c
    · subst hk
      rw [if_neg hnew, if_pos List.mem_cons_self, Dev.class_setClass]
    · rw [Dev.class_setClass_ne _ hk]
      simp [hk]

/-- What a class takes into its next window (R500, R501, R503, R507). -/
def QClass.nextWindow (x : QClass) (miss : Bool) : QClass := { x with charged := 0, cur := x.eff, missedN := if miss then x.missedN + 1 else x.missedN }

/-- What a class takes into its next period (R508). -/
def QClass.nextPeriod (x : QClass) : QClass := { x with missedN := 0, missed := x.missed || decide (x.thresh < x.missedN) }

theorem Dev.class_of_pace {d e : Dev} (h : e.pace = d.pace) (k : Nat) : e.class k = d.class k :=
  congrArg (fun p : Qos × AMap Chan × List Armed => mgetD p.1.classes k {}) h

/-- Whether a class misses its guarantee in a window (R503, R507): it was backlogged with budget left, or had a late request above its target. -/
def QClass.misses (x : QClass) (backlogged late : Bool) : Bool := (backlogged && decide (x.charged < 250 * x.cur)) || (late && decide (x.target ≠ 0))

/-- The end of a window, in RUN, for one class. -/
def Dev.classWindow (b late : BitVec 16) (many : List Nat) (d : Dev) (c : Nat) : Dev :=
  let x := d.class c
  let miss := x.misses (b.getLsbD c) (late.getLsbD c)
  let d := d.setClass c (x.nextWindow miss)
  let d := if miss then d.bump (64 + 4 * c + 2) else d
  if late.getLsbD c && x.target != 0 then d.bump (64 + 4 * c + 3) (max 1 (many.getD c 1)) else d

theorem Dev.windowEnd_run {d : Dev} (b late : BitVec 16) (many : List Nat) (hrun : d.power.mode = .run) :
    d.windowEnd b late many = ((List.range 16).foldl (Dev.classWindow b late many) d).onQos fun q => { q with windows := q.windows + 1, scrubUsed := [] } := by
  unfold Dev.windowEnd
  dsimp only
  rw [hrun]
  refine congrArg (fun f : Dev → Nat → Dev => ((List.range 16).foldl f d).onQos fun q => { q with windows := q.windows + 1, scrubUsed := [] }) ?_
  funext d c
  simp only [Dev.classWindow, QClass.misses, QClass.nextWindow, QClass.budget, beq_self_eq_true, Bool.true_or, Bool.true_and, decide_not, bne]
  rfl

theorem Dev.classWindow_eq (b late : BitVec 16) (many : List Nat) (d : Dev) (c : Nat) : ∃ cnt : Counters, d.classWindow b late many c =
    { d.setClass c ((d.class c).nextWindow ((d.class c).misses (b.getLsbD c) (late.getLsbD c))) with cnt := cnt } := by
  unfold Dev.classWindow
  dsimp only
  repeat' split
  all_goals exact ⟨_, rfl⟩

/-- The end of a period for one class. -/
def Dev.classPeriod (d : Dev) (c : Nat) : Dev :=
  let x := d.class c
  let d := d.setClass c x.nextPeriod
  if x.thresh < x.missedN then
    let d := d.event 0 0 0 (c + x.missedN % 2048 * 65536)
    if x.notify then d.interrupt x.nLink x.nLd x.vector else d
  else d

theorem Dev.periodEnd_eq (d : Dev) : d.periodEnd = ((List.range 16).foldl Dev.classPeriod d).onQos fun q => { q with windows := 0 } := rfl

theorem Dev.classPeriod_leaves (d : Dev) (c : Nat) :
    (d.classPeriod c).mem = d.mem ∧ ∀ k, (d.classPeriod c).class k = (d.setClass c (d.class c).nextPeriod).class k := by
  unfold Dev.classPeriod
  dsimp only
  split
  · split
    · exact ⟨(Dev.interrupt_keeps _ _ _ _).mem.trans (Dev.event_keeps _ _ _ _ _ _).mem,
        fun k => Dev.class_of_pace ((Dev.interrupt_pace _ _ _ _).trans (Dev.event_pace _ _ _ _ _ _)) k⟩
    · exact ⟨(Dev.event_keeps _ _ _ _ _ _).mem, fun k => Dev.class_of_pace (Dev.event_pace _ _ _ _ _ _) k⟩
  · exact ⟨rfl, fun _ => rfl⟩

theorem classWindows : Claims.ClassWindows := by
  intro s b late many hrun d
  have hwindow (d : Dev) (c : Nat) := d.classWindow_eq b late many c
  have hperiod := d.periodEnd_eq
  generalize hp : (List.range 16).foldl Dev.classPeriod d = p at hperiod
  refine ⟨⟨d.windowEnd b late many, rfl, ?_⟩, p.onQos fun q => { q with windows := 0 }, exec_dev rfl hperiod, rfl, ?_, fun k hk => ?_⟩
  · rw [Dev.windowEnd_run b late many hrun.1]
    have hrest {α : Type} (v : Dev → α) (hv : ∀ (d : Dev) c x cnt, v { d.setClass c x with cnt := cnt } = v d) :
        v ((List.range 16).foldl (Dev.classWindow b late many) d) = v d := by
      refine foldl_view v _ (fun d c => ?_) _ _
      obtain ⟨cnt, hcnt⟩ := hwindow d c
      rw [hcnt, hv]
    refine ⟨congrArg (· + 1) (hrest (·.qos.windows) fun _ _ _ _ => rfl), rfl, hrest Dev.mem fun _ _ _ _ => rfl, hrest Dev.faults fun _ _ _ _ => rfl, fun k hk => ?_⟩
    refine (foldl_classes (φ := fun c x => x.nextWindow (x.misses (b.getLsbD c) (late.getLsbD c))) (fun d c k => ?_) List.nodup_range d k).trans
      (if_pos (List.mem_range.mpr hk))
    obtain ⟨cnt, hcnt⟩ := hwindow d c
    rw [hcnt]
    rfl
  · exact (congrArg Dev.mem hp).symm.trans (foldl_view Dev.mem Dev.classPeriod (fun d c => (d.classPeriod_leaves c).1) (List.range 16) d)
  · have hclass := (foldl_classes (φ := fun _ x => x.nextPeriod) (fun d c => (d.classPeriod_leaves c).2) List.nodup_range d k).trans
      (if_pos (List.mem_range.mpr hk))
    rw [hp] at hclass
    exact hclass

end Sys2Proof.Machine
end

section
/-!
PROOFS. Flowstone's sweep, epochs, pressure runs and budget windows (R239 to R245, R249).
-/
namespace Sys2Proof.Machine

/-! ### Epochs and pressure runs -/

section Lists
variable {d : Dev}

/-- What closing the lists leaves (R241, R242). -/
structure Dev.Closes (d e : Dev) (reason : Nat) : Prop where
  flow : e.flow = { d.flow with summary := d.summaryOf reason, reason := reason, closedP := d.flow.promote, closedD := d.flow.demote, closedS := d.flow.spill }
  pages : e.pages = d.pages
  dram : e.mem.dram = d.mem.dram

theorem Dev.resvWords_rest (n : Nat) (line : Nat) (ws : List Nat) :
    (d.resvWords line n ws).flow = d.flow ∧ (d.resvWords line n ws).pages = d.pages ∧ (d.resvWords line n ws).mem.dram = d.mem.dram := by
  induction n generalizing d line ws with
  | zero => exact ⟨rfl, rfl, rfl⟩
  | succ n ih =>
    cases ws with
    | nil => exact ⟨rfl, rfl, rfl⟩
    | cons w ws => exact ih _ _

theorem Dev.closeLists_closes (reason : Nat) : d.Closes (d.closeLists reason) reason := by
  have hwords (α : Type) (v : Dev → α) (hv : ∀ (d : Dev) line n ws, v (d.resvWords line n ws) = v d) (b : Nat) (ls : List (List Nat)) (d : Dev) :
      v ((List.range 4).foldl (fun (d : Dev) i => d.resvWords (b + 1024 * i) 1024 ((ls[i]?).getD [])) d) = v d :=
    foldl_view v _ (fun _ _ => hv _ _ _ _) _ _
  constructor
  · exact hwords _ Dev.flow (fun d line n ws => (Dev.resvWords_rest n line ws).1) _ _ _
  · exact hwords _ Dev.pages (fun d line n ws => (Dev.resvWords_rest n line ws).2.1) _ _ _
  · exact hwords _ (·.mem.dram) (fun d line n ws => (Dev.resvWords_rest n line ws).2.2) _ _ _

/-- What the placing of a run leaves: plans at the end, and whether a loaded program runs (R241). -/
structure Dev.Places (d e : Dev) : Prop where
  flow : ∃ b, e.flow = { d.flow with running := b }
  mem : e.mem = d.mem
  frameWait : e.pages.frameWait = d.pages.frameWait
  plans : d.pages.plans <+: e.pages.plans

theorem Dev.policyRun_places (reason : Nat) : d.Places (d.policyRun reason) := by
  unfold Dev.policyRun
  split
  · exact ⟨⟨d.flow.running, rfl⟩, rfl, rfl, List.prefix_append _ _⟩
  · exact ⟨⟨true, rfl⟩, rfl, rfl, List.prefix_refl _⟩

theorem Dev.selfDemote_places : d.Places d.selfDemote := by
  unfold Dev.selfDemote
  split
  · exact ⟨⟨d.flow.running, rfl⟩, rfl, rfl, List.prefix_refl _⟩
  · exact ⟨⟨d.flow.running, rfl⟩, rfl, rfl, List.prefix_append _ _⟩

end Lists

/-- The lists that an epoch has closed, and its number. -/
structure Dev.Closed (d e : Dev) : Prop where
  epoch : e.flow.epoch = d.flow.epoch
  promote : e.flow.closedP = d.flow.promote
  demote : e.flow.closedD = d.flow.demote
  spill : e.flow.closedS = d.flow.spill
  reason : e.flow.reason = 0

theorem Dev.Closed.running {d e k : Dev} (h : d.Closed e) (hk : ∃ b, k.flow = { e.flow with running := b }) : d.Closed k := by
  obtain ⟨b, hb⟩ := hk
  constructor <;> rw [hb]
  · exact h.epoch
  · exact h.promote
  · exact h.demote
  · exact h.spill
  · exact h.reason

theorem Dev.heatBack_flow (d : Dev) (line : Nat) (b : MapBlock) : (d.heatBack line b).flow = d.flow := by
  unfold Dev.heatBack
  extract_lets area
  clear_value area
  rfl

theorem Dev.heatBackAll_flow (l : AMap MapBlock) (d : Dev) : (l.foldl (fun (d : Dev) e => d.heatBack e.1 e.2) d).flow = d.flow := by
  induction l generalizing d with
  | nil => rfl
  | cons e l ih => rw [List.foldl_cons, ih, Dev.heatBack_flow]

/-- The lists as they are closed, before the policy runs. -/
theorem Dev.closeLists_closed {d e : Dev} (he : e.flow = d.flow) : d.Closed ((e.closeLists 0).bump 1304) := by
  have hflow : ((e.closeLists 0).bump 1304).flow = _ := e.closeLists_closes 0 |>.flow
  constructor <;> rw [hflow, he]

/-- An epoch closes its lists, runs the policy and starts new lists (R241, R242). -/
theorem Dev.epochEnd_lists {d : Dev} (hrun : d.inRun) : ∃ e : Dev, d.Closed e ∧ d.epochEnd = e.onFlow fun f => { f with
    epoch := f.epoch + 1, promote := [], demote := [], spill := [], dropP := 0, dropD := 0, dropS := 0, histo := [] } := by
  have hguard : ¬ (!d.live ∨ d.asleep ∨ d.power.mode = .boot) := by simp [Dev.live, Dev.asleep, hrun.1, hrun.2]
  unfold Dev.epochEnd
  rw [if_neg hguard, d.wake_inRun 6 1 hrun]
  dsimp only
  have hclosed := Dev.closeLists_closed (d.heatBackAll_flow d.pages.cache)
  generalize ((d.pages.cache.foldl (fun (d : Dev) e => d.heatBack e.1 e.2) d).closeLists 0).bump 1304 = e at hclosed ⊢
  have hpolicy : d.Closed (if e.policyBusy then (e.event 0x370).bump 1305 else e.policyRun 0) := by
    split
    · exact hclosed.running ⟨e.flow.running, (Dev.event_keeps _ _ _ _ _ _).flow⟩
    · exact hclosed.running (Dev.policyRun_places 0).flow
  generalize (if e.policyBusy then (e.event 0x370).bump 1305 else e.policyRun 0) = k at hpolicy ⊢
  refine ⟨_, ?_, rfl⟩
  split <;> exact ⟨hpolicy.epoch, hpolicy.promote, hpolicy.demote, hpolicy.spill, hpolicy.reason⟩

/-- A pressure run (R243). -/
theorem Dev.pressureRun_leaves (d : Dev) :
    d.pressureRun.flow.pressureAt = some d.timeMs ∧ d.pressureRun.flow.reason = 1 ∧ d.pressureRun.flow.closedP = d.flow.promote ∧
      d.pressureRun.pages.frameWait = d.pages.frameWait ∧ d.pages.plans <+: d.pressureRun.pages.plans ∧ d.pressureRun.mem.dram = d.mem.dram := by
  have hclose := Dev.closeLists_closes (d := { d with flow := { d.flow with pressureAt := some d.timeMs } }) 1
  unfold Dev.pressureRun
  dsimp only
  generalize ({ d with flow := { d.flow with pressureAt := some d.timeMs } } : Dev).closeLists 1 = e at hclose ⊢
  have hplace : e.Places (e.policyRun 1) := Dev.policyRun_places 1
  have hdemote : ((e.policyRun 1).bump 1306).Places ((e.policyRun 1).bump 1306).selfDemote := Dev.selfDemote_places
  obtain ⟨b, hb⟩ := hplace.flow
  obtain ⟨c, hc⟩ := hdemote.flow
  have hflow : ((e.policyRun 1).bump 1306).selfDemote.flow = { e.flow with running := c } := by
    rw [hc, show ((e.policyRun 1).bump 1306).flow = _ from hb]
  refine ⟨?_, ?_, ?_, hdemote.frameWait.trans (hplace.frameWait.trans (congrArg Pages.frameWait hclose.pages)), ?_, ?_⟩
  · rw [hflow, hclose.flow]
  · rw [hflow, hclose.flow]
  · rw [hflow, hclose.flow]
  · exact (congrArg Pages.plans hclose.pages ▸ hplace.plans : d.pages.plans <+: _).trans hdemote.plans
  · exact (congrArg Mem.dram (hdemote.mem.trans hplace.mem)).trans hclose.dram

/-! ### Budget windows (R249) -/

section Budgets
variable {d : Dev}

/-- The budgets of a window as it begins. -/
def Dev.newWindow (d : Dev) : Dev :=
  d.onFlow fun k => { k with sweepUsed := 0, migUsed := k.migUsed - d.migCeiling, spillUsed0 := 0, spillUsed1 := 0 }

section Plans
variable (f : Flow → Flow)

/-! What is due to move does not depend on Flowstone's own accounts. -/

theorem Dev.sumpChain_onFlow (g page k n pos s : Nat) : (d.onFlow f).sumpChain g page k n pos s = d.sumpChain g page k n pos s := by
  induction n generalizing pos s with
  | zero => rfl
  | succ n ih =>
    have hbytes : (d.onFlow f).sectorBytes g page k pos s = d.sectorBytes g page k pos s := rfl
    unfold Dev.sumpChain
    simp only [hbytes, ih]

theorem Dev.sumpsOf_onFlow (g page : Nat) (h : Header) : (d.onFlow f).sumpsOf g page h = d.sumpsOf g page h := by
  simp only [Dev.sumpsOf, Dev.sumpOf, Dev.sumpChain_onFlow]

theorem Dev.galleryFrames_onFlow (g page loc : Nat) : (d.onFlow f).galleryFrames g page loc = d.galleryFrames g page loc := by
  have hgallery : (d.onFlow f).galleryOf g page = d.galleryOf g page := rfl
  simp only [Dev.galleryFrames, Dev.sumpsOf_onFlow, hgallery]

theorem Dev.liesIn_onFlow (g page : Nat) (p : Nat → Bool) : (d.onFlow f).liesIn g page p = d.liesIn g page p := by
  have hentry : (d.onFlow f).entry g page = d.entry g page := rfl
  simp only [Dev.liesIn, Dev.galleryFrames_onFlow, hentry]

theorem Dev.forcedPlans_onFlow : (d.onFlow f).forcedPlans = d.forcedPlans := by
  have hleave : (d.onFlow f).mustLeave = d.mustLeave := rfl
  simp only [Dev.forcedPlans, Dev.liesIn_onFlow, hleave]
  rfl

theorem Dev.compactable_onFlow : (d.onFlow f).compactable = d.compactable := by
  simp only [Dev.compactable, Dev.galleryFrames_onFlow]
  rfl

end Plans

/-- What is spent of the budgets, and what the Evoil port of link 0 has sent, leaves a still device still. -/
theorem Dev.Still.spent (h : d.Still) (sweep mig spill0 spill1 : Nat) (x : EvPort) (k : Counters) (o : List Out) :
    ({ d with
      flow := { d.flow with sweepUsed := sweep, migUsed := mig, spillUsed0 := spill0, spillUsed1 := spill1 }
      ev := { d.ev with p0 := x }, cnt := k, out := o } : Dev).Still where
  resume := h.resume
  snoops := h.snoops
  lost := h.lost
  hold := h.hold
  dying := h.dying
  misses := h.misses
  frames := h.frames
  rebuilds := h.rebuilds
  discards := h.discards
  asking := h.asking
  surplus := h.surplus
  armed := h.armed
  writes := h.writes
  owed := h.owed
  unsent := h.unsent

/-- With nothing planned, a budget window lets the traffic of the Evoil ports go on. -/
theorem Dev.budgets_idle (hrun : d.inRun) (hplans : d.pages.plans = []) (hforced : d.forcedPlans = []) (hcompact : d.compactable = []) :
    d.budgets = ((d.newWindow.evPump 0 1024).evPump 1 1024).after := by
  have hawake : d.awake = true := hrun.awake
  have hnone : d.newWindow.forcedPlans = [] := (Dev.forcedPlans_onFlow _).trans hforced
  have hfew : d.newWindow.compactable = [] := (Dev.compactable_onFlow _).trans hcompact
  have hidle : d.newWindow.pages.plans = [] := hplans
  have hsame : d.newWindow.onPages (fun p => { p with plans := p.plans ++ d.newWindow.forcedPlans }) = d.newWindow := by
    rw [hnone]
    simp only [List.append_nil]
    rfl
  have hrests : d.newWindow.compaction = d.newWindow := by
    unfold Dev.compaction
    rw [hfew, hidle]
    rfl
  have hstarts : d.newWindow.startPlans 64 = d.newWindow := by
    unfold Dev.startPlans
    rw [hidle]
    rfl
  unfold Dev.budgets
  dsimp only
  rw [show d.onFlow (fun k => { k with sweepUsed := 0, migUsed := k.migUsed - d.migCeiling, spillUsed0 := 0, spillUsed1 := 0 }) = d.newWindow from rfl, if_pos hawake,
    hsame, hrests, hstarts]

/-- What a flit with n bytes of spill traffic leaves as it goes out at the port of link 0. -/
theorem Dev.flitOut_eq (y : EvPort) (seq ack credit : Nat) (ms : List EvMsg) (n j : Nat) : ∃ k : Counters,
    (((((d.setEv 0 y).spillSpend 0 n).emit (.flit 0 1 seq ack credit false ms)).bump j).evCountOut 0) = { d with
    flow := { d.flow with spillUsed0 := d.flow.spillUsed0 + n }, ev := { d.ev with p0 := y }, cnt := k, out := d.out ++ [{ msg := .flit 0 1 seq ack credit false ms }] } := by
  simp only [Dev.setEv, Dev.spillSpend, Dev.onFlow, Dev.emit, Dev.bump, Dev.evCountOut, if_true]
  exact ⟨_, rfl⟩

/-- A port that has its partner's hello, with its one message sent. -/
def EvPort.fetched (x : EvPort) (m : EvMsg) : EvPort := { x with txq := [], echo := x.echo ++ [([m], 0)], nextSeq := x.nextSeq + 1, helloGot := true }

/-- A fetch that waits for its port's allowance goes in a flit of its own (R249). -/
theorem Dev.evPump_fetch (tag : Nat) (h : BitVec 33) (line : Nat) (n : Nat) (htx : d.ev.p0.txq = [.guestRead tag h line]) (hmay : d.ev.p0.maySend = true)
    (hgot : d.ev.p0.helloGot = true) (hleft : 64 ≤ d.spillLeft 0) :
    d.evPump 0 (n + 1) = (((((d.setEv 0 (d.ev.p0.fetched (.guestRead tag h line))).spillSpend 0 64).emit
      (.flit 0 1 d.ev.p0.nextSeq.toNat d.ev.p0.ack d.ev.p0.freed.toNat false [.guestRead tag h line])).bump (evCnt 0 0)).evCountOut 0) := by
  have hport : d.evPort 0 = d.ev.p0 := rfl
  have hsplit : spillSplit (d.spillLeft 0) d.ev.p0.txq = ([.guestRead tag h line], []) := by
    rw [htx]
    simp [spillSplit, spillBytes, hleft]
  have hsame : ({ d.ev.p0 with txq := [.guestRead tag h line] } : EvPort) = d.ev.p0 := by rw [← htx]
  unfold Dev.evPump
  rw [hport]
  simp only [hsplit]
  rw [if_pos (by rw [hsame]; exact hmay)]
  simp only [hgot, fillFlit, msgSlots]
  refine (Dev.evPump_none ?_ n).trans ?_
  · rfl
  · rfl

end Budgets

theorem flowstoneRuns : Claims.FlowstoneRuns := by
  intro s hrun d
  have hawake : d.awake = true := hrun.awake
  refine ⟨fun idx hnext hroom hread => exec_dev rfl ?sweeps, fun idx hstays => exec_dev rfl ?stays, ?epoch, fun hnone => exec_dev rfl ?settled,
    fun hwrites => ⟨exec_dev rfl ?presses, d.pressureRun_leaves⟩, fun hstill hplans hforced hcompact => ⟨fun h0 h1 => ?idle, fun tag h n h0 hmay hgot h1 hbud => ?fetch⟩⟩
  case sweeps =>
    refine if_neg ?_
    rintro (h | h | h | ⟨hmiss, hwaits⟩)
    · exact h hnext
    · exact absurd hawake (by simpa using h)
    · exact absurd hroom (Nat.not_le.mpr h)
    · rcases hread with hread | hread
      · exact absurd hread (by simpa using hmiss)
      · exact absurd hread (by simpa using hwaits)
  case stays =>
    refine if_pos ?_
    exact hstays.imp id fun h => .inr (.inl h)
  case epoch =>
    obtain ⟨e, he, hends⟩ := Dev.epochEnd_lists hrun
    exact ⟨_, exec_dev rfl hends, congrArg (· + 1) he.epoch, rfl, rfl, rfl, rfl, he.promote, he.demote, he.spill, he.reason, rfl, rfl, rfl⟩
  case settled => exact if_pos (.inl (by rw [hnone]; rfl))
  case presses =>
    refine if_neg ?_
    rintro (h | h)
    · exact hwrites (List.isEmpty_iff.mp h)
    · exact absurd hawake (by simpa using h)
  case idle =>
    have hstill' : d.newWindow.Still := hstill.spent _ _ _ _ d.ev.p0 d.cnt d.out
    refine exec_dev rfl ((Dev.budgets_idle hrun hplans hforced hcompact).trans ?_)
    rw [Dev.evPump_none (d := d.newWindow) (p := 0) h0, Dev.evPump_none (d := d.newWindow) (p := 1) h1]
    exact Dev.after_still _ hstill'
  case fetch =>
    have hleft : 64 ≤ d.newWindow.spillLeft 0 := by
      show 64 ≤ min (d.flow.spillBud * 250) 32000 - 0
      omega
    obtain ⟨k, hflit⟩ := d.newWindow.flitOut_eq (d.ev.p0.fetched (.guestRead tag h n))
      d.ev.p0.nextSeq.toNat d.ev.p0.ack d.ev.p0.freed.toNat [.guestRead tag h n] 64 (evCnt 0 0)
    have hpump := (Dev.evPump_fetch (d := d.newWindow) tag h n 1023 h0 hmay hgot hleft).trans hflit
    have hstill' := hstill.spent 0 (d.flow.migUsed - d.migCeiling) 64 0
      (d.ev.p0.fetched (.guestRead tag h n))
    have hquiet : ((d.newWindow.evPump 0 1024).evPort 1).txq = [] := by
      rw [hpump]
      exact h1
    have hends := Dev.budgets_idle hrun hplans hforced hcompact
    rw [Dev.evPump_none hquiet, hpump] at hends
    exact ⟨_, exec_dev rfl (hends.trans (Dev.after_still _ (hstill' k _))), rfl, rfl, rfl, rfl⟩

/-- Settles O45: each end of a move, sweep, epoch or window by the branch of its function that the hypotheses choose. -/
theorem flowstoneAndClasses : Obligations.FlowstoneAndClasses := ⟨movesEnd, flowstoneRuns, classWindows⟩

end Sys2Proof.Machine
end

section
/-!
PROOFS. What a read of DRAM that finds nothing wrong leaves, and the near cache's copy of what it read (R123 to R125, R189, R480).
-/
namespace Sys2Proof.Machine

/-! ### A counted read (R155, R501) -/

/-- A device that reads have left as it was, but for counters, accounts, open rows and the rotation of channels. -/
structure Dev.Counted (a b : Dev) : Prop where
  keeps : a.Keeps b
  service : a.SameService b
  chan : ∀ c, ∃ rows sub ptr, b.chan c = { a.chan c with rows := rows, sub := sub, ptr := ptr }
  faults : b.faults = a.faults
  out : b.out = a.out
  links : b.links = a.links
  power : b.power = a.power

theorem Dev.Counted.refl (d : Dev) : d.Counted d := ⟨.refl d, .refl d, fun _ => ⟨_, _, _, rfl⟩, rfl, rfl, rfl, rfl⟩

theorem Dev.Counted.trans {a b c : Dev} (h : a.Counted b) (k : b.Counted c) : a.Counted c where
  keeps := h.keeps.trans k.keeps
  service := h.service.trans k.service
  chan n := by
    obtain ⟨rows, sub, ptr, hn⟩ := k.chan n
    obtain ⟨_, _, _, hm⟩ := h.chan n
    exact ⟨rows, sub, ptr, by rw [hn, hm]⟩
  faults := k.faults.trans h.faults
  out := k.out.trans h.out
  links := k.links.trans h.links
  power := k.power.trans h.power

theorem Dev.setChan_counted {d : Dev} {c : Nat} (hup : (d.chan c).state = 3) (rows : AMap Nat) (sub ptr : Nat) :
    d.Counted (d.setChan c { d.chan c with rows := rows, sub := sub, ptr := ptr }) where
  keeps := d.setChan_keeps _ _
  service := Dev.setChan_sameService hup ⟨rfl, rfl, rfl, rfl⟩ (.inl rfl)
  chan n := by
    by_cases hn : n = c
    · subst hn
      exact ⟨rows, sub, ptr, Dev.chan_setChan_up hup⟩
    · exact ⟨_, _, _, Dev.chan_setChan_other (y := { d.chan c with rows := rows, sub := sub, ptr := ptr }) hup hn⟩
  faults := rfl
  out := rfl
  links := rfl
  power := rfl

section Read
variable {d e : Dev} {c f n cls : Nat}

theorem Dev.bump_counted (d : Dev) (n k : Nat) : d.Counted (d.bump n k) :=
  ⟨d.bump_keeps n k, d.bump_sameService n k, fun _ => ⟨_, _, _, rfl⟩, rfl, rfl, rfl, rfl⟩

theorem Dev.onCnt_counted (d : Dev) (g : Counters → Counters) : d.Counted (d.onCnt g) :=
  ⟨d.onCnt_keeps g, d.onCnt_sameService g, fun _ => ⟨_, _, _, rfl⟩, rfl, rfl, rfl, rfl⟩

theorem Dev.charge_counted (d : Dev) (c cls n : Nat) : d.Counted (d.charge c cls n) := by
  have hrest : (d.charge c cls n).chans = d.chans ∧ (d.charge c cls n).faults = d.faults ∧ (d.charge c cls n).out = d.out ∧
      (d.charge c cls n).links = d.links ∧ (d.charge c cls n).power = d.power := by
    unfold Dev.charge
    dsimp only
    repeat' split
    all_goals exact ⟨rfl, rfl, rfl, rfl, rfl⟩
  obtain ⟨hchans, hfaults, hout, hlinks, hpower⟩ := hrest
  have hchan (k : Nat) : (d.charge c cls n).chan k = d.chan k := by rw [Dev.chan, Dev.chan, hchans]
  exact ⟨d.charge_keeps c cls n, d.charge_sameService c cls n, fun k => ⟨_, _, _, hchan k⟩, hfaults, hout, hlinks, hpower⟩

theorem Dev.rouse_counted (hup : (d.chan c).state = 3) : d.Counted (d.rouse c cls) := by
  unfold Dev.rouse
  split
  · exact Dev.setChan_counted hup (d.chan c).rows (if d.power.mode = .doze then 1 else 0) (d.chan c).ptr
  · exact .refl d

theorem Dev.openRow_counted (k : Coord) (hup : (d.chan c).state = 3) : d.Counted (d.openRow c k) := by
  unfold Dev.openRow
  dsimp only
  split
  · exact d.bump_counted _ _
  · exact (Dev.setChan_counted hup (mset (d.chan c).rows k.cell k.row) (d.chan c).sub (d.chan c).ptr).trans (Dev.bump_counted _ _ _)

/-- A read for any class changes no more than its accounts. -/
theorem Dev.countRead_counted (hup : (d.chan (frameChan f)).state = 3) : d.Counted (d.countRead f n cls) := by
  have hrouse := Dev.rouse_counted (d := d) (cls := cls) hup
  have hstate : ((d.rouse (frameChan f) cls).chan (frameChan f)).state = 3 := (hrouse.service.chan _).state.trans hup
  exact (((hrouse.trans (Dev.openRow_counted (d.coord f n) hstate)).trans (Dev.onCnt_counted _ _)).trans (Dev.bump_counted _ _ _)).trans (Dev.charge_counted _ _ _ _)

end Read

section Same
variable {a b : Dev} (h : a.Counted b)
include h

theorem Dev.Counted.rankUp (f : Nat) : b.rankUp f = a.rankUp f := by
  obtain ⟨_, _, _, hc⟩ := h.chan (frameChan f)
  simp only [Dev.rankUp, hc]

theorem Dev.Counted.coord (f n : Nat) : b.coord f n = a.coord f n := by
  obtain ⟨_, _, _, hc⟩ := h.chan (frameChan f)
  simp only [Dev.coord, hc]

theorem Dev.Counted.inLostBank (f n : Nat) : b.inLostBank f n = a.inLostBank f n := by
  obtain ⟨_, _, _, hc⟩ := h.chan (frameChan f)
  simp only [Dev.inLostBank, hc, h.coord]

theorem Dev.Counted.dline (f n : Nat) : b.dline f n = a.dline f n := by
  obtain ⟨_, _, _, hc⟩ := h.chan (frameChan f)
  have hresv : b.resvFrames = a.resvFrames := by simp only [Dev.resvFrames, h.keeps.mem]
  have htrain : b.trainFrame f = a.trainFrame f := by
    unfold Dev.trainFrame
    rw [hc, hresv]
  simp only [Dev.dline, htrain, hc, h.keeps.mem]

theorem Dev.Counted.peek (f n : Nat) : b.peek f n = a.peek f n := by
  simp only [Dev.peek, h.dline, h.rankUp, h.inLostBank]

theorem Dev.Counted.entry (g page : Nat) : b.entry g page = a.entry g page := h.service.entry g page

theorem Dev.Counted.pageKey? (g page : Nat) : b.pageKey? g page = a.pageKey? g page := by
  simp only [Dev.pageKey?, Dev.grotto, h.keeps.keys, h.keeps.grottos]

theorem Dev.Counted.still (hs : a.Still) : b.Still := h.service.still hs

end Same

/-! ### The near cache keeps a clean line -/

/-- A dirty line more or less is what the hold load counts: a clean one adds nothing. -/
theorem sum_map_mset_le {α : Type} (v : Nat × α → Nat) (m : AMap α) (n : Nat) (x : α) (hx : v (n, x) = 0) : ((mset m n x).map v).sum ≤ (m.map v).sum := by
  induction m with
  | nil => simp [mset, hx]
  | cons e t ih =>
    obtain ⟨k, y⟩ := e
    unfold mset
    split
    · simp [hx]
    · split
      · simp [hx]
      · simpa using ih

section Cache
variable {d : Dev} {g line : Nat}

/-- A clean line in the near cache leaves a still device still. -/
theorem Dev.Still.cached (h : d.Still) {x : NcLine} (hx : x.dirty = false) (k : Nat) (dirtied : List Nat) (age : AMap Age) :
    ({ d with slices := { d.slices with nc := mset d.slices.nc k x, dirtied := dirtied, ncAge := age } } : Dev).Still := by
  have hload : ({ d with slices := { d.slices with nc := mset d.slices.nc k x, dirtied := dirtied, ncAge := age } } : Dev).holdLoad ≤ d.holdLoad := by
    unfold Dev.holdLoad
    have hsum := sum_map_mset_le (fun e : Nat × NcLine =>
      if !e.2.dirty then 0 else if peView (d.entry (keyGrotto e.1) (pageOf (keyLine e.1))) = 4 then 4096 else 64) d.slices.nc k x (by simp [hx])
    exact Nat.add_le_add_right (Nat.add_le_add_right hsum _) _
  constructor
  case lost =>
    intro e he hdirty
    obtain rfl | he := mset_mem _ _ _ _ he
    · exact absurd hdirty (by simp [hx])
    · exact h.lost e he hdirty
  case hold =>
    have hlimit := of_decide_eq_false h.hold
    exact decide_eq_false (fun hover => hlimit (Nat.lt_of_lt_of_le hover (Nat.add_le_add_right hload 0)))
  case resume => exact h.resume
  case snoops => exact h.snoops
  case dying => exact h.dying
  case misses => exact h.misses
  case frames => exact h.frames
  case rebuilds => exact h.rebuilds
  case discards => exact h.discards
  case asking => exact h.asking
  case surplus => exact h.surplus
  case armed => exact h.armed
  case writes => exact h.writes
  case owed => exact h.owed
  case unsent => exact h.unsent

/-- What a line put into the near cache leaves. -/
structure Dev.Cached (a b : Dev) (g line : Nat) (x : NcLine) : Prop where
  eq : ∃ dirtied age, b = { a with slices := { a.slices with nc := mset a.slices.nc (lineKey g line) x, dirtied := dirtied, ncAge := age } }

theorem Dev.ncPut_cached (d : Dev) (g line : Nat) (x : NcLine) : d.Cached (d.ncPut g line x) g line x := ⟨_, _, rfl⟩

theorem Dev.Cached.still {a b : Dev} {x : NcLine} (h : a.Cached b g line x) (hx : x.dirty = false) (hs : a.Still) : b.Still := by
  obtain ⟨_, _, rfl⟩ := h.eq
  exact hs.cached hx _ _ _

theorem Dev.Cached.get {a b : Dev} {x : NcLine} (h : a.Cached b g line x) : b.ncGet g line = some x := by
  obtain ⟨_, _, rfl⟩ := h.eq
  exact mget_mset_self _ _ _

/-- A reader's line takes a way of a set with room (R189). -/
theorem Dev.ncAlloc_room (harmed : d.faults.armed = []) (hnone : d.ncGet g line = none) (hroom : (d.ncWays g line).length < 16) (data : LineData) (p : Bool) (cls : Nat) :
    d.ncAlloc g line data p cls = d.ncPut g line { data := data, poison := p, cls := cls } := by
  have hflip (x : NcLine) : d.ncFlip g line x = (x, d) := by
    have htake (u akind addr : Nat) : d.takeFlip u akind addr = (none, d) := by
      unfold Dev.takeFlip Dev.armedOn
      rw [harmed]
      rfl
    unfold Dev.ncFlip
    rw [htake]
  have hway : d.ncRoom g line = some d := if_pos hroom
  unfold Dev.ncAlloc Dev.ncInstall
  rw [hnone, hway]
  simp only [hflip]
  rfl

end Cache

/-! ### The answer to a host (R22) -/

section Answer
variable {d : Dev} {r : Req} {h : MemHdr}

/-- A live host is sent the line that it reads. -/
theorem Dev.answerRead_host (hwho : r.who = .host h) (hlive : d.linkLive h.link = true) (data : LineData) (p : Bool) :
    ∃ k : Counters, d.answerRead r data p = { d with cnt := k, out := d.out ++ [{ msg := .memData h data p (r.op == .readE), source := (d.link h.link).pbr }] } := by
  unfold Dev.answerRead
  rw [hwho]
  dsimp only
  rw [if_pos hlive]
  exact ⟨_, rfl⟩

theorem Dev.Still.told {a : Dev} (hs : a.Still) (k : Counters) (o : List Out) : ({ a with cnt := k, out := o } : Dev).Still := hs.sent a.links k a.lds o

end Answer

end Sys2Proof.Machine
end

section
/-!
PROOFS. A line returns from DRAM (R87, R123, R125, R469, R479, R480).
-/
namespace Sys2Proof.Machine

/-! ### The scheduler's pick -/

theorem Dev.rankUp_state {d : Dev} {f : Nat} (h : d.rankUp f = true) : (d.chan (frameChan f)).state = 3 := by
  unfold Dev.rankUp at h
  simpa using (Bool.and_eq_true_iff.mp h).1

section Leave
variable {d e : Dev} {x : DRead} {ready : Option (List Nat)}

/-- A read that the scheduler picks leaves its queue, and nothing else but the rotation over the queues (R123, R125). -/
theorem Dev.readLeaves_counted (h : d.readLeaves x ready = some e) :
    ∃ ds, ({ d with pages := { d.pages with dreads := ds } } : Dev).Counted e := by
  unfold Dev.readLeaves at h
  dsimp only at h
  split at h
  · next hup =>
    obtain ⟨r, hr, rfl⟩ := Option.map_eq_some_iff.mp h
    have hread : r.write = false := by
      have hkept := (Option.filter_eq_some_iff.mp hr).2
      simpa using (Bool.and_eq_true_iff.mp hkept).2
    have hstate : (d.chan (frameChan x.frame)).state = 3 := Dev.rankUp_state hup
    have hpicked : d.picked (frameChan x.frame) r = _ := if_neg (by rw [hread]; decide)
    refine ⟨(d.picked (frameChan x.frame) r).pages.dreads.erase x, ?_⟩
    generalize hds : (d.picked (frameChan x.frame) r).pages.dreads.erase x = ds
    have hgone : (d.picked (frameChan x.frame) r).onPages (fun p => { p with dreads := p.dreads.erase x }) =
        { d.setChan (frameChan x.frame) { d.chan (frameChan x.frame) with ptr := (r.at_.queue + 1) % (32 * max 1 (d.chan (frameChan x.frame)).ranks) } with
          pages := { d.pages with dreads := ds } } := by
      rw [← hds, hpicked]
      rfl
    rw [hgone]
    exact Dev.setChan_counted (d := { d with pages := { d.pages with dreads := ds } }) hstate (d.chan (frameChan x.frame)).rows
      (d.chan (frameChan x.frame)).sub _
  · obtain rfl := Option.some.inj h
    exact ⟨_, .refl _⟩

theorem Dev.Still.reads (h : d.Still) (ds : List DRead) : ({ d with pages := { d.pages with dreads := ds } } : Dev).Still :=
  h.changed d.slices _ h.resume h.snoops rfl h.hold rfl h.dying h.misses h.frames h.writes

end Leave

/-! ### What the read finds -/

section Find
variable {d : Dev} {f n cls : Nat} {o : LineObs}

/-- A line of memory changes nothing of what a still device is judged by. -/
theorem Dev.Still.dram (h : d.Still) (m : AMap DLine) : ({ d with mem := { d.mem with dram := m } } : Dev).Still :=
  ⟨h.resume, h.snoops, h.lost, h.hold, h.dying, h.misses, h.frames, h.rebuilds, h.discards, h.asking, h.surplus, h.armed, h.writes, h.owed, h.unsent⟩

/-- So is the next value that the spec leaves free. -/
theorem Dev.Still.freed (h : d.Still) (n : Nat) : ({ d with freeCtr := n } : Dev).Still :=
  ⟨h.resume, h.snoops, h.lost, h.hold, h.dying, h.misses, h.frames, h.rebuilds, h.discards, h.asking, h.surplus, h.armed, h.writes, h.owed, h.unsent⟩

/-- Memory of another state in the place of both devices' own. -/
theorem Dev.Counted.withMem {a b : Dev} (h : a.Counted b) (m : Mem) : ({ a with mem := m } : Dev).Counted { b with mem := m } where
  keeps := { h.keeps with mem := rfl }
  service := h.service.withMem m
  chan := h.chan
  faults := h.faults
  out := h.out
  links := h.links
  power := h.power

theorem mget_merase_ne {α : Type} (m : AMap α) {k u : Nat} (hu : u ≠ k) : mget (merase m k) u = mget m u := by
  induction m with
  | nil => rfl
  | cons e t ih =>
    obtain ⟨j, v⟩ := e
    unfold merase
    split
    · next h => rw [mget_cons, if_neg (fun huj => hu (huj.trans h.symm))]
    · rw [mget_cons, mget_cons, ih]

/-- A sound line is read at the first attempt, for any class. -/
theorem Dev.dramRead_clean (hup : d.rankUp f = true) (hkept : d.inLostBank f n = false) (harmed : d.faults.armed = []) (hsound : (d.dline f n).errs = [])
    (hclean : o.first = .clean) (owner : Option (Nat × Nat)) :
    d.dramRead f n o owner cls = (d.dline f n, d.countRead f n cls) := by
  have hstate : (d.chan (frameChan f)).state = 3 := Dev.rankUp_state hup
  have hnone : (d.countRead f n cls).takeInvert (unitChan (frameChan f)) 3 f = (false, d.countRead f n cls) := by
    unfold Dev.takeInvert Dev.armedOn
    rw [(Dev.countRead_counted hstate).faults, harmed]
    rfl
  unfold Dev.dramRead
  dsimp only
  rw [if_neg (by rw [hup, hkept]; decide), hnone, hsound, hclean]
  rfl

/-- The device once a read has left, and what the read found in the codeword as it stood at its turn. -/
theorem Dev.readSeen_clean {seen : Option DLine} (hup : d.rankUp f = true) (hkept : d.inLostBank f n = false) (harmed : d.faults.armed = [])
    (hsound : (seen.getD (d.dline f n)).errs = []) (hdata : (seen.getD (d.dline f n)).kind = .data) (hclean : o.first = .clean) (owner : Option (Nat × Nat)) :
    ∃ (k : Dev) (m : AMap DLine), d.Counted k ∧ d.readSeen f n seen o owner cls = (seen.getD (d.dline f n), { k with mem := { d.mem with dram := m } }) ∧
      (∀ u, u ≠ dramKey f n → mget m u = mget d.mem.dram u) ∧ (seen = none → m = d.mem.dram) := by
  have hstate : (d.chan (frameChan f)).state = 3 := Dev.rankUp_state hup
  cases seen with
  | none =>
    have hcount := Dev.countRead_counted (d := d) (n := n) (cls := cls) hstate
    refine ⟨d.countRead f n cls, d.mem.dram, hcount, (Dev.dramRead_clean hup hkept harmed hsound hclean owner).trans ?_, fun _ _ => rfl, fun _ => rfl⟩
    have hmem := hcount.keeps.mem
    generalize d.countRead f n cls = e at hmem
    have hsame : ({ e with mem := d.mem } : Dev) = e := by rw [← hmem]
    exact congrArg (Prod.mk _) hsame.symm
  | some y =>
    have hstands : y ≠ {} := fun h => absurd (h ▸ hdata : (({} : DLine)).kind = .data) (by decide)
    generalize hput : d.onMem (fun m => { m with dram := mput m.dram {} (dramKey f n) y }) = e
    have hdram : e.mem = { d.mem with dram := mset d.mem.dram (dramKey f n) y } := by
      rw [← hput]
      exact congrArg (fun l => ({ d.mem with dram := l } : Mem)) (if_neg hstands)
    have hback : ({ e with mem := d.mem } : Dev) = d := by rw [← hput]; rfl
    have hline : e.dline f n = y := by
      unfold Dev.dline
      rw [hdram]
      dsimp only
      rw [mget_mset_self]
    have hread : e.dramRead f n o owner cls = (y, e.countRead f n cls) := by
      rw [← hline]
      refine Dev.dramRead_clean ?_ ?_ ?_ (hline ▸ hsound) hclean owner
      all_goals rw [← hput]
      · exact hup
      · exact hkept
      · exact harmed
    have hcount : e.Counted (e.countRead f n cls) := Dev.countRead_counted (by rw [← hput]; exact hstate)
    generalize e.countRead f n cls = k at hread hcount
    have hkmem : k.mem = { d.mem with dram := mset d.mem.dram (dramKey f n) y } := hcount.keeps.mem.trans hdram
    refine ⟨{ k with mem := d.mem }, match mget d.mem.dram (dramKey f n) with
      | some v => mset (mset d.mem.dram (dramKey f n) y) (dramKey f n) v
      | none => merase (mset d.mem.dram (dramKey f n) y) (dramKey f n), hback ▸ hcount.withMem d.mem, ?_, fun u hu => ?_, fun h => absurd h (by simp)⟩
    · unfold Dev.readSeen
      dsimp only
      rw [hput, hread]
      dsimp only
      unfold Dev.onMem
      rw [hkmem]
      rfl
    · split
      · rw [mget_mset_ne _ _ _ _ hu, mget_mset_ne _ _ _ _ hu]
      · rw [mget_merase_ne _ hu, mget_mset_ne _ _ _ _ hu]

end Find

/-! ### The line on its way to the host -/

section Deliver
variable {d : Dev} {r : Req} {h : MemHdr} {data : LineData}

/-- A codeword under the page's own key and tweak opens as its data. -/
theorem Dev.deliver_own {g page : Nat} {key : BitVec 512} (hkey : d.pageKey? g page = some key) (n : Nat) (data : LineData) :
    d.deliver g page n { kind := .data, key := key, tweak := lineTweak g page n, data := data } = (data, false, d) := by
  unfold Dev.deliver
  dsimp only
  rw [hkey]
  exact congrArg (fun y => (y, false, d)) (if_pos ⟨rfl, rfl⟩)

/-- A line that has been read, as the near cache takes it where it may and the host that waits gets it. -/
def Dev.handOver (d : Dev) (here : Bool) (r : Req) (data : LineData) (p : Bool) : Dev :=
  (if here then d.ncAlloc r.g r.line data p r.cls else d).answerRead r data p

/-- What that leaves of a still device. -/
structure Dev.HandedOver (d t : Dev) (here : Bool) (r : Req) (h : MemHdr) (data : LineData) (p : Bool) : Prop where
  still : t.Still
  out : t.out = d.out ++ [{ msg := .memData h data p (r.op == .readE), source := (d.link h.link).pbr }]
  pages : t.pages = d.pages
  mem : t.mem = d.mem
  faults : t.faults = d.faults
  cached : here = true → t.ncGet r.g r.line = some { data := data, poison := p, cls := r.cls }

theorem Dev.handOver_still (hstill : d.Still) (hwho : r.who = .host h) (hlive : d.linkLive h.link = true) (hnone : d.ncGet r.g r.line = none)
    (hroom : (d.ncWays r.g r.line).length < 16) (here : Bool) (p : Bool) : d.HandedOver (d.handOver here r data p) here r h data p := by
  unfold Dev.handOver
  cases here with
  | false =>
    obtain ⟨k, hk⟩ := Dev.answerRead_host hwho hlive data p
    rw [if_neg (by decide), hk]
    exact ⟨hstill.told k _, rfl, rfl, rfl, rfl, fun h => absurd h (by decide)⟩
  | true =>
    obtain ⟨⟨dirtied, age, hput⟩⟩ := d.ncPut_cached r.g r.line { data := data, poison := p, cls := r.cls }
    have halloc := (Dev.ncAlloc_room hstill.armed hnone hroom data p r.cls).trans hput
    have hcached := hstill.cached (x := { data := data, poison := p, cls := r.cls }) rfl (lineKey r.g r.line) dirtied age
    rw [if_pos rfl, halloc]
    obtain ⟨k, hk⟩ := Dev.answerRead_host (d := { d with slices := { d.slices with
      nc := mset d.slices.nc (lineKey r.g r.line) { data := data, poison := p, cls := r.cls }, dirtied := dirtied, ncAge := age } }) hwho hlive data p
    rw [hk]
    exact ⟨hcached.told k _, rfl, rfl, rfl, rfl, fun _ => mget_mset_self _ _ _⟩

/-- The same where reads have left slices, links and power as they were. -/
theorem Dev.handOver_same {b : Dev} (hb : b.Still) (hslices : b.slices = d.slices) (hlinks : b.links = d.links) (hpower : b.power = d.power) (hwho : r.who = .host h)
    (hlive : d.linkLive h.link = true) (hnone : d.ncGet r.g r.line = none) (hroom : (d.ncWays r.g r.line).length < 16) (here : Bool) (p : Bool) :
    b.HandedOver (b.handOver here r data p) here r h data p ∧ (b.link h.link).pbr = (d.link h.link).pbr := by
  have hlink : b.link h.link = d.link h.link := congrArg (fun l : AMap Link => mgetD l h.link {}) hlinks
  refine ⟨Dev.handOver_still hb hwho ?_ ?_ ?_ here p, congrArg Link.pbr hlink⟩
  · rw [← hlive, Dev.linkLive, Dev.linkLive, hlink, hpower]
  · exact (congrArg (fun sl : Slices => mget sl.nc (lineKey r.g r.line)) hslices).trans hnone
  · unfold Dev.ncWays
    rw [hslices]
    exact hroom

/-- The line returns as its read leaves its queue and finds the codeword (R123, R469, R480). -/
theorem Dev.lineReturn_eq {channel frame line : Nat} {o : LineObs} {ready : Option (List Nat)} {x : DRead} {e d1 d2 : Dev} {y : DLine} {p : Bool}
    (hfind : d.pages.dreads.find? (fun y => y.frame == mkFrame channel frame && y.line == line) = some x) (hleaves : d.readLeaves x ready = some e)
    (hread : e.readSeen (mkFrame channel frame) line x.seen o (some (x.req.g, x.req.line)) x.req.cls = (y, d1))
    (hdeliver : d1.deliver x.req.g (pageOf x.req.line) line y = (data, p, d2)) :
    d.lineReturn channel frame line o ready =
      (d2.handOver (x.seen.isNone && x.req.allocates && peView (d2.entry x.req.g (pageOf x.req.line)) == 1) x.req data p).after := by
  unfold Dev.lineReturn
  dsimp only
  rw [hfind]
  dsimp only
  rw [hleaves]
  dsimp only
  rw [hread]
  dsimp only
  rw [hdeliver]
  rfl

end Deliver

/-! ### A line that is uncorrectable twice (R479, R480) -/

section Bad
variable {d : Dev} {f n cls : Nat}

/-- Links and power have no part in the logs. -/
theorem Dev.logCopy_live (d : Dev) (r : FaultRec) : (d.logCopy r).links = d.links ∧ (d.logCopy r).power = d.power := by
  have hadd (d : Dev) (l ld log : Nat) (x : LogRec) : ((d.logAdd l ld log x).links, (d.logAdd l ld log x).power) = (d.links, d.power) := by
    unfold Dev.logAdd Dev.interrupt
    dsimp only
    repeat' split
    all_goals rfl
  have hall (l : List (Nat × Nat)) (f : Dev → Nat × Nat → Dev) (hf : ∀ d x, ((f d x).links, (f d x).power) = (d.links, d.power)) (d : Dev) :
      ((l.foldl f d).links, (l.foldl f d).power) = (d.links, d.power) := foldl_view (fun d : Dev => (d.links, d.power)) f hf l d
  unfold Dev.logCopy
  split
  · exact Prod.mk.inj (hall _ _ (fun _ _ => hadd _ _ _ _ _) d)
  · exact ⟨rfl, rfl⟩

/-- In RUN a fault that is not FATAL changes neither links nor power. -/
theorem Dev.raise_live (hrun : d.inRun) (h : Hap) (hcls : h.cls ≠ 4) : (d.raise h).links = d.links ∧ (d.raise h).power = d.power := by
  have henter (e : Dev) (r : FaultRec) (always : Bool) : (e.enter r always).links = e.links ∧ (e.enter r always).power = e.power := by
    unfold Dev.enter
    dsimp only
    repeat' split
    all_goals exact ⟨rfl, rfl⟩
  have hwake (e : Dev) (hpower : e.power = d.power) : (if 2 ≤ h.cls then e.wake 7 h.cls else e) = e := by
    split
    · exact e.wake_inRun 7 h.cls (by rw [Dev.inRun, hpower]; exact hrun)
    · rfl
  have hentered := henter (((d.number h).2.bump h.cls).onFaults fun f => { f with status := f.status ||| statusBit h.cls }) (d.number h).1
    (decide (2 ≤ h.cls) || h.code == 2)
  generalize hE : ((((d.number h).2.bump h.cls).onFaults fun f => { f with status := f.status ||| statusBit h.cls }).enter (d.number h).1
    (decide (2 ≤ h.cls) || h.code == 2)) = e at hentered
  have hraise : d.raise h = (if 2 ≤ h.cls then e.wake 7 h.cls else e).logCopy (d.number h).1 := by
    rw [← hE]
    exact if_neg hcls
  obtain ⟨hlinks, hpower⟩ := e.logCopy_live (d.number h).1
  rw [hraise, hwake e hentered.2]
  exact ⟨hlinks.trans hentered.1, hpower.trans hentered.2⟩

/-- What a fault on one line leaves of a device in RUN. -/
structure Dev.Contained (a b : Dev) : Prop where
  keeps : a.Keeps b
  service : a.SameService b
  links : b.links = a.links
  power : b.power = a.power
  total : b.faults.total = a.faults.total + 1

theorem Dev.poisonList_rest (d : Dev) (g line source : Nat) :
    ((d.poisonList g line source).pace, (d.poisonList g line source).links, (d.poisonList g line source).power, (d.poisonList g line source).faults) =
      (d.pace, d.links, d.power, d.faults) := by
  unfold Dev.poisonList
  generalize (d.grotto g).seenBy line = l
  refine foldl_view (fun d : Dev => (d.pace, d.links, d.power, d.faults)) _ ?_ l d
  intro _ _
  rfl

/-- CONTAINED on a line (R469): one fault record, and the line on the poison lists of those who see it. -/
theorem Dev.contain_contained (hrun : d.inRun) (code unit att g line source detail : Nat) : d.Contained (d.contain code unit att g line source detail) := by
  unfold Dev.contain
  generalize hh : ({ code := code, cls := 3, unit := unit, att := att, akind := 1, addr := d.devOffset g line, grotto := some g, detail := detail } : Hap) = h
  have hcls : h.cls = 3 := by rw [← hh]
  obtain ⟨hlinks, hpower⟩ := Dev.raise_live hrun h (by rw [hcls]; decide)
  obtain ⟨hpace, hlinks', hpower', hfaults⟩ : _ ∧ _ ∧ _ ∧ _ := by simpa using (d.raise h).poisonList_rest g line source
  have hkept := (d.raise h).poisonList_keeps g line source
  obtain ⟨hqos, hchans, harmed⟩ : _ ∧ _ ∧ _ := by simpa [Dev.pace] using hpace
  exact ⟨(d.raise_keeps h).trans hkept, (d.raise_sameService h).trans (.accounts hkept hchans (by rw [hqos]) harmed), hlinks'.trans hlinks, hpower'.trans hpower,
    (congrArg Faults.total hfaults).trans (d.raise_total h (by rw [hcls]; decide))⟩

/-- What a line that is uncorrectable twice leaves: poison in its place, and one fault. -/
structure Dev.Poisoned (a b : Dev) (f n : Nat) : Prop where
  still : a.Still → b.Still
  mem : b.mem = { a.mem with dram := mset a.mem.dram (dramKey f n) .poisoned }
  pages : b.pages = a.pages
  slices : b.slices = a.slices
  grottos : b.grottos = a.grottos
  links : b.links = a.links
  power : b.power = a.power
  total : b.faults.total = a.faults.total + 1

theorem Dev.dramRead_lasting {o : LineObs} {g line : Nat} (hrun : d.inRun) (hup : d.rankUp f = true) (hkept : d.inLostBank f n = false) (harmed : d.faults.armed = [])
    (hsound : (d.dline f n).errs = []) (hfirst : o.first = .uncorrectable) (hsecond : o.second = .uncorrectable) (hback : o.readBack = .clean) :
    ∃ b, d.dramRead f n o (some (g, line)) cls = (.poisoned, b) ∧ d.Poisoned b f n := by
  have hcount := Dev.countRead_counted (d := d) (f := f) (n := n) (cls := cls) (Dev.rankUp_state hup)
  have hnone : (d.countRead f n cls).takeInvert (unitChan (frameChan f)) 3 f = (false, d.countRead f n cls) := by
    unfold Dev.takeInvert Dev.armedOn
    rw [hcount.faults, harmed]
    rfl
  have hcounted := hcount.trans ((d.countRead f n cls).bump_counted (chCnt (frameChan f) 11) 1)
  generalize hk : (d.countRead f n cls).bump (chCnt (frameChan f) 11) = k at hcounted
  have hrunk : ({ k with mem := { k.mem with dram := mput k.mem.dram {} (dramKey f n) .poisoned } } : Dev).inRun := by
    rw [Dev.inRun, hcounted.power]
    exact hrun
  have hcont := Dev.contain_contained hrunk 0x1003 (unitChan (frameChan f)) 2 g line 2 (dramDetail (frameChan f) (d.coord f n) 0)
  refine ⟨({ k with mem := { k.mem with dram := mput k.mem.dram {} (dramKey f n) .poisoned } } : Dev).contain 0x1003 (unitChan (frameChan f)) 2 g line 2
    (dramDetail (frameChan f) (d.coord f n) 0), ?reads, ?leaves⟩
  case leaves => exact {
      still := fun h => hcont.service.still ((hcounted.still h).dram _)
      mem := hcont.keeps.mem.trans (by rw [hcounted.keeps.mem]; rfl)
      pages := hcont.keeps.pages.trans hcounted.keeps.pages
      slices := hcont.keeps.slices.trans hcounted.keeps.slices
      grottos := hcont.keeps.grottos.trans hcounted.keeps.grottos
      links := hcont.links.trans hcounted.links
      power := hcont.power.trans hcounted.power
      total := hcont.total.trans (by rw [hcounted.faults]) }
  case reads =>
    unfold Dev.dramRead
    dsimp only
    rw [if_neg (by rw [hup, hkept]; decide), hnone, hsound, hfirst, hsecond, hback]
    simp only [judge, Bool.false_eq_true, if_false, List.isEmpty_nil, if_true, hk, hcount.coord]

end Bad

theorem linesReturn : Claims.LinesReturn := by
  intro s chan frame line o ready x hrun hstill d f r hfind
  refine ⟨fun hstays => exec_dev rfl ?stays, fun h k data e hleaves hwho hlive hup hkept hkey hline hnone hroom => ?_⟩
  case stays =>
    show d.lineReturn chan frame line o ready = d
    unfold Dev.lineReturn
    dsimp only
    rw [hfind]
    dsimp only
    rw [hstays]
  have hentry : r.allocates = true := by
    show (match x.req.who with | .host _ => true | .engine _ _ | .mbox _ _ => x.req.op == .readS | _ => false) = true
    rw [hwho]
  obtain ⟨ds, hleft⟩ := Dev.readLeaves_counted hleaves
  have hstille : e.Still := hleft.still (hstill.reads ds)
  have hupe : e.rankUp f = true := (hleft.rankUp f).trans hup
  have hkepte : e.inLostBank f line = false := (hleft.inLostBank f line).trans hkept
  have hlinee : e.dline f line = d.dline f line := hleft.dline f line
  refine ⟨fun hclean => ?clean, fun hfirst hsecond hback hseen => ?bad⟩
  case clean =>
    obtain ⟨q, m, hq, hread, hother, hsame⟩ := Dev.readSeen_clean (d := e) (seen := x.seen) (cls := r.cls) hupe hkepte hstille.armed
      (by rw [hlinee, hline]) (by rw [hlinee, hline]) hclean (some (r.g, r.line))
    rw [hlinee, hline] at hread
    have hmem : e.mem = d.mem := hleft.keeps.mem
    have hstill1 : ({ q with mem := { e.mem with dram := m } } : Dev).Still := by
      have h := (hq.still hstille).dram m
      rwa [hq.keeps.mem] at h
    have hall := hleft.trans hq
    have hkey1 : q.pageKey? r.g (pageOf r.line) = some k := (hall.pageKey? _ _).trans hkey
    have hdeliver := Dev.deliver_own (d := { q with mem := { e.mem with dram := m } }) hkey1 line data
    have hreturn := Dev.lineReturn_eq hfind hleaves hread hdeliver
    have hentry1 : ({ q with mem := { e.mem with dram := m } } : Dev).entry r.g (pageOf r.line) = d.entry r.g (pageOf r.line) := hall.entry _ _
    rw [hentry1] at hreturn
    generalize hhere : (x.seen.isNone && x.req.allocates && peView (d.entry x.req.g (pageOf x.req.line)) == 1) = here at hreturn
    obtain ⟨hh, hpbr⟩ := Dev.handOver_same (d := d) (data := data) hstill1 hall.keeps.slices hall.links hall.power hwho hlive hnone hroom here false
    have hout : ({ q with mem := { e.mem with dram := m } } : Dev).out = d.out := hall.out
    have hreads : ({ q with mem := { e.mem with dram := m } } : Dev).pages = e.pages := hq.keeps.pages
    have hbmem : ({ q with mem := { e.mem with dram := m } } : Dev).mem = { d.mem with dram := m } := by rw [← hmem]
    generalize ({ q with mem := { e.mem with dram := m } } : Dev) = b at hh hreturn hout hreads hpbr hbmem
    refine ⟨_, exec_dev rfl (hreturn.trans (Dev.after_still _ hh.still)), ?out, ?reads, ?others, ?same, fun hseen hview => ?cached⟩
    case out => rw [hh.out, hout, hpbr]
    case reads => rw [hh.pages, hreads]
    case others =>
      intro u hu
      rw [hh.mem, hbmem]
      exact (hother u hu).trans (congrArg (fun m : Mem => mget m.dram u) hmem)
    case same =>
      intro hseen
      rw [hh.mem, hbmem, hsame hseen, hmem]
    case cached => exact hh.cached (by rw [← hhere, hseen, hentry, hview]; rfl)
  case bad =>
    rw [hseen] at hline
    have hsound : (e.dline f line).errs = [] := by
      rw [hlinee, show d.dline f line = _ from hline]
    obtain ⟨b, hread, hb⟩ := Dev.dramRead_lasting (g := r.g) (line := r.line) (cls := r.cls) (show e.inRun by rw [Dev.inRun, hleft.power]; exact hrun)
      hupe hkepte hstille.armed hsound hfirst hsecond hback
    have hstillb : b.Still := hb.still hstille
    have hread1 : e.readSeen f line x.seen o (some (r.g, r.line)) r.cls = (.poisoned, b) := by
      rw [hseen]
      exact hread
    have hreturn := Dev.lineReturn_eq (d2 := { b with freeCtr := b.freeCtr + 1 }) hfind hleaves hread1 rfl
    generalize (x.seen.isNone && x.req.allocates && peView (({ b with freeCtr := b.freeCtr + 1 } : Dev).entry x.req.g (pageOf x.req.line)) == 1) = here at hreturn
    obtain ⟨hh, hpbr⟩ := Dev.handOver_same (d := d) (data := Config.freeLine b.freeCtr) (hstillb.freed (b.freeCtr + 1)) (hb.slices.trans hleft.keeps.slices)
      (hb.links.trans hleft.links) (hb.power.trans hleft.power) hwho hlive hnone hroom here true
    have hmem : ({ b with freeCtr := b.freeCtr + 1 } : Dev).mem = { d.mem with dram := mset d.mem.dram (dramKey f line) .poisoned } := by
      rw [← show e.mem = d.mem from hleft.keeps.mem]
      exact hb.mem
    have htotal : ({ b with freeCtr := b.freeCtr + 1 } : Dev).faults.total = d.faults.total + 1 :=
      hb.total.trans (congrArg (fun x : Faults => x.total + 1) hleft.faults)
    generalize Config.freeLine b.freeCtr = y at hh hreturn
    generalize ({ b with freeCtr := b.freeCtr + 1 } : Dev) = a at hh hreturn hpbr hmem htotal
    refine ⟨_, y, exec_dev rfl (hreturn.trans (Dev.after_still _ hh.still)), ?answered, ?poisoned, ?counted, ?elsewhere⟩
    case answered =>
      rw [hh.out, hpbr]
      exact List.mem_append_right _ (List.mem_singleton_self _)
    case poisoned =>
      unfold Dev.dline
      rw [hh.mem, hmem]
      dsimp only
      rw [mget_mset_self]
      rfl
    case counted => rw [hh.faults, htotal]
    case elsewhere =>
      intro u hu
      rw [hh.mem, hmem]
      exact mget_mset_ne _ _ _ _ hu

end Sys2Proof.Machine
end

section
/-!
PROOFS. Map lines and sub-blocks come back (R89, R93, R94, R147, R149, R207, R208, R224).
-/
namespace Sys2Proof.Machine

/-! ### The gallery as reads leave it -/

section Gallery
/-- Devices whose pages, keys and lines a read finds alike. -/
structure Dev.ReadAlike (a b : Dev) : Prop where
  entry : ∀ g page, b.entry g page = a.entry g page
  pageKey? : ∀ g page, b.pageKey? g page = a.pageKey? g page
  peek : ∀ f n, b.peek f n = a.peek f n

theorem Dev.Counted.alike {a b : Dev} (h : a.Counted b) : a.ReadAlike b := ⟨h.entry, h.pageKey?, h.peek⟩

theorem Dev.ReadAlike.trans {a b c : Dev} (h : a.ReadAlike b) (k : b.ReadAlike c) : a.ReadAlike c :=
  ⟨fun g p => (k.entry g p).trans (h.entry g p), fun g p => (k.pageKey? g p).trans (h.pageKey? g p), fun f n => (k.peek f n).trans (h.peek f n)⟩

variable {a b : Dev} (h : a.ReadAlike b)
include h

theorem Dev.ReadAlike.headerAt (g page loc : Nat) (gen : BitVec 8) : b.headerAt g page loc gen = a.headerAt g page loc gen := by
  simp only [Dev.headerAt, h.pageKey?, h.peek]

theorem Dev.ReadAlike.galleryOf (g page : Nat) : b.galleryOf g page = a.galleryOf g page := by
  simp only [Dev.galleryOf, h.entry, h.headerAt]

theorem Dev.ReadAlike.sectorBytes (g page k pos s : Nat) : b.sectorBytes g page k pos s = a.sectorBytes g page k pos s := by
  simp only [Dev.sectorBytes, h.pageKey?, h.peek]

theorem Dev.ReadAlike.sumpChain (g page k n pos s : Nat) : b.sumpChain g page k n pos s = a.sumpChain g page k n pos s := by
  induction n generalizing pos s with
  | zero => rfl
  | succ n ih => simp only [Dev.sumpChain, h.sectorBytes, ih]

theorem Dev.ReadAlike.sumpOf (g page : Nat) (x : Header) (k : Nat) : b.sumpOf g page x k = a.sumpOf g page x k := by
  simp only [Dev.sumpOf, h.sumpChain]

theorem Dev.ReadAlike.subSectors (g page : Nat) (x : Header) (k : Nat) : b.subSectors g page x k = a.subSectors g page x k := by
  simp only [Dev.subSectors, h.sumpOf]

theorem Dev.ReadAlike.subData (g page : Nat) (x : Header) (k : Nat) : b.subData g page x k = a.subData g page x k := by
  simp only [Dev.subData, Dev.subStream, h.sectorBytes, h.sumpOf]

end Gallery

/-! ### Reads that find sound lines -/

section Touch
variable {d : Dev} {cls g : Nat}

/-- A line that one read finds whole. -/
def Dev.Sound (d : Dev) (e : Nat × Nat) : Prop := (d.peek e.1 e.2).isSome = true ∧ (d.dline e.1 e.2).errs = []

theorem Dev.Counted.sound {a b : Dev} (h : a.Counted b) {e : Nat × Nat} (hs : a.Sound e) : b.Sound e := by
  unfold Dev.Sound
  rw [h.peek, h.dline]
  exact hs

theorem Dev.touch_sound {e : Nat × Nat} (harmed : d.faults.armed = []) (hs : d.Sound e) : d.touch cls g e = (true, d.countRead e.1 e.2 cls) ∧ d.Counted (d.countRead e.1 e.2 cls) := by
  obtain ⟨hpeek, herrs⟩ := hs
  have hreadable : d.rankUp e.1 = true ∧ d.inLostBank e.1 e.2 = false ∧ ((d.dline e.1 e.2).kind != .poison) = true := by
    unfold Dev.peek at hpeek
    dsimp only at hpeek
    split at hpeek
    · next h =>
      simp only [Bool.and_eq_true, Bool.not_eq_true'] at h
      exact ⟨h.1.1.1, h.1.1.2, h.1.2⟩
    · exact absurd hpeek (by decide)
  obtain ⟨hup, hkept, hgood⟩ := hreadable
  have hcount := Dev.countRead_counted (d := d) (n := e.2) (cls := cls) (Dev.rankUp_state hup)
  have hnone : (d.countRead e.1 e.2 cls).takeInvert (unitChan (frameChan e.1)) 3 e.1 = (false, d.countRead e.1 e.2 cls) := by
    unfold Dev.takeInvert Dev.armedOn
    rw [hcount.faults, harmed]
    rfl
  refine ⟨?_, hcount⟩
  unfold Dev.touch
  dsimp only
  rw [if_neg (by rw [hup, hkept]; decide), hnone, herrs, hgood]
  rfl

theorem Dev.touchAll_sound (harmed : d.faults.armed = []) (es : List (Nat × Nat)) (hs : ∀ e ∈ es, d.Sound e) :
    ∃ t, d.touchAll cls g es = (true, t) ∧ d.Counted t := by
  unfold Dev.touchAll
  induction es generalizing d with
  | nil => exact ⟨d, rfl, .refl d⟩
  | cons e es ih =>
    obtain ⟨htouch, hcount⟩ := Dev.touch_sound (cls := cls) (g := g) harmed (hs e List.mem_cons_self)
    obtain ⟨t, ht, hcounted⟩ := ih (by rw [hcount.faults, harmed]) fun x hx => hcount.sound (hs x (List.mem_cons_of_mem _ hx))
    refine ⟨t, ?_, hcount.trans hcounted⟩
    rw [List.foldl_cons]
    dsimp only
    rw [htouch]
    exact ht

theorem Dev.headerRead_sound {page : Nat} {o : LineObs} {x : Header} (harmed : d.faults.armed = [])
    (hs : d.Sound (locFrame (peLoc (d.entry g page)), locLine (peLoc (d.entry g page)))) (hclean : o.first = .clean) (hgallery : d.galleryOf g page = some x) :
    ∃ t, d.headerRead g page cls o = (some x, t) ∧ d.Counted t := by
  obtain ⟨htouch, hcount⟩ := Dev.touch_sound (cls := cls) (g := g) harmed hs
  refine ⟨_, ?_, hcount⟩
  unfold Dev.headerRead
  dsimp only
  rw [htouch, hclean]
  dsimp only
  rw [hcount.alike.galleryOf, hgallery]
  rfl

/-- A decompression is counted for a unit that the spec leaves free. -/
theorem Dev.decompressions_counted (d : Dev) : ∃ n, ({ d with freeCtr := n } : Dev).Counted (d.decompressions 1) :=
  ⟨d.freeCtr + 1, Dev.bump_counted { d with freeCtr := d.freeCtr + 1 } _ 1⟩

/-- A sub-block with a line that no poison marks is not one that is lost. -/
theorem Header.dead_of_line {x : Header} {n : Nat} (h : x.poison.getLsbD n = false) : x.dead (n / 16) = false := by
  unfold Header.dead
  rw [beq_eq_false_iff_ne]
  intro hall
  have hbit : (x.poison.toNat / 2 ^ (16 * (n / 16)) % 2 ^ 16).testBit (n % 16) = (2 ^ 16 - 1 : Nat).testBit (n % 16) := congrArg (Nat.testBit · (n % 16)) hall
  rw [Nat.testBit_mod_two_pow, Nat.testBit_two_pow_sub_one, Nat.testBit_div_two_pow, Nat.mod_add_div] at hbit
  rw [BitVec.getLsbD] at h
  have hlt : n % 16 < 16 := Nat.mod_lt _ (by decide)
  simp [hlt, h] at hbit

theorem Dev.subRead_sound {page k : Nat} {o : SubObs} {x : Header} {ls : List LineData} (harmed : d.faults.armed = []) (hzero : (x.desc k).zero = false)
    (hdead : x.dead k = false) (hok : o.firstOk = true) (hdata : d.subData g page x k = some ls)
    (hs : ∀ e ∈ (d.subSectors g page x k).flatMap sectorLines, d.Sound e) :
    ∃ n t, d.subRead g page k cls x o = (some ls, t) ∧ ({ d with freeCtr := n } : Dev).Counted t := by
  obtain ⟨n, hcount⟩ := d.decompressions_counted
  obtain ⟨t, ht, hcounted⟩ := Dev.touchAll_sound (d := d.decompressions 1) (cls := cls) (g := g) (by rw [hcount.faults]; exact harmed)
    ((d.subSectors g page x k).flatMap sectorLines) fun e he => hcount.sound (hs e he)
  refine ⟨n, t, ?_, hcount.trans hcounted⟩
  unfold Dev.subRead
  dsimp only
  rw [if_neg (by rw [hzero, hdead]; decide), hdata, ht, hok]
  rfl

end Touch

/-! ### The other lines of the sub-block are offered to the near cache (R93) -/

section Offer

theorem lineKey_ne {g m n : Nat} (h : m ≠ n) : lineKey g m ≠ lineKey g n := by
  unfold lineKey
  omega

/-- What the lines that a sub-block's read brings along leave of a still device, and of one line. -/
structure Dev.Offered (a b : Dev) (g line : Nat) : Prop where
  still : a.Still → b.Still
  out : b.out = a.out
  links : b.links = a.links
  power : b.power = a.power
  pages : b.pages = a.pages
  mem : b.mem = a.mem
  cached : b.ncGet g line = a.ncGet g line

theorem Dev.Offered.refl (d : Dev) (g line : Nat) : d.Offered d g line := ⟨id, rfl, rfl, rfl, rfl, rfl, rfl⟩

theorem Dev.Offered.trans {a b c : Dev} {g line : Nat} (h : a.Offered b g line) (k : b.Offered c g line) : a.Offered c g line :=
  ⟨k.still ∘ h.still, k.out.trans h.out, k.links.trans h.links, k.power.trans h.power, k.pages.trans h.pages, k.mem.trans h.mem, k.cached.trans h.cached⟩

theorem Dev.ncPut_offered {g l line : Nat} (d : Dev) (hl : l ≠ line) {x : NcLine} (hx : x.dirty = false) : d.Offered (d.ncPut g l x) g line := by
  have hput := d.ncPut_cached g l x
  refine ⟨hput.still hx, rfl, rfl, rfl, rfl, rfl, ?_⟩
  obtain ⟨_, _, heq⟩ := hput.eq
  rw [heq]
  exact mget_mset_ne _ _ _ _ (lineKey_ne hl.symm)

theorem Dev.offerSub_offered (d : Dev) (g page k line cls : Nat) (x : Contents) : d.Offered (d.offerSub g page k line cls x) g line := by
  unfold Dev.offerSub
  refine List.foldlRecOn (motive := fun e => d.Offered e g line) _ _ (.refl d g line) fun e he i _ => he.trans ?_
  dsimp only
  split
  · next h => exact e.ncPut_offered h.1 rfl
  · exact .refl e g line

end Offer

/-! ### The host that waits for a line of the sub-block -/

section Serve
variable {d : Dev} {r : Req} {h : MemHdr}

/-- What a sub-block that its unit read leaves of a still device. -/
structure Dev.Served (d t : Dev) (r : Req) (h : MemHdr) (data : LineData) : Prop where
  still : t.Still
  out : t.out = d.out ++ [{ msg := .memData h data false (r.op == .readE), source := (d.link h.link).pbr }]
  pages : t.pages = d.pages
  mem : t.mem = d.mem
  cached : t.ncGet r.g r.line = some { data := data, cls := r.cls }

theorem Dev.giveLine_served (hstill : d.Still) (hwho : r.who = .host h) (hlive : d.linkLive h.link = true) (hnone : d.ncGet r.g r.line = none)
    (hroom : (d.ncWays r.g r.line).length < 16) (x : Contents) (data : LineData) : d.Served (d.giveLine r x data) r h data := by
  have hallocates : r.allocates = true := by
    unfold Req.allocates
    rw [hwho]
  have hput := d.ncPut_cached r.g r.line { data := data, cls := r.cls }
  have hcached := hput.get
  have hputs := hput.still rfl hstill
  have hoff := (d.ncPut r.g r.line { data := data, cls := r.cls }).offerSub_offered r.g (pageOf r.line) (lineIn r.line / 16) r.line r.cls x
  unfold Dev.giveLine
  rw [if_pos hallocates, Dev.ncAlloc_room hstill.armed hnone hroom]
  generalize hput' : d.ncPut r.g r.line { data := data, cls := r.cls } = e at hcached hputs hoff ⊢
  have hsame : (e.links, e.power, e.out, e.pages, e.mem) = (d.links, d.power, d.out, d.pages, d.mem) := by rw [← hput']; rfl
  obtain ⟨hlinks, hpower, hout, hpages, hmem⟩ : _ ∧ _ ∧ _ ∧ _ ∧ _ := by simpa using hsame
  generalize e.offerSub r.g (pageOf r.line) (lineIn r.line / 16) r.line r.cls x = a at hoff ⊢
  have hlink : a.link h.link = d.link h.link := congrArg (fun l : AMap Link => mgetD l h.link {}) (hoff.links.trans hlinks)
  obtain ⟨k, hk⟩ := Dev.answerRead_host (d := a) (r := r) hwho (by rw [← hlive, Dev.linkLive, Dev.linkLive, hlink, hoff.power, hpower]) data false
  rw [hk]
  exact {
    still := (hoff.still hputs).told k _
    out := by rw [hoff.out, hout, hlink]
    pages := hoff.pages.trans hpages
    mem := hoff.mem.trans hmem
    cached := hoff.cached.trans hcached }

/-- A line that its unit read whole goes to the reader. -/
theorem Dev.serveSub_whole {x : Contents} {ls : List LineData} (hsub : x.subs.getD (lineIn r.line / 16) none = some ls)
    (hsound : x.header.poison.getLsbD (lineIn r.line) = false) : d.serveSub r x = d.giveLine r x (ls.getD (lineIn r.line % 16) 0) := by
  unfold Dev.serveSub Contents.line Header.line
  dsimp only
  rw [hsub, hsound]
  rfl

end Serve

theorem Dev.countMap_counted (d : Dev) (idx cls : Nat) (hdead : d.mapDead idx = false) : d.Counted (d.countMap idx cls) := by
  unfold Dev.countMap
  unfold Dev.mapDead at hdead
  cases hhome : d.mapHome idx with
  | none => exact .refl d
  | some e =>
    rw [hhome, Option.any_some, Bool.or_eq_false_iff, Bool.not_eq_false'] at hdead
    exact Dev.countRead_counted (Dev.rankUp_state hdead.1)

/-- A map line once it is read, before it enters the map cache. -/
def Dev.mapRead (d : Dev) (idx cls : Nat) : Dev := (d.countMap idx cls).onPages fun p => { p with fills := p.fills.filter fun y => y.lineIdx != idx }

theorem Dev.mapRead_linePages (d : Dev) (idx cls : Nat) (hdead : d.mapDead idx = false) : (d.mapRead idx cls).linePages idx = d.linePages idx := by
  have hgrottos : (d.mapRead idx cls).grottos = d.grottos := (d.countMap_counted idx cls hdead).keeps.grottos
  simp only [Dev.linePages, Dev.grottoAt, Dev.grotto, hgrottos]

/-- A map line whose entries are all committed and sound stays as it is. -/
theorem Dev.readEntries_sound (d : Dev) (l : List (Nat × Nat)) (hl : ∀ e ∈ l, peCorrupt (d.entry e.1 e.2) = false ∧ peCommit (d.entry e.1 e.2) = true) :
    l.foldl (fun d e => d.readEntry e.1 e.2) d = d :=
  List.foldlRecOn (motive := fun b => b = d) l _ rfl fun b hb e he => by
    obtain ⟨hsound, hcommit⟩ := hl e he
    rw [hb]
    unfold Dev.readEntry
    dsimp only
    rw [hsound, hcommit]
    rfl

theorem Dev.fillReturn_sound (d : Dev) {idx : Nat} {o : LineObs} {f : Fill} {r : Req} {rest : List Req} (hclean : o.first = .clean) (hwaits : d.mapWaits idx = false)
    (hdead : d.mapDead idx = false) (hfind : d.pages.fills.find? (fun y => y.lineIdx == idx) = some f) (hwaiting : f.waiting = r :: rest)
    (hentries : ∀ e ∈ d.linePages idx, peCorrupt (d.entry e.1 e.2) = false ∧ peCommit (d.entry e.1 e.2) = true) :
    d.fillReturn idx o = match (d.mapRead idx r.cls).mapInsert idx r.g with
      | some k => (k.againAll 1 (r :: rest)).after
      | none => ((d.mapRead idx r.cls).onPages fun p => { p with mapWait := p.mapWait ++ r :: rest }).after := by
  have hentry (g page : Nat) : (d.mapRead idx r.cls).entry g page = d.entry g page := (d.countMap_counted idx r.cls hdead).entry g page
  have hread := (d.mapRead idx r.cls).readEntries_sound (d.linePages idx) fun e he => by
    rw [hentry]
    exact hentries e he
  rw [← d.mapRead_linePages idx r.cls hdead] at hread
  unfold Dev.fillReturn
  dsimp only
  rw [hfind]
  dsimp only
  have hfold : (d.countMap idx r.cls).onPages (fun p => { p with fills := p.fills.filter fun y => y.lineIdx != idx }) = d.mapRead idx r.cls := rfl
  rw [if_neg (by rw [hwaits]; decide), hdead, hwaiting, hclean]
  simp only [judge, Bool.false_eq_true, if_false, List.head?_cons, Option.map_some, Option.getD_some, hfold]
  generalize ((d.mapRead idx r.cls).linePages idx).foldl (fun d e => d.readEntry e.1 e.2) (d.mapRead idx r.cls) = e at hread ⊢
  subst hread
  generalize (d.mapRead idx r.cls).mapInsert idx r.g = k
  cases k <;> rfl

/-- The device once the reads that wait for a sub-block are taken up. -/
def Dev.subTaken (d : Dev) (g page sub : Nat) : Dev :=
  d.onPages fun p => { p with sreads := p.sreads.filter fun y => !(y.g == g && y.page == page && y.sub == sub) }

theorem Dev.Still.subTaken {d : Dev} (h : d.Still) (g page sub : Nat) : (d.subTaken g page sub).Still :=
  h.changed d.slices _ h.resume h.snoops rfl h.hold rfl h.dying h.misses h.frames h.writes

/-- A sub-block that its unit reads answers the one host that waits for a line of it. -/
theorem Dev.subReturn_served {d : Dev} {g page sub : Nat} {o : SubObs} {r : Req} {h : MemHdr} {x : Header} {ls : List LineData} (hstill : d.Still)
    (hok : o.firstOk = true) (hclean : o.header.first = .clean) (hwaits : d.pageWaits g page = false) (hunit : d.subHasUnit (g, page, sub) = true)
    (hread : d.pages.sreads.filter (fun y => y.g == g && y.page == page && y.sub == sub) = [⟨g, page, sub, r⟩]) (hwho : r.who = .host h)
    (hlive : d.linkLive h.link = true) (hg : r.g = g) (hsub : lineIn r.line / 16 = sub) (hview : peView (d.entry g page) = 2)
    (hgallery : d.galleryOf g page = some x) (hzero : (x.desc sub).zero = false) (hsound : x.poison.getLsbD (lineIn r.line) = false)
    (hdata : d.subData g page x sub = some ls)
    (hlines : ∀ e ∈ (locFrame (peLoc (d.entry g page)), locLine (peLoc (d.entry g page))) :: (d.subSectors g page x sub).flatMap sectorLines, d.Sound e)
    (hnone : d.ncGet g r.line = none) (hroom : (d.ncWays g r.line).length < 16) :
    ∃ b t : Dev, d.subReturn g page sub o = t.after ∧ b.Served t r h (ls.getD (r.line % 16) 0) ∧ b.out = d.out ∧ b.links = d.links ∧ b.mem = d.mem ∧
      b.pages = (d.subTaken g page sub).pages := by
  have htaken := hstill.subTaken g page sub
  have halike : d.ReadAlike (d.subTaken g page sub) := ⟨fun _ _ => rfl, fun _ _ => rfl, fun _ _ => rfl⟩
  obtain ⟨e, he, hcount⟩ := Dev.headerRead_sound (d := d.subTaken g page sub) (cls := r.cls) (g := g) htaken.armed (hlines _ List.mem_cons_self) hclean hgallery
  have hboth := halike.trans hcount.alike
  obtain ⟨n, b, hb, hcounted⟩ := Dev.subRead_sound (d := e) (cls := r.cls) (g := g) (by rw [hcount.faults]; exact htaken.armed) hzero (hsub ▸ x.dead_of_line hsound) hok
    ((hboth.subData g page x sub).trans hdata) fun y hy => by
      rw [hboth.subSectors] at hy
      exact hcount.sound (hlines y (List.mem_cons_of_mem _ hy))
  have hfree : e.ReadAlike { e with freeCtr := n } := ⟨fun _ _ => rfl, fun _ _ => rfl, fun _ _ => rfl⟩
  have hgallery2 : b.galleryOf g page = some x := (((hboth.trans hfree).trans hcounted.alike).galleryOf g page).trans hgallery
  have hstillb : b.Still := hcounted.still ((hcount.still htaken).freed n)
  have hlinks : b.links = d.links := hcounted.links.trans hcount.links
  have hslices : b.slices = d.slices := hcounted.keeps.slices.trans hcount.keeps.slices
  have hlink : b.link h.link = d.link h.link := congrArg (fun l : AMap Link => mgetD l h.link {}) hlinks
  have hserved := Dev.giveLine_served hstillb hwho
    (by rw [← hlive, Dev.linkLive, Dev.linkLive, hlink, hcounted.power, show ({ e with freeCtr := n } : Dev).power = d.power from hcount.power])
    ((congrArg (fun sl : Slices => mget sl.nc (lineKey r.g r.line)) hslices).trans (hg ▸ hnone))
    (by rw [Dev.ncWays, hslices]; exact hg ▸ hroom) ⟨x, (List.replicate 4 none).set sub (some ls)⟩ (ls.getD (r.line % 16) 0)
  refine ⟨b, _, ?_, hserved, hcounted.out.trans hcount.out, hlinks, hcounted.keeps.mem.trans hcount.keeps.mem, hcounted.keeps.pages.trans hcount.keeps.pages⟩
  have hlt : sub < 4 := by
    unfold lineIn at hsub
    omega
  have hserve := b.serveSub_whole (r := r) (x := ⟨x, (List.replicate 4 none).set sub (some ls)⟩) (ls := ls) (by simp [hsub, hlt]) hsound
  have hpos : lineIn r.line % 16 = r.line % 16 := Nat.mod_mod_of_dvd _ ⟨4, rfl⟩
  rw [hpos] at hserve
  unfold Dev.subReturn
  dsimp only
  rw [if_neg (by rw [hwaits]; decide), hunit, if_pos rfl, hread]
  have hone : [(⟨g, page, sub, r⟩ : SRead)].map (fun x => x.req) = [r] := rfl
  have hcls : (([r].head?).map Req.cls).getD 0 = r.cls := rfl
  have hfold : d.onPages (fun p => { p with sreads := p.sreads.filter fun y => !(y.g == g && y.page == page && y.sub == sub) }) = d.subTaken g page sub := rfl
  have htakenview : peView ((d.subTaken g page sub).entry g page) = 2 := hview
  rw [hone, hcls, hfold, if_neg (show ¬[r].isEmpty = true from Bool.false_ne_true), if_neg (by rw [htakenview]; decide), he]
  dsimp only
  rw [hb]
  dsimp only
  rw [hgallery2, Option.getD_some, List.foldl_cons, List.foldl_nil, hserve]

theorem fillsAndSubBlocks : Claims.FillsAndSubBlocks := by
  intro s hrun d
  refine ⟨fun idx o hwaits => exec_dev rfl ?fillWaits, fun idx o f r rest hclean hwaits hdead hfind hwaiting hentries => exec_dev rfl ?fill,
    fun g page sub o hwaits => exec_dev rfl ?subWaits, fun g page sub o r h x ls hstill hok hclean hwaits hunit hread hwho hlive hg hpage hsub hview hgallery hzero
      hsound hdata hlines hnone hroom => ?sub⟩
  case fillWaits =>
    show d.fillReturn idx o = d
    unfold Dev.fillReturn
    split
    · rfl
    · exact if_pos hwaits
  case fill =>
    exact (d.fillReturn_sound hclean hwaits hdead hfind hwaiting hentries).trans (by rfl)
  case subWaits =>
    show d.subReturn g page sub o = d
    unfold Dev.subReturn
    obtain hpage | hunit := hwaits
    · exact if_pos hpage
    · dsimp only
      rw [hunit]
      split <;> rfl
  case sub =>
    obtain ⟨b, t, ht, hserved, hout, hlinks, hmem, hpages⟩ := Dev.subReturn_served hstill hok hclean hwaits hunit hread hwho hlive hg hsub hview hgallery hzero hsound
      hdata hlines hnone hroom
    have hlink : b.link h.link = d.link h.link := congrArg (fun l : AMap Link => mgetD l h.link {}) hlinks
    refine ⟨t, exec_dev rfl (ht.trans (Dev.after_still _ hserved.still)), ?_, ?_, hg ▸ hserved.cached, ?_⟩
    · rw [hserved.out, hout, hlink]
    · rw [hserved.mem, hmem]
    · rw [hserved.pages, hpages]
      rfl

/-- Settles O40: a read that finds the line whole counts and charges and changes nothing else, so that the host gets what memory holds. -/
theorem linesComeBack : Obligations.LinesComeBack := ⟨linesReturn, fillsAndSubBlocks⟩

end Sys2Proof.Machine
end

section
/-!
PROOFS. What the machine's work in the background keeps: the key table, and the canonical form of memory (R96, R259). The lemmas follow the order of the model.
-/
namespace Sys2Proof.Machine

set_option Elab.async false

/-- What a rope that has lost its partner is known by: its state, what its partner has not placed, and what the divergence map stands against. -/
def Dev.ropeView (d : Dev) : Nat × List (Nat × BitVec 32 × EvMsg) × BitVec 32 × Bool × List (Nat × BitVec 32 × Req) :=
  (d.ev.rope.state, d.ev.rope.unplaced, d.ev.rope.markEpoch, d.ev.rope.wasSynced, d.pages.mirrorWait)

/-- The key table is K; memory is in its canonical form if P; and if A names an epoch and whether the rope was synced, the rope is alone, with nothing
that waits for the partner. -/
structure Dev.Kept (K : AMap (BitVec 512)) (P : Prop) (A : Option (BitVec 32 × Bool)) (d : Dev) : Prop where
  keys : d.keys = K
  mem : P → d.mem.wf = true
  alone : ∀ w ∈ A, d.ropeView = (3, [], w.1, w.2, [])

/-- Every device keeps the form that its memory has. -/
theorem Dev.kept_self (d : Dev) : d.Kept d.keys (d.mem.wf = true) none := ⟨rfl, id, fun _ h => absurd h (by simp)⟩

section
variable {K : AMap (BitVec 512)} {P : Prop} {A : Option (BitVec 32 × Bool)} {d : Dev} {α β : Type}

/-! ### Steps that write neither -/

theorem Dev.Kept.foldl {f : Dev → α → Dev} {l : List α} (hf : ∀ e x, e.Kept K P A → (f e x).Kept K P A) (h : d.Kept K P A) : (l.foldl f d).Kept K P A :=
  List.foldlRecOn (motive := fun e : Dev => e.Kept K P A) l f h fun e he x _ => hf e x he

theorem Dev.Kept.foldlPair {f : β × Dev → α → β × Dev} {l : List α} {b : β} (hf : ∀ a x, a.2.Kept K P A → (f a x).2.Kept K P A) (h : d.Kept K P A) :
    (l.foldl f (b, d)).2.Kept K P A :=
  List.foldlRecOn (motive := fun a : β × Dev => a.2.Kept K P A) l f h fun a ha x _ => hf a x ha

variable (h : d.Kept K P A)
include h

theorem Dev.Kept.keeps {e : Dev} (hk : d.Keeps e) : e.Kept K P A := 
  ⟨hk.keys.trans h.keys, fun p => (congrArg Mem.wf hk.mem).trans (h.mem p), fun w hw => by
    unfold Dev.ropeView
    rw [hk.ev, hk.pages]
    exact h.alone w hw⟩

theorem Dev.Kept.power (x : Power) : ({ d with power := x } : Dev).Kept K P A := ⟨h.keys, h.mem, h.alone⟩
theorem Dev.Kept.faults (x : Faults) : ({ d with faults := x } : Dev).Kept K P A := ⟨h.keys, h.mem, h.alone⟩
theorem Dev.Kept.cnt (x : Counters) : ({ d with cnt := x } : Dev).Kept K P A := ⟨h.keys, h.mem, h.alone⟩
theorem Dev.Kept.qos (x : Qos) : ({ d with qos := x } : Dev).Kept K P A := ⟨h.keys, h.mem, h.alone⟩
theorem Dev.Kept.pages (x : Pages) (hx : x.mirrorWait = d.pages.mirrorWait := by rfl) : ({ d with pages := x } : Dev).Kept K P A :=
  ⟨h.keys, h.mem, fun w hw => by
    unfold Dev.ropeView
    rw [hx]
    exact h.alone w hw⟩
theorem Dev.Kept.slices (x : Slices) : ({ d with slices := x } : Dev).Kept K P A := ⟨h.keys, h.mem, h.alone⟩
theorem Dev.Kept.flow (x : Flow) : ({ d with flow := x } : Dev).Kept K P A := ⟨h.keys, h.mem, h.alone⟩
theorem Dev.Kept.queues (x : Queues) : ({ d with queues := x } : Dev).Kept K P A := ⟨h.keys, h.mem, h.alone⟩
theorem Dev.Kept.ev (x : Evoil) (hx : ({ d with ev := x } : Dev).ropeView = d.ropeView := by rfl) : ({ d with ev := x } : Dev).Kept K P A :=
  ⟨h.keys, h.mem, fun w hw => hx.trans (h.alone w hw)⟩
theorem Dev.Kept.grottos (x : AMap Grotto) : ({ d with grottos := x } : Dev).Kept K P A := ⟨h.keys, h.mem, h.alone⟩
theorem Dev.Kept.chans (x : AMap Chan) : ({ d with chans := x } : Dev).Kept K P A := ⟨h.keys, h.mem, h.alone⟩
theorem Dev.Kept.lds (x : AMap Ld) : ({ d with lds := x } : Dev).Kept K P A := ⟨h.keys, h.mem, h.alone⟩
theorem Dev.Kept.freeCtr (n : Nat) : ({ d with freeCtr := n } : Dev).Kept K P A := ⟨h.keys, h.mem, h.alone⟩

theorem Dev.Kept.onMem {f : Mem → Mem} (hf : P → d.mem.wf = true → (f d.mem).wf = true) : (d.onMem f).Kept K P A := ⟨h.keys, fun p => hf p (h.mem p), h.alone⟩

/-- A line of DRAM written, whatever it holds. -/
theorem Dev.Kept.dram (k : Nat) (x : DLine) : ({ d with mem := { d.mem with dram := mput d.mem.dram {} k x } } : Dev).Kept K P A := ⟨h.keys, fun p => by
  obtain ⟨hdram, hresv⟩ := (Mem.wf_iff d.mem).mp (h.mem p)
  exact (Mem.wf_iff _).mpr ⟨mput_canonical _ _ _ _ hdram, hresv⟩, h.alone⟩

/-- What memory records of frames has no part in its form. -/
theorem Dev.Kept.frames {m : Mem} (hdram : m.dram = d.mem.dram) (hresv : m.resv = d.mem.resv) : ({ d with mem := m } : Dev).Kept K P A := ⟨h.keys, fun p => by
  rw [Mem.wf_iff, hdram, hresv, ← Mem.wf_iff]
  exact h.mem p, h.alone⟩

end

section
variable {K : AMap (BitVec 512)} {P : Prop} {A : Option (BitVec 32 × Bool)} {d : Dev} (h : d.Kept K P A) {c cls f g l ld line link n page q s u x : Nat} {r : Req}
include h

theorem Dev.Kept.bump {k : Nat} : (d.bump n k).Kept K P A := h.keeps (d.bump_keeps n k)
theorem Dev.Kept.setChan {x : Chan} : (d.setChan c x).Kept K P A := ⟨h.keys, h.mem, h.alone⟩
theorem Dev.Kept.emit {m : Msg} : (d.emit m).Kept K P A := ⟨h.keys, h.mem, h.alone⟩
theorem Dev.Kept.setLd {x : Ld} : (d.setLd l ld x).Kept K P A := ⟨h.keys, h.mem, h.alone⟩
theorem Dev.Kept.setGrotto {x : Grotto} : (d.setGrotto g x).Kept K P A := ⟨h.keys, h.mem, h.alone⟩
theorem Dev.Kept.again {m : Nat} : (d.again m r).Kept K P A := ⟨h.keys, h.mem, h.alone⟩
theorem Dev.Kept.onPages {f : Pages → Pages} (hf : (f d.pages).mirrorWait = d.pages.mirrorWait := by rfl) : (d.onPages f).Kept K P A := h.pages _ hf
theorem Dev.Kept.onSlices {f : Slices → Slices} : (d.onSlices f).Kept K P A := ⟨h.keys, h.mem, h.alone⟩
theorem Dev.Kept.onFlow {f : Flow → Flow} : (d.onFlow f).Kept K P A := ⟨h.keys, h.mem, h.alone⟩
theorem Dev.Kept.onQueues {f : Queues → Queues} : (d.onQueues f).Kept K P A := ⟨h.keys, h.mem, h.alone⟩
theorem Dev.Kept.onRope {f : Rope → Rope} (hf : (d.onRope f).ropeView = d.ropeView := by rfl) : (d.onRope f).Kept K P A := h.ev _ hf
theorem Dev.Kept.onPower {f : Power → Power} : (d.onPower f).Kept K P A := ⟨h.keys, h.mem, h.alone⟩
theorem Dev.Kept.onCnt {f : Counters → Counters} : (d.onCnt f).Kept K P A := ⟨h.keys, h.mem, h.alone⟩
theorem Dev.Kept.onQos {f : Qos → Qos} : (d.onQos f).Kept K P A := ⟨h.keys, h.mem, h.alone⟩
theorem Dev.Kept.raise {e : Hap} : (d.raise e).Kept K P A := h.keeps (d.raise_keeps e)
theorem Dev.Kept.event {unit akind addr detail : Nat} {g : Option Nat} : (d.event unit akind addr detail g).Kept K P A := h.raise
theorem Dev.Kept.wake {src detail : Nat} : (d.wake src detail).Kept K P A := h.keeps (d.wake_keeps src detail)
theorem Dev.Kept.logAdd {log : Nat} {r : LogRec} : (d.logAdd l ld log r).Kept K P A := h.keeps (d.logAdd_keeps l ld log r)
theorem Dev.Kept.poisonList {source : Nat} : (d.poisonList g line source).Kept K P A := h.keeps (d.poisonList_keeps g line source)
theorem Dev.Kept.poisonUnlist : (d.poisonUnlist g line).Kept K P A := h.keeps (d.poisonUnlist_keeps g line)
theorem Dev.Kept.contain {code unit att source detail : Nat} : (d.contain code unit att g line source detail).Kept K P A := h.keeps (d.contain_keeps ..)
theorem Dev.Kept.takeFlip {akind addr : Nat} : (d.takeFlip u akind addr).2.Kept K P A := h.keeps (d.takeFlip_keeps u akind addr)
theorem Dev.Kept.takeInvert {akind addr : Nat} : (d.takeInvert u akind addr).2.Kept K P A := h.keeps (d.takeInvert_keeps u akind addr)
theorem Dev.Kept.charge : (d.charge c cls n).Kept K P A := h.keeps (d.charge_keeps c cls n)
theorem Dev.Kept.rouse : (d.rouse c cls).Kept K P A := h.keeps (d.rouse_keeps c cls)

theorem Dev.Kept.againAll {mode : Nat} {rs : List Req} : (d.againAll mode rs).Kept K P A := h.foldl fun _ _ he => he.again

theorem Dev.Kept.modGrotto {f : Grotto → Grotto} : (d.modGrotto g f).Kept K P A := by
  unfold Dev.modGrotto
  split
  · exact h.setGrotto
  · exact h

theorem Dev.Kept.choose : (d.choose n).2.Kept K P A := by
  unfold Dev.choose
  split
  · exact h
  · exact h.freeCtr _

/-! ### The HOLD cut -/

theorem Dev.Kept.orFree {y : Option Word} : (d.orFree y).2.Kept K P A := by
  cases y with
  | some y => exact h
  | none => exact h.freeCtr _

theorem Dev.Kept.named {i : Issued} : (d.named i).2.Kept K P A := by
  unfold Dev.named
  split
  · exact h.orFree.orFree.orFree
  · exact h

theorem Dev.Kept.nameIssued {y : Queue} : (d.nameIssued q y).Kept K P A := by
  have hall := h.foldlPair (b := ([] : List Issued)) (l := y.issued) (f := fun a i => let (j, e) := a.2.named i; (a.1 ++ [j], e)) fun _ _ ha => ha.named
  unfold Dev.nameIssued
  exact hall.onQueues

theorem Dev.Kept.cutJournals : d.cutJournals.Kept K P A := by
  unfold Dev.cutJournals
  refine (h.foldl fun e y he => ?_).onQueues
  split
  · exact he
  · exact he.nameIssued

theorem Dev.Kept.cutMailboxes : d.cutMailboxes.Kept K P A := ⟨h.keys, h.mem, h.alone⟩

theorem Dev.Kept.holdCut {trig : Nat} : (d.holdCut trig).Kept K P A := by
  unfold Dev.holdCut
  split
  · exact h
  · have hcut := (h.bump (n := 8) (k := 1)).raise (e := { code := 2, cls := 0, unit := 0, detail := trig }) |>.cutJournals.cutMailboxes
    refine ⟨hcut.keys, hcut.mem, fun w hw => ?_⟩
    have halone := hcut.alone w hw
    unfold Dev.ropeView at halone ⊢
    generalize Dev.cutMailboxes _ = e at halone ⊢
    simp only [Prod.mk.injEq] at halone ⊢
    obtain ⟨hstate, hunplaced, hepoch, hsynced, _⟩ := halone
    exact ⟨hstate, hunplaced, hepoch, hsynced, trivial⟩

theorem Dev.Kept.lockCheck : d.lockCheck.Kept K P A := by
  unfold Dev.lockCheck
  dsimp only
  split
  · exact h.onPower
  · exact h

theorem Dev.Kept.fatal {e : Hap} : (d.fatal e).Kept K P A := by
  unfold Dev.fatal
  dsimp only
  split
  · exact h.raise.onPower
  · exact h.raise.lockCheck.holdCut

/-! ### Arrays and the page map -/

theorem Dev.Kept.arrayWrite : (d.arrayWrite u).2.Kept K P A := by
  have hflip := h.takeFlip (u := u) (akind := 0) (addr := 0)
  unfold Dev.arrayWrite
  split
  all_goals next heq => rwa [heq] at hflip

theorem Dev.Kept.arrayRead {code : Nat} : (d.arrayRead u code).Kept K P A := by
  have hinvert := h.takeInvert (u := u) (akind := 0) (addr := 0)
  unfold Dev.arrayRead
  split
  · next heq => exact (heq ▸ hinvert : Dev.Kept K P A (true, _).2).raise
  · next heq => exact (heq ▸ hinvert : Dev.Kept K P A (false, _).2)

theorem Dev.Kept.mapArray : d.mapArray.Kept K P A := by
  have harray := h.arrayWrite (u := unitMap)
  unfold Dev.mapArray
  split
  · next heq => exact (heq ▸ harray : Dev.Kept K P A (0, _).2)
  · next heq => exact (heq ▸ harray : Dev.Kept K P A (_, _).2).raise

theorem Dev.Kept.setEntry {w : Word} : (d.setEntry g page w).Kept K P A := h.pages _
theorem Dev.Kept.firstEntry {loc : Nat} : (d.firstEntry g page loc).Kept K P A := h.setEntry
theorem Dev.Kept.commitEntry : (d.commitEntry g page).Kept K P A := h.setEntry
theorem Dev.Kept.turn {state src loc : Nat} : (d.turn g page state src loc).Kept K P A := h.setEntry.commitEntry
theorem Dev.Kept.heatBack {b : MapBlock} : (d.heatBack l b).Kept K P A := h.pages _
theorem Dev.Kept.mapUse : (d.mapUse l g).Kept K P A := ⟨h.keys, h.mem, h.alone⟩

theorem Dev.Kept.mapInsert : ∀ e ∈ d.mapInsert l g, e.Kept K P A := by
  intro e he
  unfold Dev.mapInsert at he
  dsimp only at he
  split at he
  · obtain rfl := Option.some.inj he
    exact h.mapUse
  · split at he
    · obtain rfl := Option.some.inj he
      exact (h.mapArray.pages _).mapUse
    · split at he
      · obtain rfl := Option.some.inj he
        refine (Dev.Kept.pages (Dev.Kept.pages ?_ _) _).mapUse
        split
        · exact h.mapArray.heatBack
        · exact h.mapArray
      · exact absurd he (by simp)

theorem Dev.Kept.addHeat {w : Nat} : (d.addHeat g page w).Kept K P A := by
  unfold Dev.addHeat
  dsimp only
  split
  · exact h.pages _
  · exact h.bump

end

end Sys2Proof.Machine
end

section
/-!
PROOFS. Frames and DRAM keep the key table and the form of memory (R96, R104, R123 to R125, R150, R467 to R469).
-/
namespace Sys2Proof.Machine

set_option Elab.async false

section
variable {K : AMap (BitVec 512)} {P : Prop} {A : Option (BitVec 32 × Bool)} {d : Dev} (h : d.Kept K P A) {c cls f g l ld line link n page q s u x : Nat} {r : Req}
include h

/-! ### Frames -/

theorem Dev.Kept.owes {type inst : Nat} : (d.owes type inst).Kept K P A := by
  unfold Dev.owes
  split
  · exact h
  · exact ⟨h.keys, h.mem, h.alone⟩

theorem Dev.Kept.setPool {y : Pool} : (d.setPool c y).Kept K P A := h.frames rfl rfl

theorem Dev.Kept.zeroFrame : (d.zeroFrame f).Kept K P A := ⟨h.keys, fun p => d.zeroFrame_wf f (h.mem p), h.alone⟩

theorem Dev.Kept.takeOn : ∀ y ∈ d.takeOn c, y.2.Kept K P A := by
  intro y hy
  unfold Dev.takeOn at hy
  dsimp only at hy
  split at hy
  · split at hy
    · obtain rfl := Option.some.inj hy
      dsimp only
      exact h.choose.rouse.setPool.zeroFrame.bump.bump.charge
    · exact absurd hy (by simp)
  · split at hy
    · obtain rfl := Option.some.inj hy
      exact h.choose.setPool
    · exact absurd hy (by simp)

theorem Dev.Kept.hold {z : Int} : (d.hold g c z).Kept K P A := h.modGrotto

theorem Dev.Kept.takeFrame {ok : Nat → Bool} : ∀ y ∈ d.takeFrame g ok, y.2.Kept K P A := by
  intro y hy
  unfold Dev.takeFrame at hy
  dsimp only at hy
  split at hy
  · split at hy
    · split at hy
      · next htake =>
        obtain rfl := Option.some.inj hy
        exact (h.takeOn _ htake).hold.modGrotto
      · exact absurd hy (by simp)
    · exact absurd hy (by simp)
  · exact absurd hy (by simp)

theorem Dev.Kept.freeFrame : (d.freeFrame f).Kept K P A := by
  unfold Dev.freeFrame
  split
  · exact h.pages _
  · split
    · exact h.setPool
    · exact h

theorem Dev.Kept.reap : d.reap.Kept K P A := by
  unfold Dev.reap
  exact (h.pages _).foldl fun _ _ he => he.freeFrame

theorem Dev.Kept.resvPut {y : LineData} : (d.resvPut n y).Kept K P A := ⟨h.keys, fun p => d.resvPut_wf n y (h.mem p), h.alone⟩

/-! ### The scheduler of a channel -/

theorem Dev.Kept.noteWritten : (d.noteWritten f n).Kept K P A := by
  unfold Dev.noteWritten
  split
  · exact h.setChan
  · exact h

theorem Dev.Kept.openRow {k : Coord} : (d.openRow c k).Kept K P A := by
  unfold Dev.openRow
  dsimp only
  split
  · exact h.bump
  · exact h.setChan.bump

theorem Dev.Kept.issueOwed {rank : Nat} : (d.issueOwed c rank).Kept K P A := by
  unfold Dev.issueOwed
  dsimp only
  split
  · exact h
  · exact h.setChan.bump

theorem Dev.Kept.catchUp : d.catchUp.Kept K P A := by
  unfold Dev.catchUp
  refine h.foldl fun e y he => ?_
  split
  · exact he
  · refine he.foldl fun e r he => ?_
    split
    · exact he
    · exact he.issueOwed

theorem Dev.Kept.picked {k : ChanReq} : (d.picked c k).Kept K P A := by
  unfold Dev.picked
  dsimp only
  split
  · exact h.setChan.onPages
  · exact h.setChan.onPages

theorem Dev.Kept.drainState : (d.drainState c).Kept K P A := by
  unfold Dev.drainState
  dsimp only
  split
  · exact h.setChan
  · split
    · exact h.setChan.bump
    · exact h.setChan

theorem Dev.Kept.issueWrites : (d.issueWrites c n).Kept K P A := by
  induction n generalizing d with
  | zero => exact h
  | succ n ih =>
    unfold Dev.issueWrites
    dsimp only
    split
    · exact ih h.drainState.picked.openRow
    · exact h.drainState

theorem Dev.Kept.queueRead : (d.queueRead f n r).Kept K P A := by
  unfold Dev.queueRead
  dsimp only
  split
  · split
    · exact h.rouse.onPages.setChan
    · exact h.rouse.onPages.setChan.bump
  · exact h.rouse.onPages

theorem Dev.Kept.queueWrite : (d.queueWrite f n cls).Kept K P A := by
  unfold Dev.queueWrite
  dsimp only
  split
  · exact h.openRow.bump
  · exact h.onPages.issueWrites

theorem Dev.Kept.issueAll : d.issueAll.Kept K P A := by
  unfold Dev.issueAll
  split
  · exact h
  · exact h.foldl fun _ _ he => he.issueWrites

/-! ### Lines of DRAM -/

theorem Dev.Kept.dramWrite {y : DLine} : (d.dramWrite f n y cls).Kept K P A := by
  have hflip := (h.rouse (c := frameChan f) (cls := cls)).queueWrite (f := f) (n := n) (cls := cls) |>.takeFlip (u := unitChan (frameChan f)) (akind := 3) (addr := f)
  unfold Dev.dramWrite
  dsimp only
  generalize Dev.takeFlip _ _ _ _ = z at hflip ⊢
  obtain ⟨fl, e⟩ := z
  dsimp only
  exact ((hflip.dram _ _).noteWritten.cnt _).bump.charge

theorem Dev.Kept.retireFrame {o : Option (Nat × Nat)} : (d.retireFrame f n o).Kept K P A := by
  have hraised (y : Chan) (e : Hap) : ((d.setChan (frameChan f) y).raise e).Kept K P A := h.setChan.raise
  unfold Dev.retireFrame
  dsimp only
  generalize hd : Dev.raise _ _ = e
  have he : e.Kept K P A := hd ▸ hraised _ _
  split
  · exact Dev.Kept.pages (he.frames (m := { e.mem with retired := e.mem.retired.filter (· != f) ++ [f] }) rfl rfl) _
  · exact he.frames (m := { e.mem with retired := e.mem.retired.filter (· != f) ++ [f] }) rfl rfl

theorem Dev.Kept.startRepair {dev : Nat} {o : Option (Nat × Nat)} : (d.startRepair f n dev o).Kept K P A := by
  unfold Dev.startRepair
  dsimp only
  split
  · exact h.retireFrame
  · split
    · exact h.setChan
    · exact h.setChan

theorem Dev.Kept.countRead : (d.countRead f n cls).Kept K P A := h.rouse.openRow.onCnt.bump.charge

theorem Dev.Kept.rouseMap : (d.rouseMap l cls).Kept K P A := by
  unfold Dev.rouseMap
  split
  · exact h.rouse
  · exact h

theorem Dev.Kept.dramRead {o : LineObs} {owner : Option (Nat × Nat)} : (d.dramRead f n o owner cls).2.Kept K P A := by
  have hread := (h.countRead (f := f) (n := n) (cls := cls)).takeInvert (u := unitChan (frameChan f)) (akind := 3) (addr := f)
  unfold Dev.dramRead
  extract_lets c x d0 page rec1 clean store src lasting
  have hstore {e : Dev} (he : e.Kept K P A) (y : DLine) : (store e y).Kept K P A := he.dram _ _
  have hlasting {e : Dev} (he : e.Kept K P A) : (lasting e).2.Kept K P A := by
    have hput : (store (e.bump (chCnt c 11)) .poisoned).Kept K P A := hstore he.bump _
    dsimp only [lasting]
    generalize store (e.bump (chCnt c 11)) .poisoned = a at hput ⊢
    split
    case' h_2 => apply Dev.Kept.startRepair
    case' h_3 => apply Dev.Kept.retireFrame
    all_goals
      split
      · exact hput.contain
      · exact hput.raise
  clear_value store lasting rec1 clean
  split
  · exact h
  · change (d0.takeInvert (unitChan c) 3 f).2.Kept K P A at hread
    split
    next inv d1 heq =>
    rw [heq] at hread
    split
    · exact hread
    · split
      · exact (hstore hread.bump _).startRepair
      · exact (hstore hread.bump _).raise
      · exact hlasting (hstore hread.bump _)
    · split
      · exact hread.raise
      · exact (hstore hread _).raise
      · exact hlasting hread
    · split
      · exact hread.freeCtr _
      · exact hlasting (hread.freeCtr _)

end

end Sys2Proof.Machine
end

section
/-!
PROOFS. What goes to partners, and what Flowstone does under pressure, keeps the key table and the form of memory.
-/
namespace Sys2Proof.Machine

set_option Elab.async false

section
variable {K : AMap (BitVec 512)} {P : Prop} {A : Option (BitVec 32 × Bool)} {d : Dev} (h : d.Kept K P A) {c cls f g l ld line link n p page q s u x : Nat} {r : Req}
include h

/-! ### The Evoil link -/

theorem Dev.Kept.setEv {y : EvPort} : (d.setEv p y).Kept K P A := by
  unfold Dev.setEv
  split
  · exact h.ev _
  · exact h.ev _

theorem Dev.Kept.spillSpend : (d.spillSpend p n).Kept K P A := h.onFlow

theorem Dev.Kept.evPump : (d.evPump p n).Kept K P A := by
  induction n generalizing d with
  | zero => exact h
  | succ n ih =>
    unfold Dev.evPump
    dsimp only
    split
    · exact ih (((h.setEv.spillSpend.emit).bump).cnt _)
    · exact h

theorem Dev.Kept.evSend {m : EvMsg} : (d.evSend p m).Kept K P A := by
  unfold Dev.evSend
  dsimp only
  split
  · refine (Dev.Kept.setEv ?_).evPump
    split
    · split
      · exact h.bump.bump
      · exact h.bump
    · exact h.bump
    · exact h.bump
    · exact h.bump
    · exact h.bump
    · exact h
  · exact h

theorem Dev.Kept.evTag : (d.evTag p).2.Kept K P A := h.setEv
theorem Dev.Kept.mark : (d.mark g line).Kept K P A := h.ev _

omit h in
/-- Where nothing is claimed of the rope, the Evoil link may stand as it will. -/
theorem Dev.Kept.evAny (h : d.Kept K P none) (y : Evoil) : ({ d with ev := y } : Dev).Kept K P none := ⟨h.keys, h.mem, fun _ hw => absurd hw (by simp)⟩

/-- A message to the mirror copy waits for its placement report. -/
theorem Dev.Kept.mirrorSend {m : BitVec 32 → EvMsg} (hA : A = none) : (d.mirrorSend g line m).2.2.Kept K P A := by
  subst hA
  exact (h.evAny _).evSend

/-- A rope that is alone sends no mirror writes (R455). -/
theorem Dev.Kept.unroped (hA : A ≠ none) : d.roped g = false := by
  obtain ⟨w, rfl⟩ := Option.ne_none_iff_exists'.mp hA
  have halone := h.alone w rfl
  have hstate : d.ev.rope.state = 3 := congrArg Prod.fst halone
  unfold Dev.roped
  rw [hstate]
  simp

theorem Dev.Kept.mirrorLine {y : LineData} {poison rebuild : Bool} :
    (d.mirrorLine g line y poison rebuild).2.Kept K P A ∧ ((d.mirrorLine g line y poison rebuild).1 = none ∨ A = none) := by
  unfold Dev.mirrorLine
  split
  · next hroped =>
    have hA : A = none :=
      Classical.byContradiction fun hA => absurd (h.unroped hA) (by rw [hroped]; decide)
    generalize hz : Dev.mirrorSend _ _ _ _ = z
    have hsent : z.2.2.Kept K P A := hz ▸ h.mirrorSend hA
    exact ⟨hsent, .inr hA⟩
  · split
    · exact ⟨h.mark, .inl rfl⟩
    · exact ⟨h, .inl rfl⟩

/-! ### Pressure (R251 to R257) -/

theorem Dev.Kept.resvWords {ws : List Nat} : (d.resvWords line n ws).Kept K P A := by
  induction n generalizing d line ws with
  | zero => exact h
  | succ n ih =>
    cases ws with
    | nil => exact h
    | cons w ws => exact ih h.resvPut

theorem Dev.Kept.exposeLists : d.exposeLists.Kept K P A := by
  unfold Dev.exposeLists
  exact (h.foldl fun _ _ he => he.resvWords).onQueues

theorem Dev.Kept.closeLists {reason : Nat} : (d.closeLists reason).Kept K P A := (h.flow _).exposeLists

theorem Dev.Kept.policyRun {reason : Nat} : (d.policyRun reason).Kept K P A := by
  unfold Dev.policyRun
  split
  · exact h.pages _
  · exact (h.queues _).flow _

theorem Dev.Kept.selfDemote : d.selfDemote.Kept K P A := by
  unfold Dev.selfDemote
  split
  · exact h
  · exact h.pages _

theorem Dev.Kept.pressureRun : d.pressureRun.Kept K P A := (h.flow _).closeLists.policyRun.bump.selfDemote

theorem Dev.Kept.dcLog {kind : LogKind} {e : Nat × Nat} : (d.dcLog g kind e).Kept K P A := h.logAdd

theorem Dev.Kept.askOne : d.askOne.Kept K P A := by
  unfold Dev.askOne
  split
  · exact h
  · split
    · exact h.setGrotto.dcLog.bump
    · exact h

theorem Dev.Kept.askRelease : d.askRelease.Kept K P A := by
  unfold Dev.askRelease
  dsimp only
  split
  · refine Dev.Kept.askOne ?_
    split
    · exact h
    · exact h.onFlow
  · split
    · exact h.onFlow.grottos _
    · exact h

theorem Dev.Kept.waitFrame : (d.waitFrame r).Kept K P A := by
  unfold Dev.waitFrame
  dsimp only
  split
  · split
    · exact (h.pages _).bump.pressureRun
    · exact (h.pages _).bump
  · exact h.pages _

/-! ### What a request is answered -/

theorem Dev.Kept.answerRead {y : LineData} {poison : Bool} : (d.answerRead r y poison).Kept K P A := by
  unfold Dev.answerRead
  split
  · split
    · exact h.emit.bump.bump.bump.bump
    · exact h
  · exact h.evSend
  · exact h.pages _
  · exact h.pages _
  · exact h

theorem Dev.Kept.ropePlaced {t : BitVec 32} : (d.ropePlaced p t).Kept K P A := by
  unfold Dev.ropePlaced
  dsimp only
  split
  · refine Dev.Kept.evSend (h.setEv.bump.onRope ?_)
    split <;> rfl
  · exact h.setEv.bump

theorem Dev.Kept.answerWrite : (d.answerWrite r).Kept K P A := by
  unfold Dev.answerWrite
  split
  · split
    · exact h.emit.bump.bump.bump
    · exact h
  · exact h.ropePlaced
  · exact h

theorem Dev.Kept.finish {m : Option (Nat × BitVec 32)} (hm : m = none ∨ A = none) : (d.finish r m).Kept K P A := by
  unfold Dev.finish
  split
  · obtain hm | rfl := hm
    · exact absurd hm (by simp)
    · exact ⟨h.keys, h.mem, fun w hw => absurd hw (by simp)⟩
  · exact h.answerWrite

theorem Dev.Kept.answerPoison : (d.answerPoison r).Kept K P A := (h.freeCtr _).answerRead

end

end Sys2Proof.Machine
end

section
/-!
PROOFS. Galleries, the near cache, moves and the rope's pages keep the key table and the form of memory.
-/
namespace Sys2Proof.Machine

set_option Elab.async false

section
variable {K : AMap (BitVec 512)} {P : Prop} {A : Option (BitVec 32 × Bool)} {d : Dev} (h : d.Kept K P A) {c cls f g k l ld line link loc n p page q s u x : Nat} {r : Req}
include h

/-! ### Lines of a gallery -/

theorem Dev.Kept.touch {e : Nat × Nat} : (d.touch cls g e).2.Kept K P A := by
  unfold Dev.touch
  extract_lets c x d0
  have hread : (d0.takeInvert (unitChan c) 3 e.1).2.Kept K P A := Dev.Kept.takeInvert (h.countRead)
  split
  · exact h
  · generalize d0.takeInvert (unitChan c) 3 e.1 = z at hread ⊢
    obtain ⟨inv, d1⟩ := z
    dsimp only at hread ⊢
    split
    · exact hread
    · dsimp only
      exact Dev.Kept.raise (Dev.Kept.bump (hread.dram _ _))
    · exact hread

theorem Dev.Kept.touchAll {es : List (Nat × Nat)} : (d.touchAll cls g es).2.Kept K P A := h.foldlPair fun _ _ ha => ha.touch

theorem Dev.Kept.headerRead {o : LineObs} : (d.headerRead g page cls o).2.Kept K P A := by
  unfold Dev.headerRead
  dsimp only
  split
  · exact h.touch
  · split
    · dsimp only
      exact h.touch.touch.raise
    · exact h.touch.touch

theorem Dev.Kept.layHeader {y : Header} : (d.layHeader g page loc y cls).Kept K P A := h.dramWrite

/-! ### The near cache -/

theorem Dev.Kept.ncUse : (d.ncUse g line).Kept K P A := h.slices _
theorem Dev.Kept.ncPut {y : NcLine} : (d.ncPut g line y).Kept K P A := h.onSlices.ncUse
theorem Dev.Kept.ncDrop : (d.ncDrop g line).Kept K P A := h.slices _
theorem Dev.Kept.ncFilter {m : Nat → Bool} : (d.ncFilter m).Kept K P A := h.onSlices
theorem Dev.Kept.ncDropPage : (d.ncDropPage g page).Kept K P A := h.ncFilter
theorem Dev.Kept.fixed2001 {att : Nat} : (d.fixed2001 g line att).Kept K P A := h.raise

theorem Dev.Kept.ncFlip {y : NcLine} : (d.ncFlip g line y).2.Kept K P A := by
  have hflip := h.takeFlip (u := unitNc (homeSlice g line)) (akind := 1) (addr := d.devOffset g line)
  unfold Dev.ncFlip
  split
  · next heq => exact (heq ▸ hflip : Dev.Kept K P A (_, _).2)
  · next heq => exact (heq ▸ hflip : Dev.Kept K P A (_, _).2)

theorem Dev.Kept.ncLook : (d.ncLook g line).2.Kept K P A := by
  unfold Dev.ncLook
  split
  · exact h
  · generalize hz : Dev.takeInvert _ _ _ _ = z
    have hread : z.2.Kept K P A := hz ▸ h.takeInvert
    obtain ⟨inv, d1⟩ := z
    dsimp only at hread ⊢
    have hfixed : (if inv = true then d1.fixed2001 g line 2 else d1).Kept K P A := by
      split
      · exact hread.fixed2001
      · exact hread
    split
    · split
      · dsimp only
        exact hfixed.ncPut.contain
      · dsimp only
        exact hfixed.ncDrop.fixed2001
    · split
      · dsimp only
        exact hfixed.ncPut.fixed2001
      · exact hfixed.ncUse

/-! ### Frames of galleries -/

theorem Dev.Kept.heapCheck : (d.heapCheck f).Kept K P A := by
  unfold Dev.heapCheck
  split
  · split
    · exact (h.pages _).hold.freeFrame
    · exact h
  · exact h

theorem Dev.Kept.modHeap {m : HeapFrame → HeapFrame} : (d.modHeap f m).Kept K P A := by
  unfold Dev.modHeap
  split
  · exact h.pages _
  · exact h

theorem Dev.Kept.freeSectors {ss : List Nat} : (d.freeSectors ss).Kept K P A := h.foldl fun _ _ he => he.modHeap.heapCheck
theorem Dev.Kept.freeHead : (d.freeHead loc).Kept K P A := h.modHeap.heapCheck

theorem Dev.Kept.freeGallery : (d.freeGallery g page loc).Kept K P A := by
  unfold Dev.freeGallery
  split
  · exact (h.pages _).freeSectors.freeHead
  · exact h.freeHead

theorem Dev.Kept.pageLost : (d.pageLost g page).Kept K P A := by
  unfold Dev.pageLost
  refine Dev.Kept.turn ?_
  split
  · exact h.freeHead
  · exact h

theorem Dev.Kept.containPage {code unit att : Nat} : (d.containPage code unit g page att).Kept K P A := h.raise

/-! ### Pages that the partner rebuilds -/

theorem Dev.Kept.rebuildPage {w : Option Req} {partly : Bool} : (d.rebuildPage g page w partly).Kept K P A := by
  unfold Dev.rebuildPage
  dsimp only
  split
  · exact h.onRope
  · split
    · exact h.onRope.evTag.evSend
    · exact h.onRope

theorem Dev.Kept.nextRebuild : (d.nextRebuild p).Kept K P A := by
  unfold Dev.nextRebuild
  split
  · exact h
  · exact h.onRope.evTag.evSend

theorem Dev.Kept.resumeRebuilds : d.resumeRebuilds.Kept K P A := by
  unfold Dev.resumeRebuilds
  split
  · exact h
  · refine h.foldl fun e i he => ?_
    dsimp only
    split
    · split
      · exact he.nextRebuild
      · exact he
    · exact he

theorem Dev.Kept.headerBad : (d.headerBad g page).Kept K P A := by
  unfold Dev.headerBad
  split
  · exact h.rebuildPage
  · exact h.pageLost.containPage

theorem Dev.Kept.subBad : (d.subBad g page k cls).Kept K P A := by
  unfold Dev.subBad
  split
  · exact h.rebuildPage
  · dsimp only
    split
    · exact (h.layHeader.foldl fun _ _ he => he.poisonList).containPage
    · exact h

theorem Dev.Kept.decompressions : (d.decompressions n).Kept K P A := by
  unfold Dev.decompressions
  split
  · exact h
  · dsimp only
    exact h.choose.bump

theorem Dev.Kept.compressions : (d.compressions n).Kept K P A := by
  unfold Dev.compressions
  split
  · exact h
  · dsimp only
    exact h.choose.bump

theorem Dev.Kept.subRead {y : Header} {o : SubObs} : (d.subRead g page k cls y o).2.Kept K P A := by
  unfold Dev.subRead
  split
  · exact h
  · dsimp only
    split
    · exact h.decompressions.touchAll
    · split
      · dsimp only
        exact h.decompressions.touchAll.touchAll.raise
      · exact h.decompressions.touchAll.touchAll.subBad

theorem Dev.Kept.noKey {w : Bool} : (d.noKey g line w).Kept K P A := h.event

/-! ### Moves -/

theorem Dev.Kept.hotStore {y : LineData} {poison : Bool} : (d.hotStore g line f y poison cls).Kept K P A := h.dramWrite

theorem Dev.Kept.hotMerge {m : ByteMask} {y : LineData} {poison : Bool} : (d.hotMerge g line f m y poison cls).2.2.Kept K P A := by
  unfold Dev.hotMerge
  dsimp only
  exact h.bump.dramRead.hotStore

theorem Dev.Kept.setMove {m : Move} : (d.setMove m).Kept K P A := h.pages _
theorem Dev.Kept.dropMove {m : Move} : (d.dropMove m).Kept K P A := h.pages _

theorem Dev.Kept.freeDst {m : Move} : (d.freeDst m).Kept K P A := by
  unfold Dev.freeDst
  split
  · exact h.hold.freeFrame
  · exact h.freeSectors.freeHead
  · exact h.evSend
  · exact h

theorem Dev.Kept.moveResult {m : Move} {status : Nat} : (d.moveResult m status).Kept K P A := by
  unfold Dev.moveResult
  split
  · split
    · exact h.queues _
    · exact h
  · exact h

theorem Dev.Kept.toSource : (d.toSource g page).Kept K P A := by
  unfold Dev.toSource
  dsimp only
  refine Dev.Kept.turn ?_
  split
  · exact h.layHeader
  · exact h

theorem Dev.Kept.revert {m : Move} : (d.revert m).Kept K P A := h.toSource.freeDst.dropMove
theorem Dev.Kept.abandon {m : Move} : (d.abandon m).Kept K P A := h.revert.moveResult.bump

/-! ### Recompression -/

theorem Dev.Kept.takeSump : ∀ y ∈ d.takeSump g c n, y.2.Kept K P A := by
  induction n generalizing d with
  | zero =>
    intro y hy
    obtain rfl := Option.some.inj hy
    exact h
  | succ n ih =>
    intro y hy
    unfold Dev.takeSump at hy
    dsimp only at hy
    split at hy
    · split at hy
      · split at hy
        · next htake =>
          obtain rfl := Option.some.inj hy
          have hrest := ih (h.pages _) _ htake
          exact hrest
        · exact absurd hy (by simp)
      · exact absurd hy (by simp)
    · exact absurd hy (by simp)

theorem Dev.Kept.fitSump {have_ old : List Nat} : ∀ y ∈ d.fitSump g c have_ old n, y.2.Kept K P A := by
  intro y hy
  unfold Dev.fitSump at hy
  split at hy
  · obtain ⟨z, hz, rfl⟩ := Option.map_eq_some_iff.mp hy
    exact h.takeSump z hz
  · obtain rfl := Option.some.inj hy
    exact h.pages _

theorem Dev.Kept.recompress {rc : Recomp} {ls : List LineData} {poison : BitVec 64} : ∀ y ∈ d.recompress rc ls poison, y.2.Kept K P A := by
  intro y hy
  obtain ⟨z, hz, rfl⟩ := Option.map_eq_some_iff.mp hy
  have hfit := h.fitSump z hz
  dsimp only
  exact hfit.compressions

theorem Dev.Kept.startRecomp : ∀ e ∈ d.startRecomp r, e.Kept K P A := by
  intro e he
  unfold Dev.startRecomp at he
  dsimp only at he
  split at he
  · exact absurd he (by simp)
  · split at he
    · exact absurd he (by simp)
    · obtain ⟨z, hz, rfl⟩ := Option.map_eq_some_iff.mp he
      exact (h.subRead.recompress z hz).onPages

theorem Dev.Kept.mergeRecomp {rc : Recomp} : ∀ e ∈ d.mergeRecomp rc r, e.Kept K P A := by
  intro e he
  obtain ⟨z, hz, rfl⟩ := Option.map_eq_some_iff.mp he
  exact (h.recompress z hz).onPages

theorem Dev.Kept.dropRecomp {mode : Nat} : (d.dropRecomp g page mode).Kept K P A := by
  unfold Dev.dropRecomp
  split
  · exact h
  · exact h.onPages.againAll

theorem Dev.Kept.holdPromo {m : Promo} : (d.holdPromo m r).Kept K P A := h.pages _
theorem Dev.Kept.laterRecomp {m : Recomp} : (d.laterRecomp m r).Kept K P A := h.pages _

theorem Dev.Kept.ncRefresh {y : LineData} {poison : Bool} : (d.ncRefresh g line y poison).Kept K P A := by
  unfold Dev.ncRefresh
  split
  · exact h.ncPut
  · exact h

theorem Dev.Kept.warmWrite : (d.warmWrite r).Kept K P A := by
  unfold Dev.warmWrite
  dsimp only
  split
  · exact h.holdPromo
  · split
    · split
      · split
        · next hmerge => exact h.mergeRecomp _ hmerge
        · exact h.laterRecomp
      · exact h.laterRecomp
    · split
      · exact h.rebuildPage
      · split
        · next f d1 htake =>
          have hturned : (d1.turn r.g (pageOf r.line) 5 2 (peLoc (d1.entry r.g (pageOf r.line)))).Kept K P A := (h.takeFrame _ htake).turn
          generalize Dev.turn _ _ _ _ _ _ = e at hturned ⊢
          exact hturned.pages _
        · split
          · next hstart => exact h.startRecomp _ hstart
          · exact h.waitFrame

/-! ### Pages elsewhere, and pages that are lost -/

theorem Dev.Kept.farWrite {handle : BitVec 33} {y : LineData} {poison : Bool} : (d.farWrite r p handle y poison).Kept K P A := by
  have htag := h.evTag (p := p)
  unfold Dev.farWrite
  generalize d.evTag p = z at htag ⊢
  exact (htag.pages _).ncRefresh.evSend

theorem Dev.Kept.farRead {handle : BitVec 33} : (d.farRead r p handle).Kept K P A := by
  have htag := h.evTag (p := p)
  unfold Dev.farRead
  generalize d.evTag p = z at htag ⊢
  exact (htag.pages _).evSend

theorem Dev.Kept.partnerRead : (d.partnerRead r).Kept K P A := by
  have htag := h.evTag (p := d.ropePort r.g r.line)
  unfold Dev.partnerRead
  dsimp only
  generalize d.evTag (d.ropePort r.g r.line) = z at htag ⊢
  exact (htag.pages _).evSend

theorem Dev.Kept.revive {full : Bool} : ∀ e ∈ d.revive g page line full cls, e.Kept K P A := by
  intro e he
  unfold Dev.revive at he
  split at he
  · next htake =>
    obtain rfl := Option.some.inj he
    refine (Dev.Kept.foldl (fun a i ha => ?_) (h.takeFrame _ htake)).turn
    split
    · exact ha
    · exact ha.dramWrite
  · exact absurd he (by simp)

theorem Dev.Kept.victimWrite {y : LineData} {poison : Bool} : (d.victimWrite g line y poison cls).Kept K P A := by
  unfold Dev.victimWrite
  dsimp only
  have hb := h.bump (n := 576 + 16 * homeSlice g line + 3) (k := 1)
  generalize d.bump (576 + 16 * homeSlice g line + 3) = e at hb ⊢
  split
  · exact hb.hotStore
  · split
    · exact hb.setMove
    · exact hb.warmWrite
  · split
    · exact hb.setMove
    · exact hb.farWrite
  · split
    · exact hb.rebuildPage
    · split
      · next hrevive => exact (hb.revive _ hrevive).hotStore
      · exact hb.waitFrame
  · exact hb

end

end Sys2Proof.Machine
end

section
/-!
PROOFS. What serving a request keeps: the key table and the form of memory.
-/
namespace Sys2Proof.Machine

set_option Elab.async false

section
variable {K : AMap (BitVec 512)} {P : Prop} {A : Option (BitVec 32 × Bool)} {d : Dev} (h : d.Kept K P A) {c cls f g k l ld line link loc n p page q s u x : Nat} {r : Req}
include h

/-! ### Lines in the near cache -/

theorem Dev.Kept.ncEvict : (d.ncEvict g line).Kept K P A := by
  unfold Dev.ncEvict
  split
  · exact h
  · split
    · exact h.ncLook.ncDrop.victimWrite
    · exact h.ncDrop

theorem Dev.Kept.writeBack {y : NcLine} : (d.writeBack g line y).Kept K P A := by
  unfold Dev.writeBack
  exact h.ncLook.ncPut.victimWrite

theorem Dev.Kept.relieve : (d.relieve n).Kept K P A := by
  induction n generalizing d with
  | zero => exact h
  | succ n ih =>
    unfold Dev.relieve
    split
    · exact h
    · split
      · exact ih h.writeBack
      · exact h

theorem Dev.Kept.ncRoom : ∀ e ∈ d.ncRoom g line, e.Kept K P A := by
  intro e he
  unfold Dev.ncRoom at he
  dsimp only at he
  split at he
  · obtain rfl := Option.some.inj he
    exact h
  · obtain ⟨k, _, rfl⟩ := Option.map_eq_some_iff.mp he
    exact h.ncEvict

theorem Dev.Kept.ncInstall {y : NcLine} : ∀ e ∈ d.ncInstall g line y, e.Kept K P A := by
  intro e he
  unfold Dev.ncInstall at he
  split at he
  · obtain rfl := Option.some.inj he
    exact h.ncFlip.ncPut
  · split at he
    · next hroom =>
      obtain rfl := Option.some.inj he
      exact (h.ncRoom _ hroom).ncFlip.ncPut
    · exact absurd he (by simp)

/-- A device that comes of an attempt, or the one that it started from. -/
theorem Dev.Kept.getD {o : Option Dev} (ho : ∀ e ∈ o, e.Kept K P A) : (o.getD d).Kept K P A := by
  cases o with
  | none => exact h
  | some e => exact ho e rfl

theorem Dev.Kept.ncAlloc {y : LineData} {poison : Bool} : (d.ncAlloc g line y poison cls).Kept K P A := by
  unfold Dev.ncAlloc
  split
  · exact h
  · exact h.getD h.ncInstall

theorem Dev.Kept.offerSub {y : Contents} : (d.offerSub g page k line cls y).Kept K P A := by
  unfold Dev.offerSub
  refine h.foldl fun e i he => ?_
  dsimp only
  split
  · exact he.ncPut
  · exact he

theorem Dev.Kept.giveLine {y : Contents} {z : LineData} : (d.giveLine r y z).Kept K P A := by
  unfold Dev.giveLine
  refine Dev.Kept.answerRead ?_
  split
  · exact h.ncAlloc.offerSub
  · exact h

theorem Dev.Kept.ncKeep {full : Bool} {y : LineData} {poison : Bool} : (d.ncKeep r full y poison).Kept K P A := by
  unfold Dev.ncKeep
  split
  · exact h.getD h.ncInstall
  · exact h.ncRefresh

theorem Dev.Kept.ncForWrite {m : ByteMask} : (d.ncForWrite g line m).2.Kept K P A := by
  unfold Dev.ncForWrite
  split
  · exact h
  · split
    · split
      · exact h
      · dsimp only
        exact h.fixed2001
    · split
      · dsimp only
        exact h.ncDrop.fixed2001
      · dsimp only
        split
        · exact h
        · exact h.contain

/-! ### Writes -/

theorem Dev.Kept.notePoison {full poison : Bool} : (d.notePoison r full poison).Kept K P A := by
  unfold Dev.notePoison
  split
  · exact h.poisonList
  · split
    · exact h.poisonUnlist
    · exact h

theorem Dev.Kept.absorb {m : ByteMask} {y : LineData} {poison : Bool} : (d.absorb r f m y poison).2.2.Kept K P A := by
  unfold Dev.absorb
  extract_lets full through
  split
  · split
    · exact h.ncKeep.hotStore
    · split
      · next hinstall => exact h.ncInstall _ hinstall
      · exact h.hotStore
  · have hnc := h.ncForWrite (g := r.g) (line := r.line) (m := m)
    split
    · next heq =>
      have hd1 := (heq ▸ hnc : Dev.Kept K P A (_, _).2)
      dsimp only at hd1 ⊢
      split
      · exact hd1.ncFlip.ncPut.hotStore
      · exact hd1.ncFlip.ncPut
    · next heq =>
      have hd1 := (heq ▸ hnc : Dev.Kept K P A (_, _).2)
      dsimp only at hd1 ⊢
      split
      · exact hd1.hotMerge.ncAlloc
      · exact hd1.hotMerge

theorem Dev.Kept.settle {full wp : Bool} {y : LineData} {poison : Bool} : (d.settle r full wp y poison).Kept K P A := by
  unfold Dev.settle
  dsimp only
  split
  · exact h.notePoison.finish (.inl rfl)
  · obtain ⟨hsent, hwaits⟩ := (h.notePoison (r := r) (full := full) (poison := wp)).mirrorLine (g := r.g) (line := r.line) (y := y) (poison := poison)
      (rebuild := false)
    exact hsent.finish hwaits

theorem Dev.Kept.hotWrite {m : ByteMask} {y : LineData} {poison : Bool} : (d.hotWrite r f m y poison).Kept K P A := by
  have habsorb := h.absorb (r := r) (f := f) (m := m) (y := y) (poison := poison)
  unfold Dev.hotWrite
  generalize Dev.absorb _ _ _ _ _ _ = z at habsorb ⊢
  exact habsorb.settle

theorem Dev.Kept.freshWrite {m : ByteMask} {y : LineData} {poison : Bool} : (d.freshWrite r m y poison).Kept K P A := by
  unfold Dev.freshWrite
  dsimp only
  split
  · split
    · exact h.rebuildPage
    · split
      · next hrevive => exact (h.revive _ hrevive).hotWrite
      · exact h.waitFrame
  · split
    · next htake => exact (h.takeFrame _ htake).firstEntry.hotWrite
    · exact h.waitFrame

theorem Dev.Kept.granted : (d.granted r).Kept K P A := by
  unfold Dev.granted
  extract_lets d1 isRead isWrite
  split
  · exact h.bump.addHeat
  · exact h.bump

theorem Dev.Kept.applyWrite {m : ByteMask} {y : LineData} {poison : Bool} : (d.applyWrite r m y poison).Kept K P A := by
  unfold Dev.applyWrite
  dsimp only
  split
  · exact h.rebuildPage
  · split
    · exact h.hotWrite
    · exact h.warmWrite
    · split
      · exact h.farWrite.ncKeep
      · split
        · exact h.farWrite
        · exact h.farRead
    · split
      · split
        · exact h.setMove.hotWrite
        · split
          · exact h.setMove
          · exact h.setMove
          · split
            · exact h.abandon.againAll.hotWrite
            · exact h.abandon.againAll.warmWrite
      · split
        · exact h.holdPromo
        · exact h
    · exact h.freshWrite

/-! ### Reads -/

theorem Dev.Kept.warmRead : (d.warmRead r).Kept K P A := by
  have hunknown {e : Dev} (he : e.Kept K P A) : (if (e.headerBad r.g (pageOf r.line)).covered r.g then (e.headerBad r.g (pageOf r.line)).partnerRead r
      else (e.headerBad r.g (pageOf r.line)).answerPoison r).Kept K P A := by
    split
    · exact he.headerBad.partnerRead
    · exact he.headerBad.answerPoison
  unfold Dev.warmRead
  dsimp only
  split
  · split
    · have hread := h.headerRead (g := r.g) (page := pageOf r.line) (cls := r.cls) (o := {})
      split
      · next heq =>
        rw [heq] at hread
        split
        · exact hread.answerPoison
        · exact hread.giveLine
      · next heq =>
        rw [heq] at hread
        exact hunknown hread
    · exact h.rouse.onPages
  · exact hunknown h

theorem Dev.Kept.readHere : (d.readHere r).Kept K P A := by
  have hlook := h.ncLook (g := r.g) (line := r.line)
  unfold Dev.readHere
  dsimp only
  generalize d.ncLook r.g r.line = z at hlook ⊢
  split
  · exact hlook.bump.answerRead
  · have hmiss := hlook.bump (n := 576 + 16 * homeSlice r.g r.line + 2) (k := 1)
    generalize z.2.bump (576 + 16 * homeSlice r.g r.line + 2) = e at hmiss ⊢
    split
    · exact hmiss.partnerRead
    · split
      · refine Dev.Kept.answerRead ?_
        split
        · exact hmiss
        · exact hmiss.noKey
      · split
        · exact hmiss.noKey.answerPoison
        · split
          · split
            · exact hmiss.answerPoison
            · exact hmiss.queueRead
          · exact hmiss.warmRead
          · exact hmiss.farRead
          · exact hmiss.answerPoison

theorem Dev.Kept.serveRead : (d.serveRead r).Kept K P A := by
  unfold Dev.serveRead
  dsimp only
  split
  · split
    · exact h.setMove
    · exact h.readHere
  · split
    · exact h.holdPromo
    · exact h.readHere
  · exact h.laterRecomp
  · exact h.readHere

end

end Sys2Proof.Machine
end

section
/-!
PROOFS. The directory and the page map keep the key table and the form of memory.
-/
namespace Sys2Proof.Machine

set_option Elab.async false

section
variable {K : AMap (BitVec 512)} {P : Prop} {A : Option (BitVec 32 × Bool)} {d : Dev} (h : d.Kept K P A) {c cls f g k l ld line link loc n p page q s u x : Nat} {r : Req}
include h

/-! ### Entries and rounds -/

theorem Dev.Kept.dirPut {e : DirEntry} : (d.dirPut g line e).Kept K P A := by
  unfold Dev.dirPut
  exact (h.arrayWrite.slices _).slices _

theorem Dev.Kept.dirDrop : (d.dirDrop g line).Kept K P A := h.slices _
theorem Dev.Kept.slotHold : (d.slotHold r).Kept K P A := h.slices _
theorem Dev.Kept.retrySlots : d.retrySlots.Kept K P A := (h.slices _).againAll
theorem Dev.Kept.poisonWhole : (d.poisonWhole g line).Kept K P A := h.again

theorem Dev.Kept.trySnoop {y : Snoop} : (d.trySnoop y).2.Kept K P A := by
  unfold Dev.trySnoop
  dsimp only
  split
  · exact h
  · split
    · exact h
    · dsimp only
      exact h.choose.emit.bump

theorem Dev.Kept.endRound {e : DirEntry} : (d.endRound g line e).Kept K P A := by
  have hleft : (if e.track.evict then d.dirDrop g line
    else match e.track.leftE with
      | some o => d.dirPut g line { st := .E, sharers := [o] }
      | none => if e.track.leftS.isEmpty then d.dirDrop g line else d.dirPut g line { st := .S, sharers := e.track.leftS }).Kept K P A := by
    split
    · exact h.dirDrop
    · split
      · exact h.dirPut
      · split
        · exact h.dirDrop
        · exact h.dirPut
  unfold Dev.endRound
  extract_lets t d1 d2 held
  have hd1 : d1.Kept K P A := hleft
  have hd2 : d2.Kept K P A := by
    clear_value d1
    dsimp only [d2]
    split
    · split
      · exact hd1.again
      · refine Dev.Kept.again ?_
        split
        · split
          · exact hd1
          · split
            · exact hd1.dirPut
            · exact hd1.dirPut
        · exact hd1.dirPut
        · exact hd1.dirPut
        · exact hd1
    · exact hd1
  clear_value d2
  refine Dev.Kept.retrySlots ?_
  split
  · exact hd2
  · exact hd2.againAll

theorem Dev.Kept.checkRound : (d.checkRound g line).Kept K P A := by
  unfold Dev.checkRound
  split
  · split
    · exact h.endRound
    · exact h
  · exact h

theorem Dev.Kept.resolveSilent {src : Nat} : (d.resolveSilent g line src).Kept K P A := by
  unfold Dev.resolveSilent
  dsimp only
  refine Dev.Kept.checkRound ?_
  split
  · split
    · exact (h.slices _).poisonWhole
    · exact h.slices _
  · exact h.slices _

theorem Dev.Kept.pumpSnoops : d.pumpSnoops.Kept K P A := by
  unfold Dev.pumpSnoops
  extract_lets mute fenced d0 d1
  have hd0 : d0.Kept K P A := by
    dsimp only [d0]
    split
    · exact h
    · exact h.onSlices.foldl fun _ _ he => he.checkRound
  have hd1 : d1.Kept K P A := hd0.foldl fun _ _ he => he.resolveSilent
  refine hd1.foldl fun e y he => ?_
  split
  · exact he
  · exact he.trySnoop.slices _

theorem Dev.Kept.startRound {e : DirEntry} {targets keep : List Nat} {kind : SnpKind} {cause : Option Req} {evict : Bool} :
    (d.startRound g line e targets kind cause evict keep).Kept K P A := by
  unfold Dev.startRound
  extract_lets t real lostE d0 d1 ss d2
  have hd0 : d0.Kept K P A := h.bump.dirPut
  have hd1 : d1.Kept K P A := by
    dsimp only [d1]
    split
    · exact hd0.poisonWhole
    · exact hd0
  exact (hd1.slices _).pumpSnoops.checkRound

theorem Dev.Kept.park {e : DirEntry} : (d.park g line e r).Kept K P A := h.bump.dirPut

theorem Dev.Kept.dirRead : (d.dirRead g line).2.Kept K P A := by
  unfold Dev.dirRead
  dsimp only
  have hread := h.arrayRead (u := unitDir (homeSlice g line)) (code := 0x2001)
  generalize d.arrayRead (unitDir (homeSlice g line)) 0x2001 = e at hread ⊢
  split
  · split
    · exact hread
    · split
      · dsimp only
        exact hread.onSlices.raise
      · dsimp only
        exact hread.onSlices.fatal
  · exact hread

theorem Dev.Kept.setUsed : (d.setUsed g line).Kept K P A := h.slices _

theorem Dev.Kept.emptySet : d.emptySet.Kept K P A := by
  unfold Dev.emptySet
  dsimp only
  split
  · exact h
  · refine h.foldl fun e y he => ?_
    have hread := he.dirRead (g := keyGrotto y.1) (line := keyLine y.1)
    split
    · next heq =>
      rw [heq] at hread
      exact hread
    · next heq =>
      rw [heq] at hread
      split
      · split
        · exact hread
        · exact hread.bump.startRound
      · exact hread

theorem Dev.Kept.dirAlloc {e : DirEntry} : (d.dirAlloc r e).2.Kept K P A := by
  unfold Dev.dirAlloc
  dsimp only
  split
  · split
    · exact h.slotHold
    · split
      · dsimp only
        split
        · exact h.emptySet.again
        · exact h.emptySet.slotHold
      · dsimp only
        exact h.bump.dirPut.setUsed
  · split
    · exact h.slotHold
    · split
      · exact h.slotHold
      · next k _ =>
        have hread := h.dirRead (g := keyGrotto k) (line := keyLine k)
        split
        · next heq =>
          rw [heq] at hread
          exact hread
        · next heq =>
          rw [heq] at hread
          split
          · dsimp only
            exact hread.bump.startRound
          · exact hread.slotHold

theorem Dev.Kept.roundFor {e : DirEntry} {targets keep : List Nat} {kind : SnpKind} : (d.roundFor r e targets kind keep).2.Kept K P A := by
  unfold Dev.roundFor
  split
  · exact h.slotHold
  · exact h.startRound

theorem Dev.Kept.dirStep : (d.dirStep r).2.Kept K P A := by
  unfold Dev.dirStep
  dsimp only
  generalize r.op = op
  cases d.dirGet r.g r.line with
  | none =>
    cases op with
    | readS =>
      dsimp only
      split
      · exact h
      · exact h.dirAlloc
    | readE => exact h.dirAlloc
    | atomic => exact h.dirAlloc
    | _ => exact h
  | some e =>
    dsimp only
    generalize e.st = st
    cases st with
    | S =>
      cases op with
      | readS =>
        dsimp only
        split
        · exact h
        · split
          · exact h.dirPut
          · exact h.dirPut
      | readE =>
        dsimp only
        split
        · exact h.dirPut
        · exact h.roundFor
      | write _ _ _ =>
        dsimp only
        split
        · exact h.dirDrop
        · exact h.roundFor
      | atomic => exact h.roundFor
      | _ => exact h
    | E =>
      dsimp only
      split
      · cases op with
        | write _ _ _ => exact h.dirDrop
        | _ => exact h
      · cases op with
        | victim _ _ => exact h
        | wb _ _ _ => exact h
        | clean => exact h
        | readStale => exact h
        | unback _ => exact h
        | again => exact h
        | _ => exact h.roundFor
    | B =>
      dsimp only
      split
      · exact h
      · exact h.park
    | D => exact h.park

/-! ### The page map -/

theorem Dev.Kept.entryLost : (d.entryLost g page).Kept K P A := by
  unfold Dev.entryLost
  dsimp only
  refine Dev.Kept.turn ?_
  split
  · exact h.hold.onMem fun _ hwf => hwf
  · exact h

theorem Dev.Kept.readEntry : (d.readEntry g page).Kept K P A := by
  unfold Dev.readEntry
  dsimp only
  split
  · exact h.entryLost.containPage
  · split
    · exact h.commitEntry
    · exact h

theorem Dev.Kept.fillNow : (d.fillNow g page).Kept K P A := by
  unfold Dev.fillNow
  split
  · exact h.bump.mapUse
  · exact h.bump.readEntry.getD h.bump.readEntry.mapInsert

theorem Dev.Kept.startFill : (d.startFill r).Kept K P A := by
  unfold Dev.startFill
  dsimp only
  split
  · exact h.onPages
  · exact h.bump.rouseMap.onPages

theorem Dev.Kept.invalidatePage : (d.invalidatePage g page).2.Kept K P A := by
  unfold Dev.invalidatePage
  dsimp only
  refine h.foldl fun e line he => ?_
  split
  · split
    · exact he
    · have hread := he.dirRead (g := g) (line := line)
      split
      · next heq =>
        rw [heq] at hread
        exact hread.startRound
      · next heq =>
        rw [heq] at hread
        exact hread
  · exact he

theorem Dev.Kept.releaseBacking : (d.releaseBacking g page).Kept K P A := by
  unfold Dev.releaseBacking
  dsimp only
  split
  · exact h.hold.freeFrame
  · exact h.freeGallery
  · exact h.evSend
  · exact h

theorem Dev.Kept.unlistPage : (d.unlistPage g page).Kept K P A := h.foldl fun _ _ he => he.poisonUnlist

theorem Dev.Kept.dropRebuild : (d.dropRebuild g page).Kept K P A := by
  unfold Dev.dropRebuild
  split
  · exact h
  · dsimp only
    refine (Dev.Kept.againAll ?_).nextRebuild
    split
    · exact h.onRope.hold.freeFrame
    · exact h.onRope

theorem Dev.Kept.settlePage : (d.settlePage g page).Kept K P A := by
  unfold Dev.settlePage
  refine (Dev.Kept.dropRecomp ?_).dropRebuild
  split
  · exact h.abandon.againAll
  · exact h

theorem Dev.Kept.unback : (d.unback g page).Kept K P A := by
  unfold Dev.unback
  dsimp only
  split
  · exact h.settlePage
  · exact h.settlePage.ncDropPage.releaseBacking.turn.onPages.unlistPage.foldl fun _ _ he => he.hold.freeFrame.againAll

theorem Dev.Kept.unbackRange {lo : Nat} : (d.unbackRange g lo n).2.Kept K P A := by
  unfold Dev.unbackRange
  dsimp only
  split
  · have hall := h.foldlPair (b := true) (l := d.backedPages g lo n) (f := fun a p => let (b, e) := a.2.invalidatePage g p; (a.1 && b, e))
      fun _ _ ha => ha.invalidatePage
    dsimp only at hall
    generalize List.foldl _ _ _ = z at hall ⊢
    split
    · exact hall.foldl fun _ _ he => he.unback
    · exact hall
  · exact h.foldl fun _ _ he => he.unback

end

end Sys2Proof.Machine
end

section
/-!
PROOFS. All that is due before the next command keeps the key table and the form of memory.
-/
namespace Sys2Proof.Machine

set_option Elab.async false

section
variable {K : AMap (BitVec 512)} {P : Prop} {A : Option (BitVec 32 × Bool)} {d : Dev} (h : d.Kept K P A) {c cls f g k l ld line link loc mode n p page q s u x : Nat} {r : Req}
include h

/-! ### One request -/

theorem Dev.Kept.releaseLine : (d.releaseLine g line).Kept K P A := by
  unfold Dev.releaseLine
  dsimp only
  refine Dev.Kept.retrySlots ?_
  split
  · split
    · exact h.dirDrop.againAll
    · exact h
  · exact h

theorem Dev.Kept.claim : (d.claim r).Kept K P A := by
  unfold Dev.claim
  split
  · split
    · exact h.onSlices
    · exact h.releaseLine
  · exact h.releaseLine

theorem Dev.Kept.grant : (d.grant r).Kept K P A := by
  unfold Dev.grant
  generalize r.op = op
  cases op with
  | write _ _ _ => exact h.applyWrite
  | victim _ _ => exact h.victimWrite
  | atomic => exact h.claim
  | readS => exact h.serveRead
  | readE => exact h.serveRead
  | readI => exact h.serveRead
  | readStale => exact h.serveRead
  | _ => exact h

theorem Dev.Kept.serveWb {y : LineData} {poison leaveS : Bool} : (d.serveWb mode r y poison leaveS).Kept K P A := by
  unfold Dev.serveWb
  dsimp only
  split
  · split
    · exact h.dirPut.bump.again
    · split
      · refine (Dev.Kept.bump ?_).again
        split
        · exact h.dirPut
        · exact h.dirDrop
      · split
        · exact h.park
        · exact h.again
  · exact h.again

theorem Dev.Kept.serveClean : (d.serveClean r).Kept K P A := by
  unfold Dev.serveClean
  extract_lets done
  have hdone {e : Dev} (he : e.Kept K P A) : (done e).Kept K P A := by
    dsimp only [done]
    split
    · split
      · exact he.emit
      · exact he
    · exact he
  clear_value done
  split
  · split
    · refine hdone ?_
      split
      · exact h.dirDrop
      · exact h
    · split
      · exact hdone h
      · refine hdone ?_
        split
        · exact h.dirDrop
        · exact h.dirPut
    · split
      · exact hdone h.dirPut
      · split
        · exact hdone h
        · exact h.park
    · exact h.park
  · exact hdone h

theorem Dev.Kept.dropFenced : (d.dropFenced g line).Kept K P A := by
  unfold Dev.dropFenced
  split
  · exact h
  · dsimp only
    split
    · exact h
    · split
      · exact h.dirDrop.poisonWhole
      · split
        · exact h
        · split
          · exact h.dirDrop
          · exact h.dirPut
      · exact h

theorem Dev.Kept.dirKnown : (d.dirKnown g line).2.Kept K P A := by
  unfold Dev.dirKnown
  split
  · exact h.dirRead
  · exact h

theorem Dev.Kept.arbitrate : (d.arbitrate r).Kept K P A := by
  unfold Dev.arbitrate
  split
  · exact h.granted.grant
  · have hread := h.dirRead (g := r.g) (line := r.line)
    split
    · next heq =>
      rw [heq] at hread
      exact hread
    · next heq =>
      rw [heq] at hread
      dsimp only
      split
      · exact hread.dropFenced.again
      · have hstep := Dev.Kept.dirStep (Dev.Kept.dropFenced hread (g := r.g) (line := r.line)) (r := r)
        split
        · next hs =>
          rw [hs] at hstep
          exact hstep.granted.grant
        · next hs =>
          rw [hs] at hstep
          exact hstep

theorem Dev.Kept.keyless : (d.keyless r).Kept K P A := by
  unfold Dev.keyless
  split
  · exact h
  · dsimp only
    split
    · exact h.noKey.bump.emit
    · exact h.noKey.bump
  · exact h.noKey.answerWrite

/-- A request that has its map line: it waits for frames, takes one, or goes to the directory. -/
theorem Dev.Kept.placed : (if d.starved r then d.waitFrame r
    else if r.op.isWrite && peState (d.entry r.g (pageOf r.line)) == 0 then
      match d.takeFrame r.g with
      | some (f, d1) => (d1.firstEntry r.g (pageOf r.line) f).arbitrate r
      | none => d.waitFrame r
    else d.arbitrate r).Kept K P A := by
  split
  · exact h.waitFrame
  · split
    · split
      · next htake => exact (h.takeFrame _ htake).firstEntry.arbitrate
      · exact h.waitFrame
    · exact h.arbitrate

omit h in
/-- A writeback, a clean-eviction notice and a map change go ways of their own. -/
theorem Dev.Kept.byOp {op : Op} {wb : LineData → Bool → Bool → Dev} {clean : Dev} {unback : Nat → Dev} {other : Dev} (hwb : ∀ y p l, (wb y p l).Kept K P A)
    (hclean : clean.Kept K P A) (hunback : ∀ n, (unback n).Kept K P A) (hother : other.Kept K P A) :
    Dev.Kept K P A (match op with
      | .wb y p l => wb y p l
      | .clean => clean
      | .unback n => unback n
      | _ => other) := by
  cases op with
  | wb y p l => exact hwb y p l
  | clean => exact hclean
  | unback n => exact hunback n
  | _ => exact hother

theorem Dev.Kept.serve : (d.serve mode r).Kept K P A := by
  have hknown := h.dirKnown (g := r.g) (line := r.line)
  unfold Dev.serve
  extract_lets page needMap e
  have he : e.Kept K P A := by
    dsimp only [e]
    split
    · exact h.fillNow
    · exact h
  split
  · exact h.keyless
  · refine Dev.Kept.byOp (fun _ _ _ => ?writeback) ?clean (fun n => ?unback) ?other
    case writeback =>
      generalize d.dirKnown r.g r.line = z at hknown ⊢
      dsimp only
      split
      · exact hknown.serveWb
      · exact hknown
    case clean =>
      generalize d.dirKnown r.g r.line = z at hknown ⊢
      dsimp only
      split
      · exact hknown.serveClean
      · exact hknown
    case unback =>
      have hrange : (d.unbackRange r.g page n).2.Kept K P A := h.unbackRange
      generalize d.unbackRange r.g page n = z at hrange ⊢
      dsimp only
      split
      · exact hrange.answerWrite
      · exact hrange.slotHold
    case other =>
      split
      · exact h.fillNow.grant
      · split
        · exact h.fillNow.granted.grant
        · split
          · exact h.slotHold
          · split
            · exact h.slotHold
            · split
              · exact h.slotHold
              · split
                · exact h.startFill
                · exact he.placed

theorem Dev.Kept.drain : (d.drain n).Kept K P A := by
  induction n generalizing d with
  | zero => exact h
  | succ n ih =>
    unfold Dev.drain
    split
    · exact h
    · exact ih (h.slices _).serve

/-! ### What waits -/

theorem Dev.Kept.serveFrames : (d.serveFrames n).Kept K P A := by
  induction n generalizing d with
  | zero => exact h
  | succ n ih =>
    unfold Dev.serveFrames
    split
    · exact ih h.onPages.serve.drain
    · exact h

theorem Dev.Kept.serveMap : (d.serveMap n).Kept K P A := by
  induction n generalizing d with
  | zero => exact h
  | succ n ih =>
    unfold Dev.serveMap
    split
    · exact ih h.onPages.serve.drain
    · exact h

theorem Dev.Kept.writeOutLost : d.writeOutLost.Kept K P A := h.foldl fun _ _ he => he.ncEvict

theorem Dev.Kept.clearDiscards : d.clearDiscards.Kept K P A := by
  unfold Dev.clearDiscards
  split
  · exact h.grottos _
  · exact h

theorem Dev.Kept.sweepArrays : d.sweepArrays.Kept K P A := by
  have harray := h.arrayWrite (u := 0x386)
  unfold Dev.sweepArrays
  split
  · exact h
  · dsimp only
    generalize d.arrayWrite 0x386 = z at harray ⊢
    refine Dev.Kept.foldl (fun _ _ he => he.arrayWrite) ?_
    split
    · exact harray
    · exact harray.choose.onCnt.raise

theorem Dev.Kept.quiesce : d.quiesce.Kept K P A := by
  have hdone := (((((h.drain (n := drainFuel)).pumpSnoops).writeOutLost).relieve (n := drainFuel)).reap).drain (n := drainFuel)
  exact ((((((hdone.serveMap.serveFrames).resumeRebuilds).clearDiscards).askRelease).sweepArrays).issueAll).catchUp

/-! ### Requests that hosts have sent -/

theorem Dev.Kept.locate {hpa : Nat} : (d.locate link ld hpa).2.Kept K P A := by
  unfold Dev.locate
  split
  · exact h
  · dsimp only
    split
    · exact h
    · exact h.setLd

theorem Dev.Kept.outside {m : MemHdr} {hpa case : Nat} {read : Bool} : (d.outside m hpa case read).Kept K P A := by
  unfold Dev.outside
  dsimp only
  split
  · exact h.event.bump.emit
  · exact h.event.bump.emit

theorem Dev.Kept.hostRequest {m : MemHdr} {hpa : BitVec 64} {op : Op} : (d.hostRequest m hpa op).Kept K P A := by
  unfold Dev.hostRequest
  extract_lets read e
  have he : e.Kept K P A := by
    dsimp only [e]
    split
    · exact h.bump
    · exact h
  have hlocated := he.locate (link := m.link) (ld := m.ld) (hpa := hpa.toNat)
  clear_value e
  split
  · next heq =>
    rw [heq] at hlocated
    split
    · exact hlocated.event.emit
    · exact hlocated.outside
  · next heq =>
    rw [heq] at hlocated
    exact hlocated.again

theorem Dev.Kept.memAct {i : Instr} : (d.memAct i).Kept K P A := by
  unfold Dev.memAct
  split
  · exact h
  · split
    · exact ⟨h.keys, h.mem, h.alone⟩
    · unfold Dev.addressed
      split
      · exact h.event
      · split
        · exact h.event
        · split
          · exact h.hostRequest
          · exact h.emit

theorem Dev.Kept.decodeAhead {i : Instr} : (d.decodeAhead i).Kept K P A := by
  unfold Dev.decodeAhead
  split
  · split
    · exact h
    · exact h.locate
  · exact h

theorem Dev.Kept.setLink {y : Link} : (d.setLink l y).Kept K P A := ⟨h.keys, h.mem, h.alone⟩

theorem Dev.Kept.memEnter {m : MemHdr} {i : Instr} : (d.memEnter m i).Kept K P A := by
  unfold Dev.memEnter
  dsimp only
  split
  · exact h.wake
  · split
    · split
      · exact h.wake.setLink.decodeAhead
      · exact h.wake.setLink
    · exact h.wake.setLink.foldl fun _ _ he => he.memAct

theorem Dev.Kept.takeUnsent : (d.takeUnsent n).Kept K P A := by
  induction n generalizing d with
  | zero => exact h
  | succ n ih =>
    unfold Dev.takeUnsent
    split
    · next i m _ =>
      have hleft : ({ d with unsent := d.unsent.erase i } : Dev).Kept K P A := ⟨h.keys, h.mem, h.alone⟩
      exact ih hleft.memEnter.drain
    · exact h

theorem Dev.Kept.after : d.after.Kept K P A := by
  unfold Dev.after
  dsimp only
  split
  · exact h.quiesce
  · exact h.quiesce.takeUnsent.quiesce

end

/-- Nothing that is due changes the key table. -/
theorem Dev.after_keys (d : Dev) : d.after.keys = d.keys := (Dev.Kept.after (P := False) (A := none) ⟨rfl, False.elim, fun _ h => absurd h (by simp)⟩).keys

end Sys2Proof.Machine
end

section
/-!
PROOFS. Commands on memory keep its canonical form (R96, R125, R259).
-/
namespace Sys2Proof.Machine

set_option Elab.async false

section
variable {K : AMap (BitVec 512)} {P : Prop} {A : Option (BitVec 32 × Bool)} {d : Dev} (h : d.Kept K P A) {c cls f g k l ld line link loc mode n p page q s u x : Nat} {r : Req}
include h

/-- What memory records of its frames has no part in its form. -/
theorem Dev.Kept.record {m : Mem → Mem} (hm : ∀ y, (m y).dram = y.dram ∧ (m y).resv = y.resv) : (d.onMem m).Kept K P A :=
  h.frames (hm d.mem).1 (hm d.mem).2

/-! ### Channels and frames that are lost (R138 to R140) -/

theorem Dev.Kept.mapLineBad : (d.mapLineBad l).Kept K P A := by
  unfold Dev.mapLineBad
  refine h.foldl fun e y he => ?_
  split
  · exact he.rebuildPage
  · exact he.entryLost.containPage

theorem Dev.Kept.rescale : d.rescale.Kept K P A := by
  unfold Dev.rescale
  extract_lets bw sum eff d1 d2 hit
  have hd2 : d2.Kept K P A := (h.foldl fun _ _ he => he.onQos).onQos
  clear_value d2
  split
  · exact hd2
  · exact hd2.event

theorem Dev.Kept.republish : d.republish.Kept K P A := by
  unfold Dev.republish
  split
  · exact h
  · exact h.rescale

theorem Dev.Kept.flushLost : (d.flushLost g page).Kept K P A := h.foldl fun _ _ he => he.ncDrop.victimWrite

theorem Dev.Kept.damaged : (d.damaged g page).Kept K P A := by
  unfold Dev.damaged
  extract_lets d0 d1 d2 w d3
  have hd0 : d0.Kept K P A := by
    dsimp only [d0]
    split
    · exact h.abandon.againAll
    · exact h
  have hd1 : d1.Kept K P A := by
    clear_value d0
    dsimp only [d1]
    split
    · exact hd0.onPages.hold.freeFrame.againAll
    · exact hd0
  have hd2 : d2.Kept K P A := hd1.dropRecomp
  have hd3 : d3.Kept K P A := by
    clear_value d2
    dsimp only [d3]
    split
    · exact hd2.hold
    · exact hd2.freeGallery
    · exact hd2
  clear_value d2 d3
  split
  · exact hd2.rebuildPage
  · exact hd3.turn.flushLost

theorem Dev.Kept.loseFrames {m : Nat → Bool} : (d.loseFrames c n m).Kept K P A := by
  unfold Dev.loseFrames
  extract_lets gone d0 d1 d2 d3
  have hd1 : d1.Kept K P A := (h.onPages.foldl fun _ _ he => he.damaged).record fun _ => ⟨rfl, rfl⟩
  have hd2 : d2.Kept K P A := hd1.raise
  have hd3 : d3.Kept K P A := by
    clear_value d2
    dsimp only [d3]
    split
    · exact hd2.raise
    · exact hd2
  exact hd3.republish

theorem Dev.Kept.failChannel {out : BitVec 8} : (d.failChannel c out).Kept K P A := by
  unfold Dev.failChannel
  dsimp only
  split
  · exact h
  · exact h.setChan.loseFrames.after

theorem Dev.Kept.loseRanks {rs : List Nat} : (d.loseRanks c rs).Kept K P A := by
  unfold Dev.loseRanks
  dsimp only
  split
  · exact h
  · split
    · exact h.failChannel
    · exact h.setChan.loseFrames.after

/-! ### Repair and the zeroer (R96, R150) -/

theorem Dev.Kept.rowBack {y : Repair} : (d.rowBack y).Kept K P A := h.foldl fun _ _ he => he.dramRead

theorem Dev.Kept.repairDone {ok : Bool} : (d.repairDone c ok).Kept K P A := by
  unfold Dev.repairDone
  dsimp only
  split
  · exact h
  · split
    · exact h.setChan.owes.rowBack.issueOwed.raise.after
    · exact h.setChan.owes.rowBack.issueOwed.retireFrame.after

theorem Dev.Kept.zeroerDone : (d.zeroerDone c n).Kept K P A := by
  unfold Dev.zeroerDone
  dsimp only
  split
  · exact h.setPool.zeroFrame.bump.bump.charge.after
  · exact h

/-! ### Training (R141 to R146) -/

theorem Dev.Kept.service : (d.service c).Kept K P A := by
  unfold Dev.service
  exact (Dev.Kept.freeCtr (Dev.Kept.setChan h.setChan) _).owes.republish

theorem Dev.Kept.trainEnd : d.trainEnd.Kept K P A := by
  unfold Dev.trainEnd
  extract_lets done
  split
  · exact h.raise
  · exact h

theorem Dev.Kept.spdRead {a b : Option Dimm} : (d.spdRead c a b).Kept K P A := by
  unfold Dev.spdRead
  dsimp only
  split
  · exact h
  · split
    · split
      · exact h
      · split
        · exact h.setChan
        · split
          · exact h.setChan
          · exact h.setChan.raise
    · split
      · exact h.setChan.onPower.republish
      · exact h

theorem Dev.Kept.fullTrained {bad soft : List Nat} : (d.fullTrained c bad soft).Kept K P A := by
  unfold Dev.fullTrained
  extract_lets x bad out0 out1 y d1
  have hd1 : d1.Kept K P A := by
    dsimp only [d1]
    split
    · exact h.setChan
    · exact h.setChan.service
  clear_value d1
  split
  · exact hd1
  · exact hd1.raise

theorem Dev.Kept.retrained {t : TrainReport} : (d.retrained c t).Kept K P A := by
  unfold Dev.retrained
  extract_lets x same told y
  split
  · exact h.failChannel
  · exact h.setChan.service.loseRanks

theorem Dev.Kept.trained {t : TrainReport} {soft : List Nat} : (d.trained c t soft).Kept K P A := by
  unfold Dev.trained
  dsimp only
  split
  · exact h
  · split
    · split
      · exact h
      · refine Dev.Kept.trainEnd ?_
        split
        · exact h.spdRead.fullTrained
        · exact h.spdRead
    · split
      · exact h.onPower.retrained.trainEnd
      · exact h

/-! ### The crawl (R480 to R484) -/

theorem Dev.Kept.crawlLost {b : Bank} : (d.crawlLost f n b).Kept K P A := by
  unfold Dev.crawlLost
  extract_lets c put d1 x lines mine d2
  have hput {e : Dev} (he : e.Kept K P A) (y : DLine) : (put e y).Kept K P A := he.dram _ _
  have hd1 : d1.Kept K P A := by
    clear_value put
    dsimp only [d1]
    split
    · exact (hput h _).poisonList
    · exact hput h _
  have hd2 : d2.Kept K P A := by
    clear_value d1
    dsimp only [d2]
    split
    · exact hd1.setChan.retrySlots
    · exact hd1.setChan
  exact hd2.bump

theorem Dev.Kept.crawlBad : (d.crawlBad f n).Kept K P A := h.countRead.bump

theorem Dev.Kept.crawlFind {o : LineObs} : (d.crawlFind f n o).Kept K P A := by
  unfold Dev.crawlFind
  split
  · dsimp only
    split
    · exact h
    · split
      · exact h.crawlBad.raise.partnerRead
      · exact h.dramRead
  · split
    · split
      · exact h.dramRead
      · extract_lets d1
        have hd1 : d1.Kept K P A := by
          dsimp only [d1]
          split
          · exact h.crawlBad
          · exact h.dramRead
        clear_value d1
        split
        · exact hd1.headerBad
        · exact hd1.subBad
    · split
      · split
        · split
          · exact h.crawlBad.mapLineBad
          · exact h.crawlBad.raise
        · exact h.dramRead
      · split
        · extract_lets p d1
          have hd1 : d1.Kept K P A := h.crawlBad.setPool
          clear_value d1
          refine Dev.Kept.raise (hd1.record fun _ => ?_)
          exact ⟨rfl, rfl⟩
        · exact h.dramRead

theorem Dev.Kept.crawl {i : Nat} {o : LineObs} : (d.crawl c i n o).Kept K P A := by
  unfold Dev.crawl
  extract_lets f x before d1 d2 d3 y last d4
  have hd2 : d2.Kept K P A := h.crawlFind.bump
  have hd3 : d3.Kept K P A := by
    clear_value d1 d2
    dsimp only [d3]
    split
    · exact hd2
    · exact hd2.bump
  have hd4 : d4.Kept K P A := hd3.setChan
  split
  · exact h
  · split
    · split
      · exact h
      · exact h.crawlLost.after
    · split
      · exact h
      · clear_value d4
        refine Dev.Kept.after ?_
        split
        · exact hd4.bump
        · exact hd4

/-! ### Messages of partners -/

theorem Dev.Kept.popMsg : ∀ y ∈ d.popMsg p, y.2.Kept K P A := by
  intro y hy
  unfold Dev.popMsg at hy
  split at hy
  · exact absurd hy (by simp)
  · split at hy
    · obtain rfl := Option.some.inj hy
      exact h.setEv
    · obtain rfl := Option.some.inj hy
      exact h.setEv
    · exact absurd hy (by simp)

theorem Dev.Kept.handle {m : Dev → EvMsg → Option Dev} (hm : ∀ e x, e.Kept K P A → ∀ a ∈ m e x, a.Kept K P A) : (d.handle p m).Kept K P A := by
  unfold Dev.handle
  split
  · exact h
  · next hpop =>
    have hd1 := h.popMsg _ hpop
    refine Dev.Kept.getD ?_ (hm _ _ hd1)
    split
    · exact hd1
    · exact h

theorem Dev.Kept.guestStore {poison zero : Bool} {handle : BitVec 33} {data : LineData} {key : BitVec 512} {tweak tag : Nat} :
    (d.guestStore p poison zero tag handle line data key tweak).Kept K P A := by
  unfold Dev.guestStore
  split
  · exact h.dramWrite.evSend
  · exact h.event

/-! ### Power -/

omit h in
/-- A start from nothing has empty memory. -/
theorem Dev.coldDev_wf (d : Dev) (p : Power) : (d.coldDev p).mem.wf = true := rfl

end

theorem State.bareStart_mem (s : State) (refclk : Nat) : (s.bareStart (s.dev.coldBoot refclk)).dev.mem = {} := rfl

/-- Firmware's records and messages have no part in memory. -/
theorem State.payDue_mem (s : State) : s.payDue.dev.mem = s.dev.mem := by
  have hspill (a : State) : a.spillLog.dev.mem = a.dev.mem := by
    unfold State.spillLog
    dsimp only
    split <;> rfl
  rw [State.payDue_eq]
  split
  · rfl
  · exact (hspill _).trans (foldl_view (fun a : State => a.dev.mem) State.payOne (fun _ _ => rfl) _ _)

/-- Settles O42: no command's own writes, and nothing that is due after it, leave memory's canonical form. -/
theorem memoryKeepsItsForm : Obligations.MemoryKeepsItsForm := by
  intro s t c i n p o ok r hwf hexec
  have hkept := s.dev.kept_self
  have hdev {e : Dev} (he : e.Kept s.dev.keys (s.dev.mem.wf = true) none) : e.mem.wf = true := he.mem hwf
  rcases hexec with h | h | h | h | h | h | h
  · cases h
    exact hdev hkept.zeroerDone
  · cases h
    exact hdev hkept.crawl
  · cases h
    rw [State.payDue_mem]
    exact hdev hkept.repairDone
  · cases h
    rw [State.payDue_mem]
    exact hdev hkept.trained
  · cases h
    refine hdev (hkept.handle fun e x he a ha => ?_)
    split at ha
    · obtain rfl := Option.some.inj ha
      exact he.guestStore
    · exact absurd ha (by simp)
  · have hboot : t = s.bareStart (s.dev.coldBoot n) ∨ t = s := by
      change (if _ then _ else _) = _ at h
      split at h
      · exact .inl (Host.Outcome.next.inj h).symm
      · exact .inr (Host.Outcome.next.inj h).symm
    obtain rfl | rfl := hboot
    · rw [State.bareStart_mem]
      rfl
    · exact hwf
  · cases h
    exact s.dev.coldDev_wf _

end Sys2Proof.Machine
end

section
/-!
PROOFS. What an Evoil port sends, and how its messages are taken up (R436, R451).
-/
namespace Sys2Proof.Machine

/-! ### What sending leaves -/

/-- A device whose Evoil ports have sent: ports, what they have placed, budgets, counters, messages and answered lines may differ. -/
structure Dev.Sent (a b : Dev) : Prop where
  eq : ∃ (x y : EvPort) (rx0 rx1 : Option (BitVec 32)) (u v : Nat) (k : Counters) (o : List Out) (fb : AMap (LineData × Bool)),
    b = { a with
      ev := { a.ev with p0 := x, p1 := y, rope := { a.ev.rope with rx0 := rx0, rx1 := rx1 } }
      flow := { a.flow with spillUsed0 := u, spillUsed1 := v }
      cnt := k, out := o, pages := { a.pages with farBuf := fb } }

section Sent
variable {a b c d : Dev} {p n : Nat}

theorem Dev.Sent.refl (d : Dev) : d.Sent d := ⟨_, _, _, _, _, _, _, _, _, rfl⟩

theorem Dev.Sent.trans (h : a.Sent b) (k : b.Sent c) : a.Sent c := by
  obtain ⟨_, _, _, _, _, _, _, _, _, rfl⟩ := h.eq
  obtain ⟨_, _, _, _, _, _, _, _, _, rfl⟩ := k.eq
  exact ⟨_, _, _, _, _, _, _, _, _, rfl⟩

theorem Dev.Sent.still (h : a.Sent b) (hs : a.Still) : b.Still := by
  obtain ⟨_, _, _, _, _, _, _, _, _, rfl⟩ := h.eq
  exact ⟨hs.resume, hs.snoops, hs.lost, hs.hold, hs.dying, hs.misses, hs.frames, hs.rebuilds, hs.discards, hs.asking, hs.surplus, hs.armed, hs.writes, hs.owed,
    hs.unsent⟩

theorem Dev.Sent.mem (h : a.Sent b) : b.mem = a.mem := by
  obtain ⟨_, _, _, _, _, _, _, _, _, rfl⟩ := h.eq
  rfl

theorem Dev.Sent.grottos (h : a.Sent b) : b.grottos = a.grottos := by
  obtain ⟨_, _, _, _, _, _, _, _, _, rfl⟩ := h.eq
  rfl

theorem Dev.Sent.keys (h : a.Sent b) : b.keys = a.keys := by
  obtain ⟨_, _, _, _, _, _, _, _, _, rfl⟩ := h.eq
  rfl

/-- The rope as it stands with its partner. -/
theorem Dev.Sent.ropeView (h : a.Sent b) : b.ropeView = a.ropeView := by
  obtain ⟨_, _, _, _, _, _, _, _, _, rfl⟩ := h.eq
  rfl

theorem Dev.setEv_sent (d : Dev) (p : Nat) (y : EvPort) : d.Sent (d.setEv p y) := by
  unfold Dev.setEv
  split <;> exact ⟨_, _, _, _, _, _, _, _, _, rfl⟩

theorem Dev.emit_sent (d : Dev) (m : Msg) : d.Sent (d.emit m) := ⟨_, _, _, _, _, _, _, _, _, rfl⟩
theorem Dev.bump_sent (d : Dev) (n k : Nat) : d.Sent (d.bump n k) := ⟨_, _, _, _, _, _, _, _, _, rfl⟩

theorem Dev.spillSpend_sent (d : Dev) (p n : Nat) : d.Sent (d.spillSpend p n) := by
  have heq : ∃ u v, d.spillSpend p n = { d with flow := { d.flow with spillUsed0 := u, spillUsed1 := v } } := by
    unfold Dev.spillSpend Dev.onFlow
    split <;> exact ⟨_, _, rfl⟩
  obtain ⟨_, _, heq⟩ := heq
  rw [heq]
  exact ⟨_, _, _, _, _, _, _, _, _, rfl⟩

theorem Dev.evCountOut_sent (d : Dev) (p : Nat) : d.Sent (d.evCountOut p) := ⟨_, _, _, _, _, _, _, _, _, rfl⟩

theorem Dev.evPump_sent (d : Dev) (p n : Nat) : d.Sent (d.evPump p n) := by
  induction n generalizing d with
  | zero => exact .refl d
  | succ n ih =>
    unfold Dev.evPump
    dsimp only
    split
    · exact (((((d.setEv_sent p _).trans (Dev.spillSpend_sent _ _ _)).trans (Dev.emit_sent _ _)).trans (Dev.bump_sent _ _ _)).trans
        (Dev.evCountOut_sent _ _)).trans (ih _)
    · exact .refl d

theorem Dev.evSend_sent (d : Dev) (p : Nat) (m : EvMsg) : d.Sent (d.evSend p m) := by
  unfold Dev.evSend
  dsimp only
  split
  · refine Dev.Sent.trans (Dev.Sent.trans ?_ (Dev.setEv_sent _ _ _)) (Dev.evPump_sent _ _ _)
    split
    · split
      · exact (d.bump_sent _ _).trans (Dev.bump_sent _ _ _)
      · exact d.bump_sent _ _
    · exact d.bump_sent _ _
    · exact d.bump_sent _ _
    · exact d.bump_sent _ _
    · exact d.bump_sent _ _
    · exact .refl d
  · exact .refl d

theorem Dev.ropePlaced_sent (d : Dev) (p : Nat) (t : BitVec 32) : d.Sent (d.ropePlaced p t) := by
  have hreceived (e : Dev) (z : BitVec 32) : e.Sent (e.onRope fun r => if p = 0 then { r with rx0 := some z } else { r with rx1 := some z }) := by
    unfold Dev.onRope Dev.onEv
    split <;> exact ⟨_, _, _, _, _, _, _, _, _, rfl⟩
  unfold Dev.ropePlaced
  dsimp only
  split
  · exact (((d.setEv_sent p _).trans (Dev.bump_sent _ _ _)).trans (hreceived _ _)).trans (Dev.evSend_sent _ _ _)
  · exact (d.setEv_sent p _).trans (Dev.bump_sent _ _ _)

end Sent

/-! ### What a hello has told is kept -/

/-- What a port knows of the one at its other end. -/
def EvPort.peer (x : EvPort) : Bool × BitVec 16 × Option (BitVec 12) × Option (BitVec 12) × BitVec 32 :=
  (x.helloGot, x.peerMember, x.peerPool, x.peerRope, x.peerEpoch)

section Peer
variable (d : Dev) (p : Nat)

theorem Dev.evPump_peer (n : Nat) : ((d.evPump p n).evPort p).peer = (d.evPort p).peer := by
  induction n generalizing d with
  | zero => rfl
  | succ n ih =>
    unfold Dev.evPump
    dsimp only
    split
    · rw [ih]
      simp [EvPort.peer]
    · rfl

theorem Dev.evSend_peer (m : EvMsg) : ((d.evSend p m).evPort p).peer = (d.evPort p).peer := by
  unfold Dev.evSend
  dsimp only
  split
  · rw [Dev.evPump_peer, Dev.evPort_setEv]
    rfl
  · rfl

theorem Dev.sendHandles_sent (n : Nat) (hs : List (BitVec 33)) : d.Sent (d.sendHandles p n hs) ∧ ((d.sendHandles p n hs).evPort p).peer = (d.evPort p).peer := by
  induction n generalizing d hs with
  | zero => exact ⟨.refl d, rfl⟩
  | succ n ih =>
    unfold Dev.sendHandles
    dsimp only
    split
    · exact ⟨d.evSend_sent p _, d.evSend_peer p _⟩
    · obtain ⟨hsent, hpeer⟩ := ih (d.evSend p (.handleList (decide (hs.length ≤ 28)) (hs.take 28))) (hs.drop 28)
      exact ⟨(d.evSend_sent p _).trans hsent, hpeer.trans (d.evSend_peer p _)⟩

end Peer

/-! ### The message at hand -/

section Handle
variable {d : Dev} {p : Nat} {m : EvMsg} {rest : List (List EvMsg)} {f : Dev → EvMsg → Option Dev}

/-- A message without a sequence number, alone in its flit, frees it. -/
theorem Dev.handle_plain (hp : p < 2) (hawake : d.awake = true) (hrx : (d.evPort p).rxq = [m] :: rest) (hcur : (d.evPort p).cur = []) (hseq : EvMsg.seq? m = none)
    {t : Dev} (hf : f (d.setEv p { d.evPort p with rxq := rest, freed := (d.evPort p).freed + 1 }) m = some t) : d.handle p f = t := by
  have hawait : (d.evPort p).await m = d.evPort p := by
    unfold EvPort.await
    rw [hseq]
  have hpop : d.popMsg p = some (m, d.setEv p { d.evPort p with rxq := rest, freed := (d.evPort p).freed + 1 }) := by
    unfold Dev.popMsg
    rw [if_neg (by simp [hawake]; omega), hrx]
    dsimp only
    rw [hawait, hcur]
    rfl
  unfold Dev.handle
  rw [hpop]
  dsimp only
  rw [hf]
  rfl

/-- A message with a sequence number holds its flit until it is placed. -/
theorem Dev.handle_sequenced (hp : p < 2) (hawake : d.awake = true) (hrx : (d.evPort p).rxq = [m] :: rest) (hcur : (d.evPort p).cur = []) {q : BitVec 32}
    (hseq : EvMsg.seq? m = some q) {t : Dev}
    (hf : f (d.setEv p { d.evPort p with rxq := rest, placing := (d.evPort p).placing ++ [(q, false)], held := (d.evPort p).held ++ [[q]], cur := [] }) m = some t) :
    d.handle p f = t := by
  have hawait : (d.evPort p).await m = { d.evPort p with placing := (d.evPort p).placing ++ [(q, false)], cur := [q] } := by
    unfold EvPort.await
    rw [hseq, hcur]
    rfl
  have hpop : d.popMsg p = some (m, d.setEv p
      { d.evPort p with rxq := rest, placing := (d.evPort p).placing ++ [(q, false)], held := (d.evPort p).held ++ [[q]], cur := [] }) := by
    unfold Dev.popMsg
    rw [if_neg (by simp [hawake]; omega), hrx]
    dsimp only
    rw [hawait]
    rfl
  unfold Dev.handle
  rw [hpop]
  dsimp only
  rw [hf]
  rfl

end Handle

end Sys2Proof.Machine
end

section
/-!
PROOFS. Hello, mirror lines and map changes arrive (R427, R447, R449, R451).
-/
namespace Sys2Proof.Machine

/-! ### A port's state has no part in tables and pages -/

section Port
variable (d : Dev) (p : Nat) (y : EvPort)

@[simp] theorem Dev.setEv_grotto (g : Nat) : (d.setEv p y).grotto g = d.grotto g := by
  unfold Dev.setEv
  split <;> rfl

@[simp] theorem Dev.setEv_grottos : (d.setEv p y).grottos = d.grottos := by
  unfold Dev.setEv
  split <;> rfl

@[simp] theorem Dev.setEv_freshSeq (u : Nat) (resent : Bool) (q : BitVec 32) : (d.setEv p y).freshSeq u resent q = d.freshSeq u resent q := by
  unfold Dev.setEv
  split <;> rfl

@[simp] theorem Dev.setEv_crossed (u g page : Nat) : (d.setEv p y).crossed u g page = d.crossed u g page := by
  unfold Dev.setEv
  split <;> rfl

@[simp] theorem Dev.setEv_unsealed (m : LineMsg) : (d.setEv p y).unsealed m = d.unsealed m := by
  unfold Dev.setEv
  split <;> rfl

end Port

/-! ### Hello (R427) -/

section Hello
variable {d : Dev} {p : Nat}

/-- A hello in the session that the port knows. -/
theorem Dev.helloIn_known {member : BitVec 16} {pool rope : Option (BitVec 12)} {epoch : BitVec 32} (hmember : member ∈ [0x0832#16, 0x1664#16]) :
    ∃ t, d.helloIn p 8 member pool rope epoch (d.evPort p).peerSession = t.after ∧ d.Sent t ∧ (t.evPort p).peer = (true, member, pool, rope, epoch) := by
  obtain ⟨e, he⟩ : ∃ e, e = d.setEv p { d.evPort p with
    helloGot := true, peerMember := member, peerPool := pool, peerRope := rope, peerEpoch := epoch, peerSession := (d.evPort p).peerSession } := ⟨_, rfl⟩
  have hsent : d.Sent e := he ▸ d.setEv_sent p _
  have hpeer : (e.evPort p).peer = (true, member, pool, rope, epoch) := by
    rw [he, Dev.evPort_setEv]
    rfl
  obtain ⟨hlist, hlistPeer⟩ := e.sendHandles_sent p ((e.handlesOn p).length + 1) (e.handlesOn p)
  have hout : e.Sent (if e.mem.recon then e else e.handleListOut p) ∧ ((if e.mem.recon then e else e.handleListOut p).evPort p).peer = (e.evPort p).peer := by
    split
    · exact ⟨.refl e, rfl⟩
    · exact ⟨hlist, hlistPeer⟩
  refine ⟨(if e.mem.recon then e else e.handleListOut p).evPump p evFuel, ?_, (hsent.trans hout.1).trans (Dev.evPump_sent _ _ _), ?_⟩
  · unfold Dev.helloIn
    rw [if_neg (by simpa [Decidable.or_iff_not_imp_left] using hmember)]
    dsimp only
    rw [if_pos rfl, ← he]
  · rw [Dev.evPump_peer, hout.2, hpeer]

end Hello

/-! ### Mirror lines (R451) -/

section Mirror
variable {d : Dev} {p : Nat} {m : LineMsg}

/-- The device with a mirror line counted, if a rebuild sent it. -/
def Dev.mirrorCounted (d : Dev) (p : Nat) (m : LineMsg) : Dev := if m.rebuild then d.bump (evCnt p 13) else d

theorem Dev.mirrorIn_placed (hcopy : (d.grotto m.grotto).copy = true) (hfresh : d.freshSeq p m.resent m.seq = true) :
    d.mirrorIn p m = (((d.mirrorCounted p m).again 1 {
      who := .rope p m.seq, src := 161 + p, g := m.grotto, line := m.line, cls := (d.grotto m.grotto).cls,
      op := .write fullMask (d.unsealed m) m.poison }).after) := by
  have hsame : (d.mirrorCounted p m).grotto m.grotto = d.grotto m.grotto ∧ (d.mirrorCounted p m).freshSeq p m.resent m.seq = d.freshSeq p m.resent m.seq ∧
      (d.mirrorCounted p m).unsealed m = d.unsealed m := by
    unfold Dev.mirrorCounted
    split <;> exact ⟨rfl, rfl, rfl⟩
  obtain ⟨hgrotto, hseq, hdata⟩ := hsame
  unfold Dev.mirrorIn
  change (if ((d.mirrorCounted p m).grotto m.grotto).copy = true ∧ (d.mirrorCounted p m).freshSeq p m.resent m.seq = true then
    ((d.mirrorCounted p m).again 1 {
      who := .rope p m.seq, src := 161 + p, g := m.grotto, line := m.line, cls := ((d.mirrorCounted p m).grotto m.grotto).cls,
      op := .write fullMask ((d.mirrorCounted p m).unsealed m) m.poison }).after else (d.mirrorCounted p m).ropePlaced p m.seq) = _
  rw [hgrotto, hseq, hdata, if_pos ⟨hcopy, hfresh⟩]

/-- A line that has no copy here, or that stood in it before, is only reported placed. -/
theorem Dev.mirrorIn_reported (h : (d.grotto m.grotto).copy = false ∨ d.freshSeq p m.resent m.seq = false) :
    d.mirrorIn p m = (d.mirrorCounted p m).ropePlaced p m.seq := by
  have hsame : (d.mirrorCounted p m).grotto m.grotto = d.grotto m.grotto ∧ (d.mirrorCounted p m).freshSeq p m.resent m.seq = d.freshSeq p m.resent m.seq := by
    unfold Dev.mirrorCounted
    split <;> exact ⟨rfl, rfl⟩
  obtain ⟨hgrotto, hseq⟩ := hsame
  have hnot : ¬(((d.mirrorCounted p m).grotto m.grotto).copy = true ∧ (d.mirrorCounted p m).freshSeq p m.resent m.seq = true) := by
    rw [hgrotto, hseq]
    rintro ⟨hcopy, hfresh⟩
    obtain h | h := h
    · simp [hcopy] at h
    · simp [hfresh] at h
  exact if_neg hnot

end Mirror

/-! ### Map changes (R447, R449) -/

section MapChange
variable {d : Dev} {p n g page : Nat} {q : BitVec 32}

theorem Dev.mapChangeIn_reported (h : (d.grotto g).copy = false ∨ d.freshSeq p (d.crossed p g page) q = false) (a : Nat) :
    d.mapChangeIn p a n g page q = (d.ropePlaced p q).after := by
  unfold Dev.mapChangeIn
  dsimp only
  rw [if_pos]
  obtain h | h := h
  · rw [h]
    rfl
  · rw [h, Bool.or_eq_true]
    exact .inr rfl

section Taken
variable (hcopy : (d.grotto g).copy = true) (hfresh : d.freshSeq p (d.crossed p g page) q = true)
include hcopy hfresh

theorem Dev.mapChangeIn_taken : (!(d.grotto g).copy || !d.freshSeq p (d.crossed p g page) q) ≠ true := by
  rw [hcopy, hfresh]
  decide

/-- The grotto's keys go, and its lines in the near cache with them. -/
theorem Dev.mapChangeIn_keys : d.mapChangeIn p 1 n g page q =
    ((({ (d.dropKeyed (d.grotto g).keyId).dropKeyed (d.grotto g).elasticKeyId with
      keys := merase (merase d.keys (d.grotto g).keyId) (d.grotto g).elasticKeyId } : Dev).ropePlaced p q).after) :=
  if_neg (Dev.mapChangeIn_taken hcopy hfresh)

theorem Dev.mapChangeIn_unbacks : d.mapChangeIn p 0 n g page q =
    (d.again 1 { who := .rope p q, src := 161 + p, g := g, line := page * 64, op := .unback n, cls := (d.grotto g).cls }).after :=
  if_neg (Dev.mapChangeIn_taken hcopy hfresh)

theorem Dev.mapChangeIn_releases : d.mapChangeIn p 3 n g page q =
    (((d.modGrotto g fun u => { u with
      accepted := u.accepted.filter fun e => !(decide (page / unitPages ≤ e.1 ∧ e.1 + e.2 ≤ page / unitPages + n / unitPages)) }).again 1 {
        who := .rope p q, src := 161 + p, g := g, line := page * 64, op := .unback n, cls := (d.grotto g).cls }).after) :=
  if_neg (Dev.mapChangeIn_taken hcopy hfresh)

theorem Dev.mapChangeIn_takes : d.mapChangeIn p 2 n g page q =
    (((if d.overcommits { d with grottos := mset d.grottos g { d.grotto g with
        accepted := (d.grotto g).accepted ++ [(page / unitPages, n / unitPages)] } } then d
      else d.setGrotto g { d.grotto g with accepted := (d.grotto g).accepted ++ [(page / unitPages, n / unitPages)] }).ropePlaced p q).after) :=
  if_neg (Dev.mapChangeIn_taken hcopy hfresh)

end Taken

theorem filter_sum_le {α : Type} (v : α → Nat) (keep : α → Bool) (l : List α) : ((l.filter keep).map v).sum ≤ (l.map v).sum := by
  induction l with
  | nil => exact Nat.le_refl _
  | cons x l ih =>
    rw [List.filter_cons, List.map_cons, List.sum_cons]
    split
    · rw [List.map_cons, List.sum_cons]
      exact Nat.add_le_add_left ih _
    · exact Nat.le_trans ih (Nat.le_add_left _ _)

/-- Lines that leave the near cache leave a still device still. -/
theorem Dev.Still.filtered (h : d.Still) (keep : Nat → Bool) : (d.ncFilter keep).Still where
  resume := h.resume
  snoops := h.snoops
  lost e he := h.lost e ((List.mem_filter.mp he).1)
  hold := by
    have hless : (d.ncFilter keep).holdLoad ≤ d.holdLoad := by
      unfold Dev.holdLoad
      exact Nat.add_le_add_right (Nat.add_le_add_right (filter_sum_le _ _ d.slices.nc) _) _
    have hlimit := of_decide_eq_false h.hold
    exact decide_eq_false fun hover => hlimit (Nat.lt_of_lt_of_le hover (Nat.add_le_add_right hless 0))
  dying := h.dying
  misses := h.misses
  frames := h.frames
  rebuilds := h.rebuilds
  discards := h.discards
  asking := h.asking
  surplus := h.surplus
  armed := h.armed
  writes := h.writes
  owed := h.owed
  unsent := h.unsent

/-- The key table has no part in what is due. -/
theorem Dev.Still.keyed (h : d.Still) (keys : AMap (BitVec 512)) : ({ d with keys := keys } : Dev).Still :=
  ⟨h.resume, h.snoops, h.lost, h.hold, h.dying, h.misses, h.frames, h.rebuilds, h.discards, h.asking, h.surplus, h.armed, h.writes, h.owed, h.unsent⟩

theorem mget_merase_merase {α : Type} {t : AMap α} (ht : risingFrom 0 t = true) (a b : Nat) :
    mget (merase (merase t a) b) a = none ∧ mget (merase (merase t a) b) b = none := by
  have hrest := merase_rising t 0 a ht
  rw [mget_merase _ 0 b a hrest, mget_merase _ 0 b b hrest, mget_merase t 0 a a ht]
  simp

end MapChange

end Sys2Proof.Machine
end

section
/-!
PROOFS. Placement reports, rope reads and rope control arrive (R452, R455, R457, R460).
-/
namespace Sys2Proof.Machine

/-! ### Placement reports (R452) -/

section Placement
variable {d : Dev} {p : Nat} {q : BitVec 32} {m : EvMsg} {r : Req} {h : MemHdr}

/-- A live host is told that its write is done. -/
theorem Dev.answerWrite_host (hwho : r.who = .host h) (hlive : d.linkLive h.link = true) :
    ∃ k : Counters, d.answerWrite r = { d with cnt := k, out := d.out ++ [{ msg := .memCmp h, source := (d.link h.link).pbr }] } := by
  unfold Dev.answerWrite
  rw [hwho]
  dsimp only
  rw [if_pos hlive]
  exact ⟨_, rfl⟩

theorem Dev.pumpRebuild_none (htodo : d.ev.rope.todo = []) (n : Nat) : d.pumpRebuild n = d := by
  cases n with
  | zero => rfl
  | succ n =>
    unfold Dev.pumpRebuild
    rw [htodo]

theorem Dev.checkRebuilds_none (hrebuilds : d.ev.rope.rebuilds = []) : d.checkRebuilds = d := by
  unfold Dev.checkRebuilds
  dsimp only
  rw [hrebuilds]
  rfl

theorem Dev.retrySlots_none (hslots : d.slices.slotWait = []) : d.retrySlots = d := by
  unfold Dev.retrySlots
  rw [hslots]
  show ({ d with slices := { d.slices with slotWait := [] } } : Dev) = d
  rw [← hslots]

/-- The mirror messages that a report does not cover. -/
def Dev.unplacedDrop (d : Dev) (p : Nat) (q : BitVec 32) : Dev := d.onRope fun r => { r with unplaced := r.unplaced.filter fun e => !(e.1 == p && seqCovered e.2.1 q) }

/-- The one write that waits for its mirror copy completes when the copy is reported placed. -/
theorem Dev.placedUpTo_host (hstill : d.Still) (hwait : d.pages.mirrorWait = [(p, q, r)]) (hwho : r.who = .host h) (hwrite : ∃ mask y np, r.op = .write mask y np)
    (hlive : d.linkLive h.link = true) (hunplaced : d.ev.rope.unplaced = [(p, q, m)]) (hrebuilds : d.ev.rope.rebuilds = []) (htodo : d.ev.rope.todo = [])
    (hslots : d.slices.slotWait = []) :
    ∃ k, d.placedUpTo p q = { d with
      cnt := k, out := d.out ++ [{ msg := .memCmp h, source := (d.link h.link).pbr }], pages := { d.pages with mirrorWait := [] }
      ev := { d.ev with rope := { d.ev.rope with unplaced := [] } } } := by
  obtain ⟨mask, y, np, hop⟩ := hwrite
  have hcovered : seqCovered q q = true := by simp [seqCovered]
  obtain ⟨k, hk⟩ := Dev.answerWrite_host (d := d.onPages fun x => { x with mirrorWait := [] }) hwho hlive
  have hreleased : d.releaseMirror (fun e => e.1 == p && seqCovered e.2.1 q) = (d.onPages fun x => { x with mirrorWait := [] }).answerWrite r := by
    unfold Dev.releaseMirror Dev.onPages
    dsimp only
    rw [hwait]
    simp only [List.filter_cons, List.filter_nil, beq_self_eq_true, hcovered, Bool.and_self, if_true, Bool.not_true, Bool.false_eq_true, if_false, List.foldl_cons,
      List.foldl_nil]
    unfold Dev.placedReq
    rw [hop]
  have hnone : d.ev.rope.unplaced.filter (fun e => !(e.1 == p && seqCovered e.2.1 q)) = [] := by
    rw [hunplaced]
    simp [hcovered]
  have hplaced : (d.unplacedDrop p q).ev.rope = { d.ev.rope with unplaced := [] } := congrArg (fun l => { d.ev.rope with unplaced := l }) hnone
  obtain ⟨t, ht⟩ : ∃ t : Dev, t = { d with
      cnt := k, out := d.out ++ [{ msg := .memCmp h, source := (d.link h.link).pbr }], pages := { d.pages with mirrorWait := [] }
      ev := { d.ev with rope := { d.ev.rope with unplaced := [] } } } := ⟨_, rfl⟩
  have htell : ((d.onPages fun x => { x with mirrorWait := [] }).answerWrite r).unplacedDrop p q = t := by
    rw [hk, ht, ← hplaced]
    rfl
  refine ⟨k, ?_⟩
  rw [← ht]
  unfold Dev.placedUpTo
  rw [hreleased]
  change ((((((d.onPages fun x => { x with mirrorWait := [] }).answerWrite r).unplacedDrop p q).pumpRebuild evFuel).checkRebuilds.retrySlots).after) = t
  rw [htell, Dev.pumpRebuild_none (by rw [ht]; exact htodo), Dev.checkRebuilds_none (by rw [ht]; exact hrebuilds), Dev.retrySlots_none (by rw [ht]; exact hslots)]
  refine Dev.after_still t ?_
  rw [ht]
  exact ⟨hstill.resume, hstill.snoops, hstill.lost, hstill.hold, hstill.dying, hstill.misses, hstill.frames, hstill.rebuilds, hstill.discards, hstill.asking,
    hstill.surplus, hstill.armed, hstill.writes, hstill.owed, hstill.unsent⟩

end Placement

/-! ### Data of a rope read (R457) -/

/-- The data of the one read that the partner was asked for reaches the reader. -/
theorem Dev.ropeDataIn_reader {d : Dev} {p : Nat} {m : LineMsg} {f : FarReq} (hfars : d.pages.fars = [f]) (hrope : f.rope = true) (hport : f.port = p)
    (htag : f.tag = m.tag) (hg : f.req.g = m.grotto) (hline : f.req.line = m.line) (hop : f.req.op = .readS ∨ f.req.op = .readE ∨ f.req.op = .readI) :
    d.ropeDataIn p m = (((if m.poison then (d.onPages fun k => { k with fars := [] }).contain 0x1003 (unitEv p) 2 m.grotto m.line 2
      else d.onPages fun k => { k with fars := [] }).answerRead f.req (d.unsealed m) m.poison).after) := by
  have hfind : d.pages.fars.find? (fun f => f.rope && f.port == p && f.tag == m.tag && f.req.g == m.grotto && f.req.line == m.line) = some f := by
    rw [hfars]
    simp [hrope, hport, htag, hg, hline]
  have herase : d.onPages (fun k => { k with fars := k.fars.erase f }) = d.onPages fun k => { k with fars := [] } := by
    have hnone : d.pages.fars.erase f = [] := by
      rw [hfars]
      simp
    exact congrArg (fun l => ({ d with pages := { d.pages with fars := l } } : Dev)) hnone
  unfold Dev.ropeDataIn
  rw [hfind]
  dsimp only
  rw [herase]
  obtain h | h | h := hop <;> rw [h]

/-! ### Rope control (R455, R458) -/

section Alone
variable {K : AMap (BitVec 512)} {P : Prop} {A : Option (BitVec 32 × Bool)} {d : Dev}

theorem Dev.Kept.placedReq (h : d.Kept K P A) {r : Req} : (d.placedReq r).Kept K P A := by
  unfold Dev.placedReq
  split
  · exact h.pages _
  · exact h.answerWrite

theorem Dev.Kept.tell (h : d.Kept K P A) {q : Nat} {pos : BitVec 32} {f : Result → Result} : (d.tell q pos f).Kept K P A := by
  unfold Dev.tell
  split
  · exact h.onQueues
  · exact h

theorem Dev.Kept.dropPartner (h : d.Kept K P A) : d.dropPartner.Kept K P A := by
  unfold Dev.dropPartner
  extract_lets flying ps d1 d2
  have hd1 : d1.Kept K P A := h.onPages.onRope
  have hd2 : d2.Kept K P A := by
    refine hd1.foldl fun e y he => ?_
    extract_lets e1 w e2
    have he1 : e1.Kept K P A := by
      dsimp only [e1]
      split
      · exact he.hold.freeFrame
      · exact he
    have he2 : e2.Kept K P A := by
      clear_value e1
      dsimp only [e2]
      split
      · exact he1.containPage
      · split
        · split
          · exact he1.toSource
          · exact he1
        · exact he1.releaseBacking.turn.containPage
    exact he2.againAll
  clear_value d2
  refine hd2.foldl fun e y he => ?_
  split
  · exact he
  · exact he
  · exact he.again

/-- What a rope that ends keeps of its formation, and the messages that it gives up. -/
def Dev.ropeEnd (d : Dev) : Nat × List (Nat × BitVec 32 × EvMsg) × BitVec 32 × Bool :=
  (d.ev.rope.state, d.ev.rope.unplaced, d.ev.rope.markEpoch, d.ev.rope.wasSynced)

theorem Dev.markUnplaced_ropeEnd (d : Dev) (r : Rope) : (d.markUnplaced r).ropeEnd = d.ropeEnd := by
  unfold Dev.markUnplaced
  refine foldl_view Dev.ropeEnd _ (fun e y => ?_) r.unplaced d
  split
  · rfl
  · unfold Dev.markPages
    split
    · rfl
    · rfl
  · rfl

/-- A synced or rebuilding rope whose partner leaves it is alone, with nothing that waits for the partner, and stays so. -/
theorem Dev.ropeAlone_view (d : Dev) (cause : Nat) (hstate : d.ev.rope.state = 1 ∨ d.ev.rope.state = 2) :
    (d.ropeAlone cause).ropeView = (3, [], d.ev.rope.epoch, decide (d.ev.rope.state = 1), []) := by
  unfold Dev.ropeAlone
  extract_lets r d1 d2 d3 d4 d5
  rw [if_neg (show ¬(d.ev.rope.state = 0 ∨ d.ev.rope.state = 3) by omega)]
  have hd1 : d1.ropeEnd = (3, [], d.ev.rope.epoch, decide (d.ev.rope.state = 1)) := rfl
  have hraised (e : Dev) (x : Hap) : (e.raise x).ropeEnd = e.ropeEnd := congrArg (fun y : Evoil => (y.rope.state, y.rope.unplaced, y.rope.markEpoch, y.rope.wasSynced))
    (e.raise_keeps x).ev
  have hd3 : d3.ropeEnd = (3, [], d.ev.rope.epoch, decide (d.ev.rope.state = 1)) := (d2.markUnplaced_ropeEnd r).trans ((hraised d1 _).trans hd1)
  clear_value d3
  have hstart : (d3.onPages fun x => { x with mirrorWait := x.mirrorWait.filter fun e => !(fun _ : Nat × BitVec 32 × Req => true) e }).Kept d3.keys False
      (some (d.ev.rope.epoch, decide (d.ev.rope.state = 1))) := ⟨rfl, False.elim, fun w hw => by
    obtain rfl := Option.some.inj hw
    unfold Dev.ropeEnd at hd3
    simp only [Prod.mk.injEq] at hd3
    obtain ⟨hthree, hunplaced, hepoch, hsynced⟩ := hd3
    unfold Dev.ropeView Dev.onPages
    dsimp only
    rw [hthree, hunplaced, hepoch, hsynced]
    simp⟩
  have hd4 : d4.Kept d3.keys False (some (d.ev.rope.epoch, decide (d.ev.rope.state = 1))) := (hstart.foldl fun _ _ he => he.placedReq).dropPartner
  have hd5 : d5.Kept d3.keys False (some (d.ev.rope.epoch, decide (d.ev.rope.state = 1))) := by
    clear_value d4
    dsimp only [d5]
    split
    · exact hd4.tell
    · exact hd4
  clear_value d5
  exact hd5.onRope.retrySlots.after.alone _ rfl

end Alone

end Sys2Proof.Machine
end

section
/-!
PROOFS. The messages of a rope, each the only one of its flit (R427, R436, R447, R449, R451 to R453, R455, R457, R460).
-/
namespace Sys2Proof.Machine

section Port
variable (d : Dev) (p : Nat) (y : EvPort)

@[simp] theorem Dev.setEv_rope : (d.setEv p y).ev.rope = d.ev.rope := by
  unfold Dev.setEv
  split <;> rfl

theorem Dev.setEv_told : (d.setEv p y).slices = d.slices ∧ (d.setEv p y).links = d.links ∧ (d.setEv p y).power = d.power ∧ (d.setEv p y).out = d.out := by
  unfold Dev.setEv
  split <;> exact ⟨rfl, rfl, rfl, rfl⟩

end Port

/-- What the rope makes of a control message, by its action. -/
def Dev.controlled (d : Dev) (p g c n : Nat) (k0 k1 : BitVec 14) : Nat → Dev
  | 0 => d.pairIn p g c n k0 k1
  | 1 => d.ropeAlone 2
  | 2 => d.onRope fun r => { r with copies := merase r.copies g }
  | 3 => d.onRope fun r => { r with copies := mset r.copies g r.epoch }
  | _ => d

/-- A control message alone in its flit. -/
theorem exec_ropeControl {s : State} {p a g c n : Nat} {k0 k1 : BitVec 14} {rest : List (List EvMsg)} (hp : p < 2) (hawake : s.dev.awake = true)
    (hrx : (s.dev.evPort p).rxq = [.ropeControl a g c n k0 k1] :: rest) (hcur : (s.dev.evPort p).cur = []) :
    exec (.ropeControl p) s = .next ({ s with dev :=
      (s.dev.setEv p { s.dev.evPort p with rxq := rest, freed := (s.dev.evPort p).freed + 1 }).controlled p g c n k0 k1 a } : State).payDue := by
  have hhandled := Dev.handle_plain (d := s.dev) (f := fun d m => match m with
    | .ropeControl a g c e k0 k1 => some (match a with
      | 0 => d.pairIn p g c e k0 k1
      | 1 => d.ropeAlone 2
      | 2 => d.onRope fun r => { r with copies := merase r.copies g }
      | 3 => d.onRope fun r => { r with copies := mset r.copies g r.epoch }
      | _ => d)
    | _ => none) (t := (s.dev.setEv p { s.dev.evPort p with rxq := rest, freed := (s.dev.evPort p).freed + 1 }).controlled p g c n k0 k1 a) hp hawake hrx hcur rfl rfl
  exact congrArg (fun e => Host.Outcome.next (State.payDue { s with dev := e })) hhandled

/-- Settles O49: each message is the only one of its flit, so that the port takes it, and what the rope does with it is its function's meaning; nothing that is due
afterwards brings keys back or gives a rope that is alone anything to wait for. -/
theorem ropeMessages : Obligations.RopeMessages := by
  intro s p rest hp hawake d x got e held
  refine ⟨?hello, ?badHello, ?mirror, ?change, ?placement, ?read, ?data, ?control⟩
  case hello =>
    rintro member pool rope epoch hmember ⟨hrx, hcur⟩ hstill
    obtain ⟨t, ht, hsent, hpeer⟩ := Dev.helloIn_known (d := e) (p := p) (pool := pool) (rope := rope) (epoch := epoch) hmember
    have hsentd : d.Sent t := (d.setEv_sent p _).trans hsent
    have hknown : (e.evPort p).peerSession = x.peerSession := by
      show ((d.setEv p _).evPort p).peerSession = _
      rw [Dev.evPort_setEv]
    rw [hknown] at ht
    have hhandled := Dev.handle_plain (f := fun d m => match m with
      | .hello n mb pool rope e ss => some (d.helloIn p n mb pool rope e ss)
      | _ => none) hp hawake hrx hcur rfl (congrArg some ht)
    unfold EvPort.peer at hpeer
    simp only [Prod.mk.injEq] at hpeer
    obtain ⟨hgot, hmemb, hpool, hrope, hepoch⟩ := hpeer
    exact ⟨t, exec_dev rfl (hhandled.trans (Dev.after_still t (hsentd.still hstill))), hgot, hmemb, hpool, hrope, hepoch, hsentd.mem, hsentd.grottos⟩
  case badHello =>
    rintro n member pool rope epoch session hbad ⟨hrx, hcur⟩
    have hdown : e.helloIn p n member pool rope epoch session = e.portDown p 0 true := if_pos (by simpa using hbad)
    exact exec_dev rfl (Dev.handle_plain hp hawake hrx hcur rfl (congrArg some hdown))
  case mirror =>
    rintro m ⟨hrx, hcur⟩ h
    have hh : (held m.seq).mirrorCounted p m = h := rfl
    have hsame : (held m.seq).grotto m.grotto = d.grotto m.grotto ∧ (held m.seq).freshSeq p m.resent m.seq = d.freshSeq p m.resent m.seq ∧
        (held m.seq).unsealed m = d.unsealed m := ⟨d.setEv_grotto p _ _, d.setEv_freshSeq p _ _ _ _, d.setEv_unsealed p _ _⟩
    obtain ⟨hgrotto, hseq, hdata⟩ := hsame
    refine ⟨fun hcopy hfresh => ?_, fun hnot => ?_⟩
    · have hin := Dev.mirrorIn_placed (d := held m.seq) (p := p) (hgrotto ▸ hcopy) (hseq ▸ hfresh)
      rw [hgrotto, hdata, hh] at hin
      exact exec_dev rfl (Dev.handle_sequenced hp hawake hrx hcur rfl (congrArg some hin))
    · have hin := Dev.mirrorIn_reported (d := held m.seq) (p := p) (m := m) (by rw [hgrotto, hseq]; exact hnot)
      exact exec_dev rfl (Dev.handle_sequenced hp hawake hrx hcur rfl (congrArg some hin))
  case change =>
    intro n g page q y fresh empty
    have hgrotto : (held q).grotto g = y := d.setEv_grotto p _ _
    have hfreshq : (held q).freshSeq p ((held q).crossed p g page) q = fresh := by
      rw [show (held q).crossed p g page = d.crossed p g page from d.setEv_crossed p _ _ _ _]
      exact d.setEv_freshSeq p _ _ _ _
    refine ⟨?reported, ?unbacks, ?releases, ?takes, ?keys⟩
    case reported =>
      rintro hnot a ⟨hrx, hcur⟩
      have hin := Dev.mapChangeIn_reported (d := held q) (p := p) (n := n) (by rw [hgrotto, hfreshq]; exact hnot) a
      exact exec_dev rfl (Dev.handle_sequenced hp hawake hrx hcur rfl (congrArg some hin))
    case unbacks =>
      rintro hcopy hfresh ⟨hrx, hcur⟩
      have hin := Dev.mapChangeIn_unbacks (d := held q) (n := n) (hgrotto ▸ hcopy) (hfreshq ▸ hfresh)
      rw [hgrotto] at hin
      exact exec_dev rfl (Dev.handle_sequenced hp hawake hrx hcur rfl (congrArg some hin))
    case releases =>
      rintro hcopy hfresh ⟨hrx, hcur⟩
      have hin := Dev.mapChangeIn_releases (d := held q) (n := n) (hgrotto ▸ hcopy) (hfreshq ▸ hfresh)
      rw [hgrotto] at hin
      exact exec_dev rfl (Dev.handle_sequenced hp hawake hrx hcur rfl (congrArg some hin))
    case takes =>
      rintro hcopy hfresh ⟨hrx, hcur⟩
      have hin := Dev.mapChangeIn_takes (d := held q) (n := n) (hgrotto ▸ hcopy) (hfreshq ▸ hfresh)
      rw [hgrotto, show (held q).grottos = d.grottos from d.setEv_grottos p _] at hin
      exact exec_dev rfl (Dev.handle_sequenced hp hawake hrx hcur rfl (congrArg some hin))
    case keys =>
      rintro hcopy hfresh ⟨hrx, hcur⟩
      have hin := Dev.mapChangeIn_keys (d := held q) (n := n) (hgrotto ▸ hcopy) (hfreshq ▸ hfresh)
      have hheld : d.Sent (held q) := d.setEv_sent p _
      rw [hgrotto, hheld.keys] at hin
      refine ⟨_, exec_dev rfl (Dev.handle_sequenced hp hawake hrx hcur rfl (congrArg some hin)), fun hrising => ?gone, fun hstill => ?rest⟩
      case gone =>
        rw [Dev.after_keys, (Dev.ropePlaced_sent _ p q).keys]
        exact mget_merase_merase hrising _ _
      case rest =>
        have hkeyed := (((hheld.still hstill).filtered fun k => match (held q).grotto? (keyGrotto k) with
          | some u => u.keyOf (pageOf (keyLine k)) != y.keyId
          | none => true).filtered fun k => match ((held q).dropKeyed y.keyId).grotto? (keyGrotto k) with
          | some u => u.keyOf (pageOf (keyLine k)) != y.elasticKeyId
          | none => true).keyed (merase (merase d.keys y.keyId) y.elasticKeyId)
        have hplaced := Dev.ropePlaced_sent { ((held q).dropKeyed y.keyId).dropKeyed y.elasticKeyId with keys := merase (merase d.keys y.keyId) y.elasticKeyId } p q
        rw [Dev.after_still _ (hplaced.still hkeyed), hplaced.grottos, hplaced.mem]
        exact ⟨hheld.grottos, hheld.mem⟩
  case placement =>
    rintro q m r h ⟨hrx, hcur⟩ hwait hwho hwrite hlive hunplaced hrebuilds htodo hslots hstill
    have hsent : d.Sent e := d.setEv_sent p _
    have hrope : e.ev.rope = d.ev.rope := d.setEv_rope p _
    obtain ⟨hslices, hlinks, hpower, hout⟩ := d.setEv_told p { x with rxq := rest, freed := x.freed + 1 }
    have hlink : e.link h.link = d.link h.link := congrArg (fun l : AMap Link => mgetD l h.link {}) hlinks
    obtain ⟨k, hk⟩ := Dev.placedUpTo_host (d := e) (p := p) (q := q) (m := m) (hsent.still hstill) (by rw [d.setEv_pages]; exact hwait) hwho hwrite
      (by rw [← hlive, Dev.linkLive, Dev.linkLive, hlink, hpower]) (by rw [hrope]; exact hunplaced) (by rw [hrope]; exact hrebuilds) (by rw [hrope]; exact htodo)
      (by rw [hslices]; exact hslots)
    refine ⟨_, exec_dev rfl (Dev.handle_plain hp hawake hrx hcur rfl (congrArg some hk)), ?_, rfl, rfl, hsent.mem, hslices⟩
    show e.out ++ [{ msg := .memCmp h, source := (e.link h.link).pbr }] = _
    rw [hlink, hout]
  case read =>
    rintro whole tag g line ⟨hrx, hcur⟩
    have hin : e.ropeReadIn p whole tag g line = (((if whole then (List.range 64).map fun i => line / 64 * 64 + i else [line]).foldl
        (fun (k : Dev) n => k.again 1 { who := .ropeRead p tag, src := 161 + p, g := g, line := n, op := .readI, cls := (d.grotto g).cls }) e).after) := by
      rw [← d.setEv_grotto p { x with rxq := rest, freed := x.freed + 1 } g]
      rfl
    exact exec_dev rfl (Dev.handle_plain hp hawake hrx hcur rfl (congrArg some hin))
  case data =>
    rintro m f ⟨hrx, hcur⟩ hfars hrope hport htag hg hline hop k
    have hin := Dev.ropeDataIn_reader (d := e) (by rw [d.setEv_pages]; exact hfars) hrope hport htag hg hline hop
    rw [show e.unsealed m = d.unsealed m from d.setEv_unsealed p _ _] at hin
    exact exec_dev rfl (Dev.handle_plain hp hawake hrx hcur rfl (congrArg some hin))
  case control =>
    intro g c n k0 k1
    refine ⟨fun ⟨hrx, hcur⟩ => exec_ropeControl hp hawake hrx hcur, fun ⟨hrx, hcur⟩ => exec_ropeControl hp hawake hrx hcur,
      fun ⟨hrx, hcur⟩ hstate _ _ _ => ⟨_, exec_ropeControl hp hawake hrx hcur, ?_⟩⟩
    have hrope : e.ev.rope = d.ev.rope := d.setEv_rope p _
    have hview := e.ropeAlone_view 2 (by rw [hrope]; exact hstate)
    rw [hrope] at hview
    unfold Dev.ropeView at hview
    simp only [Prod.mk.injEq] at hview
    obtain ⟨hthree, hunplaced, hepoch, hsynced, hwaits⟩ := hview
    exact ⟨hthree, hepoch, hsynced, hunplaced, hwaits⟩

end Sys2Proof.Machine
end
